-- ==== Sys2Proof/Word.lean ====
section
/-! DEFINITION. The plain data types every file of the model uses: a byte, and a table of sparse entries. -/

namespace Sys2Proof

/-- One byte of a wire or memory format (R9, R10). -/
abbrev Byte := BitVec 8

/-- A sparse table: entries at rising keys; a key that is not listed reads as the default its user names. -/
abbrev Tab (α : Type) := List (Nat × α)

end Sys2Proof
end

