-- ==== Sys2Proof/Syntax.lean ====
section
/-! DEFINITION. The commands of the block: one constructor per row of the command table, and the data their operands are made of. Every command
carries as its first operand the time since the command before it, in half nanoseconds (log entry 1). -/

namespace Sys2Proof

/-- What every FOP request carries beside its body (Table 16-1, R430): the lane it arrived on (0 SL0, 1 SL1, 2 tunnelled over the ring), its
source address (IPv6 or IPv4-mapped) and UDP port, TARGET_NODE, TARGET_SERIAL, SESSION, SEQ, and TAG as a 256-bit little-endian number. -/
structure FopEnv where
  lane : Nat
  ip : Nat
  port : Nat
  node : Nat
  serial : Nat
  session : Nat
  seq : Nat
  tag : Nat
  deriving DecidableEq, Repr


/-- What stepper axis STn sampled in a PWM period (R339, R341): VBUS in mV, the phase currents in mA, the signed phase currents at the end of step 1 of
R341, and whether a phase read at its amplifier's limit. -/
structure BridgeSample where
  st : Nat
  vbus : Nat
  iA : Int
  iB : Int
  endA : Int
  endB : Int
  limA : Bool
  limB : Bool
  deriving DecidableEq, Repr

/-- A failing bit found by a memory test (R541): the memory (its MEM_RESULT subindex less 1), the byte offset of the word, the bit (64 to 71 are check
bits), the background. -/
structure BistFail where
  mem : Nat
  off : Nat
  bit : Nat
  bg : Nat
  deriving DecidableEq, Repr

/-- The outcome of an analogue or loop-back check (Table 21-2): its ANALOG_RESULT subindex less 1, the worst error in ppm of full scale or in bit
errors, and whether what the check tests beside that error passed. -/
structure BistCheck where
  idx : Nat
  err : Int
  rest : Bool
  deriving DecidableEq, Repr

/-- A change on inputs of a channel: their level before it, and their level once it has held for the filter interval. -/
structure Change where
  before : Nat
  after : Nat
  deriving DecidableEq, Repr

/-- Code groups a port's lane has received: ten bits each, bit a the highest. -/
structure LaneRx where
  port : Nat
  groups : List Nat
  deriving DecidableEq, Repr

/-- Wrong parity found in an island: of a register (R524), or of a word that came over a crossing (R522). -/
structure ParityFail where
  island : Nat
  crossing : Bool
  deriving DecidableEq, Repr

/-- The commands. -/
inductive Instr where
  /-- FT_STEP (R25). The request and the value written. -/
  | ftStep (dt : Nat) (env : FopEnv) (ns : Nat)
  /-- CHANNEL_MODE_WRITE (R28). The request, the channel, the value written. -/
  | channelModeWrite (dt : Nat) (env : FopEnv) (ch mode : Nat)
  /-- QUAD_TRANSITION (R29). The channel, and the change of A and of B (one of them may stand). -/
  | quadTransition (dt : Nat) (ch : Nat) (a b : Change)
  /-- HALL_TRANSITION (R30). The channel, and the change of the state U:V:W, U in bit 2. -/
  | hallTransition (dt : Nat) (ch : Nat) (uvw : Change)
  /-- SSI_SAMPLE (R31). The channel, the data bits read, the start, parity and error bits. -/
  | ssiSample (dt : Nat) (ch raw : Nat) (start parity err : Bool)
  /-- SIGNAL_LOSS (R32). -/
  | signalLoss (dt : Nat) (ch : Nat)
  /-- SIGNAL_RETURN (R32). -/
  | signalReturn (dt : Nat) (ch : Nat)
  /-- Z_INDEX (R33). -/
  | zIndex (dt : Nat) (ch : Nat)
  /-- EST_ZERO_TIMEOUT (R39). -/
  | estZeroTimeout (dt : Nat) (ch : Nat)
  /-- TACK_PERIODIC (R44). -/
  | tackPeriodic (dt : Nat) (ch : Nat)
  /-- TACK_NOW (R44). -/
  | tackNow (dt : Nat) (env : FopEnv) (value : Nat)
  /-- PACE_SRC_WRITE (R47). The request; subindex 2 for PACE_AXIS, otherwise PACE_SRC; the value written. -/
  | paceSrcWrite (dt : Nat) (env : FopEnv) (sub value : Nat)
  /-- COMMANDED_TACK (R49). -/
  | commandedTack (dt : Nat)
  /-- TACK_STALE (R50). -/
  | tackStale (dt : Nat)
  /-- COLUMN_GATE (R79). -/
  | columnGate (dt : Nat) (port : Nat)
  /-- FRAME_TRANSMIT (R80). -/
  | frameTransmit (dt : Nat) (port : Nat)
  /-- STAGE_DEADLINE_MISS (R18). The port and the job column whose deadline passes. -/
  | stageDeadlineMiss (dt : Nat) (port col : Nat)
  /-- ROTATION_WRITE (R64). The request, the port, the first address written (counted from 0), the values. -/
  | rotationWrite (dt : Nat) (env : FopEnv) (port first : Nat) (vals : List Nat)
  /-- PHASE_GROUPS_WRITE (R77). -/
  | phaseGroupsWrite (dt : Nat) (env : FopEnv) (port v : Nat)
  /-- F_SET_WRITE (R76). -/
  | fSetWrite (dt : Nat) (env : FopEnv) (port v : Nat)
  /-- F_SET_ALL_WRITE (R78). -/
  | fSetAllWrite (dt : Nat) (env : FopEnv) (v : Nat)
  /-- PULSE_VALIDATION_DONE (R77). -/
  | pulseValidationDone (dt : Nat) (port : Nat)
  /-- SPIT_RUN (R85). -/
  | spitRun (dt : Nat) (env : FopEnv) (v : Nat)
  /-- SPIT_COLUMN_CLOCK (R85). -/
  | spitColumnClock (dt : Nat)
  /-- SPIT_ABORT (R85). -/
  | spitAbort (dt : Nat) (env : FopEnv) (v : Nat)
  /-- BOBBIN_UNIT_START (R93). 0, or an error met in a table read: 1 corrected, 2 uncorrectable (R118). -/
  | bobbinUnitStart (dt : Nat) (ecc : Nat)
  /-- BOBBIN_UNIT_DONE (R94). -/
  | bobbinUnitDone (dt : Nat)
  /-- BOBBIN_LATE (R94). -/
  | bobbinLate (dt : Nat) (port col : Nat)
  /-- BOBBIN_LOAD_WINDOW (R96). -/
  | bobbinLoadWindow (dt : Nat)
  /-- STATS_CLEAR (R96). -/
  | statsClear (dt : Nat) (env : FopEnv) (v : Nat)
  /-- BOBBIN_TABLE_WRITE (R106). The request; the table, in the order of R106 (0 K_CAL, 1 HIST, 2 NBR, 3 E_DIE, 4 K_ROW, 5 EPT, 6 WEAK_TRIM, 7 THERM_COEF, 8 T_REF, 9 K_THERM_MIN, 10 K_THERM_MAX); which of its indexes, the first element, the values. -/
  | bobbinTableWrite (dt : Nat) (env : FopEnv) (table inst first : Nat) (vals : List Nat)
  /-- MODEL_PARAM_WRITE (R107). The request; A_DECAY or G_E; the port, the value. -/
  | modelParamWrite (dt : Nat) (env : FopEnv) (decay : Bool) (port v : Nat)
  /-- MODEL_STEP (R108). -/
  | modelStep (dt : Nat)
  /-- PORT_ENABLE_SET (R145). -/
  | portEnableSet (dt : Nat) (env : FopEnv) (port : Nat)
  /-- PORT_DISABLE (R145). -/
  | portDisable (dt : Nat) (env : FopEnv) (port : Nat)
  /-- PORT_BRINGUP_START (R145). -/
  | portBringupStart (dt : Nat)
  /-- HP_SETTLE_EXPIRY (R145). -/
  | hpSettleExpiry (dt : Nat) (port : Nat)
  /-- LANE_TRAINED (R145). -/
  | laneTrained (dt : Nat) (port : Nat)
  /-- TRAIN_TIMEOUT (R145). -/
  | trainTimeout (dt : Nat) (port : Nat)
  /-- ECHO_RECEIVED (R127). The port, the round trip in half ns, the frame. -/
  | echoReceived (dt : Nat) (port rtt : Nat) (bytes : List Byte)
  /-- STATUS_RECEIVED (R135). The port and the frame. -/
  | statusReceived (dt : Nat) (port : Nat) (bytes : List Byte)
  /-- ACK_TIMEOUT (R136). -/
  | ackTimeout (dt : Nat) (port : Nat)
  /-- STATUS_TIMEOUT (R137). -/
  | statusTimeout (dt : Nat) (port : Nat)
  /-- LINK_CODE_ERRORS (R123, R145). What the port has received, with code errors in it. -/
  | linkCodeErrors (dt : Nat) (rx : LaneRx)
  /-- RETRAIN_TIMEOUT (R145). -/
  | retrainTimeout (dt : Nat) (port : Nat)
  /-- TIME_PERIOD_EXPIRY (R128). -/
  | timePeriodExpiry (dt : Nat) (port : Nat)
  /-- SB_RESPONSE (R139). The port and the frame. -/
  | sbResponse (dt : Nat) (port : Nat) (bytes : List Byte)
  /-- SB_TIMEOUT (R139). -/
  | sbTimeout (dt : Nat) (port : Nat)
  /-- SB_PENDING_RETRY (R138). -/
  | sbPendingRetry (dt : Nat) (port : Nat)
  /-- PORT_RESET (R150). -/
  | portReset (dt : Nat) (env : FopEnv) (port v : Nat)
  /-- TABLE_LOAD (R150). -/
  | tableLoad (dt : Nat) (env : FopEnv) (port v : Nat)
  /-- MEAS_REQ (R155). -/
  | measReq (dt : Nat) (env : FopEnv) (mask : Nat)
  /-- MEAS_REQ_JS (R155). -/
  | measReqJs (dt : Nat) (env : FopEnv) (mask : Nat)
  /-- MEAS_SERVICE (R156). The front-end channel, and the reading of its reference resistor in Q16.16 ohm (R174). -/
  | measService (dt : Nat) (chan ref : Nat)
  /-- TSR_SETTLE_DONE (R156). -/
  | tsrSettleDone (dt : Nat) (chan : Nat)
  /-- TSR_INTEGRATION_DONE (R157). The channel, and the mean sense voltage over the window in pV. -/
  | tsrIntegrationDone (dt : Nat) (chan volt : Nat)
  /-- JS_CONVERSION_DONE (R160). Temperatures in Q8.8 and codes of JS0 to JS15; those not converted are ignored. -/
  | jsConversionDone (dt : Nat) (temps : List Int) (codes : List Nat)
  /-- SWEEP_REQ (R169). -/
  | sweepReq (dt : Nat) (env : FopEnv) (mask : Nat)
  /-- SWEEP_START (R169). The channel, and the reading of its reference resistor in Q16.16 ohm. -/
  | sweepStart (dt : Nat) (chan ref : Nat)
  /-- SWEEP_DWELL_END (R170). The channel, and the sense voltage over the nozzle's integration in pV. -/
  | sweepDwellEnd (dt : Nat) (chan volt : Nat)
  /-- SWEEP_CANCEL (R171). -/
  | sweepCancel (dt : Nat) (env : FopEnv) (v : Nat)
  /-- BASELINE (R170). -/
  | baseline (dt : Nat) (env : FopEnv) (mask : Nat)
  /-- DRY_CLEAR (R165). -/
  | dryClear (dt : Nat) (env : FopEnv) (mask : Nat)
  /-- NOZZLE_MAP_WRITE (R167). The request, the first Nozzle ID, the bytes. -/
  | nozzleMapWrite (dt : Nat) (env : FopEnv) (first : Nat) (vals : List Nat)
  /-- JUNCTION_TRIP (R172). -/
  | junctionTrip (dt : Nat)
  /-- HSV_SAMPLE (R173). The input and its voltage in mV. -/
  | hsvSample (dt : Nat) (input mv : Nat)
  /-- HEAD_STOP_STEP_ADVANCE (R163). -/
  | headStopStepAdvance (dt : Nat)
  /-- CAP_TIMEOUT (R163). -/
  | capTimeout (dt : Nat)
  /-- KEY_LOAD (R180). The request and the value of R180. -/
  | keyLoad (dt : Nat) (env : FopEnv) (bytes : List Byte)
  /-- KEY_REVOKE (R181). -/
  | keyRevoke (dt : Nat) (env : FopEnv) (slot : Nat)
  /-- COMMIT_PERIOD_EXPIRY (R187). -/
  | commitPeriodExpiry (dt : Nat) (port : Nat)
  /-- COMMIT_DROPS_REACHED (R187). -/
  | commitDropsReached (dt : Nat) (port : Nat)
  /-- COMMIT_NOW (R187). -/
  | commitNow (dt : Nat) (env : FopEnv) (mask : Nat)
  /-- LEAVE_COMMIT_TIMEOUT (R187). -/
  | leaveCommitTimeout (dt : Nat) (port : Nat)
  /-- THIMBLE_JOURNAL_TIMER (R188). The port, and whether the write of the entry fails. -/
  | thimbleJournalTimer (dt : Nat) (port : Nat) (fails : Bool)
  /-- THIM_RETRY (R183). -/
  | thimRetry (dt : Nat) (env : FopEnv) (mask : Nat)
  /-- ORPHAN_ACK (R189). -/
  | orphanAck (dt : Nat) (env : FopEnv) (v : Nat)
  /-- VERIFY_REQ (R190). The request, the port, Nv. -/
  | verifyReq (dt : Nat) (env : FopEnv) (port : Nat) (bytes : List Byte)
  /-- THIM_OVERDUE (R191). -/
  | thimOverdue (dt : Nat) (port : Nat)
  /-- COLUMN_ASSEMBLY (R217). The port whose next column is assembled; 0, or a memory error met: 1 corrected, 2 uncorrectable. -/
  | columnAssembly (dt : Nat) (port ecc : Nat)
  /-- MASK_GEOMETRY_WRITE (R209). The request; 0 PW, 1 PH, 2 PASSES; the mask set, the value. -/
  | maskGeometryWrite (dt : Nat) (env : FopEnv) (member set v : Nat)
  /-- MASK_DATA_WRITE (R209). -/
  | maskDataWrite (dt : Nat) (env : FopEnv) (set : Nat) (bytes : List Byte)
  /-- PAGE_START (R590). -/
  | pageStart (dt : Nat)
  /-- REQ_TAIL_WRITE (R238). -/
  | reqTailWrite (dt : Nat) (env : FopEnv) (dec v : Nat)
  /-- OUT_TAIL_WRITE (R241). -/
  | outTailWrite (dt : Nat) (env : FopEnv) (dec v : Nat)
  /-- DONE_TAIL_WRITE (R238). -/
  | doneTailWrite (dt : Nat) (env : FopEnv) (dec v : Nat)
  /-- DECODER_TAKE_REQUEST (R244). -/
  | decoderTakeRequest (dt : Nat) (dec : Nat)
  /-- DECODER_HEADER_DONE (R226). The decoder; 0, or a memory error met: 1 corrected, 2 uncorrectable; the device address of its word. -/
  | decoderHeaderDone (dt : Nat) (dec ecc errAddr : Nat)
  /-- DECODER_TABLE_DONE (R235). -/
  | decoderTableDone (dt : Nat) (dec ecc errAddr : Nat)
  /-- DECODE_CODE (R229). -/
  | decodeCode (dt : Nat) (dec ecc errAddr : Nat)
  /-- DECODER_BLOCK_END (R243). -/
  | decoderBlockEnd (dt : Nat) (dec : Nat)
  /-- DEC_ABORT (R244). -/
  | decAbort (dt : Nat) (env : FopEnv) (dec v : Nat)
  /-- PRESET_WRITE (R232). -/
  | presetWrite (dt : Nat) (env : FopEnv) (preset : Nat) (bytes : List Byte)
  /-- WINDOW_DISPATCH (R247). -/
  | windowDispatch (dt : Nat)
  /-- STREAM_OPEN (R257). -/
  | streamOpen (dt : Nat) (env : FopEnv)
  /-- STREAM_CLOSE (R257). -/
  | streamClose (dt : Nat) (env : FopEnv)
  /-- DATA_DATAGRAM (R259). The host port, the source address (16 bytes, first byte lowest) and UDP port, the UDP payload. -/
  | dataDatagram (dt : Nat) (lane src port : Nat) (bytes : List Byte)
  /-- ACK_PERIOD_EXPIRY (R261). -/
  | ackPeriodExpiry (dt : Nat)
  /-- RECORD_JOB_START (R270). -/
  | recordJobStart (dt : Nat)
  /-- RECORD_JOB_END (R265). -/
  | recordJobEnd (dt : Nat)
  /-- RECORD_PLANE_SETUP (R202). -/
  | recordPlaneSetup (dt : Nat)
  /-- RECORD_PAGE_START (R590). -/
  | recordPageStart (dt : Nat)
  /-- RECORD_LINE_MARK (R268). -/
  | recordLineMark (dt : Nat)
  /-- RECORD_PAGE_END (R268). -/
  | recordPageEnd (dt : Nat)
  /-- RECORD_BLOCK (R274). 0, or a memory error met: 1 corrected, 2 uncorrectable; the device address of its word. -/
  | recordBlock (dt : Nat) (ecc errAddr : Nat)
  /-- RECORD_MEASURE (R271). -/
  | recordMeasure (dt : Nat)
  /-- RECORD_SPIT_BAND (R271). -/
  | recordSpitBand (dt : Nat)
  /-- RECORD_MARK (R271). -/
  | recordMark (dt : Nat)
  /-- MEASURE_AT_COL (R271). -/
  | measureAtCol (dt : Nat)
  /-- DMA_ENABLE (R286). The channel is 16 × engine + channel. -/
  | dmaEnable (dt : Nat) (env : FopEnv) (ch : Nat)
  /-- DMA_DISABLE (R286). -/
  | dmaDisable (dt : Nat) (env : FopEnv) (ch : Nat)
  /-- DMA_TAIL_WRITE (R278). -/
  | dmaTailWrite (dt : Nat) (env : FopEnv) (ch v : Nat)
  /-- DMA_GRANT (R282). -/
  | dmaGrant (dt : Nat) (engine : Nat)
  /-- DMA_BURST (R283). The engine; a memory error met (1 corrected, 2 uncorrectable) and its word; collisions met in a row at a dual-port bank. -/
  | dmaBurst (dt : Nat) (engine ecc errAddr coll : Nat)
  /-- DMA_DESCRIPTOR_END (R280). -/
  | dmaDescriptorEnd (dt : Nat) (engine : Nat)
  /-- DMA_BUS_ERROR (R285). The engine, and whether the failing access writes. -/
  | dmaBusError (dt : Nat) (engine : Nat) (write : Bool)
  /-- DMA_RESUME (R285). -/
  | dmaResume (dt : Nat) (env : FopEnv) (ch v : Nat)
  /-- DMA_ABORT (R285). -/
  | dmaAbort (dt : Nat) (env : FopEnv) (ch v : Nat)
  /-- DMA_PRIORITY_WRITE (R282). -/
  | dmaPriorityWrite (dt : Nat) (env : FopEnv) (ch v : Nat)
  /-- SB_OWNER_WRITE (R293). The request; whether SB_OWNER_B is written; the bank (for SB_OWNER_B 0 is SB48), the owner. -/
  | sbOwnerWrite (dt : Nat) (env : FopEnv) (portB : Bool) (bank v : Nat)
  /-- BANK_HANDOVER_DONE (R294). SB00 to SB49; port B of SB48 and SB49 as 50 and 51. -/
  | bankHandoverDone (dt : Nat) (bank : Nat)
  /-- QUARANTINE_CLEARED (R295). -/
  | quarantineCleared (dt : Nat) (bank : Nat)
  /-- MEM_DATA_READ (R291). The request, OFFSET, a memory error met (0 none, 1 corrected, 2 uncorrectable) and its device address. -/
  | memDataRead (dt : Nat) (env : FopEnv) (off ecc errAddr : Nat)
  /-- MEM_DATA_WRITE (R291). The request, OFFSET, TOTAL, the data; a memory error met through an alias, its device address; collisions met in a row. -/
  | memDataWrite (dt : Nat) (env : FopEnv) (off total : Nat) (bytes : List Byte) (ecc errAddr coll : Nat)
  /-- SPOOL_BIT_SET (R299). The requester's owner code (Table 11-3), the alias address, 8, 16, 32 or 64 bits, the value, collisions met in a row. -/
  | spoolBitSet (dt : Nat) (who addr width value coll : Nat)
  /-- SPOOL_BIT_CLEAR (R299). -/
  | spoolBitClear (dt : Nat) (who addr width value coll : Nat)
  /-- ATOMIC_ADD32 (R300). The request, ADDR, OPERAND; a memory error met (0 none, 1 corrected, 2 uncorrectable); collisions met in a row. -/
  | atomicAdd32 (dt : Nat) (env : FopEnv) (addr operand ecc coll : Nat)
  /-- ATOMIC_ADD64 (R300). The request, ADDR, OPERAND; a memory error met (0 none, 1 corrected, 2 uncorrectable); collisions met in a row. -/
  | atomicAdd64 (dt : Nat) (env : FopEnv) (addr operand ecc coll : Nat)
  /-- ATOMIC_SWAP32 (R300). The request, ADDR, OPERAND; a memory error met (0 none, 1 corrected, 2 uncorrectable); collisions met in a row. -/
  | atomicSwap32 (dt : Nat) (env : FopEnv) (addr operand ecc coll : Nat)
  /-- ATOMIC_SWAP64 (R300). The request, ADDR, OPERAND; a memory error met (0 none, 1 corrected, 2 uncorrectable); collisions met in a row. -/
  | atomicSwap64 (dt : Nat) (env : FopEnv) (addr operand ecc coll : Nat)
  /-- BASTE_REGION (R304). The bank; a memory error of step 1 in word 0 to 7; whether a foreground access ended the test; the bit that failed a comparison, in that word. -/
  | basteRegion (dt : Nat) (bank ecc word : Nat) (abandoned : Bool) (failBit : Option Nat)
  /-- DRAM_SCRUB_DONE (R312). -/
  | dramScrubDone (dt : Nat)
  /-- DRAM_REFRESH_CHANGE (R314). The MR4 code, and whether it asks for more than the nominal rate. -/
  | dramRefreshChange (dt : Nat) (code : Nat) (above : Bool)
  /-- DRAM_ECC_WRITE (R310). -/
  | dramEccWrite (dt : Nat) (env : FopEnv) (v : Nat)
  /-- MOVE_ABS (R324). -/
  | moveAbs (dt : Nat) (env : FopEnv) (axis : Nat) (target speed : Int)
  /-- MOVE_REL (R324). -/
  | moveRel (dt : Nat) (env : FopEnv) (axis : Nat) (target speed : Int)
  /-- MOVE_VEL (R324). -/
  | moveVel (dt : Nat) (env : FopEnv) (axis : Nat) (speed : Int)
  /-- MOVE_STOP (R327). -/
  | moveStop (dt : Nat) (env : FopEnv) (axis : Nat)
  /-- MOVE_HOME (R329). -/
  | moveHome (dt : Nat) (env : FopEnv) (axis : Nat) (speed : Int)
  /-- MOVE_CAP (R324). -/
  | moveCap (dt : Nat) (env : FopEnv) (axis : Nat)
  /-- MOVE_UNCAP (R324). -/
  | moveUncap (dt : Nat) (env : FopEnv) (axis : Nat)
  /-- AXIS_ENABLE (R332). -/
  | axisEnable (dt : Nat) (env : FopEnv) (axis : Nat)
  /-- AXIS_DISABLE (R332). -/
  | axisDisable (dt : Nat) (env : FopEnv) (axis : Nat)
  /-- GEAR_ENGAGE (R321). -/
  | gearEngage (dt : Nat) (env : FopEnv) (group : Nat)
  /-- GEAR_DISENGAGE (R321). -/
  | gearDisengage (dt : Nat) (env : FopEnv) (group : Nat)
  /-- GROUP_STOP (R330). -/
  | groupStop (dt : Nat) (env : FopEnv) (group v : Nat)
  /-- CAP_SEQ (R331). -/
  | capSeq (dt : Nat) (env : FopEnv) (v : Nat)
  /-- SET_POS (R329). -/
  | setPos (dt : Nat) (env : FopEnv) (axis : Nat) (pos : Int)
  /-- GROUP_MASTER_WRITE (R321). The request; MASTER of a group, or GROUP of an axis; its number, the value. -/
  | groupMasterWrite (dt : Nat) (env : FopEnv) (master : Bool) (index v : Nat)
  /-- SERVO_TICK (R322). -/
  | servoTick (dt : Nat)
  /-- PWM_BOUNDARY (R322). The PWM_FREQ whose boundary it is, and what its axes sampled in the period that ends. -/
  | pwmBoundary (dt : Nat) (freq : Nat) (samples : List BridgeSample)
  /-- DRIVE_STATUS (R336). DL0 to DL3, the frame, and whether it had a code error. -/
  | driveStatus (dt : Nat) (dl : Nat) (bytes : List Byte) (codeErr : Bool)
  /-- DRIVE_STATUS_MISSING (R336). -/
  | driveStatusMissing (dt : Nat) (dl : Nat)
  /-- DL_LINK (R336). -/
  | dlLink (dt : Nat) (dl : Nat)
  /-- HOME_EDGE (R329). A stepper axis, and whether its HOME pin has become high or low; INPUT_POL says which of the two is active. -/
  | homeEdge (dt : Nat) (axis : Nat) (high : Bool)
  /-- LIM_ACTIVE (R323). -/
  | limActive (dt : Nat) (axis : Nat)
  /-- PHASE_OPEN (R343). -/
  | phaseOpen (dt : Nat) (st : Nat)
  /-- SENSE_REFERENCE_TEST (R344). ST0 to ST7, and the two amplifiers' outputs in mV. -/
  | senseReferenceTest (dt : Nat) (st resA resB : Nat)
  /-- SENSE_PLAUSIBILITY_FAIL (R344). -/
  | sensePlausibilityFail (dt : Nat) (st : Nat)
  /-- DESATURATION (R345). -/
  | desaturation (dt : Nat) (st gate : Nat)
  /-- VDRV_UNDERVOLTAGE (R346). -/
  | vdrvUndervoltage (dt : Nat)
  /-- VBUS_FAULT (R346). -/
  | vbusFault (dt : Nat) (st : Nat) (high : Bool)
  /-- HOLD_DELAY_EXPIRY (R340). -/
  | holdDelayExpiry (dt : Nat) (st : Nat)
  /-- COMET_REQ_RECEIVED (R354). The ring port (0 KE, 1 KW) and the frame. -/
  | cometReqReceived (dt : Nat) (port : Nat) (bytes : List Byte)
  /-- COMET_COLLECT_END (R354). -/
  | cometCollectEnd (dt : Nat)
  /-- COMET_GO_RECEIVED (R356). -/
  | cometGoReceived (dt : Nat) (port : Nat) (bytes : List Byte)
  /-- COMET_SEAM_COMPLETE (R359). -/
  | cometSeamComplete (dt : Nat)
  /-- COMET_RESUME (R360). -/
  | cometResume (dt : Nat)
  /-- COMET_READY_RECEIVED (R391). -/
  | cometReadyReceived (dt : Nat) (port : Nat) (bytes : List Byte)
  /-- COMET_SEAM_DONE_RECEIVED (R391). -/
  | cometSeamDoneReceived (dt : Nat) (port : Nat) (bytes : List Byte)
  /-- COMET_ENLIST_RECEIVED (R391). -/
  | cometEnlistReceived (dt : Nat) (port : Nat) (bytes : List Byte)
  /-- COMET_DELIST_RECEIVED (R391). -/
  | cometDelistReceived (dt : Nat) (port : Nat) (bytes : List Byte)
  /-- COMET_STATE_RECEIVED (R358). -/
  | cometStateReceived (dt : Nat) (port : Nat) (bytes : List Byte)
  /-- COMET_PARTICIPANT_TIMEOUT (R391). -/
  | cometParticipantTimeout (dt : Nat)
  /-- OS_STOP (R363). -/
  | osStop (dt : Nat)
  /-- RING_BLOCK_LOCK (R377). 0 KE, 1 KW. -/
  | ringBlockLock (dt : Nat) (port : Nat)
  /-- RING_LOCK_LOST (R377). -/
  | ringLockLost (dt : Nat) (port : Nat)
  /-- HELLO_SEND_TIMER (R377). -/
  | helloSendTimer (dt : Nat) (port : Nat)
  /-- HELLO_RECEIVED (R377). -/
  | helloReceived (dt : Nat) (port : Nat) (bytes : List Byte)
  /-- HELLO_TIMEOUT (R377). -/
  | helloTimeout (dt : Nat) (port : Nat)
  /-- DELAY_REQ_TIMER (R380). -/
  | delayReqTimer (dt : Nat)
  /-- DELAY_REQ_RECEIVED (R380). The frame on KW, and the time from its arrival to the response's departure in 2^-16 ns. -/
  | delayReqReceived (dt : Nat) (bytes : List Byte) (resid : Nat)
  /-- DELAY_RSP_RECEIVED (R380). The frame on KE. -/
  | delayRspReceived (dt : Nat) (bytes : List Byte)
  /-- SYNC_SEND_TIMER (R382). -/
  | syncSendTimer (dt : Nat)
  /-- SYNC_RECEIVED (R383). The ring port, the frame, and its residence time if it is forwarded, in 2^-16 ns. -/
  | syncReceived (dt : Nat) (port : Nat) (bytes : List Byte) (resid : Nat)
  /-- SYNC_LOSS_TIMEOUT (R383). -/
  | syncLossTimeout (dt : Nat)
  /-- RING_TACK_TIMER (R387). -/
  | ringTackTimer (dt : Nat)
  /-- TACK_FRAME_RECEIVED (R388). -/
  | tackFrameReceived (dt : Nat) (port : Nat) (bytes : List Byte)
  /-- ABORTED_FRAME_RECEIVED (R374). -/
  | abortedFrameReceived (dt : Nat) (port : Nat)
  /-- FRAGMENT_TIMEOUT (R372). -/
  | fragmentTimeout (dt : Nat)
  /-- FOLD_RECEIVED (R396). -/
  | foldReceived (dt : Nat) (port : Nat) (bytes : List Byte)
  /-- JOIN_RECEIVED (R378). -/
  | joinReceived (dt : Nat) (port : Nat) (bytes : List Byte)
  /-- JOIN_REPEAT_TIMER (R378). -/
  | joinRepeatTimer (dt : Nat)
  /-- TOPO_RECEIVED (R378). -/
  | topoReceived (dt : Nat) (port : Nat) (bytes : List Byte)
  /-- TOPO_REPEAT_TIMER (R378). -/
  | topoRepeatTimer (dt : Nat)
  /-- NO_MASTER_TIMEOUT (R378). -/
  | noMasterTimeout (dt : Nat)
  /-- CAL_REQ (R381). -/
  | calReq (dt : Nat) (env : FopEnv) (v : Nat)
  /-- CAL_COMMAND_RECEIVED (R381). -/
  | calCommandReceived (dt : Nat) (port : Nat) (bytes : List Byte)
  /-- CAL_REPORT_RECEIVED (R381). -/
  | calReportReceived (dt : Nat) (port : Nat) (bytes : List Byte)
  /-- CAL_REPORT_TIMEOUT (R381). -/
  | calReportTimeout (dt : Nat)
  /-- RING_SWEEP_REQ (R395). -/
  | ringSweepReq (dt : Nat) (env : FopEnv) (mask : Nat)
  /-- SWEEP_COMMAND_RECEIVED (R395). -/
  | sweepCommandReceived (dt : Nat) (port : Nat) (bytes : List Byte)
  /-- SWEEP_REPORT_RECEIVED (R395). -/
  | sweepReportReceived (dt : Nat) (port : Nat) (bytes : List Byte)
  /-- FAULT_BLOCK_RECEIVED (R390). The five payload bytes and the CHECK. -/
  | faultBlockReceived (dt : Nat) (port : Nat) (bytes : List Byte)
  /-- FOP_FRAME_RECEIVED (R392). The ring port, and the frame's header, payload and CRC (R370). -/
  | fopFrameReceived (dt : Nat) (port : Nat) (head payload crc : List Byte)
  /-- STREAM_FRAME_RECEIVED (R393). The same of a STREAM frame. -/
  | streamFrameReceived (dt : Nat) (port : Nat) (head payload crc : List Byte)
  /-- RING_CONFIG_WRITE (R376). The request; 0 NODE_ID, 1 RING_ROLE, 2 RING_EN; the value. -/
  | ringConfigWrite (dt : Nat) (env : FopEnv) (member v : Nat)
  /-- PTP_SYNC_RECEIVED (R386). SL0 or SL1, domainNumber, the origin timestamp with its corrections and the mean path delay, in 2^-16 ns. -/
  | ptpSyncReceived (dt : Nat) (lane domain : Nat) (time delay : Int)
  /-- PTP_ANNOUNCE_TIMEOUT (R386). -/
  | ptpAnnounceTimeout (dt : Nat)
  /-- MIRROR_COLUMN (R410). SEQ of the frame; REF, FIRED, LOST and the Nozzle IDs. -/
  | mirrorColumn (dt : Nat) (seq job fired lost : Nat) (deltas : List Nat)
  /-- MIRROR_THERMAL (R410). SEQ; FIRST_PORT; the 32 entries of 8 bytes. -/
  | mirrorThermal (dt : Nat) (seq first : Nat) (bytes : List Byte)
  /-- MIRROR_EPHEM (R411). SEQ and the fields of the record. -/
  | mirrorEphem (dt : Nat) (seq gateJ gateTf cometState cometId seam digest : Nat)
  /-- MIRROR_STREAM (R406). SEQ and the fields of the record. -/
  | mirrorStream (dt : Nat) (seq job ssn dseq la page : Nat)
  /-- MIRROR_MAP (R410). SEQ, REF, Nozzle IDs and their NOZZLE_MAP bytes. -/
  | mirrorMap (dt : Nat) (seq ref : Nat) (entries : List (Nat × Nat))
  /-- MIRROR_DRY (R410). SEQ, REF, DRY_FLAGS. -/
  | mirrorDry (dt : Nat) (seq ref flags : Nat)
  /-- MIRROR_THIMBLE (R410). SEQ, the port, the body of 48 bytes. -/
  | mirrorThimble (dt : Nat) (seq port : Nat) (bytes : List Byte)
  /-- MIRROR_MEAS (R410). SEQ, SENSOR, the record of 24 bytes. -/
  | mirrorMeas (dt : Nat) (seq sensor : Nat) (bytes : List Byte)
  /-- MIRROR_SNAP (R408). SEQ and the fields of the record. -/
  | mirrorSnap (dt : Nat) (seq id kind : Nat) (last : Bool) (offset : Nat) (bytes : List Byte)
  /-- MIRROR_SWITCH (R419). SEQ and the new PAIR_EPOCH. -/
  | mirrorSwitch (dt : Nat) (seq epoch : Nat)
  /-- MIRROR_ACK (R410). SEQ of the record acknowledged. -/
  | mirrorAck (dt : Nat) (ref : Nat)
  /-- MIRROR_SYNC_REQ (R408). -/
  | mirrorSyncReq (dt : Nat) (id : Nat)
  /-- MIRROR_STANDBY (R412). -/
  | mirrorStandby (dt : Nat) (notReady : Nat)
  /-- MIRROR_EPHEM_TIMER (R406). -/
  | mirrorEphemTimer (dt : Nat)
  /-- MIRROR_STREAM_TIMER (R406). -/
  | mirrorStreamTimer (dt : Nat)
  /-- STANDBY_RECORD_TIMER (R406). Whether the active member is in PRINT, as the standby knows it. -/
  | standbyRecordTimer (dt : Nat) (partnerPrint : Bool)
  /-- STANDBY_RECORD_TIMEOUT (R412). -/
  | standbyRecordTimeout (dt : Nat)
  /-- THIMBLE_ACK_WAIT_TIMEOUT (R410). -/
  | thimbleAckWaitTimeout (dt : Nat) (port : Nat)
  /-- PAIR_SILENCE_EXPIRY (R413). -/
  | pairSilenceExpiry (dt : Nat)
  /-- TAKEOVER_WRITE (R413). -/
  | takeoverWrite (dt : Nat) (env : FopEnv) (v : Nat)
  /-- TAKE_RETRY_TIMEOUT (R415). -/
  | takeRetryTimeout (dt : Nat) (port : Nat)
  /-- PAIR_SWITCH (R418). -/
  | pairSwitch (dt : Nat) (env : FopEnv) (v : Nat)
  /-- FOP_OPEN (R429). The request, ROLE, MAX_MSG, NH as a little-endian number. -/
  | fopOpen (dt : Nat) (env : FopEnv) (role maxMsg nonce : Nat)
  /-- FOP_CLOSE (R431). -/
  | fopClose (dt : Nat) (env : FopEnv)
  /-- FOP_KEEPALIVE (R431). -/
  | fopKeepalive (dt : Nat) (env : FopEnv)
  /-- FOP_READ (R435). -/
  | fopRead (dt : Nat) (env : FopEnv) (index sub count width lane off : Nat)
  /-- FOP_DESCRIBE (R435). -/
  | fopDescribe (dt : Nat) (env : FopEnv) (index sub : Nat)
  /-- OBJECT_WRITE (R436). -/
  | objectWrite (dt : Nat) (env : FopEnv) (index sub count width lane off total : Nat) (data : List Byte)
  /-- TXN_BEGIN (R441). -/
  | txnBegin (dt : Nat) (env : FopEnv)
  /-- TXN_COMMIT (R443). -/
  | txnCommit (dt : Nat) (env : FopEnv)
  /-- TXN_ABORT (R443). -/
  | txnAbort (dt : Nat) (env : FopEnv)
  /-- FOP_SUBSCRIBE (R445). -/
  | fopSubscribe (dt : Nat) (env : FopEnv) (mask : Nat)
  /-- EVENT_SEND (R446). The session. -/
  | eventSend (dt : Nat) (handle : Nat)
  /-- SESSION_PENDING_TIMEOUT (R429). -/
  | sessionPendingTimeout (dt : Nat) (handle : Nat)
  /-- SESSION_IDLE_TIMEOUT (R431). -/
  | sessionIdleTimeout (dt : Nat) (handle : Nat)
  /-- HELD_REQUEST_TIMEOUT (R433). -/
  | heldRequestTimeout (dt : Nat) (handle : Nat)
  /-- READ_SNAPSHOT_TIMEOUT (R439). -/
  | readSnapshotTimeout (dt : Nat) (handle : Nat)
  /-- WRITE_SEGMENT_TIMEOUT (R440). -/
  | writeSegmentTimeout (dt : Nat) (handle : Nat)
  /-- TXN_LEASE_LAPSE (R444). -/
  | txnLeaseLapse (dt : Nat) (handle : Nat)
  /-- ROLE_KEY_WRITE (R428). The request, the role, the wrapped key. -/
  | roleKeyWrite (dt : Nat) (env : FopEnv) (role : Nat) (bytes : List Byte)
  /-- REG_LOOKUP (R467). -/
  | regLookup (dt : Nat) (env : FopEnv) (index sub : Nat)
  /-- RAW_WINDOW_READ (R468). The request, the register number, COUNT, WIDTH, LANE. -/
  | rawWindowRead (dt : Nat) (env : FopEnv) (reg count width lane : Nat)
  /-- RAW_WINDOW_WRITE (R470). The request, the register number, COUNT, WIDTH, LANE, the data. -/
  | rawWindowWrite (dt : Nat) (env : FopEnv) (reg count width lane : Nat) (data : List Byte)
  /-- JOURNAL_TIMER (R461). Whether the write fails, and the highest fraction of rated endurance any word of the store has used, per mille. -/
  | journalTimer (dt : Nat) (fail : Bool) (wear : Nat)
  /-- JOURNAL_RETRY (R463). As JOURNAL_TIMER. -/
  | journalRetry (dt : Nat) (fail : Bool) (wear : Nat)
  /-- JOURNAL_SYNC (R463). -/
  | journalSync (dt : Nat) (env : FopEnv) (v : Nat)
  /-- RESTORE_FACTORY (R464). -/
  | restoreFactory (dt : Nat) (env : FopEnv) (groups : Nat)
  /-- MODE_REQ_CONFIG (R476). -/
  | modeReqConfig (dt : Nat) (env : FopEnv)
  /-- MODE_REQ_READY (R476). -/
  | modeReqReady (dt : Nat) (env : FopEnv)
  /-- MODE_REQ_PRINT_WEB (R480). -/
  | modeReqPrintWeb (dt : Nat) (env : FopEnv)
  /-- MODE_REQ_PRINT_SCAN (R480). -/
  | modeReqPrintScan (dt : Nat) (env : FopEnv)
  /-- MODE_REQ_SERVICE (R484). -/
  | modeReqService (dt : Nat) (env : FopEnv)
  /-- MODE_REQ_PARK (R486). -/
  | modeReqPark (dt : Nat) (env : FopEnv)
  /-- AUTO_READY_REQUEST (R479). -/
  | autoReadyRequest (dt : Nat)
  /-- STOP_COMPLETE (R483). -/
  | stopComplete (dt : Nat)
  /-- PARK_STEP_COMPLETE (R486). -/
  | parkStepComplete (dt : Nat)
  /-- PARK_STEP_BOUND_EXPIRY (R486). -/
  | parkStepBoundExpiry (dt : Nat)
  /-- WAKE_N_FALL (R489). Mask of retention partitions that cannot be read at the start-up (0 object journal, 1 Thimble, 2 fault record, 3 self-test, 4 device state), and the levels of the strap balls. -/
  | wakeNFall (dt : Nat) (bad straps : Nat)
  /-- WAKE_AFTER_EXPIRY (R489). As for WAKE_N_FALL. -/
  | wakeAfterExpiry (dt : Nat) (bad straps : Nat)
  /-- RESET_CMD (R490). -/
  | resetCmd (dt : Nat) (env : FopEnv) (v bad straps : Nat)
  /-- SOURCE_ACK (R500). -/
  | sourceAck (dt : Nat) (env : FopEnv) (source v : Nat)
  /-- ACK_ALL (R500). -/
  | ackAll (dt : Nat) (env : FopEnv) (v : Nat)
  /-- SOURCE_FORCE (R501). -/
  | sourceForce (dt : Nat) (env : FopEnv) (source v : Nat)
  /-- SOURCE_CONFIG_WRITE (R502). -/
  | sourceConfigWrite (dt : Nat) (env : FopEnv) (source sub v : Nat)
  /-- HOST_LOCK_TAKE (R507). -/
  | hostLockTake (dt : Nat) (env : FopEnv)
  /-- HOST_LOCK_RELEASE (R507). -/
  | hostLockRelease (dt : Nat) (env : FopEnv)
  /-- HOST_TIMEOUT_EXPIRY (R507). -/
  | hostTimeoutExpiry (dt : Nat)
  /-- FAULT_INPUT (R508). -/
  | faultInput (dt : Nat) (input : Nat)
  /-- TRIP_CMD (R508). -/
  | tripCmd (dt : Nat) (env : FopEnv) (v : Nat)
  /-- SAFETY_WDOG_EXPIRY (R505). Whether Selvedge still can register the source. -/
  | safetyWdogExpiry (dt : Nat) (selvedge : Bool)
  /-- WDOG_RESET_DELAY (R505). As for WAKE_N_FALL. -/
  | wdogResetDelay (dt : Nat) (bad straps : Nat)
  /-- SAFE_AUTO_RESET_EXPIRY (R505). As for WAKE_N_FALL. -/
  | safeAutoResetExpiry (dt : Nat) (bad straps : Nat)
  /-- HEM_READBACK_FAIL (R504). 0 FAULT_N, 1 HPWR_EN of a port, 2 ABORT of a port, 3 the gates of a stepper axis, 4 the frames of a Drive Link. -/
  | hemReadbackFail (dt : Nat) (kind index : Nat)
  /-- HEM_ARM_CHECK (R504). -/
  | hemArmCheck (dt : Nat) (mismatch : Bool)
  /-- RAIL_GOOD (R514). As for WAKE_N_FALL. -/
  | railGood (dt : Nat) (bad straps : Nat)
  /-- RAIL_WARNING (R516). -/
  | railWarning (dt : Nat) (rail : Nat)
  /-- RAIL_OFF (R516). -/
  | railOff (dt : Nat) (rail : Nat)
  /-- RAIL_OVERVOLTAGE (R516). -/
  | railOvervoltage (dt : Nat) (rail : Nat)
  /-- MAIN_RAIL_TIMEOUT (R517). -/
  | mainRailTimeout (dt : Nat)
  /-- RESET_N_LOW (R525). -/
  | resetNLow (dt : Nat)
  /-- RESET_N_RISE (R525). As for WAKE_N_FALL. -/
  | resetNRise (dt : Nat) (bad straps : Nat)
  /-- STARTUP_COMPLETE (R530). Bytes fitted on each DRAM channel, whether DRAM trained, whether its check block matched after RETAIN, and whether the FULL path found a partition that fails its CRCs. -/
  | startupComplete (dt : Nat) (dramA dramB : Nat) (trained kept retBad : Bool)
  /-- CLOCK_MONITOR_CHECK (R520). Whether XTAL shows no edge for 1 us or lies more than 5% from nominal; whether SDREF does. -/
  | clockMonitorCheck (dt : Nat) (xtal sdref : Bool)
  /-- ISLAND_CLOCK_WINDOW (R523). Whether the island's clock lies more than 2% from nominal. -/
  | islandClockWindow (dt : Nat) (island : Nat) (off : Bool)
  /-- ISLAND_CLOCK_ABSENT (R523). -/
  | islandClockAbsent (dt : Nat) (island : Nat)
  /-- ISLAND_CLOCK_RETURN (R523). -/
  | islandClockReturn (dt : Nat) (island : Nat)
  /-- REG_PARITY_PASS (R524). The islands with wrong parity in a register, or in a word from a crossing (R522). -/
  | regParityPass (dt : Nat) (fails : List ParityFail)
  /-- REFERENCE_COMPARE (R535). The references differ by more than 1%. -/
  | referenceCompare (dt : Nat) (differ : Bool)
  /-- ISLAND_RESET_WRITE (R526). -/
  | islandResetWrite (dt : Nat) (env : FopEnv) (v : Nat)
  /-- ISLAND_RESET_DONE (R526). -/
  | islandResetDone (dt : Nat) (island : Nat)
  /-- BIST_GROUP_START (R537). -/
  | bistGroupStart (dt : Nat)
  /-- BIST_GROUP_END (R541). What the group found: failing bits in the order found, spares that fail (memory, spare), the four signatures obtained, the checks. -/
  | bistGroupEnd (dt : Nat) (group : Nat) (fails : List BistFail) (badSpares : List (Nat × Nat)) (sigs : List Nat) (checks : List BistCheck)
  /-- BIST_GROUP_TIMEOUT (R548). -/
  | bistGroupTimeout (dt : Nat) (group : Nat)
  /-- BIST_INVALIDATE (R545). -/
  | bistInvalidate (dt : Nat) (env : FopEnv) (v : Nat)
  /-- TAP_INSTRUCTION (R563). The instruction (0 BYPASS, 1 IDCODE, 2 SAMPLE/PRELOAD, 3 EXTEST, any other code undefined) and the boundary register shifted in with it. -/
  | tapInstruction (dt : Nat) (ir boundary : Nat)
  /-- HOST_PORT_FRAME (R256). The host port, and the frame from its destination address to the end of its payload. -/
  | hostPortFrame (dt : Nat) (lane : Nat) (bytes : List Byte)
  /-- HOST_PORT_BLOCK_LOCK (R452). -/
  | hostPortBlockLock (dt : Nat) (lane : Nat)
  /-- HOST_PORT_LOCK_LOST (R452). -/
  | hostPortLockLost (dt : Nat) (lane : Nat)
  /-- PTP_ANNOUNCE_RECEIVED (R386). The fields the best master clock algorithm compares, in its order, with clockIdentity as bytes 6 to 13; the Announce interval in ns. -/
  | ptpAnnounceReceived (dt : Nat) (lane domain : Nat) (rank : List Byte) (interval : Nat)
  /-- LIM_INACTIVE (R589). -/
  | limInactive (dt : Nat) (axis : Nat)
  /-- FAULT_INPUT_INACTIVE (R508). -/
  | faultInputInactive (dt : Nat) (input : Nat)
  /-- RAIL_WARNING_END (R516). -/
  | railWarningEnd (dt : Nat)
  /-- DEFERRED_TACK_LATCH (R44). -/
  | deferredTackLatch (dt : Nat) (ch : Nat)
  /-- SELVEDGE_LOCKSTEP_MISMATCH (R511). 0 the copies disagree, 1 parity of the stored configuration, 2 the drive-path check. -/
  | selvedgeLockstepMismatch (dt : Nat) (kind : Nat)
  deriving DecidableEq, Repr

end Sys2Proof
end

