-- ==== Sys2Proof/Decode.lean ====
section
/-! DEFINITION. Commands spelled by words of the command table: its rows give no bits, so a word spells none. -/

namespace Sys2Proof

/-- The command that a word spells by the table's bits. No row of the table has any. -/
def decodeTableWord (_nbits _w : Nat) : Option Instr := none

end Sys2Proof
end

