-- ==== Sys2Proof/Config.lean ====
section
/-! DEFINITION. What one device fixes and what the spec leaves open: constants and functions without a body, so that nothing can be proved of their values (log entries 4 and 5). -/

namespace Sys2Proof.Config

/-- SERIAL, programmed per device (Table 17-6a). -/
opaque serial : Nat

/-- REVISION, programmed per device (Table 17-6a, R588). -/
opaque revision : Nat

/-- GRADE, programmed per device (Table 17-6a). -/
opaque grade : Nat

/-- MAC_ADDR of a host port, programmed per port (Table 16-8). -/
opaque mac : Nat → Nat

/-- The device transport key (R180). -/
opaque dtk : List Byte

/-- The FACTORY role key, programmed at manufacture (R428). -/
opaque factoryKey : List Byte

/-- Bytes of the random bit generator (R178, R429): the n-th draw. -/
opaque random : Nat → List Byte

/-- The controller's estimate of the time to CONFIG at the n-th BUSY (R448), before its bounds. -/
opaque busyEstimate : Nat → Nat

/-- A field of a register of the raw window (R467): its place in the register, its type (Table 17-4), and the object element it backs with the
place of the field in that element's value; none where it backs no object. -/
structure RegField where
  lo : Nat
  width : Nat
  typ : Nat
  elem : Option (Nat × Nat × Nat)

/-- The register map of the raw window (R467): the fields of a register, lowest first; none where the register does not exist. -/
opaque regs : Nat → Option (List RegField)

/-- The lowest register of an object element and the number of its registers, if it is register-backed (R467). -/
opaque regOf : Nat → Option (Nat × Nat)

/-- What a register field that backs no object reads before it is written. -/
opaque rawReset : Nat → Nat

/-- The island of an internal memory (MEM_RESULT[1]). -/
opaque islandOfMem : Nat → Nat

/-- The expected signature of a signature block (R543). -/
opaque signature : Nat → Nat

/-- A value the spec leaves open: the n-th one. -/
opaque open_ : Nat → Nat

end Sys2Proof.Config
end

