-- ==== Sys2Proof/Machine/Operands.lean ====
section
/-! DEFINITION. Number formats: rounding and saturation (R8), two's complement (R7), byte order (R9, R10), bit fields, sparse tables. -/

namespace Sys2Proof

/-- The value at `k` of a sparse table whose unlisted keys read `d`. -/
def Tab.get {α : Type} (d : α) : Tab α → Nat → α
  | [], _ => d
  | (j, v) :: t, k => if j = k then v else Tab.get d t k

/-- The entry at `k`, if the table lists one. -/
def Tab.get? {α : Type} : Tab α → Nat → Option α
  | [], _ => none
  | (j, v) :: t, k => if j = k then some v else Tab.get? t k

/-- Write `v` at `k`, keeping the keys rising. -/
def Tab.set {α : Type} : Tab α → Nat → α → Tab α
  | [], k, v => [(k, v)]
  | (j, u) :: t, k, v =>
    if k < j then (k, v) :: (j, u) :: t
    else if k = j then (k, v) :: t
    else (j, u) :: Tab.set t k v

/-- Remove the entry at `k`. -/
def Tab.erase {α : Type} : Tab α → Nat → Tab α
  | [], _ => []
  | (j, u) :: t, k => if j = k then t else (j, u) :: Tab.erase t k

/-- Change the entry at `k`, starting from the default `d` where none is listed. -/
def Tab.upd {α : Type} (d : α) (t : Tab α) (k : Nat) (f : α → α) : Tab α :=
  Tab.set t k (f (Tab.get d t k))

/-- The keys of a table rise strictly: its canonical form. -/
def Tab.sorted {α : Type} : Tab α → Bool
  | [] => true
  | (j, _) :: t => (match t with | [] => true | (k, _) :: _ => decide (j < k)) && Tab.sorted t

/-! ### Rounding and saturation -/

/-- `n / d` rounded to nearest, ties away from zero (R8). -/
def roundDiv (n : Int) (d : Nat) : Int :=
  if n < 0 then -(((-n) * 2 + d) / (2 * d)) else (n * 2 + d) / (2 * d)

/-- The same for naturals. -/
def roundDivNat (n d : Nat) : Nat := (2 * n + d) / (2 * d)

/-- `n` divided by a possibly negative `d`, rounded to nearest, ties away from zero. -/
def roundDivI (n d : Int) : Int :=
  if d < 0 then roundDiv (-n) d.natAbs else roundDiv n d.natAbs

/-- Ceiling of a quotient of naturals. -/
def ceilDiv (n d : Nat) : Nat := (n + d - 1) / d

/-- Saturate to an unsigned format of `w` bits (R8). -/
def satU (w : Nat) (v : Int) : Nat :=
  if v < 0 then 0 else if v < (2 : Int) ^ w then v.toNat else 2 ^ w - 1

/-- Saturate to a two's-complement format of `w` bits (R8). -/
def satS (w : Nat) (v : Int) : Int :=
  if v < -((2 : Int) ^ (w - 1)) then -((2 : Int) ^ (w - 1))
  else if v < (2 : Int) ^ (w - 1) then v else (2 : Int) ^ (w - 1) - 1

/-- Clamp `v` between `lo` and `hi`. -/
def clampI (lo hi v : Int) : Int := if v < lo then lo else if hi < v then hi else v

/-- The stored bits of `v` in two's complement of `w` bits (R7). -/
def rawOf (w : Nat) (v : Int) : Nat := (v % (2 : Int) ^ w).toNat

/-- The value of the two's-complement bits `r` of `w` bits (R7). -/
def signedOf (w : Nat) (r : Nat) : Int :=
  let m := r % 2 ^ w
  if m < 2 ^ (w - 1) then (m : Int) else (m : Int) - (2 : Int) ^ w

/-- The field [hi:lo] of `v`. -/
def field (v hi lo : Nat) : Nat := v / 2 ^ lo % 2 ^ (hi + 1 - lo)

/-- Bit `i` of `v`. -/
def bit (v i : Nat) : Bool := v / 2 ^ i % 2 = 1

/-- `v` with bit `i` set to `b`. -/
def putBit (v i : Nat) (b : Bool) : Nat :=
  if b = bit v i then v else if b then v + 2 ^ i else v - 2 ^ i

/-- `v` with field [hi:lo] set to `x`. -/
def putField (v hi lo x : Nat) : Nat :=
  v - field v hi lo * 2 ^ lo + x % 2 ^ (hi + 1 - lo) * 2 ^ lo

/-- A Bool as the number a BOOL object holds. -/
def b2n (b : Bool) : Nat := if b then 1 else 0

/-- Number of set bits among the lowest `w`. -/
def popCount : Nat → Nat → Nat
  | 0, _ => 0
  | w + 1, v => v % 2 + popCount w (v / 2)

/-- The numbers below `w` whose bit is set in `v`, rising. -/
def bitsSet (w v : Nat) : List Nat := (List.range w).filter (bit v)

/-- The mask of the listed bit numbers. -/
def maskOf (l : List Nat) : Nat := l.foldl (fun m i => putBit m i true) 0

/-! ### Byte order (R9, R10) -/

/-- The `n` bytes of `v`, least significant first. -/
def leBytes : Nat → Nat → List Byte
  | 0, _ => []
  | n + 1, v => BitVec.ofNat 8 v :: leBytes n (v / 256)

/-- The value of bytes stored least significant first. -/
def ofLe : List Byte → Nat
  | [] => 0
  | b :: t => b.toNat + 256 * ofLe t

/-- The value of bytes stored most significant first (published standards' network order). -/
def ofBe (l : List Byte) : Nat := ofLe l.reverse

/-- The `n` bytes of `v`, most significant first. -/
def beBytes (n v : Nat) : List Byte := (leBytes n v).reverse

/-- The little-endian field of `n` bytes at offset `o` of a record. -/
def leAt (l : List Byte) (o n : Nat) : Nat := ofLe ((l.drop o).take n)

/-- `l` cut or padded with zeros to `n` bytes. -/
def padTo (n : Nat) (l : List Byte) : List Byte := l.take n ++ List.replicate (n - l.length) 0

/-- A byte string of variable length as one number: its bytes little-endian under a leading one. -/
def packBytes (l : List Byte) : Nat := ofLe l + 256 ^ l.length

/-- The bytes of a packed byte string. -/
def unpackBytes (n : Nat) : List Byte :=
  let len := Nat.log2 n / 8
  leBytes len (n - 256 ^ len)

/-! ### Sequence numbers -/

/-- The next 32-bit sequence number: wraps modulo 2^32 with 0 skipped. -/
def nextSeq32 (s : Nat) : Nat := if s + 1 ≥ 2 ^ 32 then 1 else s + 1

/-- Signed distance `a - b` of two numbers modulo 2^w. -/
def seqDist (w a b : Nat) : Int := signedOf w ((a + 2 ^ w - b % 2 ^ w) % 2 ^ w)

/-! ### Integer square root -/

/-- One bit at a time, from bit `n` downward. -/
def isqrtLoop : Nat → Nat → Nat → Nat
  | 0, _, r => r
  | n + 1, v, r =>
    let c := r + 2 ^ n
    isqrtLoop n v (if c * c ≤ v then c else r)

/-- The integer square root: the largest r with r² ≤ v. -/
def isqrt (v : Nat) : Nat := isqrtLoop (Nat.log2 v / 2 + 1) v 0

/-- The sum of a list of integers. -/
def sumI (l : List Int) : Int := l.foldl (· + ·) 0

/-- The sum of a list of naturals. -/
def sumN (l : List Nat) : Nat := l.foldl (· + ·) 0

/-- The entry of a list at `k`, or `d` past its end. -/
def nth {α : Type} (d : α) : List α → Nat → α
  | [], _ => d
  | a :: _, 0 => a
  | _ :: t, k + 1 => nth d t k

/-- The list with its entry `k` replaced. -/
def setNth {α : Type} : List α → Nat → α → List α
  | [], _, _ => []
  | _ :: t, 0, v => v :: t
  | a :: t, k + 1, v => a :: setNth t k v

end Sys2Proof
end

