-- ==== Sys2Proof/Machine/Crypto.lean ====
section
/-! DEFINITION. The published algorithms the spec uses: SHA-256 and HMAC (R427), AES-256, CMAC and the RFC 3394 key wrap (R178 to R180, R428), CRC-32C (R237), CRC-32, CRC-16. -/

namespace Sys2Proof.Crypto

/-- Round constants of SHA-256 (FIPS 180-4). -/
def shaK : List Nat :=
  [0x428a2f98, 0x71374491, 0xb5c0fbcf, 0xe9b5dba5, 0x3956c25b, 0x59f111f1, 0x923f82a4, 0xab1c5ed5] ++
  [0xd807aa98, 0x12835b01, 0x243185be, 0x550c7dc3, 0x72be5d74, 0x80deb1fe, 0x9bdc06a7, 0xc19bf174] ++
  [0xe49b69c1, 0xefbe4786, 0x0fc19dc6, 0x240ca1cc, 0x2de92c6f, 0x4a7484aa, 0x5cb0a9dc, 0x76f988da] ++
  [0x983e5152, 0xa831c66d, 0xb00327c8, 0xbf597fc7, 0xc6e00bf3, 0xd5a79147, 0x06ca6351, 0x14292967] ++
  [0x27b70a85, 0x2e1b2138, 0x4d2c6dfc, 0x53380d13, 0x650a7354, 0x766a0abb, 0x81c2c92e, 0x92722c85] ++
  [0xa2bfe8a1, 0xa81a664b, 0xc24b8b70, 0xc76c51a3, 0xd192e819, 0xd6990624, 0xf40e3585, 0x106aa070] ++
  [0x19a4c116, 0x1e376c08, 0x2748774c, 0x34b0bcb5, 0x391c0cb3, 0x4ed8aa4a, 0x5b9cca4f, 0x682e6ff3] ++
  [0x748f82ee, 0x78a5636f, 0x84c87814, 0x8cc70208, 0x90befffa, 0xa4506ceb, 0xbef9a3f7, 0xc67178f2]

/-- Initial hash value of SHA-256 (FIPS 180-4). -/
def shaH0 : List Nat :=
  [0x6a09e667, 0xbb67ae85, 0x3c6ef372, 0xa54ff53a, 0x510e527f, 0x9b05688c, 0x1f83d9ab, 0x5be0cd19]

/-- S-box of AES (FIPS 197). -/
def aesSbox : List Nat :=
  [99, 124, 119, 123, 242, 107, 111, 197, 48, 1, 103, 43, 254, 215, 171, 118] ++
  [202, 130, 201, 125, 250, 89, 71, 240, 173, 212, 162, 175, 156, 164, 114, 192] ++
  [183, 253, 147, 38, 54, 63, 247, 204, 52, 165, 229, 241, 113, 216, 49, 21] ++
  [4, 199, 35, 195, 24, 150, 5, 154, 7, 18, 128, 226, 235, 39, 178, 117] ++
  [9, 131, 44, 26, 27, 110, 90, 160, 82, 59, 214, 179, 41, 227, 47, 132] ++
  [83, 209, 0, 237, 32, 252, 177, 91, 106, 203, 190, 57, 74, 76, 88, 207] ++
  [208, 239, 170, 251, 67, 77, 51, 133, 69, 249, 2, 127, 80, 60, 159, 168] ++
  [81, 163, 64, 143, 146, 157, 56, 245, 188, 182, 218, 33, 16, 255, 243, 210] ++
  [205, 12, 19, 236, 95, 151, 68, 23, 196, 167, 126, 61, 100, 93, 25, 115] ++
  [96, 129, 79, 220, 34, 42, 144, 136, 70, 238, 184, 20, 222, 94, 11, 219] ++
  [224, 50, 58, 10, 73, 6, 36, 92, 194, 211, 172, 98, 145, 149, 228, 121] ++
  [231, 200, 55, 109, 141, 213, 78, 169, 108, 86, 244, 234, 101, 122, 174, 8] ++
  [186, 120, 37, 46, 28, 166, 180, 198, 232, 221, 116, 31, 75, 189, 139, 138] ++
  [112, 62, 181, 102, 72, 3, 246, 14, 97, 53, 87, 185, 134, 193, 29, 158] ++
  [225, 248, 152, 17, 105, 217, 142, 148, 155, 30, 135, 233, 206, 85, 40, 223] ++
  [140, 161, 137, 13, 191, 230, 66, 104, 65, 153, 45, 15, 176, 84, 187, 22]

/-- Inverse S-box of AES (FIPS 197). -/
def aesInvSbox : List Nat :=
  [82, 9, 106, 213, 48, 54, 165, 56, 191, 64, 163, 158, 129, 243, 215, 251] ++
  [124, 227, 57, 130, 155, 47, 255, 135, 52, 142, 67, 68, 196, 222, 233, 203] ++
  [84, 123, 148, 50, 166, 194, 35, 61, 238, 76, 149, 11, 66, 250, 195, 78] ++
  [8, 46, 161, 102, 40, 217, 36, 178, 118, 91, 162, 73, 109, 139, 209, 37] ++
  [114, 248, 246, 100, 134, 104, 152, 22, 212, 164, 92, 204, 93, 101, 182, 146] ++
  [108, 112, 72, 80, 253, 237, 185, 218, 94, 21, 70, 87, 167, 141, 157, 132] ++
  [144, 216, 171, 0, 140, 188, 211, 10, 247, 228, 88, 5, 184, 179, 69, 6] ++
  [208, 44, 30, 143, 202, 63, 15, 2, 193, 175, 189, 3, 1, 19, 138, 107] ++
  [58, 145, 17, 65, 79, 103, 220, 234, 151, 242, 207, 206, 240, 180, 230, 115] ++
  [150, 172, 116, 34, 231, 173, 53, 133, 226, 249, 55, 232, 28, 117, 223, 110] ++
  [71, 241, 26, 113, 29, 41, 197, 137, 111, 183, 98, 14, 170, 24, 190, 27] ++
  [252, 86, 62, 75, 198, 210, 121, 32, 154, 219, 192, 254, 120, 205, 90, 244] ++
  [31, 221, 168, 51, 136, 7, 199, 49, 177, 18, 16, 89, 39, 128, 236, 95] ++
  [96, 81, 127, 169, 25, 181, 74, 13, 45, 229, 122, 159, 147, 201, 156, 239] ++
  [160, 224, 59, 77, 174, 42, 245, 176, 200, 235, 187, 60, 131, 83, 153, 97] ++
  [23, 43, 4, 126, 186, 119, 214, 38, 225, 105, 20, 99, 85, 33, 12, 125]


/-- Rotate a 32-bit word right. -/
def rotr (n x : Nat) : Nat := x / 2 ^ n + x % 2 ^ n * 2 ^ (32 - n)

/-- Bitwise complement of a 32-bit word. -/
def not32 (x : Nat) : Nat := 4294967295 - x

/-- One step of the message schedule: the window holds the last 16 words, oldest first. -/
def shaNextW (w : List Nat) : Nat :=
  let w0 := nth 0 w 0; let w1 := nth 0 w 1; let w9 := nth 0 w 9; let w14 := nth 0 w 14
  let s0 := rotr 7 w1 ^^^ rotr 18 w1 ^^^ (w1 / 8)
  let s1 := rotr 17 w14 ^^^ rotr 19 w14 ^^^ (w14 / 1024)
  (w0 + s0 + w9 + s1) % 4294967296

/-- The working variables a to h of SHA-256. -/
structure ShaV where
  a : Nat
  b : Nat
  c : Nat
  d : Nat
  e : Nat
  f : Nat
  g : Nat
  h : Nat
  deriving DecidableEq, Repr

/-- One round of SHA-256 with round constant k and schedule word w. -/
def shaRound (v : ShaV) (k w : Nat) : ShaV :=
  let s1 := rotr 6 v.e ^^^ rotr 11 v.e ^^^ rotr 25 v.e
  let ch := (v.e &&& v.f) ^^^ (not32 v.e &&& v.g)
  let t1 := v.h + s1 + ch + k + w
  let s0 := rotr 2 v.a ^^^ rotr 13 v.a ^^^ rotr 22 v.a
  let mj := (v.a &&& v.b) ^^^ (v.a &&& v.c) ^^^ (v.b &&& v.c)
  ⟨(t1 + s0 + mj) % 4294967296, v.a, v.b, v.c, (v.d + t1) % 4294967296, v.e, v.f, v.g⟩

/-- The rounds, along the list of round constants. -/
def shaRounds : List Nat → List Nat → ShaV → ShaV
  | [], _, v => v
  | k :: ks, w, v =>
    let w0 := nth 0 w 0
    shaRounds ks (w.drop 1 ++ [shaNextW w]) (shaRound v k w0)

/-- The big-endian 32-bit words of a byte string. -/
def beWords : Nat → List Byte → List Nat
  | 0, _ => []
  | n + 1, l => ofBe (l.take 4) :: beWords n (l.drop 4)

/-- Compress one block of 64 bytes. -/
def shaBlock (h : List Nat) (blk : List Byte) : List Nat :=
  let g := nth 0 h
  let v := shaRounds shaK (beWords 16 blk) ⟨g 0, g 1, g 2, g 3, g 4, g 5, g 6, g 7⟩
  (List.zipWith (fun x y => (x + y) % 4294967296) h [v.a, v.b, v.c, v.d, v.e, v.f, v.g, v.h])

/-- Hash whole blocks. -/
def shaBlocks : Nat → List Nat → List Byte → List Nat
  | 0, h, _ => h
  | n + 1, h, l => shaBlocks n (shaBlock h (l.take 64)) (l.drop 64)

/-- SHA-256 (FIPS 180-4). -/
def sha256 (m : List Byte) : List Byte :=
  let z := (119 - m.length % 64) % 64
  let p := m ++ [0x80] ++ List.replicate z 0 ++ beBytes 8 (8 * m.length)
  (shaBlocks (p.length / 64) shaH0 p).flatMap (beBytes 4)

/-- HMAC-SHA-256 (RFC 2104). -/
def hmac (key m : List Byte) : List Byte :=
  let k := padTo 64 (if key.length > 64 then sha256 key else key)
  sha256 (k.map (· ^^^ 0x5c) ++ sha256 (k.map (· ^^^ 0x36) ++ m))

/-! ### AES-256 on blocks of 16 byte values -/

/-- Multiply by x in the field of AES. -/
def xtime (a : Nat) : Nat := if a < 128 then 2 * a else (2 * a - 256) ^^^ 27

/-- Multiply two elements of the field of AES. -/
def gmulLoop : Nat → Nat → Nat → Nat
  | 0, _, _ => 0
  | n + 1, a, b => (if b % 2 = 1 then a else 0) ^^^ gmulLoop n (xtime a) (b / 2)

/-- Product in the field of AES by a constant below 16. -/
def gmul (b a : Nat) : Nat := gmulLoop 4 a b

/-- The S-box at a byte value. -/
def sub (x : Nat) : Nat := nth 0 aesSbox x

/-- The inverse S-box at a byte value. -/
def invSub (x : Nat) : Nat := nth 0 aesInvSbox x

/-- Words of the AES-256 key schedule, newest word first; i counts words from 8. -/
def aesExpandLoop : Nat → Nat → Nat → List (List Nat) → List (List Nat)
  | 0, _, _, w => w
  | n + 1, i, rc, w =>
    let t := nth [] w 0
    let old := nth [] w 7
    let t' :=
      if i % 8 = 0 then
        (match t with
          | [a, b, c, d] => [sub b ^^^ rc, sub c, sub d, sub a]
          | _ => t)
      else if i % 8 = 4 then t.map sub else t
    aesExpandLoop n (i + 1) (if i % 8 = 0 then xtime rc else rc) (List.zipWith (· ^^^ ·) old t' :: w)

/-- Groups of four of a list. -/
def groups4 : Nat → List Nat → List (List Nat)
  | 0, _ => []
  | n + 1, l => l.take 4 :: groups4 n (l.drop 4)

/-- The 15 round keys of AES-256, 16 byte values each, in order. -/
def aesRoundKeys (key : List Byte) : List (List Nat) :=
  let w := (aesExpandLoop 52 8 1 (groups4 8 (key.map BitVec.toNat)).reverse).reverse
  (List.range 15).map (fun r => ((w.drop (4 * r)).take 4).flatten)

/-- ShiftRows on a column-major block. -/
def shiftRows (s : List Nat) : List Nat :=
  [0, 5, 10, 15, 4, 9, 14, 3, 8, 13, 2, 7, 12, 1, 6, 11].map (nth 0 s)

/-- The inverse of ShiftRows. -/
def invShiftRows (s : List Nat) : List Nat :=
  [0, 13, 10, 7, 4, 1, 14, 11, 8, 5, 2, 15, 12, 9, 6, 3].map (nth 0 s)

/-- Mix one column with the first row m0 m1 m2 m3 of the circulant matrix. -/
def mixCol (m0 m1 m2 m3 : Nat) (c : List Nat) : List Nat :=
  match c with
  | [a, b, c, d] =>
    [gmul m0 a ^^^ gmul m1 b ^^^ gmul m2 c ^^^ gmul m3 d,
     gmul m3 a ^^^ gmul m0 b ^^^ gmul m1 c ^^^ gmul m2 d,
     gmul m2 a ^^^ gmul m3 b ^^^ gmul m0 c ^^^ gmul m1 d,
     gmul m1 a ^^^ gmul m2 b ^^^ gmul m3 c ^^^ gmul m0 d]
  | _ => c

/-- MixColumns. -/
def mixColumns (s : List Nat) : List Nat := (groups4 4 s).flatMap (mixCol 2 3 1 1)

/-- The inverse of MixColumns. -/
def invMixColumns (s : List Nat) : List Nat := (groups4 4 s).flatMap (mixCol 14 11 13 9)

/-- Bytewise exclusive or. -/
def xorN (a b : List Nat) : List Nat := List.zipWith (· ^^^ ·) a b

/-- The rounds of encryption after the first key, along the list of round keys. -/
def aesEncRounds : List (List Nat) → List Nat → List Nat
  | [], s => s
  | [k], s => xorN (shiftRows (s.map sub)) k
  | k :: ks, s => aesEncRounds ks (xorN (mixColumns (shiftRows (s.map sub))) k)

/-- The rounds of decryption, along the reversed list of round keys. -/
def aesDecRounds : List (List Nat) → List Nat → List Nat
  | [], s => s
  | [k], s => xorN ((invShiftRows s).map invSub) k
  | k :: ks, s => aesDecRounds ks (invMixColumns (xorN ((invShiftRows s).map invSub) k))

/-- AES-256 encryption of one block (FIPS 197). -/
def aesEnc (key blk : List Byte) : List Byte :=
  match aesRoundKeys key with
  | [] => blk
  | k :: ks => (aesEncRounds ks (xorN (blk.map BitVec.toNat) k)).map (BitVec.ofNat 8)

/-- AES-256 decryption of one block (FIPS 197). -/
def aesDec (key blk : List Byte) : List Byte :=
  match (aesRoundKeys key).reverse with
  | [] => blk
  | k :: ks => (aesDecRounds ks (xorN (blk.map BitVec.toNat) k)).map (BitVec.ofNat 8)

/-- Bytewise exclusive or of byte strings. -/
def xorB (a b : List Byte) : List Byte := List.zipWith (· ^^^ ·) a b

/-- Doubling of a block for the CMAC subkeys. -/
def cmacDbl (b : List Byte) : List Byte :=
  let v := ofBe b
  beBytes 16 (if v < 2 ^ 127 then 2 * v else (2 * v - 2 ^ 128) ^^^ 135)

/-- The chain of CMAC over all blocks but the last. -/
def cmacChain : Nat → List Byte → List Byte → List Byte → List Byte
  | 0, _, x, _ => x
  | n + 1, key, x, m => cmacChain n key (aesEnc key (xorB x (m.take 16))) (m.drop 16)

/-- AES-256-CMAC (SP 800-38B). -/
def cmac (key m : List Byte) : List Byte :=
  let k1 := cmacDbl (aesEnc key (List.replicate 16 0))
  let k2 := cmacDbl k1
  let full := m.length ≠ 0 ∧ m.length % 16 = 0
  let n := if full then m.length / 16 - 1 else m.length / 16
  let last := m.drop (16 * n)
  let lastB := if full then xorB last k1 else xorB (padTo 16 (last ++ [0x80])) k2
  aesEnc key (xorB (cmacChain n key (List.replicate 16 0) m) lastB)

/-- One inverse step of the key wrap: t counts down; a is the check block, r the registers of 8 bytes. -/
def kwStep (key : List Byte) (n t : Nat) (a : List Byte) (r : List (List Byte)) : List Byte × List (List Byte) :=
  let i := (t - 1) % n
  let b := aesDec key (xorB a (beBytes 8 t) ++ nth [] r i)
  (b.take 8, setNth r i (b.drop 8))

/-- The inverse steps of the key wrap from t downward. -/
def kwLoop (key : List Byte) (n : Nat) : Nat → List Byte → List (List Byte) → List Byte × List (List Byte)
  | 0, a, r => (a, r)
  | t + 1, a, r =>
    let p := kwStep key n (t + 1) a r
    kwLoop key n t p.1 p.2

/-- Groups of eight bytes. -/
def groups8 : Nat → List Byte → List (List Byte)
  | 0, _ => []
  | n + 1, l => l.take 8 :: groups8 n (l.drop 8)

/-- Unwrap a key under RFC 3394; none where the integrity check fails. -/
def kwUnwrap (key w : List Byte) : Option (List Byte) :=
  let n := w.length / 8 - 1
  let p := kwLoop key n (6 * n) (w.take 8) (groups8 n (w.drop 8))
  if w.length % 8 = 0 ∧ n ≥ 1 ∧ p.1 = List.replicate 8 0xA6 then some p.2.flatten else none

/-! ### Cyclic redundancy checks -/

/-- Eight steps of a reflected CRC with polynomial `poly`. -/
def crcBits : Nat → Nat → Nat → Nat
  | 0, _, c => c
  | n + 1, poly, c => crcBits n poly (if c % 2 = 1 then (c / 2) ^^^ poly else c / 2)

/-- A reflected CRC over bytes, from register `c`. -/
def crcRefl (poly : Nat) : List Byte → Nat → Nat
  | [], c => c
  | b :: t, c => crcRefl poly t (crcBits 8 poly (c ^^^ b.toNat))

/-- CRC-32C (Castagnoli), as R237 uses it. -/
def crc32c (l : List Byte) : Nat := crcRefl 0x82F63B78 l 0xFFFFFFFF ^^^ 0xFFFFFFFF

/-- CRC-32 of IEEE 802.3. -/
def crc32 (l : List Byte) : Nat := crcRefl 0xEDB88320 l 0xFFFFFFFF ^^^ 0xFFFFFFFF

/-- Eight steps of a CRC-16 with polynomial `poly`, most significant bit first. -/
def crc16Bits : Nat → Nat → Nat → Nat
  | 0, _, c => c
  | n + 1, poly, c => crc16Bits n poly (if c ≥ 32768 then (2 * c - 65536) ^^^ poly else 2 * c)

/-- A CRC-16 over bytes, most significant bit first, from register `c`. -/
def crc16 (poly : Nat) : List Byte → Nat → Nat
  | [], c => c
  | b :: t, c => crc16 poly t (crc16Bits 8 poly (c ^^^ (b.toNat * 256)))

end Sys2Proof.Crypto
end

