-- ==== Sys2Proof/Machine/State.lean ====
section
/-! DEFINITION. The state of the block as plain data: every piece of state the spec gives it, in parts that follow the chapters, and the queue of
waiting commands; the reasons a command can stop; the state after reset. -/

namespace Sys2Proof.Machine

/-- The modes of Table 18-1. -/
inductive Mode where
  | off | retain | config | ready | printWeb | printScan | service | park | safe
  deriving DecidableEq, Repr

/-- The code of a mode (Table 18-1). -/
def Mode.code : Mode → Nat
  | .off => 0 | .retain => 1 | .config => 2 | .ready => 3 | .printWeb => 4
  | .printScan => 5 | .service => 6 | .park => 7 | .safe => 8

/-- What kind of thing the block sent or drove (the field `kind` of `Out`). -/
inductive OutKind where
  | codeGroups | driveGroups | columnFrame | timeFrame | echoRequest | sideband | abortLane | headPower | idlePair
  | setpoint | bridge | fopReply | fopEvent | fopTunnel | streamAck | streamForward | hostFrame
  | forceCurrent | heaterPulse | ringFrame | hello | delayReq | delayRsp | faultBlock | mirror
  | safeOutputs | faultN | mainEn | reset | busy | arp | ptp | tdo | takeRequest | sscClock
  deriving DecidableEq, Repr

/-- One thing the block sent or drove: its kind, the port, lane or axis it left by, the numbers it carries and its bytes where the
spec lays them out. -/
structure Out where
  kind : OutKind
  port : Nat
  args : List Int
  bytes : List Byte
  deriving DecidableEq, Repr

/-- Deadlines the block keeps; each is armed with an instant of the block's clock under a code and an index. -/
inductive Timer where
  | none | hpSettle | linkState | statusWait | ackWait | timePeriod | sbWait | sbPending
  | tsrSettle | tsrIntegrate | jsConvert | sweepDwell | headStop | capWait | commitPeriod | leaveCommit | thimJournal
  | validation | tZero | deferredTack | streamAckPeriod | hostLock | wdogReset | safeAuto | wakeAfter | parkStep
  | sessionIdle | sessionPending | heldRequest | readSnapshot | writePartial | txnLease | journal | helloWait
  | syncWait | noMaster | calReport | fragment | standbyWait | pairSilence | thimbleAck | takeRetry | cometCollect
  | participant | islandReset | ptpAnnounce | handover | quarantine | holdDelay | drive | spitColumn | bistGroup
  | mainRail | loadWindow | fopAuth | commandReset
  deriving DecidableEq, Repr

/-- A Selvedge source's own bits (STATUS of Table 19-1); its other members are objects. -/
structure Src where
  raised : Bool := false
  active : Bool := false
  eff : Nat := 0
  forced : Bool := false
  deriving DecidableEq, Repr

/-- An entry of the fault log (Table 19-7a). -/
structure LogEntry where
  tNs : Nat
  tFrac : Nat
  source : Nat
  kind : Nat
  cls : Nat
  reaction : Nat
  mode : Nat
  info : Nat
  seq : Nat
  repeats : Nat
  flags : Nat
  deriving DecidableEq, Repr

/-- An event record (Table 16-6). -/
structure EventRec where
  code : Nat
  arg0 : Nat
  arg1 : Nat
  tNs : Nat
  deriving DecidableEq, Repr

/-- One element staged in a locked sequence: the WRITE it came with, its element, its value. -/
structure Staged where
  wr : Nat
  idx : Nat
  sub : Nat
  val : Nat
  deriving DecidableEq, Repr

/-- A locked sequence (R441): its ID, its next WRITE number, the staged elements in staging order. -/
structure Txn where
  id : Nat := 0
  nextWr : Nat := 0
  bytes : Nat := 0
  staged : List Staged := []
  deriving DecidableEq, Repr

/-- A snapshot of a segmented read (R439). -/
structure Snapshot where
  idx : Nat
  sub : Nat
  count : Nat
  data : List Byte
  deriving DecidableEq, Repr

/-- A partial segmented write (R440). -/
structure Partial where
  idx : Nat
  sub : Nat
  count : Nat
  total : Nat
  data : List Byte
  deriving DecidableEq, Repr

/-- A response as it is stored for repeats (R433): its SEQ and the whole message. -/
structure StoredResp where
  seq : Nat
  msg : List Byte
  clk : Nat
  deriving DecidableEq, Repr

/-- What a request's body says (Tables 16-2 and 16-5; R429, R445): `bad` is a body that breaks the layout of its type. -/
inductive ReqBody where
  | opn (role maxMsg nonce : Nat)
  | close | keepalive | txnBegin | txnCommit | txnAbort
  | read (idx sub count width lane off : Nat)
  | write (idx sub count width lane off total : Nat) (data : List Byte)
  | describe (idx sub : Nat)
  | subscribe (mask : Nat)
  | bad (typ : Nat) (bytes : List Byte)
  deriving DecidableEq, Repr

/-- A request held until every lower SEQ has been executed (R433), and the clock at which it is given up. -/
structure HeldReq where
  env : FopEnv
  body : ReqBody
  due : Nat
  deriving DecidableEq, Repr

/-- A FOP session (R429 to R447). `st` is 0 FREE, 1 PENDING, 2 OPEN; `ftFrac` the fraction of FT at the session's last read of FT_NS (Table 2-6). -/
structure Session where
  st : Nat := 0
  role : Nat := 0
  maxMsg : Nat := 0
  n : Nat := 0
  lane : Nat := 0
  ip : Nat := 0
  port : Nat := 0
  evLane : Nat := 0
  evIp : Nat := 0
  evPort : Nat := 0
  key : List Byte := []
  mask : Nat := 0
  events : List EventRec := []
  evSeq : Nat := 0
  lost : Nat := 0
  stored : List StoredResp := []
  held : List HeldReq := []
  snap : Option Snapshot := none
  part : Option Partial := none
  txn : Option Txn := none
  ftFrac : Nat := 0
  deriving DecidableEq, Repr

/-- A journal record of the retention store (R461): the elements it holds, whether its CRC is good, the whole ns of FT. -/
structure JRec where
  entries : List (Nat × Nat)
  valid : Bool
  tNs : Nat
  deriving DecidableEq, Repr

/-- A stop in progress (R20, R21, R163): rank 2 with its seam, whether it is a head stop, the cause (source number, or 65535 for the host). -/
structure Stop where
  seam : Option Nat
  headStop : Bool
  cause : Nat
  deriving DecidableEq, Repr

/-- The phases of R477. -/
inductive Phase where
  | steady | stopping | headStop | parking | waking
  deriving DecidableEq, Repr

/-- The code of a phase (R477). -/
def Phase.code : Phase → Nat
  | .steady => 0 | .stopping => 1 | .headStop => 2 | .parking => 3 | .waking => 4

/-! ### Rows of the object dictionary -/

/-- The shape an object's table gives it (R455): a member of a record or other single value, a scalar, a zero-based array
(subindex = port, primitive or nozzle number, R5), a one-based array. -/
inductive Shape where
  | scalar | member | zero | one
  deriving DecidableEq, Repr

/-- Access kinds (Table 17-3). -/
inductive Access where
  | ro | rw | wo | rwr | konst
  deriving DecidableEq, Repr

/-- Default sources (Table 17-3). -/
inductive DefSrc where
  | factory | retained | reset
  deriving DecidableEq, Repr

/-- The reset value of an object: a number, or the rule its table names. -/
inductive Rst where
  | const (n : Nat)
  | elementNumber | spoolOwner | spoolState | spoolFlags | dist
  | srcMask | srcClass | srcReaction | srcEsc | srcFlags
  | device | macAddr | roleKeyInfo | objectCount
  deriving DecidableEq, Repr

/-- The stated range of a value in itself: any value of the type, an interval, a list, a mask of defined bits, or either of two intervals. -/
inductive Dom where
  | any
  | range (lo hi : Int)
  | oneOf (l : List Nat)
  | mask (m : Nat)
  | either (a b c d : Int)
  deriving DecidableEq, Repr

/-- A row of the object tables: name, shape, first index, distance between the indexes of a numbered family and their count, first
subindex and number of subindexes, elements inside one member value, bytes of an element (0: variable), largest value in bytes, type
index (Table 17-2), access, default source, reset value, range. -/
structure Ob where
  name : String
  shape : Shape
  idx : Nat
  stride : Nat
  cnt : Nat
  sub : Nat
  nsub : Nat
  nel : Nat
  size : Nat
  max : Nat
  ty : Nat
  acc : Access
  src : DefSrc
  rst : Rst
  dom : Dom
  deriving DecidableEq, Repr

/-- A run of sources with the same defaults: first and last number, class (0 C, 1 U, 2 F), fixed, masked at reset, reaction code
(Table 19-3), ESC at reset, level source (Table 19-12). -/
structure SrcRow where
  first : Nat
  last : Nat
  cls : Nat
  fixed : Bool
  masked : Bool
  reaction : Nat
  esc : Bool
  level : Bool
  deriving DecidableEq, Repr

/-- A counted edge or SSI sample: its timestamp in 2^-16 ns of FT, the count after it. -/
structure Edge where
  t : Int
  cnt : Int
  deriving DecidableEq, Repr

/-- A speed value (R41): px/s, and the midpoint of its interval in 2^-16 ns. -/
structure SpeedVal where
  v : Rat
  mid : Rat
  deriving DecidableEq, Repr

/-- A feedback channel beside its record: the input levels last decoded (none until the first ones after the channel was enabled or its signal returned),
the last SSI value and the clock of the last sample, the edges since the held edge (newest first), the speed values since the last exit
from HELD (newest first), the estimate, the clock of the newest edge (or of the MODE write), what the next Tack will carry, edges since the last
TACK_EDGES trigger (R28 to R44). -/
structure Chan where
  lev : Option Nat := none
  raw : Option Nat := none
  sampleAt : Option Nat := none
  edgeAt : Nat := 0
  last : Option Edge := none
  interval : Int := 0
  dir : Int := 0
  held : Bool := false
  edges : List Edge := []
  vals : List SpeedVal := []
  v : Rat := 0
  acc : Rat := 0
  counted : Bool := false
  fresh : Bool := false
  discarded : Bool := false
  index : Bool := false
  countError : Bool := false
  clamped : Bool := false
  edgesSince : Nat := 0
  lastTack : Option Nat := none
  waiting : Bool := false
  seq : Nat := 0
  lost : Bool := false
  deriving DecidableEq, Repr

/-- A Tack (Table 2-3): position in Q40.24 px, time in 2^-16 ns, flags, speed in Q24.8 px/s, SEQ, SOURCE, and the acceleration its latching
estimator had (R41, R49). -/
structure Tack where
  pos : Int
  t : Nat
  flags : Nat
  speed : Int
  seq : Nat
  source : Nat
  acc : Rat
  deriving DecidableEq, Repr

/-- A landing still to come, or past and without its residual (R56, R58): port, job column, row-group, landing time in 2^-16 ns, target in
Q40.24, and whether PLACEMENT has been raised for its column. -/
structure Landing where
  port : Nat
  col : Nat
  rg : Nat
  t : Int
  target : Int
  flagged : Bool
  deriving DecidableEq, Repr

/-- The predictor (R45, R51): reference Tack and its acceleration, SEQ and time of the last Tack accepted of each source, when the newest Tack
was accepted and its time, the accepted Tacks without HELD_POS (newest first), speed values of ring Tacks, landings, and the instant the
newest commanded state took effect; whether TACK_STALE has been raised for the present staleness (R50). -/
structure Pred where
  ref : Option Tack := none
  acc : Rat := 0
  last : Tab (Nat × Nat) := []
  acceptedAt : Option Nat := none
  newest : Option Nat := none
  hist : List Tack := []
  vals : List SpeedVal := []
  landings : List Landing := []
  cmdSeq : Nat := 0
  cmdState : Option Nat := none
  cmdLatched : Option Nat := none
  staleRaised : Bool := false
  deriving DecidableEq, Repr

/-- The Thimble side of a port (R178 to R191): the keys of the instance, its slot, the next step number, whether it is authenticated and must be renewed
before the next commit; the update in flight (target COUNT and CSEQ), whether its step is on the link, whether a trigger waits for its end; drops
acknowledged since the trigger, when the oldest uncommitted acknowledgement came and the oldest since the trigger; THIM_OVERDUE raised; ACC changed since
the journal entry; waiting for the standby's acknowledgement, and the SEQ of the record it must name (2^32 until the record has left). -/
structure Thim where
  kh : List Byte := []
  ks : List Byte := []
  nonce : List Byte := []
  slot : Option Nat := none
  nextStep : Nat := 1
  authed : Bool := false
  renew : Bool := false
  flight : Option (Nat × Nat) := none
  sending : Bool := false
  again : Bool := false
  since : Nat := 0
  first : Option Nat := none
  firstSince : Option Nat := none
  overdue : Bool := false
  changed : Bool := false
  writeFails : Bool := false
  mirrorWait : Bool := false
  mirrorSeq : Nat := 0
  deriving DecidableEq, Repr

/-- A Thimble journal entry of the retention store (R188): CARRIER_ID, BASE_COUNT, BASE_CSEQ, ACC, the update in flight. -/
structure ThimEntry where
  carrier : Nat
  base : Nat
  cseq : Nat
  acc : Nat
  flight : Option (Nat × Nat)
  deriving DecidableEq, Repr

/-- An analogue front-end channel (R152 to R171): 0 free, 1 measuring a die, 2 sweeping one, 3 opening a switch; the port; for a sweep the tick of
its first connection, its first nozzle, whether the die has armed it, instances refused, whether to pause at the end of the present dwell; for a
measurement the whole ns at which integration began; the force current in µA. -/
structure Afe where
  kind : Nat := 0
  port : Nat := 0
  start : Nat := 0
  base : Nat := 0
  armed : Bool := false
  tries : Nat := 0
  pause : Bool := false
  force : Nat := 0
  deriving DecidableEq, Repr

/-- Consecutive samples of a head-supply input that met each test of Table 6-8. -/
structure HsRun where
  uv : Nat := 0
  ov : Nat := 0
  stuck : Nat := 0
  deriving DecidableEq, Repr

/-- The values of a plane map (R198 to R208): INTERLEAVE, SUBCOL, the 48 entries of DIST, the 256 of RG_MAP (port n row-group g at 4n + g). -/
structure PlaneMap where
  u : Nat
  s : Nat
  dist : List Nat
  rgMap : List Nat
  deriving DecidableEq, Repr

/-- A staged block of a page (R267): staging address, SRC_LEN, plane, first line and line count, first position and position count, SSN, and how
its decode stands in the page's window (R247, R250): whether it is being decoded, has ended OK or was declared bad, has been tried once. -/
structure Block where
  addr : Nat
  len : Nat
  plane : Nat
  line : Nat
  lines : Nat
  pos : Nat
  poss : Nat
  ssn : Nat
  busy : Bool
  done : Bool
  bad : Bool
  tried : Bool
  freed : Bool
  levels : List Byte
  deriving DecidableEq, Repr

/-- A spit band of a page (R86, R271). -/
structure Band where
  pattern : Nat
  first : Nat
  count : Nat
  deriving DecidableEq, Repr

/-- A MEASURE of a page (R271). -/
structure Measure where
  atCol : Nat
  js : Nat
  ports : Nat
  deriving DecidableEq, Repr

/-- A page or pass (R197, R590): its parameters, the plane map bound to it, B and C, its done counts by plane, its blocks, bands and measures,
whether it has started, failed its tests, found no room for its window (R297), been spoiled, the SSN of its PAGE_START, the committed carries of its
nozzles (R219), the column after the last Comet seam (R16), the line slot of its first line (R246), and the column after its last SPIT_BAND, applied or
late (R271). -/
structure Page where
  no : Nat
  pass : Nat
  dir : Int
  mask : Nat
  final : Bool
  lines : Nat
  xshift : Int
  origin : Int
  map : Option PlaneMap := none
  base : Nat := 0
  cols : Nat := 0
  started : Bool := false
  failed : Bool := false
  spoiled : Bool := false
  window : Nat := 0
  bandTop : Nat := 0
  noSpace : Bool := false
  ssn : Nat := 0
  done : Tab Nat := []
  blocks : List Block := []
  bands : List Band := []
  measures : List Measure := []
  carries : Tab Int := []
  resume : Nat := 0
  deriving DecidableEq, Repr

/-- The job in progress (R265 to R277): started, JOB_END processed, its last column settled, the next page's B. -/
structure Job where
  active : Bool := false
  ended : Bool := false
  settled : Bool := true
  nextBase : Nat := 0
  deriving DecidableEq, Repr

/-- A column of a port from its assembly until it is no longer needed (R79 to R116). `col` is the job column number; `fire` the fire bits by
primitive; `carry` and `counts` the tentative changes of carries and Darning counts (R218); `free` the carry-free fire bits (R406); `units` the primitives whose unit has started, `unitsDone`
those finished, bit 64 standing for the re-map (R115); `e5` the kept energies by nozzle, `idx` the indexes by nozzle; `gen` the generation used (0: more than
one); `old` values of Bobbin tables written since its first unit started (R106); `ticks` the issued start ticks, `ref` the column reference instant t_ref(c)
(R55); `step` the ticks between columns of the spit run it belongs to; `histLo` the column its history reaches back to (R105). -/
structure Col where
  col : Nat
  spit : Option Nat := none
  run : Bool := false
  step : Nat := 0
  ref : Int := 0
  asm : Bool := false
  fire : List Nat := []
  carry : List (Nat × Int) := []
  free : List Nat := []
  counts : List Nat := []
  gated : Bool := false
  ticks : List Nat := []
  nslot : Nat := 0
  nspan : Nat := 0
  units : Nat := 0
  unitsDone : Nat := 0
  e5 : Tab Nat := []
  idx : Tab Nat := []
  gen : Nat := 0
  gateGen : Nat := 0
  genE : List Nat := []
  complete : Bool := false
  histLo : Nat := 0
  old : Tab Nat := []
  sent : Bool := false
  sentEnd : Nat := 0
  attempt : Nat := 0
  accepted : Bool := false
  settled : Bool := false
  lost : Bool := false
  dropped : Bool := false
  acked : Bool := false
  deriving DecidableEq, Repr

/-- A conversation on the sideband (R138 to R143): CONV, its next step, what it does at its end (0 bring-up, 1 rotation, 2 phase groups,
3 table load, 4 measurement, 5 sweep, 6 commit, 7 verify, 8 retry of authentication, 9 forced resistance), the data it has gathered. -/
structure Conv where
  conv : Nat
  step : Nat := 1
  why : Nat := 0
  data : List Byte := []
  arg : Nat := 0
  deriving DecidableEq, Repr

/-- The outstanding sideband request: SEQ, CONV, OP, STEP, ARG, payload, timeouts met. -/
structure SbReq where
  seq : Nat
  conv : Nat
  op : Nat
  step : Nat
  arg : Nat
  data : List Byte
  tries : Nat
  deriving DecidableEq, Repr

/-- A die-temperature measurement waiting for its model correction (R110): T_m in Q8.8, its instant t_m in whole ns, raw value, flags, the model step in which
its result arrived. -/
structure MeasWait where
  temp : Int
  tNs : Nat
  raw : Nat
  status : Nat
  step : Nat := 0
  deriving DecidableEq, Repr

/-- The thermal model of a port (R107 to R111): T̂ in Q8.24, the end-of-step values kept (newest first), the number of the step that has not ended, the energy
credited in each step that has not ended in Q40.8 nJ, T̂ after the last correction, the measurements waiting with the step each arrived in. -/
structure Therm where
  t : Int := 419430400
  kept : List Int := []
  step : Nat := 0
  q : Tab Nat := []
  prev : Option Int := none
  waiting : List MeasWait := []
  deriving DecidableEq, Repr

/-- A head port beside its objects (ch. 3 to 6): bring-up, sideband (with the count of responses that matched no request, R139, which no object shows), columns,
generation, thermal model. `laneFree` is the FT in 2^-16 ns from which the downstream lane is free again (R124), `txPlus` and `rxPlus` the running disparity of the
two lanes (R121), `rxErr` which of the last 64 symbols received were code errors, newest in bit 0; `sbHeld` and `timeHeld` say that a request or a TIME frame
(2: with REALIGN) waits for the lane (R144). `rateVal`: the validation that runs was started by an F_SET or PHASE_GROUPS write (R76); `gWant` the phase groups validations use,
`gDie` those of the die's configuration (R143); `fSlot`, `fSpan`, `fGen`, `fGenE` the slot timing and generation that a gate fixes now (R77). `histFrom` is the
column the history last restarted at (R105); `away` says that the port left READY during the job and that the columns from its floor are lost on it (R591). -/
structure Port where
  trainFails : Nat := 0
  echoes : List Int := []
  finalTime : Bool := false
  timeFaults : Nat := 0
  before : Nat := 0
  retrained : Bool := false
  powerAt : Nat := 0
  offAt : Nat := 0
  queue : List Conv := []
  conv : Option Conv := none
  req : Option SbReq := none
  seq : Nat := 0
  epoch : Nat := 0
  syncSince : Bool := false
  unmatched : Nat := 0
  failedResumes : Nat := 0
  cfgWait : Bool := false
  enumerated : Bool := false
  loaded : List Nat := []
  tableWanted : Bool := false
  rotDie : List Nat := []
  cols : List Col := []
  floor : Nat := 0
  gateNext : Nat := 0
  runBase : Nat := 0
  validating : Bool := false
  rateVal : Bool := false
  fValid : Nat := 72000
  gWant : Nat := 1
  gDie : Nat := 1
  fSlot : Nat := 347
  fSpan : Nat := 331
  fGen : Nat := 0
  fGenE : List Nat := []
  gen : Nat := 0
  genE : List Nat := []
  histFrom : Nat := 0
  away : Bool := false
  laneFree : Nat := 0
  txPlus : Bool := false
  rxPlus : Bool := false
  rxErr : Nat := 0
  sbHeld : Bool := false
  timeHeld : Nat := 0
  therm : Therm := {}
  thim : Thim := {}
  closing : Bool := false
  takes : Nat := 0
  accTop : Option Nat := none
  held : Nat := 0
  abortCol : Option Nat := none
  statusAt : Option Nat := none
  deriving DecidableEq, Repr

/-- A spit run (R85): its pattern, the next pattern column, the tick its first column starts at, its first job column number, the ticks from one column to the
next. -/
structure Spit where
  pattern : Nat
  next : Nat
  startTick : Nat
  base : Nat
  step : Nat
  deriving DecidableEq, Repr

/-- The Comet (R353 to R361): position at T_r, required point and rest position in px, reaches collected in Q40.24 and those that came too late, whether a Comet of this job has
been decided, columns settled since the last one's S + 1, the direction, the seam condition reported, replies of the participants (node: bit 0
SEAM_DONE, bit 1 READY), whether this controller takes part as non-owner. -/
structure Comet where
  id : Nat := 0
  sigma : Int := 1
  xTr : Rat := 0
  xReq : Rat := 0
  xRest : Rat := 0
  reaches : List Int := []
  late : List Int := []
  any : Bool := false
  ramping : Bool := false
  seamDone : Bool := false
  readySent : Bool := false
  parts : Tab Nat := []
  guest : Bool := false
  laWasLow : Bool := false
  blank : List Nat := []
  deriving DecidableEq, Repr

/-- The work of a decoder AV0 to AV3 on its block (R226 to R250): block address, SRC_LEN, TAG, the limit it took (R242), the window block it serves (page
base, SSN), its header, the code lengths of a DYNAMIC body; N, prev and the dictionary strings from 258 on, newest first (R229); body bits read, codes
read, decoded bytes written so far (newest first), bytes of the present string still to write, bytes of the block read, the status the block will end
with once that string is written; descriptors used, the present one's address and free bytes. -/
structure Decoder where
  src : Nat := 0
  len : Nat := 0
  tag : Nat := 0
  limit : Nat := 0
  win : Option (Nat × Nat) := none
  hdr : List Byte := []
  lens : List Nat := []
  n : Nat := 258
  prev : Option (List Byte) := none
  dict : List (List Byte) := []
  bits : Nat := 0
  codes : Nat := 0
  out : List Byte := []
  pend : List Byte := []
  inBytes : Nat := 0
  desc : Bool := false
  used : Nat := 0
  addr : Nat := 0
  room : Nat := 0
  deriving DecidableEq, Repr

/-- The stream receiver (R257 to R274): payloads received ahead of NEXT_DSEQ, joined bytes not yet processed, the expected SSN, ACKs sent, lane and
UDP port of the last accepted datagram, when STREAM_DISCARD was last raised, the staging ring's write offset; where the next record stands (0 outside
a job, 1 in a job between passes, 2 within a pass), the last PAGE_START (PAGE_NO, PASS, final) with its LINES, whether the record before was its PAGE_END,
the last PAGE_NO of a PASS 0, the block index of that page, and the ports taken down for the JOB_START at the front (R270); the page its records stand in once
that has ended before its PAGE_END; the bytes of the BLOCK at the front already in staging (R283); the newest datagram accepted from SL1: DSEQ, clock, bytes
that joined from it on, its length (R259). -/
structure Stream where
  got : List (Nat × List Byte) := []
  bytes : List Byte := []
  ssn : Nat := 0
  acks : Nat := 0
  lane : Option Nat := none
  port : Nat := 0
  discardAt : Option Nat := none
  off : Nat := 0
  place : Nat := 0
  last : Option (Nat × Nat × Bool) := none
  direct : Bool := false
  lastNo : Option Nat := none
  idx : List Block := []
  down : Nat := 0
  ended : Option Page := none
  put : Nat := 0
  rival : Option (Nat × Nat × Nat × Nat) := none
  deriving DecidableEq, Repr

/-- A DMA channel beside its objects (R279 to R286): its bucket in eighths of a byte and when that held, the descriptor granted, the status it will end
with without moving bytes (0: it moves), rows and bytes of the present row already moved. -/
structure DmaCh where
  tokens : Nat := 0
  tokensAt : Nat := 0
  desc : Nat := 0
  fail : Nat := 0
  row : Nat := 0
  col : Nat := 0
  deriving DecidableEq, Repr

/-- A segment of constant jerk of a move (R322): acceleration at its start, jerk, duration in seconds. -/
structure Seg where
  a : Rat
  j : Rat
  dur : Rat
  deriving DecidableEq, Repr

/-- What an axis will do from its next evaluation instant: keep its profile, stop (R327), go to a position at rest with a speed limit, run at a speed
(towards a soft limit, where it has one). -/
inductive Plan where
  | keep
  | stop
  | to (target vmax : Rat)
  | vel (speed : Rat) (limit : Option Rat)
  deriving DecidableEq, Repr

/-- The generator of one axis (R322 to R347). Times are in seconds of FT; positions in units. `x`, `v`, `a` hold at `tEval`; `segs` remain; `plan` waits for
the next evaluation instant; `target` is where the profile ends, if at a position; `off` is the motor's position less the coordinate (R329); `home` is 1
while a HOME run searches and 2 once it has its edge, from `homeFrom`; `res` tells how the last move stands (1 running, 2 done, 3 failed). Drive Link: SEQ
of the last SETPOINT, POS of the last two frames in Q48.16, newest first, the running disparity, STATUS frames missing in a row. Stepper: the microstep of the strong-mode
period in progress; runs of failing periods of each test by phase and of VBUS outside its limits; HOLD_VOLT in force; strong mode barred. Gear: the
positions captured at engagement. Hem's armed copy. The sources that caused BRAKED, FALLBACK or FAULTED. -/
structure Axis where
  x : Rat := 0
  v : Rat := 0
  a : Rat := 0
  tEval : Rat := 0
  segs : List Seg := []
  plan : Plan := .keep
  target : Option Rat := none
  off : Rat := 0
  home : Nat := 0
  homeFrom : Rat := 0
  res : Nat := 0
  everEnabled : Bool := false
  setSeq : Nat := 0
  sent : List Int := []
  dlPlus : Bool := false
  missed : Nat := 0
  micro : Option Nat := none
  openA : Nat := 0
  openB : Nat := 0
  implA : Nat := 0
  implB : Nat := 0
  uvRun : Nat := 0
  ovRun : Nat := 0
  hold : Bool := false
  strongBarred : Bool := false
  captM : Rat := 0
  captF : Rat := 0
  armDec : Nat := 0
  armEnd : Nat := 0
  armQuiet : Nat := 0
  armBemf : Nat := 0
  armHold : Nat := 0
  causes : List Nat := []
  deriving DecidableEq, Repr

/-- Motion as a whole: the phase of the cap sequence (0 none, 1 LIFT, 2 CAP), the axes whose CAP move it awaits, whether the last one completed; groups
whose stop runs, groups to be disengaged at rest; the last servo tick in ns, the last boundary of each PWM_FREQ, the clock of each axis's last reference
test. -/
structure Motion where
  axes : Tab Axis := []
  capPhase : Nat := 0
  capAxes : List Nat := []
  capDone : Bool := false
  groupStops : List Nat := []
  gearOff : List Nat := []
  servo : Option Nat := none
  pwm : Tab Nat := []
  sense : Tab Nat := []
  deriving DecidableEq, Repr

/-- A member of a redundant pair beside its objects (ch. 15). As standby: whether its snapshot is whole, the ID and kinds received of the one coming in,
its bytes by kind; SEQ and arrival of the last mirror record; the last new ACCEPT seen on a shared die; the last PAIR_DIVERGE; COMET_STATE, COMET_ID and
SEAM of the last EPHEM record; the numbers of the last STREAM record; changes waiting for their column (REF, dry, index, value); the takeover column while it takes, and the trigger. As active
member: the next column to report, the column and Tack of the last gate, the last STANDBY record, whether its loss is raised; the paced records still to send
(RTYPE, REF, body; oldest first) and the clock from which the next may go (R407). As standby: what the present
silence has brought about (0 nothing, 1 dies still live, 2 the trigger; R413). -/
structure Pair where
  snapOk : Bool := false
  snapId : Nat := 0
  snapKinds : Nat := 0
  snapBuf : Tab (List Byte) := []
  rxSeq : Option Nat := none
  lastRec : Option Nat := none
  lastAccept : Option Nat := none
  divergeAt : Option Nat := none
  ephem : Nat × Nat × Nat := (0, 0, 0)
  stream : List Nat := []
  due : List (Nat × Bool × Nat × Nat) := []
  take : Option Nat := none
  trigger : Nat := 0
  nextCol : Nat := 0
  gateJ : Nat := 0
  gateSeq : Nat := 0
  standbyAt : Option Nat := none
  standbyLost : Bool := false
  paced : List (Nat × Nat × List Byte) := []
  pacedAt : Nat := 0
  silenced : Nat := 0
  deriving DecidableEq, Repr

/-- A message being put together from its fragments (R372): source, type, SEQ, when its first fragment came, the fragments (offset, bytes), the length its
last fragment gives. -/
structure Frag where
  src : Nat
  typ : Nat
  seq : Nat
  since : Nat
  parts : List (Nat × List Byte) := []
  total : Option Nat := none
  deriving DecidableEq, Repr

/-- A JOIN the master holds (R378): node, serial, the neighbours' IDs (none where the port is not UP), FLAGS, FT_NS. -/
structure JoinRec where
  node : Nat
  serial : Nat
  ke : Option Nat
  kw : Option Nat
  flags : Nat
  ft : Nat
  deriving DecidableEq, Repr

/-- A store-and-forward frame that waits at a ring port (R373, R375). -/
structure RingTx where
  port : Nat
  bytes : List Byte
  deriving DecidableEq, Repr

/-- The ring side of the controller beside its objects (R368 to R402): the last SEQ delivered of each source and type; messages in pieces; per port the HELLOs
in a row, when the last was sent, whether one has come since LOCKING; JOINs held by the master; segments of the TOPO coming in (epoch, entries by place); when
SYNC and TACK were last sent, whether the next SYNC carries STEP, whether another master has silenced this one; the source and SEQ of the last SYNC
used; f of R383 in ns per ns, SYNCs in a row within 20 ns and beyond 100 ns; the trim at PRINT entry; the KE measurement in progress (CAL_ID, next index,
t1 by index, delays found) and whether one was out of range; CAL_ID, nodes whose link is not yet reported, the delays reported; fault
blocks forwarded (ORIGIN, FSEQ, port) and their count; nodes of a ring-wide sweep and its mask; the store-and-forward frames waiting at the ports (R375) and, per
port, when what it sends ends (in 0.02 ns of the block's clock); whether a link of the sweep was cut off (R397); the Planet of each Moon enlisted (R404); whether the newest offset was ahead (R383). -/
structure Ring where
  rx : Tab Nat := []
  frags : List Frag := []
  run : Tab Nat := []
  helloAt : Tab Nat := []
  heard : Tab Nat := []
  joins : List JoinRec := []
  seg : Nat × Tab Nat := (0, [])
  syncAt : Option Nat := none
  tackAt : Option Nat := none
  topoAt : Option Nat := none
  joinAt : Option Nat := none
  step : Bool := false
  silenced : Bool := false
  used : Option (Nat × Nat) := none
  f : Rat := 0
  good : Nat := 0
  bad : Nat := 0
  trimBase : Int := 0
  calOf : Nat := 0
  reqNext : Nat := 16
  reqAt : Nat := 0
  t1 : Tab Nat := []
  delays : List Rat := []
  out : Bool := false
  calId : Nat := 0
  calLeft : List Nat := []
  links : Tab Nat := []
  blocks : List (Nat × Nat × Nat × Nat) := []
  sweepMask : Nat := 0
  moons : Tab Nat := []
  queue : List RingTx := []
  freeAt : Tab Nat := []
  calLost : Bool := false
  ahead : Bool := false
  deriving DecidableEq, Repr

/-- The PTP slave (R386): Sync messages in a row within 100 ns, whether FT has adopted PTP time since the reset, the fields of the best Announce. -/
structure Ptp where
  good : Nat := 0
  adopted : Bool := false
  best : List Byte := []
  deriving DecidableEq, Repr

/-- A BIST group that runs (R536): its number, when it started, whether a ring port was UP and which SerDes lanes had block lock then (R539). -/
structure BistRun where
  group : Nat
  since : Nat
  ringUp : Bool
  lanes : Nat
  deriving DecidableEq, Repr

/-- BIST beside its objects (ch. 21): the run (0 none, 1 PARK, 2 start-up), the groups still to run, those running, when the run began, whether its mark will
not be written, the failing bits recorded; a run that was begun and has not ended (kept over resets); the spares in use, row by row, of each memory (the repair map, kept over resets). -/
structure Bist where
  kind : Nat := 0
  todo : List Nat := []
  running : List BistRun := []
  began : Nat := 0
  spoiled : Bool := false
  found : Nat := 0
  cut : Bool := false
  repairs : Tab (List Nat) := []
  deriving DecidableEq, Repr

/-- Everything the block holds beside its addressed memory and its queue. -/
structure Core where
  /-- The model's own clock: half nanoseconds since its first state. -/
  clk : Nat := 0
  /-- Fenax Time in units of 2^-33 ns (R24: whole part, 16-bit fraction, and what the rate trim adds below it). -/
  ftAcc : Nat := 0
  /-- The present mode (R475). -/
  mode : Mode := .off
  /-- The phase of the present mode (R477). -/
  phase : Phase := .waking
  /-- CONFIG has been reached since the last device reset (R448). -/
  configReached : Bool := false
  /-- The objects of the dictionary that hold a value other than read live (R454). -/
  objs : Tab Nat := []
  /-- Completion status of the last accepted write of each writable element (R437). -/
  comp : Tab Nat := []
  /-- Retained elements changed and not yet journaled, oldest change first (R461). -/
  dirty : List Nat := []
  /-- The clock at the oldest change not yet journaled. -/
  dirtySince : Option Nat := none
  /-- The journal of the retention store, newest record first (R461). -/
  journal : List JRec := []
  /-- A journal write has failed and RET_JOURNAL stands (R463). -/
  journalFailing : Bool := false
  /-- Selvedge's sources (R495). -/
  src : Tab Src := []
  /-- FAULT_LOG, newest first, at most 4,096 entries (R506). -/
  log : List LogEntry := []
  /-- FAULT_LOG_RET, newest first, at most 256 entries, kept across resets (R506). -/
  logRet : List LogEntry := []
  /-- Occurrences that arise while another is registered: LOG_WRAP (R506), FOP_EVENT_LOST (R447). -/
  alsoRaise : List Nat := []
  /-- The clock at entry to the Hem safe state (R503). -/
  safeSince : Option Nat := none
  /-- The safety-island watchdog has expired (R505). -/
  wdogExpired : Bool := false
  /-- FOP sessions by handle (R430). -/
  sess : Tab Session := []
  /-- Transaction ID of the last locked sequence (R441). -/
  txnId : Nat := 0
  /-- Clock instants of the NO_SESSION replies of the last second, per host port (R431). -/
  noSess : Tab (List Nat) := []
  /-- The stop in progress (R20). -/
  stop : Option Stop := none
  /-- Everything the block has sent or driven, newest first. -/
  out : List Out := []
  /-- The abort code answered to the last host request executed (Table 16-7). -/
  lastStatus : Nat := 0
  /-- Armed deadlines, by timer code and index. -/
  timers : Tab Nat := []
  /-- The model's own counter that feeds the free values. -/
  freeCount : Nat := 0
  /-- The feedback channels FB0 to FB7 (R28 to R44). -/
  chans : Tab Chan := []
  /-- The Tack buffers (R46): FB0 to FB7, 8 commanded, 9 ring; newest first, at most 64. -/
  tacks : Tab (List Tack) := []
  /-- The predictor (R51). -/
  pred : Pred := {}
  /-- The head ports HP00 to HP63. -/
  ports : Tab Port := []
  /-- Pages and passes whose PAGE_START has been processed and which have not ended, in stream order (R590). -/
  pages : List Page := []
  /-- The job (R265). -/
  job : Job := {}
  /-- Plane-map values staged by PLANE_SETUP (R202). -/
  staged : Option PlaneMap := none
  /-- Job columns for which the drop decision of R82 has been made: column, dropped. -/
  decided : List (Nat × Bool) := []
  /-- The Comet seam in force: no column after it is gated until the resume (R353, R360). -/
  hold : Option Int := none
  /-- The spit run in progress (R85). -/
  spit : Option Spit := none
  /-- The job column number after the highest one sent since the last bring-up for a job (R133 test 6, R270). -/
  colTop : Nat := 0
  /-- Lane cycles spent in the present load window of Bobbin (R96). -/
  bobCycles : Nat := 0
  /-- The units running on Bobbin's lanes: port, column, primitive; at most eight (R93). -/
  lanes : List (Nat × Nat × Nat) := []
  /-- The Comet (ch. 13). -/
  comet : Comet := {}
  /-- The step of a head stop (Table 6-6); 0 while none runs. -/
  headStep : Nat := 0
  /-- FSEQ of the last fault block originated (R389). -/
  fseq : Nat := 0
  /-- SEQ of the last frame originated of each ring frame type (R370). -/
  ringTx : Tab Nat := []
  /-- The staging ring (R274): SSN, bytes, released; in SSN order. -/
  stage : List (Nat × Nat × Bool) := []
  /-- The Thimble journal entries of the ports (R188). -/
  thimJ : Tab ThimEntry := []
  /-- The elements of ORPHANS in use, oldest first (R189). -/
  orphanAge : List Nat := []
  /-- Ports whose die temperature is requested and not yet served (R155). -/
  measPending : Nat := 0
  /-- Junction sensors requested while a conversion runs (R155). -/
  jsPending : Nat := 0
  /-- Junction sensors being converted (R160). -/
  jsRunning : Nat := 0
  /-- Whole ns of FT at which the conversion began. -/
  jsStart : Nat := 0
  /-- The analogue front-end channels AC00 to AC31. -/
  afe : Tab Afe := []
  /-- The stored value of the front end's precision reference, in Q16.16 Ω (R174). -/
  afeRef : Nat := 1000 * 65536
  /-- Valid measurements by SENSOR (Table 6-3), newest first: T_NS and TEMP (R161). -/
  meas : Tab (List (Nat × Int)) := []
  /-- TEMP of the previous valid measurement of each die since its enumeration (R164). -/
  prevTemp : Tab Int := []
  /-- Head-supply inputs HSV0 to HSV15 (R173). -/
  hsRuns : Tab HsRun := []
  /-- The keys of the Thimble key slots KS0 to KS7 (R179); programmed once, readable by nothing. -/
  slotKeys : Tab (List Byte) := []
  /-- The role keys written since manufacture, by role (R428); readable by nothing. -/
  roleKeys : Tab (List Byte) := []
  /-- Ports that have raised SWEEP_DEAD in their present sweep (R170). -/
  sweepDead : Nat := 0
  /-- Nozzles whose latest sweep result was classified at step 3 or 4 of R170. -/
  sweepOk : Tab Nat := []
  /-- The ring-wide sweep this controller takes part in (R395): SWEEP_ID, the ports named, the ports completed. -/
  ringSweep : Option (Nat × Nat × Nat) := none
  /-- SWEEP_ID and completed ports of the last ring-wide sweep completed here. -/
  ringSweepLast : Option (Nat × Nat) := none
  /-- The highest job column that has completed on any port (R271). -/
  doneTop : Option Nat := none
  /-- The decoders AV0 to AV3 (R238), each while it holds a block. -/
  decs : Tab Decoder := []
  /-- The stream receiver (R257). -/
  stream : Stream := {}
  /-- MEASUREs whose AT_COL lies past their page's columns and whose page has ended (R271). -/
  measDue : List Measure := []
  /-- The DMA channels, 16 × engine + channel (R278). -/
  dma : Tab DmaCh := []
  /-- The channel each engine granted last (R282). -/
  dmaLast : Tab Nat := []
  /-- The engine whose burst the fabric granted last (R284). -/
  dmaTop : Nat := 7
  /-- Words of Spool and DRAM that have given an uncorrectable error and have not been written whole since: address / 8, rising (R298, R310). -/
  badWords : List Nat := []
  /-- Spool banks whose owner is being handed over, port B of SB48 and SB49 as 50 and 51, with the owner they still have (R294). -/
  handing : Tab Nat := []
  /-- DRAM_ECC as it took effect at the last wake from OFF (R310). -/
  dramEcc : Bool := true
  /-- Baste's next region of each bank (R304). -/
  basteNext : Tab Nat := []
  /-- Times in a row the present region of a bank was abandoned (R305). -/
  basteTries : Tab Nat := []
  /-- The clock at which Baste last visited a region of each bank (R304). -/
  basteAt : Tab Nat := []
  /-- Banks whose pass of Baste is complete. -/
  basteDone : List Nat := []
  /-- Motion (R319 to R351). -/
  mot : Motion := {}
  /-- The ring (R368 to R402). -/
  ring : Ring := {}
  /-- The PTP slave (R386). -/
  ptp : Ptp := {}
  /-- The redundant pair (ch. 15). -/
  pair : Pair := {}
  /-- Host-port record elements and FOP_PORT whose value in force differs from the object until the next reset (R423). -/
  netUsed : Tab Nat := []
  /-- The clock of the newest hardware update of an element of field type W1C or RWH (R466). -/
  hwAt : Tab Nat := []
  /-- What hardware added to counters at the newest instant it added to any, and that instant (R466). -/
  bumps : Tab Nat := []
  bumpAt : Nat := 0
  /-- Fields of raw registers that back no object and have been written (R470). -/
  rawRegs : Tab Nat := []
  /-- BIST (ch. 21). -/
  bist : Bist := {}
  /-- The request for READY that the controller makes itself waits for bring-up to end (R479). -/
  wantReady : Bool := false
  /-- The cap sequence that ends a stop has been started (R483). -/
  stopCap : Bool := false
  /-- The sources that started the head stop whose ports are held OFF (Table 6-6). -/
  headSources : List Nat := []
  /-- The device waits in RETAIN's wake for its main rails (R517). -/
  railWait : Bool := false
  /-- The reset kinds whose cause is present, as the mask of RESET_CAUSE (R525). -/
  causes : Nat := 0
  /-- RESET_N is held low (R525). -/
  resetLow : Bool := false
  /-- The present span began with a wake from RETAIN, so DRAM may have been kept (R313). -/
  fromRetain : Bool := false
  /-- Islands in reset by ISLAND_RESET or R523, until ISLAND_RESET_DONE (R526). -/
  islandsDown : List Nat := []
  /-- OSC_DRIFT has been raised in the present lock (R520). -/
  driftRaised : Bool := false
  /-- The previous span ended during a self-test run (R545). -/
  bistWasCut : Bool := false
  /-- TEST_EN as sampled at the last POWER_ON reset (R563). -/
  testEn : Bool := false
  /-- The test access port: its present instruction (0 BYPASS, 1 IDCODE, 2 SAMPLE/PRELOAD, 3 EXTEST) and the boundary register (R563). -/
  tapIr : Nat := 1
  tapBoundary : Nat := 0
  /-- Ports whose PORT_ENABLE a host has set since a start with STRAP_CONFIG high (R562). -/
  strapPorts : Nat := 0
  deriving DecidableEq, Repr

/-- The block: what it holds, its addressed memory (Spool and DRAM, R290), and the commands waiting, first in first out. -/
structure State where
  core : Core := {}
  mem : List Host.Cell := []
  pending : List Instr := []
  deriving DecidableEq, Repr

/-- Why a command can stop the block: the spec gives no command of this table such an end, so there is only the fault of a state that
cannot be (a session handle, port or axis outside its range never reaches a meaning: R3 rejects it). -/
inductive Fault where
  /-- Raised by no meaning of this model; kept so that the type is inhabited. Safe. -/
  | impossible
  deriving DecidableEq, Repr

/-- Why a command is refused. -/
inductive Refusal where
  /-- A command that has no meaning in the model yet; raised by its arm alone. Safe: the block stops where the hardware goes on. -/
  | notModelled (mnemonic : String)
  deriving DecidableEq, Repr

/-- The key of a member or element in the object store. -/
def storeKey (idx sub : Nat) : Nat := (idx * 65536 + sub) * 65536

/-- The objects that hold another value than their reset value once a POWER_ON reset has begun the start-up of a new device: LOG_SEQ (R506); RESET_CAUSE
POWER_ON, RESET_COUNT, START_PATH FULL (Table 20-8, R531); the record of BIST_FULL, raised because no self-test result is valid (R545); BIST_STATE
running at start-up. -/
def State.resetObjs : Tab Nat :=
  [(storeKey 0x2080 0x0B, 2), (storeKey 0x2100 0x01, 0x20001), (storeKey 0x2100 0x02, 1), (storeKey 0x2100 0x05, 1), (storeKey 0x2103 0, 0),
   (storeKey 0x8FD4 0x08, 1), (storeKey 0x8FD4 0x09, 0), (storeKey 0x8FD4 0x0A, 0), (storeKey 0x8FD4 0x0B, 0), (storeKey 0x8FD4 0x0C, 0),
   (storeKey 0x9800 0x01, 2), (storeKey 0x9800 0x02, 0), (storeKey 0x9800 0x08, 0)]

/-- The RESET entry of the fault log at POWER_ON, FT still 0 (Table 19-7a). -/
def State.resetEntry : LogEntry := ⟨0, 0, 65535, 5, 255, 255, 0, 1, 1, 0, 0⟩

/-- The block at a POWER_ON reset of a new device, all rails good and every strap low (R525, R529, R531): the mode is OFF and WAKING, every object reads its
reset value but those of `State.resetObjs`, the retention store is empty, the start-up self-test groups wait to run, memory lists nothing (Spool and
DRAM are cleared before their first access, R307, R312), no command waits. Test `test_reset_is_power_on` shows that it is what RAIL_GOOD leaves. -/
def State.reset : State :=
  { core := {
      phase := .waking
      objs := State.resetObjs
      src := [(2004, { raised := true })]
      log := [⟨0, 0, 2004, 1, 0, 0, 0, 0, 2, 0, 0⟩, State.resetEntry]
      logRet := [State.resetEntry]
      out := [⟨.mainEn, 0, [1], []⟩]
      hwAt := [(storeKey 0x8FD4 0x01, 0), (storeKey 0x8FD4 0x08, 0)]
      bumps := [(storeKey 0x2100 0x02, 1), (storeKey 0x8FD4 0x08, 1)]
      bist := { kind := 2, todo := [1, 2, 3, 4, 5, 6, 7, 8], cut := true }
      causes := 2 } }

end Sys2Proof.Machine
end

