-- ==== Sys2Proof/Machine/Dictionary.lean ====
section
/-! DEFINITION. The object dictionary: one row per object of the spec's object tables (R454 to R460), in the order of the chapters. A row's fields are those of `Ob`. -/

namespace Sys2Proof.Machine.Obj

/-! ### Ephemeris (Tables 2-6 to 2-9) -/

def PACE_SRC : Ob := ⟨"PACE_SRC", .member, 12288, 0, 1, 1, 1, 1, 1, 1, 2, .rwr, .retained, .const 0, .range (0) (10)⟩
def PACE_AXIS : Ob := ⟨"PACE_AXIS", .member, 12288, 0, 1, 2, 1, 1, 1, 1, 2, .rwr, .retained, .const 4, .range (4) (11)⟩
def TACK_PERIOD : Ob := ⟨"TACK_PERIOD", .member, 12288, 0, 1, 3, 1, 1, 4, 4, 4, .rwr, .retained, .const 1000, .range (1000) (1000000)⟩
def H_MAX : Ob := ⟨"H_MAX", .member, 12288, 0, 1, 4, 1, 1, 4, 4, 4, .rwr, .retained, .const 200000, .range (10000) (200000)⟩
def T_ACC : Ob := ⟨"T_ACC", .member, 12288, 0, 1, 5, 1, 1, 4, 4, 4, .rwr, .retained, .const 100000, .range (8000) (1000000)⟩
def A_MAX : Ob := ⟨"A_MAX", .member, 12288, 0, 1, 6, 1, 1, 4, 4, 4, .rwr, .retained, .const 1000000, .range (1000) (100000000)⟩
def PLACE_TOL : Ob := ⟨"PLACE_TOL", .member, 12288, 0, 1, 7, 1, 1, 2, 2, 2316, .rwr, .retained, .const 2048, .range (1) (65535)⟩
def CMD_LAG : Ob := ⟨"CMD_LAG", .member, 12288, 0, 1, 8, 1, 1, 4, 4, 8, .rwr, .retained, .const 0, .range (-1000000) (1000000)⟩
def CMD_SCALE : Ob := ⟨"CMD_SCALE", .member, 12288, 0, 1, 9, 1, 1, 8, 8, 3888, .rwr, .retained, .const 0, .any⟩
def TACK_NOW : Ob := ⟨"TACK_NOW", .member, 12288, 0, 1, 10, 1, 1, 1, 1, 1, .wo, .reset, .const 0, .range (0) (1)⟩
def TACK_DISCARDS : Ob := ⟨"TACK_DISCARDS", .member, 12288, 0, 1, 11, 1, 1, 4, 4, 4, .ro, .reset, .const 0, .any⟩
def TACK_GAPS : Ob := ⟨"TACK_GAPS", .member, 12288, 0, 1, 12, 1, 1, 4, 4, 4, .ro, .reset, .const 0, .any⟩
def FT_NS : Ob := ⟨"FT_NS", .member, 12304, 0, 1, 1, 1, 1, 8, 8, 5, .ro, .reset, .const 0, .any⟩
def FT_FRAC : Ob := ⟨"FT_FRAC", .member, 12304, 0, 1, 2, 1, 1, 2, 2, 3, .ro, .reset, .const 0, .any⟩
def FT_TRIM : Ob := ⟨"FT_TRIM", .member, 12304, 0, 1, 3, 1, 1, 4, 4, 8, .ro, .reset, .const 0, .any⟩
def FT_STATE : Ob := ⟨"FT_STATE", .member, 12304, 0, 1, 4, 1, 1, 1, 1, 2, .ro, .reset, .const 0, .any⟩
def FT_STEP : Ob := ⟨"FT_STEP", .member, 12304, 0, 1, 5, 1, 1, 8, 8, 5, .wo, .reset, .const 0, .any⟩
def fb_MODE : Ob := ⟨"MODE", .member, 12544, 1, 8, 1, 1, 1, 1, 1, 2, .rwr, .retained, .const 0, .range (0) (3)⟩
def fb_SCALE : Ob := ⟨"SCALE", .member, 12544, 1, 8, 2, 1, 1, 8, 8, 3888, .rwr, .retained, .const 0, .any⟩
def fb_EDGE_DELAY : Ob := ⟨"EDGE_DELAY", .member, 12544, 1, 8, 3, 1, 1, 4, 4, 3592, .rwr, .retained, .const 0, .any⟩
def fb_FILTER : Ob := ⟨"FILTER", .member, 12544, 1, 8, 4, 1, 1, 1, 1, 2, .rwr, .retained, .const 4, .range (0) (40)⟩
def fb_PERIOD_N : Ob := ⟨"PERIOD_N", .member, 12544, 1, 8, 5, 1, 1, 1, 1, 2, .rwr, .retained, .const 4, .oneOf [1, 4, 6]⟩
def fb_T_CNT_ON : Ob := ⟨"T_CNT_ON", .member, 12544, 1, 8, 6, 1, 1, 4, 4, 4, .rwr, .retained, .const 2000, .any⟩
def fb_T_CNT_OFF : Ob := ⟨"T_CNT_OFF", .member, 12544, 1, 8, 7, 1, 1, 4, 4, 4, .rwr, .retained, .const 4000, .any⟩
def fb_T_WIN : Ob := ⟨"T_WIN", .member, 12544, 1, 8, 8, 1, 1, 4, 4, 4, .rwr, .retained, .const 10000, .range (1000) (1000000)⟩
def fb_T_ZERO : Ob := ⟨"T_ZERO", .member, 12544, 1, 8, 9, 1, 1, 4, 4, 4, .rwr, .retained, .const 20000, .range (1000) (1000000)⟩
def fb_Z_MODE : Ob := ⟨"Z_MODE", .member, 12544, 1, 8, 10, 1, 1, 1, 1, 2, .rwr, .retained, .const 0, .range (0) (2)⟩
def fb_SSI_BITS : Ob := ⟨"SSI_BITS", .member, 12544, 1, 8, 11, 1, 1, 1, 1, 2, .rwr, .retained, .const 25, .range (8) (40)⟩
def fb_SSI_CLK : Ob := ⟨"SSI_CLK", .member, 12544, 1, 8, 12, 1, 1, 2, 2, 3, .rwr, .retained, .const 1000, .range (100) (10000)⟩
def fb_SSI_OPTS : Ob := ⟨"SSI_OPTS", .member, 12544, 1, 8, 13, 1, 1, 1, 1, 2, .rwr, .retained, .const 0, .mask 7⟩
def fb_SSI_PERIOD : Ob := ⟨"SSI_PERIOD", .member, 12544, 1, 8, 14, 1, 1, 4, 4, 4, .rwr, .retained, .const 50000, .any⟩
def fb_SSI_RECOVERY : Ob := ⟨"SSI_RECOVERY", .member, 12544, 1, 8, 15, 1, 1, 4, 4, 4, .rwr, .retained, .const 20000, .range (1000) (100000)⟩
def fb_SSI_MAX_STEP : Ob := ⟨"SSI_MAX_STEP", .member, 12544, 1, 8, 16, 1, 1, 4, 4, 4, .rwr, .retained, .const 4096, .any⟩
def fb_TACK_TRIG : Ob := ⟨"TACK_TRIG", .member, 12544, 1, 8, 17, 1, 1, 1, 1, 2, .rwr, .retained, .const 1, .mask 15⟩
def fb_TACK_EDGES : Ob := ⟨"TACK_EDGES", .member, 12544, 1, 8, 18, 1, 1, 2, 2, 3, .rwr, .retained, .const 1, .range (1) (65535)⟩
def fb_COUNT : Ob := ⟨"COUNT", .member, 12544, 1, 8, 19, 1, 1, 8, 8, 9, .ro, .reset, .const 0, .any⟩
def fb_Z_POS : Ob := ⟨"Z_POS", .member, 12544, 1, 8, 20, 1, 1, 8, 8, 9, .ro, .reset, .const 0, .any⟩
def fb_SPEED : Ob := ⟨"SPEED", .member, 12544, 1, 8, 21, 1, 1, 4, 4, 3592, .ro, .reset, .const 0, .any⟩
def fb_EST_STATE : Ob := ⟨"EST_STATE", .member, 12544, 1, 8, 22, 1, 1, 1, 1, 2, .ro, .reset, .const 0, .any⟩
def TACKS_FB : Ob := ⟨"TACKS_FB", .one, 12672, 1, 8, 1, 64, 1, 32, 32, 16, .ro, .reset, .const 0, .any⟩
def TACKS_CMD : Ob := ⟨"TACKS_CMD", .one, 12680, 0, 1, 1, 64, 1, 32, 32, 16, .ro, .reset, .const 0, .any⟩
def TACKS_RING : Ob := ⟨"TACKS_RING", .one, 12681, 0, 1, 1, 64, 1, 32, 32, 16, .ro, .reset, .const 0, .any⟩
def RG_OFFSET : Ob := ⟨"RG_OFFSET", .zero, 13312, 1, 4, 0, 64, 1, 4, 4, 3596, .rwr, .retained, .const 0, .any⟩
def RG_FLIGHT : Ob := ⟨"RG_FLIGHT", .zero, 13320, 1, 4, 0, 64, 1, 4, 4, 2564, .rwr, .retained, .const 0, .range (0) (16000000)⟩
def PORT_DATUM : Ob := ⟨"PORT_DATUM", .zero, 13328, 0, 1, 0, 64, 1, 8, 8, 3864, .rwr, .retained, .const 0, .any⟩
def F_MED : Ob := ⟨"F_MED", .zero, 13344, 0, 1, 0, 64, 1, 4, 4, 4, .ro, .reset, .const 0, .any⟩
def PLACE_MAX : Ob := ⟨"PLACE_MAX", .zero, 13352, 0, 1, 0, 64, 1, 2, 2, 2316, .ro, .reset, .const 0, .any⟩
def PLACE_OVER : Ob := ⟨"PLACE_OVER", .zero, 13353, 0, 1, 0, 64, 1, 4, 4, 4, .ro, .reset, .const 0, .any⟩
def PLACE_EXCEEDED : Ob := ⟨"PLACE_EXCEEDED", .zero, 13354, 0, 1, 0, 64, 1, 4, 4, 4, .ro, .reset, .const 0, .any⟩

/-! ### Fire sequencing (Tables 3-4 and 3-6) -/

def port_F_SET : Ob := ⟨"F_SET", .scalar, 16400, 64, 64, 0, 1, 1, 4, 4, 4, .rwr, .retained, .const 72000, .range (1000) (72000)⟩
def port_PHASE_GROUPS : Ob := ⟨"PHASE_GROUPS", .scalar, 16401, 64, 64, 0, 1, 1, 1, 1, 2, .rwr, .retained, .const 1, .oneOf [1, 2, 4, 8]⟩
def port_ROTATION : Ob := ⟨"ROTATION", .one, 16402, 64, 64, 1, 16, 1, 1, 1, 2, .rwr, .retained, .elementNumber, .range (0) (15)⟩
def port_N_SLOT : Ob := ⟨"N_SLOT", .scalar, 16403, 64, 64, 0, 1, 1, 2, 2, 3, .ro, .reset, .const 347, .any⟩
def port_N_BUDGET : Ob := ⟨"N_BUDGET", .scalar, 16404, 64, 64, 0, 1, 1, 2, 2, 3, .ro, .reset, .const 331, .any⟩
def port_N_SPAN : Ob := ⟨"N_SPAN", .scalar, 16405, 64, 64, 0, 1, 1, 2, 2, 3, .ro, .reset, .const 331, .any⟩
def port_PULSE_EFF : Ob := ⟨"PULSE_EFF", .one, 16406, 64, 64, 1, 63, 1, 8, 8, 5, .ro, .reset, .const 0, .any⟩
def port_PULSE_ADJ : Ob := ⟨"PULSE_ADJ", .one, 16407, 64, 64, 1, 6, 1, 4, 4, 4, .ro, .reset, .const 0, .any⟩
def port_RATE_PENDING : Ob := ⟨"RATE_PENDING", .scalar, 16408, 64, 64, 0, 1, 1, 1, 1, 1, .ro, .reset, .const 0, .range (0) (1)⟩
def port_COL_LOST : Ob := ⟨"COL_LOST", .scalar, 16409, 64, 64, 0, 1, 1, 4, 4, 4, .ro, .reset, .const 0, .any⟩
def GATE_LEAD : Ob := ⟨"GATE_LEAD", .member, 12320, 0, 1, 1, 1, 1, 4, 4, 4, .rwr, .retained, .const 10000, .range (0) (200000)⟩
def F_SET_ALL : Ob := ⟨"F_SET_ALL", .member, 12320, 0, 1, 2, 1, 1, 4, 4, 4, .wo, .reset, .const 0, .range (1000) (72000)⟩
def OS_DROPPED : Ob := ⟨"OS_DROPPED", .member, 12320, 0, 1, 3, 1, 1, 4, 4, 4, .ro, .reset, .const 0, .any⟩
def OS_LAST : Ob := ⟨"OS_LAST", .member, 12320, 0, 1, 4, 1, 1, 4, 4, 4, .ro, .reset, .const 0, .any⟩
def spat_COLUMNS : Ob := ⟨"COLUMNS", .member, 28160, 1, 16, 1, 1, 1, 2, 2, 3, .rwr, .retained, .const 1, .range (1) (65535)⟩
def spat_ADDR_MASK : Ob := ⟨"ADDR_MASK", .member, 28160, 1, 16, 2, 1, 1, 2, 2, 3, .rwr, .retained, .const 65535, .range (1) (65535)⟩
def spat_EVERY : Ob := ⟨"EVERY", .member, 28160, 1, 16, 3, 1, 1, 1, 1, 2, .rwr, .retained, .const 1, .range (1) (255)⟩
def spat_ENERGY : Ob := ⟨"ENERGY", .member, 28160, 1, 16, 4, 1, 1, 1, 1, 2, .rwr, .retained, .const 0, .range (0) (63)⟩
def spat_INCLUDE : Ob := ⟨"INCLUDE", .member, 28160, 1, 16, 5, 1, 1, 1, 1, 2, .rwr, .retained, .const 0, .mask 1⟩
def spat_PORTS : Ob := ⟨"PORTS", .member, 28160, 1, 16, 6, 1, 1, 8, 8, 5, .rwr, .retained, .const 18446744073709551615, .any⟩
def SPIT_RUN : Ob := ⟨"SPIT_RUN", .member, 28176, 0, 1, 1, 1, 1, 1, 1, 2, .wo, .reset, .const 0, .range (0) (15)⟩
def SPIT_RATE : Ob := ⟨"SPIT_RATE", .member, 28176, 0, 1, 2, 1, 1, 4, 4, 4, .rwr, .retained, .const 10000, .range (1000) (72000)⟩
def SPIT_ABORT : Ob := ⟨"SPIT_ABORT", .member, 28176, 0, 1, 3, 1, 1, 1, 1, 1, .wo, .reset, .const 0, .range (0) (1)⟩
def SPIT_STATE : Ob := ⟨"SPIT_STATE", .member, 28176, 0, 1, 4, 1, 1, 1, 1, 2, .ro, .reset, .const 0, .any⟩

/-! ### Bobbin (Tables 4-4 to 4-6) -/

def K_CAL : Ob := ⟨"K_CAL", .zero, 24576, 0, 1, 0, 65536, 1, 2, 2, 2318, .rw, .reset, .const 16384, .range (4096) (65535)⟩
def E_DIE : Ob := ⟨"E_DIE", .zero, 24592, 0, 1, 0, 64, 1, 4, 4, 2568, .rwr, .retained, .const 0, .range (256) (16777215)⟩
def K_ROW : Ob := ⟨"K_ROW", .zero, 24593, 1, 4, 0, 64, 1, 2, 2, 2318, .rwr, .retained, .const 16384, .any⟩
def EPT : Ob := ⟨"EPT", .zero, 24597, 0, 1, 0, 64, 1, 2, 2, 2312, .rwr, .retained, .const 0, .any⟩
def WEAK_TRIM : Ob := ⟨"WEAK_TRIM", .zero, 24598, 0, 1, 0, 64, 1, 2, 2, 2318, .rwr, .retained, .const 18022, .any⟩
def THERM_COEF : Ob := ⟨"THERM_COEF", .zero, 24599, 0, 1, 0, 64, 1, 2, 2, 3343, .rwr, .retained, .const 0, .any⟩
def T_REF : Ob := ⟨"T_REF", .zero, 24600, 0, 1, 0, 64, 1, 2, 2, 3336, .rwr, .retained, .const 8960, .any⟩
def K_THERM_MIN : Ob := ⟨"K_THERM_MIN", .zero, 24601, 0, 1, 0, 64, 1, 2, 2, 2318, .rwr, .retained, .const 8192, .any⟩
def K_THERM_MAX : Ob := ⟨"K_THERM_MAX", .zero, 24602, 0, 1, 0, 64, 1, 2, 2, 2318, .rwr, .retained, .const 24576, .any⟩
def G_E : Ob := ⟨"G_E", .zero, 24603, 0, 1, 0, 64, 1, 4, 4, 4, .rwr, .retained, .const 0, .any⟩
def A_DECAY : Ob := ⟨"A_DECAY", .zero, 24604, 0, 1, 0, 64, 1, 4, 4, 4, .rwr, .retained, .const 0, .range (0) (16777216)⟩
def T_SINK : Ob := ⟨"T_SINK", .zero, 24605, 0, 1, 0, 64, 1, 2, 2, 3336, .rw, .reset, .const 6400, .any⟩
def CORR_GAIN : Ob := ⟨"CORR_GAIN", .zero, 24606, 0, 1, 0, 64, 1, 2, 2, 2319, .rwr, .retained, .const 32768, .range (0) (32768)⟩
def SINK_GAIN : Ob := ⟨"SINK_GAIN", .zero, 24607, 0, 1, 0, 64, 1, 2, 2, 2319, .rwr, .retained, .const 2048, .range (0) (32768)⟩
def T_EST : Ob := ⟨"T_EST", .zero, 24608, 0, 1, 0, 64, 1, 2, 2, 3336, .ro, .reset, .const 6400, .any⟩
def PRED_RISE : Ob := ⟨"PRED_RISE", .zero, 24609, 0, 1, 0, 64, 1, 2, 2, 3336, .ro, .reset, .const 0, .any⟩
def LAST_RESID : Ob := ⟨"LAST_RESID", .zero, 24610, 0, 1, 0, 64, 1, 2, 2, 3336, .ro, .reset, .const 0, .any⟩
def ENERGY_FLOOR : Ob := ⟨"ENERGY_FLOOR", .zero, 24611, 0, 1, 0, 64, 1, 4, 4, 4, .ro, .reset, .const 0, .any⟩
def ENERGY_CEIL : Ob := ⟨"ENERGY_CEIL", .zero, 24612, 0, 1, 0, 64, 1, 4, 4, 4, .ro, .reset, .const 0, .any⟩
def MAP_RACE : Ob := ⟨"MAP_RACE", .zero, 24613, 0, 1, 0, 64, 1, 4, 4, 4, .ro, .reset, .const 0, .any⟩
def REMAPS : Ob := ⟨"REMAPS", .zero, 24614, 0, 1, 0, 64, 1, 4, 4, 4, .ro, .reset, .const 0, .any⟩
def MEAS_STALE : Ob := ⟨"MEAS_STALE", .zero, 24615, 0, 1, 0, 64, 1, 4, 4, 4, .ro, .reset, .const 0, .any⟩
def HIST : Ob := ⟨"HIST", .one, 24832, 1, 64, 1, 256, 1, 2, 2, 2318, .rwr, .retained, .const 16384, .any⟩
def NBR : Ob := ⟨"NBR", .one, 24896, 1, 64, 1, 4, 1, 2, 2, 2318, .rwr, .retained, .const 16384, .any⟩
def ENTRY_ENERGY : Ob := ⟨"ENTRY_ENERGY", .one, 25088, 1, 64, 1, 63, 1, 4, 4, 2568, .ro, .reset, .const 0, .any⟩
def HIST_AGE : Ob := ⟨"HIST_AGE", .member, 24704, 0, 1, 1, 1, 1, 4, 4, 4, .rwr, .retained, .const 1000000, .either 0 0 10000 4000000000⟩
def LOAD : Ob := ⟨"LOAD", .member, 24704, 0, 1, 2, 1, 1, 2, 2, 2319, .ro, .reset, .const 0, .any⟩
def LOAD_PEAK : Ob := ⟨"LOAD_PEAK", .member, 24704, 0, 1, 3, 1, 1, 2, 2, 2319, .ro, .reset, .const 0, .any⟩
def LOAD_WARN : Ob := ⟨"LOAD_WARN", .member, 24704, 0, 1, 4, 1, 1, 2, 2, 2319, .rwr, .retained, .const 24576, .range (1) (32768)⟩
def MIN_SLACK : Ob := ⟨"MIN_SLACK", .member, 24704, 0, 1, 5, 1, 1, 4, 4, 8, .ro, .reset, .const 2147483647, .any⟩
def LATE_COLS : Ob := ⟨"LATE_COLS", .member, 24704, 0, 1, 6, 1, 1, 4, 4, 4, .ro, .reset, .const 0, .any⟩
def STATS_CLEAR : Ob := ⟨"STATS_CLEAR", .member, 24704, 0, 1, 7, 1, 1, 1, 1, 1, .wo, .reset, .const 0, .range (0) (1)⟩
def THERM_RESID_MAX : Ob := ⟨"THERM_RESID_MAX", .member, 24704, 0, 1, 8, 1, 1, 2, 2, 2312, .rwr, .retained, .const 1280, .range (1) (65535)⟩
def MODEL_DT : Ob := ⟨"MODEL_DT", .member, 24704, 0, 1, 9, 1, 1, 4, 4, 4, .konst, .factory, .const 8192, .any⟩

/-! ### Thread (Tables 5-15 and 5-16) -/

def port_PORT_ENABLE : Ob := ⟨"PORT_ENABLE", .scalar, 16384, 64, 64, 0, 1, 1, 1, 1, 1, .rwr, .retained, .const 0, .range (0) (1)⟩
def port_LINK_STATE : Ob := ⟨"LINK_STATE", .scalar, 16385, 64, 64, 0, 1, 1, 1, 1, 2, .ro, .reset, .const 0, .any⟩
def port_PORT_RESET : Ob := ⟨"PORT_RESET", .scalar, 16386, 64, 64, 0, 1, 1, 1, 1, 1, .wo, .reset, .const 0, .range (0) (1)⟩
def port_DIE_IDENT : Ob := ⟨"DIE_IDENT", .scalar, 16387, 64, 64, 0, 1, 1, 32, 32, 16, .ro, .reset, .const 0, .any⟩
def port_DIE_GEOM : Ob := ⟨"DIE_GEOM", .scalar, 16388, 64, 64, 0, 1, 1, 24, 24, 16, .ro, .reset, .const 0, .any⟩
def port_DIE_LIMITS : Ob := ⟨"DIE_LIMITS", .scalar, 16389, 64, 64, 0, 1, 1, 16, 16, 16, .ro, .reset, .const 0, .any⟩
def port_LINK_DELAY : Ob := ⟨"LINK_DELAY", .scalar, 16390, 64, 64, 0, 1, 1, 4, 4, 2568, .ro, .reset, .const 0, .any⟩
def port_CFG_ID : Ob := ⟨"CFG_ID", .scalar, 16391, 64, 64, 0, 1, 1, 1, 1, 2, .ro, .reset, .const 0, .any⟩
def port_PULSE_LOAD : Ob := ⟨"PULSE_LOAD", .one, 16392, 64, 64, 1, 63, 1, 8, 8, 5, .rwr, .retained, .const 0, .mask 4393818588159⟩
def port_TABLE_LOAD : Ob := ⟨"TABLE_LOAD", .scalar, 16393, 64, 64, 0, 1, 1, 1, 1, 1, .wo, .reset, .const 0, .range (0) (1)⟩
def port_PORT_FLAGS : Ob := ⟨"PORT_FLAGS", .scalar, 16394, 64, 64, 0, 1, 1, 1, 1, 2, .ro, .reset, .const 0, .any⟩
def port_CONV_STEP : Ob := ⟨"CONV_STEP", .one, 16395, 64, 64, 1, 6, 1, 2, 2, 3, .ro, .reset, .const 0, .any⟩
def port_SYNC_RESETS : Ob := ⟨"SYNC_RESETS", .scalar, 16396, 64, 64, 0, 1, 1, 4, 4, 4, .ro, .reset, .const 0, .any⟩
def port_NAK_COUNT : Ob := ⟨"NAK_COUNT", .one, 16397, 64, 64, 1, 13, 1, 4, 4, 4, .ro, .reset, .const 0, .any⟩
def port_RESENDS : Ob := ⟨"RESENDS", .scalar, 16398, 64, 64, 0, 1, 1, 4, 4, 4, .ro, .reset, .const 0, .any⟩
def port_LINK_ERR : Ob := ⟨"LINK_ERR", .one, 16399, 64, 64, 1, 4, 1, 4, 4, 4, .ro, .reset, .const 0, .any⟩
def port_RETRAINS : Ob := ⟨"RETRAINS", .scalar, 16410, 64, 64, 0, 1, 1, 4, 4, 4, .ro, .reset, .const 0, .any⟩
def port_SB_TIMEOUT : Ob := ⟨"SB_TIMEOUT", .scalar, 16411, 64, 64, 0, 1, 1, 4, 4, 4, .rwr, .retained, .const 200, .range (150) (10000)⟩
def port_RESEND_MAX : Ob := ⟨"RESEND_MAX", .scalar, 16412, 64, 64, 0, 1, 1, 1, 1, 2, .rwr, .retained, .const 1, .range (0) (3)⟩
def port_TIME_PERIOD : Ob := ⟨"TIME_PERIOD", .scalar, 16413, 64, 64, 0, 1, 1, 4, 4, 4, .rwr, .retained, .const 1000, .range (100) (100000)⟩
def port_HP_SETTLE : Ob := ⟨"HP_SETTLE", .scalar, 16414, 64, 64, 0, 1, 1, 4, 4, 4, .rwr, .retained, .const 5000, .range (1000) (100000)⟩
def port_DONE_COL : Ob := ⟨"DONE_COL", .scalar, 16415, 64, 64, 0, 1, 1, 4, 4, 4, .ro, .reset, .const 4294967295, .any⟩
def ENUM_PARALLEL : Ob := ⟨"ENUM_PARALLEL", .member, 8256, 0, 1, 1, 1, 1, 1, 1, 2, .rwr, .retained, .const 4, .range (1) (4)⟩

/-! ### Head health (Tables 6-10 to 6-13) -/

def NOZZLE_MAP : Ob := ⟨"NOZZLE_MAP", .zero, 36864, 0, 1, 0, 65536, 1, 1, 1, 2, .rwr, .retained, .const 48, .any⟩
def R_HEATER : Ob := ⟨"R_HEATER", .zero, 36865, 0, 1, 0, 65536, 1, 2, 2, 2310, .ro, .reset, .const 0, .any⟩
def R_BASE : Ob := ⟨"R_BASE", .zero, 36866, 0, 1, 0, 65536, 1, 2, 2, 2310, .rwr, .retained, .const 0, .any⟩
def TSR_NOM : Ob := ⟨"TSR_NOM", .zero, 37120, 0, 1, 0, 64, 1, 4, 4, 2576, .rwr, .retained, .const 0, .any⟩
def TSR_ALPHA : Ob := ⟨"TSR_ALPHA", .zero, 37121, 0, 1, 0, 64, 1, 4, 4, 3615, .rwr, .retained, .const 0, .any⟩
def LAST_MEAS : Ob := ⟨"LAST_MEAS", .zero, 37122, 0, 1, 0, 64, 1, 24, 24, 16, .ro, .reset, .const 0, .any⟩
def SWEEP_NEXT : Ob := ⟨"SWEEP_NEXT", .zero, 37123, 0, 1, 0, 64, 1, 2, 2, 3, .ro, .reset, .const 0, .any⟩
def DIE_SERIAL : Ob := ⟨"DIE_SERIAL", .zero, 37124, 0, 1, 0, 64, 1, 8, 8, 5, .ro, .retained, .const 0, .any⟩
def MEAS_REQ : Ob := ⟨"MEAS_REQ", .member, 37376, 0, 1, 1, 1, 1, 8, 8, 5, .wo, .reset, .const 0, .any⟩
def MEAS_REQ_JS : Ob := ⟨"MEAS_REQ_JS", .member, 37376, 0, 1, 2, 1, 1, 2, 2, 3, .wo, .reset, .const 0, .any⟩
def SWEEP_REQ : Ob := ⟨"SWEEP_REQ", .member, 37376, 0, 1, 3, 1, 1, 8, 8, 5, .wo, .reset, .const 0, .any⟩
def SWEEP_CANCEL : Ob := ⟨"SWEEP_CANCEL", .member, 37376, 0, 1, 4, 1, 1, 1, 1, 1, .wo, .reset, .const 0, .range (0) (1)⟩
def SWEEP_PENDING : Ob := ⟨"SWEEP_PENDING", .member, 37376, 0, 1, 5, 1, 1, 8, 8, 5, .ro, .reset, .const 0, .any⟩
def SWEEP_ON_PARK : Ob := ⟨"SWEEP_ON_PARK", .member, 37376, 0, 1, 6, 1, 1, 1, 1, 1, .rwr, .retained, .const 1, .range (0) (1)⟩
def BASELINE : Ob := ⟨"BASELINE", .member, 37376, 0, 1, 7, 1, 1, 8, 8, 5, .wo, .reset, .const 0, .any⟩
def R_OPEN : Ob := ⟨"R_OPEN", .member, 37376, 0, 1, 8, 1, 1, 2, 2, 2310, .rwr, .retained, .const 61440, .any⟩
def R_SHORT : Ob := ⟨"R_SHORT", .member, 37376, 0, 1, 9, 1, 1, 2, 2, 2310, .rwr, .retained, .const 640, .any⟩
def DRIFT_WEAK : Ob := ⟨"DRIFT_WEAK", .member, 37376, 0, 1, 10, 1, 1, 2, 2, 2319, .rwr, .retained, .const 819, .any⟩
def DRIFT_DEAD : Ob := ⟨"DRIFT_DEAD", .member, 37376, 0, 1, 11, 1, 1, 2, 2, 2319, .rwr, .retained, .const 3277, .any⟩
def RISE1_DIE : Ob := ⟨"RISE1_DIE", .member, 37376, 0, 1, 12, 1, 1, 2, 2, 2308, .rwr, .retained, .const 320, .any⟩
def RISE2_DIE : Ob := ⟨"RISE2_DIE", .member, 37376, 0, 1, 13, 1, 1, 2, 2, 2308, .rwr, .retained, .const 800, .any⟩
def RISE3_DIE : Ob := ⟨"RISE3_DIE", .member, 37376, 0, 1, 14, 1, 1, 2, 2, 2308, .rwr, .retained, .const 2400, .any⟩
def T_ABS_DIE : Ob := ⟨"T_ABS_DIE", .member, 37376, 0, 1, 15, 1, 1, 2, 2, 3336, .rwr, .retained, .const 17920, .any⟩
def RISE1_JS : Ob := ⟨"RISE1_JS", .member, 37376, 0, 1, 16, 1, 1, 2, 2, 2308, .rwr, .retained, .const 32, .any⟩
def RISE2_JS : Ob := ⟨"RISE2_JS", .member, 37376, 0, 1, 17, 1, 1, 2, 2, 2308, .rwr, .retained, .const 80, .any⟩
def RISE3_JS : Ob := ⟨"RISE3_JS", .member, 37376, 0, 1, 18, 1, 1, 2, 2, 2308, .rwr, .retained, .const 320, .any⟩
def T_ABS_JS : Ob := ⟨"T_ABS_JS", .member, 37376, 0, 1, 19, 1, 1, 2, 2, 3336, .rwr, .retained, .const 29440, .range (20480) (30720)⟩
def RISE_MIN_DT : Ob := ⟨"RISE_MIN_DT", .member, 37376, 0, 1, 20, 1, 1, 4, 4, 4, .rwr, .retained, .const 1000, .range (100) (1000000)⟩
def RISE_MAX_DT : Ob := ⟨"RISE_MAX_DT", .member, 37376, 0, 1, 21, 1, 1, 4, 4, 4, .rwr, .retained, .const 60000, .range (1000) (3600000)⟩
def DRY_RATIO : Ob := ⟨"DRY_RATIO", .member, 37376, 0, 1, 22, 1, 1, 2, 2, 2316, .rwr, .retained, .const 6554, .range (4096) (65535)⟩
def DRY_MIN_RISE : Ob := ⟨"DRY_MIN_RISE", .member, 37376, 0, 1, 23, 1, 1, 2, 2, 2312, .rwr, .retained, .const 128, .any⟩
def DRY_FLAGS : Ob := ⟨"DRY_FLAGS", .member, 37376, 0, 1, 24, 1, 1, 8, 8, 5, .ro, .retained, .const 0, .any⟩
def DRY_CLEAR : Ob := ⟨"DRY_CLEAR", .member, 37376, 0, 1, 25, 1, 1, 8, 8, 5, .wo, .reset, .const 0, .any⟩
def CAP_TIMEOUT : Ob := ⟨"CAP_TIMEOUT", .member, 37376, 0, 1, 26, 1, 1, 4, 4, 4, .rwr, .retained, .const 10000, .range (100) (120000)⟩
def TSR_FORCE : Ob := ⟨"TSR_FORCE", .member, 37376, 0, 1, 27, 1, 1, 2, 2, 3, .rwr, .retained, .const 100, .range (10) (1000)⟩
def HEATER_FORCE : Ob := ⟨"HEATER_FORCE", .member, 37376, 0, 1, 28, 1, 1, 2, 2, 3, .rwr, .retained, .const 2000, .range (100) (5000)⟩
def LAST_JS : Ob := ⟨"LAST_JS", .one, 37392, 0, 1, 1, 16, 1, 24, 24, 16, .ro, .reset, .const 0, .any⟩
def hsv_HS_PORTS : Ob := ⟨"HS_PORTS", .member, 37632, 1, 16, 1, 1, 1, 8, 8, 5, .rwr, .retained, .const 0, .any⟩
def hsv_HS_UV : Ob := ⟨"HS_UV", .member, 37632, 1, 16, 2, 1, 1, 2, 2, 3, .rwr, .retained, .const 0, .any⟩
def hsv_HS_OV : Ob := ⟨"HS_OV", .member, 37632, 1, 16, 3, 1, 1, 2, 2, 3, .rwr, .retained, .const 40000, .any⟩
def hsv_HS_OFF_MAX : Ob := ⟨"HS_OFF_MAX", .member, 37632, 1, 16, 4, 1, 1, 2, 2, 3, .rwr, .retained, .const 2000, .any⟩
def hsv_HS_OFF_TIME : Ob := ⟨"HS_OFF_TIME", .member, 37632, 1, 16, 5, 1, 1, 4, 4, 4, .rwr, .retained, .const 100, .range (10) (10000)⟩
def hsv_HS_VOLT : Ob := ⟨"HS_VOLT", .member, 37632, 1, 16, 6, 1, 1, 2, 2, 3, .ro, .reset, .const 0, .any⟩
def hsv_HS_MIN : Ob := ⟨"HS_MIN", .member, 37632, 1, 16, 7, 1, 1, 2, 2, 3, .ro, .reset, .const 65535, .any⟩
def hsv_HS_MAX : Ob := ⟨"HS_MAX", .member, 37632, 1, 16, 8, 1, 1, 2, 2, 3, .ro, .reset, .const 0, .any⟩

/-! ### Thimble (Tables 7-4 and 7-5) -/

def KEY_LOAD : Ob := ⟨"KEY_LOAD", .member, 37888, 0, 1, 1, 1, 1, 48, 48, 16, .wo, .reset, .const 0, .any⟩
def KEY_REVOKE : Ob := ⟨"KEY_REVOKE", .member, 37888, 0, 1, 2, 1, 1, 1, 1, 2, .wo, .reset, .const 0, .range (0) (7)⟩
def COMMIT_PERIOD : Ob := ⟨"COMMIT_PERIOD", .member, 37888, 0, 1, 3, 1, 1, 4, 4, 4, .konst, .factory, .const 1000, .any⟩
def COMMIT_DROPS : Ob := ⟨"COMMIT_DROPS", .member, 37888, 0, 1, 4, 1, 1, 4, 4, 4, .konst, .factory, .const 16777216, .any⟩
def THIM_GRACE : Ob := ⟨"THIM_GRACE", .member, 37888, 0, 1, 5, 1, 1, 4, 4, 4, .rwr, .retained, .const 10000, .range (2000) (60000)⟩
def COMMIT_NOW : Ob := ⟨"COMMIT_NOW", .member, 37888, 0, 1, 6, 1, 1, 8, 8, 5, .wo, .reset, .const 0, .any⟩
def THIM_RETRY : Ob := ⟨"THIM_RETRY", .member, 37888, 0, 1, 7, 1, 1, 8, 8, 5, .wo, .reset, .const 0, .any⟩
def ORPHAN_ACK : Ob := ⟨"ORPHAN_ACK", .member, 37888, 0, 1, 8, 1, 1, 1, 1, 2, .wo, .reset, .const 0, .range (1) (64)⟩
def ORPHAN_LOST : Ob := ⟨"ORPHAN_LOST", .member, 37888, 0, 1, 9, 1, 1, 4, 4, 4, .ro, .reset, .const 0, .any⟩
def KEY_SLOT : Ob := ⟨"KEY_SLOT", .one, 37904, 0, 1, 1, 8, 1, 8, 8, 16, .ro, .factory, .const 0, .any⟩
def ORPHANS : Ob := ⟨"ORPHANS", .one, 38400, 0, 1, 1, 64, 1, 32, 32, 16, .ro, .retained, .const 0, .any⟩
def DROP_VOL : Ob := ⟨"DROP_VOL", .one, 38016, 1, 64, 1, 63, 1, 2, 2, 2310, .rwr, .retained, .const 0, .any⟩
def CARRIER_ID : Ob := ⟨"CARRIER_ID", .zero, 38144, 0, 1, 0, 64, 1, 8, 8, 5, .ro, .retained, .const 0, .any⟩
def THIM_STATE : Ob := ⟨"THIM_STATE", .zero, 38145, 0, 1, 0, 64, 1, 1, 1, 2, .ro, .reset, .const 0, .any⟩
def COUNT : Ob := ⟨"COUNT", .zero, 38146, 0, 1, 0, 64, 1, 8, 8, 5, .ro, .retained, .const 0, .any⟩
def CSEQ : Ob := ⟨"CSEQ", .zero, 38147, 0, 1, 0, 64, 1, 4, 4, 4, .ro, .retained, .const 0, .any⟩
def PENDING_PL : Ob := ⟨"PENDING_PL", .zero, 38148, 0, 1, 0, 64, 1, 8, 8, 2822, .ro, .retained, .const 0, .any⟩
def DROPS_PENDING : Ob := ⟨"DROPS_PENDING", .zero, 38149, 0, 1, 0, 64, 1, 4, 4, 4, .ro, .reset, .const 0, .any⟩
def COMMITS : Ob := ⟨"COMMITS", .zero, 38150, 0, 1, 0, 64, 1, 4, 4, 4, .ro, .reset, .const 0, .any⟩
def COMMIT_FAILS : Ob := ⟨"COMMIT_FAILS", .zero, 38151, 0, 1, 0, 64, 1, 4, 4, 4, .ro, .reset, .const 0, .any⟩
def VERIFY_REQ : Ob := ⟨"VERIFY_REQ", .zero, 38152, 0, 1, 0, 64, 1, 16, 16, 16, .wo, .reset, .const 0, .any⟩
def VERIFY_RESULT : Ob := ⟨"VERIFY_RESULT", .zero, 38153, 0, 1, 0, 64, 1, 48, 48, 16, .ro, .reset, .const 0, .any⟩

/-! ### Raster path (Tables 8-7 to 8-9) -/

def INTERLEAVE : Ob := ⟨"INTERLEAVE", .member, 26624, 0, 1, 1, 1, 1, 1, 1, 2, .rwr, .retained, .const 1, .range (1) (2)⟩
def SUBCOL : Ob := ⟨"SUBCOL", .member, 26624, 0, 1, 2, 1, 1, 1, 1, 2, .rwr, .retained, .const 1, .range (1) (3)⟩
def PM_STATUS : Ob := ⟨"PM_STATUS", .member, 26624, 0, 1, 3, 1, 1, 1, 1, 2, .ro, .reset, .const 1, .any⟩
def PM_FAIL_PORT : Ob := ⟨"PM_FAIL_PORT", .member, 26624, 0, 1, 4, 1, 1, 1, 1, 2, .ro, .reset, .const 0, .any⟩
def PM_STAGED : Ob := ⟨"PM_STAGED", .member, 26624, 0, 1, 5, 1, 1, 1, 1, 1, .ro, .reset, .const 0, .range (0) (1)⟩
def PAGE_LINES : Ob := ⟨"PAGE_LINES", .member, 26624, 0, 1, 6, 1, 1, 4, 4, 4, .ro, .reset, .const 0, .any⟩
def PAGE_COLS : Ob := ⟨"PAGE_COLS", .member, 26624, 0, 1, 7, 1, 1, 4, 4, 4, .ro, .reset, .const 0, .any⟩
def PAGE_DIR : Ob := ⟨"PAGE_DIR", .member, 26624, 0, 1, 8, 1, 1, 1, 1, 6, .ro, .reset, .const 1, .any⟩
def PAGE_PASS : Ob := ⟨"PAGE_PASS", .member, 26624, 0, 1, 9, 1, 1, 1, 1, 2, .ro, .reset, .const 0, .any⟩
def PAGE_XSHIFT : Ob := ⟨"PAGE_XSHIFT", .member, 26624, 0, 1, 10, 1, 1, 4, 4, 8, .ro, .reset, .const 0, .any⟩
def PAGE_MASK : Ob := ⟨"PAGE_MASK", .member, 26624, 0, 1, 11, 1, 1, 1, 1, 2, .ro, .reset, .const 255, .any⟩
def DIST : Ob := ⟨"DIST", .one, 26625, 0, 1, 1, 48, 1, 1, 1, 2, .rwr, .retained, .dist, .any⟩
def CARRY : Ob := ⟨"CARRY", .zero, 20992, 0, 1, 0, 4096, 1, 8, 8, 5, .ro, .reset, .const 0, .any⟩
def RG_MAP : Ob := ⟨"RG_MAP", .zero, 26640, 1, 4, 0, 64, 1, 8, 8, 5, .rwr, .retained, .const 0, .mask 71783880100675583⟩
def DARN_PARTNER : Ob := ⟨"DARN_PARTNER", .zero, 26688, 0, 1, 0, 64, 1, 4, 4, 4, .ro, .reset, .const 0, .any⟩
def DARN_NEIGHBOUR : Ob := ⟨"DARN_NEIGHBOUR", .zero, 26689, 0, 1, 0, 64, 1, 4, 4, 4, .ro, .reset, .const 0, .any⟩
def DARN_CARRIED : Ob := ⟨"DARN_CARRIED", .zero, 26690, 0, 1, 0, 64, 1, 4, 4, 4, .ro, .reset, .const 0, .any⟩
def DARN_RELEASE : Ob := ⟨"DARN_RELEASE", .zero, 26691, 0, 1, 0, 64, 1, 4, 4, 4, .ro, .reset, .const 0, .any⟩
def DARN_LOST : Ob := ⟨"DARN_LOST", .zero, 26692, 0, 1, 0, 64, 1, 4, 4, 4, .ro, .reset, .const 0, .any⟩
def ms_PW : Ob := ⟨"PW", .member, 26752, 1, 8, 1, 1, 1, 2, 2, 3, .rwr, .retained, .const 16, .oneOf [16, 32, 64, 128, 256]⟩
def ms_PH : Ob := ⟨"PH", .member, 26752, 1, 8, 2, 1, 1, 2, 2, 3, .rwr, .retained, .const 16, .oneOf [16, 32, 64, 128, 256]⟩
def ms_PASSES : Ob := ⟨"PASSES", .member, 26752, 1, 8, 3, 1, 1, 1, 1, 2, .rwr, .retained, .const 1, .range (1) (16)⟩
def ms_X0 : Ob := ⟨"X0", .member, 26752, 1, 8, 4, 1, 1, 2, 2, 3, .rwr, .retained, .const 0, .any⟩
def ms_L0 : Ob := ⟨"L0", .member, 26752, 1, 8, 5, 1, 1, 2, 2, 3, .rwr, .retained, .const 0, .any⟩
def ms_MASK_DATA : Ob := ⟨"MASK_DATA", .member, 26752, 1, 8, 6, 1, 1, 0, 131072, 16, .rwr, .retained, .const 1, .any⟩
def ms_MASK_VALID : Ob := ⟨"MASK_VALID", .member, 26752, 1, 8, 7, 1, 1, 1, 1, 1, .ro, .retained, .const 0, .range (0) (1)⟩
def ms_UNCOVERED : Ob := ⟨"UNCOVERED", .member, 26752, 1, 8, 8, 1, 1, 4, 4, 4, .ro, .reset, .const 0, .any⟩
def ms_OVERCOVERED : Ob := ⟨"OVERCOVERED", .member, 26752, 1, 8, 9, 1, 1, 4, 4, 4, .ro, .reset, .const 0, .any⟩

/-! ### Avone (Tables 9-11 and 9-12) -/

def WIN_DECODES : Ob := ⟨"WIN_DECODES", .member, 29696, 0, 1, 1, 1, 1, 4, 4, 4, .ro, .reset, .const 0, .any⟩
def WIN_RETRIES : Ob := ⟨"WIN_RETRIES", .member, 29696, 0, 1, 2, 1, 1, 4, 4, 4, .ro, .reset, .const 0, .any⟩
def WIN_BAD : Ob := ⟨"WIN_BAD", .member, 29696, 0, 1, 3, 1, 1, 4, 4, 4, .ro, .reset, .const 0, .any⟩
def BAD_LAST : Ob := ⟨"BAD_LAST", .member, 29696, 0, 1, 4, 1, 1, 16, 16, 16, .ro, .reset, .const 0, .any⟩
def PRESET_DATA : Ob := ⟨"PRESET_DATA", .scalar, 29760, 1, 16, 0, 1, 1, 0, 65540, 16, .rw, .reset, .const 1, .any⟩
def PRESET_INFO : Ob := ⟨"PRESET_INFO", .one, 29776, 0, 1, 1, 16, 1, 8, 8, 5, .ro, .reset, .const 0, .any⟩
def dec_DEC_STATE : Ob := ⟨"DEC_STATE", .member, 29712, 1, 4, 1, 1, 1, 1, 1, 2, .ro, .reset, .const 0, .any⟩
def dec_OUT_LIMIT : Ob := ⟨"OUT_LIMIT", .member, 29712, 1, 4, 2, 1, 1, 4, 4, 4, .rwr, .retained, .const 262144, .range (64) (262144)⟩
def dec_REQ_HEAD : Ob := ⟨"REQ_HEAD", .member, 29712, 1, 4, 3, 1, 1, 1, 1, 2, .ro, .reset, .const 0, .range (0) (15)⟩
def dec_REQ_TAIL : Ob := ⟨"REQ_TAIL", .member, 29712, 1, 4, 4, 1, 1, 1, 1, 2, .rw, .reset, .const 0, .range (0) (15)⟩
def dec_OUT_HEAD : Ob := ⟨"OUT_HEAD", .member, 29712, 1, 4, 5, 1, 1, 1, 1, 2, .ro, .reset, .const 0, .range (0) (255)⟩
def dec_OUT_TAIL : Ob := ⟨"OUT_TAIL", .member, 29712, 1, 4, 6, 1, 1, 1, 1, 2, .rw, .reset, .const 0, .range (0) (255)⟩
def dec_DONE_HEAD : Ob := ⟨"DONE_HEAD", .member, 29712, 1, 4, 7, 1, 1, 1, 1, 2, .ro, .reset, .const 0, .range (0) (15)⟩
def dec_DONE_TAIL : Ob := ⟨"DONE_TAIL", .member, 29712, 1, 4, 8, 1, 1, 1, 1, 2, .rw, .reset, .const 0, .range (0) (15)⟩
def dec_DEC_ABORT : Ob := ⟨"DEC_ABORT", .member, 29712, 1, 4, 9, 1, 1, 1, 1, 1, .wo, .reset, .const 0, .range (0) (1)⟩
def dec_BLOCKS : Ob := ⟨"BLOCKS", .member, 29712, 1, 4, 10, 1, 1, 4, 4, 4, .ro, .reset, .const 0, .any⟩
def dec_BYTES_OUT : Ob := ⟨"BYTES_OUT", .member, 29712, 1, 4, 11, 1, 1, 8, 8, 5, .ro, .reset, .const 0, .any⟩
def dec_ERRORS : Ob := ⟨"ERRORS", .member, 29712, 1, 4, 12, 1, 1, 4, 4, 4, .ro, .reset, .const 0, .any⟩
def dec_OUT_WAITS : Ob := ⟨"OUT_WAITS", .member, 29712, 1, 4, 13, 1, 1, 4, 4, 4, .ro, .reset, .const 0, .any⟩
def REQ_RING : Ob := ⟨"REQ_RING", .one, 29728, 1, 4, 1, 16, 1, 32, 32, 16, .rw, .reset, .const 0, .any⟩
def OUT_RING : Ob := ⟨"OUT_RING", .one, 29736, 1, 4, 1, 256, 1, 16, 16, 16, .rw, .reset, .const 0, .any⟩
def DONE_RING : Ob := ⟨"DONE_RING", .one, 29744, 1, 4, 1, 16, 1, 32, 32, 16, .ro, .reset, .const 0, .any⟩

/-! ### Stream and DMA (Tables 10-10 and 10-11) -/

def STREAM_ID : Ob := ⟨"STREAM_ID", .member, 28672, 0, 1, 1, 1, 1, 4, 4, 4, .rw, .reset, .const 0, .any⟩
def STREAM_HOST : Ob := ⟨"STREAM_HOST", .member, 28672, 0, 1, 2, 1, 1, 16, 16, 16, .rw, .reset, .const 0, .any⟩
def STREAM_CTRL : Ob := ⟨"STREAM_CTRL", .member, 28672, 0, 1, 3, 1, 1, 1, 1, 2, .wo, .reset, .const 0, .range (1) (2)⟩
def STREAM_STATE : Ob := ⟨"STREAM_STATE", .member, 28672, 0, 1, 4, 1, 1, 1, 1, 2, .ro, .reset, .const 0, .any⟩
def STREAM_PORT : Ob := ⟨"STREAM_PORT", .member, 28672, 0, 1, 5, 1, 1, 2, 2, 3, .rwr, .retained, .const 47761, .range (1024) (65535)⟩
def ACK_PERIOD : Ob := ⟨"ACK_PERIOD", .member, 28672, 0, 1, 6, 1, 1, 2, 2, 3, .rwr, .retained, .const 50, .range (10) (1000)⟩
def STAGE_BASE : Ob := ⟨"STAGE_BASE", .member, 28672, 0, 1, 7, 1, 1, 8, 8, 5, .rwr, .retained, .const 0, .any⟩
def STAGE_SIZE : Ob := ⟨"STAGE_SIZE", .member, 28672, 0, 1, 8, 1, 1, 8, 8, 5, .rwr, .retained, .const 4294967296, .any⟩
def STAGE_FREE : Ob := ⟨"STAGE_FREE", .member, 28672, 0, 1, 9, 1, 1, 8, 8, 5, .ro, .reset, .const 0, .any⟩
def NEXT_DSEQ : Ob := ⟨"NEXT_DSEQ", .member, 28672, 0, 1, 10, 1, 1, 4, 4, 4, .ro, .reset, .const 0, .any⟩
def LAST_SSN : Ob := ⟨"LAST_SSN", .member, 28672, 0, 1, 11, 1, 1, 4, 4, 4, .ro, .reset, .const 0, .any⟩
def JOB_ID : Ob := ⟨"JOB_ID", .member, 28672, 0, 1, 12, 1, 1, 4, 4, 4, .ro, .reset, .const 0, .any⟩
def JOB_COL : Ob := ⟨"JOB_COL", .member, 28672, 0, 1, 13, 1, 1, 4, 4, 4, .ro, .reset, .const 0, .any⟩
def DGRAM_DISCARDS : Ob := ⟨"DGRAM_DISCARDS", .member, 28672, 0, 1, 14, 1, 8, 4, 32, 4, .ro, .reset, .const 0, .any⟩
def STREAM_ERR_INFO : Ob := ⟨"STREAM_ERR_INFO", .member, 28672, 0, 1, 15, 1, 1, 8, 8, 16, .ro, .reset, .const 0, .any⟩
def CMD_QUEUE : Ob := ⟨"CMD_QUEUE", .member, 28672, 0, 1, 16, 1, 1, 2, 2, 3, .ro, .reset, .const 0, .any⟩
def LATE_CMDS : Ob := ⟨"LATE_CMDS", .member, 28672, 0, 1, 17, 1, 1, 4, 4, 4, .ro, .reset, .const 0, .any⟩
def LOOKAHEAD : Ob := ⟨"LOOKAHEAD", .member, 28800, 0, 1, 1, 1, 1, 4, 4, 4, .ro, .reset, .const 0, .any⟩
def COMET_LA : Ob := ⟨"COMET_LA", .member, 28800, 0, 1, 2, 1, 1, 4, 4, 4, .rwr, .retained, .const 2048, .range (16) (1048576)⟩
def RESUME_LA : Ob := ⟨"RESUME_LA", .member, 28800, 0, 1, 3, 1, 1, 4, 4, 4, .rwr, .retained, .const 8192, .range (32) (4194304)⟩
def LA_MIN : Ob := ⟨"LA_MIN", .member, 28800, 0, 1, 4, 1, 1, 4, 4, 4, .ro, .reset, .const 4294967295, .any⟩
def FABRIC_BW : Ob := ⟨"FABRIC_BW", .member, 28800, 0, 1, 5, 1, 1, 4, 4, 4, .konst, .factory, .const 64000, .any⟩
def eng_ENG_STATE : Ob := ⟨"ENG_STATE", .member, 28928, 1, 8, 1, 1, 1, 1, 1, 2, .ro, .reset, .const 0, .any⟩
def eng_ACTIVE_CH : Ob := ⟨"ACTIVE_CH", .member, 28928, 1, 8, 2, 1, 1, 1, 1, 2, .ro, .reset, .const 255, .any⟩
def dma_CH_STATE : Ob := ⟨"CH_STATE", .member, 29184, 1, 128, 1, 1, 1, 1, 1, 2, .ro, .reset, .const 0, .any⟩
def dma_ENABLE : Ob := ⟨"ENABLE", .member, 29184, 1, 128, 2, 1, 1, 1, 1, 1, .rw, .reset, .const 0, .range (0) (1)⟩
def dma_PRIORITY : Ob := ⟨"PRIORITY", .member, 29184, 1, 128, 3, 1, 1, 1, 1, 2, .rwr, .retained, .const 0, .range (0) (7)⟩
def dma_PACE_MODE : Ob := ⟨"PACE_MODE", .member, 29184, 1, 128, 4, 1, 1, 1, 1, 2, .rwr, .retained, .const 0, .range (0) (1)⟩
def dma_SHARE : Ob := ⟨"SHARE", .member, 29184, 1, 128, 5, 1, 1, 2, 2, 3, .rwr, .retained, .const 32, .range (1) (256)⟩
def dma_BUCKET : Ob := ⟨"BUCKET", .member, 29184, 1, 128, 6, 1, 1, 4, 4, 4, .rwr, .retained, .const 4096, .range (256) (1048576)⟩
def dma_HEAD : Ob := ⟨"HEAD", .member, 29184, 1, 128, 7, 1, 1, 1, 1, 2, .ro, .reset, .const 0, .range (0) (15)⟩
def dma_TAIL : Ob := ⟨"TAIL", .member, 29184, 1, 128, 8, 1, 1, 1, 1, 2, .rw, .reset, .const 0, .range (0) (15)⟩
def dma_RESUME : Ob := ⟨"RESUME", .member, 29184, 1, 128, 9, 1, 1, 1, 1, 1, .wo, .reset, .const 0, .range (0) (1)⟩
def dma_ABORT : Ob := ⟨"ABORT", .member, 29184, 1, 128, 10, 1, 1, 1, 1, 1, .wo, .reset, .const 0, .range (0) (1)⟩
def dma_ERR_ADDR : Ob := ⟨"ERR_ADDR", .member, 29184, 1, 128, 11, 1, 1, 8, 8, 5, .ro, .reset, .const 0, .any⟩
def dma_ERR_INFO : Ob := ⟨"ERR_INFO", .member, 29184, 1, 128, 12, 1, 1, 1, 1, 2, .ro, .reset, .const 0, .any⟩
def dma_ERR_DESC : Ob := ⟨"ERR_DESC", .member, 29184, 1, 128, 13, 1, 1, 1, 1, 2, .ro, .reset, .const 0, .any⟩
def dma_DESCS_DONE : Ob := ⟨"DESCS_DONE", .member, 29184, 1, 128, 14, 1, 1, 4, 4, 4, .ro, .reset, .const 0, .any⟩
def dma_BYTES : Ob := ⟨"BYTES", .member, 29184, 1, 128, 15, 1, 1, 8, 8, 5, .ro, .reset, .const 0, .any⟩
def DESC_RING : Ob := ⟨"DESC_RING", .one, 29440, 1, 128, 1, 16, 1, 32, 32, 16, .rw, .reset, .const 0, .any⟩

/-! ### Spool and DRAM (Tables 11-9 and 11-10) -/

def SB_OWNER : Ob := ⟨"SB_OWNER", .one, 30720, 0, 1, 1, 50, 1, 1, 1, 2, .rwr, .retained, .spoolOwner, .range (0) (6)⟩
def SB_OWNER_B : Ob := ⟨"SB_OWNER_B", .one, 30721, 0, 1, 1, 2, 1, 1, 1, 2, .rwr, .retained, .const 0, .range (0) (6)⟩
def SB_STATE : Ob := ⟨"SB_STATE", .one, 30722, 0, 1, 1, 50, 1, 1, 1, 2, .ro, .reset, .spoolState, .any⟩
def SB_FLAGS : Ob := ⟨"SB_FLAGS", .one, 30723, 0, 1, 1, 50, 1, 1, 1, 2, .ro, .reset, .spoolFlags, .any⟩
def SB_VIOL : Ob := ⟨"SB_VIOL", .one, 30724, 0, 1, 1, 50, 1, 4, 4, 4, .ro, .reset, .const 0, .any⟩
def SB_ECC_C : Ob := ⟨"SB_ECC_C", .one, 30725, 0, 1, 1, 50, 1, 4, 4, 4, .ro, .reset, .const 0, .any⟩
def SB_ECC_U : Ob := ⟨"SB_ECC_U", .one, 30726, 0, 1, 1, 50, 1, 4, 4, 4, .ro, .reset, .const 0, .any⟩
def SB_COLLISIONS : Ob := ⟨"SB_COLLISIONS", .one, 30727, 0, 1, 1, 2, 1, 4, 4, 4, .ro, .reset, .const 0, .any⟩
def SP_ATOMIC : Ob := ⟨"SP_ATOMIC", .member, 30784, 0, 1, 1, 1, 1, 24, 24, 16, .wo, .reset, .const 0, .any⟩
def SP_ATOMIC_OLD : Ob := ⟨"SP_ATOMIC_OLD", .member, 30784, 0, 1, 2, 1, 1, 8, 8, 5, .ro, .reset, .const 0, .any⟩
def BASTE_EN : Ob := ⟨"BASTE_EN", .member, 30784, 0, 1, 3, 1, 1, 1, 1, 1, .rwr, .retained, .const 1, .range (0) (1)⟩
def BASTE_PERIOD : Ob := ⟨"BASTE_PERIOD", .member, 30784, 0, 1, 4, 1, 1, 4, 4, 4, .rwr, .retained, .const 10000, .range (100) (1000000)⟩
def BASTE_PASSES : Ob := ⟨"BASTE_PASSES", .member, 30784, 0, 1, 5, 1, 1, 4, 4, 4, .ro, .reset, .const 0, .any⟩
def BASTE_ERRORS : Ob := ⟨"BASTE_ERRORS", .member, 30784, 0, 1, 6, 1, 1, 4, 4, 4, .ro, .reset, .const 0, .any⟩
def BASTE_SKIPS : Ob := ⟨"BASTE_SKIPS", .member, 30784, 0, 1, 7, 1, 1, 4, 4, 4, .ro, .reset, .const 0, .any⟩
def BASTE_LAST : Ob := ⟨"BASTE_LAST", .member, 30784, 0, 1, 8, 1, 1, 16, 16, 16, .ro, .reset, .const 0, .any⟩
def MEM_ADDR : Ob := ⟨"MEM_ADDR", .member, 30848, 0, 1, 1, 1, 1, 8, 8, 5, .rw, .reset, .const 0, .any⟩
def MEM_DATA : Ob := ⟨"MEM_DATA", .member, 30848, 0, 1, 2, 1, 1, 0, 1048576, 16, .rw, .reset, .const 0, .any⟩
def DRAM_STATE : Ob := ⟨"DRAM_STATE", .member, 30976, 0, 1, 1, 1, 1, 1, 1, 2, .ro, .reset, .const 0, .any⟩
def DRAM_FITTED : Ob := ⟨"DRAM_FITTED", .member, 30976, 0, 1, 2, 1, 2, 8, 16, 5, .ro, .reset, .const 0, .any⟩
def DRAM_SIZE : Ob := ⟨"DRAM_SIZE", .member, 30976, 0, 1, 3, 1, 1, 8, 8, 5, .ro, .reset, .const 0, .any⟩
def DRAM_ECC : Ob := ⟨"DRAM_ECC", .member, 30976, 0, 1, 4, 1, 1, 1, 1, 1, .rwr, .retained, .const 1, .range (0) (1)⟩
def DRAM_ECC_PENDING : Ob := ⟨"DRAM_ECC_PENDING", .member, 30976, 0, 1, 5, 1, 1, 1, 1, 1, .ro, .reset, .const 0, .range (0) (1)⟩
def DRAM_SCRUB_POS : Ob := ⟨"DRAM_SCRUB_POS", .member, 30976, 0, 1, 6, 1, 1, 8, 8, 5, .ro, .reset, .const 0, .any⟩
def DRAM_ERR_ADDR : Ob := ⟨"DRAM_ERR_ADDR", .member, 30976, 0, 1, 7, 1, 1, 8, 8, 5, .ro, .reset, .const 0, .any⟩
def DRAM_ECC_CNT : Ob := ⟨"DRAM_ECC_CNT", .member, 30976, 0, 1, 8, 1, 2, 4, 8, 4, .ro, .reset, .const 0, .any⟩
def DRAM_REFRESH : Ob := ⟨"DRAM_REFRESH", .member, 30976, 0, 1, 9, 1, 1, 1, 1, 2, .ro, .reset, .const 0, .any⟩

/-! ### Motion (Tables 12-9 and 12-10) -/

def SERVO_PERIOD : Ob := ⟨"SERVO_PERIOD", .member, 14336, 0, 1, 1, 1, 1, 4, 4, 4, .rwr, .retained, .const 125000, .range (31250) (2000000)⟩
def CAP_SEQ : Ob := ⟨"CAP_SEQ", .member, 14336, 0, 1, 2, 1, 1, 1, 1, 1, .wo, .reset, .const 0, .range (0) (1)⟩
def grp_MASTER : Ob := ⟨"MASTER", .member, 14352, 1, 8, 1, 1, 1, 1, 1, 2, .rwr, .retained, .const 255, .either 0 11 255 255⟩
def grp_GEAR_ENGAGE : Ob := ⟨"GEAR_ENGAGE", .member, 14352, 1, 8, 2, 1, 1, 1, 1, 1, .rw, .reset, .const 0, .range (0) (1)⟩
def grp_GROUP_STOP : Ob := ⟨"GROUP_STOP", .member, 14352, 1, 8, 3, 1, 1, 1, 1, 1, .wo, .reset, .const 0, .range (0) (1)⟩
def ax_ROLE : Ob := ⟨"ROLE", .member, 14592, 1, 12, 1, 1, 1, 1, 1, 2, .rwr, .retained, .const 0, .range (0) (6)⟩
def ax_GROUP : Ob := ⟨"GROUP", .member, 14592, 1, 12, 2, 1, 1, 1, 1, 2, .rwr, .retained, .const 255, .either 0 7 255 255⟩
def ax_GEAR : Ob := ⟨"GEAR", .member, 14592, 1, 12, 3, 1, 1, 4, 4, 3600, .rwr, .retained, .const 0, .any⟩
def ax_ENABLE : Ob := ⟨"ENABLE", .member, 14592, 1, 12, 4, 1, 1, 1, 1, 1, .rw, .reset, .const 0, .range (0) (1)⟩
def ax_MOVE : Ob := ⟨"MOVE", .member, 14592, 1, 12, 5, 1, 1, 16, 16, 16, .wo, .reset, .const 0, .any⟩
def ax_V_MAX : Ob := ⟨"V_MAX", .member, 14592, 1, 12, 6, 1, 1, 4, 4, 4, .rwr, .retained, .const 0, .any⟩
def ax_A_ACC : Ob := ⟨"A_ACC", .member, 14592, 1, 12, 7, 1, 1, 4, 4, 4, .rwr, .retained, .const 0, .any⟩
def ax_A_DEC : Ob := ⟨"A_DEC", .member, 14592, 1, 12, 8, 1, 1, 4, 4, 4, .rwr, .retained, .const 0, .any⟩
def ax_JERK : Ob := ⟨"JERK", .member, 14592, 1, 12, 9, 1, 1, 8, 8, 5, .rwr, .retained, .const 0, .any⟩
def ax_STOP_DEC : Ob := ⟨"STOP_DEC", .member, 14592, 1, 12, 10, 1, 1, 4, 4, 4, .rwr, .retained, .const 0, .any⟩
def ax_SAFE_DEC : Ob := ⟨"SAFE_DEC", .member, 14592, 1, 12, 11, 1, 1, 4, 4, 4, .rwr, .retained, .const 0, .any⟩
def ax_SAFE_END : Ob := ⟨"SAFE_END", .member, 14592, 1, 12, 12, 1, 1, 1, 1, 2, .rwr, .retained, .const 1, .range (0) (2)⟩
def ax_POS_MIN : Ob := ⟨"POS_MIN", .member, 14592, 1, 12, 13, 1, 1, 8, 8, 9, .rwr, .retained, .const 0, .any⟩
def ax_POS_MAX : Ob := ⟨"POS_MAX", .member, 14592, 1, 12, 14, 1, 1, 8, 8, 9, .rwr, .retained, .const 0, .any⟩
def ax_HOME_MODE : Ob := ⟨"HOME_MODE", .member, 14592, 1, 12, 15, 1, 1, 1, 1, 2, .rwr, .retained, .const 0, .range (0) (2)⟩
def ax_HOME_SPEED : Ob := ⟨"HOME_SPEED", .member, 14592, 1, 12, 16, 1, 1, 4, 4, 4, .rwr, .retained, .const 0, .any⟩
def ax_HOME_POS : Ob := ⟨"HOME_POS", .member, 14592, 1, 12, 17, 1, 1, 8, 8, 9, .rwr, .retained, .const 0, .any⟩
def ax_HOME_SEARCH : Ob := ⟨"HOME_SEARCH", .member, 14592, 1, 12, 18, 1, 1, 8, 8, 5, .rwr, .retained, .const 0, .any⟩
def ax_SET_POS : Ob := ⟨"SET_POS", .member, 14592, 1, 12, 19, 1, 1, 8, 8, 9, .wo, .reset, .const 0, .any⟩
def ax_CAP_POS : Ob := ⟨"CAP_POS", .member, 14592, 1, 12, 20, 1, 1, 8, 8, 9, .rwr, .retained, .const 0, .any⟩
def ax_UNCAP_POS : Ob := ⟨"UNCAP_POS", .member, 14592, 1, 12, 21, 1, 1, 8, 8, 9, .rwr, .retained, .const 0, .any⟩
def ax_INPUT_POL : Ob := ⟨"INPUT_POL", .member, 14592, 1, 12, 22, 1, 1, 1, 1, 2, .rwr, .retained, .const 0, .mask 3⟩
def ax_POS : Ob := ⟨"POS", .member, 14592, 1, 12, 23, 1, 1, 8, 8, 9, .ro, .reset, .const 0, .any⟩
def ax_SPEED : Ob := ⟨"SPEED", .member, 14592, 1, 12, 24, 1, 1, 4, 4, 8, .ro, .reset, .const 0, .any⟩
def ax_STOP_DIST : Ob := ⟨"STOP_DIST", .member, 14592, 1, 12, 25, 1, 1, 8, 8, 5, .ro, .reset, .const 0, .any⟩
def ax_AX_STATE : Ob := ⟨"AX_STATE", .member, 14592, 1, 12, 26, 1, 1, 1, 1, 2, .ro, .reset, .const 0, .any⟩
def ax_AX_FLAGS : Ob := ⟨"AX_FLAGS", .member, 14592, 1, 12, 27, 1, 1, 1, 1, 2, .ro, .reset, .const 0, .any⟩
def st_PWM_FREQ : Ob := ⟨"PWM_FREQ", .member, 14848, 1, 8, 1, 1, 1, 4, 4, 4, .rwr, .retained, .const 40000, .range (20000) (80000)⟩
def st_DEAD_T : Ob := ⟨"DEAD_T", .member, 14848, 1, 8, 2, 1, 1, 2, 2, 3, .rwr, .retained, .const 100, .range (20) (500)⟩
def st_MODE_SEL : Ob := ⟨"MODE_SEL", .member, 14848, 1, 8, 3, 1, 1, 1, 1, 2, .rwr, .retained, .const 0, .range (0) (2)⟩
def st_STRONG_ON : Ob := ⟨"STRONG_ON", .member, 14848, 1, 8, 4, 1, 1, 4, 4, 4, .rwr, .retained, .const 600, .any⟩
def st_STRONG_OFF : Ob := ⟨"STRONG_OFF", .member, 14848, 1, 8, 5, 1, 1, 4, 4, 4, .rwr, .retained, .const 400, .any⟩
def st_I_RUN : Ob := ⟨"I_RUN", .member, 14848, 1, 8, 6, 1, 1, 2, 2, 3, .rwr, .retained, .const 0, .range (0) (20000)⟩
def st_QUIET_VOLT : Ob := ⟨"QUIET_VOLT", .member, 14848, 1, 8, 7, 1, 1, 2, 2, 3, .rwr, .retained, .const 0, .range (0) (60000)⟩
def st_BEMF_K : Ob := ⟨"BEMF_K", .member, 14848, 1, 8, 8, 1, 1, 2, 2, 3, .rwr, .retained, .const 0, .any⟩
def st_HOLD_VOLT : Ob := ⟨"HOLD_VOLT", .member, 14848, 1, 8, 9, 1, 1, 2, 2, 3, .rwr, .retained, .const 0, .range (0) (60000)⟩
def st_HOLD_DELAY : Ob := ⟨"HOLD_DELAY", .member, 14848, 1, 8, 10, 1, 1, 4, 4, 4, .rwr, .retained, .const 500, .range (1) (60000)⟩
def st_CHOP_BLANK : Ob := ⟨"CHOP_BLANK", .member, 14848, 1, 8, 11, 1, 1, 2, 2, 3, .rwr, .retained, .const 500, .range (250) (2000)⟩
def st_FAST_T : Ob := ⟨"FAST_T", .member, 14848, 1, 8, 12, 1, 1, 2, 2, 3, .rwr, .retained, .const 2000, .range (0) (10000)⟩
def st_SHUNT_GAIN : Ob := ⟨"SHUNT_GAIN", .member, 14848, 1, 8, 13, 1, 1, 1, 1, 2, .rwr, .retained, .const 20, .oneOf [10, 20, 40, 80]⟩
def st_R_SHUNT : Ob := ⟨"R_SHUNT", .member, 14848, 1, 8, 14, 1, 1, 4, 4, 4, .rwr, .retained, .const 0, .either 0 0 1000 1000000⟩
def st_DESAT_V : Ob := ⟨"DESAT_V", .member, 14848, 1, 8, 15, 1, 1, 2, 2, 3, .rwr, .retained, .const 1500, .range (500) (4000)⟩
def st_SENSE_TEST_PERIOD : Ob := ⟨"SENSE_TEST_PERIOD", .member, 14848, 1, 8, 16, 1, 1, 4, 4, 4, .rwr, .retained, .const 1000, .range (100) (100000)⟩
def st_SENSE_END : Ob := ⟨"SENSE_END", .member, 14848, 1, 8, 17, 1, 1, 1, 1, 2, .rwr, .retained, .const 1, .range (0) (1)⟩
def st_VBUS_UV : Ob := ⟨"VBUS_UV", .member, 14848, 1, 8, 18, 1, 1, 2, 2, 3, .rwr, .retained, .const 8000, .any⟩
def st_VBUS_OV : Ob := ⟨"VBUS_OV", .member, 14848, 1, 8, 19, 1, 1, 2, 2, 3, .rwr, .retained, .const 60000, .range (0) (62000)⟩
def st_CUR_MODE : Ob := ⟨"CUR_MODE", .member, 14848, 1, 8, 20, 1, 1, 1, 1, 2, .ro, .reset, .const 0, .any⟩
def st_I_A : Ob := ⟨"I_A", .member, 14848, 1, 8, 21, 1, 1, 2, 2, 7, .ro, .reset, .const 0, .any⟩
def st_I_B : Ob := ⟨"I_B", .member, 14848, 1, 8, 22, 1, 1, 2, 2, 7, .ro, .reset, .const 0, .any⟩
def st_VBUS : Ob := ⟨"VBUS", .member, 14848, 1, 8, 23, 1, 1, 2, 2, 3, .ro, .reset, .const 0, .any⟩
def dl_FOLLOW_MAX : Ob := ⟨"FOLLOW_MAX", .member, 15104, 1, 4, 1, 1, 1, 4, 4, 4, .rwr, .retained, .const 0, .any⟩
def dl_ACT_POS : Ob := ⟨"ACT_POS", .member, 15104, 1, 4, 2, 1, 1, 8, 8, 3856, .ro, .reset, .const 0, .any⟩
def dl_DL_FLAGS : Ob := ⟨"DL_FLAGS", .member, 15104, 1, 4, 3, 1, 1, 1, 1, 2, .ro, .reset, .const 0, .any⟩
def dl_FAULT_CODE : Ob := ⟨"FAULT_CODE", .member, 15104, 1, 4, 4, 1, 1, 2, 2, 3, .ro, .reset, .const 0, .any⟩
def dl_DL_MISSED : Ob := ⟨"DL_MISSED", .member, 15104, 1, 4, 5, 1, 1, 4, 4, 4, .ro, .reset, .const 0, .any⟩

/-! ### Comet and overspeed (Table 13-5) -/

def COMET_MODE : Ob := ⟨"COMET_MODE", .member, 12368, 0, 1, 1, 1, 1, 1, 1, 2, .rwr, .retained, .const 1, .range (0) (1)⟩
def COMET_STATE : Ob := ⟨"COMET_STATE", .member, 12368, 0, 1, 2, 1, 1, 1, 1, 2, .ro, .reset, .const 0, .any⟩
def SEAM : Ob := ⟨"SEAM", .member, 12368, 0, 1, 3, 1, 1, 4, 4, 4, .ro, .reset, .const 0, .any⟩
def SEAM_REACH : Ob := ⟨"SEAM_REACH", .member, 12368, 0, 1, 4, 1, 1, 8, 8, 3864, .ro, .reset, .const 0, .any⟩
def COMET_RUNOUT : Ob := ⟨"COMET_RUNOUT", .member, 12368, 0, 1, 5, 1, 1, 4, 4, 4, .rwr, .retained, .const 256, .range (0) (65535)⟩
def COMET_MARGIN : Ob := ⟨"COMET_MARGIN", .member, 12368, 0, 1, 6, 1, 1, 4, 4, 4, .rwr, .retained, .const 1024, .range (0) (1048576)⟩
def COMET_STEP : Ob := ⟨"COMET_STEP", .member, 12368, 0, 1, 7, 1, 1, 2, 2, 2319, .rwr, .retained, .const 1638, .range (0) (16384)⟩
def COMET_STABLE : Ob := ⟨"COMET_STABLE", .member, 12368, 0, 1, 8, 1, 1, 4, 4, 4, .rwr, .retained, .const 65536, .range (256) (16777216)⟩
def V_RES : Ob := ⟨"V_RES", .member, 12368, 0, 1, 9, 1, 1, 4, 4, 4, .ro, .reset, .const 0, .any⟩
def V_RES_MIN : Ob := ⟨"V_RES_MIN", .member, 12368, 0, 1, 10, 1, 1, 4, 4, 4, .rwr, .retained, .const 1000, .range (1) (1000000)⟩
def COMET_SCALE : Ob := ⟨"COMET_SCALE", .member, 12368, 0, 1, 11, 1, 1, 8, 8, 3888, .rwr, .retained, .const 0, .any⟩
def COMET_COLLECT : Ob := ⟨"COMET_COLLECT", .member, 12368, 0, 1, 12, 1, 1, 4, 4, 4, .rwr, .retained, .const 150000, .range (0) (1000000)⟩
def COMETS : Ob := ⟨"COMETS", .member, 12368, 0, 1, 13, 1, 1, 4, 4, 4, .ro, .reset, .const 0, .any⟩
def STEPDOWNS : Ob := ⟨"STEPDOWNS", .member, 12368, 0, 1, 14, 1, 1, 4, 4, 4, .ro, .reset, .const 0, .any⟩
def BACKUP_DIST : Ob := ⟨"BACKUP_DIST", .member, 12368, 0, 1, 15, 1, 1, 8, 8, 3864, .ro, .reset, .const 0, .any⟩
def BLANK_COLS : Ob := ⟨"BLANK_COLS", .member, 12368, 0, 1, 16, 1, 1, 4, 4, 4, .ro, .reset, .const 0, .any⟩
def OS_LIMIT : Ob := ⟨"OS_LIMIT", .member, 12384, 0, 1, 1, 1, 1, 2, 2, 3, .rwr, .retained, .const 20, .range (1) (500)⟩
def OS_COLS : Ob := ⟨"OS_COLS", .member, 12384, 0, 1, 2, 1, 1, 4, 4, 4, .rwr, .retained, .const 256, .range (1) (1048576)⟩
def OS_RUN : Ob := ⟨"OS_RUN", .member, 12384, 0, 1, 3, 1, 1, 4, 4, 4, .ro, .reset, .const 0, .any⟩

/-! ### Klolar (Tables 14-10 and 14-11) -/

def NODE_ID : Ob := ⟨"NODE_ID", .member, 32768, 0, 1, 1, 1, 1, 2, 2, 3, .rwr, .retained, .const 0, .range (0) (4094)⟩
def RING_ROLE : Ob := ⟨"RING_ROLE", .member, 32768, 0, 1, 2, 1, 1, 1, 1, 2, .rwr, .retained, .const 0, .range (0) (1)⟩
def RING_EN : Ob := ⟨"RING_EN", .member, 32768, 0, 1, 3, 1, 1, 1, 1, 2, .rwr, .retained, .const 3, .mask 3⟩
def RING_STATE : Ob := ⟨"RING_STATE", .member, 32768, 0, 1, 4, 1, 1, 1, 1, 2, .ro, .reset, .const 0, .any⟩
def MASTER_ID : Ob := ⟨"MASTER_ID", .member, 32768, 0, 1, 5, 1, 1, 2, 2, 3, .ro, .reset, .const 0, .any⟩
def HOPS_TO_MASTER : Ob := ⟨"HOPS_TO_MASTER", .member, 32768, 0, 1, 6, 1, 1, 4, 4, 4, .ro, .reset, .const 4294967295, .any⟩
def TOPO_EPOCH : Ob := ⟨"TOPO_EPOCH", .member, 32768, 0, 1, 7, 1, 1, 4, 4, 4, .ro, .reset, .const 0, .any⟩
def TOPO_COUNT : Ob := ⟨"TOPO_COUNT", .member, 32768, 0, 1, 8, 1, 1, 2, 2, 3, .ro, .reset, .const 0, .any⟩
def TACK_AGE_MAX : Ob := ⟨"TACK_AGE_MAX", .member, 32768, 0, 1, 9, 1, 1, 4, 4, 4, .rwr, .retained, .const 120000, .range (16000) (1000000)⟩
def RING_TACK_PERIOD : Ob := ⟨"RING_TACK_PERIOD", .member, 32768, 0, 1, 10, 1, 1, 4, 4, 4, .konst, .factory, .const 8000, .any⟩
def SYNC_PERIOD : Ob := ⟨"SYNC_PERIOD", .member, 32768, 0, 1, 11, 1, 1, 4, 4, 4, .rwr, .retained, .const 125000, .range (31250) (1000000)⟩
def RSTOP_TX : Ob := ⟨"RSTOP_TX", .member, 32768, 0, 1, 12, 1, 1, 1, 1, 2, .rwr, .retained, .const 0, .mask 3⟩
def CAL_REQ : Ob := ⟨"CAL_REQ", .member, 32768, 0, 1, 13, 1, 1, 1, 1, 1, .wo, .reset, .const 0, .range (0) (1)⟩
def CAL_STATE : Ob := ⟨"CAL_STATE", .member, 32768, 0, 1, 14, 1, 1, 1, 1, 2, .ro, .reset, .const 0, .any⟩
def RING_SWEEP_REQ : Ob := ⟨"RING_SWEEP_REQ", .member, 32768, 0, 1, 15, 1, 1, 8, 8, 5, .wo, .reset, .const 0, .any⟩
def RING_SWEEP_ID : Ob := ⟨"RING_SWEEP_ID", .member, 32768, 0, 1, 16, 1, 1, 4, 4, 4, .ro, .reset, .const 0, .any⟩
def FT_OFFSET : Ob := ⟨"FT_OFFSET", .member, 32768, 0, 1, 17, 1, 1, 4, 4, 3592, .ro, .reset, .const 0, .any⟩
def PTP_EN : Ob := ⟨"PTP_EN", .member, 32768, 0, 1, 18, 1, 1, 1, 1, 1, .rwr, .retained, .const 0, .range (0) (1)⟩
def PTP_DOMAIN : Ob := ⟨"PTP_DOMAIN", .member, 32768, 0, 1, 19, 1, 1, 1, 1, 2, .rwr, .retained, .const 0, .range (0) (127)⟩
def PTP_PORTS : Ob := ⟨"PTP_PORTS", .member, 32768, 0, 1, 20, 1, 1, 1, 1, 2, .rwr, .retained, .const 3, .mask 3⟩
def PTP_OFFSET_NS : Ob := ⟨"PTP_OFFSET_NS", .member, 32768, 0, 1, 21, 1, 1, 8, 8, 9, .rwr, .retained, .const 0, .any⟩
def PTP_GM : Ob := ⟨"PTP_GM", .member, 32768, 0, 1, 22, 1, 1, 8, 8, 16, .ro, .reset, .const 0, .any⟩
def PTP_ERR : Ob := ⟨"PTP_ERR", .member, 32768, 0, 1, 23, 1, 1, 4, 4, 8, .ro, .reset, .const 0, .any⟩
def AGE_BOUND : Ob := ⟨"AGE_BOUND", .member, 32768, 0, 1, 24, 1, 1, 4, 4, 4, .ro, .reset, .const 0, .any⟩
def FWD_TABLE : Ob := ⟨"FWD_TABLE", .one, 32769, 0, 1, 1, 64, 1, 8, 8, 5, .rwr, .retained, .const 0, .mask 9223389629040820223⟩
def TOPOLOGY : Ob := ⟨"TOPOLOGY", .one, 32770, 0, 1, 1, 4094, 1, 2, 2, 3, .ro, .reset, .const 0, .any⟩
def RING_SWEEP_STATUS : Ob := ⟨"RING_SWEEP_STATUS", .one, 32771, 0, 1, 1, 4094, 1, 1, 1, 2, .ro, .reset, .const 0, .any⟩
def COMET_PARTICIPANTS : Ob := ⟨"COMET_PARTICIPANTS", .one, 32772, 0, 1, 1, 4094, 1, 2, 2, 3, .ro, .reset, .const 0, .any⟩
def rp_LINK_STATE : Ob := ⟨"LINK_STATE", .member, 32784, 1, 2, 1, 1, 1, 1, 1, 2, .ro, .reset, .const 0, .any⟩
def rp_NEIGHBOUR : Ob := ⟨"NEIGHBOUR", .member, 32784, 1, 2, 2, 1, 1, 2, 2, 3, .ro, .reset, .const 0, .any⟩
def rp_NEIGHBOUR_SERIAL : Ob := ⟨"NEIGHBOUR_SERIAL", .member, 32784, 1, 2, 3, 1, 1, 8, 8, 5, .ro, .reset, .const 0, .any⟩
def rp_LINK_DELAY : Ob := ⟨"LINK_DELAY", .member, 32784, 1, 2, 4, 1, 1, 4, 4, 2568, .ro, .reset, .const 0, .any⟩
def rp_LINK_DELAY_PENDING : Ob := ⟨"LINK_DELAY_PENDING", .member, 32784, 1, 2, 5, 1, 1, 4, 4, 2568, .ro, .reset, .const 0, .any⟩
def rp_LINK_ERR : Ob := ⟨"LINK_ERR", .member, 32784, 1, 2, 6, 1, 4, 4, 16, 4, .ro, .reset, .const 0, .any⟩
def rp_DROPS : Ob := ⟨"DROPS", .member, 32784, 1, 2, 7, 1, 3, 4, 12, 4, .ro, .reset, .const 0, .any⟩
def rp_DOWNS : Ob := ⟨"DOWNS", .member, 32784, 1, 2, 8, 1, 1, 4, 4, 4, .ro, .reset, .const 0, .any⟩

/-! ### Pairs (Table 15-6) -/

def PAIR_ROLE : Ob := ⟨"PAIR_ROLE", .member, 33024, 0, 1, 1, 1, 1, 1, 1, 2, .rwr, .retained, .const 0, .range (0) (2)⟩
def PARTNER : Ob := ⟨"PARTNER", .member, 33024, 0, 1, 2, 1, 1, 2, 2, 3, .rwr, .retained, .const 0, .range (1) (4094)⟩
def PAIR_PORTS : Ob := ⟨"PAIR_PORTS", .member, 33024, 0, 1, 3, 1, 1, 8, 8, 5, .rwr, .retained, .const 0, .any⟩
def PAIR_STATE : Ob := ⟨"PAIR_STATE", .member, 33024, 0, 1, 4, 1, 1, 1, 1, 2, .ro, .reset, .const 0, .any⟩
def PAIR_SILENCE : Ob := ⟨"PAIR_SILENCE", .member, 33024, 0, 1, 5, 1, 1, 4, 4, 4, .rwr, .retained, .const 24000, .range (16000) (200000)⟩
def TAKE_LEAD : Ob := ⟨"TAKE_LEAD", .member, 33024, 0, 1, 6, 1, 1, 4, 4, 4, .rwr, .retained, .const 20000, .range (10000) (160000)⟩
def PAIR_TAKE_FATAL : Ob := ⟨"PAIR_TAKE_FATAL", .member, 33024, 0, 1, 7, 1, 1, 1, 1, 2, .rwr, .retained, .const 1, .range (0) (1)⟩
def PAIR_T_TOL : Ob := ⟨"PAIR_T_TOL", .member, 33024, 0, 1, 8, 1, 1, 4, 4, 4, .rwr, .retained, .const 20, .range (5) (10000)⟩
def TAKEOVER : Ob := ⟨"TAKEOVER", .member, 33024, 0, 1, 9, 1, 1, 1, 1, 1, .wo, .reset, .const 0, .range (0) (1)⟩
def PAIR_SWITCH : Ob := ⟨"PAIR_SWITCH", .member, 33024, 0, 1, 10, 1, 1, 1, 1, 1, .wo, .reset, .const 0, .range (0) (1)⟩
def PAIR_EPOCH : Ob := ⟨"PAIR_EPOCH", .member, 33024, 0, 1, 11, 1, 1, 4, 4, 4, .ro, .retained, .const 0, .any⟩
def PAIR_DIGEST : Ob := ⟨"PAIR_DIGEST", .member, 33024, 0, 1, 12, 1, 1, 4, 4, 4, .ro, .reset, .const 0, .any⟩
def PARTNER_DIGEST : Ob := ⟨"PARTNER_DIGEST", .member, 33024, 0, 1, 13, 1, 1, 4, 4, 4, .ro, .reset, .const 0, .any⟩
def NOT_READY : Ob := ⟨"NOT_READY", .member, 33024, 0, 1, 14, 1, 1, 2, 2, 3, .ro, .reset, .const 1, .any⟩
def PARTNER_READY : Ob := ⟨"PARTNER_READY", .member, 33024, 0, 1, 15, 1, 1, 2, 2, 3, .ro, .reset, .const 65535, .any⟩
def TAKE_LAST : Ob := ⟨"TAKE_LAST", .member, 33024, 0, 1, 16, 1, 1, 24, 24, 16, .ro, .retained, .const 0, .any⟩
def TAKEOVERS : Ob := ⟨"TAKEOVERS", .member, 33024, 0, 1, 17, 1, 1, 4, 4, 4, .ro, .reset, .const 0, .any⟩
def MIRROR_GAPS : Ob := ⟨"MIRROR_GAPS", .member, 33024, 0, 1, 18, 1, 1, 4, 4, 4, .ro, .reset, .const 0, .any⟩

/-! ### FOP (Table 16-8) -/

def hp_MAC_ADDR : Ob := ⟨"MAC_ADDR", .member, 4352, 1, 2, 1, 1, 1, 6, 6, 16, .rwr, .factory, .macAddr, .any⟩
def hp_IPV4_ADDR : Ob := ⟨"IPV4_ADDR", .member, 4352, 1, 2, 2, 1, 1, 4, 4, 16, .rwr, .retained, .const 0, .any⟩
def hp_IPV4_PREFIX : Ob := ⟨"IPV4_PREFIX", .member, 4352, 1, 2, 3, 1, 1, 1, 1, 2, .rwr, .retained, .const 24, .range (1) (32)⟩
def hp_IPV4_GW : Ob := ⟨"IPV4_GW", .member, 4352, 1, 2, 4, 1, 1, 4, 4, 16, .rwr, .retained, .const 0, .any⟩
def hp_IPV6_ADDR : Ob := ⟨"IPV6_ADDR", .member, 4352, 1, 2, 5, 1, 1, 16, 16, 16, .rwr, .retained, .const 0, .any⟩
def hp_IPV6_PREFIX : Ob := ⟨"IPV6_PREFIX", .member, 4352, 1, 2, 6, 1, 1, 1, 1, 2, .rwr, .retained, .const 64, .range (1) (128)⟩
def hp_IPV6_GW : Ob := ⟨"IPV6_GW", .member, 4352, 1, 2, 7, 1, 1, 16, 16, 16, .rwr, .retained, .const 0, .any⟩
def hp_NET_PENDING : Ob := ⟨"NET_PENDING", .member, 4352, 1, 2, 8, 1, 1, 1, 1, 1, .ro, .reset, .const 0, .range (0) (1)⟩
def hp_PORT_LINK : Ob := ⟨"PORT_LINK", .member, 4352, 1, 2, 9, 1, 1, 1, 1, 1, .ro, .reset, .const 0, .range (0) (1)⟩
def FOP_PORT : Ob := ⟨"FOP_PORT", .member, 4480, 0, 1, 1, 1, 1, 2, 2, 3, .rwr, .retained, .const 47760, .range (1024) (65535)⟩
def SESSION_IDLE : Ob := ⟨"SESSION_IDLE", .member, 4480, 0, 1, 2, 1, 1, 4, 4, 4, .rwr, .retained, .const 30, .range (5) (3600)⟩
def MAX_MSG_DEV : Ob := ⟨"MAX_MSG_DEV", .member, 4480, 0, 1, 3, 1, 1, 2, 2, 3, .konst, .factory, .const 8952, .any⟩
def TXN_LEASE : Ob := ⟨"TXN_LEASE", .member, 4480, 0, 1, 4, 1, 1, 4, 4, 4, .konst, .factory, .const 2000, .any⟩
def SESSIONS_OPEN : Ob := ⟨"SESSIONS_OPEN", .member, 4480, 0, 1, 5, 1, 1, 1, 1, 2, .ro, .reset, .const 0, .any⟩
def FOP_DISCARDS : Ob := ⟨"FOP_DISCARDS", .member, 4480, 0, 1, 6, 1, 6, 4, 24, 4, .ro, .reset, .const 0, .any⟩
def TXN_LAPSES : Ob := ⟨"TXN_LAPSES", .member, 4480, 0, 1, 7, 1, 1, 4, 4, 4, .ro, .reset, .const 0, .any⟩
def EVENTS_LOST : Ob := ⟨"EVENTS_LOST", .member, 4480, 0, 1, 8, 1, 1, 4, 4, 4, .ro, .reset, .const 0, .any⟩
def ROLE_KEY : Ob := ⟨"ROLE_KEY", .one, 4496, 0, 1, 1, 4, 1, 40, 40, 16, .wo, .factory, .const 0, .any⟩
def ROLE_KEY_INFO : Ob := ⟨"ROLE_KEY_INFO", .one, 4497, 0, 1, 1, 4, 1, 4, 4, 16, .ro, .factory, .roleKeyInfo, .any⟩
def SESSIONS : Ob := ⟨"SESSIONS", .one, 4512, 0, 1, 1, 16, 1, 32, 32, 16, .ro, .reset, .const 0, .any⟩

/-! ### Identity and dictionary service (Tables 17-6a and 17-6) -/

def VENDOR_ID : Ob := ⟨"VENDOR_ID", .member, 4096, 0, 1, 1, 1, 1, 4, 4, 4, .konst, .factory, .const 1146047571, .any⟩
def DEVICE_ID : Ob := ⟨"DEVICE_ID", .member, 4096, 0, 1, 2, 1, 1, 4, 4, 4, .konst, .factory, .const 25600, .any⟩
def REVISION : Ob := ⟨"REVISION", .member, 4096, 0, 1, 3, 1, 1, 2, 2, 3, .konst, .factory, .device, .any⟩
def SERIAL : Ob := ⟨"SERIAL", .member, 4096, 0, 1, 4, 1, 1, 8, 8, 5, .konst, .factory, .device, .any⟩
def GRADE : Ob := ⟨"GRADE", .member, 4096, 0, 1, 5, 1, 1, 1, 1, 2, .konst, .factory, .device, .any⟩
def DICT_VERSION : Ob := ⟨"DICT_VERSION", .member, 4096, 0, 1, 6, 1, 1, 2, 2, 3, .konst, .factory, .const 256, .any⟩
def OBJECT_COUNT : Ob := ⟨"OBJECT_COUNT", .member, 4096, 0, 1, 7, 1, 1, 2, 2, 3, .konst, .factory, .objectCount, .any⟩
def DEVICE_NAME : Ob := ⟨"DEVICE_NAME", .member, 4096, 0, 1, 8, 1, 1, 0, 64, 17, .rwr, .retained, .const 1, .any⟩
def REG_LOOKUP : Ob := ⟨"REG_LOOKUP", .member, 12032, 0, 1, 1, 1, 1, 4, 4, 4, .wo, .reset, .const 0, .any⟩
def REG_LOOKUP_RESULT : Ob := ⟨"REG_LOOKUP_RESULT", .member, 12032, 0, 1, 2, 1, 1, 16, 16, 16, .ro, .reset, .const 0, .any⟩
def JOURNAL_SYNC : Ob := ⟨"JOURNAL_SYNC", .member, 12032, 0, 1, 3, 1, 1, 1, 1, 1, .wo, .reset, .const 0, .range (0) (1)⟩
def JOURNAL_PENDING : Ob := ⟨"JOURNAL_PENDING", .member, 12032, 0, 1, 4, 1, 1, 4, 4, 4, .ro, .reset, .const 0, .any⟩
def RESTORE_FACTORY : Ob := ⟨"RESTORE_FACTORY", .member, 12032, 0, 1, 5, 1, 1, 1, 1, 2, .wo, .reset, .const 0, .range (1) (7)⟩
def RESTORE_SKIPPED : Ob := ⟨"RESTORE_SKIPPED", .member, 12032, 0, 1, 6, 1, 1, 4, 4, 4, .ro, .reset, .const 0, .any⟩
def RESTORE_FAULTS : Ob := ⟨"RESTORE_FAULTS", .member, 12032, 0, 1, 7, 1, 1, 4, 4, 4, .ro, .reset, .const 0, .any⟩
def RET_WEAR : Ob := ⟨"RET_WEAR", .member, 12032, 0, 1, 8, 1, 1, 2, 2, 3, .ro, .retained, .const 0, .any⟩
def LOST_WRITES : Ob := ⟨"LOST_WRITES", .member, 12032, 0, 1, 9, 1, 1, 4, 4, 4, .ro, .reset, .const 0, .any⟩
def LOST_WRITE_LAST : Ob := ⟨"LOST_WRITE_LAST", .member, 12032, 0, 1, 10, 1, 1, 16, 16, 16, .ro, .reset, .const 0, .any⟩

/-! ### Modes (Table 18-8) -/

def MODE : Ob := ⟨"MODE", .member, 8192, 0, 1, 1, 1, 1, 1, 1, 2, .ro, .reset, .const 2, .any⟩
def MODE_REQ : Ob := ⟨"MODE_REQ", .member, 8192, 0, 1, 2, 1, 1, 1, 1, 2, .wo, .reset, .const 0, .range (2) (7)⟩
def MODE_PHASE : Ob := ⟨"MODE_PHASE", .member, 8192, 0, 1, 3, 1, 1, 1, 1, 2, .ro, .reset, .const 0, .any⟩
def ENTRY_FAIL : Ob := ⟨"ENTRY_FAIL", .member, 8192, 0, 1, 4, 1, 1, 8, 8, 16, .ro, .reset, .const 0, .any⟩
def MODE_T_NS : Ob := ⟨"MODE_T_NS", .member, 8192, 0, 1, 5, 1, 1, 8, 8, 5, .ro, .reset, .const 0, .any⟩
def START_MODE : Ob := ⟨"START_MODE", .member, 8192, 0, 1, 6, 1, 1, 1, 1, 2, .rwr, .retained, .const 3, .range (2) (3)⟩
def CAP_ON_READY : Ob := ⟨"CAP_ON_READY", .member, 8192, 0, 1, 7, 1, 1, 1, 1, 1, .rwr, .retained, .const 1, .range (0) (1)⟩
def END_ACTION : Ob := ⟨"END_ACTION", .member, 8192, 0, 1, 8, 1, 1, 1, 1, 2, .rwr, .retained, .const 0, .range (0) (1)⟩
def PARK_TARGET : Ob := ⟨"PARK_TARGET", .member, 8192, 0, 1, 9, 1, 1, 1, 1, 2, .rwr, .retained, .const 0, .range (0) (1)⟩
def PARK_STEP : Ob := ⟨"PARK_STEP", .member, 8192, 0, 1, 10, 1, 1, 1, 1, 2, .ro, .reset, .const 0, .any⟩
def PARK_FAILED : Ob := ⟨"PARK_FAILED", .member, 8192, 0, 1, 11, 1, 1, 2, 2, 3, .ro, .reset, .const 0, .any⟩
def WAKE_AFTER : Ob := ⟨"WAKE_AFTER", .member, 8192, 0, 1, 12, 1, 1, 4, 4, 4, .rwr, .retained, .const 0, .range (0) (604800)⟩
def RESET_CMD : Ob := ⟨"RESET_CMD", .member, 8192, 0, 1, 13, 1, 1, 4, 4, 4, .wo, .reset, .const 0, .range (1) (1)⟩

/-! ### Selvedge (Tables 19-1 and 19-11) -/

def src_STATUS : Ob := ⟨"STATUS", .member, 34816, 1, 2048, 1, 1, 1, 1, 1, 2, .rw, .reset, .const 0, .range (0) (1)⟩
def src_FORCE : Ob := ⟨"FORCE", .member, 34816, 1, 2048, 2, 1, 1, 1, 1, 1, .wo, .reset, .const 0, .range (0) (1)⟩
def src_MASK : Ob := ⟨"MASK", .member, 34816, 1, 2048, 3, 1, 1, 1, 1, 1, .rwr, .retained, .srcMask, .range (0) (1)⟩
def src_CLASS : Ob := ⟨"CLASS", .member, 34816, 1, 2048, 4, 1, 1, 1, 1, 2, .rwr, .retained, .srcClass, .range (0) (2)⟩
def src_REACTION : Ob := ⟨"REACTION", .member, 34816, 1, 2048, 5, 1, 1, 1, 1, 2, .rwr, .retained, .srcReaction, .range (0) (4)⟩
def src_ESC : Ob := ⟨"ESC", .member, 34816, 1, 2048, 6, 1, 1, 1, 1, 1, .rwr, .retained, .srcEsc, .range (0) (1)⟩
def src_FLAGS : Ob := ⟨"FLAGS", .member, 34816, 1, 2048, 7, 1, 1, 1, 1, 2, .konst, .factory, .srcFlags, .any⟩
def src_COUNT : Ob := ⟨"COUNT", .member, 34816, 1, 2048, 8, 1, 1, 4, 4, 4, .ro, .reset, .const 0, .any⟩
def src_RAISE_T_NS : Ob := ⟨"RAISE_T_NS", .member, 34816, 1, 2048, 9, 1, 1, 8, 8, 5, .ro, .reset, .const 0, .any⟩
def src_LAST_T_NS : Ob := ⟨"LAST_T_NS", .member, 34816, 1, 2048, 10, 1, 1, 8, 8, 5, .ro, .reset, .const 0, .any⟩
def src_REPEATS : Ob := ⟨"REPEATS", .member, 34816, 1, 2048, 11, 1, 1, 2, 2, 3, .ro, .reset, .const 0, .any⟩
def src_INFO : Ob := ⟨"INFO", .member, 34816, 1, 2048, 12, 1, 1, 4, 4, 4, .ro, .reset, .const 0, .any⟩
def ACK_ALL : Ob := ⟨"ACK_ALL", .member, 8320, 0, 1, 1, 1, 1, 1, 1, 1, .wo, .reset, .const 0, .range (0) (1)⟩
def RAISED_C : Ob := ⟨"RAISED_C", .member, 8320, 0, 1, 2, 1, 1, 2, 2, 3, .ro, .reset, .const 0, .any⟩
def RAISED_U : Ob := ⟨"RAISED_U", .member, 8320, 0, 1, 3, 1, 1, 2, 2, 3, .ro, .reset, .const 0, .any⟩
def RAISED_F : Ob := ⟨"RAISED_F", .member, 8320, 0, 1, 4, 1, 1, 2, 2, 3, .ro, .reset, .const 0, .any⟩
def TRIP_CMD : Ob := ⟨"TRIP_CMD", .member, 8320, 0, 1, 5, 1, 1, 4, 4, 4, .wo, .reset, .const 0, .range (1) (1)⟩
def HOST_LOCK : Ob := ⟨"HOST_LOCK", .member, 8320, 0, 1, 6, 1, 1, 1, 1, 1, .wo, .reset, .const 0, .range (0) (1)⟩
def HOST_LOCK_OWNER : Ob := ⟨"HOST_LOCK_OWNER", .member, 8320, 0, 1, 7, 1, 1, 1, 1, 2, .ro, .reset, .const 0, .any⟩
def HOST_TIMEOUT : Ob := ⟨"HOST_TIMEOUT", .member, 8320, 0, 1, 8, 1, 1, 4, 4, 4, .rwr, .retained, .const 1000, .range (100) (60000)⟩
def FAULT_IN_POL : Ob := ⟨"FAULT_IN_POL", .member, 8320, 0, 1, 9, 1, 1, 2, 2, 3, .rwr, .retained, .const 0, .any⟩
def SAFE_AUTO_RESET : Ob := ⟨"SAFE_AUTO_RESET", .member, 8320, 0, 1, 10, 1, 1, 4, 4, 4, .rwr, .retained, .const 0, .either 0 0 10 86400⟩
def LOG_SEQ : Ob := ⟨"LOG_SEQ", .member, 8320, 0, 1, 11, 1, 1, 4, 4, 4, .ro, .retained, .const 0, .any⟩
def LOG_READ_MARK : Ob := ⟨"LOG_READ_MARK", .member, 8320, 0, 1, 12, 1, 1, 4, 4, 4, .rw, .reset, .const 0, .any⟩
def SAFE_CAUSE : Ob := ⟨"SAFE_CAUSE", .member, 8320, 0, 1, 13, 1, 1, 32, 32, 16, .ro, .retained, .const 0, .any⟩
def FAULT_LOG : Ob := ⟨"FAULT_LOG", .one, 8321, 0, 1, 1, 4096, 1, 32, 32, 16, .ro, .reset, .const 0, .any⟩
def FAULT_LOG_RET : Ob := ⟨"FAULT_LOG_RET", .one, 8322, 0, 1, 1, 256, 1, 32, 32, 16, .ro, .retained, .const 0, .any⟩
def RAISED_MAP : Ob := ⟨"RAISED_MAP", .one, 8323, 0, 1, 1, 32, 1, 8, 8, 5, .ro, .reset, .const 0, .any⟩

/-! ### Power and reset (Table 20-8) -/

def RESET_CAUSE : Ob := ⟨"RESET_CAUSE", .member, 8448, 0, 1, 1, 1, 1, 16, 16, 16, .ro, .retained, .const 0, .any⟩
def RESET_COUNT : Ob := ⟨"RESET_COUNT", .member, 8448, 0, 1, 2, 1, 1, 4, 4, 4, .ro, .retained, .const 0, .any⟩
def RAIL_STATE : Ob := ⟨"RAIL_STATE", .member, 8448, 0, 1, 3, 1, 1, 2, 2, 3, .ro, .reset, .const 1023, .any⟩
def ISLAND_RESET : Ob := ⟨"ISLAND_RESET", .member, 8448, 0, 1, 4, 1, 1, 1, 1, 2, .wo, .reset, .const 0, .range (0) (83)⟩
def START_PATH : Ob := ⟨"START_PATH", .member, 8448, 0, 1, 5, 1, 1, 1, 1, 2, .ro, .reset, .const 0, .any⟩
def T_CONFIG_NS : Ob := ⟨"T_CONFIG_NS", .member, 8448, 0, 1, 6, 1, 1, 8, 8, 5, .ro, .reset, .const 0, .any⟩
def T_READY_NS : Ob := ⟨"T_READY_NS", .member, 8448, 0, 1, 7, 1, 1, 8, 8, 5, .ro, .reset, .const 0, .any⟩
def OSC_STATE : Ob := ⟨"OSC_STATE", .member, 8448, 0, 1, 8, 1, 1, 1, 1, 2, .ro, .reset, .const 0, .any⟩
def RET_SIZE : Ob := ⟨"RET_SIZE", .member, 8448, 0, 1, 9, 1, 1, 4, 4, 4, .konst, .factory, .const 4194304, .any⟩
def RAIL_MV : Ob := ⟨"RAIL_MV", .one, 8449, 0, 1, 1, 10, 1, 2, 2, 3, .ro, .reset, .const 0, .any⟩
def ISLAND_STATE : Ob := ⟨"ISLAND_STATE", .one, 8450, 0, 1, 1, 84, 1, 1, 1, 2, .ro, .reset, .const 2, .any⟩

/-! ### BIST (Table 21-5) -/

def BIST_STATE : Ob := ⟨"BIST_STATE", .member, 38912, 0, 1, 1, 1, 1, 1, 1, 2, .ro, .reset, .const 0, .any⟩
def BIST_VALID : Ob := ⟨"BIST_VALID", .member, 38912, 0, 1, 2, 1, 1, 1, 1, 1, .ro, .retained, .const 0, .range (0) (1)⟩
def BIST_INVALIDATE : Ob := ⟨"BIST_INVALIDATE", .member, 38912, 0, 1, 3, 1, 1, 1, 1, 1, .wo, .reset, .const 0, .range (0) (1)⟩
def BIST_RUNS : Ob := ⟨"BIST_RUNS", .member, 38912, 0, 1, 4, 1, 1, 4, 4, 4, .ro, .retained, .const 0, .any⟩
def BIST_DURATION : Ob := ⟨"BIST_DURATION", .member, 38912, 0, 1, 5, 1, 1, 4, 4, 4, .ro, .retained, .const 0, .any⟩
def BIST_POWER_CAP : Ob := ⟨"BIST_POWER_CAP", .member, 38912, 0, 1, 6, 1, 1, 2, 2, 3, .konst, .factory, .const 30, .any⟩
def MEM_COUNT : Ob := ⟨"MEM_COUNT", .member, 38912, 0, 1, 7, 1, 1, 2, 2, 3, .konst, .factory, .const 452, .any⟩
def FAIL_OVERFLOW : Ob := ⟨"FAIL_OVERFLOW", .member, 38912, 0, 1, 8, 1, 1, 4, 4, 4, .ro, .retained, .const 0, .any⟩
def GROUP_RESULT : Ob := ⟨"GROUP_RESULT", .one, 38928, 0, 1, 1, 8, 1, 16, 16, 16, .ro, .retained, .const 0, .any⟩
def MEM_RESULT : Ob := ⟨"MEM_RESULT", .one, 38944, 0, 1, 1, 502, 1, 16, 16, 16, .ro, .retained, .const 0, .any⟩
def FAIL_LIST : Ob := ⟨"FAIL_LIST", .one, 38960, 0, 1, 1, 256, 1, 16, 16, 16, .ro, .retained, .const 0, .any⟩
def SIG_RESULT : Ob := ⟨"SIG_RESULT", .one, 38976, 0, 1, 1, 4, 1, 16, 16, 16, .ro, .retained, .const 0, .any⟩
def ANALOG_RESULT : Ob := ⟨"ANALOG_RESULT", .one, 38992, 0, 1, 1, 113, 1, 16, 16, 16, .ro, .retained, .const 0, .any⟩

/-! ### Balls (Table 22-12) -/

def STRAPS : Ob := ⟨"STRAPS", .scalar, 8451, 0, 1, 0, 1, 1, 1, 1, 2, .ro, .reset, .const 0, .any⟩
def FAULT_IN_LEVEL : Ob := ⟨"FAULT_IN_LEVEL", .scalar, 8452, 0, 1, 0, 1, 1, 2, 2, 3, .ro, .reset, .const 0, .any⟩
def JTAG_IDCODE : Ob := ⟨"JTAG_IDCODE", .scalar, 8453, 0, 1, 0, 1, 1, 4, 4, 4, .konst, .factory, .device, .any⟩

end Sys2Proof.Machine.Obj

namespace Sys2Proof.Machine

/-- The rows of Ephemeris (Tables 2-6 to 2-9). -/
def rows02 : List Ob :=
  [Obj.PACE_SRC, Obj.PACE_AXIS, Obj.TACK_PERIOD, Obj.H_MAX, Obj.T_ACC, Obj.A_MAX,
   Obj.PLACE_TOL, Obj.CMD_LAG, Obj.CMD_SCALE, Obj.TACK_NOW, Obj.TACK_DISCARDS, Obj.TACK_GAPS,
   Obj.FT_NS, Obj.FT_FRAC, Obj.FT_TRIM, Obj.FT_STATE, Obj.FT_STEP, Obj.fb_MODE,
   Obj.fb_SCALE, Obj.fb_EDGE_DELAY, Obj.fb_FILTER, Obj.fb_PERIOD_N, Obj.fb_T_CNT_ON, Obj.fb_T_CNT_OFF,
   Obj.fb_T_WIN, Obj.fb_T_ZERO, Obj.fb_Z_MODE, Obj.fb_SSI_BITS, Obj.fb_SSI_CLK, Obj.fb_SSI_OPTS,
   Obj.fb_SSI_PERIOD, Obj.fb_SSI_RECOVERY, Obj.fb_SSI_MAX_STEP, Obj.fb_TACK_TRIG, Obj.fb_TACK_EDGES, Obj.fb_COUNT,
   Obj.fb_Z_POS, Obj.fb_SPEED, Obj.fb_EST_STATE, Obj.TACKS_FB, Obj.TACKS_CMD, Obj.TACKS_RING,
   Obj.RG_OFFSET, Obj.RG_FLIGHT, Obj.PORT_DATUM, Obj.F_MED, Obj.PLACE_MAX, Obj.PLACE_OVER,
   Obj.PLACE_EXCEEDED]

/-- The rows of Fire sequencing (Tables 3-4 and 3-6). -/
def rows03 : List Ob :=
  [Obj.port_F_SET, Obj.port_PHASE_GROUPS, Obj.port_ROTATION, Obj.port_N_SLOT, Obj.port_N_BUDGET, Obj.port_N_SPAN,
   Obj.port_PULSE_EFF, Obj.port_PULSE_ADJ, Obj.port_RATE_PENDING, Obj.port_COL_LOST, Obj.GATE_LEAD, Obj.F_SET_ALL,
   Obj.OS_DROPPED, Obj.OS_LAST, Obj.spat_COLUMNS, Obj.spat_ADDR_MASK, Obj.spat_EVERY, Obj.spat_ENERGY,
   Obj.spat_INCLUDE, Obj.spat_PORTS, Obj.SPIT_RUN, Obj.SPIT_RATE, Obj.SPIT_ABORT, Obj.SPIT_STATE]

/-- The rows of Bobbin (Tables 4-4 to 4-6). -/
def rows04 : List Ob :=
  [Obj.K_CAL, Obj.E_DIE, Obj.K_ROW, Obj.EPT, Obj.WEAK_TRIM, Obj.THERM_COEF,
   Obj.T_REF, Obj.K_THERM_MIN, Obj.K_THERM_MAX, Obj.G_E, Obj.A_DECAY, Obj.T_SINK,
   Obj.CORR_GAIN, Obj.SINK_GAIN, Obj.T_EST, Obj.PRED_RISE, Obj.LAST_RESID, Obj.ENERGY_FLOOR,
   Obj.ENERGY_CEIL, Obj.MAP_RACE, Obj.REMAPS, Obj.MEAS_STALE, Obj.HIST, Obj.NBR,
   Obj.ENTRY_ENERGY, Obj.HIST_AGE, Obj.LOAD, Obj.LOAD_PEAK, Obj.LOAD_WARN, Obj.MIN_SLACK,
   Obj.LATE_COLS, Obj.STATS_CLEAR, Obj.THERM_RESID_MAX, Obj.MODEL_DT]

/-- The rows of Thread (Tables 5-15 and 5-16). -/
def rows05 : List Ob :=
  [Obj.port_PORT_ENABLE, Obj.port_LINK_STATE, Obj.port_PORT_RESET, Obj.port_DIE_IDENT, Obj.port_DIE_GEOM, Obj.port_DIE_LIMITS,
   Obj.port_LINK_DELAY, Obj.port_CFG_ID, Obj.port_PULSE_LOAD, Obj.port_TABLE_LOAD, Obj.port_PORT_FLAGS, Obj.port_CONV_STEP,
   Obj.port_SYNC_RESETS, Obj.port_NAK_COUNT, Obj.port_RESENDS, Obj.port_LINK_ERR, Obj.port_RETRAINS, Obj.port_SB_TIMEOUT,
   Obj.port_RESEND_MAX, Obj.port_TIME_PERIOD, Obj.port_HP_SETTLE, Obj.port_DONE_COL, Obj.ENUM_PARALLEL]

/-- The rows of Head health (Tables 6-10 to 6-13). -/
def rows06 : List Ob :=
  [Obj.NOZZLE_MAP, Obj.R_HEATER, Obj.R_BASE, Obj.TSR_NOM, Obj.TSR_ALPHA, Obj.LAST_MEAS,
   Obj.SWEEP_NEXT, Obj.DIE_SERIAL, Obj.MEAS_REQ, Obj.MEAS_REQ_JS, Obj.SWEEP_REQ, Obj.SWEEP_CANCEL,
   Obj.SWEEP_PENDING, Obj.SWEEP_ON_PARK, Obj.BASELINE, Obj.R_OPEN, Obj.R_SHORT, Obj.DRIFT_WEAK,
   Obj.DRIFT_DEAD, Obj.RISE1_DIE, Obj.RISE2_DIE, Obj.RISE3_DIE, Obj.T_ABS_DIE, Obj.RISE1_JS,
   Obj.RISE2_JS, Obj.RISE3_JS, Obj.T_ABS_JS, Obj.RISE_MIN_DT, Obj.RISE_MAX_DT, Obj.DRY_RATIO,
   Obj.DRY_MIN_RISE, Obj.DRY_FLAGS, Obj.DRY_CLEAR, Obj.CAP_TIMEOUT, Obj.TSR_FORCE, Obj.HEATER_FORCE,
   Obj.LAST_JS, Obj.hsv_HS_PORTS, Obj.hsv_HS_UV, Obj.hsv_HS_OV, Obj.hsv_HS_OFF_MAX, Obj.hsv_HS_OFF_TIME,
   Obj.hsv_HS_VOLT, Obj.hsv_HS_MIN, Obj.hsv_HS_MAX]

/-- The rows of Thimble (Tables 7-4 and 7-5). -/
def rows07 : List Ob :=
  [Obj.KEY_LOAD, Obj.KEY_REVOKE, Obj.COMMIT_PERIOD, Obj.COMMIT_DROPS, Obj.THIM_GRACE, Obj.COMMIT_NOW,
   Obj.THIM_RETRY, Obj.ORPHAN_ACK, Obj.ORPHAN_LOST, Obj.KEY_SLOT, Obj.ORPHANS, Obj.DROP_VOL,
   Obj.CARRIER_ID, Obj.THIM_STATE, Obj.COUNT, Obj.CSEQ, Obj.PENDING_PL, Obj.DROPS_PENDING,
   Obj.COMMITS, Obj.COMMIT_FAILS, Obj.VERIFY_REQ, Obj.VERIFY_RESULT]

/-- The rows of Raster path (Tables 8-7 to 8-9). -/
def rows08 : List Ob :=
  [Obj.INTERLEAVE, Obj.SUBCOL, Obj.PM_STATUS, Obj.PM_FAIL_PORT, Obj.PM_STAGED, Obj.PAGE_LINES,
   Obj.PAGE_COLS, Obj.PAGE_DIR, Obj.PAGE_PASS, Obj.PAGE_XSHIFT, Obj.PAGE_MASK, Obj.DIST,
   Obj.CARRY, Obj.RG_MAP, Obj.DARN_PARTNER, Obj.DARN_NEIGHBOUR, Obj.DARN_CARRIED, Obj.DARN_RELEASE,
   Obj.DARN_LOST, Obj.ms_PW, Obj.ms_PH, Obj.ms_PASSES, Obj.ms_X0, Obj.ms_L0,
   Obj.ms_MASK_DATA, Obj.ms_MASK_VALID, Obj.ms_UNCOVERED, Obj.ms_OVERCOVERED]

/-- The rows of Avone (Tables 9-11 and 9-12). -/
def rows09 : List Ob :=
  [Obj.WIN_DECODES, Obj.WIN_RETRIES, Obj.WIN_BAD, Obj.BAD_LAST, Obj.PRESET_DATA, Obj.PRESET_INFO,
   Obj.dec_DEC_STATE, Obj.dec_OUT_LIMIT, Obj.dec_REQ_HEAD, Obj.dec_REQ_TAIL, Obj.dec_OUT_HEAD, Obj.dec_OUT_TAIL,
   Obj.dec_DONE_HEAD, Obj.dec_DONE_TAIL, Obj.dec_DEC_ABORT, Obj.dec_BLOCKS, Obj.dec_BYTES_OUT, Obj.dec_ERRORS,
   Obj.dec_OUT_WAITS, Obj.REQ_RING, Obj.OUT_RING, Obj.DONE_RING]

/-- The rows of Stream and DMA (Tables 10-10 and 10-11). -/
def rows10 : List Ob :=
  [Obj.STREAM_ID, Obj.STREAM_HOST, Obj.STREAM_CTRL, Obj.STREAM_STATE, Obj.STREAM_PORT, Obj.ACK_PERIOD,
   Obj.STAGE_BASE, Obj.STAGE_SIZE, Obj.STAGE_FREE, Obj.NEXT_DSEQ, Obj.LAST_SSN, Obj.JOB_ID,
   Obj.JOB_COL, Obj.DGRAM_DISCARDS, Obj.STREAM_ERR_INFO, Obj.CMD_QUEUE, Obj.LATE_CMDS, Obj.LOOKAHEAD,
   Obj.COMET_LA, Obj.RESUME_LA, Obj.LA_MIN, Obj.FABRIC_BW, Obj.eng_ENG_STATE, Obj.eng_ACTIVE_CH,
   Obj.dma_CH_STATE, Obj.dma_ENABLE, Obj.dma_PRIORITY, Obj.dma_PACE_MODE, Obj.dma_SHARE, Obj.dma_BUCKET,
   Obj.dma_HEAD, Obj.dma_TAIL, Obj.dma_RESUME, Obj.dma_ABORT, Obj.dma_ERR_ADDR, Obj.dma_ERR_INFO,
   Obj.dma_ERR_DESC, Obj.dma_DESCS_DONE, Obj.dma_BYTES, Obj.DESC_RING]

/-- The rows of Spool and DRAM (Tables 11-9 and 11-10). -/
def rows11 : List Ob :=
  [Obj.SB_OWNER, Obj.SB_OWNER_B, Obj.SB_STATE, Obj.SB_FLAGS, Obj.SB_VIOL, Obj.SB_ECC_C,
   Obj.SB_ECC_U, Obj.SB_COLLISIONS, Obj.SP_ATOMIC, Obj.SP_ATOMIC_OLD, Obj.BASTE_EN, Obj.BASTE_PERIOD,
   Obj.BASTE_PASSES, Obj.BASTE_ERRORS, Obj.BASTE_SKIPS, Obj.BASTE_LAST, Obj.MEM_ADDR, Obj.MEM_DATA,
   Obj.DRAM_STATE, Obj.DRAM_FITTED, Obj.DRAM_SIZE, Obj.DRAM_ECC, Obj.DRAM_ECC_PENDING, Obj.DRAM_SCRUB_POS,
   Obj.DRAM_ERR_ADDR, Obj.DRAM_ECC_CNT, Obj.DRAM_REFRESH]

/-- The rows of Motion (Tables 12-9 and 12-10). -/
def rows12 : List Ob :=
  [Obj.SERVO_PERIOD, Obj.CAP_SEQ, Obj.grp_MASTER, Obj.grp_GEAR_ENGAGE, Obj.grp_GROUP_STOP, Obj.ax_ROLE,
   Obj.ax_GROUP, Obj.ax_GEAR, Obj.ax_ENABLE, Obj.ax_MOVE, Obj.ax_V_MAX, Obj.ax_A_ACC,
   Obj.ax_A_DEC, Obj.ax_JERK, Obj.ax_STOP_DEC, Obj.ax_SAFE_DEC, Obj.ax_SAFE_END, Obj.ax_POS_MIN,
   Obj.ax_POS_MAX, Obj.ax_HOME_MODE, Obj.ax_HOME_SPEED, Obj.ax_HOME_POS, Obj.ax_HOME_SEARCH, Obj.ax_SET_POS,
   Obj.ax_CAP_POS, Obj.ax_UNCAP_POS, Obj.ax_INPUT_POL, Obj.ax_POS, Obj.ax_SPEED, Obj.ax_STOP_DIST,
   Obj.ax_AX_STATE, Obj.ax_AX_FLAGS, Obj.st_PWM_FREQ, Obj.st_DEAD_T, Obj.st_MODE_SEL, Obj.st_STRONG_ON,
   Obj.st_STRONG_OFF, Obj.st_I_RUN, Obj.st_QUIET_VOLT, Obj.st_BEMF_K, Obj.st_HOLD_VOLT, Obj.st_HOLD_DELAY,
   Obj.st_CHOP_BLANK, Obj.st_FAST_T, Obj.st_SHUNT_GAIN, Obj.st_R_SHUNT, Obj.st_DESAT_V, Obj.st_SENSE_TEST_PERIOD,
   Obj.st_SENSE_END, Obj.st_VBUS_UV, Obj.st_VBUS_OV, Obj.st_CUR_MODE, Obj.st_I_A, Obj.st_I_B,
   Obj.st_VBUS, Obj.dl_FOLLOW_MAX, Obj.dl_ACT_POS, Obj.dl_DL_FLAGS, Obj.dl_FAULT_CODE, Obj.dl_DL_MISSED]

/-- The rows of Comet and overspeed (Table 13-5). -/
def rows13 : List Ob :=
  [Obj.COMET_MODE, Obj.COMET_STATE, Obj.SEAM, Obj.SEAM_REACH, Obj.COMET_RUNOUT, Obj.COMET_MARGIN,
   Obj.COMET_STEP, Obj.COMET_STABLE, Obj.V_RES, Obj.V_RES_MIN, Obj.COMET_SCALE, Obj.COMET_COLLECT,
   Obj.COMETS, Obj.STEPDOWNS, Obj.BACKUP_DIST, Obj.BLANK_COLS, Obj.OS_LIMIT, Obj.OS_COLS,
   Obj.OS_RUN]

/-- The rows of Klolar (Tables 14-10 and 14-11). -/
def rows14 : List Ob :=
  [Obj.NODE_ID, Obj.RING_ROLE, Obj.RING_EN, Obj.RING_STATE, Obj.MASTER_ID, Obj.HOPS_TO_MASTER,
   Obj.TOPO_EPOCH, Obj.TOPO_COUNT, Obj.TACK_AGE_MAX, Obj.RING_TACK_PERIOD, Obj.SYNC_PERIOD, Obj.RSTOP_TX,
   Obj.CAL_REQ, Obj.CAL_STATE, Obj.RING_SWEEP_REQ, Obj.RING_SWEEP_ID, Obj.FT_OFFSET, Obj.PTP_EN,
   Obj.PTP_DOMAIN, Obj.PTP_PORTS, Obj.PTP_OFFSET_NS, Obj.PTP_GM, Obj.PTP_ERR, Obj.AGE_BOUND,
   Obj.FWD_TABLE, Obj.TOPOLOGY, Obj.RING_SWEEP_STATUS, Obj.COMET_PARTICIPANTS, Obj.rp_LINK_STATE, Obj.rp_NEIGHBOUR,
   Obj.rp_NEIGHBOUR_SERIAL, Obj.rp_LINK_DELAY, Obj.rp_LINK_DELAY_PENDING, Obj.rp_LINK_ERR, Obj.rp_DROPS, Obj.rp_DOWNS]

/-- The rows of Pairs (Table 15-6). -/
def rows15 : List Ob :=
  [Obj.PAIR_ROLE, Obj.PARTNER, Obj.PAIR_PORTS, Obj.PAIR_STATE, Obj.PAIR_SILENCE, Obj.TAKE_LEAD,
   Obj.PAIR_TAKE_FATAL, Obj.PAIR_T_TOL, Obj.TAKEOVER, Obj.PAIR_SWITCH, Obj.PAIR_EPOCH, Obj.PAIR_DIGEST,
   Obj.PARTNER_DIGEST, Obj.NOT_READY, Obj.PARTNER_READY, Obj.TAKE_LAST, Obj.TAKEOVERS, Obj.MIRROR_GAPS]

/-- The rows of FOP (Table 16-8). -/
def rows16 : List Ob :=
  [Obj.hp_MAC_ADDR, Obj.hp_IPV4_ADDR, Obj.hp_IPV4_PREFIX, Obj.hp_IPV4_GW, Obj.hp_IPV6_ADDR, Obj.hp_IPV6_PREFIX,
   Obj.hp_IPV6_GW, Obj.hp_NET_PENDING, Obj.hp_PORT_LINK, Obj.FOP_PORT, Obj.SESSION_IDLE, Obj.MAX_MSG_DEV,
   Obj.TXN_LEASE, Obj.SESSIONS_OPEN, Obj.FOP_DISCARDS, Obj.TXN_LAPSES, Obj.EVENTS_LOST, Obj.ROLE_KEY,
   Obj.ROLE_KEY_INFO, Obj.SESSIONS]

/-- The rows of Identity and dictionary service (Tables 17-6a and 17-6). -/
def rows17 : List Ob :=
  [Obj.VENDOR_ID, Obj.DEVICE_ID, Obj.REVISION, Obj.SERIAL, Obj.GRADE, Obj.DICT_VERSION,
   Obj.OBJECT_COUNT, Obj.DEVICE_NAME, Obj.REG_LOOKUP, Obj.REG_LOOKUP_RESULT, Obj.JOURNAL_SYNC, Obj.JOURNAL_PENDING,
   Obj.RESTORE_FACTORY, Obj.RESTORE_SKIPPED, Obj.RESTORE_FAULTS, Obj.RET_WEAR, Obj.LOST_WRITES, Obj.LOST_WRITE_LAST]

/-- The rows of Modes (Table 18-8). -/
def rows18 : List Ob :=
  [Obj.MODE, Obj.MODE_REQ, Obj.MODE_PHASE, Obj.ENTRY_FAIL, Obj.MODE_T_NS, Obj.START_MODE,
   Obj.CAP_ON_READY, Obj.END_ACTION, Obj.PARK_TARGET, Obj.PARK_STEP, Obj.PARK_FAILED, Obj.WAKE_AFTER,
   Obj.RESET_CMD]

/-- The rows of Selvedge (Tables 19-1 and 19-11). -/
def rows19 : List Ob :=
  [Obj.src_STATUS, Obj.src_FORCE, Obj.src_MASK, Obj.src_CLASS, Obj.src_REACTION, Obj.src_ESC,
   Obj.src_FLAGS, Obj.src_COUNT, Obj.src_RAISE_T_NS, Obj.src_LAST_T_NS, Obj.src_REPEATS, Obj.src_INFO,
   Obj.ACK_ALL, Obj.RAISED_C, Obj.RAISED_U, Obj.RAISED_F, Obj.TRIP_CMD, Obj.HOST_LOCK,
   Obj.HOST_LOCK_OWNER, Obj.HOST_TIMEOUT, Obj.FAULT_IN_POL, Obj.SAFE_AUTO_RESET, Obj.LOG_SEQ, Obj.LOG_READ_MARK,
   Obj.SAFE_CAUSE, Obj.FAULT_LOG, Obj.FAULT_LOG_RET, Obj.RAISED_MAP]

/-- The rows of Power and reset (Table 20-8). -/
def rows20 : List Ob :=
  [Obj.RESET_CAUSE, Obj.RESET_COUNT, Obj.RAIL_STATE, Obj.ISLAND_RESET, Obj.START_PATH, Obj.T_CONFIG_NS,
   Obj.T_READY_NS, Obj.OSC_STATE, Obj.RET_SIZE, Obj.RAIL_MV, Obj.ISLAND_STATE]

/-- The rows of BIST (Table 21-5). -/
def rows21 : List Ob :=
  [Obj.BIST_STATE, Obj.BIST_VALID, Obj.BIST_INVALIDATE, Obj.BIST_RUNS, Obj.BIST_DURATION, Obj.BIST_POWER_CAP,
   Obj.MEM_COUNT, Obj.FAIL_OVERFLOW, Obj.GROUP_RESULT, Obj.MEM_RESULT, Obj.FAIL_LIST, Obj.SIG_RESULT,
   Obj.ANALOG_RESULT]

/-- The rows of Balls (Table 22-12). -/
def rows22 : List Ob :=
  [Obj.STRAPS, Obj.FAULT_IN_LEVEL, Obj.JTAG_IDCODE]

/-- Every row of the dictionary. -/
def dictionary : List Ob :=
  rows02 ++ rows03 ++ rows04 ++ rows05 ++ rows06 ++ rows07 ++ rows08 ++ rows09 ++ rows10 ++ rows11 ++ rows12 ++ rows13 ++ rows14 ++ rows15 ++ rows16 ++ rows17 ++ rows18 ++ rows19 ++ rows20 ++ rows21 ++ rows22

end Sys2Proof.Machine
end

