-- ==== Sys2Proof/Machine/Sources.lean ====
section
/-! DEFINITION. The table of Selvedge's sources (R494, R509): the defaults of every assigned source. -/

namespace Sys2Proof.Machine

/-- The assigned sources (Table 19-8), from the source table of each chapter, Table 19-7b and Table 19-12. -/
def sourceTable : List SrcRow := [
  ⟨0, 0, 2, true, false, 0, true, false⟩, -- SEL_INTEGRITY
  ⟨1, 1, 2, true, false, 0, true, false⟩, -- SEL_CONFIG
  ⟨2, 2, 2, true, false, 0, true, false⟩, -- HEM_INTEGRITY
  ⟨3, 3, 1, true, false, 1, true, false⟩, -- HEM_ARM
  ⟨4, 4, 2, true, false, 0, true, false⟩, -- SAFETY_WDOG
  ⟨5, 5, 2, true, false, 0, true, false⟩, -- FAULT_N_READBACK
  ⟨6, 6, 1, false, false, 1, true, false⟩, -- HOST_LOST
  ⟨7, 7, 2, false, false, 0, true, false⟩, -- TRIP_CMD
  ⟨8, 8, 0, false, false, 0, false, false⟩, -- LOG_WRAP
  ⟨9, 24, 2, false, true, 0, true, true⟩, -- FAULT_IN0–FAULT_IN15
  ⟨64, 127, 2, true, false, 0, true, false⟩, -- HPWR_READBACK
  ⟨128, 191, 2, true, false, 0, true, false⟩, -- ABORT_READBACK
  ⟨192, 199, 2, true, false, 0, true, false⟩, -- GATE_READBACK
  ⟨200, 203, 2, true, false, 0, true, false⟩, -- DL_SAFE_READBACK
  ⟨256, 264, 2, true, false, 0, true, true⟩, -- RAIL_UV rails 0–8
  ⟨265, 265, 0, false, false, 0, true, true⟩, -- RAIL_UV VDRV
  ⟨266, 275, 2, true, false, 0, true, true⟩, -- RAIL_OV rails 0–9
  ⟨276, 339, 1, false, false, 1, true, true⟩, -- CLK_FAIL
  ⟨340, 343, 1, false, false, 0, true, true⟩, -- CLK_FAIL
  ⟨344, 359, 2, true, false, 0, true, true⟩, -- CLK_FAIL
  ⟨360, 423, 1, false, false, 1, true, false⟩, -- XING
  ⟨424, 427, 1, false, false, 0, true, false⟩, -- XING
  ⟨428, 443, 2, true, false, 0, true, false⟩, -- XING
  ⟨444, 519, 1, false, false, 1, true, false⟩, -- REG_PAR
  ⟨520, 520, 2, true, false, 0, true, false⟩, -- REG_PAR
  ⟨521, 522, 1, false, false, 1, true, false⟩, -- REG_PAR
  ⟨523, 525, 2, true, false, 0, true, false⟩, -- REG_PAR
  ⟨526, 526, 1, false, false, 1, true, false⟩, -- REG_PAR
  ⟨527, 527, 2, true, false, 0, true, false⟩, -- REG_PAR
  ⟨528, 528, 2, true, false, 0, true, true⟩, -- OSC_FAIL
  ⟨529, 529, 0, false, false, 0, false, false⟩, -- OSC_DRIFT
  ⟨530, 530, 0, false, false, 0, false, false⟩, -- UNEXPECTED_RESET
  ⟨531, 531, 1, false, false, 0, true, true⟩, -- REF_MISMATCH
  ⟨600, 607, 0, false, false, 0, false, false⟩, -- FBn_COUNT
  ⟨608, 615, 1, false, false, 1, true, true⟩, -- FBn_SIGNAL
  ⟨616, 616, 1, false, false, 1, true, false⟩, -- TACK_STALE
  ⟨617, 617, 1, false, false, 2, true, false⟩, -- PLACEMENT
  ⟨618, 618, 0, false, false, 0, false, false⟩, -- ACC_CLAMP
  ⟨619, 619, 0, false, false, 0, true, false⟩, -- FT_UNLOCK
  ⟨640, 703, 0, false, false, 0, true, false⟩, -- PULSE_ADJ
  ⟨704, 704, 0, false, false, 0, false, false⟩, -- OS_DROP
  ⟨705, 705, 0, false, false, 0, false, false⟩, -- COL_LOST
  ⟨720, 720, 0, false, false, 0, false, false⟩, -- BOB_LATE
  ⟨721, 721, 0, false, false, 0, false, false⟩, -- BOB_LOAD
  ⟨722, 722, 0, false, false, 0, true, false⟩, -- THERM_RESID
  ⟨723, 723, 0, false, false, 0, true, false⟩, -- BOB_ECC_C
  ⟨724, 724, 1, false, false, 2, true, false⟩, -- BOB_ECC_U
  ⟨768, 831, 1, false, false, 1, true, true⟩, -- THREAD_FAULT
  ⟨832, 895, 0, false, false, 0, false, false⟩, -- THREAD_LINK
  ⟨896, 896, 0, false, false, 0, true, false⟩, -- THREAD_NAK
  ⟨897, 897, 0, false, false, 0, true, false⟩, -- THREAD_CAL
  ⟨898, 898, 0, false, false, 0, true, false⟩, -- THREAD_TAKE
  ⟨912, 975, 0, false, false, 0, false, false⟩, -- DIE_RISE1
  ⟨976, 1039, 1, false, false, 3, true, false⟩, -- DIE_RISE2
  ⟨1040, 1103, 2, false, false, 0, true, false⟩, -- DIE_TRIP
  ⟨1104, 1167, 0, false, false, 0, true, false⟩, -- DIE_DRY
  ⟨1168, 1183, 0, false, false, 0, false, false⟩, -- JS_RISE1
  ⟨1184, 1199, 1, false, false, 3, true, false⟩, -- JS_RISE2
  ⟨1200, 1215, 2, false, false, 0, true, false⟩, -- JS_TRIP
  ⟨1216, 1216, 2, true, false, 0, true, true⟩, -- TJ_TRIP
  ⟨1217, 1232, 1, false, false, 1, true, true⟩, -- HS_UV
  ⟨1233, 1248, 2, false, false, 0, true, true⟩, -- HS_OV
  ⟨1249, 1264, 1, false, false, 0, true, true⟩, -- HS_STUCK
  ⟨1265, 1265, 0, false, false, 0, true, false⟩, -- SWEEP_DEAD
  ⟨1266, 1266, 0, false, false, 0, false, false⟩, -- MEAS_FAIL
  ⟨1267, 1267, 1, false, false, 1, true, false⟩, -- AFE_REF
  ⟨1268, 1268, 1, false, false, 0, true, false⟩, -- CAP_FAIL
  ⟨1280, 1343, 1, false, false, 1, true, false⟩, -- THIM_AUTH
  ⟨1344, 1344, 0, false, false, 0, true, false⟩, -- THIM_COMMIT
  ⟨1345, 1345, 1, false, false, 1, true, false⟩, -- THIM_OVERDUE
  ⟨1346, 1346, 0, false, false, 0, true, false⟩, -- THIM_MISMATCH
  ⟨1347, 1347, 1, false, false, 1, true, false⟩, -- THIM_ROLLBACK
  ⟨1348, 1348, 0, false, false, 0, true, false⟩, -- THIM_ORPHAN
  ⟨1349, 1349, 1, false, false, 1, true, false⟩, -- THIM_JOURNAL
  ⟨1360, 1360, 1, false, false, 1, true, false⟩, -- RASTER_CFG
  ⟨1361, 1361, 0, false, false, 0, false, false⟩, -- DARN_LOST
  ⟨1362, 1362, 0, false, false, 0, true, false⟩, -- RASTER_ECC_C
  ⟨1363, 1363, 1, false, false, 2, true, false⟩, -- RASTER_ECC_U
  ⟨1376, 1379, 0, false, false, 0, false, false⟩, -- AV_ERR
  ⟨1380, 1380, 0, false, false, 0, false, false⟩, -- AV_BAD_BLOCK
  ⟨1381, 1381, 0, false, false, 0, true, false⟩, -- AV_ECC_C
  ⟨1382, 1382, 1, false, false, 1, true, false⟩, -- AV_ECC_U
  ⟨1392, 1392, 1, false, false, 1, true, false⟩, -- STREAM_FMT
  ⟨1393, 1393, 0, false, false, 0, false, false⟩, -- STREAM_LATE
  ⟨1394, 1394, 0, false, false, 0, false, false⟩, -- STREAM_DISCARD
  ⟨1400, 1400, 1, false, false, 1, true, false⟩, -- DMA_BUS
  ⟨1401, 1407, 0, false, false, 0, true, false⟩, -- DMA_BUS
  ⟨1408, 1408, 0, false, false, 0, true, false⟩, -- DMA_DESC
  ⟨1424, 1424, 0, false, false, 0, true, false⟩, -- SPOOL_VIOL
  ⟨1425, 1425, 0, false, false, 0, false, false⟩, -- SPOOL_ECC_C
  ⟨1426, 1426, 0, false, false, 0, true, false⟩, -- SPOOL_ECC_U
  ⟨1427, 1427, 0, false, false, 0, true, false⟩, -- BASTE_FAIL
  ⟨1428, 1428, 1, false, false, 1, true, false⟩, -- SPOOL_SPACE
  ⟨1429, 1429, 0, false, false, 0, false, false⟩, -- DRAM_ECC_C
  ⟨1430, 1430, 0, false, false, 0, true, false⟩, -- DRAM_ECC_U
  ⟨1431, 1431, 1, false, false, 0, true, false⟩, -- DRAM_INIT
  ⟨1432, 1432, 0, false, false, 0, true, false⟩, -- DRAM_LOST
  ⟨1433, 1433, 0, false, false, 0, true, true⟩, -- DRAM_HOT
  ⟨1440, 1451, 1, false, false, 4, true, true⟩, -- AX_LIMIT
  ⟨1452, 1459, 1, false, false, 4, true, false⟩, -- ST_PHASE_OPEN
  ⟨1460, 1467, 1, false, false, 4, true, false⟩, -- ST_SENSE
  ⟨1468, 1475, 1, false, false, 4, true, false⟩, -- ST_DESAT
  ⟨1476, 1479, 1, false, false, 4, true, true⟩, -- DL_LINK
  ⟨1480, 1483, 1, false, false, 4, true, false⟩, -- DL_DRIVE
  ⟨1484, 1487, 1, false, false, 4, true, false⟩, -- DL_FOLLOW
  ⟨1488, 1488, 1, false, false, 4, true, true⟩, -- VDRV_UV
  ⟨1489, 1496, 1, false, false, 4, true, true⟩, -- VBUS_UV
  ⟨1497, 1504, 1, false, false, 4, true, true⟩, -- VBUS_OV
  ⟨1505, 1505, 0, false, false, 0, true, false⟩, -- AX_HOME
  ⟨1520, 1520, 0, false, false, 0, true, false⟩, -- COMET
  ⟨1521, 1521, 0, false, false, 0, true, false⟩, -- COMET_STEPDOWN
  ⟨1522, 1522, 1, false, false, 2, true, false⟩, -- COMET_FLOOR
  ⟨1523, 1523, 1, false, false, 2, true, false⟩, -- COMET_FAIL
  ⟨1524, 1524, 0, false, false, 0, true, false⟩, -- LA_LOW
  ⟨1525, 1525, 1, false, false, 2, true, false⟩, -- OS_STOP
  ⟨1536, 1537, 0, false, false, 0, true, false⟩, -- KL_LINK
  ⟨1538, 1538, 0, false, false, 0, true, false⟩, -- KL_FOLD
  ⟨1539, 1539, 1, false, false, 1, true, false⟩, -- KL_SPLIT
  ⟨1540, 1540, 1, false, false, 0, true, false⟩, -- KL_DUP_ID
  ⟨1541, 1541, 1, false, false, 0, true, false⟩, -- KL_MASTER
  ⟨1542, 1542, 0, false, false, 0, true, false⟩, -- KL_DELAY_SHIFT
  ⟨1543, 1543, 1, false, false, 1, true, false⟩, -- KL_REMOTE_STOP
  ⟨1544, 1544, 0, false, false, 0, true, false⟩, -- KL_FT_AHEAD
  ⟨1545, 1545, 0, false, false, 0, true, false⟩, -- KL_HOP_BUDGET
  ⟨1546, 1546, 0, false, false, 0, false, false⟩, -- KL_FWD_DROP
  ⟨1547, 1547, 0, false, false, 0, true, false⟩, -- KL_SWEEP_INCOMPLETE
  ⟨1552, 1552, 0, false, false, 0, true, false⟩, -- PAIR_TAKEOVER
  ⟨1553, 1553, 1, false, false, 1, true, false⟩, -- PAIR_NO_TAKE
  ⟨1554, 1554, 0, false, false, 0, true, false⟩, -- PAIR_DEMOTED
  ⟨1555, 1555, 0, false, false, 0, true, false⟩, -- PAIR_STANDBY_LOST
  ⟨1556, 1556, 0, false, false, 0, false, false⟩, -- PAIR_MIRROR
  ⟨1557, 1557, 0, false, false, 0, true, false⟩, -- PAIR_DIGEST
  ⟨1558, 1558, 0, false, false, 0, true, false⟩, -- PAIR_DIVERGE
  ⟨1568, 1568, 0, false, false, 0, false, false⟩, -- FOP_AUTH
  ⟨1569, 1569, 0, false, false, 0, true, false⟩, -- FOP_TXN_LAPSED
  ⟨1570, 1570, 0, false, false, 0, false, false⟩, -- FOP_EVENT_LOST
  ⟨1584, 1584, 0, false, false, 0, true, false⟩, -- RET_RESTORE
  ⟨1585, 1585, 1, false, false, 0, true, false⟩, -- RET_JOURNAL
  ⟨1586, 1586, 0, false, false, 0, true, false⟩, -- LOST_WRITE
  ⟨1587, 1587, 0, false, false, 0, true, false⟩, -- RET_WEAR_SRC
  ⟨1600, 1600, 0, false, false, 0, true, false⟩, -- PARK_INCOMPLETE
  ⟨1616, 1665, 0, false, false, 0, false, false⟩, -- SPOOL_REPAIR
  ⟨1666, 1715, 1, false, false, 1, false, false⟩, -- SPOOL_UNREP
  ⟨1716, 1799, 0, false, false, 0, false, false⟩, -- MEM_REPAIR islands 0x00–0x53
  ⟨1800, 1878, 1, false, false, 1, false, false⟩, -- MEM_UNREP islands 0x00–0x53
  ⟨1879, 1879, 2, true, false, 0, false, false⟩, -- MEM_UNREP islands 0x00–0x53
  ⟨1880, 1883, 1, false, false, 1, false, false⟩, -- MEM_UNREP islands 0x00–0x53
  ⟨1884, 1885, 2, true, false, 0, false, false⟩, -- SIG_SELVEDGE A, B
  ⟨1886, 1887, 1, false, false, 1, false, false⟩, -- SIG_THIMBLE, SIG_EPHEM
  ⟨1888, 1919, 1, false, false, 1, false, false⟩, -- AFE_LOOP
  ⟨1920, 1920, 1, false, false, 1, false, false⟩, -- REF_CHECK
  ⟨1921, 1984, 1, false, false, 0, false, false⟩, -- THREAD_LOOP
  ⟨1985, 1988, 1, false, false, 0, false, false⟩, -- SERDES_LOOP
  ⟨1989, 1992, 1, false, false, 0, false, false⟩, -- DL_LOOP
  ⟨1993, 2000, 1, false, false, 0, false, false⟩, -- GATE_LOOP
  ⟨2001, 2001, 1, false, false, 0, false, false⟩, -- RET_CHECK
  ⟨2002, 2002, 0, false, false, 0, false, false⟩, -- BIST_TIMEOUT
  ⟨2003, 2003, 0, false, false, 0, false, false⟩, -- BIST_ABORTED
  ⟨2004, 2004, 0, false, false, 0, false, false⟩, -- BIST_FULL
  ⟨2005, 2005, 0, false, false, 0, false, false⟩] -- BIST_SKIPPED

/-- The row of source `n`, if it is assigned. -/
def srcRowIn : List SrcRow → Nat → Option SrcRow
  | [], _ => none
  | r :: t, n => if r.first ≤ n ∧ n ≤ r.last then some r else srcRowIn t n

/-- The row of source `n`, if it is assigned (R494). -/
def srcRow (n : Nat) : Option SrcRow := srcRowIn sourceTable n

/-- Source `n` is assigned. -/
def srcAssigned (n : Nat) : Bool := (srcRow n).isSome

/-- A field of the row of source `n`, or `d` for an unassigned one. -/
def srcField {α : Type} (d : α) (f : SrcRow → α) (n : Nat) : α :=
  match srcRow n with
  | some r => f r
  | none => d

end Sys2Proof.Machine
end

