-- ==== Sys2Proof/Machine/Ops.lean ====
section
/-! DEFINITION. The named operations every meaning uses: the clock and FT, the object store, deadlines, what the block sends, FOP events. -/

namespace Sys2Proof.Machine

open Sys2Proof

/-! ### Lifting to the whole block -/

/-- The outcome of a command that works on all but the addressed memory. -/
def onCore (f : Core → Core) (s : State) : Host.Outcome State Fault Refusal :=
  .next { s with core := f s.core }

/-- The outcome of a command that may also work on the addressed memory. -/
def onBoth (f : Core → List Host.Cell → Core × List Host.Cell) (s : State) : Host.Outcome State Fault Refusal :=
  .next { s with core := (f s.core s.mem).1, mem := (f s.core s.mem).2 }

/-! ### Reset values of the objects -/

/-- Owner of a Spool bank at reset (Table 11-2). -/
def bankOwnerAtReset (b : Nat) : Nat :=
  if b ≤ 3 then 5 else if b ≤ 5 then 4 else if b ≤ 6 then 2 else if b ≤ 9 then 3
  else if b ≤ 11 then 4 else if b ≤ 23 then 3 else if b ≤ 27 then 6 else 0

/-- The bank is fixed (Table 11-2). -/
def bankFixed (b : Nat) : Bool := decide (b ≤ 11)

/-- The bank has two ports (Table 11-2). -/
def bankDual (b : Nat) : Bool := decide (48 ≤ b ∧ b ≤ 49)

/-- Reset value of DIST at subcolumn count s, level and phase q (Table 8-4). -/
def distAtReset (s level q : Nat) : Nat :=
  if level = 0 then 0
  else if s = 1 then 1
  else if s = 2 then
    if level = 1 then (if q % 2 = 0 then 1 else 2) else 3
  else
    if level = 1 then nth 0 [1, 2, 4, 2] q
    else if level = 2 then nth 0 [3, 6, 5, 3] q
    else 7

/-- JTAG_IDCODE (Table 22-12, R588). -/
def jtagIdcode : Nat := Config.revision % 16 * 2 ^ 28 + 0x064005AD

/-- ROLE_KEY_INFO of a role whose key is `k` (Table 16-8). -/
def roleKeyInfo (k : Option (List Byte)) : Nat :=
  match k with
  | none => 0
  | some key => 1 + 256 * ofLe ((Crypto.hmac key (List.replicate 32 0)).take 3)

/-- Indexes that exist in 0x1000 to 0x9FFF, each counted once (R471): the first row of each family counts its indexes, and the source
records count the assigned sources. -/
def countIndexes : List Ob → List Nat → Nat
  | [], _ => 0
  | o :: t, seen =>
    if seen.contains o.idx then countIndexes t seen
    else (if o.idx = 0x8800 then 1612 else o.cnt) + countIndexes t (o.idx :: seen)

/-- The reset value of element `j` of instance `i` of an object. -/
def Ob.resetValue (o : Ob) (i j : Nat) : Nat :=
  match o.rst with
  | .const n => n
  | .elementNumber => j
  | .spoolOwner => bankOwnerAtReset j
  | .spoolState => b2n (bankOwnerAtReset j ≠ 0)
  | .spoolFlags => b2n (bankFixed j) + 2 * b2n (bankDual j)
  | .dist => distAtReset (j / 16 + 1) (j / 4 % 4) (j % 4)
  | .srcMask => b2n (srcField false (·.masked) i)
  | .srcClass => srcField 0 (·.cls) i
  | .srcReaction => srcField 0 (·.reaction) i
  | .srcEsc => b2n (srcField true (·.esc) i)
  | .srcFlags => b2n (srcField false (·.fixed) i) + 2 * b2n (srcField false (·.level) i)
  | .device =>
    if o.idx = 0x2105 then jtagIdcode
    else if o.sub = 3 then Config.revision % 65536
    else if o.sub = 4 then Config.serial % 2 ^ 64
    else Config.grade % 2
  | .macAddr => Config.mac i % 2 ^ 48
  | .roleKeyInfo => if j = 3 then roleKeyInfo (some Config.factoryKey) else 0
  | .objectCount => countIndexes dictionary []

/-! ### The object store -/

/-- The key of element `j` (counted from 0) of instance `i`: index, subindex, element inside a member value. -/
def Ob.key (o : Ob) (i j : Nat) : Nat :=
  if o.nel > 1 then ((o.idx + o.stride * i) * 65536 + o.sub) * 65536 + j
  else ((o.idx + o.stride * i) * 65536 + (o.sub + j)) * 65536

/-- The instance and element an object has at an index and subindex, if it has one there (R455). -/
def Ob.at (o : Ob) (idx sub : Nat) : Option (Nat × Nat) :=
  let i := if o.stride = 0 then 0 else (idx - o.idx) / o.stride
  if o.idx ≤ idx ∧ idx - o.idx = o.stride * i ∧ i < o.cnt ∧ o.sub ≤ sub ∧ sub < o.sub + o.nsub then some (i, sub - o.sub) else none

/-- A key is one of an object's. -/
def Ob.hasKey (o : Ob) (k : Nat) : Bool := (o.at (k / 2 ^ 32) (k / 65536 % 65536)).isSome

/-- The key of an element named by its index and subindex. -/
def elemKey (idx sub : Nat) : Nat := (idx * 65536 + sub) * 65536

/-- The object is retained (R461). -/
def Ob.retained (o : Ob) : Bool := decide (o.acc = .rwr ∨ o.src = .retained)

/-- The value is a two's-complement number (Table 17-2). -/
def Ob.signed (o : Ob) : Bool := (decide (6 ≤ o.ty ∧ o.ty ≤ 9)) || (decide (0x800 ≤ o.ty) && bit o.ty 10)

/-- The stored bits of an object's element. -/
def Core.rd (s : Core) (o : Ob) (i j : Nat) : Nat := Tab.get (o.resetValue i j) s.objs (o.key i j)

/-- The signed value of an object's element. -/
def Core.rdI (s : Core) (o : Ob) (i j : Nat) : Int := signedOf (8 * o.size) (s.rd o i j)

/-- The value of a device object. -/
def Core.rd0 (s : Core) (o : Ob) : Nat := s.rd o 0 0

/-- A BOOL object, or bit 0 of one. -/
def Core.rdB (s : Core) (o : Ob) (i j : Nat) : Bool := s.rd o i j % 2 = 1

/-- The value an object's storage keeps of `v`: its own bits for a fixed size, all of a byte string. -/
def Ob.fit (o : Ob) (v : Nat) : Nat := if o.size = 0 then v else v % 256 ^ o.size

/-- Note a change of a retained element for the journal (R461). -/
def Core.markDirty (s : Core) (k : Nat) : Core :=
  { s with
    dirty := if s.dirty.contains k then s.dirty else s.dirty ++ [k]
    dirtySince := match s.dirtySince with
      | none => some s.clk
      | some t => some t }

/-- The object is kept in a partition of the retention store other than the object journal, written as it changes (Table 20-5): RESET_CAUSE and RESET_COUNT,
PAIR_EPOCH and TAKE_LAST, LOG_SEQ and SAFE_CAUSE, ORPHANS, the BIST results. -/
def Ob.ownPartition (o : Ob) : Bool :=
  o.retained && (decide (0x9800 ≤ o.idx ∧ o.idx ≤ 0x98FF)
    || ["RESET_CAUSE", "RESET_COUNT", "PAIR_EPOCH", "TAKE_LAST", "LOG_SEQ", "SAFE_CAUSE", "ORPHANS"].contains o.name)

/-- Store a value in an object's element; a change of a retained one is due for the journal. -/
def Core.wr (s : Core) (o : Ob) (i j v : Nat) : Core :=
  let s' := { s with objs := Tab.set s.objs (o.key i j) (o.fit v) }
  if o.retained && !o.ownPartition && decide (o.fit v ≠ s.rd o i j) then s'.markDirty (o.key i j) else s'

/-- Store a signed value, saturated in its format (R8). -/
def Core.wrI (s : Core) (o : Ob) (i j : Nat) (v : Int) : Core := s.wr o i j (rawOf (8 * o.size) (satS (8 * o.size) v))

/-- Store a computed unsigned value, saturated in its format (R8). -/
def Core.wrU (s : Core) (o : Ob) (i j : Nat) (v : Int) : Core := s.wr o i j (satU (8 * o.size) v)

/-- Store the value of a device object. -/
def Core.wr0 (s : Core) (o : Ob) (v : Nat) : Core := s.wr o 0 0 v

/-- Note what hardware adds to a counter at this instant: a host write of it in the same cycle keeps it (R466). -/
def Core.bump (s : Core) (key k : Nat) : Core :=
  let l := if s.bumpAt = s.clk then s.bumps else []
  { s with bumps := Tab.set l key (Tab.get 0 l key + k), bumpAt := s.clk }

/-- What hardware added to a counter at this instant. -/
def Core.bumped (s : Core) (key : Nat) : Nat := if s.bumpAt = s.clk then Tab.get 0 s.bumps key else 0

/-- Add to a counter, which wraps in its width. -/
def Core.inc (s : Core) (o : Ob) (i j k : Nat) : Core := (s.bump (o.key i j) k).wr o i j (s.rd o i j + k)

/-- Add one to a device counter. -/
def Core.inc0 (s : Core) (o : Ob) : Core := s.inc o 0 0 1

/-- Note a hardware update of an element whose field type is W1C or RWH (R466). -/
def Core.hwUpdate (s : Core) (o : Ob) (i j : Nat) : Core := { s with hwAt := Tab.set s.hwAt (o.key i j) s.clk }

/-- Store values at elements j, j + 1, ... of an object. -/
def Core.wrRun (s : Core) (o : Ob) (i : Nat) : Nat → List Nat → Core
  | _, [] => s
  | j, v :: t => Core.wrRun (s.wr o i j v) o i (j + 1) t

/-! ### Time -/

/-- Half nanoseconds of a number of nanoseconds. -/
def ns (n : Nat) : Nat := 2 * n

/-- Half nanoseconds of a number of microseconds. -/
def us (n : Nat) : Nat := 2000 * n

/-- Half nanoseconds of a number of milliseconds. -/
def ms (n : Nat) : Nat := 2000000 * n

/-- Half nanoseconds of a number of seconds. -/
def sec (n : Nat) : Nat := 2000000000 * n

/-- Let `dt` half nanoseconds pass: FT gains (1 + m × 2^-32) × 0.5 ns for each (R24). -/
def Core.advance (s : Core) (dt : Nat) : Core :=
  { s with
    clk := s.clk + dt
    ftAcc := s.ftAcc + dt * ((4294967296 + s.rdI Obj.FT_TRIM 0 0).toNat) }

/-- FT in Q64.16 ns (R24). It never moves backward (R25): at the top of its format it stays there (R8; log entry 151). -/
def Core.ftQ (s : Core) : Nat := min (s.ftAcc / 2 ^ 17) (2 ^ 80 - 1)

/-- Whole nanoseconds of FT. -/
def Core.ftNs (s : Core) : Nat := s.ftQ / 65536

/-- The 16-bit fraction of FT. -/
def Core.ftFrac (s : Core) : Nat := s.ftQ % 65536

/-- The key of a deadline. -/
def timerKey (t : Timer) (i : Nat) : Nat := t.ctorIdx * 65536 + i

/-- Arm a deadline `d` half nanoseconds from now. -/
def Core.arm (s : Core) (t : Timer) (i d : Nat) : Core :=
  { s with timers := Tab.set s.timers (timerKey t i) (s.clk + d) }

/-- Disarm a deadline. -/
def Core.disarm (s : Core) (t : Timer) (i : Nat) : Core :=
  { s with timers := Tab.erase s.timers (timerKey t i) }

/-- A deadline is armed. -/
def Core.armed (s : Core) (t : Timer) (i : Nat) : Bool := (Tab.get? s.timers (timerKey t i)).isSome

/-- A deadline is armed and has passed. -/
def Core.due (s : Core) (t : Timer) (i : Nat) : Bool :=
  match Tab.get? s.timers (timerKey t i) with
  | some d => decide (d ≤ s.clk)
  | none => false

/-! ### What the block sends -/

/-- Send or drive something. -/
def Core.emit (s : Core) (k : OutKind) (port : Nat) (args : List Int) (bytes : List Byte) : Core :=
  { s with out := ⟨k, port, args, bytes⟩ :: s.out }

/-- Draw the next free value of the random bit generator (R178, R429). -/
def Core.draw (s : Core) : List Byte × Core := (padTo 16 (Config.random s.freeCount), { s with freeCount := s.freeCount + 1 })

/-- Draw the next value the spec leaves open. -/
def Core.drawOpen (s : Core) : Nat × Core := (Config.open_ s.freeCount, { s with freeCount := s.freeCount + 1 })

/-! ### Modes as other rules name them -/

/-- "In PRINT" (R475). -/
def Core.inPrint (s : Core) : Bool := decide (s.mode = .printWeb ∨ s.mode = .printScan)

/-- The device is in one of the listed modes. -/
def Core.inModes (s : Core) (l : List Mode) : Bool := l.contains s.mode

/-- FOP and the subsystems run: neither OFF nor RETAIN. -/
def Core.running (s : Core) : Bool := decide (s.mode ≠ .off ∧ s.mode ≠ .retain)

/-! ### FOP events (R445 to R447) -/

/-- Queue an event record for a session: lost when 256 wait. Returns whether it was lost. -/
def Session.push (x : Session) (e : EventRec) : Session × Bool :=
  if x.events.length < 256 then ({ x with events := x.events ++ [e] }, false)
  else ({ x with lost := x.lost + 1 }, true)

/-- The default of the session table: FREE. -/
def freeSession : Session := {}

/-- Queue an event for one session: a loss is counted in EVENTS_LOST, and the first of a run of losses is an occurrence of FOP_EVENT_LOST. -/
def Core.pushEvent (s : Core) (h : Nat) (e : EventRec) : Core :=
  let x := Tab.get freeSession s.sess h
  let p := x.push e
  let s' := { s with sess := Tab.set s.sess h p.1 }
  if p.2 then
    let s'' := s'.inc0 Obj.EVENTS_LOST
    if x.lost = 0 then { s'' with alsoRaise := s''.alsoRaise ++ [1570] } else s''
  else s'

/-- Queue an event for every OPEN session whose mask has the bit, or for all OPEN sessions where there is none. -/
def Core.event (s : Core) (maskBit : Option Nat) (code arg0 arg1 : Nat) : Core :=
  s.sess.foldl (fun t p =>
    let want := decide (p.2.st = 2) && (match maskBit with | some b => bit p.2.mask b | none => true)
    if want then t.pushEvent p.1 ⟨code, arg0, arg1, s.ftNs⟩ else t) s

/-! ### Completion status (R437) -/

/-- Set the completion status of an element: 0 NONE, 1 PENDING, 2 DONE, 3 FAILED. -/
def Core.setComp (s : Core) (idx sub st : Nat) : Core :=
  { s with comp := Tab.set s.comp (idx * 65536 + sub) st }

/-- Set the completion status of element `j` of instance `i` of an object. -/
def Core.setCompO (s : Core) (o : Ob) (i j st : Nat) : Core :=
  s.setComp (o.idx + o.stride * i) (if o.nel > 1 then o.sub else o.sub + j) st

/-- The completion status of an element of an object. -/
def Core.compO (s : Core) (o : Ob) (i j : Nat) : Nat :=
  Tab.get 0 s.comp ((o.idx + o.stride * i) * 65536 + (if o.nel > 1 then o.sub else o.sub + j))

/-- PENDING becomes DONE or FAILED when the action ends. -/
def Core.endComp (s : Core) (o : Ob) (i j : Nat) (ok : Bool) : Core :=
  if s.compO o i j = 1 then s.setCompO o i j (if ok then 2 else 3) else s

/-! ### Small helpers over the state -/

/-- Apply a change for each listed number, in order. -/
def Core.each (s : Core) (l : List Nat) (f : Core → Nat → Core) : Core := l.foldl f s

/-- Apply a change if a condition holds. -/
def Core.when (s : Core) (b : Bool) (f : Core → Core) : Core := if b then f s else s

/-- Apply the one or the other change. -/
def Core.choose (s : Core) (b : Bool) (f g : Core → Core) : Core := if b then f s else g s

end Sys2Proof.Machine
end

