-- ==== Sys2Proof/Machine/MotionOps.lean ====
section
/-! DEFINITION. Shared operations of motion: the profile generator (R322 to R327), groups and gearing (R321), stops (R330), the safe ramp (R347). -/

namespace Sys2Proof.Machine

open Sys2Proof

/-! ### Codes -/

/-- AX_STATE codes (Table 12-9). -/
def axDisabled : Nat := 0
def axIdle : Nat := 1
def axMoving : Nat := 2
def axHoming : Nat := 3
def axStopping : Nat := 4
def axBraked : Nat := 5
def axFallback : Nat := 6
def axFaulted : Nat := 7
def axSafeRamp : Nat := 8
def axSafeHeld : Nat := 9

/-- The axis is a stepper axis (Table 12-1). -/
def isStepper (a : Nat) : Bool := decide (4 ≤ a)

/-! ### Numbers -/

/-- A rational rounded to nearest, ties away from zero (R8). -/
def roundRat (q : Rat) : Int := roundDiv q.num q.den

/-- The square root of a non-negative rational, rounded down to a multiple of 2^-40. -/
def sqrtRat (q : Rat) : Rat :=
  if q.num ≤ 0 then 0 else mkRat (isqrt (q.num.toNat * 2 ^ 80 / q.den)) (2 ^ 40)

/-- Absolute value. -/
def absRat (q : Rat) : Rat := if q < 0 then -q else q

/-- Sign: -1, 0 or 1. -/
def sgnRat (q : Rat) : Rat := if q < 0 then -1 else if q = 0 then 0 else 1

/-- A commanded position as its kind of axis holds it: a whole unit, or 2^-16 unit (R322). -/
def roundPos (stepper : Bool) (x : Rat) : Rat :=
  if stepper then (roundRat x : Rat) else mkRat (roundRat (x * 65536)) 65536

/-! ### Profiles -/

/-- The segments that bring speed `v` with acceleration `a` to speed `vT` with none, soonest, within acceleration `A` and jerk `J`
(0: acceleration changes by a step) (R325, R327). -/
def velRamp (v a vT A J : Rat) : List Seg :=
  if A ≤ 0 then []
  else if J ≤ 0 then
    if v = vT then [] else [⟨sgnRat (vT - v) * A, 0, absRat (vT - v) / A⟩]
  else
    let v1 := v + a * absRat a / (2 * J)
    let dir := sgnRat (vT - v1)
    if dir = 0 then
      if a = 0 then [] else [⟨a, -(sgnRat a) * J, absRat a / J⟩]
    else
      let al := dir * a
      let V := dir * (vT - v)
      if al > A then
        let th := (V - al * al / (2 * J)) / A
        [⟨a, -dir * J, (al - A) / J⟩, ⟨dir * A, 0, th⟩, ⟨dir * A, -dir * J, A / J⟩]
      else
        let full := (2 * A * A - al * al) / (2 * J)
        let ap := if full ≤ V then A else sqrtRat ((2 * J * V + al * al) / 2)
        if ap ≤ 0 then []
        else
          let th := (V - (2 * ap * ap - al * al) / (2 * J)) / ap
          [⟨a, dir * J, (ap - al) / J⟩, ⟨dir * ap, 0, th⟩, ⟨dir * ap, -dir * J, ap / J⟩]

/-- Speed after the segments. -/
def segsSpeed (v : Rat) : List Seg → Rat
  | [] => v
  | g :: t => segsSpeed (v + g.a * g.dur + g.j * g.dur * g.dur / 2) t

/-- Distance covered by the segments from speed `v`. -/
def segsDist (v : Rat) : List Seg → Rat
  | [] => 0
  | g :: t =>
    v * g.dur + g.a * g.dur * g.dur / 2 + g.j * g.dur * g.dur * g.dur / 6
      + segsDist (v + g.a * g.dur + g.j * g.dur * g.dur / 2) t

/-- Time the segments take. -/
def segsTime (l : List Seg) : Rat := l.foldl (fun t g => t + g.dur) 0

/-- Segments up to a peak speed and from it to rest, all in the positive sense. -/
def peakSegs (v a vp acc dec J : Rat) : List Seg × List Seg :=
  (velRamp v a vp (if v ≤ vp then acc else dec) J, velRamp vp 0 0 dec J)

/-- Distance of the two halves of a profile with peak speed `vp`. -/
def peakDist (v a vp acc dec J : Rat) : Rat :=
  let p := peakSegs v a vp acc dec J
  segsDist v p.1 + segsDist vp p.2

/-- The highest peak speed below `hi` whose profile fits in distance `D`, by bisection. -/
def bisectPeak : Nat → Rat → Rat → Rat → Rat → Rat → Rat → Rat → Rat → Rat
  | 0, _, _, _, _, _, _, lo, _ => lo
  | n + 1, v, a, acc, dec, J, D, lo, hi =>
    let m := (lo + hi) / 2
    if peakDist v a m acc dec J ≤ D then bisectPeak n v a acc dec J D m hi
    else bisectPeak n v a acc dec J D lo m

/-- Segments of a move over distance `D` ≥ 0 in the positive sense, from speed `v` ≥ 0 and acceleration `a`, that can stop within `D`. -/
def moveFwd (v a D vmax acc dec J : Rat) : List Seg :=
  let vp := if peakDist v a vmax acc dec J ≤ D then vmax else bisectPeak 48 v a acc dec J D 0 vmax
  if vp ≤ 0 then []
  else
    let p := peakSegs v a vp acc dec J
    p.1 ++ [⟨0, 0, (D - (segsDist v p.1 + segsDist vp p.2)) / vp⟩] ++ p.2

/-- The segments seen in the other sense. -/
def negSegs (l : List Seg) : List Seg := l.map (fun g => ⟨-g.a, -g.j, g.dur⟩)

/-- A move from rest over a signed distance. -/
def moveRest (D vmax acc dec J : Rat) : List Seg :=
  if D = 0 then [] else if D < 0 then negSegs (moveFwd 0 0 (-D) vmax acc dec J) else moveFwd 0 0 D vmax acc dec J

/-- A move over a signed distance from speed `v` and acceleration `a` (R325, R326): where the target cannot be reached without passing
it, the axis first comes to rest on A_DEC, then reverses. -/
def movePlan (v a D vmax acc dec J : Rat) : List Seg :=
  let s : Rat := if D < 0 then -1 else 1
  let stop := velRamp v a 0 dec J
  let dStop := segsDist v stop
  if v = 0 ∧ a = 0 then moveRest D vmax acc dec J
  else if s * v < 0 ∨ s * dStop > s * D then stop ++ moveRest (D - dStop) vmax acc dec J
  else if s < 0 then negSegs (moveFwd (-v) (-a) (-D) vmax acc dec J)
  else moveFwd v a D vmax acc dec J

/-- Position, speed, acceleration and remaining segments after time `t`. The start position of each segment is a rounded value (R322). -/
def runSegs (stepper : Bool) : List Seg → Rat → Rat → Rat → Rat × Rat × Rat × List Seg
  | [], x, v, t => (x + v * t, v, 0, [])
  | g :: rest, x, v, t =>
    if t < g.dur then
      (x + v * t + g.a * t * t / 2 + g.j * t * t * t / 6, v + g.a * t + g.j * t * t / 2, g.a + g.j * t,
        ⟨g.a + g.j * t, g.j, g.dur - t⟩ :: rest)
    else
      let d := g.dur
      runSegs stepper rest (roundPos stepper (x + v * d + g.a * d * d / 2 + g.j * d * d * d / 6))
        (v + g.a * d + g.j * d * d / 2) (t - d)

/-! ### Axes -/

/-- An axis at reset. -/
def axisReset : Axis := {}

/-- The generator of axis `a`. -/
def Core.axis (s : Core) (a : Nat) : Axis := Tab.get axisReset s.mot.axes a

/-- Replace the generator of axis `a`. -/
def Core.setAxis (s : Core) (a : Nat) (x : Axis) : Core :=
  { s with mot := { s.mot with axes := Tab.set s.mot.axes a x } }

/-- Change the generator of axis `a`. -/
def Core.updAxis (s : Core) (a : Nat) (f : Axis → Axis) : Core := s.setAxis a (f (s.axis a))

/-- AX_STATE of an axis. -/
def Core.axSt (s : Core) (a : Nat) : Nat := s.rd Obj.ax_AX_STATE a 0

/-- Set AX_STATE. -/
def Core.setAxSt (s : Core) (a st : Nat) : Core := s.wr Obj.ax_AX_STATE a 0 st

/-- FT in seconds. -/
def Core.ftSec (s : Core) : Rat := mkRat s.ftQ (65536 * 1000000000)

/-- The members of a group, rising. -/
def Core.members (s : Core) (g : Nat) : List Nat := (List.range 12).filter (fun a => s.rd Obj.ax_GROUP a 0 = g)

/-- A group is a print group (R321). -/
def Core.printGroup (s : Core) (g : Nat) : Bool :=
  (s.members g).any (fun a => s.rd Obj.ax_ROLE a 0 = 1 ∨ s.rd Obj.ax_ROLE a 0 = 2)

/-- The print groups. -/
def Core.printGroups (s : Core) : List Nat := (List.range 8).filter s.printGroup

/-- An axis is an engaged follower: its group is engaged, it is not the MASTER, its GEAR is not 0 (R321). -/
def Core.follower (s : Core) (a : Nat) : Bool :=
  let g := s.rd Obj.ax_GROUP a 0
  decide (g < 8) && s.rdB Obj.grp_GEAR_ENGAGE g 0 && decide (s.rd Obj.grp_MASTER g 0 < 12) && decide (s.rd Obj.grp_MASTER g 0 ≠ a)
    && decide (s.rd Obj.ax_GEAR a 0 ≠ 0)

/-- A parameter of an axis as a rational. -/
def Core.axR (s : Core) (o : Ob) (a : Nat) : Rat := ((s.rd o a 0 : Nat) : Rat)

/-- The stop an axis would plan now (R327). -/
def Core.stopSegs (s : Core) (a : Nat) : List Seg :=
  let x := s.axis a
  velRamp x.v x.a 0 (s.axR Obj.ax_STOP_DEC a) (s.axR Obj.ax_JERK a)

/-- Publish POS, SPEED and STOP_DIST of an axis. -/
def Core.publishAxis (s : Core) (a : Nat) : Core :=
  let x := s.axis a
  ((s.wrI Obj.ax_POS a 0 (roundRat x.x)).wrI Obj.ax_SPEED a 0 (roundRat x.v)).wrU Obj.ax_STOP_DIST a 0
    (roundRat (absRat (segsDist x.v (s.stopSegs a))))

/-- The move in progress ends FAILED (R324). -/
def Core.failMove (s : Core) (a : Nat) : Core :=
  (s.updAxis a (fun x => { x with res := if x.res = 1 then 3 else x.res, home := 0, target := none })).endComp Obj.ax_MOVE a 0 false

/-- The axis begins its STOP ramp at its next evaluation instant (R327, R330). -/
def Core.startStop (s : Core) (a : Nat) : Core :=
  ((s.failMove a).updAxis a (fun x => { x with plan := .stop })).setAxSt a axStopping

/-- The axis can be stopped: IDLE, MOVING or HOMING (Table 12-4). -/
def Core.stoppable (s : Core) (a : Nat) : Bool := decide (1 ≤ s.axSt a ∧ s.axSt a ≤ 3)

/-- Group stop (R330): every member that is no engaged follower begins its STOP ramp; engaged followers come to rest with the MASTER. -/
def Core.groupStop (s : Core) (g : Nat) : Core :=
  let l := s.members g
  let t := s.each l (fun t a =>
    if t.stoppable a then (if t.follower a then t.setAxSt a axStopping else t.startStop a) else t)
  { t with mot := { t.mot with groupStops := if t.mot.groupStops.contains g then t.mot.groupStops else t.mot.groupStops ++ [g] } }

/-- Disengage a group; every other member not at rest continues on its own STOP ramp (R330). -/
def Core.breakGroup (s : Core) (g : Nat) (but : Nat) : Core :=
  if s.rdB Obj.grp_GEAR_ENGAGE g 0 then
    let t := (s.wr Obj.grp_GEAR_ENGAGE g 0 0).hwUpdate Obj.grp_GEAR_ENGAGE g 0
    t.each ((t.members g).filter (· ≠ but)) (fun t a =>
      if (t.stoppable a ∨ t.axSt a = axStopping) ∧ (t.axis a).v ≠ 0 then t.startStop a else t)
  else s

/-- Set or clear a bit of AX_FLAGS: 0 HOMED, 1 ARMED, 2 HOME input, 3 LIM input. -/
def Core.setAxFlag (s : Core) (a b : Nat) (v : Bool) : Core := s.wr Obj.ax_AX_FLAGS a 0 (putBit (s.rd Obj.ax_AX_FLAGS a 0) b v)

/-- Group stop of every print group, as an orderly stop or a head stop starts it (R330). -/
def Core.stopPrintGroups (s : Core) : Core := s.each s.printGroups Core.groupStop

/-- Every moving axis stops on its STOP ramp. -/
def Core.stopMoving (s : Core) (skip : Nat → Bool) : Core :=
  s.each ((List.range 12).filter (fun a => !skip a)) (fun t a =>
    if (t.axSt a = axMoving ∨ t.axSt a = axHoming) ∧ !t.follower a then t.startStop a else t)

/-- The axis is at rest: commanded speed 0, and not MOVING, HOMING, STOPPING, FALLBACK or SAFE_RAMP. -/
def Core.atRest (s : Core) (a : Nat) : Bool :=
  decide ((s.axis a).v = 0) && decide (s.axSt a ≠ axMoving ∧ s.axSt a ≠ axHoming ∧ s.axSt a ≠ axStopping ∧ s.axSt a ≠ axFallback ∧ s.axSt a ≠ axSafeRamp)

/-! ### The commanded state at an instant (R322) -/

/-- Commanded position of an axis that is no follower at time `t`, with its speed and acceleration. -/
def Core.ownAt (s : Core) (a : Nat) (t : Rat) : Axis :=
  let x := s.axis a
  let r := runSegs (isStepper a) x.segs x.x x.v (t - x.tEval)
  { x with x := r.1, v := r.2.1, a := r.2.2.1, segs := r.2.2.2, tEval := t }

/-- GEAR of an axis, in follower units per master unit. -/
def Core.gear (s : Core) (a : Nat) : Rat := mkRat (s.rdI Obj.ax_GEAR a 0) 65536

/-- The MASTER of an axis's group. -/
def Core.masterOf (s : Core) (a : Nat) : Nat := s.rd Obj.grp_MASTER (s.rd Obj.ax_GROUP a 0) 0

/-- An axis carried to time `t`: a follower by its gear (R321), another by its segments. -/
def Core.axisAt (s : Core) (a : Nat) (t : Rat) : Axis :=
  if s.follower a then
    let m := s.ownAt (s.masterOf a) t
    let x := s.axis a
    let g := s.gear a
    { x with
      x := x.captF + roundPos (isStepper a) (g * (roundPos (isStepper (s.masterOf a)) m.x - x.captM))
      v := g * m.v
      a := g * m.a
      segs := []
      tEval := t }
  else s.ownAt a t

/-- Hem's safe ramp for one axis (R347): BRAKED, FAULTED and DISABLED are kept. The ramp's own deceleration is the profile's acceleration from its start (R49). -/
def Core.safeRampAxis (s : Core) (a : Nat) : Core :=
  if s.axSt a = axDisabled ∨ s.axSt a = axBraked ∨ s.axSt a = axFaulted ∨ s.axSt a = axSafeRamp ∨ s.axSt a = axSafeHeld then s
  else
    let t := (s.failMove a).updAxis a (fun x =>
      let ramp := velRamp x.v 0 0 ((x.armDec : Nat) : Rat) 0
      { x with segs := ramp, a := (ramp.head?.map Seg.a).getD 0, plan := .keep, tEval := s.ftSec })
    let t := if isStepper a then t.wr Obj.st_CUR_MODE (a - 4) 0 0 else t
    (t.setAxFlag a 0 false).setAxSt a axSafeRamp

/-- The safe ramp of every axis, from its commanded state at this instant: gearing is released first. -/
def Core.safeRampAll (s : Core) : Core :=
  let now := ((List.range 12).filter (fun a => decide (axIdle ≤ s.axSt a ∧ s.axSt a ≤ axFallback) && decide (s.axSt a ≠ axBraked))).map (fun a => (a, s.axisAt a s.ftSec))
  let t := now.foldl (fun t e => t.setAxis e.1 { e.2 with x := roundPos (isStepper e.1) e.2.x }) s
  let t := t.each ((List.range 8).filter (fun g => t.rdB Obj.grp_GEAR_ENGAGE g 0)) (fun t g => (t.wr Obj.grp_GEAR_ENGAGE g 0 0).hwUpdate Obj.grp_GEAR_ENGAGE g 0)
  t.each (List.range 12) Core.safeRampAxis

/-- Take Hem's armed copy of an axis (R347). -/
def Core.armAxis (s : Core) (a : Nat) : Core :=
  let q (o : Ob) : Nat := if isStepper a then s.rd o (a - 4) 0 else 0
  (s.updAxis a (fun x => { x with
    armDec := s.rd Obj.ax_SAFE_DEC a 0
    armEnd := s.rd Obj.ax_SAFE_END a 0
    armQuiet := q Obj.st_QUIET_VOLT
    armBemf := q Obj.st_BEMF_K
    armHold := q Obj.st_HOLD_VOLT })).setAxFlag a 1 true

end Sys2Proof.Machine
end

