-- ==== Sys2Proof/Machine/EphemOps.lean ====
section
/-! DEFINITION. Shared operations of Ephemeris: channels and estimators (R34 to R41), Tacks (R42 to R46), the predictor (R51), the fire-time solution (R53 to R55). -/

namespace Sys2Proof.Machine

open Sys2Proof

/-! ### Channels -/

/-- A feedback channel. -/
def Core.chan (s : Core) (n : Nat) : Chan := Tab.get {} s.chans n

/-- Replace a channel. -/
def Core.setChan (s : Core) (n : Nat) (x : Chan) : Core := { s with chans := Tab.set s.chans n x }

/-- EST_STATE codes. -/
def estStopped : Nat := 0
def estHeld : Nat := 1
def estPeriod : Nat := 2
def estCount : Nat := 3

/-- Set the estimator's state. -/
def Core.setEst (s : Core) (n st : Nat) : Core := s.wr Obj.fb_EST_STATE n 0 st

/-- The position of a count (R34): count × SCALE rounded once from Q16.48 to Q40.24. -/
def Core.posOf (s : Core) (n : Nat) (cnt : Int) : Int := satS 64 (roundDiv (cnt * s.rdI Obj.fb_SCALE n 0) (2 ^ 24))

/-- The timestamp of an event `age` ns ago, to 0.5 ns, less EDGE_DELAY, in 2^-16 ns (R24, R34). -/
def Core.stampOf (s : Core) (n age : Nat) : Int :=
  roundDiv ((s.ftQ : Int) - age * 65536) 32768 * 32768 - s.rdI Obj.fb_EDGE_DELAY n 0 * 256

/-- Speed in px/s of a count difference over a time in 2^-16 ns (R35). -/
def Core.speedOf (s : Core) (n : Nat) (dc dt : Int) : Rat :=
  if dt ≤ 0 then 0
  else mkRat (dc * s.rdI Obj.fb_SCALE n 0 * (65536 * 1000000000)) (2 ^ 48 * dt.toNat)

/-- SPEED as Q24.8. -/
def speedRaw (v : Rat) : Int := satS 32 (roundRat (v * 256))

/-- The limit of R39 on the estimate in PERIOD and HELD: |SCALE| / (FT_now - t_k) once the time since the newest edge exceeds its interval. -/
def Core.limitSpeed (s : Core) (n : Nat) (v : Rat) : Rat :=
  let x := s.chan n
  let st := s.rd Obj.fb_EST_STATE n 0
  match x.last with
  | none => v
  | some e =>
    let since := (s.ftQ : Int) - e.t
    if (st = estPeriod ∨ st = estHeld) ∧ since > x.interval then
      let lim := absRat (s.speedOf n 1 since)
      if absRat v > lim then sgnRat v * lim else v
    else v

/-- The estimate as it stands now, under the limit of R39: what a HELD estimator holds (log entry 148). -/
def Core.heldSpeed (s : Core) (n : Nat) : Rat := s.limitSpeed n (s.chan n).v

/-- The speed reported now: the estimate carried to the newest edge by the acceleration (R41), under the limit of R39. -/
def Core.reported (s : Core) (n : Nat) : Rat :=
  let x := s.chan n
  let v := match x.vals, x.last with
    | i :: _, some e => i.v + x.acc * (((e.t : Rat) - i.mid) / (65536 * 1000000000))
    | _, _ => x.v
  s.limitSpeed n (if s.rd Obj.fb_EST_STATE n 0 = estStopped then 0 else v)

/-- Publish SPEED. -/
def Core.publishSpeed (s : Core) (n : Nat) : Core := s.wrI Obj.fb_SPEED n 0 (speedRaw (s.reported n))

/-- The earliest retained speed value at least T_ACC before the newest (R41). -/
def accPartner (tAcc : Rat) (i : SpeedVal) : List SpeedVal → Option SpeedVal
  | [] => none
  | j :: t => if i.mid - j.mid ≥ tAcc then some j else accPartner tAcc i t

/-- The longest T_ACC and the longest T_WIN a host can set (Tables 2-6, 2-7), in 2^-16 ns: what lies further back no estimate can use. -/
def longestSpan : Int := 1000000 * 65536

/-- Keep values down to the first one at least `tAcc` before the newest. -/
def pruneVals (tAcc : Rat) (i : SpeedVal) : List SpeedVal → List SpeedVal
  | [] => []
  | j :: t => if i.mid - j.mid ≥ tAcc then [j] else j :: pruneVals tAcc i t

/-- The acceleration from a new value and the earlier ones, clamped at A_MAX: the estimate and whether it was clamped (R41). -/
def accelOf (tAcc aMax : Rat) (i : SpeedVal) (vals : List SpeedVal) : Rat × Bool :=
  match accPartner tAcc i vals with
  | none => (0, false)
  | some j =>
    let a := (i.v - j.v) / ((i.mid - j.mid) / (65536 * 1000000000))
    if a > aMax then (aMax, true) else if a < -aMax then (-aMax, true) else (a, false)

/-- T_ACC in 2^-16 ns. -/
def Core.tAcc (s : Core) : Rat := ((s.rd0 Obj.T_ACC * 65536 : Nat) : Rat)

/-- The edge the period method measures from: the m-th before the newest, m at most the edges since the held edge (R35). -/
def periodBase (m : Nat) (l : List Edge) : Option Edge := l[min m (l.length - 1)]?

/-- The earliest edge no earlier than `from_`, at least one before the newest (R36). `l` is newest first. -/
def windowBase (from_ : Int) : List Edge → Option Edge
  | [] => none
  | [_] => none
  | _ :: e :: t =>
    let rec go (best : Edge) : List Edge → Edge
      | [] => best
      | f :: r => if f.t ≥ from_ then go f r else best
    some (go e t)

/-- PERIOD_N in force in a mode: 1, or one whole cycle of the sensor (R35). -/
def periodN (mode n : Nat) : Nat := if n = 1 then 1 else if mode = 2 then 6 else 4

/-- Keep only edges the methods can still use: those from `from_` on, and never fewer than eight. -/
def pruneEdges (from_ : Int) (l : List Edge) : List Edge :=
  let a := l.takeWhile (fun e => decide (e.t ≥ from_))
  if a.length < 8 then l.take 8 else a

/-- The estimator leaves trust in what it measured: HELD at speed `v`, with or without a held edge (R40). The speed held is the estimate v_i itself, not
v_i + a × (t_k - mid_i), and the acceleration becomes 0 (log entry 148). -/
def Chan.hold (x : Chan) (v : Rat) (held : List Edge) : Chan := { x with held := !held.isEmpty, edges := held, vals := [], v := v, acc := 0 }

/-- A count error (R29 to R32): COUNT_ERROR in the next Tack, HELD with no held edge. The occurrence of S0600 + n is the caller's. -/
def Core.countError (s : Core) (n : Nat) : Core :=
  let s1 := s.setChan n { (s.chan n).hold (s.heldSpeed n) [] with countError := true }
  s1.setEst n estHeld

/-- A counted edge moves the estimator through Table 2-2. The timing of the edge after STOPPED and of the first one after a reversal is discarded (R38); that
of the edge that becomes the held edge in HELD is kept (R40). Answers the new state and whether the acceleration was clamped. -/
def Core.estEdge (s : Core) (n : Nat) (e : Edge) (dir : Int) : Core × Bool :=
  let x := s.chan n
  let st := s.rd Obj.fb_EST_STATE n 0
  let mode := s.rd Obj.fb_MODE n 0
  let interval : Int := match x.last with | some p => e.t - p.t | none => 0
  let x1 := { x with last := some e, interval := interval, dir := dir, fresh := true, edgesSince := x.edgesSince + 1, edgeAt := s.clk }
  let held := s.heldSpeed n
  let same := decide (dir = x.dir)
  if st = estStopped then
    ((s.setChan n { x1.hold 0 [e] with discarded := true, counted := false }).setEst n estHeld, false)
  else if st = estHeld ∧ !x.held then
    (s.setChan n { x1.hold held [e] with discarded := false }, false)
  else if !same then
    ((s.setChan n { x1.hold held [e] with discarded := true }).setEst n estHeld, false)
  else
    let es := e :: x.edges
    let useCount := mode = 3 ∨ (mode = 1 ∧ ((st = estPeriod ∧ interval < (s.rd Obj.fb_T_CNT_ON n 0 : Int) * 65536)
      ∨ (st = estCount ∧ interval ≤ (s.rd Obj.fb_T_CNT_OFF n 0 : Int) * 65536)))
    let win := e.t - (s.rd Obj.fb_T_WIN n 0 : Int) * 65536
    let base := if useCount then windowBase win es else periodBase (periodN mode (s.rd Obj.fb_PERIOD_N n 0)) es
    let b := base.getD e
    let v := s.speedOf n (e.cnt - b.cnt) (e.t - b.t)
    let i : SpeedVal := ⟨v, mkRat (e.t + b.t) 2⟩
    let a := accelOf s.tAcc ((s.rd0 Obj.A_MAX : Nat) : Rat) i x.vals
    let x2 := { x1 with edges := pruneEdges (e.t - longestSpan) es, vals := i :: pruneVals longestSpan i x.vals, v := v, acc := a.1,
                        counted := decide useCount, discarded := false, clamped := x.clamped || a.2 }
    ((s.setChan n x2).setEst n (if useCount then estCount else estPeriod), a.2)

/-! ### The predictor -/

/-- Predicted position in px at a time in 2^-16 ns (R51). -/
def predPos (x v a : Rat) (hMax tau : Rat) : Rat :=
  if tau ≤ hMax then x + v * tau + a * tau * tau / 2
  else x + v * hMax + a * hMax * hMax / 2 + (v + a * hMax) * (tau - hMax)

/-- Q40.24 px as a rational. -/
def pxOf (p : Int) : Rat := mkRat p (2 ^ 24)

/-- A time in 2^-16 ns as seconds. -/
def secOf (t : Int) : Rat := mkRat t (65536 * 1000000000)

/-- H_MAX in seconds. -/
def Core.hMax (s : Core) : Rat := mkRat (s.rd0 Obj.H_MAX) 1000000000

/-- A Tack's speed in px/s. -/
def Tack.v (t : Tack) : Rat := mkRat t.speed 256

/-- The predicted position in px at FT `t` (2^-16 ns), if there is a reference. -/
def Core.predictAt (s : Core) (t : Int) : Option Rat :=
  s.pred.ref.map (fun r => predPos (pxOf r.pos) r.v s.pred.acc s.hMax (secOf (t - r.t)))

/-- The predicted speed in px/s at FT `t`. -/
def Core.predictV (s : Core) (t : Int) : Rat :=
  match s.pred.ref with
  | none => 0
  | some r =>
    let tau := secOf (t - r.t)
    r.v + s.pred.acc * (if tau ≤ s.hMax then tau else s.hMax)

/-! ### The fire-time solution -/

/-- The landing interval τ_land in 2^-16 ns for distance `d`, speed `w` and acceleration `al`, all taken in the sense of σ, within horizon `h`
seconds (R54). -/
def solveLand (d w al h : Rat) : Option Int :=
  let disc := w * w + 2 * al * d
  let den := w + sqrtRat disc
  let step1 : Option Rat :=
    if disc ≥ 0 ∧ den > 0 then (if 2 * d / den ≤ h then some (2 * d / den) else none) else none
  match step1 with
  | some q => some (satS 48 (roundRat (q * (65536 * 1000000000))))
  | none =>
    let xH := w * h + al * h * h / 2
    let wH := w + al * h
    if wH > 0 ∧ d ≥ xH then some (satS 48 (roundRat ((h + (d - xH) / wH) * (65536 * 1000000000)))) else none

/-- W_g of a row-group offset in Q20.12: the whole pixel steps (R12, R53). -/
def wholeSteps (o : Int) (u : Nat) : Int := o / ((4096 * u : Nat) : Int)

/-- r_g in Q20.12 (R53). -/
def remOf (o : Int) (u : Nat) : Int := o - ((u * 4096 : Nat) : Int) * wholeSteps o u

/-- φ_g of R200. -/
def phaseOf (o : Int) (u : Nat) : Int := remOf o u / 4096

/-- X_g(c) in Q40.24 (R53): page origin, port datum, column term and r_g. -/
def targetOf (origin datum sigma : Int) (c u s : Nat) (r : Int) : Int :=
  origin + datum + sigma * (roundDiv ((c * u * 4096 : Nat) : Int) s * 4096) + r * 4096

/-- The landing time of a target in 2^-16 ns from the present reference (R55). -/
def Core.landOf (s : Core) (sigma x : Int) : Option Int :=
  match s.pred.ref with
  | none => none
  | some r =>
    (solveLand (pxOf (sigma * (x - r.pos))) (sigma * r.v) (sigma * s.pred.acc) s.hMax).map (fun tau => r.t + tau)

/-- A start instant in 2^-16 ns to the nearest tick of 2.5 ns, a tie to the later (R55). One tick is 163,840 units. -/
def tickOf (t : Int) : Nat := ((t + 81920) / 163840).toNat

/-- The instant of a tick. -/
def ofTick (n : Nat) : Int := (n : Int) * 163840

end Sys2Proof.Machine
end

