-- ==== Sys2Proof/Machine/LaneCode.lean ====
section
/-! DEFINITION. The lane coding of Thread (R121 to R124) and of Drive Link (R333): 8b/10b code groups, running disparity, what a received group counts as. -/

namespace Sys2Proof.Machine

open Sys2Proof

/-- abcdei of the low five bits of an octet at negative disparity. R121 names the code-group tables of IEEE 802.3 clause 36 and does not reprint them
(log entry 154). A code group is a number of ten bits, bit a the highest: it goes first on the lane. -/
def six (x : Nat) : Nat :=
  nth 0 [0b100111, 0b011101, 0b101101, 0b110001, 0b110101, 0b101001, 0b011001, 0b111000, 0b111001, 0b100101, 0b010101, 0b110100, 0b001101, 0b101100, 0b011100,
    0b010111, 0b011011, 0b100011, 0b010011, 0b110010, 0b001011, 0b101010, 0b011010, 0b111010, 0b110011, 0b100110, 0b010110, 0b110110, 0b001110, 0b101110,
    0b011110, 0b101011] x

/-- The four bits fghj of the high three bits at negative disparity. -/
def four (y : Nat) : Nat := nth 0 [0b1011, 0b1001, 0b0101, 0b1100, 0b1101, 0b1010, 0b0110, 0b1110] y

/-- The number of ones less the number of zeros in `w` bits. -/
def dispOf (w v : Nat) : Int := 2 * (popCount w v : Int) - w

/-- One part of a code group: turned over at positive disparity when it is unbalanced, or when it is the balanced group that has two forms. -/
def part (w v : Nat) (two plus : Bool) : Nat × Bool :=
  let u := if plus && (decide (dispOf w v ≠ 0) || two) then 2 ^ w - 1 - v else v
  (u, if dispOf w u > 0 then true else if dispOf w u < 0 then false else plus)

/-- The code group Dx.y of an octet. -/
def dataGroup (plus : Bool) (b : Nat) : Nat × Bool :=
  let x := b % 32
  let y := b / 32 % 8
  let a := part 6 (six x) (decide (x = 7)) plus
  let alt := decide (y = 7) && (if a.2 then decide (x = 11 ∨ x = 13 ∨ x = 14) else decide (x = 17 ∨ x = 18 ∨ x = 20))
  let c := part 4 (if alt then 0b0111 else four y) (decide (y = 3)) a.2
  (a.1 * 16 + c.1, c.2)

/-- The special groups of Table 5-1 at negative disparity: K28.0, K28.2, K28.3, K28.4, K28.5 and K27.7. -/
def specialGroups : List (Nat × Nat) :=
  [(0x1C, 0b0011110100), (0x5C, 0b0011110101), (0x7C, 0b0011110011), (0x9C, 0b0011110010), (0xBC, 0b0011111010), (0xFB, 0b1101101000)]

/-- The group of a K code. -/
def controlGroup (plus : Bool) (k : Nat) : Nat × Bool :=
  let g := ((specialGroups.find? (fun e => decide (e.1 = k))).map Prod.snd).getD 0
  let u := if plus then 1023 - g else g
  (u, if dispOf 10 g = 0 then plus else !plus)

/-- The type symbol of a frame (Tables 5-1, 5-2). -/
def typeSymbol (typ : Nat) : Nat := if typ = 1 then 0xFB else if typ = 2 then 0x5C else if typ = 3 then 0x1C else 0x9C

/-- The code groups of a K code and the bytes after it, and the disparity they leave. -/
def groupsAfter (plus : Bool) (k : Nat) (l : List Byte) : List Int × Bool :=
  let c := controlGroup plus k
  let r := l.foldl (fun (a : List Int × Bool) x => let g := dataGroup a.2 x.toNat; ((g.1 : Int) :: a.1, g.2)) ([(c.1 : Int)], c.2)
  (r.1.reverse, r.2)

/-- The code groups of a frame: its type symbol, then each byte from byte 1, and the disparity it leaves. -/
def frameGroups (plus : Bool) (b : List Byte) : List Int × Bool :=
  match b with
  | [] => ([], plus)
  | h :: t => groupsAfter plus (typeSymbol h.toNat) t

/-- The first two symbols of ABORT. -/
def abortGroups (plus : Bool) : List Int :=
  let a := controlGroup plus 0x7C
  [(a.1 : Int), ((controlGroup a.2 0x7C).1 : Int)]

/-- The running disparity after a received group, part by part (R121). -/
def rdAfter (plus : Bool) (g : Nat) : Bool :=
  let h := g / 16 % 64
  let l := g % 16
  let a := if dispOf 6 h > 0 ∨ h = 0b000111 then true else if dispOf 6 h < 0 ∨ h = 0b111000 then false else plus
  if dispOf 4 l > 0 ∨ l = 0b0011 then true else if dispOf 4 l < 0 ∨ l = 0b1100 then false else a

/-- The special code a received group is at a running disparity, if it is one of Table 5-1. -/
def controlOf (plus : Bool) (g : Nat) : Option Nat := (specialGroups.find? (fun e => decide ((controlGroup plus e.1).1 = g))).map Prod.fst

/-- A received group is a data group at a running disparity. -/
def isData (plus : Bool) (g : Nat) : Bool := (List.range 256).any (fun b => decide ((dataGroup plus b).1 = g))

/-- A received group is a code error (R123): invalid, against the running disparity, or a K code outside Table 5-1. -/
def codeError (plus : Bool) (g : Nat) : Bool := (controlOf plus g).isNone && !isData plus g

/-- The special codes that open an upstream frame: K27.7 STATUS, K28.2 SB_RSP, K28.0 ECHO (Table 5-1). -/
def opensFrame (k : Nat) : Bool := decide (k = 0xFB ∨ k = 0x5C ∨ k = 0x1C)

end Sys2Proof.Machine
end

