-- ==== Sys2Proof/Machine/UnitOps.lean ====
section
/-! DEFINITION. Ports, die geometry, plane maps, pages and columns as every unit reads them; what a stop and the Hem safe state do to them without raising a source. -/

namespace Sys2Proof.Machine

open Sys2Proof

/-! ### Ports and dies -/

/-- All ports. -/
def allPorts : List Nat := List.range 64

/-- A head port. -/
def Core.port (s : Core) (p : Nat) : Port := Tab.get {} s.ports p

/-- Replace a head port. -/
def Core.setPort (s : Core) (p : Nat) (x : Port) : Core := { s with ports := Tab.set s.ports p x }

/-- Change a head port. -/
def Core.updPort (s : Core) (p : Nat) (f : Port → Port) : Core := s.setPort p (f (s.port p))

/-- Change every port that holds something. -/
def Core.mapPorts (s : Core) (f : Port → Port) : Core := { s with ports := s.ports.map (fun p => (p.1, f p.2)) }

/-- LINK_STATE codes (Table 5-15). -/
def lkOff : Nat := 0
def lkPower : Nat := 1
def lkTrain : Nat := 2
def lkAlign : Nat := 3
def lkEnum : Nat := 4
def lkReady : Nat := 5
def lkStandby : Nat := 6
def lkRetrain : Nat := 7
def lkAborted : Nat := 8
def lkFault : Nat := 9

/-- LINK_STATE of a port. -/
def Core.link (s : Core) (p : Nat) : Nat := s.rd Obj.port_LINK_STATE p 0

/-- HPWR_EN of a port: high in every state except OFF and FAULT (R145), low in the Hem safe state (R503) and while the device is not powered. -/
def Core.hpwr (s : Core) (p : Nat) : Bool :=
  decide (s.link p ≠ lkOff ∧ s.link p ≠ lkFault) && decide (s.mode ≠ .safe) && s.running

/-- Byte `i` of the port's DIE_GEOM (Table 5-9). -/
def Core.geomByte (s : Core) (p i : Nat) : Nat := s.rd Obj.port_DIE_GEOM p 0 / 256 ^ i % 256

/-- Primitives the die reported; before enumeration none is known to be absent (R11). -/
def Core.nPrim (s : Core) (p : Nat) : Nat := if (s.port p).enumerated then s.geomByte p 0 else 64

/-- The row-group is present on the port's die. -/
def Core.rgPresent (s : Core) (p g : Nat) : Bool := (s.port p).enumerated && bit (s.geomByte p 1) g

/-- The row-group a die's geometry maps primitive `q` to (R11). -/
def Core.rgOf (s : Core) (p q : Nat) : Nat := s.rd Obj.port_DIE_GEOM p 0 / 2 ^ (64 + 2 * q) % 4

/-- The primitive is present. -/
def Core.primPresent (s : Core) (p q : Nat) : Bool := decide (q < s.nPrim p)

/-- Present primitives of a row-group, ascending. -/
def Core.rgPrims (s : Core) (p g : Nat) : List Nat :=
  if s.rgPresent p g then (List.range (s.nPrim p)).filter (fun q => s.rgOf p q = g) else []

/-- Present row-groups of a port, ascending. -/
def Core.rgs (s : Core) (p : Nat) : List Nat := (List.range 4).filter (s.rgPresent p)

/-- RG_MASK of a port. -/
def Core.rgMask (s : Core) (p : Nat) : Nat := if (s.port p).enumerated then s.geomByte p 1 % 16 else 0

/-- TABLE_VALID, AUTH_VALID, CAL_LOADED, ACTIVE_B of PORT_FLAGS. -/
def Core.setFlag (s : Core) (p b : Nat) (v : Bool) : Core := s.wr Obj.port_PORT_FLAGS p 0 (putBit (s.rd Obj.port_PORT_FLAGS p 0) b v)

/-- A bit of PORT_FLAGS. -/
def Core.flag (s : Core) (p b : Nat) : Bool := bit (s.rd Obj.port_PORT_FLAGS p 0) b

/-! ### RG_MAP entries (Table 8-1) -/

/-- X_FIRST. -/
def rmXFirst (e : Nat) : Nat := field e 23 0
/-- X_DIR. -/
def rmXDir (e : Nat) : Bool := bit e 24
/-- PLANE. -/
def rmPlane (e : Nat) : Nat := field e 35 32
/-- ROLE: 0 NONE, 1 PRINT, 2 SPARE. -/
def rmRole (e : Nat) : Nat := field e 41 40
/-- PAIRED. -/
def rmPaired (e : Nat) : Bool := bit e 42
/-- PAIR_PORT. -/
def rmPairPort (e : Nat) : Nat := field e 53 48
/-- PAIR_RG. -/
def rmPairRg (e : Nat) : Nat := field e 55 54

/-- The entry of a port's row-group in a plane map. -/
def PlaneMap.entry (m : PlaneMap) (p g : Nat) : Nat := nth 0 m.rgMap (4 * p + g)

/-- The present objects as a plane map. -/
def Core.presentMap (s : Core) : PlaneMap :=
  ⟨s.rd0 Obj.INTERLEAVE, s.rd0 Obj.SUBCOL, (List.range 48).map (fun i => s.rd Obj.DIST 0 i),
   (List.range 256).map (fun i => s.rd Obj.RG_MAP (i % 4) (i / 4))⟩

/-- ROLE of a row-group by the present objects. -/
def Core.role (s : Core) (p g : Nat) : Nat := rmRole (s.rd Obj.RG_MAP g p)

/-- A port of the job: one with a row-group whose ROLE is PRINT or SPARE (R591). -/
def Core.jobPort (s : Core) (p : Nat) : Bool := (List.range 4).any (fun g => decide (s.role p g = 1 ∨ s.role p g = 2))

/-- The ports of the job. -/
def Core.jobPorts (s : Core) : List Nat := allPorts.filter s.jobPort

/-- A port shared with the partner of a redundant pair. -/
def Core.sharedPort (s : Core) (p : Nat) : Bool := bit (s.rd0 Obj.PAIR_PORTS) p

/-- The controller is the standby member of a pair (PAIR_STATE STANDBY_SYNC, STANDBY_READY or TAKING). -/
def Core.isStandby (s : Core) : Bool := decide (2 ≤ s.rd0 Obj.PAIR_STATE)

/-- The controller is the active member of a pair. -/
def Core.isPairActive (s : Core) : Bool := decide (s.rd0 Obj.PAIR_STATE = 1)

/-- An active port (R591). -/
def Core.activePort (s : Core) (p : Nat) : Bool :=
  s.jobPort p && (decide (s.link p = lkReady) || (s.isStandby && s.sharedPort p && decide (s.link p = lkStandby)))

/-- The active ports. -/
def Core.activePorts (s : Core) : List Nat := allPorts.filter s.activePort

/-! ### Pages -/

/-- The plane map of the page at place `k` of the list: the one bound to it, else the nearest bound one before it, else the present objects. -/
def Core.mapOf (s : Core) (l : List Page) : PlaneMap :=
  match (l.reverse.filterMap Page.map).head? with
  | some m => m
  | none => s.presentMap

/-- The plane map in force for the page that holds a job column: its own once started. -/
def Page.own (pg : Page) (s : Core) : PlaneMap := match pg.map with | some m => m | none => s.presentMap

/-- Started pages, oldest first. -/
def Core.startedPages (s : Core) : List Page := s.pages.filter (·.started)

/-- The started page that holds job column `j`. -/
def Core.pageOf (s : Core) (j : Nat) : Option Page := s.startedPages.find? (fun pg => decide (pg.base ≤ j ∧ j < pg.base + pg.cols))

/-- The page in progress: the oldest started one. -/
def Core.currentPage (s : Core) : Option Page := s.startedPages.head?

/-- Change the page that starts at job column `b`. -/
def Core.updPage (s : Core) (b : Nat) (f : Page → Page) : Core :=
  { s with pages := s.pages.map (fun pg => if pg.started ∧ pg.base = b then f pg else pg) }

/-- Mark the page that holds a job column spoiled. -/
def Core.spoil (s : Core) (j : Nat) : Core :=
  { s with pages := s.pages.map (fun pg => if pg.started ∧ pg.base ≤ j ∧ j < pg.base + pg.cols then { pg with spoiled := true } else pg) }

/-- W_lo and W_hi: lowest and highest whole offset of the row-groups with ROLE PRINT or SPARE (R200). -/
def Core.wRange (s : Core) (m : PlaneMap) : Int × Int :=
  let ws := (List.range 256).filterMap (fun i =>
    let r := rmRole (nth 0 m.rgMap i)
    if (r = 1 ∨ r = 2) ∧ s.rgPresent (i / 4) (i % 4) then some (wholeSteps (s.rdI Obj.RG_OFFSET (i % 4) (i / 4)) m.u) else none)
  match ws with
  | [] => (0, 0)
  | w :: t => (t.foldl min w, t.foldl max w)

/-- C of a page (R205). -/
def pageCols (m : PlaneMap) (lines : Nat) (w : Int × Int) : Nat :=
  m.s * (((ceilDiv lines m.u : Nat) : Int) + w.2 - w.1).toNat

/-! ### Columns -/

/-- The record of a job column on a port. -/
def Port.colAt (x : Port) (j : Nat) : Option Col := x.cols.find? (fun r => decide (r.col = j))

/-- Put a record into a port's list, ascending by column. -/
def putCol (r : Col) : List Col → List Col
  | [] => [r]
  | q :: t => if q.col < r.col then q :: putCol r t else if q.col = r.col then r :: t else r :: q :: t

/-- Keep the 24 newest records, every unsettled one, and the nine newest that are neither lost nor dropped, whatever has been lost since: eight give the
history, and one more the column whose units run (R102, R103). -/
def pruneCols (l : List Col) : List Col :=
  if l.length ≤ 24 then l
  else
    let old := l.take (l.length - 24)
    let live := l.filter (fun r => !r.lost && !r.dropped)
    let lo := match (live.drop (live.length - 9)).head? with | some r => r.col | none => 0
    old.filter (fun r => !r.settled || (!r.lost && !r.dropped && decide (lo ≤ r.col))) ++ l.drop (l.length - 24)

/-- Store a column record. -/
def Core.setCol (s : Core) (p : Nat) (r : Col) : Core := s.updPort p (fun x => { x with cols := pruneCols (putCol r x.cols) })

/-- The record of a column, or a new one. -/
def Core.colOf (s : Core) (p j : Nat) : Col := ((s.port p).colAt j).getD { col := j }

/-- A column has been dropped on every port (R82). -/
def Core.isDropped (s : Core) (j : Nat) : Bool := s.decided.contains (j, true)

/-- A column has settled on a port: recorded so, dropped, below the port's floor, or the port is not active (R218, R591). -/
def Core.settledOn (s : Core) (p j : Nat) : Bool :=
  !s.activePort p || decide (j < (s.port p).floor) || s.isDropped j
    || (match (s.port p).colAt j with | some r => r.settled | none => false)

/-- The lowest column at or after `j` not settled on a port, looking at most `k` columns ahead. -/
def Core.firstUnsettled (s : Core) (p : Nat) : Nat → Nat → Nat
  | 0, j => j
  | k + 1, j => if s.settledOn p j then Core.firstUnsettled s p k (j + 1) else j

/-- k / F_set in 2^-16 ns, at the setting of the validation last completed (R77). -/
def Core.periods (s : Core) (p k : Nat) : Int := (k * 1000000000 * 65536 / max 1 (s.port p).fValid : Nat)

/-- Landing targets, by present row-group, of page column `c` (R53). -/
def Core.targets (s : Core) (pg : Page) (m : PlaneMap) (p c : Nat) : List (Nat × Int) :=
  (s.rgs p).map (fun g =>
    (g, targetOf pg.origin (s.rdI Obj.PORT_DATUM 0 p) pg.dir c m.u m.s (remOf (s.rdI Obj.RG_OFFSET g p) m.u)))

/-- Flight time of a row-group in 2^-16 ns (Q28.4 ns). -/
def Core.flight (s : Core) (p g : Nat) : Int := ((s.rd Obj.RG_FLIGHT g p * 4096 : Nat) : Int)

/-- The column reference instant t_ref(c) in 2^-16 ns: the unrounded start instant solved with r_g = 0 and the flight time of the lowest present row-group; the
port's column boundary (R55). -/
def Core.colRef (s : Core) (pg : Page) (m : PlaneMap) (p c : Nat) : Option Int :=
  match s.rgs p with
  | [] => none
  | g :: _ => (s.landOf pg.dir (targetOf pg.origin (s.rdI Obj.PORT_DATUM 0 p) pg.dir c m.u m.s 0)).map (fun t => t - s.flight p g)

/-- The start ticks of every present row-group, entry g for row-group g and 0 where it is absent, if every one has a solution (R54, R55). -/
def Core.solveTicks (s : Core) (pg : Page) (m : PlaneMap) (p c : Nat) : Option (List Nat) :=
  let ts := s.targets pg m p c
  let sols := ts.map (fun gx => (s.landOf pg.dir gx.2).map (fun t => (gx.1, tickOf (t - s.flight p gx.1))))
  if ts.isEmpty ∨ sols.any Option.isNone then none
  else
    let l := sols.filterMap id
    some ((List.range 4).map (fun g => match l.find? (fun e => decide (e.1 = g)) with | some e => e.2 | none => 0))

/-- The earliest tick among the present row-groups. -/
def Core.minTick (s : Core) (p : Nat) (ticks : List Nat) : Nat :=
  match (s.rgs p).map (fun g => nth 0 ticks g) with
  | [] => 0
  | t :: r => r.foldl min t

/-- t_first of a job column on a port in 2^-16 ns: issued, or predicted (R16, R55). -/
def Core.tFirst (s : Core) (p j : Nat) : Option Int :=
  match (s.port p).colAt j with
  | some r =>
    if r.gated then some (ofTick (s.minTick p r.ticks))
    else (s.pageOf j).bind (fun pg => (s.solveTicks pg (pg.own s) p (j - pg.base)).map (fun l => ofTick (s.minTick p l)))
  | none => (s.pageOf j).bind (fun pg => (s.solveTicks pg (pg.own s) p (j - pg.base)).map (fun l => ofTick (s.minTick p l)))

/-- The first column of the run that `j` belongs to: its page's first, the one after a Comet seam, or the one a port rejoined at (R16). -/
def Core.runBase (s : Core) (p j : Nat) : Nat :=
  let b := match s.pageOf j with | some pg => max pg.base (if pg.resume ≤ j then pg.resume else 0) | none => 0
  let r := (s.port p).runBase
  if r ≤ j then max b r else b

/-- t_first(c − k) with the substitution of R16. -/
def Core.tFirstBack (s : Core) (p j k : Nat) : Option Int :=
  if s.runBase p j + k ≤ j then s.tFirst p (j - k) else (s.tFirst p j).map (fun t => t - s.periods p k)

/-- t_tx of a column frame: 6,432 ns in 2^-16 ns. -/
def tTx : Int := 6432 * 65536

/-- LINK_DELAY of a port in 2^-16 ns (Q24.8 ns). -/
def Core.linkDelay (s : Core) (p : Nat) : Int := ((s.rd Obj.port_LINK_DELAY p 0 * 256 : Nat) : Int)

/-- Ticks from one column of a spit run to the next, at the SPIT_RATE of its start (R85). -/
def Core.spitStep (s : Core) : Nat := 400000000 / max 1 (s.rd0 Obj.SPIT_RATE)

/-- t_first(c − k): of a page's column (R16), or by a spit run's own column clock (R117). -/
def Core.backOf (s : Core) (p j k : Nat) : Option Int :=
  match (s.port p).colAt j with
  | some r => if r.run then some (ofTick (s.minTick p r.ticks) - ofTick (k * r.step)) else s.tFirstBack p j k
  | none => s.tFirstBack p j k

/-- D(c): Bobbin's deadline (R91). -/
def Core.deadline (s : Core) (p j : Nat) : Option Int := (s.backOf p j 2).map (fun t => t - tTx)

/-- The gate of a column (R79). -/
def Core.gateAt (s : Core) (p j : Nat) : Option Int :=
  (s.backOf p j 2).map (fun t => t - tTx - ((s.rd0 Obj.GATE_LEAD * 65536 : Nat) : Int))

/-! ### The nozzle map (R166) -/

/-- Effective state of a nozzle: 0 good, 1 weak, 2 dead, 3 dry. -/
def Core.nozzle (s : Core) (n : Nat) : Nat :=
  let e := s.rd Obj.NOZZLE_MAP 0 n
  let host := field e 3 2
  let sweep := field e 5 4
  if host = 2 ∨ sweep = 2 then 2
  else if bit (s.rd0 Obj.DRY_FLAGS) (n / 1024) then 3
  else if host = 1 ∨ sweep = 1 then 1
  else 0

/-! ### Spit patterns (R84) -/

/-- The nozzle spits in column `q` of a pattern. -/
def Core.spits (s : Core) (pat q n : Nat) : Bool :=
  let st := s.nozzle n
  bit (s.rd Obj.spat_PORTS pat 0) (n / 1024) && bit (s.rd Obj.spat_ADDR_MASK pat 0) (n % 16)
    && decide ((q + n) % max 1 (s.rd Obj.spat_EVERY pat 0) = 0)
    && (decide (st = 0) || (decide (st = 1) && s.rd Obj.spat_INCLUDE pat 0 % 2 = 1))

/-- The fire bits of a port in column `q` of a pattern, one 16-bit mask per primitive. -/
def Core.spitBits (s : Core) (pat q p : Nat) : List Nat :=
  (List.range 64).map (fun pr =>
    if s.primPresent p pr then maskOf ((List.range 16).filter (fun a => s.spits pat q (1024 * p + 16 * pr + a))) else 0)

/-- Columns a port has fired or will fire: sent and not lost, newest first (R66). -/
def Port.firedCols (x : Port) : List Col := (x.cols.filter (fun r => r.sent && !r.lost)).reverse

/-- The last column before `j` fired on the port (R66). -/
def Port.lastFired (x : Port) (j : Nat) : Option Col := x.firedCols.find? (fun r => decide (r.col < j))

/-- The port holds column frames that have not fired: sent, not lost, not yet acknowledged. -/
def Port.holdsFrames (x : Port) : Bool := x.cols.any (fun r => r.sent && !r.lost && !r.acked)

/-! ### What a stop does (R21, R163) -/

/-- The seam of R21: the highest column accepted by, or begun to, any active port. -/
def Core.stopSeam (s : Core) : Option Nat :=
  s.activePorts.foldl (fun m p =>
    match ((s.port p).cols.filter (fun r => r.sent && !r.run)).getLast? with
    | some r => (match m with | some k => some (max k r.col) | none => some r.col)
    | none => m) none

/-- Pages that a stop leaves incomplete are spoiled: the one in progress unless its last column lies at or before the seam, and a later
started one of which a column does. -/
def Core.spoilAfter (s : Core) (seam : Option Nat) : Core :=
  let first := (s.currentPage.map Page.base).getD 0
  { s with pages := s.pages.map (fun pg =>
      let lastIn := match seam with | some k => decide (pg.base + pg.cols ≤ k + 1) | none => false
      let some_ := match seam with | some k => decide (pg.base ≤ k) | none => false
      if pg.started && !lastIn && (decide (pg.base = first) || some_) then { pg with spoiled := true } else pg) }

/-- Units in progress of discarded columns run their cycles to the end without effect (R93, R94): their entries come to name no port. -/
def Core.voidLanes (s : Core) (gone : Nat → Nat → Bool) : Core :=
  { s with lanes := s.lanes.map (fun l => if gone l.1 l.2.1 then (64, 0, 0) else l) }

/-- Landings of columns that will not be fired are no longer predicted (R56, R58). -/
def Core.dropLandings (s : Core) (gone : Nat → Nat → Bool) : Core :=
  { s with pred := { s.pred with landings := s.pred.landings.filter (fun l => !gone l.port l.col) } }

/-- Columns beyond a seam that were assembled or evaluated are discarded (R218, R357, Table 4-3). -/
def Core.discardAfter (s : Core) (seam : Option Nat) : Core :=
  let past (j : Nat) : Bool := match seam with | some k => decide (k < j) | none => true
  let gone (p j : Nat) : Bool := past j && ((s.port p).colAt j).any (fun r => !r.settled && !r.sent)
  ((s.mapPorts (fun x => { x with cols := x.cols.filter (fun r => r.settled || r.sent || !past r.col) })).voidLanes gone).dropLandings gone

/-- SPIT_ABORT (R85): columns whose frames have been sent still fire, no further frame is sent. -/
def Core.spitAbort (s : Core) : Core :=
  match s.spit with
  | none => s
  | some _ =>
    let gone (p j : Nat) : Bool := ((s.port p).colAt j).any (fun r => r.run && !r.sent)
    (((({ s with spit := none }).mapPorts (fun x => { x with cols := x.cols.filter (fun r => !r.run || r.sent) })).voidLanes gone).wr0 Obj.SPIT_STATE 0).endComp
      Obj.SPIT_RUN 0 0 false

/-- Step 1 of a head stop: a spit run ends; the feed and carriage groups begin their ramps (Table 6-6). -/
def Core.headStopStep1 (s : Core) : Core := { (s.spitAbort).stopPrintGroups with headStep := 2 }

/-! ### Originating a fault block (R389) -/

/-- The five payload bytes of a fault block and its CRC-16 (Table 14-6). -/
def faultBlock (origin kind fseq : Nat) : List Byte :=
  let b := leBytes 5 (origin % 4096 + kind * 4096 + fseq % 256 * 65536)
  b ++ leBytes 2 (Crypto.crc16 0x1021 b 0xFFFF)

/-- The ring ports that are UP. -/
def Core.upPorts (s : Core) : List Nat := [0, 1].filter (fun k => s.rd Obj.rp_LINK_STATE k 0 = 3)

/-- The TOPO entries held, master first. -/
def Core.topo (s : Core) : List Nat := (List.range (s.rd0 Obj.TOPO_COUNT)).map (fun j => s.rd Obj.TOPOLOGY 0 j)

/-- The node of a TOPO entry. -/
def topoNode (e : Nat) : Nat := e % 4096

/-- Place of a node in TOPOLOGY. -/
def Core.placeOf (s : Core) (node : Nat) : Option Nat :=
  let i := s.topo.findIdx (fun e => decide (topoNode e = node))
  if i < s.topo.length then some i else none

/-- The controller is rejected (R378), or has no NODE_ID: it acts as R376 says. -/
def Core.rejected (s : Core) : Bool :=
  decide (s.rd0 Obj.NODE_ID = 0) || (match s.placeOf (s.rd0 Obj.NODE_ID) with
    | some j => bit (s.rd Obj.TOPOLOGY 0 j) 12
    | none => false)

/-- Originate a fault block of a kind (1 orderly stop, 2 fatal) where RSTOP_TX selects it: four copies on every UP ring port. A controller without a
NODE_ID, or rejected, originates none (R376). -/
def Core.faultBlockOut (s : Core) (kind : Nat) : Core :=
  if bit (s.rd0 Obj.RSTOP_TX) (kind - 1) ∧ !s.rejected then
    let f := (s.fseq + 1) % 256
    ({ s with fseq := f }).each s.upPorts (fun t k =>
      t.each [0, 1, 2, 3] (fun t i => t.emit .faultBlock k [((100 * i : Nat) : Int)] (faultBlock (s.rd0 Obj.NODE_ID) kind f)))
  else s

/-! ### The Hem safe state (Table 19-5) -/

/-- A measurement record (Table 6-3). -/
def measRecord (tNs raw : Nat) (temp rise rate : Int) (status sensor flags : Nat) : List Byte :=
  leBytes 8 tNs ++ leBytes 4 raw ++ leBytes 2 (rawOf 16 temp) ++ leBytes 2 (rawOf 16 rise) ++ leBytes 4 (rawOf 32 rate) ++ leBytes 1 status
    ++ leBytes 1 sensor ++ leBytes 1 flags ++ [0]

/-- Publish a record in LAST_MEAS of a port or LAST_JS of a junction sensor, by SENSOR (R158). -/
def Core.publishMeas (s : Core) (sensor : Nat) (rec : List Byte) : Core :=
  if sensor < 64 then s.wr Obj.LAST_MEAS 0 sensor (ofLe rec) else s.wr Obj.LAST_JS 0 (sensor - 64) (ofLe rec)

/-- Publish an invalid record: MEAS_FAIL follows (R159). RISE and RATE are 0; the other values of a measurement that was not made are open. -/
def Core.publishBad (s : Core) (sensor status : Nat) : Core :=
  let d := s.drawOpen
  let t := d.2.publishMeas sensor (measRecord d.1 (d.1 / 2 ^ 64) ((d.1 / 2 ^ 96 : Nat) : Int) 0 0 status sensor 0)
  { t with alsoRaise := t.alsoRaise ++ [1266] }

/-- A front-end channel. -/
def Core.afeOf (s : Core) (k : Nat) : Afe := Tab.get {} s.afe k

/-- Replace a front-end channel. -/
def Core.setAfe (s : Core) (k : Nat) (x : Afe) : Core := { s with afe := Tab.set s.afe k x }

/-- The force current a channel carries to a TSR, in µA (R156); heaters get theirs in pulses. -/
def Afe.level (x : Afe) : Nat := if x.kind = 1 then x.force else 0

/-- Put a front-end channel to another use: a force current that changes is driven. -/
def Core.useAfe (s : Core) (k : Nat) (x : Afe) : Core :=
  let t := s.setAfe k x
  if x.level = (s.afeOf k).level then t else t.emit .forceCurrent k [(x.level : Int)] []

/-- Measurements in progress end with STATUS LINK and their force current stops (Table 6-9). -/
def Core.measSafe (s : Core) : Core :=
  let t := s.each (List.range 32) (fun t k => if (t.afeOf k).kind = 1 then (t.publishBad (t.afeOf k).port 2).useAfe k {} else
    if (t.afeOf k).kind = 0 then t else t.setAfe k {})
  let u := t.each (bitsSet 16 t.jsRunning) (fun t i => t.publishBad (64 + i) 2)
  { u with jsRunning := 0, jsPending := 0, measPending := 0 }

/-- Every port sends ABORT, a run of K28.3 that begins as shown (R123), and goes to ABORTED (R146); its HPWR_EN is low; work not sent is discarded (Table 4-3, R218). -/
def Core.abortAllPorts (s : Core) : Core :=
  s.each allPorts (fun t p =>
    ((((t.wr Obj.port_LINK_STATE p 0 lkAborted).updPort p (fun x =>
      { x with cols := x.cols.filter (fun r => r.sent), conv := none, req := none, queue := [], takes := 0, closing := false, sbHeld := false, timeHeld := 0
               thim := { x.thim with sending := false, again := false, mirrorWait := false, authed := false } })).emit .headPower p [0] []).emit .abortLane p (abortGroups (t.port p).txPlus) []))

/-- DMA channels DISABLED with no STATUS written (R286). -/
def Core.dmaSafe (s : Core) : Core :=
  let t := s.each (List.range 128) (fun t k => if t.rd Obj.dma_CH_STATE k 0 = 0 then t else t.wr Obj.dma_CH_STATE k 0 0)
  t.each (List.range 8) (fun t e => (t.wr Obj.eng_ENG_STATE e 0 0).wr Obj.eng_ACTIVE_CH e 0 0xFF)

/-- Decoders end ABORTED the window blocks they hold for the page at `b`, or for any page: neither retried nor bad (R249, Table 9-10). -/
def Core.abortWindow (s : Core) (b : Option Nat) : Core :=
  let mine (d : Nat) : Bool := match (Tab.get {} s.decs d : Decoder).win with
    | some w => (match b with | some k => decide (w.1 = k) | none => true)
    | none => false
  let t := s.each ([0, 1, 2, 3].filter mine) (fun t d => ({ t with decs := Tab.erase t.decs d }).wr Obj.dec_DEC_STATE d 0 0)
  { t with pages := t.pages.map (fun pg =>
      if pg.started && (match b with | some k => decide (pg.base = k) | none => true) then
        { pg with blocks := pg.blocks.map (fun x => { x with busy := false }) } else pg) }

/-! ### The staging area and the job -/

/-- Bytes of joined and waiting payload, which hold staging space until their records are processed (R259, R271). -/
def Stream.buffered (x : Stream) : Nat := x.bytes.length + sumN (x.got.map (fun e => e.2.length))

/-- Bytes of the staging area not yet committed (R259, R274). -/
def Core.stageFree (s : Core) : Nat :=
  s.rd0 Obj.STAGE_SIZE - (sumN (s.stage.map (fun (e : Nat × Nat × Bool) => e.2.1)) + s.stream.buffered)

/-- STAGE_FREE follows. -/
def Core.putFree (s : Core) : Core := s.wr0 Obj.STAGE_FREE s.stageFree

/-- The pages, staged blocks and commands of the job are discarded; the job ends. -/
def Core.dropJob (s : Core) : Core :=
  ((({ s.abortWindow none with pages := [], staged := none, stage := [], measDue := [], job := {}, stream := { s.stream with ended := none } }).wr0
    Obj.PM_STAGED 0).wr0 Obj.CMD_QUEUE 0).putFree

/-- The stream is CLOSED: command queue, staged blocks and records not processed are discarded, DE0.C00 is DISABLED (R257). -/
def Core.closeStream (s : Core) : Core :=
  (((((({ s with stream := { acks := s.stream.acks } }).dropJob).wr0 Obj.STREAM_STATE 0).disarm .streamAckPeriod 0).wr Obj.dma_CH_STATE 0 0 0).wr
    Obj.eng_ENG_STATE 0 0 0).wr Obj.eng_ACTIVE_CH 0 0 0xFF

/-- The device leaves PRINT for SAFE: the job ends, and one that is not complete closes the stream (Table 10-9). -/
def Core.safeJob (s : Core) : Core :=
  if !s.inPrint ∨ !s.job.active then s
  else if s.rd0 Obj.LOOKAHEAD = 0xFFFFFFFF then s.dropJob.wr0 Obj.LOOKAHEAD 0
  else s.closeStream.wr0 Obj.LOOKAHEAD 0

/-- A BIST run is cut short: its groups end ABORTED, its blocks as they are, no mark is written (R548). -/
def Core.bistAbort (s : Core) : Core :=
  if s.bist.kind = 0 then s
  else
    let t := s.each (s.bist.running.map BistRun.group) (fun t g => t.wr Obj.GROUP_RESULT 0 (g - 1) 4)
    ({ t with bist := { t.bist with kind := 0, todo := [], running := [] } }).wr0 Obj.BIST_STATE 4

/-- The units that stop with the outputs: spit run, Comet, DMA, decoders (stopped, no completion record). -/
def Core.unitsSafe (s : Core) : Core :=
  let t := ((((s.spitAbort).bistAbort).dmaSafe).measSafe).each [0, 1, 2, 3] (fun t d => t.wr Obj.dec_DEC_STATE d 0 0)
  let u := if t.rd0 Obj.COMET_STATE = 0 then t else t.wr0 Obj.COMET_STATE 0
  { u with headStep := 0, headSources := [], stopCap := false, wantReady := false, comet := {}, decs := [] }

end Sys2Proof.Machine
end

