-- ==== Sys2Proof/Machine/FaultOps.lean ====
section
/-! DEFINITION. Selvedge and Hem as every unit uses them: registering an occurrence, escalation, reactions, the Hem safe state, the fault log (R494 to R506), the stops of R20 and R163, changes of mode (R478). -/

namespace Sys2Proof.Machine

open Sys2Proof

/-! ### Source records -/

/-- A source that has not been raised: its EFF_CLASS is its CLASS. -/
def Core.srcRec (s : Core) (n : Nat) : Src := Tab.get ⟨false, false, s.rd Obj.src_CLASS n 0, false⟩ s.src n

/-- Store a source's own bits. -/
def Core.setSrc (s : Core) (n : Nat) (x : Src) : Core := { s with src := Tab.set s.src n x }

/-- EFF_CLASS of a source: its CLASS while it is not RAISED (R499). -/
def Core.effClass (s : Core) (n : Nat) : Nat :=
  let x := s.srcRec n
  if x.raised then x.eff else s.rd Obj.src_CLASS n 0

/-- STATUS of a source (Table 19-1). -/
def Core.srcStatus (s : Core) (n : Nat) : Nat :=
  let x := s.srcRec n
  b2n x.raised + 2 * b2n x.active + 4 * s.effClass n + 16 * b2n (x.raised && x.forced)

/-- A source is raised. -/
def Core.isRaised (s : Core) (n : Nat) : Bool := (s.srcRec n).raised

/-! ### The fault log (R506) -/

/-- The bytes of a log entry (Table 19-7a). -/
def LogEntry.bytes (e : LogEntry) : List Byte :=
  leBytes 8 e.tNs ++ leBytes 2 e.tFrac ++ leBytes 2 e.source ++ leBytes 1 e.kind ++ leBytes 1 e.cls ++ leBytes 1 e.reaction
    ++ leBytes 1 e.mode ++ leBytes 4 e.info ++ leBytes 4 e.seq ++ leBytes 2 e.repeats ++ leBytes 1 e.flags ++ List.replicate 5 0

/-- Add an entry: SEQ rises by 1; entries of class U or F that raise or escalate, and RESET entries, also go to FAULT_LOG_RET; an entry
overwritten above LOG_READ_MARK is an occurrence of LOG_WRAP. -/
def Core.addLog (s : Core) (source kind cls reaction info repeats flags : Nat) : Core :=
  let seq := (s.rd0 Obj.LOG_SEQ + 1) % 2 ^ 32
  let e : LogEntry := ⟨s.ftNs, s.ftFrac, source, kind, cls, reaction, s.mode.code, info, seq, repeats, flags⟩
  let s1 := s.wr0 Obj.LOG_SEQ seq
  let wraps := match nth none (s1.log.map some) 4095 with
    | some old => decide (old.seq > s1.rd0 Obj.LOG_READ_MARK)
    | none => false
  let keep := ((kind = 1 ∨ kind = 3) ∧ (cls = 1 ∨ cls = 2)) ∨ kind = 5
  { s1 with
    log := (e :: s1.log).take 4096
    logRet := if keep then (e :: s1.logRet).take 256 else s1.logRet
    alsoRaise := if wraps then s1.alsoRaise ++ [8] else s1.alsoRaise }

/-! ### Changes of mode -/

/-- Change MODE: MODE event, MODE entry in the log, MODE_T_NS (R478, Table 19-7a). -/
def Core.setMode (s : Core) (m : Mode) : Core :=
  let old := s.mode
  let s1 := { s with mode := m }
  let s2 := s1.wr0 Obj.MODE_T_NS s1.ftNs
  (s2.event (some 1) 0x0010 m.code old.code).addLog 65535 4 255 255 m.code 0 0

/-! ### Stops (R20 to R22, R330, R163) -/

/-- A stop of rank 2 the controller decided itself is broadcast where RSTOP_TX selects it; one decided from KL_REMOTE_STOP never is (R389). -/
def Core.broadcastStop (s : Core) (cause : Nat) : Core := if cause = 1543 then s else s.faultBlockOut 1

/-- A Comet in progress is cancelled by a cause of higher rank (R20): its waits for answers lapse. -/
def Core.stopComet (s : Core) : Core := ((s.disarm .cometCollect 0).disarm .participant 0).disarm .participant 1

/-- An orderly stop of rank 2 is decided in PRINT: its seam is fixed (R21), a Comet ends (R22), every print group stops (R330). A stop
already in progress keeps its seam. -/
def Core.orderlyStop (s : Core) (cause : Nat) : Core :=
  if s.inPrint then
    match s.stop with
    | some _ => s
    | none =>
      let seam := s.stopSeam
      let t := { s.stopComet with stop := some ⟨seam, false, cause⟩, phase := .stopping }
      (((t.discardAfter seam).spoilAfter seam).stopPrintGroups).broadcastStop cause
  else s

/-- The head stop of R163, in PRINT, READY or SERVICE. It governs an orderly stop in progress, from the seam already fixed; its sources are kept for step 5. -/
def Core.headStop (s0 : Core) (cause : Nat) : Core :=
  let s := { s0 with headSources := if s0.headSources.contains cause then s0.headSources else s0.headSources ++ [cause] }
  if s0.inModes [.printWeb, .printScan, .ready, .service] then
    match s.stop with
    | some x =>
      if x.headStop then s
      else (({ s with stop := some { x with headStop := true, cause := cause }, phase := .headStop, stopCap := false }).endComp Obj.MODE_REQ 0 0 false).headStopStep1
    | none =>
      let seam := s.stopSeam
      let t := ({ s.stopComet with stop := some ⟨seam, true, cause⟩, phase := .headStop, stopCap := false, wantReady := false }).endComp Obj.MODE_REQ 0 0 false
      (((t.discardAfter seam).spoilAfter seam).headStopStep1).broadcastStop cause
  else s0

/-- The groups a source of Table 12-11 names (R330): of its axis, or every group with a stepper axis for VDRV_UV. -/
def Core.groupsOf (s : Core) (n : Nat) : List Nat :=
  let ofAxis (a : Nat) : List Nat := if s.rd Obj.ax_GROUP a 0 < 8 then [s.rd Obj.ax_GROUP a 0] else []
  if 1440 ≤ n ∧ n ≤ 1451 then ofAxis (n - 1440)
  else if 1452 ≤ n ∧ n ≤ 1475 then ofAxis (4 + (n - 1452) % 8)
  else if 1476 ≤ n ∧ n ≤ 1487 then ofAxis ((n - 1476) % 4)
  else if n = 1488 then (List.range 8).filter (fun g => (s.members g).any isStepper)
  else if 1489 ≤ n ∧ n ≤ 1504 then ofAxis (4 + (n - 1489) % 8)
  else []

/-- The source is of Table 12-11 and names groups. -/
def isGroupSource (n : Nat) : Bool := decide (1440 ≤ n ∧ n ≤ 1504)

/-- The reaction of the source is qualified by its chapter (R497): FBn_SIGNAL stops only the pacing source's channel (R32), whose code in PACE_SRC is
n + 1 (R47). -/
def Core.qualified (s : Core) (n : Nat) : Bool :=
  if 608 ≤ n ∧ n ≤ 615 then decide (s.rd0 Obj.PACE_SRC = n - 607) else true

/-- A group stop, with the orderly stop it decides for a print group in PRINT (R330). -/
def Core.groupReaction (s : Core) (n : Nat) : Core :=
  s.each (s.groupsOf n) (fun t g => if t.printGroup g ∧ t.inPrint then (t.groupStop g).orderlyStop n else t.groupStop g)

/-- The reaction of Table 19-3 to an occurrence of class U. -/
def Core.react (s : Core) (n : Nat) : Core :=
  if !s.qualified n then s
  else
    match s.rd Obj.src_REACTION n 0 with
    | 1 => s.orderlyStop n
    | 2 =>
      if s.inPrint then s.orderlyStop n
      else if s.mode = .service then s.spitAbort.stopMoving (fun _ => false)
      else s
    | 3 => s.headStop n
    | 4 => s.groupReaction n
    | _ => s

/-! ### The Hem safe state (R503, R490) -/

/-- Locked sequences are rolled back and partial segmented writes discarded at entry to SAFE; read snapshots are kept (R449). -/
def Session.onSafe (x : Session) : Session := { x with txn := none, part := none }

/-- Hem drives every output safe (Table 19-5) and MODE becomes SAFE. A stop, a Comet, a PARK in progress end. SAFE_CAUSE is written by
the caller. -/
def Core.hemSafe (s : Core) : Core :=
  if s.mode = .safe ∨ (s.mode = .off ∧ s.phase ≠ .waking) ∨ s.mode = .retain then s
  else
    let lapsed := s.sess.foldl (fun n p => if p.2.txn.isSome then n + 1 else n) 0
    let s1 := (s.emit .safeOutputs 0 [] []).emit .faultN 0 [0] []
    let s2 := ((s1.abortAllPorts).unitsSafe).safeRampAll
    let s3 := { s2 with
      stop := none
      safeSince := some s2.clk
      phase := .steady
      sess := s2.sess.map (fun (p : Nat × Session) => (p.1, p.2.onSafe)) }
    let s3e := s2.sess.foldl (fun t p => match p.2.txn with
      | some x => t.pushEvent p.1 ⟨0x00F0, x.id, 0, s2.ftNs⟩
      | none => t) s3
    let s4 := (s3e.inc Obj.TXN_LAPSES 0 0 lapsed).endComp Obj.MODE_REQ 0 0 false
    let s5 := s4.faultBlockOut 2
    let s6 := if 0 < lapsed then { s5 with alsoRaise := s5.alsoRaise ++ [1569] } else s5
    s6.safeJob.setMode .safe

/-! ### Occurrences (R498, R499) -/

/-- The reaction byte of a RAISE or ESCALATE entry (Table 19-7a). -/
def Core.logReaction (s : Core) (n cls : Nat) : Nat := if cls = 2 then 0xFE else s.rd Obj.src_REACTION n 0

/-- The action of the class an occurrence reaches: log, event, and the reaction or the Hem safe state. -/
def Core.actClass (s : Core) (n cls kind info repeats : Nat) (forced : Bool) : Core :=
  let flags := b2n forced + 2 * b2n (s.srcRec n).active
  let s1 := s.addLog n kind cls (s.logReaction n cls) info repeats flags
  let s2 := s1.event (some 0) 0x0001 n cls
  if cls = 2 then
    let s3 := if s2.mode ≠ .safe then
        s2.wr0 Obj.SAFE_CAUSE (ofLe ((s1.log.head?.map LogEntry.bytes).getD []))
      else s2
    s3.hemSafe
  else if cls = 1 then s2.react n
  else s2

/-- A source has had an occurrence in this very cycle. -/
def Core.occurredNow (s : Core) (n : Nat) : Bool := decide (Tab.get? s.hwAt (Obj.src_COUNT.key n 0) = some s.clk)

/-- A second occurrence of a source in one cycle is the same occurrence (R498); of a forced and a real one the real one's INFO stands and FORCED reads 0
(R501). -/
def Core.occurAgain (s : Core) (n info : Nat) (forced : Bool) : Core :=
  if forced ∨ s.rdB Obj.src_MASK n 0 ∨ s.rd Obj.src_INFO n 0 ≠ 0xFFFFFFFF then s
  else
    let x := s.srcRec n
    let t := s.wr Obj.src_INFO n 0 info
    if x.raised ∧ s.rd Obj.src_RAISE_T_NS n 0 = s.ftNs then t.setSrc n { x with forced := false } else t

/-- One occurrence of source `n` (Table 19-4), before the occurrences it makes itself. -/
def Core.occurOne (s : Core) (n info : Nat) (forced : Bool) : Core :=
  if !srcAssigned n ∨ (s.mode = .off ∧ s.phase ≠ .waking) ∨ s.mode = .retain then s
  else if s.occurredNow n then s.occurAgain n info forced
  else
    let s0 := ((s.inc Obj.src_COUNT n 0 1).wr Obj.src_LAST_T_NS n 0 s.ftNs).hwUpdate Obj.src_COUNT n 0
    if s.rdB Obj.src_MASK n 0 then s0
    else
      let s1 := (s0.wr Obj.src_INFO n 0 info).hwUpdate Obj.src_STATUS n 0
      let x := s1.srcRec n
      if !x.raised then
        let c := s1.rd Obj.src_CLASS n 0
        let s2 := (s1.setSrc n { x with raised := true, eff := c, forced := forced }).wr Obj.src_RAISE_T_NS n 0 s.ftNs
        (s2.wr Obj.src_REPEATS n 0 0).actClass n c 1 info 0 forced
      else
        let r := if s1.rd Obj.src_REPEATS n 0 < 65535 then s1.rd Obj.src_REPEATS n 0 + 1 else 65535
        let s2 := s1.wr Obj.src_REPEATS n 0 r
        if x.eff < 2 ∧ s1.rdB Obj.src_ESC n 0 then
          (s2.setSrc n { x with eff := x.eff + 1 }).actClass n (x.eff + 1) 3 info r forced
        else s2

/-- Register the occurrences that another one made, at most `k` of them. -/
def Core.drainRaise : Nat → Core → Core
  | 0, s => { s with alsoRaise := [] }
  | k + 1, s =>
    match s.alsoRaise with
    | [] => s
    | n :: t => Core.drainRaise k (({ s with alsoRaise := t }).occurOne n 0 false)

/-- Register every occurrence that waits; more than 128 cannot: one of TXN_LAPSE, one measurement of each port and sensor, one run of losses of each session, LOG_WRAP. -/
def Core.settle (s : Core) : Core := Core.drainRaise 128 s

/-- One occurrence of source `n` with its INFO. -/
def Core.occur (s : Core) (n info : Nat) : Core := (s.occurOne n info false).settle

/-- A forced occurrence (R501). -/
def Core.occurForced (s : Core) (n : Nat) : Core := (s.occurOne n 0xFFFFFFFF true).settle

/-- Set ACTIVE of a level source; its condition's beginning is an occurrence (R589). -/
def Core.level (s : Core) (n info : Nat) (cond : Bool) : Core :=
  let x := s.srcRec n
  if cond then
    if x.active then s else (s.setSrc n { x with active := true }).occur n info
  else if x.active then s.setSrc n { x with active := false } else s

/-- Acknowledge one source: accepted only when it is RAISED, of class C or U, and not ACTIVE (Table 19-4). -/
def Core.ackable (s : Core) (n : Nat) : Bool :=
  let x := s.srcRec n
  x.raised && decide (x.eff < 2) && !x.active

/-- The acknowledgement of Table 19-4: RAISED clears, EFF_CLASS becomes CLASS, log ACK, SOURCE_ACKED event. -/
def Core.ackSource (s : Core) (n : Nat) : Core :=
  let x := s.srcRec n
  let s1 := s.setSrc n { x with raised := false, forced := false, eff := s.rd Obj.src_CLASS n 0 }
  (s1.addLog n 2 (s1.rd Obj.src_CLASS n 0) 255 0 (s1.rd Obj.src_REPEATS n 0) (b2n x.forced)).event (some 0) 0x0002 n 0

/-- A host write is lost to a hardware update in its cycle (Table 17-5): counted, recorded, raised. -/
def Core.lostWrite (s : Core) (idx sub : Nat) : Core :=
  let last := leBytes 2 idx ++ leBytes 2 sub ++ leBytes 4 0 ++ leBytes 8 s.ftNs
  ((s.inc0 Obj.LOST_WRITES).wr0 Obj.LOST_WRITE_LAST (ofLe last)).occur 1586 0

/-- The sources RAISED with a given EFF_CLASS (RAISED_C, RAISED_U, RAISED_F). -/
def Core.raisedCount (s : Core) (c : Nat) : Nat := (s.src.filter (fun p => p.2.raised && decide (p.2.eff = c))).length

/-- An element of RAISED_MAP: bit i of element k is RAISED of source 64k + i. -/
def Core.raisedMap (s : Core) (k : Nat) : Nat :=
  maskOf ((s.src.filter (fun p => p.2.raised && decide (p.1 / 64 = k))).map (fun p => p.1 % 64))

end Sys2Proof.Machine
end

