-- ==== Sys2Proof/Machine/MemOps.lean ====
section
/-! DEFINITION. The addressed memory (ch. 11): Spool and DRAM as one list of cells in canonical form, the device address map, who may reach what, memory
errors. -/

namespace Sys2Proof.Machine

open Sys2Proof

/-! ### Cells -/

/-- What an unlisted address reads as: zero (R307, R312: both stores are cleared before their first access). -/
def Memory.blank : Byte := 0

/-- The byte at a plain device address. -/
def Memory.get : List Host.Cell → Nat → Byte
  | [], _ => Memory.blank
  | (b, v) :: t, a => if b = a then v else Memory.get t a

/-- Write a byte, keeping the canonical form. -/
def Memory.set : List Host.Cell → Nat → Byte → List Host.Cell
  | [], a, v => if v = Memory.blank then [] else [(a, v)]
  | (b, u) :: t, a, v =>
    if a < b then (if v = Memory.blank then (b, u) :: t else (a, v) :: (b, u) :: t)
    else if a = b then (if v = Memory.blank then t else (a, v) :: t)
    else (b, u) :: Memory.set t a v

/-- Every listed address lies above `lo`, they rise strictly, and no entry holds the value of an unlisted address. -/
def Memory.above : Nat → List Host.Cell → Bool
  | _, [] => true
  | lo, (a, v) :: t => decide (lo ≤ a) && decide (v ≠ Memory.blank) && Memory.above (a + 1) t

/-- The canonical form of memory. -/
def Memory.wf (m : List Host.Cell) : Bool := Memory.above 0 m

/-- The `n` bytes from an address. -/
def Memory.read (m : List Host.Cell) (a n : Nat) : List Byte := (List.range n).map (fun i => Memory.get m (a + i))

/-- Write bytes from an address. -/
def Memory.write (m : List Host.Cell) : Nat → List Byte → List Host.Cell
  | _, [] => m
  | a, b :: t => Memory.write (Memory.set m a b) (a + 1) t

/-- Clear every byte from `a` to below `b`. -/
def Memory.clear (m : List Host.Cell) (a b : Nat) : List Host.Cell := m.filter (fun c => decide (c.1 < a ∨ b ≤ c.1))

/-! ### The device address map (R290) -/

/-- SPOOL_BASE. -/
def spoolBase : Nat := 0x1000000000

/-- The bytes of the Spool view. -/
def spoolSize : Nat := 0x1880000

/-- The views of Table 11-1. -/
inductive View where
  | dram | plain | bitSet | bitClear | unmapped
  deriving DecidableEq, Repr

/-- The view an address lies in, and the plain address it names. -/
def Core.locate (s : Core) (a : Nat) : View × Nat :=
  if a < s.rd0 Obj.DRAM_SIZE then (.dram, a)
  else if spoolBase ≤ a ∧ a < spoolBase + spoolSize then (.plain, a)
  else if spoolBase + 0x4000000 ≤ a ∧ a < spoolBase + 0x4000000 + spoolSize then (.bitSet, a - 0x4000000)
  else if spoolBase + 0x8000000 ≤ a ∧ a < spoolBase + 0x8000000 + spoolSize then (.bitClear, a - 0x8000000)
  else (.unmapped, a)

/-- The bank of a plain Spool address. -/
def bankOf (a : Nat) : Nat :=
  let o := a - spoolBase
  if o < 0x1800000 then o / 0x80000 else if o < 0x1840000 then 48 else 49

/-- First plain address and size of a bank. -/
def bankSpan (b : Nat) : Nat × Nat :=
  if b < 48 then (spoolBase + b * 0x80000, 0x80000) else (spoolBase + 0x1800000 + (b - 48) * 0x40000, 0x40000)

/-! ### Who may reach a bank (R291 to R296) -/

/-- Owner codes of Table 11-3 that the model names. -/
def ownFop : Nat := 1
def ownDma : Nat := 2
def ownAvone : Nat := 3

/-- A hand-over of a bank's port runs (R294): 50 and 51 are port B of SB48 and SB49. -/
def Core.handsOver (s : Core) (slot : Nat) : Bool := (Tab.get? s.handing slot).isSome

/-- The bank is OWNED and the requester owns it or one of its ports, no hand-over of that port running. -/
def Core.owns (s : Core) (who b : Nat) : Bool :=
  decide (s.rd Obj.SB_STATE 0 b = 1)
    && ((decide (s.rd Obj.SB_OWNER 0 b = who) && !s.handsOver b)
      || (bankDual b && decide (s.rd Obj.SB_OWNER_B 0 (b - 48) = who) && !s.handsOver (b + 2)))

/-- DRAM can be reached. -/
def Core.dramUp (s : Core) : Bool := decide (s.rd0 Obj.DRAM_STATE = 2 ∨ s.rd0 Obj.DRAM_STATE = 3)

/-- A BIST group is testing the bank (R538, R539). -/
def Core.bankUnderTest (s : Core) (b : Nat) : Bool :=
  s.bist.running.any (fun r => decide ((r.group = 1 ∧ b ≤ 24) ∨ (r.group = 2 ∧ 25 ≤ b ∧ b ≤ 49)) && !(decide (s.bist.kind = 1) && r.ringUp && decide (24 ≤ b ∧ b ≤ 27)))

/-- The island of a memory view runs: SPOOL, or the DRAM channels (R522). -/
def Core.islandServes (s : Core) (v : View) : Bool :=
  let up (i : Nat) : Bool := decide (s.rd Obj.ISLAND_STATE 0 i = 2)
  match v with
  | .unmapped => true
  | .dram => up 0x44 && up 0x45
  | _ => up 0x49

/-- The island of a requester (Table 11-3, Table 20-3). -/
def requesterIsland (who : Nat) : Nat := if who = ownDma then 0x4A else if who = ownAvone then 0x48 else 0x4B

/-- The banks of `n` bytes from a plain Spool address. -/
def banksOf (a n : Nat) : List Nat := (List.range 50).filter (fun b => decide (bankOf a ≤ b ∧ b ≤ bankOf (a + n - 1)))

/-- The first bank of an access that refuses it, if the access fails for that reason. -/
def Core.refusedBank (s : Core) (who a n : Nat) : Option Nat :=
  match s.locate a with
  | (.dram, _) => none
  | (.unmapped, _) => none
  | (_, p) => (banksOf p n).find? (fun b => !s.owns who b)

/-- `n` bytes from `a` can be reached by a requester: all of one view, and granted. -/
def Core.reaches (s : Core) (who a n : Nat) : Bool :=
  let v := s.locate a
  if n = 0 then true
  else if v.1 = .unmapped ∨ (s.locate (a + n - 1)).1 ≠ v.1 then false
  else if !s.islandServes v.1 then false
  else if v.1 = .dram then s.dramUp
  else (s.refusedBank who a n).isNone && !(banksOf v.2 n).any s.bankUnderTest

/-- Words of `n` bytes from a plain address that are uncorrectable. -/
def Core.badIn (s : Core) (a n : Nat) : Bool := decide (0 < n) && s.badWords.any (fun w => decide (a / 8 ≤ w ∧ w ≤ (a + n - 1) / 8))

/-- A read meets a bus error (1) or an uncorrectable word (2). -/
def Core.readFault (s : Core) (who a n : Nat) : Nat :=
  if !s.reaches who a n then 1 else if s.badIn (s.locate a).2 n then 2 else 0

/-- A write meets a bus error (1), or an uncorrectable word it does not write whole (2): a full 64-bit write makes a word good (R298). -/
def Core.writeFault (s : Core) (who a n : Nat) : Nat :=
  if !s.reaches who a n then 1
  else
    let v := s.locate a
    if v.1 = .bitSet ∨ v.1 = .bitClear then (if s.badIn v.2 n then 2 else 0)
    else if s.badWords.any (fun w => decide (v.2 / 8 ≤ w ∧ w ≤ (v.2 + n - 1) / 8) && !decide (v.2 ≤ 8 * w ∧ 8 * w + 8 ≤ v.2 + n)) ∧ 0 < n then 2
    else 0

/-- A bus error at Spool counts in its bank and raises SPOOL_VIOL (R291); a bank under test counts nothing (R538); an island that does not run answers with an
error and raises XING of the requester's island (R522). -/
def Core.violation (s : Core) (who a n : Nat) : Core :=
  let v := s.locate a
  if !s.islandServes v.1 then s.occur (360 + requesterIsland who) 0
  else if v.1 ≠ .dram ∧ v.1 ≠ .unmapped ∧ (banksOf v.2 n).any s.bankUnderTest then s
  else match s.refusedBank who a n with
  | some b => (s.inc Obj.SB_VIOL 0 b 1).occur 1424 0
  | none => s

/-- The words `n` bytes from a plain address cover whole become good. -/
def Core.mendWords (s : Core) (a n : Nat) : Core :=
  if s.badWords.isEmpty then s else { s with badWords := s.badWords.filter (fun w => !decide (a ≤ 8 * w ∧ 8 * w + 8 ≤ a + n)) }

/-- What a byte becomes when `v` is written through a view (R299). -/
def View.merge (k : View) (old v : Byte) : Byte :=
  match k with
  | .bitSet => old ||| v
  | .bitClear => old &&& ~~~v
  | _ => v

/-- Store bytes from a device address that can be reached. -/
def Core.storeAt (s : Core) (m : List Host.Cell) (a : Nat) (l : List Byte) : List Host.Cell :=
  let v := s.locate a
  match v.1 with
  | .unmapped => m
  | .bitSet | .bitClear => Memory.write m v.2 (l.mapIdx (fun i x => v.1.merge (Memory.get m (v.2 + i)) x))
  | _ => Memory.write m v.2 l

/-- The bytes at a device address that can be reached; an alias gives the plain value. -/
def Core.loadAt (s : Core) (m : List Host.Cell) (a n : Nat) : List Byte := Memory.read m (s.locate a).2 n

/-! ### Memory errors (R298, R310) -/

/-- Insert a word in the rising list of uncorrectable ones. -/
def insertWord (w : Nat) : List Nat → List Nat
  | [] => [w]
  | v :: t => if w < v then w :: v :: t else if w = v then v :: t else v :: insertWord w t

/-- A memory error met at a device address: 1 corrected, 2 uncorrectable. Without ECC none is detected in DRAM. -/
def Core.memError (s : Core) (ecc a : Nat) : Core :=
  let v := s.locate a
  if ecc = 0 ∨ 2 < ecc then s
  else
    match v.1 with
    | .unmapped => s
    | .dram =>
      if s.dramEcc then
        let t := (s.inc Obj.DRAM_ECC_CNT 0 (ecc - 1) 1).wr0 Obj.DRAM_ERR_ADDR v.2
        let t := if ecc = 2 then { t with badWords := insertWord (v.2 / 8) t.badWords } else t
        t.occur (1428 + ecc) 0
      else s
    | _ =>
      let b := bankOf v.2
      let t := s.inc (if ecc = 1 then Obj.SB_ECC_C else Obj.SB_ECC_U) 0 b 1
      let t := if ecc = 2 then { t with badWords := insertWord (v.2 / 8) t.badWords } else t
      t.occur (1424 + ecc) 0

/-- The first of `n` device addresses whose word is uncorrectable. -/
def Core.badAddr (s : Core) (a n : Nat) : Nat := (((List.range n).map (a + ·)).find? (fun x => s.badIn (s.locate x).2 1)).getD a

/-! ### The stream's error (R272) -/

/-- The stream goes to ERROR (R272). -/
def Core.streamError (s : Core) (cause typ ssn : Nat) : Core :=
  ((s.wr0 Obj.STREAM_STATE 2).wr0 Obj.STREAM_ERR_INFO (cause + typ * 256 + ssn * 2 ^ 32)).occur 1392 0

def errFormat : Nat := 1
def errSeq : Nat := 2
def errOrder : Nat := 3
def errSpace : Nat := 4
def errMem : Nat := 5
def errBus : Nat := 6

end Sys2Proof.Machine
end

