-- ==== Sys2Proof/Machine/RingOps.lean ====
section
/-! DEFINITION. Routing on the ring (R378, R379), what a controller may originate (R376, R377), the mirror records of a pair (R406). -/

namespace Sys2Proof.Machine

open Sys2Proof

/-! ### Frames on the ring (R370) -/

/-- A frame: header of Table 14-1, payload, CRC-32. -/
def ringFrame (typ flags dst src hops seq frag : Nat) (payload : List Byte) : List Byte :=
  let b := leBytes 1 typ ++ leBytes 1 flags ++ leBytes 2 dst ++ leBytes 2 src ++ leBytes 2 hops ++ leBytes 4 seq
    ++ leBytes 2 payload.length ++ leBytes 2 frag ++ payload
  b ++ leBytes 4 (Crypto.crc32 b)

/-- On a ring or chain: RING_STATE RING or CHAIN. -/
def Core.onRing (s : Core) : Bool := decide (s.rd0 Obj.RING_STATE = 2 ∨ s.rd0 Obj.RING_STATE = 3)

/-- The next SEQ of a frame type. -/
def Core.nextRingSeq (s : Core) (typ : Nat) : Nat := (Tab.get 0 s.ringTx typ + 1) % 2 ^ 32

/-! ### Ports of the ring (R373, R375) -/

/-- TYPE of a frame. -/
def frType (b : List Byte) : Nat := leAt b 0 1
/-- DST of a frame. -/
def frDst (b : List Byte) : Nat := leAt b 2 2 % 4096

/-- The type is sent on cut-through (Table 14-2). -/
def cutThrough (typ : Nat) : Bool := decide (0x10 ≤ typ ∧ typ ≤ 0x13)

/-- The priority of a store-and-forward type, 0 first (R373): MIRROR, FOP, then JOIN, TOPO, CAL and SWEEP, then STREAM. -/
def ringPrio (typ : Nat) : Nat := if typ = 0x30 then 0 else if typ = 0x31 then 1 else if typ = 0x32 then 3 else 2

/-- The time a frame takes at a port, in 0.02 ns: blocks of 2.56 ns that hold its bytes between start and terminate, and an idle block (R368). -/
def frameTime (b : List Byte) : Nat := 128 * (ceilDiv (b.length + 2) 8 + 1)

/-- The present instant of the block's clock in 0.02 ns. -/
def Core.ringNow (s : Core) : Nat := 25 * s.clk

/-- When a ring port has sent what it is sending. -/
def Core.ringFree (s : Core) (k : Nat) : Nat := Tab.get 0 s.ring.freeAt k

/-- The start block of a frame leaves a port at an instant: type, destination and instant beside its bytes. -/
def Core.ringStart (s : Core) (k at_ : Nat) (kind : OutKind) (b : List Byte) : Core :=
  ({ s with ring := { s.ring with freeAt := Tab.set s.ring.freeAt k (at_ + frameTime b) } }).emit kind k
    [(frType b : Int), (frDst b : Int), (at_ : Int)] b

/-- The frame a port sends next of those waiting for it: the first of the highest priority (R373). -/
def nextTx (k : Nat) (q : List RingTx) : Option RingTx :=
  let l := q.filter (fun x => decide (x.port = k))
  let p := (l.map (fun x => ringPrio (frType x.bytes))).foldl min 3
  l.find? (fun x => decide (ringPrio (frType x.bytes) = p))

/-- Waiting frames whose turn has come by now have left, one after the other. -/
def Core.ringDrain (s : Core) (k : Nat) : Nat → Core
  | 0 => s
  | n + 1 =>
    match nextTx k s.ring.queue with
    | none => s
    | some x =>
      if s.ringNow < s.ringFree k then s
      else Core.ringDrain (({ s with ring := { s.ring with queue := s.ring.queue.erase x } }).ringStart k (s.ringFree k) .ringFrame x.bytes) k n

/-- The waiting frames of a port, up to now. -/
def Core.ringFlush (s : Core) (k : Nat) : Core := s.ringDrain k s.ring.queue.length

/-- A cut-through or link-local frame leaves as soon as the port is free, before what waits there (R373). -/
def Core.ringSend (s : Core) (k : Nat) (kind : OutKind) (b : List Byte) : Core :=
  let t := s.ringFlush k
  t.ringStart k (max t.ringNow (t.ringFree k)) kind b

/-- A store-and-forward frame leaves at once by a port that is free with none waiting; otherwise it waits. -/
def Core.ringStore (s : Core) (k : Nat) (b : List Byte) : Core :=
  let t := s.ringFlush k
  if (nextTx k t.ring.queue).isNone ∧ t.ringFree k ≤ t.ringNow then t.ringStart k t.ringNow .ringFrame b
  else { t with ring := { t.ring with queue := t.ring.queue ++ [⟨k, b⟩] } }

/-- Bytes waiting at a port, of its 512 KiB (R375). -/
def Core.ringHeld (s : Core) (k : Nat) : Nat := sumN ((s.ring.queue.filter (fun x => decide (x.port = k))).map (fun x => x.bytes.length))

/-- Room for `n` bytes at a port: waiting STREAM frames are discarded, the newest first, each counted and KL_FWD_DROP (R375). -/
def Core.makeRoom (s : Core) (k n : Nat) : Nat → Core
  | 0 => s
  | f + 1 =>
    if s.ringHeld k + n ≤ 524288 then s
    else match s.ring.queue.reverse.find? (fun x => decide (x.port = k ∧ frType x.bytes = 0x32)) with
      | none => s
      | some x => Core.makeRoom ((({ s with ring := { s.ring with queue := (s.ring.queue.reverse.erase x).reverse } }).inc Obj.rp_DROPS k 0 1).occur 1546 0) k n f

/-- A store-and-forward frame to be sent on by a port: it waits there where it fits, or is discarded (R375). -/
def Core.ringForward (s : Core) (k : Nat) (b : List Byte) : Core :=
  let u := s.ringFlush k
  let t := u.makeRoom k b.length u.ring.queue.length
  if t.ringHeld k + b.length ≤ 524288 then t.ringStore k b
  else (t.inc Obj.rp_DROPS k (if frType b = 0x32 then 0 else 1) 1).occur 1546 0

/-- Originate a frame on every UP ring port (BOTH); a controller in SAFE or without a NODE_ID originates none (R376, R377). -/
def Core.ringBoth (s : Core) (typ dst : Nat) (payload : List Byte) : Core :=
  let q := s.nextRingSeq typ
  if s.mode = .safe ∨ s.rejected then s
  else ({ s with ringTx := Tab.set s.ringTx typ q }).each s.upPorts (fun t k =>
    let b := ringFrame typ 3 dst (s.rd0 Obj.NODE_ID) 0 q 0 payload
    if cutThrough typ then t.ringSend k .ringFrame b else t.ringStore k b)

/-! ### Routes -/

/-- Links crossed going east from place `i` to place `j` of `n`. -/
def eastDist (n i j : Nat) : Nat := (j + n - i) % n

/-- The east arc from place `i` of `d` links crosses no broken link. -/
def arcWhole (l : List Nat) (i d : Nat) : Bool := (List.range d).all (fun k => !bit (nth 0 l ((i + k) % max 1 l.length)) 13)

/-- The ring port (0 KE, 1 KW) of a unicast to a node (R379). -/
def Core.routeTo (s : Core) (node : Nat) : Option Nat :=
  let l := s.topo
  match s.placeOf (s.rd0 Obj.NODE_ID), s.placeOf node with
  | some i, some j =>
    let e := eastDist l.length i j
    let w := eastDist l.length j i
    if s.rd0 Obj.RING_STATE = 2 then some (if e ≤ w then 0 else 1)
    else if s.rd0 Obj.RING_STATE = 3 then
      (if arcWhole l i e then some 0 else if arcWhole l j w then some 1 else none)
    else none
  | _, _ => none

/-- The controller may originate frames other than HELLO, JOIN and FOP responses (R376, R377). -/
def Core.originates (s : Core) : Bool := decide (s.mode ≠ .safe) && !s.rejected && s.running

/-- Count a frame discarded for want of a route (DROPS subindex 0x0003) on a port: KL_FWD_DROP has its own rule (R375). -/
def Core.dropFrame (s : Core) (k : Nat) : Core := s.inc Obj.rp_DROPS k 2 1

/-- Originate a unicast. Answers whether it could be routed. -/
def Core.ringTo (s : Core) (typ dst seq frag flags : Nat) (payload : List Byte) : Core :=
  match s.routeTo dst with
  | some k =>
    if s.upPorts.contains k then
      s.ringStore k (ringFrame typ flags dst (s.rd0 Obj.NODE_ID) 0 seq frag payload)
    else s.dropFrame k
  | none => s.dropFrame 0

/-- Originate a message on a unicast route in fragments of at most 512 bytes (R370, R372). -/
def Core.ringMessage (s : Core) (typ dst : Nat) (payload : List Byte) : Core :=
  let q := s.nextRingSeq typ
  let n := max 1 (ceilDiv payload.length 512)
  ({ s with ringTx := Tab.set s.ringTx typ q }).each (List.range n) (fun t i =>
    t.ringTo typ dst q (512 * i) (if i + 1 = n then 2 else 0) ((payload.drop (512 * i)).take 512))

/-- A mirror record (Table 15-1) to the partner. -/
def Core.mirror (s : Core) (rtype rflags ref : Nat) (body : List Byte) : Core :=
  if s.originates ∧ s.rd0 Obj.PARTNER ≠ 0 then
    s.ringMessage 0x30 (s.rd0 Obj.PARTNER) (leBytes 1 rtype ++ leBytes 1 rflags ++ leBytes 2 0 ++ leBytes 4 ref ++ body)
  else s

/-- A mirror record of the active member. -/
def Core.mirrorActive (s : Core) (rtype rflags ref : Nat) (body : List Byte) : Core :=
  if s.isPairActive then s.mirror rtype rflags ref body else s

/-- The oldest paced record leaves once its turn has come: MAP, DRY, THIMBLE, MEAS and SNAP records together take at most 10.00 MB/s, the 20 bytes of each frame
included: 100 ns a byte (R407). A port that waits for the acknowledgement of this THIMBLE record notes its SEQ (R410). -/
def Core.mirrorPump (s : Core) : Core :=
  match s.pair.paced with
  | [] => s
  | r :: rest =>
    if !s.isPairActive ∨ s.clk < s.pair.pacedAt then s
    else
      let t := ({ s with pair := { s.pair with paced := rest, pacedAt := s.clk + ns (100 * (28 + r.2.2.length)) } }).mirror r.1 0 r.2.1 r.2.2
      if r.1 = 7 ∧ leAt r.2.2 40 1 % 2 = 1 then
        t.updPort r.2.1 (fun x => { x with thim := { x.thim with mirrorSeq := if x.thim.mirrorWait then Tab.get 0 t.ringTx 0x30 else x.thim.mirrorSeq } })
      else t

/-- A paced record of the active member: MAP, DRY, THIMBLE, MEAS or SNAP, in the order they arise (R407; log entry 159). -/
def Core.mirrorPaced (s : Core) (rtype ref : Nat) (body : List Byte) : Core :=
  if s.isPairActive then ({ s with pair := { s.pair with paced := s.pair.paced ++ [(rtype, ref, body)] } }).mirrorPump else s

end Sys2Proof.Machine
end

