-- ==== Sys2Proof/Machine/ColumnOps.lean ====
section
/-! DEFINITION. Columns, pages, lookahead and the Comet where they raise sources: losing and settling columns (R18, R218), the end of a page (R269), LA (R276), the decision and course of a Comet (R353 to R361). -/

namespace Sys2Proof.Machine

open Sys2Proof

/-! ### COMET frames (R391) -/

/-- COMET frame payload (Table 14-5). -/
def cometPayload (sub state cid seam : Nat) (pos : Int) (time : Nat) : List Byte :=
  leBytes 1 sub ++ leBytes 1 state ++ leBytes 2 0 ++ leBytes 4 cid ++ leBytes 4 seam ++ leBytes 4 0 ++ leBytes 8 (rawOf 64 pos) ++ leBytes 8 time

/-- Send a COMET frame, when on a ring. -/
def Core.sendComet (s : Core) (sub state seam : Nat) (pos : Int) (time : Nat) : Core :=
  if s.onRing then
    s.ringBoth 0x12 (if sub = 2 ∨ sub = 4 then 4095 else s.rd0 Obj.MASTER_ID) (cometPayload sub state (if sub = 1 ∨ sub = 6 ∨ sub = 7 then 0 else s.comet.id) seam pos time)
  else s

/-! ### Lookahead (R275, R276) -/

/-- The pages with B, C and plane map worked out, started or not (R269, R590). -/
def Core.layout (s : Core) : List Page → List Page → Nat → List Page
  | _, [], _ => []
  | before, pg :: t, b =>
    if pg.started then pg :: Core.layout s (before ++ [pg]) t (pg.base + pg.cols)
    else
      let m := s.mapOf (before ++ [pg])
      let c := pageCols m pg.lines (s.wRange m)
      { pg with base := b, cols := c, map := some m } :: Core.layout s (before ++ [pg]) t (b + c)

/-- All pages laid out. -/
def Core.laidOut (s : Core) : List Page := s.layout [] s.pages s.job.nextBase

/-- Planes of the row-groups with ROLE PRINT in a map, each once. -/
def PlaneMap.planes (m : PlaneMap) : List Nat :=
  ((m.rgMap.filter (fun e => rmRole e = 1)).map rmPlane).eraseDups

/-- Columns of a page available from its first (R275). -/
def availCols (pg : Page) (m : PlaneMap) : Nat :=
  if pg.failed then 0
  else
    let ds := m.planes.map (fun pl => Tab.get 0 pg.done pl)
    if ds.all (fun d => decide (d ≥ pg.lines)) then pg.cols
    else min pg.cols (m.s * ((ds.foldl min pg.lines) / m.u))

/-- Consecutive available columns over the pages, counting `skip` columns of the first as settled; whether all are available. -/
def countAvail : List Page → Nat → Nat × Bool
  | [], _ => (0, true)
  | pg :: t, skip =>
    let a := match pg.map with | some m => availCols pg m | none => 0
    if a = pg.cols then
      let r := countAvail t 0
      (a - skip + r.1, r.2)
    else (a - skip, false)

/-- c_n as a job column: the lowest of the page in progress not settled on at least one active port; with no active port, the lowest floor of
the job's ports. -/
def Core.colNext (s : Core) : Nat :=
  match s.laidOut.head? with
  | none => s.job.nextBase
  | some pg =>
    let act := s.activePorts
    if !pg.started then pg.base
    else if act.isEmpty then max pg.base ((s.jobPorts.map (fun p => (s.port p).floor)).foldl max 0)
    else (act.map (fun p => s.firstUnsettled p 64 (max pg.base (s.port p).floor))).foldl min (pg.base + pg.cols)

/-- LA (R276). -/
def Core.lookahead (s : Core) : Nat :=
  let l := s.laidOut
  let skip := match l.head? with | some pg => s.colNext - pg.base | none => 0
  let r := countAvail l skip
  if s.job.ended ∧ r.2 then 0xFFFFFFFF else min r.1 0xFFFFFFFE

/-- The job is complete: JOB_END processed and every column available. -/
def Core.jobComplete (s : Core) : Bool := decide (s.lookahead = 0xFFFFFFFF)

/-! ### The Comet -/

/-- This controller owns the Comet: its pacing is local (R352). -/
def Core.cometOwner (s : Core) : Bool := decide (1 ≤ s.rd0 Obj.PACE_SRC ∧ s.rd0 Obj.PACE_SRC ≤ 9)

/-- Set COMET_STATE; the owner broadcasts each change (R391). -/
def Core.setComet (s : Core) (st : Nat) : Core :=
  let t := s.wr0 Obj.COMET_STATE st
  if s.cometOwner then t.sendComet 4 st 0 0 0 else t

/-- The scale K in px per axis unit (R352). -/
def Core.cometScale (s : Core) : Rat :=
  mkRat (if s.rd0 Obj.PACE_SRC = 9 then s.rdI Obj.CMD_SCALE 0 0 else s.rdI Obj.COMET_SCALE 0 0) (2 ^ 48)

/-- The paced groups: print groups with a FEED axis (PRINT WEB) or a CARRIAGE axis (PRINT SCAN) (R352). -/
def Core.pacedGroups (s : Core) (scan : Bool) : List Nat :=
  (List.range 8).filter (fun g => decide (s.rd Obj.grp_MASTER g 0 < 12)
    && (s.members g).any (fun a => decide (s.rd Obj.ax_ROLE a 0 = (if scan then 2 else 1))))

/-- The Comet axis: the MASTER of the paced group. -/
def Core.cometAxis (s : Core) : Option Nat :=
  (s.pacedGroups (decide (s.mode = .printScan))).head?.map (fun g => s.rd Obj.grp_MASTER g 0)

/-- The reach of job column `j`: the target farthest in the sense of its page's σ, over the row-groups with ROLE PRINT or SPARE on every active
port (R353). -/
def Core.reachOf (s : Core) (j : Nat) : Option (Int × Int) :=
  match s.laidOut.find? (fun pg => decide (pg.base ≤ j ∧ j < pg.base + pg.cols)) with
  | none => none
  | some pg =>
    let m := pg.own s
    let ts := s.activePorts.flatMap (fun p =>
      ((s.targets pg m p (j - pg.base)).filter (fun gx => rmRole (m.entry p gx.1) = 1 ∨ rmRole (m.entry p gx.1) = 2)).map Prod.snd)
    match ts with
    | [] => none
    | t :: r => some (pg.dir, r.foldl (fun b x => if pg.dir * x > pg.dir * b then x else b) t)

/-- The direction of a Comet: of the present page, or of the Comet axis. -/
def Core.cometSense (s : Core) : Int :=
  match s.currentPage with
  | some pg => pg.dir
  | none => match s.cometAxis with
    | some a => if s.cometScale * (s.axis a).v < 0 then -1 else 1
    | none => 1

/-- V_LIM in px/s (R361): the lowest F_set × u / s over the active ports, with u and s of the present page (R15, R590). -/
def Core.vLim (s : Core) : Nat :=
  let us : Nat × Nat := match s.currentPage with
    | some pg => ((pg.own s).u, (pg.own s).s)
    | none => (s.rd0 Obj.INTERLEAVE, s.rd0 Obj.SUBCOL)
  match s.activePorts.map (fun p => (s.port p).fValid * us.1 / max 1 us.2) with
  | [] => 0
  | v :: t => t.foldl min v

/-- COMET_STABLE columns have settled after column S + 1 of the previous Comet (R361). -/
def Core.cometStable (s : Core) : Bool := decide ((s.rd0 Obj.SEAM + 2) % 2 ^ 32 + s.rd0 Obj.COMET_STABLE ≤ s.colNext)

/-- V_RES at a decision (R361), with COMET_STEPDOWN or COMET_FLOOR where it was lowered. -/
def Core.setVRes (s : Core) : Core :=
  if !s.comet.any ∨ s.cometStable then
    s.wr0 Obj.V_RES (min (absRat (s.predictV s.ftQ)).floor.toNat s.vLim)
  else
    let old := s.rd0 Obj.V_RES
    let v := max (s.rd0 Obj.V_RES_MIN) (old * (32768 - s.rd0 Obj.COMET_STEP) / 32768)
    let t := s.wr0 Obj.V_RES v
    if old = s.rd0 Obj.V_RES_MIN then t.occur 1522 0
    else ((t.inc0 Obj.STEPDOWNS).event (some 4) 0x0040 v (s.rd0 Obj.STEPDOWNS + 1)).occur 1521 0

/-- The participants: enlisted controllers that appear in TOPO (R391). -/
def Core.cometNodes (s : Core) : List Nat :=
  ((List.range 4094).takeWhile (fun j => decide (s.rd Obj.COMET_PARTICIPANTS 0 j ≠ 0))).map (fun j => s.rd Obj.COMET_PARTICIPANTS 0 j)
    |>.filter (fun n => (s.topo.map topoNode).contains n)

/-- The participant a node counts as: the two members of a pair count as one, under the Planet's node (R404). -/
def Core.cometPart (s : Core) (n : Nat) : Nat := (Tab.get? s.ring.moons n).getD n

/-- The participants whose reply `b` (0 SEAM_DONE, 1 READY) is missing. -/
def Core.cometMissing (s : Core) (b : Nat) : List Nat := s.cometNodes.filter (fun n => !bit (Tab.get 0 s.comet.parts (s.cometPart n)) b)

/-- The last of `n` columns from `lo` whose reach lies at or before `lim` in the sense of σ, as a count from `lo`, by bisection. -/
def Core.reachCount (s : Core) (lim : Rat) (lo : Nat) : Nat → Nat → Nat → Nat
  | 0, ok, _ => ok
  | k + 1, ok, bad =>
    if bad ≤ ok + 1 then ok
    else
      let m := (ok + bad) / 2
      let fits : Bool := match s.reachOf (lo + m - 1) with
        | some (_, r) => decide (s.comet.sigma * pxOf r ≤ s.comet.sigma * lim)
        | none => true
      cond fits (Core.reachCount s lim lo k m bad) (Core.reachCount s lim lo k ok m)

/-- The highest column whose frame has begun on any port; −1 where none has. -/
def Core.begunTop (s : Core) : Int :=
  (allPorts.flatMap (fun p => ((s.port p).cols.filter (fun r => r.sent && !r.run)).map (fun r => (r.col : Int)))).foldl max (-1)

/-- Columns beyond the seam are not gated, and what was assembled or evaluated of them is discarded (R357). A seam of −1 lies before the job's first
column. -/
def Core.holdAt (s : Core) (seam : Int) : Core :=
  { s.discardAfter (if seam < 0 then none else some seam.toNat) with hold := some seam }

/-- A seam fixed at COMET_GO by a controller that had decided none (R356). -/
def Core.fixSeam (s : Core) : Core :=
  if s.hold.isSome then s
  else
    let lo := s.colNext
    let la := s.lookahead
    let top := (s.laidOut.map (fun pg => pg.base + pg.cols)).foldl max lo
    let n := if la = 0xFFFFFFFF then top - lo else la
    let lim := s.comet.xRest - s.comet.sigma * ((s.rd0 Obj.COMET_RUNOUT : Nat) : Rat)
    let seam : Int := max (((lo + s.reachCount lim lo 40 0 (n + 1) : Nat) : Int) - 1) s.begunTop
    (s.wrI Obj.SEAM 0 0 seam).holdAt seam

/-- The Comet axis begins its STOP ramp at T_r (R355): no group stop; engaged followers come to rest with it. The owner sends COMET_GO; a reach that came
after collection and lies beyond the rest position less the run-out is COMET_FAIL (R354). -/
def Core.cometRamp (s : Core) : Core :=
  match s.cometAxis with
  | none => s
  | some a =>
    let sg := s.comet.sigma
    let x := (s.predictAt s.ftQ).getD 0
    let d := s.cometScale * ((s.rd Obj.ax_STOP_DIST a 0 : Nat) : Rat)
    let rest := x + sg * absRat d
    let t := if s.stoppable a then s.startStop a else s
    let t := t.each ((s.members (s.rd Obj.ax_GROUP a 0)).filter s.follower) (fun t b => if t.stoppable b then t.setAxSt b axStopping else t)
    let t := { t with comet := { t.comet with xTr := x, xRest := rest, ramping := false } }
    let t := (((t.sendComet 2 0 0 (roundRat (rest * 2 ^ 24)) s.ftNs).setComet 2).fixSeam).when (!t.cometNodes.isEmpty)
      (fun t => t.arm .participant 0 (sec 1))
    if s.comet.late.any (fun r => decide (sg * pxOf r > sg * rest - s.rd0 Obj.COMET_RUNOUT)) then t.occur 1523 0 else t

/-- The Comet axis moves in the sense of σ. -/
def Core.cometMoving (s : Core) (a : Nat) : Bool :=
  decide (s.comet.sigma * s.cometScale * (s.axis a).v > 0)

/-- Collection ends (R354): the required point is fixed; an axis not moving in the sense of σ ramps at once. -/
def Core.cometCollectEnd (s : Core) : Core :=
  let sg := s.comet.sigma
  match s.comet.reaches with
  | [] => s
  | r :: t =>
    let far := t.foldl (fun b x => if sg * x > sg * b then x else b) r
    let req := pxOf far + sg * ((s.rd0 Obj.COMET_RUNOUT : Nat) : Rat)
    let u := (({ s with comet := { s.comet with xReq := req, ramping := true } }).disarm .cometCollect 0)
    match u.cometAxis with
    | none => u
    | some a => if u.cometMoving a then u else u.cometRamp

/-- Begin collection on the owner (R354). -/
def Core.cometCollectStart (s : Core) (sigma : Int) (reach : Int) : Core :=
  let c : Comet := { s.comet with
    id := (s.comet.id + 1) % 2 ^ 32
    sigma := sigma
    reaches := [reach]
    late := []
    ramping := false
    parts := []
    seamDone := false
    readySent := false
    guest := false }
  let t := ({ s with comet := c }).setComet 1
  if t.onRing then t.arm .cometCollect 0 (ns (t.rd0 Obj.COMET_COLLECT)) else t.cometCollectEnd

/-- The sense and the reach of a seam (R353): a free value where the spec states no target for it (no page laid out holds it, or no port is
active). -/
def Core.seamReach (s : Core) (seam : Int) : (Int × Int) × Core :=
  match (if seam < 0 then none else s.reachOf seam.toNat) with
  | some r => (r, s)
  | none => ((s.cometSense, signedOf 64 (s.drawOpen.1 % 2 ^ 64)), s.drawOpen.2)

/-- A Comet is decided (R353): seam, reach, V_RES; collection begins, or COMET_REQ goes to the owner. -/
def Core.cometDecide (s : Core) : Core :=
  let seam : Int := (s.colNext : Int) + (s.lookahead : Int) - 1
  let r := s.seamReach seam
  let sg := r.1.1
  let reach := r.1.2
  let t := ((r.2.setVRes).wrI Obj.SEAM 0 0 seam).wrI Obj.SEAM_REACH 0 0 reach
  let t := { t.holdAt seam with comet := { t.comet with any := true } }
  let t := (t.wr0 Obj.OS_RUN 0).inc0 Obj.COMETS
  let t :=
    if s.rd0 Obj.PACE_SRC = 10 then
      ({ t with comet := { t.comet with sigma := sg, guest := true, seamDone := false, readySent := false } }).sendComet 1 0 (t.rd0 Obj.SEAM) reach 0 |>.setComet 1
    else t.cometCollectStart sg reach
  t.occur 1520 0

/-- The local condition for the resume (R360): LA at RESUME_LA, or the job complete. -/
def Core.resumeReady (s : Core) : Bool := decide (s.lookahead ≥ s.rd0 Obj.RESUME_LA) || s.jobComplete

/-- In WAITING with the local condition met, a controller that does not own the Comet sends READY once (a standby owes it, R404); on the owner the second its participants have
begins (R360, R391). -/
def Core.cometReadyCheck (s : Core) : Core :=
  if !s.inPrint ∨ s.stop.isSome ∨ s.rd0 Obj.COMET_STATE ≠ 4 ∨ !s.resumeReady then s
  else if s.comet.guest then
    if s.comet.readySent then s
    else ({ s with comet := { s.comet with readySent := true } }).when (!s.isStandby) (fun t => t.sendComet 3 0 0 0 0)
  else if s.cometMissing 1 = [] ∨ s.armed .participant 1 then s
  else s.arm .participant 1 (sec 1)

/-- LA is recomputed (R276): LOOKAHEAD, JOB_COL, LA_MIN; in PRINT a fall below COMET_LA decides a Comet (R353) or raises LA_LOW (R362). In RAMP_UP an
LA below it decides a new one (Table 13-4). -/
def Core.recomputeLA (s : Core) : Core :=
  let la := s.lookahead
  let cn := s.colNext
  let t := (s.wr0 Obj.LOOKAHEAD la).wr0 Obj.JOB_COL cn
  let t := if la < t.rd0 Obj.LA_MIN ∧ t.currentPage.isSome then t.wr0 Obj.LA_MIN la else t
  let low := decide (la < t.rd0 Obj.COMET_LA)
  let u := { t with comet := { t.comet with laWasLow := low } }
  let fell := low && !t.comet.laWasLow
  if t.inPrint ∧ t.stop.isNone then
    if t.rd0 Obj.COMET_MODE = 1 then
      if (t.rd0 Obj.COMET_STATE = 0 ∧ fell) ∨ (t.rd0 Obj.COMET_STATE = 5 ∧ low) then u.cometDecide else u.cometReadyCheck
    else if fell then u.occur 1524 0
    else u
  else u

/-! ### Settling -/

/-- Commit the tentative carries and Darning counts of a column (R218). -/
def Core.commitCol (s : Core) (p : Nat) (r : Col) : Core :=
  if !r.asm ∨ r.spit.isSome then s
  else
    let t := s.updPage ((s.pageOf r.col).map Page.base |>.getD 0) (fun pg =>
      { pg with carries := r.carry.foldl (fun c nv => Tab.set c nv.1 (Tab.get 0 c nv.1 + nv.2)) pg.carries })
    let now (n : Nat) : Int := match t.pageOf r.col with | some pg => Tab.get 0 pg.carries n | none => 0
    let t := t.each r.carry.unzip.1 (fun t n =>
      let sub := n / 16
      t.wr Obj.CARRY 0 sub (putField (t.rd Obj.CARRY 0 sub) (4 * (n % 16) + 3) (4 * (n % 16)) (clampI 0 15 (now n)).toNat))
    let c (k : Nat) : Nat := nth 0 r.counts k
    let add (t : Core) (o : Ob) (k : Nat) : Core := if c k = 0 then t else t.inc o 0 p (c k)
    let t := add (add (add (add (add t Obj.DARN_PARTNER 0) Obj.DARN_NEIGHBOUR 1) Obj.DARN_CARRIED 2) Obj.DARN_RELEASE 3) Obj.DARN_LOST 4
    if 0 < c 4 then t.occur 1361 0 else t

/-- Raise the floor of a port over the columns settled on it. -/
def Core.raiseFloor (s : Core) (p : Nat) : Core :=
  s.updPort p (fun x =>
    let rec go : Nat → Nat → Nat
      | 0, j => j
      | k + 1, j =>
        if s.isDropped j then go k (j + 1)
        else match x.colAt j with
          | some r => if r.settled then go k (j + 1) else j
          | none => j
    { x with floor := go 64 x.floor })

/-! ### Row-groups and plane segments (R196, R200) -/

/-- A row-group as a column sees it: port, number, entry of the plane map, present primitives, W′ and φ′ (Table 8-3). -/
structure RowGroup where
  port : Nat
  rg : Nat
  entry : Nat
  prims : List Nat
  w : Int
  phi : Int
  deriving DecidableEq, Repr

/-- A row-group under a page's plane map and direction. -/
def Core.rowGroup (s : Core) (pg : Page) (m : PlaneMap) (wr : Int × Int) (p g : Nat) : RowGroup :=
  let o := s.rdI Obj.RG_OFFSET g p
  let w := wholeSteps o m.u
  let ph := phaseOf o m.u
  ⟨p, g, m.entry p g, s.rgPrims p g, if pg.dir = 1 then w - wr.1 else wr.2 - w, if pg.dir = 1 then ph else (m.u : Int) - 1 - ph⟩

/-- Nozzles of a row-group. -/
def RowGroup.size (r : RowGroup) : Nat := 16 * r.prims.length

/-- Append a run to runs sorted by plane and first position (the last one first), joining it to the run it touches. -/
def joinRun (l : List (Nat × Nat × Nat)) (r : Nat × Nat × Nat) : List (Nat × Nat × Nat) :=
  match l with
  | e :: t => if e.1 = r.1 ∧ r.2.1 ≤ e.2.2 then (e.1, e.2.1, max e.2.2 r.2.2) :: t else r :: e :: t
  | [] => [r]

/-- Insert a run by plane, then first position. -/
def insertRun (r : Nat × Nat × Nat) : List (Nat × Nat × Nat) → List (Nat × Nat × Nat)
  | [] => [r]
  | e :: t => if r.1 < e.1 ∨ (r.1 = e.1 ∧ r.2.1 ≤ e.2.1) then r :: e :: t else e :: insertRun r t

/-- The plane segments of a page (R196): maximal runs of positions of one plane that row-groups with ROLE PRINT address: plane, first, past last. -/
def Core.segments (s : Core) (pg : Page) (m : PlaneMap) : List (Nat × Nat × Nat) :=
  let runs := (List.range 256).filterMap (fun i =>
    let e := m.entry (i / 4) (i % 4)
    let n := 16 * (s.rgPrims (i / 4) (i % 4)).length
    let lo : Int := (rmXFirst e : Int) + pg.xshift - (if rmXDir e then (n : Int) - 1 else 0)
    let a := clampI 0 16777216 lo
    let b := clampI 0 16777216 (lo + n)
    if rmRole e = 1 ∧ a < b then some (rmPlane e, a.toNat, b.toNat) else none)
  ((runs.foldl (fun l r => insertRun r l) []).foldl joinRun []).reverse

/-- LINE_SEG of a segment: its bytes from the multiple of 4 at or below its lowest position (R246). -/
def lineSeg (g : Nat × Nat × Nat) : Nat := ceilDiv (g.2.2 - g.2.1 / 4 * 4) 4

/-- Columns of a page settled on a port: below its floor, or on a port that is away below the columns still to come on the others. -/
def Core.settledCols (s : Core) (pg : Page) (p : Nat) : Nat := (if s.activePort p then (s.port p).floor else s.colNext) - pg.base

/-- Lines of a plane segment released (R249): lines below this firing-order index are needed by no column still to settle, on any port that needs them. -/
def Core.releasedLines (s : Core) (pg : Page) (g : Nat × Nat × Nat) : Nat :=
  let m := pg.own s
  let wr := s.wRange m
  let l := (List.range 256).filterMap (fun i =>
    let e := m.entry (i / 4) (i % 4)
    let r := s.rowGroup pg m wr (i / 4) (i % 4)
    let lo : Int := (rmXFirst e : Int) + pg.xshift - (if rmXDir e then (r.size : Int) - 1 else 0)
    if (rmRole e = 1 ∨ rmRole e = 2) ∧ rmPlane e = g.1 ∧ (g.2.1 : Int) < lo + r.size ∧ lo < g.2.2 then
      some ((m.u : Int) * (((s.settledCols pg r.port / max 1 m.s : Nat) : Int) - r.w)).toNat
    else none)
  l.foldl min pg.lines

/-- The segments of a page in which a block has pixels. -/
def Core.segmentsOf (s : Core) (pg : Page) (b : Block) : List (Nat × Nat × Nat) :=
  (s.segments pg (pg.own s)).filter (fun g => decide (g.1 = b.plane ∧ b.pos < g.2.2 ∧ g.2.1 < b.pos + b.poss))

/-- The firing-order range of a block's lines: first and one past last (R204, R268). -/
def blockRange (pg : Page) (b : Block) : Nat × Nat :=
  if pg.dir = 1 then (b.line, b.line + b.lines) else (pg.lines - (b.line + b.lines), pg.lines - b.line)

/-- Pop released entries from the front of the staging ring (R274). -/
def popStage : List (Nat × Nat × Bool) → List (Nat × Nat × Bool)
  | [] => []
  | (a, b, f) :: t => if f then popStage t else (a, b, f) :: t

/-- Release staged blocks by SSN. -/
def Core.releaseBlocks (s : Core) (ssns : List Nat) : Core :=
  if ssns.isEmpty then s
  else
    let st := popStage (s.stage.map (fun e => if ssns.contains e.1 then (e.1, e.2.1, true) else e))
    ({ s with stage := st }).putFree

/-- In WEB a block's space is released when every line it covers has been released from the window (R274); decoded levels go with it. -/
def Core.releaseLines (s : Core) : Core :=
  match s.currentPage with
  | none => s
  | some pg =>
    let gone := pg.blocks.filter (fun b => !b.freed && !b.busy
      && (let gs := s.segmentsOf pg b; !gs.isEmpty && gs.all (fun g => decide ((blockRange pg b).2 ≤ s.releasedLines pg g))))
    if gone.isEmpty then s
    else
      let t := s.updPage pg.base (fun q => { q with blocks := q.blocks.map (fun b =>
        if gone.any (fun g => decide (g.ssn = b.ssn)) then { b with freed := true, levels := [] } else b) })
      if s.mode = .printScan then t else t.releaseBlocks (gone.map Block.ssn)

/-- The page in progress ends when its last column has settled on every active port (R269): its blocks are released (in SCAN at the final
pass), a MEASURE past its columns acts, and the next page is in progress. -/
def Core.pageEnds (s : Core) : Bool :=
  match s.currentPage with
  | none => false
  | some pg =>
    let act := s.activePorts
    !act.isEmpty && pg.started && act.all (fun p => decide (s.firstUnsettled p 64 (max pg.base (s.port p).floor) ≥ pg.base + pg.cols))

/-- The page objects show the page in progress (Table 8-7). -/
def Core.showPage (s : Core) : Core :=
  match s.currentPage with
  | none => s
  | some pg =>
    (((((s.wr0 Obj.PAGE_LINES pg.lines).wr0 Obj.PAGE_COLS pg.cols).wrI Obj.PAGE_DIR 0 0 pg.dir).wr0 Obj.PAGE_PASS pg.pass).wrI Obj.PAGE_XSHIFT 0 0
      pg.xshift).wr0 Obj.PAGE_MASK pg.mask

/-- The count, the source and the spoiled page of one column lost on a port (R18). -/
def Core.countLost (s : Core) (p j : Nat) : Core := ((s.inc Obj.port_COL_LOST p 0 1).spoil j).occur 705 0

/-- Columns `a` to `b - 1` of a port that is not driven are lost on it, those already lost, settled with a record, or dropped apart (R591, R416). -/
def Core.loseGap (s : Core) (p a b : Nat) : Core :=
  s.each ((List.range (b - a)).map (a + ·)) (fun t j =>
    if t.isDropped j ∨ ((t.port p).colAt j).any (fun r => r.lost || r.settled) then t else t.countLost p j)

/-- Columns of a job's port that is away are lost on it up to column `j`, once each: its floor is the first of them (R591). -/
def Core.awayLost (s : Core) (p j : Nat) : Core :=
  let a := (s.port p).floor
  if (s.port p).away ∧ a ≤ j then ((s.loseGap p a (j + 1)).updPort p (fun x => { x with floor := j + 1 })) else s

/-- End the page in progress. A page whose PAGE_END has not been processed stays with the stream (R267, R268). -/
def Core.endPage (s : Core) : Core :=
  match s.currentPage with
  | none => s
  | some pg =>
    let s := (s.each (s.jobPorts.filter (fun p => (s.port p).away)) (fun t p => t.awayLost p (pg.base + pg.cols - 1))).abortWindow (some pg.base)
    let mine := decide (s.stream.place = 2) && (match s.stream.last with | some (no, ps, _) => decide (no = pg.no ∧ ps = pg.pass) | none => false)
    let t := { s with pages := s.pages.filter (fun q => !(q.started && decide (q.base = pg.base)))
                      stream := if mine then { s.stream with ended := some pg } else s.stream
                      job := { s.job with nextBase := if s.pages.any (fun q => q.started && decide (q.base ≠ pg.base)) then s.job.nextBase else pg.base + pg.cols } }
    let t := t.mapPorts (fun x => { x with floor := max x.floor (pg.base + pg.cols) })
    let t := ({ t with measDue := t.measDue ++ pg.measures.filter (fun (x : Measure) => decide (pg.cols ≤ x.atCol)) }).wr0 Obj.LA_MIN 0xFFFFFFFF
    let t := t.showPage
    if s.mode = .printScan ∧ !pg.final then t else t.releaseBlocks (pg.blocks.map Block.ssn)

/-- The job's last column has settled on every active port. -/
def Core.jobSettled (s : Core) : Bool := s.pages.isEmpty

/-- The nozzles of a column on a port whose fired state differs from its carry-free assembly (R406). -/
def Col.deltas (r : Col) (p : Nat) : List Nat :=
  ((List.range 1024).filter (fun a => !decide (bit (nth 0 r.free (a / 16)) (a % 16) = decide (Tab.get 0 r.idx (1024 * p + a) ≠ 0)))).map (1024 * p + ·)

/-- The COLUMN records of job column `j`: at most 242 deltas each, MORE on all but the last. -/
def Core.mirrorCol (s : Core) (j : Nat) : Core :=
  let rs := (allPorts.filter s.sharedPort).filterMap (fun p => ((s.port p).colAt j).map (fun r => (p, r)))
  let fired := rs.filter (fun (e : Nat × Col) => e.2.sent && !e.2.lost)
  let lost := rs.filter (fun (e : Nat × Col) => e.2.lost || e.2.dropped)
  let ds := fired.flatMap (fun (e : Nat × Col) => e.2.deltas e.1)
  let n := max 1 (ceilDiv ds.length 242)
  s.each (List.range n) (fun t i =>
    let part := (ds.drop (242 * i)).take 242
    t.mirror 1 (b2n (decide (i + 1 < n))) j (leBytes 8 (maskOf (fired.map Prod.fst)) ++ leBytes 8 (maskOf (lost.map Prod.fst)) ++ leBytes 2 part.length
      ++ leBytes 2 0 ++ part.flatMap (leBytes 2)))

/-- Report every further column that has settled on every shared port (Table 15-1). -/
def Core.mirrorCols (s : Core) : Core :=
  let top := (s.startedPages.map (fun pg => pg.base + pg.cols)).foldl max 0
  let rec go : Nat → Core → Core
    | 0, t => t
    | k + 1, t =>
      let j := t.pair.nextCol
      if j < top ∧ (allPorts.filter t.sharedPort).all (fun p => t.settledOn p j) then
        go k ({ t.mirrorCol j with pair := { t.pair with nextCol := j + 1 } })
      else t
  if s.isPairActive then go 64 s else s

/-- JOB_END has been processed and the job's last column has settled on every active port: END_ACTION decides (R483). -/
def Core.jobEnds (t : Core) : Core :=
  if t.job.active ∧ t.job.ended ∧ t.jobSettled ∧ !t.job.settled then
    let u := { t with job := { t.job with settled := true } }
    if u.inPrint ∧ u.rd0 Obj.END_ACTION = 0 then u.orderlyStop 65535 else u
  else t

/-- What follows each column that settles: floors, slot release, the page end, the lookahead, the job end with END_ACTION (R249, R269, R276,
R483). -/
def Core.afterSettle (s : Core) (p : Nat) : Core :=
  let t := (s.mirrorCols.raiseFloor p).releaseLines
  let t := if t.pageEnds then t.endPage else t
  t.recomputeLA.jobEnds

/-- A column is lost on one port (R18): counted, COL_LOST, its page spoiled, its carries committed; it settles. A column already sent was
settled by its frame, and now counts as not fired. -/
def Core.loseCol (s : Core) (p j : Nat) : Core :=
  let r := s.colOf p j
  if r.lost ∨ r.dropped then s
  else
    let was := r.settled
    let t := if was then s else s.commitCol p r
    let t := (t.setCol p { r with lost := true, settled := true, units := 0, unitsDone := 0, e5 := [], idx := if was then r.idx else [] })
    let t := (t.dropLandings (fun q k => decide (q = p) && decide (k = j))).countLost p j
    if was then t else t.afterSettle p

/-- The frame of a column begins: the column settles (R218). -/
def Core.settleSent (s : Core) (p : Nat) (r : Col) : Core :=
  ((s.commitCol p r).setCol p { r with settled := true, sent := true }).afterSettle p

/-- The decisions of R82 that are still needed: the newest, and every drop of the page in progress. -/
def Core.keepDecided (s : Core) (j : Nat) : List (Nat × Bool) :=
  let b := match s.currentPage with | some pg => pg.base | none => j
  s.decided.filter (fun d => decide (d.1 ≠ j) && (decide (d.1 + 64 > j) || (d.2 && decide (b ≤ d.1))))

/-- Record a drop of column `j` on every port (R82, R83): its record settles where it is not settled or lost already. Its changes of carries are committed as
changes, so that an earlier column still unsettled on a port commits its own later (R218). The drop is one occurrence of COL_LOST (log entry 155). -/
def Core.dropCol (s : Core) (j : Nat) : Core :=
  let t := { s with decided := (j, true) :: s.keepDecided j }
  let t := t.each s.activePorts (fun t p =>
    match (t.port p).colAt j with
    | some r => if r.settled ∨ r.lost then t else (t.commitCol p r).setCol p { r with dropped := true, settled := true, e5 := [], idx := [] }
    | none => t)
  let t := (t.voidLanes (fun _ k => decide (k = j))).dropLandings (fun _ k => decide (k = j))
  let c := match s.pageOf j with | some pg => j - pg.base | none => j
  let t := (((t.inc0 Obj.OS_DROPPED).wr0 Obj.OS_LAST c).spoil j).occur 704 0
  let t := t.occur 705 0
  t.each s.activePorts (fun t p => t.afterSettle p)

/-- A port stops being active (R591): a column whose frame has not begun is lost on it; the rest settle at once for every count. In a job the columns after
them are lost as they come (`awayLost`), until the port returns. -/
def Core.portInactive (s : Core) (p : Nat) : Core :=
  let unsent := ((s.port p).cols.filter (fun r => !r.sent && !r.settled)).map Col.col
  let t := s.each unsent (fun t j => t.loseCol p j)
  let top := match ((t.port p).cols.filter (fun r => !r.run)).getLast? with | some r => r.col + 1 | none => 0
  let t := t.updPort p (fun x => { x with
    away := x.away || (s.inPrint && s.job.active && s.jobPort p)
    floor := if s.inPrint && s.job.active && s.jobPort p then max x.floor top else x.floor })
  t.afterSettle p

/-- Columns the port held that can no longer fire are lost on it (Table 5-13). -/
def Core.loseHeld (s : Core) (p : Nat) (which : Col → Bool) : Core :=
  let held := ((s.port p).cols.filter (fun r => r.sent && !r.acked && !r.lost && which r)).map Col.col
  s.each held (fun t j => t.loseCol p j)

/-- A port becomes active again from the first column whose gate falls after its return; those before are lost on it (R591). -/
def Core.portReturns (s : Core) (p : Nat) : Core :=
  match s.currentPage with
  | none => s
  | some pg =>
    let from_ := max pg.base (s.port p).floor
    let rec go : Nat → Nat → Nat
      | 0, j => j
      | k + 1, j => match s.gateAt p j with
        | some g => if g ≤ (s.ftQ : Int) then go k (j + 1) else j
        | none => j
    let j := go 4096 from_
    (s.loseGap p from_ j).updPort p (fun x => { x with floor := j, runBase := j, gateNext := j, away := false })

/-! ### The medium advance in PRINT SCAN (R482) -/

/-- A FEED axis is MOVING, HOMING or STOPPING. -/
def Core.feedMoving (s : Core) : Bool :=
  (List.range 12).any (fun a => decide (s.rd Obj.ax_ROLE a 0 = 1) && decide (axMoving ≤ s.axSt a ∧ s.axSt a ≤ axStopping))

/-- A pass stands between the gate of its column 0 and the settling of its column C - 1 on every active port. -/
def Core.passFiring (s : Core) : Bool :=
  s.pages.any (fun pg => s.activePorts.any (fun p => decide (pg.base < (s.port p).gateNext))
    && !s.activePorts.all (fun p => s.settledOn p (pg.base + pg.cols - 1)))

end Sys2Proof.Machine
end

