-- ==== Sys2Proof/Machine/ThreadOps.lean ====
section
/-! DEFINITION. What goes out on a head link: TIME and column frames (R124 to R131); the pulse rules and their validation (R67 to R77, R113). -/

namespace Sys2Proof.Machine

open Sys2Proof

/-! ### Time on the link -/

/-- The next downstream symbol boundary: a whole multiple of 8 ns of FT, in 2^-16 ns (R122). ABORT begins there (R146). -/
def Core.symbolAt (s : Core) : Nat := ceilDiv s.ftQ 524288 * 524288

/-- TICK and TICK_FRAC of an instant in 2^-16 ns, as one Q40.8 number. -/
def tickQ8 (t : Int) : Nat := (roundDiv (t * 256) 163840).toNat

/-- A TIME frame (Table 5-5). -/
def timeFrame (flags q8 : Nat) : List Byte :=
  let b := leBytes 1 3 ++ leBytes 1 flags ++ leBytes 2 0 ++ leBytes 5 (q8 / 256) ++ leBytes 1 (q8 % 256) ++ leBytes 2 0
  b ++ leBytes 4 (Crypto.crc32 b)

/-- The first symbol boundary at which a frame may begin on a port's lane: the frame before it and one idle pair have ended (R124). -/
def Core.laneAt (s : Core) (p : Nat) : Nat := ceilDiv (max s.ftQ (s.port p).laneFree) 524288 * 524288

/-- The span of `n` symbols, in 2^-16 ns. -/
def symbols (n : Nat) : Nat := n * 524288

/-- Put a frame on the lane at `laneAt`: its bytes and the code groups they are sent as (R121, R124). The arguments are its departure and `more`. -/
def Core.laneFrame (s : Core) (p : Nat) (k : OutKind) (more : List Int) (bytes : List Byte) : Core :=
  let dep := s.laneAt p
  let g := frameGroups (s.port p).txPlus bytes
  ((s.emit .codeGroups p g.1 []).emit k p ((dep : Int) :: more) bytes).updPort p
    (fun x => { x with laneFree := dep + symbols (bytes.length + 2), txPlus := g.2 })

/-- Column `j` lies at or before the stop's seam and the Comet's (R21, R357). -/
def Core.belowSeam (s : Core) (j : Nat) : Bool :=
  (match s.hold with | some h => decide ((j : Int) ≤ h) | none => true)
    && (match s.stop with | some x => (match x.seam with | some k => decide (j ≤ k) | none => false) | none => true)

/-- The next column of a port to be gated: dropped columns are passed over. -/
def Core.gateCol (s : Core) (p : Nat) : Nat :=
  let rec go : Nat → Nat → Nat
    | 0, j => j
    | k + 1, j => if s.isDropped j then go k (j + 1) else j
  go 64 (max (s.port p).gateNext (s.port p).floor)

/-- The earliest instant at which the port's next column frame may begin under R80 and R136, if one is to come: now, while one awaits its answer or has passed
its gate, otherwise the next gate. -/
def Core.nextBegin (s : Core) (p : Nat) : Option Int :=
  if s.link p ≠ lkReady then none
  else if s.armed .ackWait p ∨ (s.port p).cols.any (fun r => r.gated && !r.settled && !r.sent) then some s.ftQ
  else
    let j := s.gateCol p
    if s.belowSeam j then s.gateAt p j else none

/-- In PRINT a sideband or TIME frame of `n` bytes may begin now only if it and one idle pair end before the next column frame may begin (R144). -/
def Core.laneRoom (s : Core) (p n : Nat) : Bool :=
  !s.inPrint || (match s.nextBegin p with | some t => decide (((s.laneAt p + symbols (n + 2) : Nat) : Int) ≤ t) | none => true)

/-- Send a TIME frame: with ECHO, D is taken as 0 (R127); TIME_PERIOD runs anew. Where R144 bars it now it waits (`lanePump`). -/
def Core.sendTime (s : Core) (p : Nat) (echo realign : Bool) : Core :=
  if s.laneRoom p 16 then
    let d := if echo then 0 else s.linkDelay p
    let t := s.laneFrame p .timeFrame [] (timeFrame (b2n echo + 2 * b2n realign) (tickQ8 (s.laneAt p + d)))
    (t.updPort p (fun x => { x with timeHeld := 0 })).arm .timePeriod p (us (s.rd Obj.port_TIME_PERIOD p 0))
  else s.updPort p (fun x => { x with timeHeld := max x.timeHeld (if realign then 2 else 1) })

/-- Ports whose die has been set to FT: ENUM, READY or STANDBY, and ALIGN or RETRAIN once the final REALIGN TIME has left (R127, R128). -/
def Core.alignedPorts (s : Core) : List Nat :=
  allPorts.filter (fun p => decide (s.link p = lkEnum ∨ s.link p = lkReady ∨ s.link p = lkStandby)
    || (decide (s.link p = lkAlign ∨ s.link p = lkRetrain) && (s.port p).finalTime))

/-! ### Pulses (R72, R73) -/

/-- P1, Td and P2 of a pulse word (Table 3-5). -/
def pulseFields (w : Nat) : Nat × Nat × Nat := (field w 9 0, field w 25 16, field w 41 32)

/-- Steps 1 to 3 of R73: fields and the adjustments P1_REMOVED, MERGED, P2_RAISED as bits 0 to 2. -/
def pulseFloor (p1 td p2 : Nat) : (Nat × Nat × Nat) × Nat :=
  let a := if 0 < p1 ∧ p1 < 8 then ((0, 0, p2 + p1), 1) else (if p1 = 0 then ((0, 0, p2), 0) else ((p1, td, p2), 0))
  let b := if 0 < a.1.1 ∧ a.1.2.1 < 16 then ((0, 0, a.1.1 + a.1.2.2), a.2 + 2) else a
  if b.1.2.2 < 40 then ((b.1.1, b.1.2.1, 40), b.2 + 4) else b

/-- The effective entry and its adjustments (R73). -/
def pulseEff (w nspan : Nat) : (Nat × Nat × Nat) × Nat :=
  let f := pulseFields w
  let a := pulseFloor f.1 f.2.1 f.2.2
  let p1 := a.1.1
  let td := a.1.2.1
  let p2 := a.1.2.2
  let tot := p1 + td + p2
  let td4 := if nspan < tot ∧ 0 < p1 then max 16 (td - (tot - nspan)) else td
  let adj4 := if td4 = td then a.2 else a.2 + 8
  let b := if nspan < p1 + td4 + p2 ∧ 0 < p1 then ((0, 0, p1 + p2), adj4 + 16) else ((p1, td4, p2), adj4)
  if nspan < b.1.2.2 then ((b.1.1, b.1.2.1, nspan), b.2 + 32) else b

/-- A PULSE_EFF word (Table 3-5). -/
def pulseWord (e : (Nat × Nat × Nat) × Nat) : Nat := e.1.1 + e.1.2.1 * 2 ^ 16 + e.1.2.2 * 2 ^ 32 + e.2 * 2 ^ 48

/-- S of a loaded entry (R72). -/
def pulseSum (w : Nat) : Nat :=
  let f := pulseFields w
  let a := (pulseFloor f.1 f.2.1 f.2.2).1
  a.1 + a.2.2

/-- A list never decreases. -/
def rising : List Nat → Bool
  | [] => true
  | [_] => true
  | a :: b :: t => decide (a ≤ b) && rising (b :: t)

/-- A table passes R72. -/
def tableOk (l : List Nat) : Bool :=
  l.all (fun w => let f := pulseFields w; decide (f.1 ≤ 160 ∧ f.2.1 ≤ 400 ∧ f.2.2 ≤ 640)) && rising (l.map pulseSum)

/-- PULSE_LOAD of a port as a list of 63 words. -/
def Core.pulseLoad (s : Core) (p : Nat) : List Nat := (List.range 63).map (fun j => s.rd Obj.port_PULSE_LOAD p j)

/-! ### Slot timing (R13, R69) -/

/-- N_slot of a setting. -/
def nSlot (f : Nat) : Nat := 25000000 / f

/-- N_budget of a setting. -/
def nBudget (f : Nat) : Nat := min (nSlot f - 16) 800

/-- N_span of a setting with G phase groups. -/
def nSpan (f g : Nat) : Nat := min (nBudget f) (nSlot f / g - 16)

/-! ### Validation (R74, R77, R113) -/

/-- The entry energies of a set of effective entries (R113): (P1 + P2) × EPT. -/
def energiesOf (ept : Nat) (l : List ((Nat × Nat × Nat) × Nat)) : List Nat := l.map (fun e => (e.1.1 + e.1.2.2) * ept)

/-- A port's table is loaded in an enumerated die. -/
def Core.hasTable (s : Core) (p : Nat) : Bool := !(s.port p).loaded.isEmpty && (s.port p).enumerated

/-- Start a validation of a port (R77): within one period of the setting last validated. `rate`: an F_SET or PHASE_GROUPS write started it, and RATE_PENDING
reads 1 until it completes (Table 3-4). One still running is superseded. -/
def Core.startValidation (s : Core) (p : Nat) (halfNs : Nat) (rate : Bool) : Core :=
  if s.hasTable p then
    let r := (s.port p).rateVal || rate
    ((s.updPort p (fun x => { x with validating := true, rateVal := r })).wr Obj.port_RATE_PENDING p 0 (b2n r)).arm .validation p halfNs
  else s

/-- 1 / F_set of the setting last validated, in half ns. -/
def Core.oldPeriod (s : Core) (p : Nat) : Nat := 2000000000 / max 1 (s.port p).fValid

/-- The gates of a port fix the setting last validated from now on (R77): its validation, and the CONFIG that carries its phase groups, have both completed. -/
def Core.putInForce (s : Core) (p : Nat) : Core :=
  if (s.port p).validating ∨ (s.port p).gWant ≠ (s.port p).gDie then s
  else s.updPort p (fun x => { x with fSlot := s.rd Obj.port_N_SLOT p 0, fSpan := s.rd Obj.port_N_SPAN p 0, fGen := x.gen, fGenE := x.genE })

/-- A validation completes: effective entries, adjustment counts, N_SLOT, N_BUDGET, N_SPAN and a new generation; PULSE_ADJ once if any entry
was adjusted, whatever started the validation (log entry 158); the write reads DONE. -/
def Core.validated (s : Core) (p : Nat) : Core :=
  let f := s.rd Obj.port_F_SET p 0
  let g := (s.port p).gWant
  let es := (s.port p).loaded.map (fun w => pulseEff w (nSpan f g))
  let t := (s.updPort p (fun x => { x with validating := false, rateVal := false, fValid := f, gen := x.gen + 1,
                                           genE := energiesOf (s.rd Obj.EPT 0 p) es })).disarm .validation p
  let t := ((t.wr Obj.port_N_SLOT p 0 (nSlot f)).wr Obj.port_N_BUDGET p 0 (nBudget f)).wr Obj.port_N_SPAN p 0 (nSpan f g)
  let t := (t.wr Obj.port_RATE_PENDING p 0 0).wrRun Obj.port_PULSE_EFF p 0 (es.map pulseWord)
  let t := t.each (List.range 6) (fun t k =>
    let n := (es.filter (fun e => bit e.2 k)).length
    if n = 0 then t else t.inc Obj.port_PULSE_ADJ p k n)
  let t := (t.endComp Obj.port_F_SET p 0 true).putInForce p
  let t := if (s.port p).cfgWait then t else t.endComp Obj.port_PHASE_GROUPS p 0 true
  if es.any (fun e => decide (e.2 ≠ 0)) then t.occur (640 + p) 0 else t

/-! ### The column frame (Table 5-3) -/

/-- The 96-bit index field of a primitive: the index of slot k at bits [6k + 5:6k]. `rot` is the address rotation. -/
def indexField (idx : Tab Nat) (base : Nat) : Nat → List Nat → Nat
  | _, [] => 0
  | k, a :: t => Tab.get 0 idx (base + a) * 64 ^ k + indexField idx base (k + 1) t

/-- ROTATION of a port. -/
def Core.rotation (s : Core) (p : Nat) : List Nat := (List.range 16).map (fun k => s.rd Obj.port_ROTATION p k)

/-- The rotation the port's die holds: that of its last committed CONFIG (R143). -/
def Core.rot (s : Core) (p : Nat) : List Nat := if (s.port p).rotDie.isEmpty then s.rotation p else (s.port p).rotDie

/-- The bytes of a column frame. -/
def Core.columnFrame (s : Core) (p : Nat) (r : Col) : List Byte :=
  let rot := s.rot p
  let head := leBytes 1 1 ++ leBytes 1 (b2n r.spit.isSome + 16 * s.rgMask p) ++ leBytes 4 r.col ++ leBytes 2 r.nslot ++ leBytes 2 r.nspan
    ++ leBytes 1 (s.rd Obj.port_CFG_ID p 0) ++ leBytes 1 r.attempt
  let starts := (List.range 4).flatMap (fun g => leBytes 5 (nth 0 r.ticks g % 2 ^ 40))
  let index := (List.range 64).flatMap (fun q => leBytes 12 (indexField r.idx (1024 * p + 16 * q) 0 rot))
  let b := head ++ starts ++ index
  b ++ leBytes 4 (Crypto.crc32 b)

/-- Put a column frame on the lane: it leaves at the next symbol boundary and ends 6,432 ns later; an answer is due 2,000 ns after that (R136). -/
def Core.sendColumn (s : Core) (p : Nat) (r : Col) : Core :=
  let dep := s.laneAt p
  let wait := (dep - s.ftQ) / 32768 + 2 * 6432 + 2 * 2000
  let t := (s.laneFrame p .columnFrame [(r.col : Int)] (s.columnFrame p r)).arm .ackWait p wait
  t.setCol p { r with sentEnd := dep + 6432 * 65536 }

end Sys2Proof.Machine
end

