-- ==== Sys2Proof/Machine/Bobbin.lean ====
section
/-! DEFINITION. Bobbin (ch. 4): the energy chain, history, scheduling of units, re-mapping, the thermal model. -/

namespace Sys2Proof.Machine

open Sys2Proof

/-! ### The energy chain (R98 to R100) -/

/-- M(x, f) (R98). -/
def scaleE (x f : Nat) : Nat := min ((x * f + 8192) / 16384) 0xFFFFFFFF

/-- K_therm before its clamps: 1.0 + THERM_COEF × ΔT rounded to Q2.14 (R100), 0 where the sum is negative. -/
def kTherm (coef dT kMin kMax : Int) : Nat :=
  let s := coef * dT + 8388608
  let v := (s + 256) / 512
  (if s < 0 then kMin else clampI kMin kMax v).toNat

/-- The index for E5 under the energies of a generation, with whether it lay below e_1 or above e_63 (R114). -/
def mapEnergy (es : List Nat) (e5 : Nat) : Nat × Bool × Bool :=
  let rec go : Nat → Nat → List Nat → Nat × Bool × Bool
    | _, _, [] => (63, false, true)
    | j, lo, e :: t =>
      if e5 ≤ e then
        if j = 1 then (1, decide (e5 < e), false)
        else ((if e5 - lo < e - e5 then j - 1 else j), false, false)
      else go (j + 1) e t
  let r := go 1 0 es
  -- where entries are equal the lowest index of the run is chosen
  let v := nth 0 es (r.1 - 1)
  if r.2.2 then r else (((es.findIdx (fun e => decide (e = v))) + 1), r.2.1, r.2.2)

/-- A value of a Bobbin table as column `r` uses it: the one in force when its first unit started (R106). -/
def Core.bob (s : Core) (r : Col) (o : Ob) (i j : Nat) : Nat := (Tab.get? r.old (o.key i j)).getD (s.rd o i j)

/-- The eight newest columns whose drops the history of column `j` covers, newest first: evaluated, not lost, not dropped, from column `lo` on, where the
history last restarted (R102, R105). -/
def historyCols (x : Port) (j lo : Nat) : List Col :=
  ((x.cols.filter (fun r => decide (lo ≤ r.col ∧ r.col < j) && !r.lost && !r.dropped && (decide (r.unitsDone ≠ 0) || r.sent))).reverse).take 8

/-- A nozzle was issued an index of 1 to 63 in a column. -/
def Col.fired (r : Col) (n : Nat) : Bool := decide (Tab.get 0 r.idx n ≠ 0)

/-- h(n, c) (R102). -/
def histBits (l : List Col) (n : Nat) : Nat :=
  let rec go : Nat → List Col → Nat
    | _, [] => 0
    | i, r :: t => b2n (r.fired n) * 2 ^ i + go (i + 1) t
  go 0 l

/-- nb(n, c) (R103): the address neighbours in the last fired column, inside the row-group and among present primitives. -/
def Core.nbrCode (s : Core) (p : Nat) (l : List Col) (n : Nat) : Nat :=
  match l with
  | [] => 0
  | r :: _ =>
    let g := s.rgOf p (n % 1024 / 16)
    let f (m : Nat) : Bool :=
      decide (m / 1024 = p) && s.primPresent p (m % 1024 / 16) && decide (s.rgOf p (m % 1024 / 16) = g) && r.fired m
    2 * b2n (f (n + 1)) + b2n (decide (0 < n) && f (n - 1))

/-- E5 of a nozzle (R99). -/
def Core.energyOf (s : Core) (p : Nat) (r : Col) (l : List Col) (kt n : Nat) : Nat :=
  let g := s.rgOf p (n % 1024 / 16)
  let e0 := scaleE (s.bob r Obj.E_DIE 0 p) (s.bob r Obj.K_ROW g p)
  let e1 := scaleE e0 (s.bob r Obj.K_CAL 0 n)
  let e2 := scaleE e1 (s.bob r Obj.HIST p (histBits l n))
  let e3 := scaleE e2 (s.bob r Obj.NBR p (s.nbrCode p l n))
  let e4 := scaleE e3 kt
  scaleE e4 (if s.nozzle n = 1 then s.bob r Obj.WEAK_TRIM 0 p else 0x4000)

/-- K_therm of a port's unit (R100). -/
def Core.kThermOf (s : Core) (p : Nat) (r : Col) : Nat :=
  kTherm (signedOf 16 (s.bob r Obj.THERM_COEF 0 p)) (s.rdI Obj.T_EST 0 p - signedOf 16 (s.bob r Obj.T_REF 0 p))
    (s.bob r Obj.K_THERM_MIN 0 p) (s.bob r Obj.K_THERM_MAX 0 p)

/-! ### Scheduling (R92, R93) -/

/-- The unit of primitive `q` in the record's column has started. -/
def Col.started (r : Col) (q : Nat) : Bool := bit r.units q

/-- Every present primitive's unit has finished. -/
def Core.allDone (s : Core) (p : Nat) (r : Col) : Bool := (List.range (s.nPrim p)).all (fun q => bit r.unitsDone q)

/-- Column `j` of the record's run of columns is settled on the port: of a page (R218), or of a spit run, whose columns have their records from its start. -/
def Core.settledFor (s : Core) (p : Nat) (r : Col) (j : Nat) : Bool :=
  if r.run then ((s.port p).colAt j).all (fun b => !b.run || b.settled) else s.settledOn p j

/-- The unit of primitive `q` of a column is ready (R92). -/
def Core.unitReady (s : Core) (p : Nat) (r : Col) (q : Nat) : Bool :=
  r.asm && !r.settled && !r.lost && !r.dropped && s.primPresent p q && !r.started q && !(s.isStandby && s.sharedPort p)
    && (decide (r.col < 2) || s.settledFor p r (r.col - 2))
    && (decide (r.col = 0) || ((s.port p).colAt (r.col - 1)).all (fun b => bit b.unitsDone q || b.settled))

/-- The number under which a column's re-map stands among its units: it is scheduled like them, as one stretch of lane cycles after the last of them
(R115; log entry 156). -/
def remapUnit : Nat := 64

/-- The re-map of a column is due: it is gated, every unit has finished, and another generation applies than the one used (R115). -/
def Core.remapReady (s : Core) (p : Nat) (r : Col) : Bool :=
  r.gated && !r.settled && !r.lost && !r.dropped && !r.started remapUnit && s.allDone p r && decide (r.gen ≠ r.gateGen)

/-- The candidate of a port: the first ready primitive of its lowest column with one, or its re-map, and that column's deadline. -/
def Core.candidate (s : Core) (p : Nat) : Option (Int × Nat × Nat × Nat) :=
  (s.port p).cols.findSome? (fun r =>
    let q := match (List.range (s.nPrim p)).find? (s.unitReady p r) with
      | some q => some q
      | none => if s.remapReady p r then some remapUnit else none
    match q, s.deadline p r.col with
    | some q, some d => some (d, p, r.col, q)
    | _, _ => none)

/-- The ready unit with the earliest deadline; ties go to the lower port, then the lower primitive (R93). -/
def Core.nextUnit (s : Core) : Option (Nat × Nat × Nat) :=
  let l := (s.ports.map Prod.fst).filterMap s.candidate
  match l with
  | [] => none
  | c :: t => some ((t.foldl (fun b x => if x.1 < b.1 then x else b) c).2)

/-- Column `j` is late on a port (R94): its results are discarded and it is lost; units in progress run on without effect; LATE_COLS and BOB_LATE. -/
def Core.lateCol (s : Core) (p j : Nat) : Core :=
  (((s.voidLanes (fun q k => decide (q = p) && decide (k = j))).loseCol p j).inc0 Obj.LATE_COLS).occur 720 0

/-- The history test at the first unit of a column (R105), against the newest column before it that counts as fired (R102): by its issued t_first once it is
gated, before that by the predicted one (log entry 157). -/
def Core.histTest (s : Core) (p : Nat) (r : Col) : Bool :=
  let age := s.rd0 Obj.HIST_AGE
  match (historyCols (s.port p) r.col 0).head? with
  | none => false
  | some b => match s.backOf p b.col 0, s.backOf p r.col 0 with
    | some t0, some t => decide (age ≠ 0) && decide (t - t0 > ((age * 65536 : Nat) : Int))
    | _, _ => false

/-- Map an energy to its index, counting one below e_1 or above e_63 (R114). -/
def Core.mapCount (t : Core) (p : Nat) (es : List Nat) (e5 : Nat) : Core × Nat :=
  let m := mapEnergy es e5
  (if m.2.1 then t.inc Obj.ENERGY_FLOOR 0 p 1 else if m.2.2 then t.inc Obj.ENERGY_CEIL 0 p 1 else t, m.1)

/-- Evaluate the 16 slots of a unit (R99, R114, R116, R117): energies, indexes, counters. -/
def Core.evalUnit (s : Core) (p : Nat) (r : Col) (q : Nat) : Core × Col :=
  let es := (s.port p).genE
  let l := historyCols (s.port p) r.col r.histLo
  let kt := s.kThermOf p r
  let fixed := match r.spit with | some pat => s.rd Obj.spat_ENERGY pat 0 | none => 0
  (List.range 16).foldl (fun acc a =>
    let t := acc.1
    let c := acc.2
    let n := 1024 * p + 16 * q + a
    if !bit (nth 0 c.fire q) a then acc
    else if 2 ≤ t.nozzle n then (t.inc Obj.MAP_RACE 0 p 1, c)
    else if fixed ≠ 0 then (t, { c with idx := Tab.set c.idx n fixed })
    else
      let e5 := t.energyOf p c l kt n
      let m := t.mapCount p es e5
      (m.1, { c with e5 := Tab.set c.e5 n e5, idx := Tab.set c.idx n m.2 })) (s, r)

/-- Re-map the kept energies of a column under the generation fixed at its gate (R115): the mapping of R114 with its counts, REMAPS once. -/
def Core.remap (s : Core) (p : Nat) (r : Col) : Core × Col :=
  let m := r.e5.foldl (fun (a : Core × Tab Nat) ne => let v := a.1.mapCount p r.genE ne.2; (v.1, Tab.set a.2 ne.1 v.2)) (s, r.idx)
  (m.1.inc Obj.REMAPS 0 p 1, { r with idx := m.2, gen := r.gateGen })

/-- When a column is gated, every unit has finished and the indexes are mapped under the column's generation, it is complete (R94, R115). -/
def Core.tryComplete (s : Core) (p j : Nat) : Core :=
  match (s.port p).colAt j with
  | none => s
  | some r =>
    if r.complete ∨ r.settled ∨ !r.gated ∨ !s.allDone p r ∨ r.gen ≠ r.gateGen then s
    else
      let t := s.setCol p { r with complete := true }
      match t.deadline p j with
      | some d =>
        let slack := satS 32 (roundDiv (d - (t.ftQ : Int)) 65536)
        if slack < t.rdI Obj.MIN_SLACK 0 0 ∧ 0 ≤ slack then t.wrI Obj.MIN_SLACK 0 0 slack else t
      | none => t

/-- A lane begins a column's re-map, one cycle a fired slot (R115). -/
def Core.startRemap (s : Core) (p j : Nat) : Core :=
  let r := s.colOf p j
  { (s.setCol p { r with units := putBit r.units remapUnit true }) with lanes := s.lanes ++ [(p, j, remapUnit)], bobCycles := s.bobCycles + r.e5.length }

/-- A lane begins the unit of a primitive, 16 cycles: at the first of a column the history is tested, and restarts at that column if it is too old (R105). -/
def Core.startUnit (s : Core) (p j q : Nat) : Core :=
  let r0 := s.colOf p j
  let again := decide (r0.units = 0) && s.histTest p r0
  let s := if again then s.updPort p (fun x => { x with histFrom := j }) else s
  let r1 := if r0.units = 0 then { r0 with histLo := (s.port p).histFrom } else r0
  let v := s.evalUnit p r1 q
  let g := (s.port p).gen
  let r2 := { v.2 with units := putBit v.2.units q true, gen := if r1.units = 0 ∨ r1.gen = g then g else 0 }
  { (v.1.setCol p r2) with lanes := s.lanes ++ [(p, j, q)], bobCycles := v.1.bobCycles + 16 }

/-- Start the next unit on a free lane (R93). `ecc`: 1 a corrected error in a table read, 2 an uncorrectable one (R118). -/
def Core.unitStart (s : Core) (ecc : Nat) : Core :=
  if s.running ∧ s.mode ≠ .safe ∧ s.lanes.length < 8 then
    match s.nextUnit with
    | none => s
    | some (p, j, q) =>
      if ecc = 2 then (s.lateCol p j).occur 724 0
      else
        let t := if q = remapUnit then s.startRemap p j else s.startUnit p j q
        if ecc = 1 then t.occur 723 0 else t
  else s

/-- The oldest running unit finishes (R94). -/
def Core.unitDone (s : Core) : Core :=
  match s.lanes with
  | [] => s
  | (p, j, q) :: rest =>
    let t := { s with lanes := rest }
    match (t.port p).colAt j with
    | none => t
    | some r =>
      if r.lost ∨ r.dropped then t
      else
        let r' := { r with unitsDone := putBit r.unitsDone q true }
        if q = remapUnit then let m := t.remap p r'; (m.1.setCol p m.2).tryComplete p j
        else (t.setCol p { r' with old := if t.allDone p r' then [] else r.old }).tryComplete p j

/-- D(c) has passed and the column is not complete (R94). -/
def Core.isLate (s : Core) (p j : Nat) : Bool :=
  match (s.port p).colAt j with
  | none => false
  | some r => !r.complete && !r.settled && r.asm && (match s.deadline p j with | some d => decide (d < (s.ftQ : Int)) | none => false)

/-- Table values that columns with units in progress keep using (R106): remember the old one before a write. -/
def Core.keepOld (s : Core) (p : Nat) (key old : Nat) : Core :=
  s.updPort p (fun x => { x with cols := x.cols.map (fun r =>
    if r.units ≠ 0 ∧ !r.complete ∧ !r.settled ∧ (Tab.get? r.old key).isNone then { r with old := Tab.set r.old key old } else r) })

/-! ### Load (R96) -/

/-- A load window ends: LOAD, LOAD_PEAK, BOB_LOAD. -/
def Core.loadWindow (s : Core) : Core :=
  let l := roundDivNat (s.bobCycles * 327680) (96 * 1048576)
  let t := ({ s with bobCycles := 0 }).wr0 Obj.LOAD (min l 32768)
  let t := if min l 32768 > t.rd0 Obj.LOAD_PEAK then t.wr0 Obj.LOAD_PEAK (min l 32768) else t
  let t := t.arm .loadWindow 0 (ns 1048576)
  if l > t.rd0 Obj.LOAD_WARN then t.occur 721 0 else t

/-! ### The thermal model (R107 to R111) -/

/-- T_SINK of a port in Q8.24. -/
def Core.tSink (s : Core) (p : Nat) : Int := s.rdI Obj.T_SINK 0 p * 65536

/-- Publish T_EST: T̂ rounded to Q8.8. -/
def Core.publishT (s : Core) (p : Nat) : Core := s.wrI Obj.T_EST 0 p (satS 16 (roundDiv (s.port p).therm.t 65536))

/-- The model step that FT lies in. -/
def Core.modelNow (s : Core) : Nat := s.ftNs / 8192

/-- T̂ is set to T_SINK (R107): at enumeration, a G_E or A_DECAY write, and leaving RETAIN or OFF. Steps whose end has passed do not change it afterwards. -/
def Core.resetModel (s : Core) (p : Nat) : Core :=
  (s.updPort p (fun x => { x with therm := { x.therm with
    t := s.tSink p, kept := if x.therm.step < s.modelNow then [] else x.therm.kept, step := max x.therm.step s.modelNow
    q := x.therm.q.filter (fun e => decide (s.modelNow ≤ e.1)) } })).publishT p

/-- The update of R108 on T̂: rise and decay. -/
def modelUpdate (t sink : Int) (q gE aDecay : Nat) : Int :=
  let rise : Int := (((q * gE + 2 ^ 23) / 2 ^ 24 : Nat) : Int)
  let decay := roundDiv ((t - sink) * aDecay) (2 ^ 32)
  satS 32 (t + rise - decay)

/-- End the oldest model step of a port that has not ended, with the energy credited in it (R107, R108). -/
def Core.modelStepPort (s : Core) (p : Nat) : Core :=
  let th := (s.port p).therm
  let q := if s.mode = .safe then 0 else Tab.get 0 th.q th.step
  let t' := modelUpdate th.t (s.tSink p) q (s.rd Obj.G_E 0 p) (s.rd Obj.A_DECAY 0 p)
  (s.updPort p (fun x => { x with therm := { x.therm with
    t := t', kept := (t' :: x.therm.kept).take 64, step := x.therm.step + 1, q := Tab.erase x.therm.q x.therm.step } })).publishT p

/-- `n` steps of a port in which no energy is credited and no measurement waits, T̂ no longer moving: only the kept values and the step number change. -/
def Core.modelRest (s : Core) (p n : Nat) : Core :=
  s.updPort p (fun x => { x with therm := { x.therm with
    kept := (List.replicate (min n 64) x.therm.t ++ x.therm.kept).take 64, step := x.therm.step + n } })

/-- The correction of R110 for one measurement. Answers whether the model was corrected. -/
def Core.correct (s : Core) (p : Nat) (m : MeasWait) : Core × Bool :=
  let th := (s.port p).therm
  let back := th.step - 1 - m.tNs / 8192
  match th.kept[back]? with
  | none => (s.inc Obj.MEAS_STALE 0 p 1, false)
  | some tm =>
    let r := m.temp * 65536 - tm
    let t' := satS 32 (th.t + roundDiv ((s.rd Obj.CORR_GAIN 0 p : Int) * r) 32768)
    let sink := satS 16 (s.rdI Obj.T_SINK 0 p + roundDiv ((s.rd Obj.SINK_GAIN 0 p : Int) * r) (32768 * 65536))
    let rise := match th.prev with | some v => satS 16 (roundDiv (tm - v) 65536) | none => 0
    let u := (s.updPort p (fun x => { x with therm := { x.therm with t := t', prev := some t' } })).publishT p
    let u := (((u.wrI Obj.LAST_RESID 0 p (satS 16 (roundDiv r 65536))).wrI Obj.T_SINK 0 p sink).hwUpdate Obj.T_SINK 0 p).wrI Obj.PRED_RISE 0 p rise
    (if r.natAbs > u.rd0 Obj.THERM_RESID_MAX * 65536 then u.occur 722 0 else u, true)

/-- Credit the drops of a column at the energies of the generation it was sent with, to the step that FT lies in (R107 to R109), of those nozzles that `keep`
selects. -/
def Core.creditHeat (s : Core) (p : Nat) (r : Col) (keep : Nat → Bool) : Core :=
  let q := r.idx.foldl (fun a ni => if keep ni.1 ∧ ni.2 ≠ 0 then a + nth 0 r.genE (ni.2 - 1) else a) 0
  s.updPort p (fun x => { x with therm := { x.therm with q := Tab.set x.therm.q s.modelNow (Tab.get 0 x.therm.q s.modelNow + q) } })

/-! ### The commands -/

/-- BOBBIN_UNIT_START (R93). -/
def execBobbinUnitStart (dt ecc : Nat) (s : State) : Host.Outcome State Fault Refusal :=
  onCore (fun c => (c.advance dt).unitStart ecc) s

/-- BOBBIN_UNIT_DONE (R94). -/
def execBobbinUnitDone (dt : Nat) (s : State) : Host.Outcome State Fault Refusal :=
  onCore (fun c => (c.advance dt).unitDone) s

/-- BOBBIN_LATE (R94): D(c) passes before column `col` is complete on `port`. -/
def execBobbinLate (dt port col : Nat) (s : State) : Host.Outcome State Fault Refusal :=
  onCore (fun c => (c.advance dt).when ((c.advance dt).isLate port col) (fun t => t.lateCol port col)) s

/-- BOBBIN_LOAD_WINDOW (R96). -/
def execBobbinLoadWindow (dt : Nat) (s : State) : Host.Outcome State Fault Refusal :=
  onCore (fun c => (c.advance dt).when ((c.advance dt).due .loadWindow 0) Core.loadWindow) s

end Sys2Proof.Machine
end

