-- ==== Sys2Proof/Machine/Raster.lean ====
section
/-! DEFINITION. The raster path (ch. 8): positions, lines, levels, masks, subcolumns, Darning, and the assembly of a column. -/

namespace Sys2Proof.Machine

open Sys2Proof

/-! ### Positions and lines (R200, R204) -/

/-- λ_g(c): the firing-order index (R204). -/
def RowGroup.lam (r : RowGroup) (m : PlaneMap) (c : Nat) : Int := (m.u : Int) * (((c / max 1 m.s : Nat) : Int) - r.w) + r.phi

/-- The page column in which the row-group prints firing-order index `l` at subcolumn `j`. -/
def RowGroup.colOf (r : RowGroup) (m : PlaneMap) (l : Int) (j : Nat) : Int := (m.s : Int) * ((l - r.phi) / (m.u : Int) + r.w) + j

/-- ℓ: the line of a firing-order index (R204), none outside the page. -/
def lineOf (pg : Page) (l : Int) : Option Nat :=
  let v := if pg.dir = 1 then l else (pg.lines : Int) - 1 - l
  if 0 ≤ v ∧ v < pg.lines then some v.toNat else none

/-- x: the cross-feed position of rank `k` (R200), none outside 0 to 2^24 - 1. -/
def xOf (pg : Page) (e k : Nat) : Option Nat :=
  let v : Int := (rmXFirst e : Int) + pg.xshift + (if rmXDir e then -(k : Int) else (k : Int))
  if 0 ≤ v ∧ v < 16777216 then some v.toNat else none

/-- The Nozzle ID of rank `k` of a row-group. -/
def RowGroup.nozzleId (r : RowGroup) (k : Nat) : Nat := 1024 * r.port + 16 * nth 0 r.prims (k / 16) + k % 16

/-! ### Levels (R206, R210) -/

/-- The level a block holds at a line and position it covers: 2 bits per pixel, ascending position, lines in order (R195). -/
def Block.level (b : Block) (line x : Nat) : Nat :=
  if b.bad then 0
  else
    let i := x - b.pos
    (nth 0 (b.levels.drop ((line - b.line) * ((b.poss + 3) / 4) + i / 4)) 0).toNat / 4 ^ (i % 4) % 4

/-- The block covers the pixel. -/
def Block.covers (b : Block) (plane line x : Nat) : Bool :=
  decide (b.plane = plane) && decide (b.line ≤ line ∧ line < b.line + b.lines) && decide (b.pos ≤ x ∧ x < b.pos + b.poss)

/-- The pixel in the window: that of the covering block with the highest SSN (R247); level 0 where none covers it (R248). -/
def pixelOf (pg : Page) (plane line x : Nat) : Nat :=
  match (pg.blocks.filter (fun b => b.covers plane line x)).getLast? with
  | some b => b.level line x
  | none => 0

/-- MASK_DATA keeps the pixel in the page's pass (R210). -/
def Core.maskKeeps (s : Core) (pg : Page) (x line : Nat) : Bool :=
  if pg.mask = 0xFF then true
  else
    let i := pg.mask
    let pw := s.rd Obj.ms_PW i 0
    let ph := s.rd Obj.ms_PH i 0
    let b := pg.pass * pw * ph + (line + s.rd Obj.ms_L0 i 0) % ph * pw + (x + s.rd Obj.ms_X0 i 0) % pw
    bit (nth 0 ((unpackBytes (s.rd Obj.ms_MASK_DATA i 0)).drop (b / 8)) 0).toNat (b % 8)

/-- The own level of rank `k` of a row-group in page column `c` (R206). -/
def Core.ownLevel (s : Core) (pg : Page) (m : PlaneMap) (r : RowGroup) (k c : Nat) : Nat :=
  if rmRole r.entry ≠ 1 then 0
  else match lineOf pg (r.lam m c), xOf pg r.entry k with
    | some l, some x => if s.maskKeeps pg x l then pixelOf pg (rmPlane r.entry) l x else 0
    | _, _ => 0

/-- DIST[s][level][q] of a plane map (R208). -/
def PlaneMap.distAt (m : PlaneMap) (level q : Nat) : Nat := nth 0 m.dist (16 * (m.s - 1) + 4 * level + q)

/-- The own bit of rank `k` in page column `c` (R207). -/
def Core.ownBit (s : Core) (pg : Page) (m : PlaneMap) (r : RowGroup) (k c : Nat) : Bool :=
  match xOf pg r.entry k with
  | none => false
  | some x =>
    let step := c / max 1 m.s
    bit (m.distAt (s.ownLevel pg m r k c) ((step + x) % 4)) (c % max 1 m.s)

/-! ### Darning (R212 to R216) -/

/-- The partner row-group, when the two name each other (R200). -/
def Core.partner (s : Core) (pg : Page) (m : PlaneMap) (wr : Int × Int) (r : RowGroup) : Option RowGroup :=
  if rmPaired r.entry then
    let p := s.rowGroup pg m wr (rmPairPort r.entry) (rmPairRg r.entry)
    if rmPaired p.entry ∧ rmPairPort p.entry = r.port ∧ rmPairRg p.entry = r.rg then some p else none
  else none

/-- A donor: dead or dry, in a PRINT row-group. -/
def Core.isDonor (s : Core) (r : RowGroup) (k : Nat) : Bool := decide (rmRole r.entry = 1) && decide (2 ≤ s.nozzle (r.nozzleId k))

/-- A receiver: good or weak, in a PRINT or SPARE row-group. -/
def Core.isReceiver (s : Core) (r : RowGroup) (k : Nat) : Bool :=
  decide (rmRole r.entry = 1 ∨ rmRole r.entry = 2) && decide (s.nozzle (r.nozzleId k) ≤ 1)

/-- The band that covers a page column on a port, if any (R86). -/
def Core.bandAt (s : Core) (pg : Page) (p c : Nat) : Option Band :=
  pg.bands.find? (fun b => decide (b.first ≤ c ∧ c < b.first + b.count) && bit (s.rd Obj.spat_PORTS b.pattern 0) p)

/-- The firing-order index of the pair line (R213). -/
def pairLam (m : PlaneMap) (l : Int) : Int := if m.u = 2 then (if l % 2 = 0 then l + 1 else l - 1) else l

/-- PARTNER_OK for donor rank `k` of `d` in its column `c`, with partner `q` (R213): also the partner's column. -/
def Core.partnerOk (s : Core) (pg : Page) (m : PlaneMap) (d q : RowGroup) (k c : Nat) : Bool :=
  let c' := q.colOf m (pairLam m (d.lam m c)) (c % max 1 m.s)
  s.isDonor d k && s.isReceiver q k && decide (0 ≤ c') && !(s.ownBit pg m q k c'.toNat)
    && (s.bandAt pg d.port c).isNone && (s.bandAt pg q.port c'.toNat).isNone && s.ownBit pg m d k c

/-- The work of one assembly: fire masks by primitive, carries changed, counts of DARN_PARTNER, NEIGHBOUR, CARRIED, RELEASE, LOST, and the fire
masks after step 3, free of carries. -/
structure Assembly where
  fire : List Nat
  carry : Tab Nat
  counts : List Nat
  free : List Nat := []
  deriving DecidableEq, Repr

/-- A nozzle's bit. -/
def Assembly.get (a : Assembly) (n : Nat) : Bool := bit (nth 0 a.fire (n % 1024 / 16)) (n % 16)

/-- Set a nozzle's bit. -/
def Assembly.put (a : Assembly) (n : Nat) : Assembly :=
  { a with fire := setNth a.fire (n % 1024 / 16) (putBit (nth 0 a.fire (n % 1024 / 16)) (n % 16) true) }

/-- Count one Darning event. -/
def Assembly.count (a : Assembly) (k : Nat) : Assembly := { a with counts := setNth a.counts k (nth 0 a.counts k + 1) }

/-- Step 2 for one receiver: it takes its partner's drop (R213). -/
def Core.takePartner (s : Core) (pg : Page) (m : PlaneMap) (r : RowGroup) (q : Option RowGroup) (c : Nat) (a : Assembly) (k : Nat) : Assembly :=
  match q with
  | none => a
  | some d =>
    let n := r.nozzleId k
    let cd := d.colOf m (pairLam m (r.lam m c)) (c % max 1 m.s)
    if a.get n ∨ cd < 0 ∨ !s.isReceiver r k ∨ !s.partnerOk pg m d r k cd.toNat then a else (a.put n).count 0

/-- A push to a neighbour of rank `k`: the side of rank k - 1 first when `c` is even (R214). -/
def Core.pushTo (s : Core) (r : RowGroup) (c : Nat) (a : Assembly) (k : Nat) : Option Assembly :=
  let try_ (j : Int) : Option Assembly :=
    if 0 ≤ j ∧ j < r.size ∧ s.isReceiver r j.toNat ∧ !a.get (r.nozzleId j.toNat) then some (a.put (r.nozzleId j.toNat)) else none
  let lo := try_ ((k : Int) - 1)
  let hi := try_ ((k : Int) + 1)
  if c % 2 = 0 then lo.orElse (fun _ => hi) else hi.orElse (fun _ => lo)

/-- The carry of a nozzle during an assembly. -/
def Assembly.carryOf (a : Assembly) (base : Nat → Nat) (n : Nat) : Nat := (Tab.get? a.carry n).getD (base n)

/-- Step 3 for one donor (R214, R215). -/
def Core.pushDonor (s : Core) (pg : Page) (m : PlaneMap) (base : Nat → Nat) (r : RowGroup) (q : Option RowGroup) (c : Nat) (a : Assembly)
    (k : Nat) : Assembly :=
  if !s.isDonor r k ∨ !s.ownBit pg m r k c then a
  else if (match q with | some p => s.partnerOk pg m r p k c | none => false) then a
  else match s.pushTo r c a k with
    | some b => b.count 1
    | none =>
      let n := r.nozzleId k
      let v := a.carryOf base n
      if 15 ≤ v then a.count 4 else ({ a with carry := Tab.set a.carry n (v + 1) }).count 2

/-- Step 4 for one donor: release a carried drop inside an inked area (R215). -/
def Core.releaseDonor (s : Core) (pg : Page) (m : PlaneMap) (base : Nat → Nat) (r : RowGroup) (c : Nat) (a : Assembly) (k : Nat) : Assembly :=
  let n := r.nozzleId k
  let v := a.carryOf base n
  if !s.isDonor r k ∨ s.ownBit pg m r k c ∨ s.ownLevel pg m r k c = 0 ∨ v = 0 then a
  else match s.pushTo r c a k with
    | some b => ({ b with carry := Tab.set b.carry n (v - 1) }).count 3
    | none => a

/-- Ranks of the row-groups of a port in ascending Nozzle ID: row-group and rank. -/
def ranksById (rs : List RowGroup) : List (RowGroup × Nat) :=
  (List.range 64).flatMap (fun q => match rs.find? (fun r => r.prims.contains q) with
    | some r => (List.range 16).map (fun a => (r, 16 * r.prims.idxOf q + a))
    | none => [])

/-- The carries a column of a port starts from: committed ones, and the tentative ones of earlier columns not yet settled (R218). -/
def Core.carryBase (s : Core) (pg : Page) (p j n : Nat) : Nat :=
  (((s.port p).cols.filter (fun r => r.asm && !r.settled && decide (r.col < j))).foldl (fun v r =>
    match r.carry.find? (fun nv => decide (nv.1 = n)) with | some nv => v + nv.2 | none => v) (Tab.get 0 pg.carries n)).toNat

/-- Assemble page column `c` of a port (Table 8-5, steps 1 to 6). -/
def Core.assemble (s : Core) (pg : Page) (m : PlaneMap) (p c : Nat) : Assembly :=
  let wr := s.wRange m
  let rs := ((s.rgs p).map (s.rowGroup pg m wr p)).filter (fun r => decide (rmRole r.entry = 1 ∨ rmRole r.entry = 2))
  let pt (r : RowGroup) := s.partner pg m wr r
  let l := ranksById rs
  let base := s.carryBase pg p (pg.base + c)
  let a0 : Assembly := ⟨List.replicate 64 0, [], [0, 0, 0, 0, 0], []⟩
  let a1 := l.foldl (fun a rk => if s.isReceiver rk.1 rk.2 ∧ s.ownBit pg m rk.1 rk.2 c then a.put (rk.1.nozzleId rk.2) else a) a0
  let a2 := l.foldl (fun a rk => s.takePartner pg m rk.1 (pt rk.1) c a rk.2) a1
  let a3 := l.foldl (fun a rk => s.pushDonor pg m base rk.1 (pt rk.1) c a rk.2) a2
  { l.foldl (fun a rk => s.releaseDonor pg m base rk.1 c a rk.2) a3 with free := a3.fire }

/-! ### When a column can be assembled (R196, Table 1-3) -/

/-- The segment that holds a row-group's positions, as first position and past last (R196): both row-groups of a pair share it. -/
def Core.segmentOf (s : Core) (pg : Page) (m : PlaneMap) (r : RowGroup) : Int × Int :=
  let lo : Int := (rmXFirst r.entry : Int) + pg.xshift - (if rmXDir r.entry then (r.size : Int) - 1 else 0)
  match (s.segments pg m).find? (fun g => decide (g.1 = rmPlane r.entry) && decide ((g.2.1 : Int) < lo + r.size ∧ lo < g.2.2)) with
  | some g => (g.2.1, g.2.2)
  | none => (lo, lo + r.size)

/-- Every block of the page that covers the line within the segment has ended (R248). -/
def lineResident (pg : Page) (plane : Nat) (seg : Int × Int) (line : Nat) : Bool :=
  pg.blocks.all (fun b =>
    b.done || b.bad || decide (b.plane ≠ plane) || decide (line < b.line ∨ b.line + b.lines ≤ line)
      || decide ((b.pos : Int) ≥ seg.2 ∨ ((b.pos + b.poss : Nat) : Int) ≤ seg.1))

/-- Every line that a port's column needs is resident: its row-groups' lines and their pair lines (R196, R213, R248). -/
def Core.colResident (s : Core) (pg : Page) (m : PlaneMap) (p c : Nat) : Bool :=
  let wr := s.wRange m
  ((s.rgs p).map (s.rowGroup pg m wr p)).all (fun r =>
    if rmRole r.entry = 1 ∨ rmRole r.entry = 2 then
      let lines := [r.lam m c, pairLam m (r.lam m c)].filterMap (lineOf pg)
      -- blocks still to end are few: the segment is worked out only where there is one
      pg.blocks.all (fun b => b.done || b.bad) || lines.all (lineResident pg (rmPlane r.entry) (s.segmentOf pg m r))
    else true)

/-- The next column of a port to assemble: the first at or above its floor not assembled, settled or dropped. -/
def Core.nextAssembly (s : Core) (p : Nat) : Nat :=
  let rec go : Nat → Nat → Nat
    | 0, j => j
    | k + 1, j =>
      if s.isDropped j then go k (j + 1)
      else match (s.port p).colAt j with
        | some r => if r.asm || r.settled then go k (j + 1) else j
        | none => j
  go 64 (s.port p).floor

/-- A standby applies the mirrored map and dry changes whose column has come (R410). -/
def Core.applyDue (s : Core) (j : Nat) : Core :=
  let now := s.pair.due.filter (fun (e : Nat × Bool × Nat × Nat) => decide (e.1 ≤ j))
  let t := { s with pair := { s.pair with due := s.pair.due.filter (fun (e : Nat × Bool × Nat × Nat) => decide (j < e.1)) } }
  now.foldl (fun t e => if e.2.1 then t.wr0 Obj.DRY_FLAGS e.2.2.2 else t.wr Obj.NOZZLE_MAP 0 e.2.2.1 e.2.2.2) t

/-- A column whose raster stage has not ended by t_first(c - 4). -/
def Core.rasterLate (s : Core) (p j : Nat) : Bool :=
  !(s.colOf p j).asm && (match s.backOf p j 4 with | some t => decide (t < (s.ftQ : Int)) | none => false)

/-- The column's lines are not resident with COMET_MODE OFF: it prints blank (R362). -/
def Core.isBlank (s : Core) (p j : Nat) : Bool :=
  decide (s.rd0 Obj.COMET_MODE = 0) && (match s.pageOf j with
    | some pg => decide (availCols pg (pg.own s) ≤ j - pg.base) || !s.colResident pg (pg.own s) p (j - pg.base)
    | none => false)

/-- Count a blank column once (R362). -/
def Core.countBlank (s : Core) (j : Nat) : Core :=
  if s.comet.blank.contains j then s
  else ({ s with comet := { s.comet with blank := (j :: s.comet.blank).take 256 } }).inc0 Obj.BLANK_COLS

/-- A stage of column `j` missed its deadline on a port: lost (R18); counted as blank where its lines are not resident with COMET_MODE OFF (R362). -/
def Core.rasterMiss (s : Core) (p j : Nat) : Core := (if s.rasterLate p j ∧ s.isBlank p j then s.countBlank j else s).loseCol p j

/-- Assemble the next column of a port: its bits go to Bobbin (R217). Past t_first(c - 4) the column is lost instead (R16, R18). `ecc`: 1 a corrected memory error, 2 an uncorrectable one (Table 8-6). -/
def Core.columnAssembly (s0 : Core) (p ecc : Nat) : Core :=
  let s := if s0.pair.due.isEmpty then s0 else s0.applyDue (s0.nextAssembly p)
  if p < 64 ∧ s.inPrint ∧ s.activePort p then
    let j := s.nextAssembly p
    match s.pageOf j with
    | none => s
    | some pg =>
      let m := pg.own s
      let c := j - pg.base
      if !s.belowSeam j then s
      else if s.rasterLate p j ∧ !(s.isStandby ∧ s.sharedPort p) then s.rasterMiss p j
      else if availCols pg m ≤ c ∨ !s.colResident pg m p c then s
      else if ecc = 2 then ((s.setCol p { s.colOf p j with asm := false }).loseCol p j).occur 1363 0
      else
        let r := s.colOf p j
        let t := match s.bandAt pg p c with
          | some b =>
            let f := s.spitBits b.pattern (c - b.first) p
            s.setCol p { r with asm := true, spit := some b.pattern, fire := f, free := f }
          | none =>
            let a := s.assemble pg m p c
            if s.isStandby ∧ s.sharedPort p then s.setCol p { r with asm := true, fire := a.free, free := a.free }
            else s.setCol p { r with asm := true, fire := a.fire, free := a.free, carry := a.carry.map (fun nv => (nv.1, (nv.2 : Int) - s.carryBase pg p j nv.1)), counts := a.counts }
        if ecc = 1 then t.occur 1362 0 else t
  else s

/-! ### The plane-map tests (Table 8-2) -/

/-- The row-groups of a map with ROLE PRINT or SPARE, as (port, row-group). -/
def PlaneMap.used (m : PlaneMap) : List (Nat × Nat) :=
  ((List.range 256).map (fun i => (i / 4, i % 4))).filter (fun pg => decide (rmRole (m.entry pg.1 pg.2) = 1 ∨ rmRole (m.entry pg.1 pg.2) = 2))

/-- Test 3 for one row-group. -/
def Core.pairTest (s : Core) (m : PlaneMap) (p g : Nat) : Bool :=
  let e := m.entry p g
  if rmPaired e then
    let p' := rmPairPort e
    let g' := rmPairRg e
    let f := m.entry p' g'
    s.rgPresent p' g' && rmPaired f && decide (rmPairPort f = p ∧ rmPairRg f = g) && decide ((rmRole e = 1 ∨ rmRole e = 2) ∧ (rmRole f = 1 ∨ rmRole f = 2))
      && decide (rmPlane e = rmPlane f ∧ rmXFirst e = rmXFirst f) && decide (rmXDir e = rmXDir f)
      && decide ((s.rgPrims p g).length = (s.rgPrims p' g').length)
  else true

/-- Every row-group of every port, in ascending order. -/
def everyRg : List (Nat × Nat) := allPorts.flatMap (fun p => [(p, 0), (p, 1), (p, 2), (p, 3)])

/-- The plane-map tests: PM_STATUS and PM_FAIL_PORT (R201). -/
def Core.planeTest (s : Core) (m : PlaneMap) (mask pass : Nat) : Nat × Nat :=
  let us := m.used
  let role (p g : Nat) : Nat := rmRole (m.entry p g)
  let ph (p g : Nat) : Int := phaseOf (s.rdI Obj.RG_OFFSET g p) m.u
  let fails (f : Nat → Nat → Bool) : Option Nat := (us.find? (fun pg => !f pg.1 pg.2)).map Prod.fst
  let wr := s.wRange m
  if !us.any (fun pg => decide (role pg.1 pg.2 = 1) && s.rgPresent pg.1 pg.2) then (1, 0)
  else match fails (fun p g => s.rgPresent p g) with
  | some p => (2, p)
  | none => match (everyRg.find? (fun pg => !s.pairTest m pg.1 pg.2)).map Prod.fst with
  | some p => (3, p)
  | none => match (if m.u = 2 then fails (fun p g =>
        let e := m.entry p g
        decide (role p g = 1) && rmPaired e && decide (role (rmPairPort e) (rmPairRg e) = 1) && decide (ph p g ≠ ph (rmPairPort e) (rmPairRg e)))
      else none) with
  | some p => (4, p)
  | none => match (if m.u = 1 then fails (fun p g =>
        let e := m.entry p g
        if rmPaired e then decide (role p g ≠ role (rmPairPort e) (rmPairRg e)) else decide (role p g = 1)) else none) with
  | some p => (5, p)
  | none =>
    if (m.u : Int) * (wr.2 - wr.1 + 1) > 128 then (6, 0)
    else if mask ≠ 0xFF ∧ !(s.rdB Obj.ms_MASK_VALID mask 0 && decide (pass < s.rd Obj.ms_PASSES mask 0)) then (7, 0)
    else (0, 0)

/-- Run the tests and record PM_STATUS and PM_FAIL_PORT. -/
def Core.runPlaneTest (s : Core) (m : PlaneMap) (mask pass : Nat) : Core × Bool :=
  let r := s.planeTest m mask pass
  ((s.wr0 Obj.PM_STATUS r.1).wr0 Obj.PM_FAIL_PORT r.2, decide (r.1 = 0))

/-- A die flagged dry has Darning cover (R203). -/
def Core.dryCovered (s : Core) (m : PlaneMap) (p : Nat) : Bool :=
  (List.range 4).all (fun g =>
    let e := m.entry p g
    if rmRole e = 1 then rmPaired e && decide (rmPairPort e ≠ p) && !bit (s.rd0 Obj.DRY_FLAGS) (rmPairPort e) else true)

/-- COLUMN_ASSEMBLY (R217). -/
def execColumnAssembly (dt port ecc : Nat) (s : State) : Host.Outcome State Fault Refusal :=
  onCore (fun c => (c.advance dt).columnAssembly port ecc) s

end Sys2Proof.Machine
end

