-- ==== Sys2Proof/Machine/WriteOps.lean ====
section
/-! DEFINITION. What every host write shares: abort codes (Table 16-7), the form of a chapter's check and action for an object, the mode tests of Table 18-4. -/

namespace Sys2Proof.Machine

open Sys2Proof

/-! ### Abort codes (Table 16-7) -/

def okC : Nat := 0
def busyC : Nat := 1
def noSessionC : Nat := 2
def sessionsFullC : Nat := 3
def roleC : Nat := 4
def stateC : Nat := 5
def noObjectC : Nat := 6
def sizeC : Nat := 7
def valueC : Nat := 8
def readOnlyC : Nat := 9
def alignC : Nat := 10
def sideEffectC : Nat := 11
def lockedC : Nat := 12
def txnOpenC : Nat := 13
def txnNoneC : Nat := 14
def txnLimitC : Nat := 15
def segmentC : Nat := 16
def memoryC : Nat := 17
def formatC : Nat := 18
def unreachableC : Nat := 19

/-- The lower of two codes other than OK (R450). -/
def worse (a b : Nat) : Nat := if a = 0 then b else if b = 0 then a else min a b

/-- STATE if the condition holds. -/
def stateIf (b : Bool) : Nat := if b then stateC else okC

/-- VALUE if the condition holds. -/
def valueIf (b : Bool) : Nat := if b then valueC else okC

/-- A chapter's own check of a write of element `j` of instance `i`: the present state, the state with every value of the run or commit stored,
and the value. It answers an abort code. -/
abbrev WrChk := Core → Core → Nat → Nat → Nat → Nat

/-- What a stored value brings about: the state before the write, the element, the value, and the state with every value stored. -/
abbrev WrAct := Core → Nat → Nat → Nat → Core → Core

/-- A value lies in an object's stated range (R6). -/
def Ob.inDom (o : Ob) (v : Nat) : Bool :=
  let i : Int := if o.signed then signedOf (8 * o.size) v else (v : Int)
  match o.dom with
  | .any => true
  | .range lo hi => decide (lo ≤ i ∧ i ≤ hi)
  | .oneOf l => l.contains v
  | .mask m => decide (v &&& m = v)
  | .either a b c d => decide ((a ≤ i ∧ i ≤ b) ∨ (c ≤ i ∧ i ≤ d))

/-- A write that no rule of its chapter limits. -/
def chkNone : WrChk := fun _ _ _ _ _ => okC

/-- A write with no effect but the value stored. -/
def actNone : WrAct := fun _ _ _ _ s => s

/-- STATE in PRINT. -/
def chkNotPrint : WrChk := fun s _ _ _ _ => stateIf s.inPrint

/-- STATE outside the listed modes. -/
def chkModes (l : List Mode) : WrChk := fun s _ _ _ _ => stateIf (!s.inModes l)

end Sys2Proof.Machine
end

