-- ==== Sys2Proof/Machine/Avone.lean ====
section
/-! DEFINITION. The Avone block format and the decoders AV0 to AV3 (ch. 9): headers, code tables, codes and dictionary, presets, rings, and the Spool
window of a page. -/

namespace Sys2Proof.Machine

open Sys2Proof

/-! ### Status codes (Table 9-6) and states (Table 9-7) -/

def avOk : Nat := 0
def avHeader : Nat := 1
def avGeometry : Nat := 2
def avLength : Nat := 3
def avLimit : Nat := 4
def avPreset : Nat := 5
def avTable : Nat := 6
def avCode : Nat := 7
def avOverrun : Nat := 8
def avShort : Nat := 9
def avTrunc : Nat := 10
def avTrail : Nat := 11
def avCrc : Nat := 12
def avMem : Nat := 13
def avAborted : Nat := 14
def avDesc : Nat := 15

def decIdle : Nat := 0
def decHeader : Nat := 1
def decTable : Nat := 2
def decDecode : Nat := 3
def decOutWait : Nat := 4
def decCheck : Nat := 5

/-! ### The header (Table 9-1) -/

def hPre (h : List Byte) : Nat := field (leAt h 3 1) 1 0
def hCoding (h : List Byte) : Nat := field (leAt h 3 1) 3 2
def hPreset (h : List Byte) : Bool := bit (leAt h 3 1) 4
def hPlane (h : List Byte) : Nat := field (leAt h 4 1) 3 0
def hPresetId (h : List Byte) : Nat := field (leAt h 4 1) 7 4
def hColCount (h : List Byte) : Nat := leAt h 5 1
def hTableLen (h : List Byte) : Nat := leAt h 6 2
def hFirstCol (h : List Byte) : Nat := field (leAt h 8 4) 23 0
def hFirstNoz (h : List Byte) : Nat := field (leAt h 12 4) 23 0
def hNozCount (h : List Byte) : Nat := field (leAt h 16 4) 23 0
def hDecoded (h : List Byte) : Nat := leAt h 20 4
def hBody (h : List Byte) : Nat := leAt h 24 4
def hCrc (h : List Byte) : Nat := leAt h 28 4
def hLineBytes (h : List Byte) : Nat := hNozCount h / 4

/-- Check 1 of Table 9-2 fails. -/
def headerBad (h : List Byte) : Bool :=
  decide (leAt h 0 2 ≠ 0x5641 ∨ leAt h 2 1 ≠ 1 ∨ field (leAt h 3 1) 7 5 ≠ 0 ∨ field (leAt h 8 4) 31 24 ≠ 0 ∨ field (leAt h 12 4) 31 24 ≠ 0
      ∨ field (leAt h 16 4) 31 24 ≠ 0 ∨ 2 ≤ hPre h ∨ hCoding h = 3)
    || (hPreset h && decide (hCoding h = 0)) || (!hPreset h && decide (hPresetId h ≠ 0))
    || decide (hTableLen h ≠ if hCoding h = 2 then 138 else 0)

/-- Check 2 of Table 9-2 fails. -/
def geometryBad (h : List Byte) : Bool :=
  decide (hColCount h = 0 ∨ 128 < hColCount h ∨ hFirstNoz h % 4 ≠ 0 ∨ hNozCount h % 4 ≠ 0 ∨ hNozCount h = 0
    ∨ hDecoded h ≠ hColCount h * hLineBytes h ∨ 262144 < hDecoded h ∨ 2 ^ 24 < hFirstCol h + hColCount h ∨ 2 ^ 24 < hFirstNoz h + hNozCount h)

/-- Checks 0 to 5 of Table 9-2, in order: the status of the first failure, or OK. -/
def headerCheck (h : List Byte) (srcLen limit : Nat) (valid : Nat → Bool) : Nat :=
  if srcLen < 32 then avLength
  else if headerBad h then avHeader
  else if geometryBad h then avGeometry
  else if srcLen ≠ 32 + hTableLen h + hBody h ∨ (hCoding h = 0 ∧ hBody h ≠ hDecoded h) then avLength
  else if limit < hDecoded h then avLimit
  else if hPreset h ∧ !valid (hPresetId h) then avPreset
  else avOk

/-! ### Code tables (R235, R236) -/

/-- The 275 code lengths of a table. -/
def codeLens (t : List Byte) : List Nat := (t.flatMap (fun b => [b.toNat % 16, b.toNat / 16])).take 275

/-- The table is valid (R235). -/
def codeTableOk (t : List Byte) : Bool :=
  let l := codeLens t
  decide ((nth 0 t 137).toNat / 16 = 0) && decide (nth 0 l 257 ≠ 0) && decide (2 ≤ (l.filter (· ≠ 0)).length)
    && decide (sumN (l.map (fun n => if n = 0 then 0 else 2 ^ (15 - n))) = 2 ^ 15)

/-- The symbols of one code length, ascending. -/
def symsOf (lens : List Nat) (n : Nat) : List Nat := (List.range 275).filter (fun s => decide (nth 0 lens s = n))

/-- Read a canonical code bit by bit (R236): from length `len` with the code so far and the first code of that length; answers the symbol and its
length. -/
def readSym (lens : List Nat) (strm : Nat → Bool) : Nat → Nat → Nat → Nat → Option (Nat × Nat)
  | 0, _, _, _ => none
  | k + 1, len, code, first =>
    let c := 2 * code + b2n (strm (len - 1))
    let l := symsOf lens len
    if c < first + l.length then some (nth 0 l (c - first), len)
    else readSym lens strm k (len + 1) c (2 * (first + l.length))

/-- The value of `n` bits of a stream from bit `o`, first bit lowest. -/
def streamVal (strm : Nat → Bool) (o n : Nat) : Nat := maskOf ((List.range n).filter (fun i => strm (o + i)))

/-- width(N) of a STATIC code (R230). -/
def codeWidth (n : Nat) : Nat := min 16 (max 9 (Nat.log2 n + 1))

/-! ### Presets (R232) -/

/-- The strings of a preset's entries, newest first. -/
def presetStrings (b : List Byte) : List (List Byte) :=
  (List.range (leAt b 0 2)).foldl (fun (l : List (List Byte)) i =>
    let p := leAt b (4 + 4 * i) 2
    ((if p < 256 then [BitVec.ofNat 8 p] else nth [] l (l.length - 1 - (p - 258))) ++ [nth 0 b (6 + 4 * i)]) :: l) []

/-- PRESET_INFO says the preset is VALID. -/
def Core.presetValid (s : Core) (i : Nat) : Bool := bit (s.rd Obj.PRESET_INFO 0 i) 16

/-- The bytes of a preset. -/
def Core.presetData (s : Core) (i : Nat) : List Byte := unpackBytes (s.rd Obj.PRESET_DATA i 0)

/-- The abort code of a preset's bytes (R232). -/
def presetCode (b : List Byte) : Nat :=
  let n := leAt b 0 2
  if b.length ≠ 4 + 4 * n then sizeC
  else valueIf (decide (n = 0 ∨ 16384 < n ∨ leAt b 2 2 ≠ 0) || (List.range n).any (fun i =>
    let p := leAt b (4 + 4 * i) 2
    decide (p = 256 ∨ p = 257 ∨ 258 + i ≤ p ∨ leAt b (7 + 4 * i) 1 ≠ 0)))

/-! ### Decoders -/

/-- A decoder's work. -/
def Core.decoder (s : Core) (d : Nat) : Decoder := Tab.get {} s.decs d

/-- Store a decoder's work. -/
def Core.setDecoder (s : Core) (d : Nat) (x : Decoder) : Core := { s with decs := Tab.set s.decs d x }

/-- DEC_STATE. -/
def Core.decState (s : Core) (d : Nat) : Nat := s.rd Obj.dec_DEC_STATE d 0

/-- Write DEC_STATE. -/
def Core.setDec (s : Core) (d st : Nat) : Core := s.wr Obj.dec_DEC_STATE d 0 st

/-- Distance from ring index `a` forward to `b`. -/
def ringDist (size a b : Nat) : Nat := (b + size - a % size) % size

/-- The dictionary string of code `v` (R228). -/
def Decoder.str (x : Decoder) (v : Nat) : List Byte := if v < 256 then [BitVec.ofNat 8 v] else nth [] x.dict (x.n - 1 - v)

/-- Reset state, with the strings of the block's preset (R228). -/
def Core.decReset (s : Core) (x : Decoder) : Decoder :=
  let l := if hPreset x.hdr then presetStrings (s.presetData (hPresetId x.hdr)) else []
  { x with n := 258 + l.length, prev := none, dict := l }

/-- The device address of byte `o` of a decoder's block: a staged block runs on at STAGE_BASE past the end of the staging ring (R274). -/
def Core.decAddr (s : Core) (x : Decoder) (o : Nat) : Nat :=
  let a := x.src + o
  let top := s.rd0 Obj.STAGE_BASE + s.rd0 Obj.STAGE_SIZE
  if x.win.isSome ∧ top ≤ a then a - s.rd0 Obj.STAGE_SIZE else a

/-- Bytes of a decoder's block from offset `o`. -/
def Core.decBytes (s : Core) (m : List Host.Cell) (x : Decoder) (o n : Nat) : List Byte :=
  (List.range n).map (fun i => Memory.get m (s.locate (s.decAddr x (o + i))).2)

/-- Whether reading bytes of the block meets a bus error (1) or an uncorrectable word (2). -/
def Core.decFault (s : Core) (x : Decoder) (o n : Nat) : Nat :=
  if n = 0 then 0
  else
    let a := s.decAddr x o
    let z := s.decAddr x (o + n - 1)
    if a ≤ z then s.readFault ownAvone a n
    else max (s.readFault ownAvone a (s.rd0 Obj.STAGE_BASE + s.rd0 Obj.STAGE_SIZE - a)) (s.readFault ownAvone (s.rd0 Obj.STAGE_BASE) (z + 1 - s.rd0 Obj.STAGE_BASE))

/-- The bytes of decoded data, in order. -/
def Decoder.data (x : Decoder) : List Byte := x.out.reverse

/-- The completion record of Table 9-6. -/
def doneRecord (x : Decoder) (d status tNs : Nat) : List Byte :=
  leBytes 4 x.tag ++ leBytes 1 status ++ leBytes 1 d ++ leBytes 2 x.used ++ leBytes 4 x.out.length ++ leBytes 4 x.inBytes
    ++ leBytes 4 (Crypto.crc32c x.data) ++ leBytes 4 x.codes ++ leBytes 8 tNs

/-! ### The window (R246 to R250) -/

/-- Change a window block. -/
def Core.updBlock (s : Core) (w : Nat × Nat) (f : Block → Block) : Core :=
  s.updPage w.1 (fun pg => { pg with blocks := pg.blocks.map (fun b => if b.ssn = w.2 then f b else b) })

/-- A window block has ended with a status: done, retried once after CRC or MEM, else bad unless ABORTED (R248, R250). -/
def Core.windowEnd (s : Core) (w : Nat × Nat) (status : Nat) (levels : List Byte) : Core :=
  let found := (s.startedPages.find? (fun pg => decide (pg.base = w.1))).bind (fun pg => pg.blocks.find? (fun b => decide (b.ssn = w.2)))
  match found with
  | none => s
  | some b =>
    if status = avOk then (s.updBlock w (fun b => { b with busy := false, done := true, levels := levels })).inc0 Obj.WIN_DECODES
    else if status = avAborted then s.updBlock w (fun b => { b with busy := false })
    else if (status = avCrc ∨ status = avMem) ∧ !b.tried then
      (s.updBlock w (fun b => { b with busy := false, tried := true })).inc0 Obj.WIN_RETRIES
    else
      let t := (s.updBlock w (fun b => { b with busy := false, bad := true })).inc0 Obj.WIN_BAD
      let t := t.wr0 Obj.BAD_LAST (ofLe (leBytes 1 b.plane ++ leBytes 1 status ++ leBytes 1 b.lines ++ [0] ++ leBytes 4 b.line ++ leBytes 4 b.pos ++ leBytes 4 b.poss))
      (t.updPage w.1 (fun pg => { pg with spoiled := true })).occur 1380 0

/-- A block ends with a status (R243): its completion record, the rings, the counters, the sources. -/
def Core.blockEnd (s : Core) (d status : Nat) : Core :=
  let x := s.decoder d
  let t := { (s.setDec d decIdle) with decs := Tab.erase s.decs d }
  let t := match x.win with
    | some w => t.windowEnd w status x.data
    | none =>
      let h := t.rd Obj.dec_DONE_HEAD d 0
      let t := (t.wr Obj.DONE_RING d h (ofLe (doneRecord x d status t.ftNs))).wr Obj.dec_DONE_HEAD d 0 ((h + 1) % 16)
      t.wr Obj.dec_OUT_HEAD d 0 ((t.rd Obj.dec_OUT_HEAD d 0 + x.used) % 256)
  if status = avOk then t.inc Obj.dec_BLOCKS d 0 1
  else if status = avAborted then t
  else (t.inc Obj.dec_ERRORS d 0 1).occur (1376 + d) 0

/-- A block whose bytes the decoder cannot reach: the spec states no status for a bus error at its source, so any status but OK may stand. -/
def Core.blockUnreached (s : Core) (d : Nat) : Core :=
  let r := s.drawOpen
  r.2.blockEnd d (1 + r.1 % 15)

/-- A memory error met by a decoder (Table 9-10). -/
def Core.decError (s : Core) (ecc a : Nat) : Core :=
  let t := s.memError ecc a
  if ecc = 1 then t.occur 1381 0 else if ecc = 2 then t.occur 1382 0 else t

/-- The first address of `n` bytes of a block whose word is uncorrectable. -/
def Core.decBadAddr (s : Core) (x : Decoder) (o n : Nat) : Nat :=
  (((List.range n).map (fun i => s.decAddr x (o + i))).find? (fun a => s.badIn (s.locate a).2 1)).getD (s.decAddr x o)

/-- A decoder's read of its block at `a` was uncorrectable: the block ends MEM; a staged one takes the stream to ERROR (Table 10-9). -/
def Core.decMem (s : Core) (d a : Nat) : Core :=
  let base := s.rd0 Obj.STAGE_BASE
  let t := match (s.decoder d).win with
    | some w => if s.rd0 Obj.STREAM_STATE = 1 ∧ base ≤ a ∧ a < base + s.rd0 Obj.STAGE_SIZE then s.streamError errMem 0x20 w.2 else s
    | none => s
  t.blockEnd d avMem

/-- A decoder meets a word of its block that is uncorrectable already. -/
def Core.decBadWord (s : Core) (d o n : Nat) : Core :=
  let a := s.decBadAddr (s.decoder d) o n
  (s.decError 2 a).decMem d a

/-- Put `n` slots of `z` bytes into banks with the given free bytes, first bank first: what is left of the banks, and the slots that did not fit. -/
def fitSlots (z : Nat) : Nat → List Nat → List Nat × Nat
  | n, [] => ([], n)
  | n, f :: t =>
    let k := min n (f / max 1 z)
    let r := fitSlots z (n - k) t
    ((f - k * z) :: r.1, r.2)

/-- Whether lists of slots (bytes, count) all fit; larger slots first. -/
def fitsAll : List (Nat × Nat) → List Nat → Bool
  | [], _ => true
  | (z, n) :: t, free => let r := fitSlots z n free; decide (r.2 = 0) && fitsAll t r.1

/-- Insert a slot size in falling order. -/
def insertSlot (r : Nat × Nat) : List (Nat × Nat) → List (Nat × Nat)
  | [] => [r]
  | e :: t => if e.1 ≤ r.1 then r :: e :: t else e :: insertSlot r t

/-- Free bytes of the banks a window may use: the non-fixed ones that AVONE owns (R297). -/
def Core.windowBanks (s : Core) : List Nat := ((List.range 50).filter (fun b => !bankFixed b && s.owns ownAvone b)).map (fun b => (bankSpan b).2)

/-- The slots of `n` lines of every segment of a page. -/
def Core.slotsOf (s : Core) (pg : Page) (n : Nat) : List (Nat × Nat) := (s.segments pg (pg.own s)).map (fun g => (lineSeg g, n))

/-- Windows of the given pages and line counts fit in the banks. -/
def Core.windowsFit (s : Core) (l : List (Page × Nat)) : Bool :=
  fitsAll ((l.flatMap (fun e => s.slotsOf e.1 e.2)).foldl (fun a r => insertSlot r a) []) s.windowBanks

/-- Firing-order lines of a segment of a started page that have been released (R249); none for a page behind the one in progress. -/
def Core.releasedOf (s : Core) (pg : Page) (g : Nat × Nat × Nat) : Nat :=
  match s.currentPage with
  | some c => if c.base = pg.base then s.releasedLines pg g else 0
  | none => 0

/-- Line slots a started page's window has: 256, or for a page behind the one in progress as many as fit beside what that one still holds (R590). -/
def Core.windowSlots (s : Core) (pg : Page) : Nat :=
  match s.currentPage with
  | some c =>
    if c.base = pg.base then 256
    else
      let held := (s.segments c (c.own s)).map (fun g => (lineSeg g, min 256 (c.lines - s.releasedOf c g)))
      let fits (n : Nat) : Bool := fitsAll ((held ++ s.slotsOf pg n).foldl (fun a r => insertSlot r a) []) s.windowBanks
      if fits 256 then 256 else (((List.range 256).reverse).find? fits).getD 0
  | none => 256

/-- The firing-order index of a line. -/
def firingIdx (pg : Page) (l : Nat) : Nat := if pg.dir = 1 then l else pg.lines - 1 - l

/-- A line of a block has, or has had, a slot in each segment it reaches. -/
def Core.slotted (s : Core) (pg : Page) (b : Block) (l : Nat) : Bool :=
  (s.segmentsOf pg b).all (fun g => decide (firingIdx pg l < s.releasedOf pg g + s.windowSlots pg))

/-- A line of a block has a slot: it is still to be released in a segment it reaches. -/
def Core.hasSlot (s : Core) (pg : Page) (b : Block) (l : Nat) : Bool :=
  s.slotted pg b l && (s.segmentsOf pg b).any (fun g => decide (s.releasedOf pg g ≤ firingIdx pg l))

/-- The banks left after `n` slots of `z` bytes: first address and free bytes of each. -/
def takeSlots (z : Nat) : Nat → List (Nat × Nat) → List (Nat × Nat)
  | _, [] => []
  | n, (a, f) :: t => let k := min n (f / max 1 z); (a + k * z, f - k * z) :: takeSlots z (n - k) t

/-- The address of slot `k` of `z` bytes in banks. -/
def slotPlace (z : Nat) : Nat → List (Nat × Nat) → Option Nat
  | _, [] => none
  | k, (a, f) :: t => let n := f / max 1 z; if k < n then some (a + k * z) else slotPlace z (k - n) t

/-- The address of slot `k` of the `i`-th of a list of windows. -/
def slotIn (k : Nat) : Nat → List Nat → List (Nat × Nat) → Option Nat
  | _, [], _ => none
  | 0, z :: _, banks => slotPlace z k banks
  | i + 1, z :: t, banks => slotIn k i t (takeSlots z 256 banks)

/-- Where the line slots lie is open (R246): windows stand in falling LINE_SEG from the lowest bank AVONE owns, and a line has the slot of its firing-order index,
counted on from the page before, modulo 256 (log entry 168). -/
def Core.slotAddr (s : Core) (pg : Page) (g : Nat × Nat × Nat) (l : Nat) : Option Nat :=
  let segs := s.segments pg (pg.own s)
  let order := ((segs.zipIdx.map (fun e => (lineSeg e.1, e.2))).foldl (fun a r => insertSlot r a) [])
  let banks := ((List.range 50).filter (fun b => !bankFixed b && s.owns ownAvone b)).map bankSpan
  slotIn ((pg.window + firingIdx pg l) % 256) (order.findIdx (fun e => decide (e.2 = segs.idxOf g))) (order.map Prod.fst) banks

/-- What a run of decoded bytes of a block writes into the window (R246): the bytes `l` from offset `o` of data with `lb` bytes a line, of a plane, from a line
and position on; each line's part inside a segment goes to its slot, the rest is discarded. -/
def Core.windowRuns (s : Core) (pg : Page) (plane line pos lb o : Nat) (l : List Byte) : List (Nat × List Byte) :=
  let segs := (s.segments pg (pg.own s)).filter (fun g => decide (g.1 = plane))
  (List.range (ceilDiv (o + l.length) (max 1 lb) - o / max 1 lb)).flatMap (fun i =>
    let r := o / max 1 lb + i
    let a := max o (r * lb)
    let z := min (o + l.length) ((r + 1) * lb)
    segs.filterMap (fun g =>
      let from_ := pos / 4 + (a - r * lb)
      let b0 := max from_ (g.2.1 / 4)
      let b1 := min (pos / 4 + (z - r * lb)) (ceilDiv g.2.2 4)
      if s.releasedOf pg g ≤ firingIdx pg (line + r) ∧ b0 < b1 then
        (s.slotAddr pg g (line + r)).map (fun t => (t + (b0 - g.2.1 / 4), (l.drop (a - o + (b0 - from_))).take (b1 - b0)))
      else none))

/-- The window manager writes level 0 for the blocks that a command has made bad (R250). -/
def Core.blankBad (s before : Core) (m : List Host.Cell) : List Host.Cell :=
  if s.rd0 Obj.WIN_BAD = before.rd0 Obj.WIN_BAD then m
  else s.startedPages.foldl (fun m pg =>
    let old := ((before.startedPages.find? (fun q => decide (q.base = pg.base))).map Page.blocks).getD []
    (pg.blocks.filter (fun b => b.bad && !old.any (fun c => decide (c.ssn = b.ssn) && c.bad))).foldl (fun m b =>
      (s.windowRuns pg b.plane b.line b.pos ((b.poss + 3) / 4) 0 (List.replicate (b.lines * ((b.poss + 3) / 4)) 0)).foldl (fun m r => Memory.write m r.1 r.2) m) m) m

/-- Blocks overlap in lines and positions of one plane. -/
def Block.overlaps (a b : Block) : Bool :=
  decide (a.plane = b.plane ∧ a.line < b.line + b.lines ∧ b.line < a.line + a.lines ∧ a.pos < b.pos + b.poss ∧ b.pos < a.pos + a.poss)

/-- A block can be dispatched now (R247). -/
def Core.dispatchable (s : Core) (pg : Page) (segs : List (Nat × Nat × Nat)) (b : Block) : Bool :=
  !b.done && !b.bad && !b.busy
    && segs.any (fun g => decide (g.1 = b.plane ∧ b.pos < g.2.2 ∧ g.2.1 < b.pos + b.poss) && decide (s.releasedOf pg g < (blockRange pg b).2))
    && s.hasSlot pg b b.line && !pg.blocks.any (fun c => c.busy && decide (c.ssn < b.ssn) && c.overlaps b)

/-- The earliest column of the page that needs a line of a block (R196): over the row-groups of its plane, the column of its first line in firing
order, or of the pair line that shares it. -/
def Core.blockCol (s : Core) (pg : Page) (m : PlaneMap) (b : Block) : Int :=
  let wr := s.wRange m
  let f : Int := ((blockRange pg b).1 : Int)
  let rs := (allPorts.flatMap (fun p => (s.rgs p).map (s.rowGroup pg m wr p))).filter (fun r =>
    decide (rmRole r.entry = 1 ∨ rmRole r.entry = 2) && decide (rmPlane r.entry = b.plane))
  let cs := rs.flatMap (fun r => [max 0 (r.colOf m f 0), max 0 (r.colOf m (pairLam m f) 0)])
  match cs with
  | [] => 0
  | c :: t => t.foldl min c

/-- The next block the window manager dispatches: page, earliest job column, block. -/
def Core.nextBlock (s : Core) : Option (Page × Int × Block) :=
  let l := s.startedPages.flatMap (fun pg =>
    let m := pg.own s
    let segs := s.segments pg m
    (pg.blocks.filter (s.dispatchable pg segs)).map (fun b => (pg, (pg.base : Int) + s.blockCol pg m b, b)))
  l.foldl (fun best e => match best with
    | none => some e
    | some o => if e.2.1 < o.2.1 ∨ (e.2.1 = o.2.1 ∧ e.2.2.ssn < o.2.2.ssn) then some e else some o) none

/-! ### Writing output (R240, R241) -/

/-- A descriptor is valid (R240): the decoder may take it. -/
def Core.descOk (s : Core) (e : Nat) : Bool :=
  let addr := e % 2 ^ 64
  let len := e / 2 ^ 64 % 2 ^ 32
  let v := s.locate addr
  decide (e / 2 ^ 96 = 1) && decide (1 ≤ len ∧ len ≤ 262144) && decide (v.1 = .dram ∨ v.1 = .plain) && s.reaches ownAvone addr len

/-- What stopped a run of output: nothing left, no descriptor, an invalid descriptor, an uncorrectable word, a bus error. -/
inductive Flush where
  | all | wait | desc | mem | bus
  deriving DecidableEq, Repr

/-- Write the pending bytes into the ring's buffers, at most `k` buffers. -/
def Core.flushRing (s : Core) (m : List Host.Cell) (d : Nat) : Nat → Decoder → Decoder × List Host.Cell × List (Nat × Nat) × Flush
  | 0, x => (x, m, [], if x.pend.isEmpty then .all else .wait)
  | k + 1, x =>
    if x.pend.isEmpty then (x, m, [], .all)
    else if x.room = 0 then
      let h := (s.rd Obj.dec_OUT_HEAD d 0 + x.used) % 256
      if h = s.rd Obj.dec_OUT_TAIL d 0 then (x, m, [], .wait)
      else
        let e := s.rd Obj.OUT_RING d h
        if s.descOk e then s.flushRing m d k { x with used := x.used + 1, addr := e % 2 ^ 64, room := e / 2 ^ 64 % 2 ^ 32 }
        else (x, m, [], .desc)
    else
      let n := min x.room x.pend.length
      if s.writeFault ownAvone x.addr n = 0 then
        let l := x.pend.take n
        let y := { x with pend := x.pend.drop n, addr := x.addr + n, room := x.room - n, out := l.reverse ++ x.out }
        let r := s.flushRing (s.storeAt m x.addr l) d k y
        (r.1, r.2.1, (x.addr, n) :: r.2.2.1, r.2.2.2)
      else (x, m, [], if s.writeFault ownAvone x.addr n = 1 then .bus else .mem)

/-- Write the pending bytes into the window: one descriptor per line, each as its line has a slot. -/
def Core.flushWindow (s : Core) (pg : Page) (b : Block) (x : Decoder) : Nat → Decoder × Flush
  | 0 => (x, if x.pend.isEmpty then .all else .wait)
  | k + 1 =>
    let r := s.flushWindow pg b x k
    let y := r.1
    if y.pend.isEmpty then (y, .all)
    else
      let lb := max 1 (hLineBytes y.hdr)
      let line := y.out.length / lb
      if !s.slotted pg b (hFirstCol y.hdr + line) then (y, .wait)
      else
        let n := min (lb - y.out.length % lb) y.pend.length
        ({ y with pend := y.pend.drop n, out := (y.pend.take n).reverse ++ y.out, used := line + 1 }, .all)

/-- Write what is pending: the decoder goes on, waits in OUT_WAIT, or ends its block. -/
def Core.flush (s : Core) (m : List Host.Cell) (d : Nat) : Core × List Host.Cell × Bool :=
  let x := s.decoder d
  let before := x.out.length
  let r : Decoder × List Host.Cell × List (Nat × Nat) × Flush := match x.win with
    | some w =>
      match (s.startedPages.find? (fun pg => decide (pg.base = w.1))).bind (fun pg => (pg.blocks.find? (fun b => decide (b.ssn = w.2))).map (fun b => (pg, b))) with
      | some (pg, b) =>
        let f := s.flushWindow pg b x 129
        let l := s.windowRuns pg (hPlane x.hdr) (hFirstCol x.hdr) (hFirstNoz x.hdr) (hLineBytes x.hdr) before ((f.1.out.take (f.1.out.length - before)).reverse)
        (f.1, l.foldl (fun m r => Memory.write m r.1 r.2) m, l.map (fun r => (r.1, r.2.length)), if f.1.pend.isEmpty then .all else f.2)
      | none => (x, m, [], .wait)
    | none => s.flushRing m d 512 x
  let y := r.1
  let t := ((r.2.2.1.foldl (fun (t : Core) (e : Nat × Nat) => t.mendWords (t.locate e.1).2 e.2) s).setDecoder d y).inc Obj.dec_BYTES_OUT d 0 (y.out.length - before)
  match r.2.2.2 with
  | .all => (t.setDec d decDecode, r.2.1, true)
  | .wait => (if t.decState d = decOutWait ∧ y.out.length = before then t else (t.setDec d decOutWait).inc Obj.dec_OUT_WAITS d 0 1, r.2.1, false)
  | .desc => (t.blockEnd d avDesc, r.2.1, false)
  | .mem => ((t.decError 2 (t.badAddr y.addr (min y.room y.pend.length))).blockEnd d avMem, r.2.1, false)
  | .bus => ((t.violation ownAvone y.addr (min y.room y.pend.length)).blockUnreached d, r.2.1, false)

/-! ### The steps of a block -/

/-- An IDLE decoder with a queued request and a free completion entry takes the request and reads the header (Table 9-7). -/
def Core.decTake (s : Core) (m : List Host.Cell) (d : Nat) : Core :=
  let rh := s.rd Obj.dec_REQ_HEAD d 0
  if d < 4 ∧ s.inModes [.config, .ready, .service] ∧ s.decState d = decIdle ∧ rh ≠ s.rd Obj.dec_REQ_TAIL d 0
      ∧ (s.rd Obj.dec_DONE_HEAD d 0 + 1) % 16 ≠ s.rd Obj.dec_DONE_TAIL d 0 then
    let q := s.rd Obj.REQ_RING d rh
    let x : Decoder := { src := q % 2 ^ 64, len := q / 2 ^ 64 % 2 ^ 32, tag := q / 2 ^ 96 % 2 ^ 32, limit := s.rd Obj.dec_OUT_LIMIT d 0,
                         desc := decide (q / 2 ^ 128 ≠ 0) }
    let x := if x.len < 32 ∨ x.desc then x else { x with hdr := s.decBytes m x 0 32, inBytes := 32 }
    ((s.setDecoder d x).setDec d decHeader).wr Obj.dec_REQ_HEAD d 0 ((rh + 1) % 16)
  else s

/-- The header checks end (Table 9-2). -/
def Core.decHeaderDone (s : Core) (d ecc errAddr : Nat) : Core :=
  if d < 4 ∧ s.decState d = decHeader then
    let x := s.decoder d
    let t := s.decError ecc errAddr
    let f := if x.len < 32 ∨ x.desc then 0 else t.decFault x 0 32
    if x.desc then t.blockEnd d avDesc
    else if f = 1 then (t.violation ownAvone (t.decAddr x 0) 32).blockUnreached d
    else if ecc = 2 then t.decMem d errAddr
    else if f = 2 then t.decBadWord d 0 32
    else
      let st := headerCheck x.hdr x.len x.limit t.presetValid
      if st ≠ avOk then t.blockEnd d st
      else if hCoding x.hdr = 2 then t.setDec d decTable
      else (t.setDecoder d (t.decReset x)).setDec d decDecode
  else s

/-- The code table is checked and built (check 6). -/
def Core.decTableDone (s : Core) (m : List Host.Cell) (d ecc errAddr : Nat) : Core :=
  if d < 4 ∧ s.decState d = decTable then
    let x := { s.decoder d with inBytes := 170 }
    let t := (s.decError ecc errAddr).setDecoder d x
    let f := t.decFault x 32 138
    if f = 1 then (t.violation ownAvone (t.decAddr x 32) 138).blockUnreached d
    else if ecc = 2 then t.decMem d errAddr
    else if f = 2 then t.decBadWord d 32 138
    else
      let b := t.decBytes m x 32 138
      if codeTableOk b then (t.setDecoder d (t.decReset { x with lens := codeLens b })).setDec d decDecode
      else t.blockEnd d avTable
  else s

/-- What one reading of the body gives: a code, an invalid one, no more bits. -/
inductive Reading where
  | code (v bits : Nat)
  | bad (bits : Nat)
  | trunc
  deriving DecidableEq, Repr

/-- Read the next code from a bit stream with `left` bits (R230, R234). -/
def Decoder.readCode (x : Decoder) (strm : Nat → Bool) (left : Nat) : Reading :=
  if hCoding x.hdr = 1 then
    let w := codeWidth x.n
    if left < w then .trunc else .code (streamVal strm 0 w) w
  else
    match readSym x.lens (fun i => decide (i < left) && strm i) 15 1 0 0 with
    | none => .trunc
    | some (sym, len) =>
      if left < len then .trunc
      else if sym < 258 then .code sym len
      else
        let c := sym - 258
        let e := c - 1
        if left < len + e then .trunc
        else
          let dist := if c = 0 then 0 else 2 ^ e + streamVal strm len e
          if x.n < 258 + dist then .bad (len + e) else .code (x.n - dist) (len + e)

/-- The string a code stands for, if the decoder accepts it (R229). -/
def Decoder.accept (x : Decoder) (v : Nat) : Option (List Byte) :=
  if v < 256 ∨ (258 ≤ v ∧ v < x.n) then some (x.str v)
  else if v = x.n ∧ x.n < 65536 then x.prev.map (fun p => p ++ p.take 1)
  else none

/-- The decoded bytes of a string written next: the inverse pre-transform over the bytes already written (R227). -/
def inversePre (lb : Nat) : List Byte → List Byte → List Byte
  | _, [] => []
  | out, t :: r =>
    let v := if lb ≤ out.length then t ^^^ nth 0 out (lb - 1) else t
    v :: inversePre lb (v :: out) r

/-- The string `w` is output: pending bytes, and the dictionary entry it defines (R229). -/
def Decoder.output (x : Decoder) (w : List Byte) : Decoder :=
  let y := { x with pend := if hPre x.hdr = 1 then inversePre (hLineBytes x.hdr) x.out w else w }
  let y := match x.prev with
    | some p => if x.n < 65536 then { y with dict := (p ++ w.take 1) :: y.dict, n := y.n + 1 } else y
    | none => y
  { y with prev := some w }

/-- After END: the rest of its byte and the end of the body (R231), then the length (R229). -/
def Decoder.endStatus (x : Decoder) (strm : Nat → Bool) : Nat :=
  let rest := 8 * ceilDiv x.bits 8 - x.bits
  if streamVal strm 0 rest ≠ 0 ∨ ceilDiv x.bits 8 ≠ hBody x.hdr then avTrail
  else if x.out.length < hDecoded x.hdr then avShort
  else avOk

/-- One code of a body (R229), or the body of a STORED block. -/
def Core.decCode (s0 : Core) (m : List Host.Cell) (d ecc errAddr : Nat) : Core × List Host.Cell :=
  if d < 4 ∧ (s0.decState d = decDecode ∨ (s0.decState d = decOutWait ∧ (s0.decoder d).win.isSome)) then
    let s := s0.decError ecc errAddr
    let x := s.decoder d
    let toCheck (t : Core) : Core :=
      if hCoding x.hdr = 0 ∧ t.decState d = decDecode ∧ (t.decoder d).out.length = hDecoded x.hdr then t.setDec d decCheck else t
    if ecc = 2 then (s.decMem d errAddr, m)
    else if !x.pend.isEmpty then let r := s.flush m d; (if r.2.2 then toCheck r.1 else r.1, r.2.1)
    else
      let o := 32 + hTableLen x.hdr
      let body := hBody x.hdr
      if hCoding x.hdr = 0 then
        let f := s.decFault x o body
        if f = 1 then ((s.violation ownAvone (s.decAddr x o) body).blockUnreached d, m)
        else if f = 2 then (s.decBadWord d o body, m)
        else
          let w := s.decBytes m x o body
          let y := { x with pend := if hPre x.hdr = 1 then inversePre (hLineBytes x.hdr) x.out w else w, bits := 8 * body, inBytes := o + body }
          let r := (s.setDecoder d y).flush m d
          (if r.2.2 then toCheck r.1 else r.1, r.2.1)
      else
        let from_ := x.bits / 8
        let n := min 5 (body - from_)
        let f := s.decFault x (o + from_) n
        if f = 1 then ((s.violation ownAvone (s.decAddr x (o + from_)) n).blockUnreached d, m)
        else if f = 2 then (s.decBadWord d (o + from_) n, m)
        else
          let word := ofLe (s.decBytes m x (o + from_) n)
          let strm (i : Nat) : Bool := bit word (x.bits % 8 + i)
          let step (k : Nat) (y : Decoder) : Decoder := { y with bits := y.bits + k, codes := y.codes + 1, inBytes := o + ceilDiv (y.bits + k) 8 }
          match x.readCode strm (8 * body - x.bits) with
          | .trunc => ((s.setDecoder d { x with inBytes := o + body }).blockEnd d avTrunc, m)
          | .bad k => ((s.setDecoder d (step k x)).blockEnd d avCode, m)
          | .code v k =>
            let y := step k x
            if v = 257 then
              let st := y.endStatus (fun i => strm (k + i))
              let t := s.setDecoder d y
              (if st = avOk then t.setDec d decCheck else t.blockEnd d st, m)
            else if v = 256 then (s.setDecoder d (s.decReset y), m)
            else
              match y.accept v with
              | none => ((s.setDecoder d y).blockEnd d avCode, m)
              | some w =>
                if min (hDecoded x.hdr) x.limit < y.out.length + w.length then ((s.setDecoder d y).blockEnd d avOverrun, m)
                else
                  let r := (s.setDecoder d (y.output w)).flush m d
                  (r.1, r.2.1)
  else (s0, m)

/-- CHECK ends: the CRC is compared (R237) and the record written. -/
def Core.decBlockEnd (s : Core) (d : Nat) : Core :=
  if d < 4 ∧ s.decState d = decCheck then
    let x := s.decoder d
    s.blockEnd d (if Crypto.crc32c x.data = hCrc x.hdr then avOk else avCrc)
  else s

/-- The window manager dispatches the next block it needs to the lowest-numbered free decoder (R247). -/
def Core.windowDispatch (s : Core) (m : List Host.Cell) : Core :=
  if s.inPrint then
    match [0, 1, 2, 3].find? (fun d => decide (s.decState d = decIdle)), s.nextBlock with
    | some d, some (pg, _, b) =>
      let x : Decoder := { src := b.addr, len := b.len, limit := s.rd Obj.dec_OUT_LIMIT d 0, win := some (pg.base, b.ssn) }
      let x := if x.len < 32 then x else { x with hdr := s.decBytes m x 0 32, inBytes := 32 }
      ((s.setDecoder d x).setDec d decHeader).updBlock (pg.base, b.ssn) (fun b => { b with busy := true })
    | _, _ => s
  else s

/-! ### Host writes (R232, R233, R238, R244) -/

/-- The modes in which the host drives the rings. -/
def Core.ringsOpen (s : Core) : Bool := s.inModes [.config, .ready, .service]

/-- A producer's tail does not move backward past its head. -/
def chkTail (size : Nat) (head tail : Ob) : WrChk := fun s _ d _ v =>
  let h := s.rd head d 0
  worse (stateIf (!s.ringsOpen)) (valueIf (decide (ringDist size h v < ringDist size h (s.rd tail d 0))))

/-- DONE_TAIL moves forward, not past DONE_HEAD. -/
def chkDoneTail : WrChk := fun s _ d _ v =>
  let old := s.rd Obj.dec_DONE_TAIL d 0
  worse (stateIf (!s.ringsOpen)) (valueIf (decide (ringDist 16 old (s.rd Obj.dec_DONE_HEAD d 0) < ringDist 16 old v)))

/-- OUT_TAIL: a decoder in OUT_WAIT goes on (R241). -/
def actOutTail : WrAct := fun b d _ v s =>
  if s.decState d = decOutWait ∧ (s.decoder d).win.isNone ∧ b.rd Obj.dec_OUT_TAIL d 0 ≠ v then s.setDec d decDecode else s

/-- DEC_ABORT ends the block with ABORTED; an IDLE decoder has none (R244). -/
def actDecAbort : WrAct := fun _ d _ v s => if v = 1 ∧ s.decState d ≠ decIdle then s.blockEnd d avAborted else s

/-- A decoder holds a block that names the preset (R233). -/
def Core.presetUsed (s : Core) (i : Nat) : Bool :=
  [0, 1, 2, 3].any (fun d =>
    let h := (s.decoder d).hdr
    decide (s.decState d ≠ decIdle) && hPreset h && decide (hPresetId h = i))

/-- PRESET_DATA (R232, R233). -/
def chkPreset : WrChk := fun s _ i _ v => worse (stateIf (s.inPrint || s.presetUsed i)) (presetCode (unpackBytes v))

/-- PRESET_DATA: VALID, COUNT and CRC in PRESET_INFO. -/
def actPreset : WrAct := fun _ i _ v s =>
  let b := unpackBytes v
  s.wr Obj.PRESET_INFO 0 i (leAt b 0 2 + 2 ^ 16 + Crypto.crc32c b * 2 ^ 32)

/-! ### The commands -/

/-- DECODER_TAKE_REQUEST (R244). -/
def execDecoderTakeRequest (dt dec : Nat) (s : State) : Host.Outcome State Fault Refusal :=
  onBoth (fun c m => ((c.advance dt).decTake m dec, m)) s

/-- DECODER_HEADER_DONE (R226). -/
def execDecoderHeaderDone (dt dec ecc errAddr : Nat) (s : State) : Host.Outcome State Fault Refusal :=
  onBoth (fun c m => let t := (c.advance dt).decHeaderDone dec ecc errAddr; (t, t.blankBad c m)) s

/-- DECODER_TABLE_DONE (R235). -/
def execDecoderTableDone (dt dec ecc errAddr : Nat) (s : State) : Host.Outcome State Fault Refusal :=
  onBoth (fun c m => let t := (c.advance dt).decTableDone m dec ecc errAddr; (t, t.blankBad c m)) s

/-- DECODE_CODE (R229). -/
def execDecodeCode (dt dec ecc errAddr : Nat) (s : State) : Host.Outcome State Fault Refusal :=
  onBoth (fun c m => let r := (c.advance dt).decCode m dec ecc errAddr; (r.1, r.1.blankBad c r.2)) s

/-- DECODER_BLOCK_END (R243). -/
def execDecoderBlockEnd (dt dec : Nat) (s : State) : Host.Outcome State Fault Refusal :=
  onBoth (fun c m => let t := (c.advance dt).decBlockEnd dec; (t, t.blankBad c m)) s

/-- WINDOW_DISPATCH (R247). -/
def execWindowDispatch (dt : Nat) (s : State) : Host.Outcome State Fault Refusal :=
  onBoth (fun c m => ((c.advance dt).windowDispatch m, m)) s

end Sys2Proof.Machine
end

