-- ==== Sys2Proof/Machine/Spool.lean ====
section
/-! DEFINITION. Spool banks and DRAM (ch. 11): owners and hand-over, quarantine, alias writes and atomic operations, MEM_DATA, Baste, the DRAM scrub. -/

namespace Sys2Proof.Machine

open Sys2Proof

/-! ### Bank states (Table 11-4) -/

def bankUnassigned : Nat := 0
def bankOwned : Nat := 1
def bankQuarantined : Nat := 2

/-- SB_STATE of a bank. -/
def Core.bankState (s : Core) (b : Nat) : Nat := s.rd Obj.SB_STATE 0 b

/-- A bank enters QUARANTINED: no access; both ports of a dual-port bank become NONE; a hand-over in progress reads FAILED (R295, Table 11-8). -/
def Core.quarantine (s : Core) (b : Nat) : Core :=
  let t := (s.endComp Obj.SB_OWNER 0 b false).wr Obj.SB_STATE 0 b bankQuarantined
  let t := if bankFixed b then t else (t.wr Obj.SB_OWNER 0 b 0).hwUpdate Obj.SB_OWNER 0 b
  let t := if bankDual b then ((t.endComp Obj.SB_OWNER_B 0 (b - 48) false).wr Obj.SB_OWNER_B 0 (b - 48) 0).hwUpdate Obj.SB_OWNER_B 0 (b - 48) else t
  { t with handing := t.handing.filter (fun x => decide (x.1 ≠ b ∧ (x.1 ≠ b + 2 ∨ !bankDual b))) }

/-- The present owner of a bank's port: the old one until a hand-over is complete (R294). -/
def Core.portOwner (s : Core) (slot : Nat) : Nat :=
  (Tab.get? s.handing slot).getD (if slot < 50 then s.rd Obj.SB_OWNER 0 slot else s.rd Obj.SB_OWNER_B 0 (slot - 50))

/-- The owner island is reset without a device reset: its banks enter QUARANTINED (Table 11-4). -/
def Core.quarantineOwner (s : Core) (who : Nat) : Core :=
  s.each ((List.range 50).filter (fun b => decide (s.bankState b = bankOwned)
      && (decide (s.portOwner b = who) || (bankDual b && decide (s.portOwner (b + 2) = who))))) Core.quarantine

/-- An owner of the print path (R296). -/
def printOwner (v : Nat) : Bool := decide (3 ≤ v ∧ v ≤ 5)

/-- SB_OWNER and SB_OWNER_B (R296). `old` and `v` are this port's owners; `other` is the other port's. -/
def Core.ownerCode (s : Core) (b old v other : Nat) : Nat :=
  worse (stateIf (bankFixed b || decide (s.bankState b = bankQuarantined) || (s.inPrint && decide (old ≠ v) && (printOwner old || printOwner v))))
    (valueIf (bankDual b && decide (v ≠ 0 ∧ v = other)))

/-- SB_OWNER. -/
def chkOwner : WrChk := fun s t _ b v => s.ownerCode b (s.rd Obj.SB_OWNER 0 b) v (t.rd Obj.SB_OWNER_B 0 (b - 48))

/-- SB_OWNER_B. -/
def chkOwnerB : WrChk := fun s t _ k v => s.ownerCode (48 + k) (s.rd Obj.SB_OWNER_B 0 k) v (t.rd Obj.SB_OWNER 0 (48 + k))

/-- A port of a bank takes a new owner: at once when UNASSIGNED, by hand-over when OWNED, QUARANTINED for NONE (R293, R294). `slot` names the port. -/
def Core.takeOwner (s : Core) (o : Ob) (j b slot old v : Nat) : Core :=
  if v = old then s
  else if s.bankState b = bankUnassigned then s.wr Obj.SB_STATE 0 b bankOwned
  else if v = 0 then s.quarantine b
  else { s.setCompO o 0 j 1 with handing := if s.handsOver slot then s.handing else Tab.set s.handing slot old }

/-- SB_OWNER. -/
def actOwner : WrAct := fun b0 _ b v s => s.takeOwner Obj.SB_OWNER b b b (b0.rd Obj.SB_OWNER 0 b) v

/-- SB_OWNER_B. -/
def actOwnerB : WrAct := fun b0 _ k v s => s.takeOwner Obj.SB_OWNER_B k (48 + k) (50 + k) (b0.rd Obj.SB_OWNER_B 0 k) v

/-- BANK_HANDOVER_DONE: the new owner holds the port (R294). -/
def Core.handoverDone (s : Core) (slot : Nat) : Core :=
  if s.handsOver slot then
    let t := { s with handing := Tab.erase s.handing slot }
    if slot < 50 then t.endComp Obj.SB_OWNER 0 slot true else t.endComp Obj.SB_OWNER_B 0 (slot - 50) true
  else s

/-- QUARANTINE_CLEARED: every word is zero with valid check bits; the bank moves on (Table 11-4). -/
def Core.quarantineCleared (s : Core) (m : List Host.Cell) (b : Nat) : Core × List Host.Cell :=
  if b < 50 ∧ s.bankState b = bankQuarantined then
    let sp := bankSpan b
    ({ s.wr Obj.SB_STATE 0 b (if bankFixed b then bankOwned else bankUnassigned) with
        badWords := s.badWords.filter (fun w => decide (w < sp.1 / 8 ∨ (sp.1 + sp.2) / 8 ≤ w)) }, Memory.clear m sp.1 (sp.1 + sp.2))
  else (s, m)

/-! ### Alias writes (R299) -/

/-- One write of a requester through an alias. A misaligned access, one that is not granted, or 16 collisions in a row end in a bus error. -/
def Core.aliasWrite (s : Core) (m : List Host.Cell) (k : View) (who addr width value coll : Nat) : Core × List Host.Cell :=
  let n := width / 8
  let v := s.locate addr
  if !s.running ∨ s.mode = .safe ∨ v.1 ≠ k ∨ !([8, 16, 32, 64].contains width) ∨ addr % n ≠ 0 then (s, m)
  else
    let t := if bankDual (bankOf v.2) then s.inc Obj.SB_COLLISIONS 0 (bankOf v.2 - 48) coll else s
    if t.writeFault who addr n = 1 then (t.violation who addr n, m)
    else if t.writeFault who addr n = 2 then (t.memError 2 addr, m)
    else if 16 ≤ coll then (t, m)
    else (t, t.storeAt m addr (leBytes n value))

/-! ### MEM_DATA and SP_ATOMIC (R291, R301) -/

/-- The abort code of a transfer of `n` bytes at MEM_ADDR (Table 11-9): it must be mapped and whole words, and every word granted to FOP. -/
def Core.memCode (s : Core) (n : Nat) : Nat :=
  let a := s.rd0 Obj.MEM_ADDR
  let v := s.locate a
  if n = 0 ∨ n % 8 ≠ 0 ∨ 1048576 < n then sizeC
  else if v.1 = .unmapped ∨ (s.locate (a + n - 1)).1 ≠ v.1 ∨ a % 8 ≠ 0 then valueC
  else stateIf (!s.reaches ownFop a n)

/-- MEM_ADDR is a multiple of 8. -/
def chkMemAddr : WrChk := fun _ _ _ _ v => valueIf (decide (v % 8 ≠ 0))

/-- MEM_DATA written. -/
def chkMemData : WrChk := fun _ t _ _ v => t.memCode (unpackBytes v).length

/-- The words of a MEM_DATA transfer that are uncorrectable, as counted by a read (R298, R310). -/
def Core.memBad (s : Core) (n : Nat) : Core :=
  let a := (s.locate (s.rd0 Obj.MEM_ADDR)).2
  (s.badWords.filter (fun w => decide (a ≤ 8 * w ∧ 8 * w < a + n))).foldl (fun t w => t.memError 2 (8 * w)) s

/-- Reading MEM_DATA meets an uncorrectable word. -/
def Core.memReadBad (s : Core) (n : Nat) : Bool := s.badIn (s.locate (s.rd0 Obj.MEM_ADDR)).2 n

/-- MEM_DATA written: the bytes at MEM_ADDR; through an alias an uncorrectable word fails it (R298). -/
def Core.memDataWrite (s : Core) (m : List Host.Cell) (b : List Byte) : Core × List Host.Cell :=
  let a := s.rd0 Obj.MEM_ADDR
  if s.writeFault ownFop a b.length = 0 then
    ((s.mendWords (s.locate a).2 (if (s.locate a).1 = .dram ∨ (s.locate a).1 = .plain then b.length else 0)).setCompO Obj.MEM_DATA 0 0 2, s.storeAt m a b)
  else ((s.memBad b.length).setCompO Obj.MEM_DATA 0 0 3, m)

def spAddr (v : Nat) : Nat := v % 2 ^ 64
def spOperand (v : Nat) : Nat := v / 2 ^ 64 % 2 ^ 64
def spOp (v : Nat) : Nat := v / 2 ^ 128 % 256

/-- Bytes of an atomic operation's operand (Table 11-5). -/
def spWidth (op : Nat) : Nat := if op % 2 = 1 then 4 else 8

/-- SP_ATOMIC (R301). -/
def chkAtomic : WrChk := fun s _ _ _ v =>
  let op := spOp v
  if op = 0 ∨ 4 < op ∨ v / 2 ^ 136 ≠ 0 ∨ spAddr v % spWidth op ≠ 0 ∨ (s.locate (spAddr v)).1 ≠ .plain then valueC
  else stateIf (!s.reaches ownFop (spAddr v) (spWidth op))

/-- The value an atomic operation stores (Table 11-5). -/
def atomicNew (op old x : Nat) : Nat :=
  match op with
  | 1 => (old + x) % 2 ^ 32
  | 2 => (old + x) % 2 ^ 64
  | 3 => x % 2 ^ 32
  | _ => x % 2 ^ 64

/-- The operation at the bank: indivisible; the old value in SP_ATOMIC_OLD (R300, R301). -/
def Core.atomic (s : Core) (m : List Host.Cell) (v : Nat) : Core × List Host.Cell :=
  let a := spAddr v
  let n := spWidth (spOp v)
  if s.badIn a n then (((s.memError 2 (a / 8 * 8)).wr0 Obj.SP_ATOMIC_OLD 0).setCompO Obj.SP_ATOMIC 0 0 3, m)
  else
    let old := ofLe (Memory.read m a n)
    ((s.wr0 Obj.SP_ATOMIC_OLD old).setCompO Obj.SP_ATOMIC 0 0 2, Memory.write m a (leBytes n (atomicNew (spOp v) old (spOperand v))))

/-! ### Baste (R304 to R306) -/

/-- Baste tests the bank. -/
def Core.basteRuns (s : Core) (b : Nat) : Bool :=
  decide (b < 50) && s.rdB Obj.BASTE_EN 0 0 && s.inModes [.config, .ready, .printWeb, .printScan, .service] && decide (s.bankState b ≠ bankQuarantined)

/-- Regions of a bank. -/
def basteRegions (b : Nat) : Nat := (bankSpan b).2 / 64

/-- Go on to the next region; at the end of the bank its pass is complete, and when every bank's is, BASTE_PASSES counts. -/
def Core.basteAdvance (s : Core) (b : Nat) : Core :=
  let n := Tab.get 0 s.basteNext b + 1
  let t := { s with basteTries := Tab.erase s.basteTries b }
  if n < basteRegions b then { t with basteNext := Tab.set t.basteNext b n }
  else
    let d := if t.basteDone.contains b then t.basteDone else t.basteDone ++ [b]
    let t := { t with basteNext := Tab.set t.basteNext b 0 }
    if (List.range 50).all (fun k => d.contains k || decide (t.bankState k = bankQuarantined)) then ({ t with basteDone := [] }).inc0 Obj.BASTE_PASSES
    else { t with basteDone := d }

/-- BASTE_REGION: one region of a bank every BASTE_PERIOD. A test that begins a bank's pass clears its BASTE_FAILED flag; words that are uncorrectable already
give their error again at step 1 (R306). -/
def Core.basteRegion (s0 : Core) (b ecc word : Nat) (abandoned : Bool) (failBit : Option Nat) : Core :=
  let early : Bool := match Tab.get? s0.basteAt b with | some c => decide (s0.clk < c + ns (s0.rd0 Obj.BASTE_PERIOD)) | none => false
  if !s0.basteRuns b ∨ early then s0
  else
    let r := Tab.get 0 s0.basteNext b
    let flags := s0.rd Obj.SB_FLAGS 0 b
    let s1 := { s0 with basteAt := Tab.set s0.basteAt b s0.clk }
    let s := if r = 0 then s1.wr Obj.SB_FLAGS 0 b (putBit flags 3 false) else s1
    if abandoned then
      let n := Tab.get 0 s.basteTries b + 1
      if 16 ≤ n then (s.inc0 Obj.BASTE_SKIPS).basteAdvance b else { s with basteTries := Tab.set s.basteTries b n }
    else
      let off := 64 * r + 8 * (word % 8)
      let bad := s.badWords.filter (fun w => decide ((bankSpan b).1 + 64 * r ≤ 8 * w ∧ 8 * w < (bankSpan b).1 + 64 * r + 64))
      let t := (bad.foldl (fun t w => t.memError 2 (8 * w)) s).memError ecc ((bankSpan b).1 + off)
      let t := match failBit with
        | some k =>
          let last := leBytes 1 b ++ leBytes 1 k ++ [0, 0] ++ leBytes 4 off ++ leBytes 8 t.ftNs
          (((t.wr0 Obj.BASTE_LAST (ofLe last)).inc0 Obj.BASTE_ERRORS).wr Obj.SB_FLAGS 0 b (putBit (t.rd Obj.SB_FLAGS 0 b) 3 true)).occur 1427 0
        | none => t
      t.basteAdvance b

/-! ### DRAM (R310 to R314) -/

/-- DRAM_SCRUB_DONE. -/
def Core.scrubDone (s : Core) : Core :=
  if s.rd0 Obj.DRAM_STATE = 2 then (s.wr0 Obj.DRAM_STATE 3).wr0 Obj.DRAM_SCRUB_POS (s.rd0 Obj.DRAM_SIZE) else s

/-- DRAM_REFRESH_CHANGE: DRAM_HOT is ACTIVE above the nominal rate, and raised once per entry (R314, R589). -/
def Core.refreshChange (s : Core) (code : Nat) (above : Bool) : Core :=
  if s.dramUp then (s.wr0 Obj.DRAM_REFRESH code).level 1433 0 above else s

/-- DRAM_ECC takes effect at the next wake from OFF (R310). -/
def actDramEcc : WrAct := fun _ _ _ _ s => s.wr0 Obj.DRAM_ECC_PENDING 1

/-! ### The commands -/

/-- BANK_HANDOVER_DONE (R294). -/
def execBankHandoverDone (dt bank : Nat) (s : State) : Host.Outcome State Fault Refusal := onCore (fun c => (c.advance dt).handoverDone bank) s

/-- QUARANTINE_CLEARED (R295). -/
def execQuarantineCleared (dt bank : Nat) (s : State) : Host.Outcome State Fault Refusal :=
  onBoth (fun c m => (c.advance dt).quarantineCleared m bank) s

/-- SPOOL_BIT_SET (R299). -/
def execSpoolBitSet (dt who addr width value coll : Nat) (s : State) : Host.Outcome State Fault Refusal :=
  onBoth (fun c m => (c.advance dt).aliasWrite m .bitSet who addr width value coll) s

/-- SPOOL_BIT_CLEAR (R299). -/
def execSpoolBitClear (dt who addr width value coll : Nat) (s : State) : Host.Outcome State Fault Refusal :=
  onBoth (fun c m => (c.advance dt).aliasWrite m .bitClear who addr width value coll) s

/-- BASTE_REGION (R304). -/
def execBasteRegion (dt bank ecc word : Nat) (abandoned : Bool) (failBit : Option Nat) (s : State) : Host.Outcome State Fault Refusal :=
  onCore (fun c => (c.advance dt).basteRegion bank ecc word abandoned failBit) s

/-- DRAM_SCRUB_DONE (R312). -/
def execDramScrubDone (dt : Nat) (s : State) : Host.Outcome State Fault Refusal := onCore (fun c => (c.advance dt).scrubDone) s

/-- DRAM_REFRESH_CHANGE (R314). -/
def execDramRefreshChange (dt code : Nat) (above : Bool) (s : State) : Host.Outcome State Fault Refusal :=
  onCore (fun c => (c.advance dt).refreshChange code above) s

end Sys2Proof.Machine
end

