-- ==== Sys2Proof/Machine/Bist.lean ====
section
/-! DEFINITION. Built-in self-test (ch. 21): the groups and their schedule, their results, repairs and validity. -/

namespace Sys2Proof.Machine

open Sys2Proof

/-! ### The groups (Table 21-1) -/

/-- Power of a group in W. -/
def bistPower (g : Nat) : Nat := nth 0 [0, 10, 10, 8, 12, 2, 6, 3, 1] g

/-- Bound of a group in ms. -/
def bistBound (g : Nat) : Nat := nth 0 [0, 250, 250, 300, 600, 400, 100, 50, 50] g

/-- The memories a group tests: a bank by its number, an internal memory by 50 more. -/
def bistMems (g : Nat) : List Nat :=
  if g = 1 then List.range 25 else if g = 2 then (List.range 25).map (25 + ·) else if g = 3 then (List.range 452).map (50 + ·) else []

/-- The checks a group makes, by ANALOG_RESULT subindex less 1. -/
def bistChecks (g : Nat) : List Nat :=
  if g = 5 then List.range 33 else if g = 6 then (List.range 64).map (33 + ·) else if g = 7 then (List.range 8).map (97 + ·)
  else if g = 8 then (List.range 8).map (105 + ·) else []

/-- The island of a memory. -/
def memIsland (m : Nat) : Nat := if m < 50 then 0x49 else Config.islandOfMem (m - 50) % 84

/-- The spare rows of a memory (R540). -/
def spareRows (m : Nat) : Nat := if m < 50 then (bankSpan m).2 / 65536 else 2

/-- A memory is not tested in PARK (R539). -/
def BistRun.memOut (r : BistRun) (kind m : Nat) : Bool :=
  decide (kind = 1) && ((r.ringUp && decide (24 ≤ m ∧ m ≤ 27)) || (decide (50 ≤ m) && [0x4B, 0x50, 0x53].contains (memIsland m)))

/-- A lane is not tested in PARK. -/
def BistRun.checkOut (r : BistRun) (kind c : Nat) : Bool := decide (kind = 1) && decide (97 ≤ c ∧ c ≤ 100) && bit r.lanes (c - 97)

/-- Lanes whose PCS has block lock: SL0 and SL1 by PORT_LINK, SL2 and SL3 by their ring port. -/
def Core.lockedLanes (s : Core) : Nat :=
  maskOf ((List.range 4).filter (fun k => if k < 2 then s.rdB Obj.hp_PORT_LINK k 0 else decide (s.rd Obj.rp_LINK_STATE (k - 2) 0 ≠ 0)))

/-! ### The schedule (R537) -/

/-- A run begins: the mark is cleared (R545). -/
def Core.bistStart (s : Core) (kind : Nat) : Core :=
  let t := { s with bist := { kind := kind, todo := [1, 2, 3, 4, 5, 6, 7, 8], began := s.clk, cut := true, repairs := s.bist.repairs } }
  let t := ((t.wr0 Obj.BIST_VALID 0).wr0 Obj.BIST_STATE kind).wr0 Obj.FAIL_OVERFLOW 0
  { t with objs := t.objs.filter (fun e => !Obj.FAIL_LIST.hasKey e.1) }

/-- The power in use: 6 W beside the running groups. -/
def Core.bistLoad (s : Core) : Nat := 6 + sumN (s.bist.running.map (fun r => bistPower r.group))

/-- BIST_GROUP_START: the first group not yet run, in table order, that fits. -/
def Core.bistGroupStart (s : Core) : Core :=
  match s.bist.todo.find? (fun g => decide (s.bistLoad + bistPower g ≤ s.rd0 Obj.BIST_POWER_CAP)) with
  | none => s
  | some g =>
    if s.bist.kind = 0 then s
    else { s with bist := { s.bist with
            todo := s.bist.todo.filter (· ≠ g)
            running := s.bist.running ++ [⟨g, s.clk, !s.upPorts.isEmpty, s.lockedLanes⟩] } }

/-! ### Memories (R540 to R542) -/

/-- Each entry once, in the order of its first place. -/
def dedup : List Nat → List Nat
  | [] => []
  | a :: t => a :: (dedup t).filter (· ≠ a)

/-- The rows of a memory that fail, in the order found, and its good spares. -/
def failRows (m : Nat) (fails : List BistFail) : List Nat := dedup ((fails.filter (fun f => decide (f.mem = m))).map (fun f => f.off / 512))

/-- The good spares of a memory. -/
def goodSpares (m : Nat) (bad : List (Nat × Nat)) : Nat := ((List.range (spareRows m)).filter (fun k => !bad.contains (m, k))).length

/-- Record a failing bit in FAIL_LIST, or count it. -/
def Core.bistFound (s : Core) (bad : List (Nat × Nat)) (all : List BistFail) (f : BistFail) : Core :=
  let row := f.off / 512
  let spared := ((failRows f.mem all).take (goodSpares f.mem bad)).contains row
  let e := leBytes 2 f.mem ++ leBytes 1 f.bit ++ leBytes 1 (f.bg % 4) ++ leBytes 4 f.off ++ leBytes 2 row ++ leBytes 1 (b2n (!spared)) ++ List.replicate 5 0
  let t := { s with bist := { s.bist with found := s.bist.found + 1 } }
  if s.bist.found < 256 then t.wr Obj.FAIL_LIST 0 s.bist.found (ofLe e) else t.inc0 Obj.FAIL_OVERFLOW

/-- The result of one memory: failing rows take the next good spares; without enough of them it is UNREPAIRABLE. -/
def Core.bistMem (s : Core) (fails : List BistFail) (bad : List (Nat × Nat)) (m : Nat) : Core :=
  let rows := failRows m fails
  let good := goodSpares m bad
  let used := min rows.length good
  let st := if rows.isEmpty then 1 else if rows.length ≤ good then 2 else 3
  let first := (fails.find? (fun f => decide (f.mem = m))).getD ⟨m, 0, 0, 0⟩
  let r := [BitVec.ofNat 8 st, BitVec.ofNat 8 (memIsland m)] ++ leBytes 1 (min 255 rows.length) ++ leBytes 1 (good - used) ++ leBytes 4 first.off
    ++ leBytes 1 first.bit ++ List.replicate 7 0
  let t := (s.wr Obj.MEM_RESULT 0 m (ofLe r))
  let t := { t with bist := { t.bist with repairs := if used = 0 then Tab.erase t.bist.repairs m else Tab.set t.bist.repairs m (rows.take used) } }
  let t := if 0 < used then t.occur (if m < 50 then 1616 + m else 1716 + memIsland m) first.off else t
  if st = 3 then t.occur (if m < 50 then 1666 + m else 1800 + memIsland m) first.off else t

/-- A block that is not tested keeps the outcome it has, marked CARRIED. -/
def Core.bistCarry (s : Core) (o : Ob) (j byte : Nat) : Core :=
  let v := s.rd o 0 j
  if v % 256 = 0 then s else s.wr o 0 j (putBit v (8 * byte) true)

/-- Soft repair sets SB_FLAGS[2] of each bank it changes (R542). -/
def Core.softRepair (s : Core) : Core :=
  s.each (List.range 50) (fun t b =>
    let old := t.rd Obj.SB_FLAGS 0 b
    let new := putBit old 2 (!(Tab.get [] t.bist.repairs b).isEmpty)
    if new = old then t else t.wr Obj.SB_FLAGS 0 b new)

/-! ### Signatures, analogue and loop-back checks (R543, R544) -/

/-- The result of a signature block. -/
def Core.bistSig (s : Core) (sigs : List Nat) (i : Nat) : Core :=
  let want := Config.signature i % 2 ^ 32
  let got := nth 0 sigs i % 2 ^ 32
  let ok := decide (want = got)
  let t := s.wr Obj.SIG_RESULT 0 i (ofLe (leBytes 4 (if ok then 1 else 2) ++ leBytes 4 want ++ leBytes 4 got ++ leBytes 4 (2 ^ 20)))
  if ok then t else ({ t with bist := { t.bist with spoiled := true } }).occur (1884 + i) 0

/-- The limit of a check in ppm of full scale or in bit errors (Table 21-2). -/
def checkLimit (c : Nat) : Nat := if c < 32 then 1000 else if c = 32 then 5000 else if c < 105 then 0 else 50000

/-- The supply a check needs is not good: VDD_AFE for AC00 to AC31, VDRV for ST0 to ST7. -/
def Core.checkSkipped (s : Core) (c : Nat) : Bool := (decide (c < 32) && !bit (s.rd0 Obj.RAIL_STATE) 8) || (decide (105 ≤ c) && !bit (s.rd0 Obj.RAIL_STATE) 9)

/-- A check passes. -/
def checkOk (x : BistCheck) : Bool := x.rest && decide (x.err.natAbs ≤ checkLimit x.idx)

/-- The check the environment reports for an index; one that is not reported found no error. -/
def checkOf (l : List BistCheck) (c : Nat) : BistCheck := (l.find? (fun x => decide (x.idx = c))).getD ⟨c, 0, true⟩

/-- The result of a check. -/
def Core.bistCheck (s : Core) (l : List BistCheck) (c : Nat) : Core :=
  let x := checkOf l c
  let rec_ (st : Nat) (e : Int) : Nat := ofLe (leBytes 4 st ++ leBytes 4 (rawOf 32 e) ++ leBytes 4 (checkLimit c) ++ leBytes 4 0)
  if s.checkSkipped c then (s.wr Obj.ANALOG_RESULT 0 c (rec_ 3 0)).occur 2005 0
  else if checkOk x then s.wr Obj.ANALOG_RESULT 0 c (rec_ 1 x.err)
  else
    let t := s.wr Obj.ANALOG_RESULT 0 c (rec_ 2 x.err)
    (if c = 32 then { t with bist := { t.bist with spoiled := true } } else t).occur (1888 + c) 0

/-! ### The end of a group (R538, R545, R548) -/

/-- The objects held in banks SB00 to SB11 whose default source is RESET. -/
def spoolHeld : List Ob := [Obj.K_CAL, Obj.PRESET_DATA, Obj.PRESET_INFO, Obj.REQ_RING, Obj.OUT_RING, Obj.DONE_RING, Obj.DESC_RING, Obj.CARRY]

/-- Spool banks a group tested are cleared and take their owners; objects they held that are not retained read their reset values (R307, R538). -/
def Core.bistReinit (s : Core) (m : List Host.Cell) (kind : Nat) (r : BistRun) : Core × List Host.Cell :=
  let banks := (bistMems r.group).filter (fun b => decide (b < 50) && !r.memOut kind b)
  let t := s.each banks (fun t b =>
    let sp := bankSpan b
    let own := bankFixed b || decide (t.rd Obj.SB_OWNER 0 b ≠ 0) || (bankDual b && decide (t.rd Obj.SB_OWNER_B 0 (b - 48) ≠ 0))
    let t := t.wr Obj.SB_STATE 0 b (if own then bankOwned else bankUnassigned)
    { t with badWords := t.badWords.filter (fun w => decide (w < sp.1 / 8 ∨ (sp.1 + sp.2) / 8 ≤ w))
             handing := t.handing.filter (fun x => decide (x.1 ≠ b ∧ (x.1 ≠ b + 2 ∨ !bankDual b))) })
  let t := if r.group = 1 then { t with objs := t.objs.filter (fun e => !spoolHeld.any (fun o => o.hasKey e.1)) } else t
  (t, banks.foldl (fun m b => Memory.clear m (bankSpan b).1 ((bankSpan b).1 + (bankSpan b).2)) m)

/-- GROUP_RESULT of a group that ends now. -/
def Core.bistGroupResult (s : Core) (r : BistRun) (st failures : Nat) : Core :=
  s.wr Obj.GROUP_RESULT 0 (r.group - 1) (ofLe (leBytes 1 st ++ [0] ++ leBytes 2 (min 65535 failures) ++ leBytes 4 ((s.clk - r.since) / 2000)
    ++ leBytes 8 (s.rd0 Obj.RESET_COUNT)))

/-- The group leaves the run; the last one ends it, with the mark if nothing forbids it. -/
def Core.bistLeave (s : Core) (g : Nat) : Core :=
  let t := { s with bist := { s.bist with running := s.bist.running.filter (fun r => decide (r.group ≠ g)) } }
  if t.bist.todo.isEmpty ∧ t.bist.running.isEmpty then
    let u := ((t.wr0 Obj.BIST_STATE 3).inc0 Obj.BIST_RUNS).wr0 Obj.BIST_DURATION ((t.clk - t.bist.began) / 2000)
    let u := u.wr0 Obj.BIST_VALID (b2n (!t.bist.spoiled))
    { u with bist := { u.bist with kind := 0, cut := false } }
  else t

/-- BIST_GROUP_END. -/
def Core.bistGroupEnd (s : Core) (m : List Host.Cell) (g : Nat) (fails : List BistFail) (bad : List (Nat × Nat)) (sigs : List Nat)
    (checks : List BistCheck) : Core × List Host.Cell :=
  match s.bist.running.find? (fun r => decide (r.group = g)) with
  | none => (s, m)
  | some r =>
    let kind := s.bist.kind
    let mems := bistMems g
    let tested := mems.filter (fun k => !r.memOut kind k)
    let fails := fails.filter (fun f => tested.contains f.mem)
    let t := s.each (mems.filter (r.memOut kind)) (fun t k => t.bistCarry Obj.MEM_RESULT k 9)
    let t := fails.foldl (fun t f => t.bistFound bad fails f) t
    let t := t.each tested (fun t k => t.bistMem fails bad k)
    let t := if g = 4 then t.each [0, 1, 2, 3] (fun t i => t.bistSig sigs i) else t
    let cs := bistChecks g
    let t := t.each (cs.filter (r.checkOut kind)) (fun t c => t.bistCarry Obj.ANALOG_RESULT c 1)
    let run := cs.filter (fun c => !r.checkOut kind c)
    let t := t.each run (fun t c => t.bistCheck checks c)
    let badSigs := if g = 4 then ((List.range 4).filter (fun i => decide (Config.signature i % 2 ^ 32 ≠ nth 0 sigs i % 2 ^ 32))).length else 0
    let badChecks := (run.filter (fun c => !s.checkSkipped c && !checkOk (checkOf checks c))).length
    let broken := tested.any (fun k => decide (goodSpares k bad < (failRows k fails).length)) || decide (0 < badSigs + badChecks)
    let t := t.bistGroupResult r (if broken then 2 else 1) (fails.length + badSigs + badChecks)
    if t.bist.kind = 0 then (t, m)
    else
      let t := if kind = 2 then t.softRepair else t
      let u := t.bistReinit m kind r
      (u.1.bistLeave g, u.2)

/-- BIST_GROUP_TIMEOUT: the group is ended, its blocks are re-initialised, no mark will be written. -/
def Core.bistTimeout (s : Core) (m : List Host.Cell) (g : Nat) : Core × List Host.Cell :=
  match s.bist.running.find? (fun r => decide (r.group = g) && decide (r.since + ms (bistBound g) ≤ s.clk)) with
  | none => (s, m)
  | some r =>
    let t := s.bistGroupResult r 3 0
    let u := ({ t with bist := { t.bist with spoiled := true } }).bistReinit m s.bist.kind r
    ((u.1.bistLeave g).occur 2002 0, u.2)

/-- BIST_INVALIDATE (R545, Table 21-4). -/
def actBistInvalidate : WrAct := fun _ _ _ v s =>
  if v = 1 then ({ s with bist := { s.bist with spoiled := true } }).wr0 Obj.BIST_VALID 0 else s

/-- At entry to CONFIG the source of each stored FAIL or UNREPAIRABLE result is raised (R546). -/
def Core.bistRaise (s : Core) : Core :=
  let t := s.each (List.range 502) (fun t m =>
    let v := t.rd Obj.MEM_RESULT 0 m
    if v % 256 = 3 then t.occur (if m < 50 then 1666 + m else 1800 + v / 256 % 256) (v / 2 ^ 32 % 2 ^ 32) else t)
  let t := t.each (List.range 4) (fun t i => if t.rd Obj.SIG_RESULT 0 i % 256 = 2 then t.occur (1884 + i) 0 else t)
  t.each (List.range 113) (fun t c => if t.rd Obj.ANALOG_RESULT 0 c % 256 = 2 then t.occur (1888 + c) 0 else t)

/-- BIST_GROUP_START (R537). -/
def execBistGroupStart (dt : Nat) (s : State) : Host.Outcome State Fault Refusal := onCore (fun c => (c.advance dt).bistGroupStart) s

/-- BIST_GROUP_END (R541). -/
def execBistGroupEnd (dt group : Nat) (fails : List BistFail) (badSpares : List (Nat × Nat)) (sigs : List Nat) (checks : List BistCheck) (s : State) :
    Host.Outcome State Fault Refusal :=
  onBoth (fun c m => (c.advance dt).bistGroupEnd m group fails badSpares sigs checks) s

/-- BIST_GROUP_TIMEOUT (R548). -/
def execBistGroupTimeout (dt group : Nat) (s : State) : Host.Outcome State Fault Refusal := onBoth (fun c m => (c.advance dt).bistTimeout m group) s

end Sys2Proof.Machine
end

