-- ==== Sys2Proof/Machine/Motion.lean ====
section
/-! DEFINITION. Motion (ch. 12): evaluation of the axes, Drive Link, bridges and their faults, stops, the cap sequence, and the checks and actions of its objects. -/

namespace Sys2Proof.Machine

open Sys2Proof

/-! ### Evaluation (R322) -/

/-- The segments of a change to a constant speed (R325): through rest when the sense changes. -/
def velSegs (v a sp acc dec J : Rat) : List Seg :=
  if v * sp < 0 then velRamp v a 0 dec J ++ velRamp 0 0 sp acc J
  else velRamp v a sp (if absRat v ≤ absRat sp then acc else dec) J

/-- What was asked for takes effect at this evaluation instant, from the commanded position, which is a rounded value (R322). -/
def Core.applyPlan (s : Core) (a : Nat) : Core :=
  let x := s.axis a
  let J := s.axR Obj.ax_JERK a
  let acc := s.axR Obj.ax_A_ACC a
  let p := roundPos (isStepper a) x.x
  let put (segs : List Seg) (tgt : Option Rat) : Core := s.setAxis a { x with x := p, segs := segs, plan := .keep, target := tgt, hold := false }
  match x.plan with
  | .keep => s
  | .stop => put (s.stopSegs a) none
  | .to tgt vmax => put (movePlan x.v x.a (tgt - p) vmax acc (s.axR Obj.ax_A_DEC a) J) (some tgt)
  | .vel sp none => put (velSegs x.v x.a sp acc (s.axR Obj.ax_A_DEC a) J) none
  | .vel sp (some lim) => put (movePlan x.v x.a (lim - p) (absRat sp) acc (s.axR Obj.ax_STOP_DEC a) J) (some lim)

/-- The axis stands with nothing left to do; a follower with its MASTER. -/
def Core.axisDone (s : Core) (a : Nat) : Bool :=
  let x := s.axis a
  decide (x.v = 0) && x.segs.isEmpty && decide (x.plan = .keep)
    && (!s.follower a || decide (s.axSt (s.masterOf a) ≠ axStopping ∨ (s.axis (s.masterOf a)).segs = [] ∧ (s.axis (s.masterOf a)).plan = .keep))

/-- Entry to a state at rest: HOLD_DELAY begins to count (R340). -/
def Core.rest (s : Core) (a st : Nat) : Core :=
  let t := s.setAxSt a st
  if isStepper a then t.arm .holdDelay (a - 4) (ms (t.rd Obj.st_HOLD_DELAY (a - 4) 0)) else t

/-- A move, stop or ramp that has come to rest (Table 12-4). -/
def Core.settleAxis (s : Core) (a : Nat) : Core :=
  if !s.axisDone a then s
  else
    let st := s.axSt a
    let fin := ((s.updAxis a (fun x => { x with x := x.target.getD x.x, target := none, home := 0, res := if x.res = 1 then 2 else x.res })).rest a axIdle).endComp
      Obj.ax_MOVE a 0 true
    if st = axMoving ∨ (st = axHoming ∧ (s.axis a).home ≠ 1) ∨ st = axStopping then fin.publishAxis a
    else if st = axFallback then
      let t := s.endComp Obj.ax_MOVE a 0 true
      if t.rdB Obj.st_SENSE_END (a - 4) 0 then t.setAxSt a axBraked
      else (t.updAxis a (fun x => { x with strongBarred := true })).rest a axIdle
    else if st = axSafeRamp then s.setAxSt a axSafeHeld
    else s

/-- A HOME run that has travelled HOME_SEARCH without an edge stops (R329). -/
def Core.homeCheck (s : Core) (a : Nat) : Core :=
  let x := s.axis a
  let lim := s.rd Obj.ax_HOME_SEARCH a 0
  if s.axSt a = axHoming ∧ x.home = 1 ∧ 0 < lim ∧ absRat (x.x - x.homeFrom) ≥ (lim : Rat) then (s.startStop a).occur 1505 0 else s

/-- The Comet axis at an evaluation instant: T_r when the rest position would reach the required point (R355). -/
def Core.cometAtEval (s : Core) (a : Nat) : Core :=
  if s.inPrint ∧ s.stop.isNone ∧ !s.comet.guest ∧ s.rd0 Obj.COMET_STATE = 1 ∧ s.comet.ramping ∧ s.cometAxis = some a then
    let x := (s.predictAt s.ftQ).getD 0
    let d := absRat (s.cometScale * ((s.rd Obj.ax_STOP_DIST a 0 : Nat) : Rat))
    if s.comet.sigma * (x - s.comet.xReq) + d ≥ 0 ∨ !s.cometMoving a then s.cometRamp else s
  else s

/-- The speed of the resume move in axis units (R360): σ V_RES / K, rounded to nearest. -/
def Core.cometSpeed (s : Core) : Int := roundRat (s.comet.sigma * ((s.rd0 Obj.V_RES : Nat) : Rat) / s.cometScale)

/-- The resume move has reached V_RES: its ramp has ended (Table 13-1). -/
def Core.cometAtSpeed (s : Core) (x : Axis) : Bool :=
  decide (x.plan = .keep) && (match x.segs.head? with
    | some g => decide (g.a = 0 ∧ g.j = 0)
    | none => decide (x.v ≠ 0 ∨ s.cometSpeed = 0))

/-- The Comet axis after an evaluation: back-up at rest, V_RES reached, or a move of the manoeuvre that failed (Table 13-1). -/
def Core.cometAfter (s : Core) : Core :=
  if s.inPrint ∧ s.stop.isNone ∧ !s.comet.guest then
    match s.cometAxis with
    | none => s
    | some a =>
      let x := s.axis a
      let st := s.rd0 Obj.COMET_STATE
      if (st = 3 ∨ st = 5) ∧ x.res = 3 then (s.setComet 0).occur 1523 0
      else if st = 3 ∧ x.res = 2 then (s.setComet 4).cometReadyCheck
      else if st = 5 ∧ s.cometAtSpeed x then s.setComet 0
      else s
  else s

/-- A geared stepper axis is carried while it is IDLE: at rest again it waits HOLD_DELAY, and moving it is not held (R340). -/
def Core.holdGeared (s : Core) (a : Nat) (before : Rat) : Core :=
  if !isStepper a ∨ s.axSt a ≠ axIdle then s
  else if (s.axis a).v ≠ 0 then s.updAxis a (fun x => { x with hold := false })
  else if before ≠ 0 then s.rest a axIdle else s

/-- One axis evaluated at time `t`. -/
def Core.evalAxis (s : Core) (t : Rat) (a : Nat) : Core :=
  if s.axSt a = axDisabled then s
  else (((((((s.setAxis a (s.axisAt a t)).holdGeared a (s.axis a).v).publishAxis a).homeCheck a).cometAtEval a).applyPlan a).publishAxis a).settleAxis a

/-! ### The cap sequence (R331) -/

/-- The axis may begin a move of the controller's own. -/
def Core.movable (s : Core) (a : Nat) : Bool :=
  decide (1 ≤ s.axSt a ∧ s.axSt a ≤ 3) && !s.follower a && !s.mot.groupStops.contains (s.rd Obj.ax_GROUP a 0)
    && !(decide (s.rd Obj.ax_V_MAX a 0 = 0 ∨ s.rd Obj.ax_A_ACC a 0 = 0 ∨ s.rd Obj.ax_A_DEC a 0 = 0 ∨ s.rd Obj.ax_STOP_DEC a 0 = 0
      ∨ s.rd Obj.ax_SAFE_DEC a 0 = 0))

/-- A target lies within the soft limits of the axis (R323). -/
def Core.inLimits (s : Core) (a : Nat) (x : Int) : Bool :=
  let lo := s.rdI Obj.ax_POS_MIN a 0
  let hi := s.rdI Obj.ax_POS_MAX a 0
  !decide (lo < hi) || decide (lo ≤ x ∧ x ≤ hi)

/-- A move to a position begins (R324): the one in progress fails. -/
def Core.beginTo (s : Core) (a : Nat) (target vmax : Rat) : Core :=
  ((s.failMove a).updAxis a (fun x => { x with plan := .to target vmax, res := 1, hold := false })).setAxSt a axMoving

/-- Start a CAP move on each enabled axis with a role; an axis that cannot take one fails. -/
def Core.capPhaseStart (s : Core) (role phase : Nat) : Core :=
  let l := (List.range 12).filter (fun a => decide (s.rd Obj.ax_ROLE a 0 = role) && decide (s.axSt a ≠ axDisabled))
  let t := s.each l (fun t a =>
    if t.movable a ∧ t.inLimits a (t.rdI Obj.ax_CAP_POS a 0) then t.beginTo a ((t.rdI Obj.ax_CAP_POS a 0 : Int) : Rat) (t.axR Obj.ax_V_MAX a)
    else t.updAxis a (fun x => { x with res := 3 }))
  { t with mot := { t.mot with capPhase := phase, capAxes := l, capDone := false } }

/-- The sequence ends, complete or not. -/
def Core.capEnd (s : Core) (ok : Bool) : Core :=
  { s with mot := { s.mot with capPhase := 0, capAxes := [], capDone := ok } }.endComp Obj.CAP_SEQ 0 0 ok

/-- The sequence looks at its moves: one that failed ends it; when all are complete, the second phase begins, or the sequence is complete. -/
def Core.capLook (s : Core) : Core :=
  if s.mot.capPhase = 0 then s
  else if s.mot.capAxes.any (fun a => decide ((s.axis a).res = 3)) then s.capEnd false
  else if s.mot.capAxes.all (fun a => decide ((s.axis a).res = 2)) then
    (if s.mot.capPhase = 1 then s.capPhaseStart 4 2 else s.capEnd true)
  else s

/-- The sequence begins with the LIFT axes. -/
def Core.capStart (s : Core) : Core := ((s.capPhaseStart 3 1).capLook).capLook

/-! ### After every change of motion -/

/-- Every member of a group is at rest. -/
def Core.groupAtRest (s : Core) (g : Nat) : Bool := (s.members g).all s.atRest

/-- Group stops that have come to rest end (R330); a group waiting to be disengaged is (R321). -/
def Core.groupsSettle (s : Core) : Core :=
  let done := s.mot.groupStops.filter s.groupAtRest
  let t := { s with mot := { s.mot with groupStops := s.mot.groupStops.filter (fun g => !s.groupAtRest g) } }
  let t := t.each done (fun t g => t.endComp Obj.grp_GROUP_STOP g 0 true)
  let off := t.mot.gearOff.filter t.groupAtRest
  let u := { t with mot := { t.mot with gearOff := t.mot.gearOff.filter (fun g => !t.groupAtRest g) } }
  u.each off (fun u g => ((u.wr Obj.grp_GEAR_ENGAGE g 0 0).hwUpdate Obj.grp_GEAR_ENGAGE g 0).endComp Obj.grp_GEAR_ENGAGE g 0 true)

/-- What follows every motion event: the cap sequence, the Comet, groups at rest. -/
def Core.motionAfter (s : Core) : Core := (((s.capLook).capLook).cometAfter).groupsSettle

/-! ### Entry to BRAKED, FALLBACK and FAULTED (Table 12-4) -/

/-- Enter one of the states for a source: the move fails, HOMED clears, the group disengages (R330), the source is remembered. -/
def Core.enterStop (s : Core) (a st src : Nat) : Core :=
  let t := ((s.failMove a).setAxFlag a 0 false).setAxSt a st
  (t.updAxis a (fun x => { x with causes := if x.causes.contains src then x.causes else x.causes ++ [src], openA := 0, openB := 0, implA := 0, implB := 0 }))
    |>.breakGroup (s.rd Obj.ax_GROUP a 0) a

/-- The commanded position holds at its present value, with speed 0, from now. -/
def Core.freeze (s : Core) (a : Nat) : Core :=
  (s.updAxis a (fun x => { x with v := 0, a := 0, segs := [], plan := .keep, target := none, tEval := s.ftSec })).publishAxis a

/-! ### Drive Link (R333 to R336) -/

/-- A SETPOINT frame (Table 12-5a). -/
def setpointFrame (flags seq period : Nat) (pos vel acc : Int) : List Byte :=
  let b := leBytes 1 0x21 ++ leBytes 1 flags ++ leBytes 2 seq ++ leBytes 4 period ++ leBytes 8 (rawOf 64 pos) ++ leBytes 4 (rawOf 32 vel)
    ++ leBytes 4 (rawOf 32 acc) ++ leBytes 4 0
  b ++ leBytes 4 (Crypto.crc32 b)

/-- FLAGS of the SETPOINT frames of an axis: ENABLE, SAFE, BRAKE (R333, R336, R347). -/
def Core.setpointFlags (s : Core) (a : Nat) : Nat :=
  let st := s.axSt a
  if st = axDisabled then 4
  else if st = axSafeRamp then 3
  else if st = axSafeHeld then (match (s.axis a).armEnd with | 0 => 3 | 1 => 6 | _ => 2)
  else if st = axFaulted ∧ ((s.axis a).v ≠ 0 ∨ (s.axis a).plan ≠ .keep) then 3
  else 1

/-- Send the SETPOINT frame of a servo tick at time `t` with period `T`, both in seconds: the commanded values of the next tick (R334), in the code groups of R333,
K27.7 for byte 0. -/
def Core.sendSetpoint (s : Core) (t T : Rat) (a : Nat) : Core :=
  if s.axSt a = axDisabled ∧ !(s.axis a).everEnabled then s
  else
    let x := if s.axSt a = axDisabled then s.axis a else s.axisAt a (t + T)
    let pos := satS 64 (roundRat ((x.x + x.off) * 65536))
    let seq := (x.setSeq + 1) % 65536
    let u := s.updAxis a (fun y => { y with setSeq := seq, sent := (pos :: y.sent).take 2 })
    let f := setpointFrame (s.setpointFlags a) seq (s.rd0 Obj.SERVO_PERIOD) pos (satS 32 (roundRat x.v)) (satS 32 (roundRat (x.a / 256)))
    let g := groupsAfter x.dlPlus 0xFB (f.drop 1)
    (((u.updAxis a (fun y => { y with dlPlus := g.2 })).emit .driveGroups a g.1 []).emit .setpoint a [] f).arm .drive a (ceilDiv s.clk 160 * 160 - s.clk + ns 2560 + us 10)

/-- A servo tick (R322): the set-point axes are evaluated, and each sends its frame. -/
def Core.servoTick (s : Core) : Core :=
  let P := s.rd0 Obj.SERVO_PERIOD
  let mark := s.ftNs / max 1 P * P
  let due : Bool := match s.mot.servo with | some m => decide (m < mark) | none => true
  if s.running ∧ due then
    let t := mkRat mark 1000000000
    let u := { s with mot := { s.mot with servo := some mark } }
    ((u.each [0, 1, 2, 3] (fun u a => u.evalAxis t a)).motionAfter).each [0, 1, 2, 3] (fun u a => u.sendSetpoint t (mkRat P 1000000000) a)
  else s

/-- A STATUS frame is valid (R336). -/
def Core.statusValid (s : Core) (d : Nat) (b : List Byte) (codeErr : Bool) : Bool :=
  !codeErr && decide (b.length = 32) && decide (leAt b 28 4 = Crypto.crc32 (b.take 28)) && decide (leAt b 0 1 = 0xA1)
    && decide (leAt b 1 1 < 64) && decide (leAt b 20 8 = 0) && decide (leAt b 2 2 = (s.axis d).setSeq) && s.armed .drive d && !s.due .drive d

/-- A missing or invalid STATUS (R336). -/
def Core.statusMissed (s : Core) (d : Nat) : Core :=
  ((s.updAxis d (fun x => { x with missed := x.missed + 1 })).inc Obj.dl_DL_MISSED d 0 1).disarm .drive d

/-- The first active edge of HOME in a search (R329): the position latched is that of the evaluation instant at or before the edge; the axis stops, and
its coordinate shifts so that the latched position reads HOME_POS, with no change of the motor's. -/
def Core.homeEdge (s : Core) (a : Nat) : Core :=
  let x := s.axis a
  if s.axSt a = axHoming ∧ x.home = 1 then
    let d := ((s.rdI Obj.ax_HOME_POS a 0 : Int) : Rat) - roundPos (isStepper a) x.x
    ((s.setAxis a { x with x := x.x + d, off := x.off - d, home := 2, plan := .stop }).setAxFlag a 0 true).publishAxis a
  else s

/-- A HOME input of an axis takes a level. -/
def Core.homeInput (s : Core) (a : Nat) (on : Bool) : Core :=
  let was := bit (s.rd Obj.ax_AX_FLAGS a 0) 2
  let t := s.setAxFlag a 2 on
  if on ∧ !was then t.homeEdge a else t

/-- A LIM input of an axis takes a level (R323): AX_LIMIT follows it. -/
def Core.limInput (s : Core) (a : Nat) (on : Bool) : Core := (s.setAxFlag a 3 on).level (1440 + a) 0 on

/-- A STATUS frame from a drive (R336). -/
def Core.driveStatus (s : Core) (d : Nat) (b : List Byte) (codeErr : Bool) : Core :=
  if !s.running ∨ 4 ≤ d ∨ !s.armed .drive d then s
  else if !s.statusValid d b codeErr then s.statusMissed d
  else
    let fl := leAt b 1 1
    let pos := signedOf 64 (leAt b 4 8)
    let t := ((s.updAxis d (fun x => { x with missed := 0 })).disarm .drive d).level (1476 + d) 0 false
    let t := ((t.wrI Obj.dl_ACT_POS d 0 pos).wr Obj.dl_DL_FLAGS d 0 fl).wr Obj.dl_FAULT_CODE d 0 (leAt b 16 2)
    let t := (t.homeInput d (bit fl 3)).limInput d (bit fl 4)
    let t := if bit fl 2 then t.occur (1480 + d) 0 else t
    let max_ := t.rd Obj.dl_FOLLOW_MAX d 0
    let t := match (t.axis d).sent with
      | [_, prev] => if 0 < max_ ∧ (pos - prev).natAbs > max_ * 65536 then t.occur (1484 + d) 0 else t
      | _ => t
    t.motionAfter

/-- No valid STATUS within 10 µs of the end of the SETPOINT frame (R336). -/
def Core.driveStatusMissing (s : Core) (d : Nat) : Core :=
  if s.running ∧ d < 4 ∧ s.due .drive d then s.statusMissed d else s

/-- Three missing or invalid in a row (R336): DL_LINK; the axis is FAULTED, and its set-points follow its STOP ramp. -/
def Core.dlLink (s : Core) (d : Nat) : Core :=
  if s.running ∧ d < 4 ∧ 3 ≤ (s.axis d).missed ∧ !(s.srcRec (1476 + d)).active then
    let st := s.axSt d
    let t := if st ≠ axDisabled ∧ st ≠ axSafeHeld then
        (s.enterStop d axFaulted (1476 + d)).updAxis d (fun x => { x with plan := .stop })
      else s.setAxFlag d 0 false
    (t.level (1476 + d) 0 true).motionAfter
  else s

/-! ### Stepper drive (R338 to R342) -/

/-- sin(π k / 512) for k from 0 to 256, scaled by 2^60: the Taylor series of π k / 512 to its twelfth term. -/
def sinQuarter (k : Nat) : Int :=
  let x : Int := 3622009729038561421 * (k : Int) / 512
  let rec go : Nat → Int → Int → Int → Int
    | 0, _, _, acc => acc
    | n + 1, i, term, acc =>
      let next := -(term * x / 2 ^ 60 * x / 2 ^ 60) / (2 * i * (2 * i + 1))
      go n (i + 1) next (acc + next)
  go 12 1 x x

/-- sin θ of microstep `m` modulo 1,024, scaled by 2^60 (R340). -/
def sinMicro (m : Nat) : Int :=
  let k := m % 1024
  if k ≤ 256 then sinQuarter k
  else if k ≤ 512 then sinQuarter (512 - k)
  else if k ≤ 768 then -sinQuarter (k - 512)
  else -sinQuarter (1024 - k)

/-- cos θ of microstep `m`, scaled by 2^60. -/
def cosMicro (m : Nat) : Int := sinMicro (m + 256)

/-- The microstep of an axis within its electrical cycle: the motor's position modulo 1,024. -/
def Axis.theta (x : Axis) : Nat := (roundRat (x.x + x.off) % 1024).toNat

/-- A signed duty in units of 2^-16: U × trig / VBUS, within ±DUTY_MAX (R338, R340). -/
def dutyOf (u : Rat) (trig : Int) (vbus freq : Nat) : Int :=
  let lim : Rat := 1 - mkRat freq 10000000
  let w := u * mkRat trig (2 ^ 60)
  let d : Rat := if vbus = 0 then (if w = 0 then 0 else sgnRat w * lim) else w / vbus
  roundRat ((if d > lim then lim else if d < -lim then -lim else d) * 65536)

/-- The quiet-mode voltage U in mV (R340), from the armed copy on Hem's ramp (R347). -/
def Core.quietVolt (s : Core) (n : Nat) : Rat :=
  let x := s.axis (4 + n)
  let f := absRat x.v / 256
  let st := s.axSt (4 + n)
  if st = axSafeHeld then (x.armHold : Rat)
  else if st = axSafeRamp then (x.armQuiet : Rat) + (x.armBemf : Rat) * f / 1000
  else if x.hold then ((s.rd Obj.st_HOLD_VOLT n 0 : Nat) : Rat)
  else ((s.rd Obj.st_QUIET_VOLT n 0 : Nat) : Rat) + ((s.rd Obj.st_BEMF_K n 0 : Nat) : Rat) * f / 1000

/-- Drive the bridges of STn for the coming period: 0 quiet duties of A and B in 2^-16 and the dead time; 1 strong-mode current targets in mA with what shapes the
period (R341): dead time, blanking, fast decay and the longest drive phase, in ns; 2 both low sides on, 3 every gate off. -/
def Core.bridge (s : Core) (n : Nat) : Core :=
  let a := 4 + n
  let x := s.axis a
  let st := s.axSt a
  let quiet : Core :=
    let d (trig : Int) : Int := dutyOf (s.quietVolt n) trig (s.rd Obj.st_VBUS n 0) (s.rd Obj.st_PWM_FREQ n 0)
    s.emit .bridge n [0, d (cosMicro x.theta), d (sinMicro x.theta), (s.rd Obj.st_DEAD_T n 0 : Int)] []
  let amp (trig : Int) : Int := roundDiv (s.rd Obj.st_I_RUN n 0 * trig) (2 ^ 60)
  if st = axDisabled ∨ st = axFaulted ∨ (st = axSafeHeld ∧ 2 ≤ x.armEnd) then s.emit .bridge n [3] []
  else if st = axBraked ∨ (st = axSafeHeld ∧ x.armEnd = 1) then s.emit .bridge n [2] []
  else if s.rd Obj.st_CUR_MODE n 0 = 1 then
    s.emit .bridge n ([1, amp (cosMicro x.theta), amp (sinMicro x.theta)] ++ [s.rd Obj.st_DEAD_T n 0, s.rd Obj.st_CHOP_BLANK n 0, s.rd Obj.st_FAST_T n 0,
      1000000000 / max 1 (s.rd Obj.st_PWM_FREQ n 0) - (s.rd Obj.st_FAST_T n 0 + 100)].map Int.ofNat) []
  else quiet

/-- The current mode at a period boundary (R342). -/
def Core.curMode (s : Core) (n : Nat) : Bool :=
  let a := 4 + n
  let f := absRat (s.axis a).v / 256
  if !decide (1 ≤ s.axSt a ∧ s.axSt a ≤ 4) || (s.axis a).strongBarred then false
  else match s.rd Obj.st_MODE_SEL n 0 with
    | 1 => false
    | 2 => true
    | _ =>
      if s.rd Obj.st_CUR_MODE n 0 = 0 then decide (f > ((s.rd Obj.st_STRONG_ON n 0 : Nat) : Rat))
      else !decide (f < ((s.rd Obj.st_STRONG_OFF n 0 : Nat) : Rat))

/-- The run of failing periods of a phase after one more (R343): it qualifies when the target is at least half of I_RUN, and fails when its peak is
below a quarter of its target. -/
def openRun (iRun run : Nat) (trig peak : Int) : Nat :=
  if 2 * trig.natAbs < 2 ^ 60 then run
  else if 4 * peak.natAbs * 2 ^ 60 < iRun * trig.natAbs then run + 1 else 0

/-- The run of implausible periods of a phase after one more (R344). -/
def implRun (iRun run : Nat) (trig peak : Int) (lim : Bool) : Nat :=
  if lim || decide (4 * (trig.sign * peak) < -(iRun : Int)) then run + 1 else 0

/-- What the axis sampled in the period that ends: published, and every test of R343, R344 and R346 counted. -/
def Core.sampled (s : Core) (n : Nat) (b : BridgeSample) : Core :=
  let a := 4 + n
  let b := { b with vbus := min 62500 b.vbus }
  let t := ((s.wr Obj.st_VBUS n 0 b.vbus).wrI Obj.st_I_A n 0 b.iA).wrI Obj.st_I_B n 0 b.iB
  let uv := decide (b.vbus < t.rd Obj.st_VBUS_UV n 0)
  let ov := decide (b.vbus > t.rd Obj.st_VBUS_OV n 0)
  let t := (t.level (1489 + n) 0 ((t.srcRec (1489 + n)).active && uv)).level (1497 + n) 0 ((t.srcRec (1497 + n)).active && ov)
  let i := t.rd Obj.st_I_RUN n 0
  t.updAxis a (fun x =>
    let y := { x with uvRun := if uv then x.uvRun + 1 else 0, ovRun := if ov then x.ovRun + 1 else 0 }
    match x.micro with
    | some m =>
      { y with
        openA := openRun i x.openA (cosMicro m) b.endA
        openB := openRun i x.openB (sinMicro m) b.endB
        implA := implRun i x.implA (cosMicro m) b.endA b.limA
        implB := implRun i x.implB (sinMicro m) b.endB b.limB }
    | none => y)

/-- The boundary begins a period: the mode in force, and what the bridges do. A change to quiet mode clears the runs (R343). -/
def Core.periodStart (s : Core) (n : Nat) : Core :=
  let strong := s.curMode n
  let t := s.wr Obj.st_CUR_MODE n 0 (b2n strong)
  (t.updAxis (4 + n) (fun x =>
    if strong then { x with micro := some x.theta } else { x with micro := none, openA := 0, openB := 0, implA := 0, implB := 0 })).bridge n

/-- The instant of boundary `k` of a frequency: k × 10^9 / f ns, down to a whole cycle of 5 ns (R322). -/
def pwmAt (f k : Nat) : Nat := k * 1000000000 / max 1 f / 5 * 5

/-- The newest boundary at or before FT. -/
def Core.pwmIndex (s : Core) (f : Nat) : Nat :=
  let k := s.ftNs * f / 1000000000
  if pwmAt f (k + 1) ≤ s.ftNs then k + 1 else k

/-- A PWM boundary of a frequency (R322): its stepper axes are evaluated and their bridges driven. -/
def Core.pwmBoundary (s : Core) (f : Nat) (samples : List BridgeSample) : Core :=
  let k := s.pwmIndex f
  let due : Bool := match Tab.get? s.mot.pwm f with | some j => decide (j < k) | none => true
  if s.running ∧ due then
    let l := (List.range 8).filter (fun n => decide (s.rd Obj.st_PWM_FREQ n 0 = f))
    let u := { s with mot := { s.mot with pwm := Tab.set s.mot.pwm f k } }
    let u := u.each l (fun u n => match samples.find? (fun b => decide (b.st = n)) with | some b => u.sampled n b | none => u)
    let u := u.each l (fun u n => u.evalAxis (mkRat (pwmAt f k) 1000000000) (4 + n))
    (u.motionAfter).each l Core.periodStart
  else s

/-! ### Faults of the stepper outputs (R343 to R346) -/

/-- The axis runs: IDLE, MOVING, HOMING or STOPPING. -/
def Core.axRuns (s : Core) (a : Nat) : Bool := decide (1 ≤ s.axSt a ∧ s.axSt a ≤ 4)

/-- Eight consecutive qualifying periods failed (R343): both low sides on, BRAKED, the position held. -/
def Core.phaseOpen (s : Core) (n : Nat) : Core :=
  let a := 4 + n
  if s.running ∧ n < 8 ∧ s.axRuns a ∧ (8 ≤ (s.axis a).openA ∨ 8 ≤ (s.axis a).openB) then
    ((((s.freeze a).enterStop a axBraked (1452 + n)).wr Obj.st_CUR_MODE n 0 0).bridge n |>.occur (1452 + n) 0).motionAfter
  else s

/-- Current sensing has failed (R344): FALLBACK in quiet mode, on the STOP ramp to rest. -/
def Core.senseFail (s : Core) (n : Nat) : Core :=
  let a := 4 + n
  let t := if s.axRuns a then
      ((s.enterStop a axFallback (1460 + n)).updAxis a (fun x => { x with plan := .stop, strongBarred := true, micro := none })).wr Obj.st_CUR_MODE n 0 0
    else s
  (t.occur (1460 + n) 0).motionAfter

/-- The amplifier reads the 50 mV reference within 5% of what its gain makes of it. -/
def Core.refReads (s : Core) (n mV : Nat) : Bool :=
  let e := 50 * s.rd Obj.st_SHUNT_GAIN n 0
  decide (20 * ((mV : Int) - e).natAbs ≤ e)

/-- The reference test of every SENSE_TEST_PERIOD (R344). -/
def Core.senseTest (s : Core) (n resA resB : Nat) : Core :=
  let due : Bool := match Tab.get? s.mot.sense n with | some c => decide (c + us (s.rd Obj.st_SENSE_TEST_PERIOD n 0) ≤ s.clk) | none => true
  if s.running ∧ n < 8 ∧ due then
    let t := { s with mot := { s.mot with sense := Tab.set s.mot.sense n s.clk } }
    if t.refReads n resA ∧ t.refReads n resB then t else t.senseFail n
  else s

/-- Four implausible periods of a phase (R344). -/
def Core.senseImplausible (s : Core) (n : Nat) : Core :=
  let x := s.axis (4 + n)
  if s.running ∧ n < 8 ∧ s.axRuns (4 + n) ∧ (4 ≤ x.implA ∨ 4 ≤ x.implB) then s.senseFail n else s

/-- Every gate of an enabled axis turns off and it is FAULTED, freewheeling (R345, R346). -/
def Core.gatesOff (s : Core) (n src : Nat) : Core :=
  let a := 4 + n
  (((s.freeze a).enterStop a axFaulted src).wr Obj.st_CUR_MODE n 0 0).bridge n

/-- A desaturation (R345), whatever the state of an enabled axis. -/
def Core.desaturation (s : Core) (n gate : Nat) : Core :=
  if s.running ∧ n < 8 ∧ gate < 8 ∧ s.axSt (4 + n) ≠ axDisabled then ((s.gatesOff n (1468 + n)).occur (1468 + n) 0).motionAfter else s

/-- VDRV below 7.5 V for 10 µs (R346). -/
def Core.vdrvLow (s : Core) : Core :=
  if s.running then
    ((s.each ((List.range 8).filter (fun n => decide (s.axSt (4 + n) ≠ axDisabled))) (fun t n => t.gatesOff n 1488)).level 1488 0 true).motionAfter
  else s

/-- VBUS outside a limit for three periods (R346). -/
def Core.vbusFault (s : Core) (n : Nat) (high : Bool) : Core :=
  let x := s.axis (4 + n)
  if s.running ∧ n < 8 ∧ 3 ≤ (if high then x.ovRun else x.uvRun) then ((s.level ((if high then 1497 else 1489) + n) 0 true)).motionAfter else s

/-- At rest for HOLD_DELAY (R340). -/
def Core.holdExpiry (s : Core) (n : Nat) : Core :=
  if s.running ∧ n < 8 ∧ s.due .holdDelay n then
    let t := s.disarm .holdDelay n
    if t.axSt (4 + n) = axIdle ∧ t.axisDone (4 + n) then t.updAxis (4 + n) (fun x => { x with hold := true }) else t
  else s

/-! ### Host writes (R320 to R332, R350) -/

/-- The group conditions of R321 hold of every group. -/
def Core.groupsOk (w : Core) : Bool :=
  (List.range 8).all (fun g =>
    let l := w.members g
    let m := w.rd Obj.grp_MASTER g 0
    let pg := w.printGroup g
    (!pg || !l.any (fun a => decide (w.rd Obj.ax_ROLE a 0 = 6)))
      && (decide (m = 0xFF) || (l.contains m && (!pg || decide (w.rd Obj.ax_ROLE m 0 = 1 ∨ w.rd Obj.ax_ROLE m 0 = 2)))))

/-- An axis is DISABLED or IDLE. -/
def Core.quietAxis (s : Core) (a : Nat) : Bool := decide (s.axSt a = axDisabled ∨ s.axSt a = axIdle)

/-- A write to ROLE: only while DISABLED (R320). -/
def chkRole : WrChk := fun s w a _ _ => worse (stateIf (s.axSt a ≠ axDisabled)) (valueIf (!w.groupsOk))

/-- A write to GROUP: the axis, and every axis of the group it leaves and of the one it joins, is DISABLED or IDLE (R321). -/
def chkGroup : WrChk := fun s w a _ v =>
  worse (stateIf !((a :: (s.members (s.rd Obj.ax_GROUP a 0) ++ s.members v)).all (fun b =>
    s.quietAxis b || decide (b ≠ a ∧ 8 ≤ s.rd Obj.ax_GROUP b 0)))) (valueIf (!w.groupsOk))

/-- A write to MASTER. -/
def chkMaster : WrChk := fun s w g _ _ => worse (stateIf !((s.members g).all s.quietAxis)) (valueIf (!w.groupsOk))

/-- Capture the positions of an engaged group (R321). -/
def Core.capture (s : Core) (g : Nat) : Core :=
  let m := s.rd Obj.grp_MASTER g 0
  let xm := roundPos (isStepper m) (s.axis m).x
  s.each (s.members g) (fun t a => t.updAxis a (fun x => { x with captM := xm, captF := roundPos (isStepper a) x.x }))

/-- A change of membership or MASTER of an engaged group captures afresh. -/
def actGroup : WrAct := fun _ a _ _ w =>
  let g := w.rd Obj.ax_GROUP a 0
  if g < 8 ∧ w.rdB Obj.grp_GEAR_ENGAGE g 0 then w.capture g else w

/-- The same for MASTER. -/
def actMaster : WrAct := fun _ g _ _ w => if w.rdB Obj.grp_GEAR_ENGAGE g 0 then w.capture g else w

/-- GEAR_ENGAGE 1: a MASTER, and every axis of the group IDLE. -/
def chkGear : WrChk := fun s _ g _ v =>
  stateIf (v = 1 ∧ (s.rd Obj.grp_MASTER g 0 = 0xFF ∨ !(s.members g).all (fun a => decide (s.axSt a = axIdle))))

/-- Engage at once; disengage when every axis is at rest. -/
def actGear : WrAct := fun s g _ v w =>
  if v = 1 then { w with mot := { w.mot with gearOff := w.mot.gearOff.filter (· ≠ g) } }.capture g
  else if s.rdB Obj.grp_GEAR_ENGAGE g 0 ∧ !s.groupAtRest g then
    { (w.wr Obj.grp_GEAR_ENGAGE g 0 1).setCompO Obj.grp_GEAR_ENGAGE g 0 1 with mot := { w.mot with gearOff := g :: w.mot.gearOff.filter (· ≠ g) } }
  else w

/-- GROUP_STOP (R330). -/
def actGroupStop : WrAct := fun _ g _ v w =>
  if v = 1 then (((w.groupStop g).setCompO Obj.grp_GROUP_STOP g 0 1).motionAfter) else w

/-- CAP_SEQ: not in PRINT, nor while a sequence runs. -/
def chkCapSeq : WrChk := fun s _ _ _ v => stateIf (!s.inModes [.config, .ready, .service] ∨ (v = 1 ∧ s.mot.capPhase ≠ 0))

/-- CAP_SEQ starts the sequence. -/
def actCapSeq : WrAct := fun _ _ _ v w => if v = 1 then (w.setCompO Obj.CAP_SEQ 0 0 1).capStart else w

/-- SERVO_PERIOD: a multiple of 250 ns, while every axis is DISABLED. -/
def chkServo : WrChk := fun s _ _ _ v =>
  worse (valueIf (v % 250 ≠ 0)) (stateIf !((List.range 12).all (fun a => decide (s.axSt a = axDisabled))))

/-- A stepper axis has what R338 asks of ENABLE. -/
def Core.stepperReady (s : Core) (a : Nat) : Bool :=
  !isStepper a ||
    (let n := a - 4
     decide (s.rd Obj.st_R_SHUNT n 0 ≠ 0 ∧ s.rd Obj.st_QUIET_VOLT n 0 ≠ 0) && !(decide (s.rd Obj.st_I_RUN n 0 = 0) && decide (s.rd Obj.st_MODE_SEL n 0 ≠ 1)))

/-- A parameter without which ENABLE and MOVE are rejected is 0 (R328). -/
def Core.paramZero (s : Core) (a : Nat) : Bool :=
  [Obj.ax_V_MAX, Obj.ax_A_ACC, Obj.ax_A_DEC, Obj.ax_STOP_DEC, Obj.ax_SAFE_DEC].any (fun o => decide (s.rd o a 0 = 0))

/-- ENABLE (R328, R332, R338). -/
def chkEnable : WrChk := fun s _ a _ v =>
  let st := s.axSt a
  if !s.inModes [.config, .ready, .printWeb, .printScan, .service] then stateC
  else if v = 1 then stateIf (st = axDisabled ∧ (s.paramZero a ∨ !s.stepperReady a))
  else stateIf (st ≠ axDisabled ∧ (!(decide (st = axIdle ∨ st = axBraked ∨ st = axFaulted)) ∨ (s.axis a).causes.any s.isRaised))

/-- DISABLED to IDLE at the present position, Hem's copy armed; or to DISABLED. -/
def actEnable : WrAct := fun s a _ v w =>
  let st := s.axSt a
  if v = 1 then
    if st = axDisabled then
      let t := w.updAxis a (fun x => { x with
        v := 0
        a := 0
        segs := []
        plan := .keep
        target := none
        home := 0
        tEval := w.ftSec
        everEnabled := true
        strongBarred := false
        hold := false
        missed := 0
        causes := [] })
      let t := if t.follower a then t.updAxis a (fun x =>
          { x with captM := roundPos (isStepper (t.masterOf a)) (t.axis (t.masterOf a)).x, captF := roundPos (isStepper a) x.x }) else t
      ((t.armAxis a).rest a axIdle).publishAxis a
    else w
  else if st = axDisabled then w
  else
    let t := ((w.freeze a).updAxis a (fun x => { x with causes := [], micro := none })).setAxSt a axDisabled
    if isStepper a then (t.wr Obj.st_CUR_MODE (a - 4) 0 0).bridge (a - 4) else t

/-! ### MOVE (R324, R328) -/

/-- KIND of a MOVE. -/
def moveKind (v : Nat) : Nat := v % 256

/-- SPEED of a MOVE. -/
def moveSpeed (v : Nat) : Int := signedOf 32 (v / 2 ^ 32)

/-- TARGET of a MOVE. -/
def moveTarget (v : Nat) : Int := signedOf 64 (v / 2 ^ 64)

/-- The position a MOVE of kind ABS, REL, CAP or UNCAP goes to. -/
def Core.moveGoal (s : Core) (a v : Nat) : Int :=
  match moveKind v with
  | 1 => moveTarget v
  | 2 => s.rdI Obj.ax_POS a 0 + moveTarget v
  | 6 => s.rdI Obj.ax_CAP_POS a 0
  | _ => s.rdI Obj.ax_UNCAP_POS a 0

/-- A MOVE record outside its stated ranges (R6, R323, Table 12-3). -/
def Core.moveBad (s : Core) (a v : Nat) : Bool :=
  let k := moveKind v
  let sp := moveSpeed v
  let vmax := s.rd Obj.ax_V_MAX a 0
  decide (k = 0 ∨ 8 ≤ k ∨ v / 256 % 2 ^ 24 ≠ 0)
    || (if k = 1 ∨ k = 2 ∨ k = 5 then decide (sp < 0 ∨ (vmax : Int) < sp) else if k = 3 then decide (vmax < sp.natAbs) else decide (sp ≠ 0))
    || (decide (k ≠ 1 ∧ k ≠ 2) && decide (moveTarget v ≠ 0))
    || (decide (k = 1 ∨ k = 2 ∨ k = 6 ∨ k = 7) && !s.inLimits a (s.moveGoal a v))

/-- The limit a VEL move approaches, on a bounded axis. -/
def Core.velLimit (s : Core) (a : Nat) (sp : Int) : Option Rat :=
  if s.rdI Obj.ax_POS_MIN a 0 < s.rdI Obj.ax_POS_MAX a 0 ∧ sp ≠ 0 then
    some ((if sp < 0 then s.rdI Obj.ax_POS_MIN a 0 else s.rdI Obj.ax_POS_MAX a 0 : Int) : Rat)
  else none

/-- A replanned move would pass a limit while reversing (R323). -/
def Core.passesLimit (s : Core) (a v : Nat) : Bool :=
  let x := s.axis a
  let k := moveKind v
  let lo : Rat := ((s.rdI Obj.ax_POS_MIN a 0 : Int) : Rat)
  let hi : Rat := ((s.rdI Obj.ax_POS_MAX a 0 : Int) : Rat)
  if lo < hi ∧ x.v ≠ 0 ∧ k ≠ 4 ∧ k ≠ 5 then
    let dec := if k = 3 then s.axR Obj.ax_STOP_DEC a else s.axR Obj.ax_A_DEC a
    let rest := x.x + segsDist x.v (velRamp x.v x.a 0 dec (s.axR Obj.ax_JERK a))
    let goal : Rat := if k = 3 then (s.velLimit a (moveSpeed v)).getD x.x else ((s.moveGoal a v : Int) : Rat)
    let reverses := decide ((goal - x.x) * x.v < 0 ∨ absRat (rest - x.x) > absRat (goal - x.x))
    reverses && decide (rest < lo ∨ hi < rest)
  else false

/-- The axis belongs to a print group while a stop or a Comet is in progress. -/
def Core.printBusy (s : Core) (a : Nat) : Bool :=
  let g := s.rd Obj.ax_GROUP a 0
  decide (g < 8) && s.printGroup g && (s.stop.isSome || decide (s.rd0 Obj.COMET_STATE ≠ 0))

/-- The modes that admit a MOVE and a write of ENABLE (R328, Table 18-4). -/
def motionModes : List Mode := [.config, .ready, .printWeb, .printScan, .service]

/-- A MOVE (R324, R328, R329). A STOP is accepted in every state but DISABLED and those of R347. In PRINT SCAN no other MOVE to a FEED axis is accepted
while a pass fires (R482). -/
def chkMove : WrChk := fun s _ a _ v =>
  let st := s.axSt a
  let k := moveKind v
  let role := s.rd Obj.ax_ROLE a 0
  let conflict : Bool :=
    if k = 4 then !s.inModes motionModes || decide (st = axDisabled ∨ st = axSafeRamp ∨ st = axSafeHeld) || s.follower a || s.paramZero a
    else !s.inModes motionModes || !decide (1 ≤ st ∧ st ≤ 3) || s.follower a
      || s.mot.groupStops.contains (s.rd Obj.ax_GROUP a 0) || s.printBusy a || s.paramZero a
      || (decide (k = 5) && decide (s.rd Obj.ax_HOME_MODE a 0 = 0)) || (decide (k = 6 ∨ k = 7) && !decide (role = 3 ∨ role = 4))
      || s.passesLimit a v || (decide (s.mode = .printScan) && decide (role = 1) && s.passFiring)
  worse (stateIf conflict) (valueIf (s.moveBad a v))

/-- A MOVE accepted. -/
def actMove : WrAct := fun s a _ v w =>
  let k := moveKind v
  let sp := moveSpeed v
  let vmax := w.axR Obj.ax_V_MAX a
  let run (t : Core) : Core := t.setCompO Obj.ax_MOVE a 0 1
  let t := w.failMove a
  (match k with
  | 3 => run ((t.updAxis a (fun x => { x with plan := .vel (sp : Rat) (w.velLimit a sp), res := 1, hold := false })).setAxSt a axMoving)
  | 4 =>
    if s.stoppable a then
      run ((t.startStop a).each ((t.members (t.rd Obj.ax_GROUP a 0)).filter (fun b => t.follower b && decide (t.masterOf b = a)))
        (fun t b => if t.stoppable b then t.setAxSt b axStopping else t))
    else if s.axSt a = axStopping ∨ s.axSt a = axFallback then run t
    else w
  | 5 =>
    let h := w.axR Obj.ax_HOME_SPEED a
    let lim : Rat := if sp = 0 then h else if (sp : Rat) < h then (sp : Rat) else h
    let sg : Rat := if w.rd Obj.ax_HOME_MODE a 0 = 1 then -1 else 1
    run ((t.updAxis a (fun x => { x with plan := .vel (sg * lim) none, res := 1, hold := false, home := 1, homeFrom := x.x })).setAxSt a axHoming)
  | _ => run (t.beginTo a ((s.moveGoal a v : Int) : Rat) (if (k = 1 ∨ k = 2) ∧ sp ≠ 0 then (sp : Rat) else vmax))).motionAfter

/-- SET_POS: only while IDLE (R329). -/
def chkSetPos : WrChk := fun s _ a _ _ => stateIf (s.axSt a ≠ axIdle)

/-- SET_POS sets the commanded position and HOMED; the motor's does not change. -/
def actSetPos : WrAct := fun _ a _ v w =>
  let p : Rat := ((signedOf 64 v : Int) : Rat)
  ((w.updAxis a (fun x => { x with x := p, off := x.off + x.x - p })).setAxFlag a 0 true).publishAxis a

/-! ### Parameters -/

/-- POS_MIN and POS_MAX: a bounded axis, or both 0 (R323). -/
def chkBounds : WrChk := fun _ w a _ _ =>
  let lo := w.rdI Obj.ax_POS_MIN a 0
  let hi := w.rdI Obj.ax_POS_MAX a 0
  valueIf !(decide (lo < hi) || decide (lo = 0 ∧ hi = 0))

/-- HOME_SPEED from 1 to V_MAX when HOME_MODE is not 0. -/
def chkHome : WrChk := fun _ w a _ _ =>
  valueIf (w.rd Obj.ax_HOME_MODE a 0 ≠ 0 ∧ (w.rd Obj.ax_HOME_SPEED a 0 = 0 ∨ w.rd Obj.ax_V_MAX a 0 < w.rd Obj.ax_HOME_SPEED a 0))

/-- STOP_DEC: SAFE_DEC stays at least it (R347). -/
def chkDec : WrChk := fun _ w a _ _ => valueIf (w.rd Obj.ax_SAFE_DEC a 0 < w.rd Obj.ax_STOP_DEC a 0)

/-- An object of Hem's armed copy, of axis `a`: not in SAFE_RAMP or SAFE_HELD (Table 12-8). -/
def chkArmed (s : Core) (a : Nat) : Nat := stateIf (s.axSt a = axSafeRamp ∨ s.axSt a = axSafeHeld)

/-- SAFE_DEC. -/
def chkSafeDec : WrChk := fun s w a j v => worse (chkArmed s a) (chkDec s w a j v)

/-- SAFE_END. -/
def chkSafeEnd : WrChk := fun s _ a _ _ => chkArmed s a

/-- QUIET_VOLT, BEMF_K and HOLD_VOLT of a stepper axis. -/
def chkStArmed : WrChk := fun s _ n _ _ => chkArmed s (4 + n)

/-- Hem's copy is taken again once armed (R347). -/
def actArm : WrAct := fun _ a _ _ w => if bit (w.rd Obj.ax_AX_FLAGS a 0) 1 then w.armAxis a else w

/-- The same for a stepper record. -/
def actStArm : WrAct := fun s n j v w => actArm s (4 + n) j v w

/-- PWM_FREQ: only while DISABLED. -/
def chkPwm : WrChk := fun s _ n _ _ => stateIf (s.axSt (4 + n) ≠ axDisabled)

/-- STRONG_OFF below STRONG_ON (R342). -/
def chkStrong : WrChk := fun _ w n _ _ => valueIf (w.rd Obj.st_STRONG_ON n 0 ≤ w.rd Obj.st_STRONG_OFF n 0)

/-- VBUS_UV below VBUS_OV (R346). -/
def chkVbus : WrChk := fun _ w n _ _ => valueIf (w.rd Obj.st_VBUS_OV n 0 ≤ w.rd Obj.st_VBUS_UV n 0)

/-- INPUT_POL of a stepper axis: the pin's level stands, so an input whose polarity changes takes its other state (R323). -/
def actInputPol : WrAct := fun b a _ v w =>
  let flip (k : Nat) : Bool := isStepper a && bit (b.rd Obj.ax_INPUT_POL a 0) k != bit v k
  let t := if flip 0 then w.homeInput a (!bit (w.rd Obj.ax_AX_FLAGS a 0) 2) else w
  if flip 1 then (t.limInput a (!bit (t.rd Obj.ax_AX_FLAGS a 0) 3)).motionAfter else t

/-! ### The commands -/

/-- SERVO_TICK (R322). -/
def execServoTick (dt : Nat) (s : State) : Host.Outcome State Fault Refusal :=
  onCore (fun c => (c.advance dt).servoTick) s

/-- PWM_BOUNDARY (R322). -/
def execPwmBoundary (dt freq : Nat) (samples : List BridgeSample) (s : State) : Host.Outcome State Fault Refusal :=
  onCore (fun c => (c.advance dt).pwmBoundary freq samples) s

/-- DRIVE_STATUS (R336). -/
def execDriveStatus (dt dl : Nat) (bytes : List Byte) (codeErr : Bool) (s : State) : Host.Outcome State Fault Refusal :=
  onCore (fun c => (c.advance dt).driveStatus dl bytes codeErr) s

/-- DRIVE_STATUS_MISSING (R336). -/
def execDriveStatusMissing (dt dl : Nat) (s : State) : Host.Outcome State Fault Refusal :=
  onCore (fun c => (c.advance dt).driveStatusMissing dl) s

/-- DL_LINK (R336). -/
def execDlLink (dt dl : Nat) (s : State) : Host.Outcome State Fault Refusal :=
  onCore (fun c => (c.advance dt).dlLink dl) s

/-- HOME_EDGE (R329): STn_HOME has held a level for 1 µs; INPUT_POL says which level is active. -/
def execHomeEdge (dt axis : Nat) (high : Bool) (s : State) : Host.Outcome State Fault Refusal :=
  onCore (fun c => let t := c.advance dt; if t.running ∧ 4 ≤ axis ∧ axis < 12 then t.homeInput axis (high == bit (t.rd Obj.ax_INPUT_POL axis 0) 0) else t) s

/-- LIM_ACTIVE (R323). -/
def execLimActive (dt axis : Nat) (s : State) : Host.Outcome State Fault Refusal :=
  onCore (fun c => let t := c.advance dt; if t.running ∧ 4 ≤ axis ∧ axis < 12 then (t.limInput axis true).motionAfter else t) s

/-- LIM_INACTIVE (R589). -/
def execLimInactive (dt axis : Nat) (s : State) : Host.Outcome State Fault Refusal :=
  onCore (fun c => let t := c.advance dt; if t.running ∧ 4 ≤ axis ∧ axis < 12 then t.limInput axis false else t) s

/-- PHASE_OPEN (R343). -/
def execPhaseOpen (dt st : Nat) (s : State) : Host.Outcome State Fault Refusal :=
  onCore (fun c => (c.advance dt).phaseOpen st) s

/-- SENSE_REFERENCE_TEST (R344). -/
def execSenseReferenceTest (dt st resA resB : Nat) (s : State) : Host.Outcome State Fault Refusal :=
  onCore (fun c => (c.advance dt).senseTest st resA resB) s

/-- SENSE_PLAUSIBILITY_FAIL (R344). -/
def execSensePlausibilityFail (dt st : Nat) (s : State) : Host.Outcome State Fault Refusal :=
  onCore (fun c => (c.advance dt).senseImplausible st) s

/-- DESATURATION (R345). -/
def execDesaturation (dt st gate : Nat) (s : State) : Host.Outcome State Fault Refusal :=
  onCore (fun c => (c.advance dt).desaturation st gate) s

/-- VDRV_UNDERVOLTAGE (R346). -/
def execVdrvUndervoltage (dt : Nat) (s : State) : Host.Outcome State Fault Refusal :=
  onCore (fun c => (c.advance dt).vdrvLow) s

/-- VBUS_FAULT (R346). -/
def execVbusFault (dt st : Nat) (high : Bool) (s : State) : Host.Outcome State Fault Refusal :=
  onCore (fun c => (c.advance dt).vbusFault st high) s

/-- HOLD_DELAY_EXPIRY (R340). -/
def execHoldDelayExpiry (dt st : Nat) (s : State) : Host.Outcome State Fault Refusal :=
  onCore (fun c => (c.advance dt).holdExpiry st) s

end Sys2Proof.Machine
end

