-- ==== Sys2Proof/Machine/RingRx.lean ====
section
/-! DEFINITION. A frame arriving on a ring port (R370 to R375): checked, delivered, forwarded; messages in fragments. -/

namespace Sys2Proof.Machine

open Sys2Proof

/-- FLAGS of a frame. -/
def frFlags (b : List Byte) : Nat := leAt b 1 1
/-- SRC of a frame. -/
def frSrc (b : List Byte) : Nat := leAt b 4 2 % 4096
/-- HOPS of a frame. -/
def frHops (b : List Byte) : Nat := leAt b 6 2
/-- SEQ of a frame. -/
def frSeq (b : List Byte) : Nat := leAt b 8 4
/-- LEN of a frame. -/
def frLen (b : List Byte) : Nat := leAt b 12 2
/-- FRAG of a frame. -/
def frFrag (b : List Byte) : Nat := leAt b 14 2
/-- Payload of a frame. -/
def frPayload (b : List Byte) : List Byte := (b.drop 16).take (frLen b)

/-- The frame is whole and its CRC is correct (R125, R370). -/
def frOk (b : List Byte) : Bool :=
  decide (b.length = 20 + frLen b) && decide (frLen b ≤ 512) && decide (leAt b (16 + frLen b) 4 = Crypto.crc32 (b.take (16 + frLen b)))

/-- A TYPE that Table 14-2 leaves reserved. -/
def reservedType (typ : Nat) : Bool := !([1, 2, 3, 0x10, 0x11, 0x12, 0x13, 0x20, 0x21, 0x22, 0x23, 0x30, 0x31, 0x32].contains typ)

/-- The frame with one more hop and another payload of the same length, its CRC computed again (R370). -/
def frOnward (b payload : List Byte) : List Byte :=
  let h := b.take 6 ++ leBytes 2 (frHops b + 1) ++ (b.drop 8).take 8 ++ payload
  h ++ leBytes 4 (Crypto.crc32 h)

/-- The controller delivers the frame (R372). `serial` is the serial it names when DST is 0. -/
def Core.frMine (s : Core) (b : List Byte) (serial : Option Nat) : Bool :=
  let me := s.rd0 Obj.NODE_ID
  (decide (frDst b = me ∧ me ≠ 0)) || decide (frDst b = 4095) || (decide (frDst b = 0) && decide (serial = some (Config.serial % 2 ^ 64)))

/-- The controller forwards the frame (R372). -/
def Core.frForward (s : Core) (b : List Byte) (mine : Bool) : Bool :=
  let top := if s.rd0 Obj.TOPO_COUNT = 0 then 4094 else s.rd0 Obj.TOPO_COUNT
  !(mine && decide (frDst b ≠ 4095)) && !(decide (frSrc b = s.rd0 Obj.NODE_ID ∧ frSrc b ≠ 0)) && decide (frHops b < top)

/-- Send a frame on by the other port, through its buffer unless it is sent on cut-through, or count it as unforwardable (R372 to R375). -/
def Core.sendOn (s : Core) (k : Nat) (b payload : List Byte) : Core :=
  if s.upPorts.contains (1 - k) then
    (if cutThrough (frType b) then s.ringSend (1 - k) .ringFrame (frOnward b payload) else s.ringForward (1 - k) (frOnward b payload))
  else s.dropFrame (1 - k)

/-- An aborted copy leaves by the other port (R374). -/
def Core.sendAborted (s : Core) (k : Nat) : Core := if s.upPorts.contains (1 - k) then s.emit .ringFrame (1 - k) [-1] [] else s

/-- The first copy of a frame sent with BOTH is the one with a newer SEQ (R372). -/
def Core.firstCopy (s : Core) (b : List Byte) : Bool :=
  !bit (frFlags b) 0 || (match Tab.get? s.ring.rx (256 * frSrc b + frType b) with | some q => decide (0 < seqDist 32 (frSeq b) q) | none => true)

/-- A frame of type `typ` arrives on port `k`: a failed CRC is counted, and a cut-through copy already started ends aborted; a sound one is forwarded with
the payload `onward` makes of its own, and delivered when it is for this controller. A frame of a reserved TYPE is discarded and counted (R371; log entry
176). -/
def Core.rxFrame (s0 : Core) (k typ : Nat) (b : List Byte) (serial : Option Nat) (onward : List Byte → List Byte)
    (deliver : Core → Core) : Core :=
  let s := (s0.ringFlush 0).ringFlush 1
  if !s.running ∨ 2 ≤ k ∨ s.rd Obj.rp_LINK_STATE k 0 ≠ 3 then s
  else if !frOk b then
    let t := s.inc Obj.rp_LINK_ERR k 1 1
    if cutThrough typ ∧ t.frForward b (t.frMine b serial) then t.sendAborted k else t
  else if frType b ≠ typ then (if reservedType (frType b) then s.inc Obj.rp_LINK_ERR k 0 1 else s)
  else
    let mine := s.frMine b serial
    let t := if s.frForward b mine then s.sendOn k b (onward (frPayload b)) else s
    if mine ∧ t.firstCopy b ∧ !(decide (frSrc b = t.rd0 Obj.NODE_ID)) then
      deliver { t with ring := { t.ring with rx := Tab.set t.ring.rx (256 * frSrc b + typ) (frSeq b) } }
    else t

/-! ### Fragments (R372) -/

/-- The bytes of a message whose fragments cover it from 0 to `n`. -/
def joinParts (n : Nat) (l : List (Nat × List Byte)) : Option (List Byte) :=
  let whole := l.foldl (fun (m : List Byte) p => if p.1 ≤ m.length ∧ m.length < p.1 + p.2.length then m ++ p.2.drop (m.length - p.1) else m) []
  if whole.length = n then some whole else none

/-- Insert a fragment in order of offset. -/
def insertPart (p : Nat × List Byte) : List (Nat × List Byte) → List (Nat × List Byte)
  | [] => [p]
  | q :: t => if p.1 < q.1 then p :: q :: t else if p.1 = q.1 then p :: t else q :: insertPart p t

/-- Messages not complete 1 ms after their first fragment are discarded. -/
def Core.fragTimeout (s : Core) : Core :=
  { s with ring := { s.ring with frags := s.ring.frags.filter (fun f => decide (s.clk < f.since + ms 1)) } }

/-- A fragment arrives: the whole message, where this completes it. -/
def Core.reassemble (s0 : Core) (b : List Byte) : Option (List Byte) × Core :=
  let s := s0.fragTimeout
  let same (f : Frag) : Bool := decide (f.src = frSrc b ∧ f.typ = frType b ∧ f.seq = frSeq b)
  let f := (s.ring.frags.find? same).getD ⟨frSrc b, frType b, frSeq b, s.clk, [], none⟩
  let g := { f with
    parts := insertPart (frFrag b, frPayload b) f.parts
    total := if bit (frFlags b) 1 then some (frFrag b + frLen b) else f.total }
  let rest := s.ring.frags.filter (fun x => !same x)
  match g.total with
  | some n =>
    match joinParts n g.parts with
    | some m => (some m, { s with ring := { s.ring with frags := rest } })
    | none => (none, { s with ring := { s.ring with frags := rest ++ [g] } })
  | none => (none, { s with ring := { s.ring with frags := rest ++ [g] } })

end Sys2Proof.Machine
end

