-- ==== Sys2Proof/Machine/Comet.lean ====
section
/-! DEFINITION. The course of a Comet (R352 to R361) and its ring messages (R391). -/

namespace Sys2Proof.Machine

open Sys2Proof

/-! ### The seam and the axis -/

/-- Every column up to `j` has completed (DONE_COL), been lost or been dropped on every active port. -/
def Core.doneThrough (s : Core) (j : Nat) : Bool :=
  s.activePorts.all (fun p => (s.port p).cols.all (fun r => decide (j < r.col) || r.run || r.acked || r.lost || r.dropped) && s.settledOn p j)

/-- The Comet's seam has completed (Table 13-1). -/
def Core.seamComplete (s : Core) : Bool := match s.hold with | none => false | some j => decide (j < 0) || s.doneThrough j.toNat

/-- The Comet axis is at rest. -/
def Core.cometAtRest (s : Core) : Bool := match s.cometAxis with | some a => s.atRest a && decide (s.axSt a = axIdle) | none => false

/-- The manoeuvre fails (Table 13-1). -/
def Core.cometFails (s : Core) : Core := (s.setComet 0).occur 1523 0

/-- The acceleration distance in px (R359): the stopping distance of R327 for V_RES with A_ACC, by |K|. -/
def Core.accelDist (s : Core) (a : Nat) : Rat :=
  let k := absRat s.cometScale
  let v : Rat := ((s.rd0 Obj.V_RES : Nat) : Rat) / k
  k * segsDist v (velRamp v 0 0 (s.axR Obj.ax_A_ACC a) (s.axR Obj.ax_JERK a))

/-- A rational rounded away from zero to a whole number. -/
def awayFromZero (q : Rat) : Int := if q < 0 then q.floor else q.ceil

/-- The back-up move (R359): B is published, and a REL move of −σ B / K at V_MAX begins, or is rejected. -/
def Core.cometBackUp (s : Core) : Core :=
  match s.cometAxis with
  | none => s.cometFails
  | some a =>
    let dDec := (s.comet.sigma : Rat) * ((s.predictAt s.ftQ).getD s.comet.xRest - s.comet.xTr)
    let b := dDec + s.accelDist a + ((s.rd0 Obj.COMET_MARGIN : Nat) : Rat)
    let t := (s.wrI Obj.BACKUP_DIST 0 0 (satS 64 (roundRat (b * 2 ^ 24)))).setComet 3
    let goal := s.rdI Obj.ax_POS a 0 + awayFromZero (-(s.comet.sigma * b / s.cometScale))
    if t.movable a ∧ t.inLimits a goal then (t.beginTo a (goal : Rat) (t.axR Obj.ax_V_MAX a)).motionAfter else t.cometFails

/-- COMET_SEAM_COMPLETE: on the owner the back-up begins, once every participant has reported; another controller reports, a standby owes the report (R358, R391, R404). -/
def Core.seamCompleteEvent (s : Core) : Core :=
  if !s.inPrint ∨ s.stop.isSome ∨ s.rd0 Obj.COMET_STATE ≠ 2 ∨ !s.seamComplete then s
  else if s.comet.guest then
    if s.comet.seamDone then s
    else ({ s with comet := { s.comet with seamDone := true } }).when (!s.isStandby) (fun t => t.sendComet 5 0 (s.rd0 Obj.SEAM) 0 0)
  else if s.cometAtRest ∧ s.cometMissing 0 = [] then (s.disarm .participant 0).cometBackUp
  else s

/-- The gate of column S + 1 becomes due; R16 substitutes the columns before it that no die holds. -/
def Core.releaseHold (s : Core) : Core :=
  match s.hold with
  | none => s
  | some h =>
    let n := (h + 1).toNat
    { s with
      hold := none
      pages := s.pages.map (fun pg => if pg.base ≤ n ∧ n < pg.base + max 1 pg.cols then { pg with resume := n } else pg) }

/-- COMET_RESUME: on the owner a VEL move at σ V_RES / K; another controller sends READY (R360). While a participant is not ready, the second it has
begins (R391). -/
def Core.resumeEvent (s : Core) : Core :=
  if !s.inPrint ∨ s.stop.isSome ∨ s.rd0 Obj.COMET_STATE ≠ 4 ∨ !s.resumeReady then s
  else if s.comet.guest ∨ s.cometMissing 1 ≠ [] then s.cometReadyCheck
  else match s.cometAxis with
    | none => s.cometFails
    | some a =>
      let sp := s.cometSpeed
      let t := (s.disarm .participant 1).setComet 5
      if t.movable a ∧ sp.natAbs ≤ t.rd Obj.ax_V_MAX a 0 then
        ((((t.releaseHold).failMove a).updAxis a (fun x => { x with plan := .vel (sp : Rat) (t.velLimit a sp), res := 1, hold := false })).setAxSt a
          axMoving).motionAfter
      else t.cometFails

/-- COMET_COLLECT elapses (R354). -/
def Core.collectEndEvent (s : Core) : Core :=
  if s.inPrint ∧ s.stop.isNone ∧ s.rd0 Obj.COMET_STATE = 1 ∧ !s.comet.guest ∧ s.due .cometCollect 0 then (s.cometCollectEnd).motionAfter else s

/-- A participant has not answered within 1 s (R391). -/
def Core.participantTimeout (s : Core) : Core :=
  if !s.inPrint ∨ s.stop.isSome ∨ s.comet.guest then s
  else if s.due .participant 0 ∧ s.cometMissing 0 ≠ [] then (s.disarm .participant 0).occur 1523 0
  else if s.due .participant 1 ∧ s.cometMissing 1 ≠ [] then (s.disarm .participant 1).occur 1523 0
  else s

/-! ### Messages (Table 14-5) -/

/-- SEAM of a COMET payload. -/
def cmSeam (p : List Byte) : Nat := leAt p 8 4
/-- POS of a COMET payload. -/
def cmPos (p : List Byte) : Int := signedOf 64 (leAt p 16 8)
/-- COMET_ID of a COMET payload. -/
def cmId (p : List Byte) : Nat := leAt p 4 4

/-- A COMET frame of one subtype arrives. -/
def Core.rxComet (s : Core) (k sub : Nat) (b : List Byte) (act : Core → Nat → List Byte → Core) : Core :=
  s.rxFrame k 0x12 b none id (fun t =>
    let p := frPayload b
    if p.length = 32 ∧ leAt p 0 1 = sub then act t (frSrc b) p else t)

/-- COMET_REQ on the owner (R354): collected, or too late. -/
def Core.cometReq (s : Core) (_src : Nat) (p : List Byte) : Core :=
  if !s.cometOwner ∨ !s.inPrint ∨ s.stop.isSome then s
  else
    let st := s.rd0 Obj.COMET_STATE
    let r := cmPos p
    if st = 0 then
      let t := s.setVRes
      (({ t with comet := { t.comet with any := true } }).cometCollectStart s.cometSense r).motionAfter
    else if st = 1 then
      (if s.comet.ramping then { s with comet := { s.comet with late := s.comet.late ++ [r] } }
       else { s with comet := { s.comet with reaches := s.comet.reaches ++ [r] } })
    else
      let sg := s.comet.sigma
      if sg * pxOf r > sg * s.comet.xRest - s.rd0 Obj.COMET_RUNOUT then s.occur 1523 0 else s

/-- COMET_GO on another controller (R356): its seam is fixed if it had decided none. -/
def Core.cometGo (s : Core) (_src : Nat) (p : List Byte) : Core :=
  if s.cometOwner ∨ !s.inPrint ∨ s.stop.isSome then s
  else
    let sg : Int := if s.rd0 Obj.COMET_STATE = 1 then s.comet.sigma else s.cometSense
    let t := { s with comet := { s.comet with id := cmId p, sigma := sg, guest := true, xRest := pxOf (cmPos p), seamDone := false, readySent := false } }
    (t.setComet 2).fixSeam

/-- COMET_READY or SEAM_DONE on the owner, for the present COMET_ID: noted for the participant (R391, R404). -/
def Core.cometReply (b : Nat) (s : Core) (src : Nat) (p : List Byte) : Core :=
  let n := s.cometPart src
  if s.cometOwner ∧ cmId p = s.comet.id then
    { s with comet := { s.comet with parts := Tab.set s.comet.parts n (putBit (Tab.get 0 s.comet.parts n) b true) } }
  else s

/-- The participants listed anew. -/
def Core.setParts (s : Core) (l : List Nat) : Core :=
  let n := ((List.range 4094).takeWhile (fun j => decide (s.rd Obj.COMET_PARTICIPANTS 0 j ≠ 0))).length
  (s.wrRun Obj.COMET_PARTICIPANTS 0 0 (l ++ List.replicate (n - l.length) 0))

/-- COMET_PARTICIPANTS as enlisted. -/
def Core.enlisted (s : Core) : List Nat :=
  ((List.range 4094).takeWhile (fun j => decide (s.rd Obj.COMET_PARTICIPANTS 0 j ≠ 0))).map (fun j => s.rd Obj.COMET_PARTICIPANTS 0 j)

/-- ENLIST on the owner; a Moon's names its Planet (R404). -/
def Core.cometEnlist (s : Core) (src : Nat) (p : List Byte) : Core :=
  if s.cometOwner ∧ src ≠ 0 then
    let planet := cmSeam p % 4096
    let t := { s with ring := { s.ring with moons := if planet = 0 then Tab.erase s.ring.moons src else Tab.set s.ring.moons src planet } }
    if t.enlisted.contains src then t else t.setParts (t.enlisted ++ [src])
  else s

/-- DELIST on the owner. -/
def Core.cometDelist (s : Core) (src : Nat) (_p : List Byte) : Core :=
  if s.cometOwner then { s with ring := { s.ring with moons := Tab.erase s.ring.moons src } }.setParts (s.enlisted.filter (· ≠ src)) else s

/-- STATE on another controller: the owner's state is mirrored; the run forward releases its own seam (R358, R360). -/
def Core.cometMirror (s : Core) (_src : Nat) (p : List Byte) : Core :=
  let st := leAt p 1 1
  if s.cometOwner ∨ !s.inPrint ∨ 5 < st ∨ (st = 1 ∧ s.rd0 Obj.COMET_STATE = 0 ∧ s.hold.isNone) then s
  else
    let t := ({ s with comet := { s.comet with id := cmId p, guest := true } }).wr0 Obj.COMET_STATE st
    if st = 5 then t.releaseHold else t.cometReadyCheck

/-! ### Host writes (R366) -/

/-- RWR objects of record 0x3050: not in PRINT. -/
def chkComet : WrChk := chkNotPrint

/-! ### The commands -/

/-- COMET_REQ_RECEIVED (R354). -/
def execCometReqReceived (dt port : Nat) (bytes : List Byte) (s : State) : Host.Outcome State Fault Refusal :=
  onCore (fun c => (c.advance dt).rxComet port 1 bytes Core.cometReq) s

/-- COMET_COLLECT_END (R354). -/
def execCometCollectEnd (dt : Nat) (s : State) : Host.Outcome State Fault Refusal :=
  onCore (fun c => (c.advance dt).collectEndEvent) s

/-- COMET_GO_RECEIVED (R356). -/
def execCometGoReceived (dt port : Nat) (bytes : List Byte) (s : State) : Host.Outcome State Fault Refusal :=
  onCore (fun c => (c.advance dt).rxComet port 2 bytes Core.cometGo) s

/-- COMET_SEAM_COMPLETE (R359). -/
def execCometSeamComplete (dt : Nat) (s : State) : Host.Outcome State Fault Refusal :=
  onCore (fun c => (c.advance dt).seamCompleteEvent) s

/-- COMET_RESUME (R360). -/
def execCometResume (dt : Nat) (s : State) : Host.Outcome State Fault Refusal :=
  onCore (fun c => (c.advance dt).resumeEvent) s

/-- COMET_READY_RECEIVED (R391). -/
def execCometReadyReceived (dt port : Nat) (bytes : List Byte) (s : State) : Host.Outcome State Fault Refusal :=
  onCore (fun c => (c.advance dt).rxComet port 3 bytes (Core.cometReply 1)) s

/-- COMET_SEAM_DONE_RECEIVED (R391). -/
def execCometSeamDoneReceived (dt port : Nat) (bytes : List Byte) (s : State) : Host.Outcome State Fault Refusal :=
  onCore (fun c => (c.advance dt).rxComet port 5 bytes (Core.cometReply 0)) s

/-- COMET_ENLIST_RECEIVED (R391). -/
def execCometEnlistReceived (dt port : Nat) (bytes : List Byte) (s : State) : Host.Outcome State Fault Refusal :=
  onCore (fun c => (c.advance dt).rxComet port 6 bytes Core.cometEnlist) s

/-- COMET_DELIST_RECEIVED (R391). -/
def execCometDelistReceived (dt port : Nat) (bytes : List Byte) (s : State) : Host.Outcome State Fault Refusal :=
  onCore (fun c => (c.advance dt).rxComet port 7 bytes Core.cometDelist) s

/-- COMET_STATE_RECEIVED (R358). -/
def execCometStateReceived (dt port : Nat) (bytes : List Byte) (s : State) : Host.Outcome State Fault Refusal :=
  onCore (fun c => (c.advance dt).rxComet port 4 bytes Core.cometMirror) s

/-- COMET_PARTICIPANT_TIMEOUT (R391). -/
def execCometParticipantTimeout (dt : Nat) (s : State) : Host.Outcome State Fault Refusal :=
  onCore (fun c => (c.advance dt).participantTimeout) s

end Sys2Proof.Machine
end

