-- ==== Sys2Proof/Machine/Dma.lean ====
section
/-! DEFINITION. The DMA engines DE0 to DE7 and their channels (ch. 10): descriptors, arbitration, pacing, bus errors. -/

namespace Sys2Proof.Machine

open Sys2Proof

/-! ### States (Table 10-8) -/

def chDisabled : Nat := 0
def chIdle : Nat := 1
def chWait : Nat := 2
def chActive : Nat := 3
def chHalted : Nat := 4

/-- CH_STATE of a channel. -/
def Core.chState (s : Core) (k : Nat) : Nat := s.rd Obj.dma_CH_STATE k 0

/-- Write CH_STATE. -/
def Core.setCh (s : Core) (k st : Nat) : Core := s.wr Obj.dma_CH_STATE k 0 st

/-- A channel's own record. -/
def Core.dmaCh (s : Core) (k : Nat) : DmaCh := Tab.get {} s.dma k

/-- Store it. -/
def Core.setDma (s : Core) (k : Nat) (x : DmaCh) : Core := { s with dma := Tab.set s.dma k x }

/-- The ring of a channel holds descriptors. -/
def Core.ringHas (s : Core) (k : Nat) : Bool := decide (s.rd Obj.dma_HEAD k 0 ≠ s.rd Obj.dma_TAIL k 0)

/-- IDLE, or WAIT while the ring holds descriptors. -/
def Core.settleCh (s : Core) (k : Nat) : Core := s.setCh k (if s.ringHas k then chWait else chIdle)

/-- The bucket of a channel now, in eighths of a byte: SHARE / 256 of FABRIC_BW is SHARE eighths in half a nanosecond (R283). -/
def Core.tokensOf (s : Core) (k : Nat) : Nat :=
  let x := s.dmaCh k
  min (8 * s.rd Obj.dma_BUCKET k 0) (x.tokens + s.rd Obj.dma_SHARE k 0 * (s.clk - x.tokensAt))

/-- Fix the bucket at this instant. -/
def Core.fixTokens (s : Core) (k n : Nat) : Core := s.setDma k { s.dmaCh k with tokens := n, tokensAt := s.clk }

/-! ### Descriptors (Table 10-6) -/

def dSrc (e : Nat) : Nat := e % 2 ^ 64
def dDst (e : Nat) : Nat := e / 2 ^ 64 % 2 ^ 64
def dRowBytes (e : Nat) : Nat := e / 2 ^ 128 % 2 ^ 32
def dRows (e : Nat) : Nat := e / 2 ^ 160 % 2 ^ 16
def dCtrl (e : Nat) : Nat := e / 2 ^ 176 % 256
def dSrcStride (e : Nat) : Int := signedOf 32 (e / 2 ^ 192)
def dDstStride (e : Nat) : Int := signedOf 32 (e / 2 ^ 224)
def dFill (e : Nat) : Bool := decide (field (dCtrl e) 3 2 = 1)

/-- The span of a region: lowest and highest byte address (R281). -/
def dSpan (a : Nat) (rows bytes : Nat) (stride : Int) : Int × Int :=
  let z : Int := (a : Int) + ((rows - 1 : Nat) : Int) * stride
  (min (a : Int) z, max (a : Int) z + bytes - 1)

/-- The status a descriptor ends with before any byte moves (R280): 0 when it runs, 2 DESC, 3 OVERLAP. -/
def descStatus (e : Nat) : Nat :=
  let c := dCtrl e
  let rb := dRowBytes e
  let rows := dRows e
  let s1 := dSpan (dSrc e) rows rb (dSrcStride e)
  let s2 := dSpan (dDst e) rows rb (dDstStride e)
  if c % 2 = 0 ∨ 2 ≤ field c 3 2 ∨ field c 7 4 ≠ 0 ∨ rb = 0 ∨ 16777216 < rb ∨ rows = 0 ∨ (1 < rows ∧ (dDstStride e).natAbs < rb) then 2
  else if !dFill e ∧ dSrcStride e ≠ dDstStride e ∧ s1.1 ≤ s2.2 ∧ s2.1 ≤ s1.2 then 3
  else 0

/-- The order of a COPY (Table 10-7): rows descending, bytes descending. A FILL ascends. -/
def copyOrder (e : Nat) : Bool × Bool :=
  let up := decide (dDst e > dSrc e)
  let neg := decide (dSrcStride e < 0)
  if dFill e ∨ dSrcStride e ≠ dDstStride e then (false, false) else (up != neg, up)

/-- The next burst of a descriptor: source address, destination address, bytes, offset in its row. Neither address crosses a 256-byte boundary (R283). -/
def nextBurst (x : DmaCh) : Nat × Nat × Nat × Nat :=
  let e := x.desc
  let o := copyOrder e
  let r := if o.1 then dRows e - 1 - x.row else x.row
  let base (a : Nat) (st : Int) : Nat := (((a : Int) + (r : Int) * st) % (2 : Int) ^ 64).toNat
  let sa := base (dSrc e) (dSrcStride e)
  let da := base (dDst e) (dDstStride e)
  let left := dRowBytes e - x.col
  if o.2 then
    let room (a : Nat) : Nat := (a + left - 1) % 256 + 1
    let n := min left (min (room sa) (room da))
    (sa + left - n, da + left - n, n, left - n)
  else
    let room (a : Nat) : Nat := 256 - (a + x.col) % 256
    let n := min left (if dFill e then room da else min (room sa) (room da))
    (sa + x.col, da + x.col, n, x.col)

/-- Every byte of the descriptor has moved. -/
def DmaCh.finished (x : DmaCh) : Bool := decide (x.row = dRows x.desc)

/-- The channel holding an engine of the host's. -/
def Core.activeCh (s : Core) (g : Nat) : Option Nat :=
  let c := s.rd Obj.eng_ACTIVE_CH g 0
  if 1 ≤ g ∧ g < 8 ∧ c < 16 then some (16 * g + c) else none

/-! ### Arbitration (R282) -/

/-- DMA runs (R278): granting stops in PARK, everything outside the running modes. -/
def Core.dmaGrants (s : Core) : Bool := s.inModes [.config, .ready, .printWeb, .printScan, .service]

/-- The channel to grant: highest PRIORITY among those that wait, ties round-robin after the last granted. -/
def Core.pickCh (s : Core) (g : Nat) : Option Nat :=
  let last := Tab.get 15 s.dmaLast g
  let order := ((List.range 16).map (fun i => 16 * g + (last + 1 + i) % 16)).filter (fun k => decide (s.chState k = chWait))
  order.foldl (fun (best : Option Nat) k => match best with
    | none => some k
    | some b => if s.rd Obj.dma_PRIORITY b 0 < s.rd Obj.dma_PRIORITY k 0 then some k else some b) none

/-- DMA_GRANT: an idle engine takes the waiting channel's descriptor and checks it. -/
def Core.dmaGrant (s : Core) (g : Nat) : Core :=
  if 1 ≤ g ∧ g < 8 ∧ s.dmaGrants ∧ s.rd Obj.eng_ENG_STATE g 0 = 0 then
    match s.pickCh g with
    | none => s
    | some k =>
      let e := s.rd Obj.DESC_RING k (s.rd Obj.dma_HEAD k 0)
      let t := s.setDma k { s.dmaCh k with desc := e, fail := descStatus e, row := 0, col := 0 }
      (({ t.setCh k chActive with dmaLast := Tab.set t.dmaLast g (k % 16) }).wr Obj.eng_ENG_STATE g 0 1).wr Obj.eng_ACTIVE_CH g 0 (k % 16)
  else s

/-! ### DE0.C00: the stream into staging (R274, R278) -/

/-- Streams run: not SAFE, OFF or RETAIN (Table 10-9). -/
def Core.streamRuns (s : Core) : Bool := s.running && decide (s.mode ≠ .safe)

/-- The record at the front: TYPE, LEN, SSN. -/
def Core.frontRec (s : Core) : Nat × Nat × Nat :=
  let b := s.stream.bytes
  (leAt b 0 1, leAt b 4 4, leAt b 8 4)

/-- The whole record at the front has come, the stream is OPEN, and it has the type: its body and SSN. -/
def Core.recordReady (s : Core) (typ : Nat) : Option (List Byte × Nat) :=
  let f := s.frontRec
  if s.streamRuns ∧ s.mode ≠ .park ∧ s.rd0 Obj.STREAM_STATE = 1 ∧ 12 ≤ s.stream.bytes.length ∧ f.1 = typ ∧ 12 + f.2.1 ≤ s.stream.bytes.length then
    some ((s.stream.bytes.drop 12).take f.2.1, f.2.2)
  else none

/-- Within a page: a PASS 0 is open. -/
def Core.withinPage (s : Core) : Bool :=
  decide (s.stream.place = 2) && (match s.stream.last with | some (_, ps, _) => decide (ps = 0) | none => false)

/-- Where the next byte of the BLOCK at the front goes: the place in the staging ring. -/
def Core.stageAt (s : Core) : Nat := (s.stream.off + s.stream.put) % max 1 (s.rd0 Obj.STAGE_SIZE)

/-- Bytes of the next burst of DE0.C00: to the end of the block, of its 256 bytes or of the ring. -/
def Core.stageBurst (s : Core) (len : Nat) : Nat :=
  min (len - s.stream.put) (min (256 - (s.rd0 Obj.STAGE_BASE + s.stageAt) % 256) (max 1 (s.rd0 Obj.STAGE_SIZE) - s.stageAt))

/-- What DE0.C00's state shows: it writes a block, or waits for one. -/
def Core.showDe0 (s : Core) (writes : Bool) : Core :=
  ((s.setCh 0 (if writes then chActive else chIdle)).wr Obj.eng_ENG_STATE 0 0 (b2n writes)).wr Obj.eng_ACTIVE_CH 0 0 (if writes then 0 else 0xFF)

/-- A bus error on DE0.C00: the controller aborts at once, the record is discarded, the stream goes to ERROR (R285). -/
def Core.blockBus (s : Core) (len ssn : Nat) : Core :=
  let u := (((s.wr Obj.dma_ERR_ADDR 0 0 (s.rd0 Obj.STAGE_BASE + s.stageAt)).wr Obj.dma_ERR_INFO 0 0 1).occur 1400 0)
  ((({ u with stream := { u.stream with bytes := u.stream.bytes.drop (12 + len), put := 0 } }).showDe0 false).setCh 0 chDisabled).streamError errBus 0x20 ssn

/-- An engine has a burst to issue, and its bucket holds the tokens. -/
def Core.burstReady (s : Core) (g : Nat) : Bool :=
  if g = 0 then
    match s.recordReady 0x20 with
    | some (b, _) => s.withinPage && decide (8 * s.stageBurst b.length ≤ s.tokensOf 0)
    | none => false
  else match s.activeCh g with
    | some k =>
      let x := s.dmaCh k
      decide (s.chState k = chActive ∧ x.fail = 0) && !x.finished && (s.dmaGrants || decide (s.mode = .park))
        && (decide (s.rd Obj.dma_PACE_MODE k 0 ≠ 0) || decide (8 * (nextBurst x).2.2.1 ≤ s.tokensOf k))
    | none => false

/-- The engine whose turn it is at the fabric: round-robin, one burst at a time, among those with a burst to issue (R284). -/
def Core.dmaTurn (s : Core) : Option Nat := ((List.range 8).map (fun i => (s.dmaTop + 1 + i) % 8)).find? s.burstReady

/-! ### Bus errors (R285) -/

/-- The channel halts at an address; the engine is held. -/
def Core.dmaHalt (s : Core) (k addr : Nat) (write : Bool) : Core :=
  let g := k / 16
  let t := (((s.setCh k chHalted).wr Obj.dma_ERR_ADDR k 0 addr).wr Obj.dma_ERR_INFO k 0 (b2n write)).wr Obj.dma_ERR_DESC k 0 (s.rd Obj.dma_HEAD k 0)
  (t.wr Obj.eng_ENG_STATE g 0 2).occur (1400 + g) 0

/-- DMA_BUS_ERROR: the next burst meets one. -/
def Core.dmaBusError (s : Core) (g : Nat) (write : Bool) : Core :=
  match s.activeCh g with
  | some k =>
    let x := s.dmaCh k
    if s.chState k = chActive ∧ x.fail = 0 ∧ !x.finished then
      let b := nextBurst x
      s.dmaHalt k (if write then b.2.1 else b.1) write
    else s
  | none =>
    match (if g = 0 then s.recordReady 0x20 else none) with
    | some (b, ssn) => if s.withinPage then s.blockBus b.length ssn else s
    | none => s

/-! ### Bursts (R283) -/

/-- The bytes a burst writes: those read, or the pattern. -/
def Core.burstBytes (s : Core) (m : List Host.Cell) (x : DmaCh) (b : Nat × Nat × Nat × Nat) : List Byte :=
  if dFill x.desc then (List.range b.2.2.1).map (fun i => nth 0 (leBytes 8 (dSrc x.desc)) ((b.2.2.2 + i) % 8))
  else s.loadAt m b.1 b.2.2.1

/-- Advance over a burst. -/
def DmaCh.moved (x : DmaCh) (n : Nat) : DmaCh :=
  if x.col + n < dRowBytes x.desc then { x with col := x.col + n } else { x with row := x.row + 1, col := 0 }

/-- Collisions at a dual-port bank: each counts (R303). -/
def Core.collide (s : Core) (a n : Nat) : Core :=
  let v := s.locate a
  if (v.1 = .dram ∨ v.1 = .unmapped) ∨ !bankDual (bankOf v.2) then s else s.inc Obj.SB_COLLISIONS 0 (bankOf v.2 - 48) n

/-- DMA_BURST: one burst, in the engine's turn and once the bucket holds its tokens (R283, R284). -/
def Core.dmaBurst (s : Core) (m : List Host.Cell) (g ecc errAddr coll : Nat) : Core × List Host.Cell :=
  match s.activeCh g with
  | none => (s, m)
  | some k =>
    if s.dmaTurn ≠ some g then (s, m)
    else
      let x := s.dmaCh k
      let b := nextBurst x
      let n := b.2.2.1
      let t := ({ s with dmaTop := g }.memError ecc errAddr).collide b.2.1 coll
      let fr := if dFill x.desc then 0 else t.readFault ownDma b.1 n
      let fw := t.writeFault ownDma b.2.1 n
      if fr ≠ 0 ∨ (ecc = 2 ∧ !dFill x.desc) then
        (((if fr = 1 then t.violation ownDma b.1 n else if ecc = 2 then t else t.memError 2 (t.badAddr b.1 n)).dmaHalt k b.1 false), m)
      else if fw ≠ 0 ∨ 16 ≤ coll ∨ ecc = 2 then
        (((if fw = 1 then t.violation ownDma b.2.1 n else if fw = 2 ∧ ecc ≠ 2 then t.memError 2 (t.badAddr b.2.1 n) else t).dmaHalt k b.2.1 true), m)
      else
        let u := if s.rd Obj.dma_PACE_MODE k 0 = 0 then t.fixTokens k (t.tokensOf k - 8 * n) else t
        let u := (u.setDma k ((u.dmaCh k).moved n)).inc Obj.dma_BYTES k 0 n
        let v := u.locate b.2.1
        (u.mendWords v.2 n, t.storeAt m b.2.1 (t.burstBytes m x b))

/-! ### The end of a descriptor (R280, R286) -/

/-- The descriptor at HEAD ends with a status; the engine is free. -/
def Core.descEnd (s : Core) (k status next : Nat) : Core :=
  let g := k / 16
  let h := s.rd Obj.dma_HEAD k 0
  let e := s.rd Obj.DESC_RING k h
  let t := ((s.wr Obj.DESC_RING k h (putField e 191 184 status)).hwUpdate Obj.DESC_RING k h).wr Obj.dma_HEAD k 0 ((h + 1) % 16)
  let t := if status = 1 then t.inc Obj.dma_DESCS_DONE k 0 1 else t
  let t := if bit (dCtrl e) 1 then t.event (some 3) 0x0030 k (h + 256 * status) else t
  let t := ((t.setCh k next).wr Obj.eng_ENG_STATE g 0 0).wr Obj.eng_ACTIVE_CH g 0 0xFF
  if status = 2 ∨ status = 3 then t.occur 1408 0 else t.settle

/-- DMA_DESCRIPTOR_END: checks failed, or every byte moved. -/
def Core.dmaDescEnd (s : Core) (g : Nat) : Core :=
  match s.activeCh g with
  | none => s
  | some k =>
    let x := s.dmaCh k
    if s.chState k = chActive ∧ (x.fail ≠ 0 ∨ x.finished) then
      let t := s.descEnd k (if x.fail ≠ 0 then x.fail else 1) chDisabled
      if t.rdB Obj.dma_ENABLE k 0 then t.settleCh k else t
    else s

/-! ### Host writes -/

/-- The objects of DE0's channels are not the host's (R288), but for SHARE, BUCKET and PRIORITY of DE0.C00. -/
def chkDma : WrChk := fun _ _ k _ _ => if k < 16 then readOnlyC else okC

/-- SHARE, BUCKET and PRIORITY. -/
def chkDmaShare : WrChk := fun _ _ k _ _ => if 1 ≤ k ∧ k < 16 then readOnlyC else okC

/-- ENABLE: 0 is rejected while HALTED (R286). -/
def chkDmaEnable : WrChk := fun s t k j v => worse (chkDma s t k j v) (stateIf (decide (v = 0) && decide (s.chState k = chHalted)))

/-- ENABLE written 1 takes a DISABLED channel to IDLE with a full bucket; 0 disables an idle or waiting one. -/
def actDmaEnable : WrAct := fun _ k _ v s =>
  if v = 1 then
    if s.chState k = chDisabled then (s.fixTokens k (8 * s.rd Obj.dma_BUCKET k 0)).settleCh k else s
  else if s.chState k = chIdle ∨ s.chState k = chWait then s.setCh k chDisabled else s

/-- TAIL follows R238: it does not move backward past HEAD. -/
def chkDmaTail : WrChk := fun s t k j v =>
  let h := s.rd Obj.dma_HEAD k 0
  let d (x : Nat) : Nat := (x + 16 - h % 16) % 16
  worse (chkDma s t k j v) (valueIf (decide (d v < d (s.rd Obj.dma_TAIL k 0))))

/-- TAIL: an IDLE channel with descriptors waits. -/
def actDmaTail : WrAct := fun _ k _ _ s => if s.chState k = chIdle then s.settleCh k else s

/-- SHARE or BUCKET: what the bucket held stands, clipped; the new values apply from the next burst (R283). -/
def actDmaShare : WrAct := fun b k _ _ s => s.fixTokens k (min (8 * s.rd Obj.dma_BUCKET k 0) (b.tokensOf k))

/-- RESUME: the failed burst is issued again. -/
def actDmaResume : WrAct := fun _ k _ v s =>
  if v = 1 ∧ s.chState k = chHalted then (s.setCh k chActive).wr Obj.eng_ENG_STATE (k / 16) 0 1 else s

/-- ABORT: the descriptor ends BUS_ABORTED and the channel is DISABLED; it governs over a RESUME of the same locked sequence (Table 10-9). -/
def actDmaAbort : WrAct := fun b k _ v s =>
  if v = 1 ∧ b.chState k = chHalted ∧ (s.chState k = chHalted ∨ s.chState k = chActive) then s.descEnd k 4 chDisabled else s

/-! ### The commands -/

/-- DMA_GRANT (R282). -/
def execDmaGrant (dt engine : Nat) (s : State) : Host.Outcome State Fault Refusal := onCore (fun c => (c.advance dt).dmaGrant engine) s

/-- DMA_BURST (R283). -/
def execDmaBurst (dt engine ecc errAddr coll : Nat) (s : State) : Host.Outcome State Fault Refusal :=
  onBoth (fun c m => (c.advance dt).dmaBurst m engine ecc errAddr coll) s

/-- DMA_DESCRIPTOR_END (R280). -/
def execDmaDescriptorEnd (dt engine : Nat) (s : State) : Host.Outcome State Fault Refusal := onCore (fun c => (c.advance dt).dmaDescEnd engine) s

/-- DMA_BUS_ERROR (R285). -/
def execDmaBusError (dt engine : Nat) (write : Bool) (s : State) : Host.Outcome State Fault Refusal :=
  onCore (fun c => (c.advance dt).dmaBusError engine write) s

end Sys2Proof.Machine
end

