-- ==== Sys2Proof/Machine/Ephemeris.lean ====
section
/-! DEFINITION. The events of Ephemeris (ch. 2): edges, samples, index pulses and signal loss of the feedback channels, Tacks and their acceptance. -/

namespace Sys2Proof.Machine

open Sys2Proof

/-! ### Acceptance by the predictor (R45, R56, R58) -/

/-- The landing position of a built column is re-predicted at an accepted Tack (R56). -/
def Core.placementCheck (s : Core) : Core :=
  let tol : Rat := mkRat (s.rd0 Obj.PLACE_TOL) 4096
  s.pred.landings.foldl (fun t l =>
    let seen := t.pred.landings.any (fun m => decide (m.port = l.port) && decide (m.col = l.col) && m.flagged)
    if l.t ≤ (t.ftQ : Int) ∨ seen then t
    else match t.predictAt l.t with
      | none => t
      | some x =>
        if absRat (x - pxOf l.target) > tol then
          let u := { t with pred := { t.pred with landings := t.pred.landings.map (fun (m : Landing) =>
            if m.port = l.port ∧ m.col = l.col then { m with flagged := true } else m) } }
          ((u.inc Obj.PLACE_EXCEEDED 0 l.port 1).spoil l.col).occur 617 0
        else t) s

/-- The position between two Tacks at time `t` by cubic Hermite interpolation (R58). -/
def hermite (a b : Tack) (t : Int) : Rat :=
  let h := secOf ((b.t : Int) - a.t)
  let q : Rat := if h = 0 then 0 else secOf (t - a.t) / h
  let q2 := q * q
  let q3 := q2 * q
  (2 * q3 - 3 * q2 + 1) * pxOf a.pos + (q3 - 2 * q2 + q) * h * a.v + (3 * q2 - 2 * q3) * pxOf b.pos + (q3 - q2) * h * b.v

/-- The two Tacks (newest first in the list) that bracket an instant: the last at or before it, and the first after it. -/
def bracket (t : Int) : List Tack → Option (Tack × Tack)
  | b :: a :: r => if (a.t : Int) ≤ t ∧ t < b.t then some (a, b) else bracket t (a :: r)
  | _ => none

/-- Residuals of the landings now bracketed (R58). -/
def Core.placeResiduals (s : Core) : Core :=
  s.pred.landings.foldl (fun t l =>
    match bracket l.t t.pred.hist with
    | none => t
    | some (a, b) =>
      let e := absRat (hermite a b l.t - pxOf l.target)
      let q := satU 16 (roundRat (e * 4096))
      let u := { t with pred := { t.pred with landings := t.pred.landings.filter (fun m => decide (m ≠ l)) } }
      let u := if q > u.rd Obj.PLACE_MAX 0 l.port then u.wr Obj.PLACE_MAX 0 l.port q else u
      if e > 1 / 32 then u.inc Obj.PLACE_OVER 0 l.port 1 else u) s

/-- A Tack reaches the predictor (R45): accepted or discarded by SEQ and time; the reference moves to a Tack without HELD_POS (R44). -/
def Core.acceptTack (s : Core) (tk : Tack) : Core :=
  let last := Tab.get? s.pred.last tk.source
  let ok := decide (tk.t ≤ s.ftQ + 1000 * 65536) && (match last with
    | none => true
    | some l => decide (0 < seqDist 32 tk.seq l.1) && decide (l.2 < tk.t))
  if !ok then s.inc0 Obj.TACK_DISCARDS
  else
    let gap := match last with | none => false | some l => decide (seqDist 32 tk.seq l.1 ≠ 1)
    let s1 := if gap then s.inc0 Obj.TACK_GAPS else s
    let p := s1.pred
    let p1 := { p with last := Tab.set p.last tk.source (tk.seq, tk.t), acceptedAt := some s.clk, newest := some tk.t, staleRaised := false }
    let p1 := { p1 with hist := (tk :: p1.hist).take 64 }
    let p2 := if bit tk.flags 6 then p1 else { p1 with ref := some tk, acc := tk.acc }
    (({ s1 with pred := p2 }).placeResiduals).placementCheck

/-! ### Latching (R44, R46) -/

/-- Put a Tack into a buffer (R46): newest first, 64 kept. -/
def Core.bufferTack (s : Core) (buf : Nat) (tk : Tack) : Core :=
  { s with tacks := Tab.set s.tacks buf ((tk :: Tab.get [] s.tacks buf).take 64) }

/-- The bytes of a Tack record (Table 2-3). -/
def Tack.bytes (t : Tack) : List Byte :=
  leBytes 8 (rawOf 64 t.pos) ++ leBytes 8 (t.t / 65536) ++ leBytes 2 (t.t % 65536) ++ leBytes 2 t.flags ++ leBytes 4 (rawOf 32 t.speed)
    ++ leBytes 4 t.seq ++ leBytes 2 t.source ++ leBytes 2 0

/-- Latch a Tack on channel `n` at the instant `at_` (2^-16 ns of FT). An edge counted but not latched before an FT step has no timestamp that is trusted any
more: the Tack that carries it pairs COUNT with the latch instant, without HELD_POS (log entry 150). -/
def Core.latchTack (s : Core) (n at_ : Nat) : Core :=
  let x := s.chan n
  let st := s.rd Obj.fb_EST_STATE n 0
  let s1 := s.publishSpeed n
  let v := s1.reported n
  let pos := s.posOf n (match x.last with | some e => e.cnt | none => s.rdI Obj.fb_COUNT n 0)
  let time := if x.fresh then (match x.last with | some e => e.t.toNat | none => at_) else at_
  let rev := decide (x.dir * (if s.rdI Obj.fb_SCALE n 0 < 0 then -1 else 1) < 0)
  let flags := 1 + 2 * b2n rev + 4 * b2n x.discarded + 8 * b2n x.counted + 16 * b2n (decide (st = estStopped)) + 32 * b2n x.index
    + 64 * b2n (!x.fresh) + 128 * b2n x.countError + 1024 * b2n x.clamped + 2048 * b2n (decide (s.rd0 Obj.FT_STATE = 3))
  let tk : Tack := ⟨pos, time, flags, speedRaw v, x.seq, n * 4096 + s.rd0 Obj.NODE_ID % 4096, x.acc⟩
  let s2 := s1.setChan n { x with fresh := false, index := false, countError := false, clamped := false,
                                  lastTack := some at_, waiting := false, seq := (x.seq + 1) % 2 ^ 32 }
  let s3 := s2.bufferTack n tk
  if s.rd0 Obj.PACE_SRC = n + 1 then s3.acceptTack tk else s3

/-- A trigger: a Tack at once, or at the 1,000 ns mark after the channel's previous one (R44). -/
def Core.trigger (s : Core) (n at_ : Nat) : Core :=
  match (s.chan n).lastTack with
  | some t => if at_ < t + 1000 * 65536 then s.setChan n { s.chan n with waiting := true } else s.latchTack n at_
  | none => s.latchTack n at_

/-- The channel is enabled and the device runs. -/
def Core.chanOn (s : Core) (n : Nat) : Bool := decide (n < 8) && s.running && decide (s.rd Obj.fb_MODE n 0 ≠ 0)

/-! ### Edges -/

/-- A counted edge: COUNT, the estimator (Table 2-2), ACC_CLAMP, and every TACK_EDGES-th edge a trigger, whatever Tacks other triggers latched between. -/
def Core.countEdge (s : Core) (n : Nat) (t : Int) (d dir : Int) : Core :=
  let c := satS 64 (s.rdI Obj.fb_COUNT n 0 + d)
  let p := (s.wrI Obj.fb_COUNT n 0 c).estEdge n ⟨t, c⟩ dir
  let s1 := p.1.publishSpeed n
  let s2 := if p.2 then s1.occur 618 0 else s1
  if s2.rd Obj.fb_TACK_EDGES n 0 ≤ (s2.chan n).edgesSince then
    let s3 := s2.setChan n { s2.chan n with edgesSince := 0 }
    if bit (s3.rd Obj.fb_TACK_TRIG n 0) 1 then s3.trigger n s3.ftQ else s3
  else s2

/-- The consequences of an illegal transition or a discarded sample (R29 to R31). -/
def Core.badEdge (s : Core) (n : Nat) : Core := (s.countError n).occur (600 + n) 0

/-- The count a change of A:B makes: +1 when A leads B (00, 10, 11, 01), -1 the other way. -/
def quadStep (old new : Nat) : Int :=
  let place (v : Nat) : Nat := nth 0 [0, 3, 1, 2] v
  if (place old + 1) % 4 = place new then 1 else -1

/-- A change of A or B held for the filter interval: counted, or illegal when both differ (R29). `before` is the level pair A:B that stood on the inputs
before the change; it counts where the channel has decoded no levels yet. -/
def Core.quadTransition (s : Core) (n before a b : Nat) : Core :=
  if s.chanOn n ∧ s.rd Obj.fb_MODE n 0 = 1 ∧ !(s.chan n).lost then
    let x := s.chan n
    let old := x.lev.getD (before % 4)
    let new := 2 * (a % 2) + b % 2
    let s1 := s.setChan n { x with lev := some new }
    if new = old then s1
    else if new + old = 3 then s1.badEdge n
    else s1.countEdge n (s.stampOf n (s.rd Obj.fb_FILTER n 0)) (quadStep old new) (quadStep old new)
  else s

/-- The place of a U:V:W state in the six-state sequence 100, 110, 010, 011, 001, 101. -/
def hallPlace (v : Nat) : Option Nat := if v = 0 ∨ 7 ≤ v then none else some (nth 0 [0, 4, 2, 3, 0, 5, 1] v)

/-- A change of U:V:W (R30): counted when it moves to an adjacent state, otherwise illegal. A transition out of 0b000 or 0b111 moves between no two adjacent
states either, so it is illegal as well (log entry 147). `before` is the state that stood on the inputs before; it counts where none is decoded yet. -/
def Core.hallTransition (s : Core) (n before uvw : Nat) : Core :=
  if s.chanOn n ∧ s.rd Obj.fb_MODE n 0 = 2 ∧ !(s.chan n).lost then
    let x := s.chan n
    let old := x.lev.getD (before % 8)
    let new := uvw % 8
    let s1 := s.setChan n { x with lev := some new }
    if new = old then s1
    else match hallPlace old, hallPlace new with
      | some i, some j =>
        let t := s.stampOf n (s.rd Obj.fb_FILTER n 0)
        if (i + 1) % 6 = j then s1.countEdge n t 1 1
        else if (j + 1) % 6 = i then s1.countEdge n t (-1) (-1)
        else s1.badEdge n
      | _, _ => s1.badEdge n
  else s

/-- Gray to binary. -/
def grayToBin : Nat → Nat → Nat
  | 0, g => g
  | n + 1, g => g ^^^ grayToBin n (g / 2)

/-- The channel's next SSI sample is due: one is read every SSI_PERIOD (R31). -/
def Core.sampleDue (s : Core) (n : Nat) : Bool :=
  match (s.chan n).sampleAt with
  | some t => decide (t + ns (s.rd Obj.fb_SSI_PERIOD n 0) ≤ s.clk)
  | none => true

/-- An absolute sample (R31): `raw` as read, its start bit, its parity bit and its error bit. A sample without a difference counts as an edge in the previous
direction, and in none before the first movement, so that the first movement after it counts as a reversal (log entry 146). -/
def Core.ssiSample (s0 : Core) (n raw : Nat) (start parity err : Bool) : Core :=
  if s0.chanOn n ∧ s0.rd Obj.fb_MODE n 0 = 3 ∧ !(s0.chan n).lost ∧ s0.sampleDue n then
    let s := s0.setChan n { s0.chan n with sampleAt := some s0.clk }
    let x := s.chan n
    let w := s.rd Obj.fb_SSI_BITS n 0
    let o := s.rd Obj.fb_SSI_OPTS n 0
    let r := raw % 2 ^ w
    let val := if bit o 0 then grayToBin 40 r else r
    let d : Int := match x.raw with | some p => signedOf w (val + 2 ^ w - p) | none => 0
    let badParity := bit o 1 && decide ((popCount w r + b2n parity) % 2 = 1)
    if !start ∨ badParity ∨ (bit o 2 ∧ err) ∨ d.natAbs > s.rd Obj.fb_SSI_MAX_STEP n 0 then s.badEdge n
    else
      let dir : Int := if d > 0 then 1 else if d < 0 then -1 else x.dir
      (s.setChan n { x with raw := some val }).countEdge n (s.stampOf n 0) d dir
  else s0

/-- Loss of a differential signal (R32): the input reads steady; FBn_SIGNAL. -/
def Core.signalLoss (s : Core) (n : Nat) : Core :=
  if s.chanOn n ∧ !(s.chan n).lost then (s.setChan n { s.chan n with lost := true }).level (608 + n) 0 true else s

/-- The signal returns (R32): a count error; ACTIVE of FBn_SIGNAL clears (R589). Movement during the loss is never counted: levels and SSI value are taken
afresh. -/
def Core.signalReturn (s : Core) (n : Nat) : Core :=
  if s.chanOn n ∧ (s.chan n).lost then
    ((s.setChan n { s.chan n with lost := false, lev := none, raw := none }).level (608 + n) 0 false).badEdge n
  else s

/-- An index pulse (R33): Z_MODE 1 captures the count, Z_MODE 2 outside PRINT also zeroes it. -/
def Core.zIndex (s : Core) (n : Nat) : Core :=
  let z := s.rd Obj.fb_Z_MODE n 0
  if s.chanOn n ∧ s.rd Obj.fb_MODE n 0 = 1 ∧ !(s.chan n).lost ∧ z ≠ 0 then
    let c := s.rdI Obj.fb_COUNT n 0
    let x := s.chan n
    let s1 := (s.wrI Obj.fb_Z_POS n 0 c).setChan n { x with index := true }
    let s2 :=
      if z = 2 ∧ !s.inPrint then
        (s1.wrI Obj.fb_COUNT n 0 0).setChan n { x with
          index := true
          last := x.last.map (fun e => ⟨e.t, e.cnt - c⟩)
          edges := x.edges.map (fun e => ⟨e.t, e.cnt - c⟩) }
      else s1
    if bit (s2.rd Obj.fb_TACK_TRIG n 0) 2 then s2.trigger n s2.ftQ else s2
  else s

/-- No edge for T_ZERO (R39): the estimate becomes 0, STOPPED. -/
def Core.estZero (s : Core) (n : Nat) : Core :=
  let x := s.chan n
  if s.chanOn n ∧ s.rd Obj.fb_EST_STATE n 0 ≠ estStopped ∧ x.edgeAt + us (s.rd Obj.fb_T_ZERO n 0) ≤ s.clk then
    ((s.setChan n { x.hold 0 [] with counted := false }).setEst n estStopped).publishSpeed n
  else s

/-- The last whole multiple of TACK_PERIOD at or before now, in 2^-16 ns. -/
def Core.periodMark (s : Core) : Nat := s.ftQ / (s.rd0 Obj.TACK_PERIOD * 65536) * (s.rd0 Obj.TACK_PERIOD * 65536)

/-- A periodic instant not yet served has come for channel `n`. -/
def Core.tackDue (s : Core) (n : Nat) : Bool :=
  s.chanOn n && bit (s.rd Obj.fb_TACK_TRIG n 0) 0 && (match (s.chan n).lastTack with | some t => decide (t < s.periodMark) | none => true)

/-- A periodic trigger (R44). -/
def Core.tackPeriodic (s : Core) (n : Nat) : Core := if s.tackDue n then s.trigger n s.periodMark else s

/-- The deferred trigger at the 1,000 ns mark (R44). -/
def Core.deferredDue (s : Core) (n : Nat) : Bool :=
  s.chanOn n && (s.chan n).waiting && (match (s.chan n).lastTack with | some t => decide (t + 1000 * 65536 ≤ s.ftQ) | none => true)

/-- Latch the deferred Tack at its mark. -/
def Core.deferredTack (s : Core) (n : Nat) : Core :=
  if s.deferredDue n then s.latchTack n (match (s.chan n).lastTack with | some t => t + 1000 * 65536 | none => s.ftQ) else s

/-! ### Commanded Tacks (R49) -/

/-- The instant an axis's newest commanded state took effect, in 2^-16 ns. -/
def Core.cmdInstant (s : Core) (a : Nat) : Nat := (roundRat ((s.axis a).tEval * (65536 * 1000000000))).toNat

/-- The axis has left its profile (R49): held by a phase open, in fallback, or on Hem's ramp. -/
def Core.profileBreak (s : Core) (a : Nat) : Bool :=
  decide (s.axSt a = axBraked ∨ s.axSt a = axFallback ∨ s.axSt a = axSafeRamp ∨ s.axSt a = axSafeHeld)

/-- The profile's acceleration in px/s². -/
def Core.cmdAcc (s : Core) (a : Nat) : Rat := (s.axis a).a * mkRat (s.rdI Obj.CMD_SCALE 0 0) (2 ^ 48)

/-- Latch a commanded Tack at an instant (R49). No edge is counted for a commanded source, so REVERSE follows the sign of SPEED (log entry 149). -/
def Core.latchCommanded (s : Core) (mark : Nat) : Core :=
  let a := s.rd0 Obj.PACE_AXIS
  let x := s.axis a
  let scale := s.rdI Obj.CMD_SCALE 0 0
  let fresh := decide (s.pred.cmdState ≠ some (s.cmdInstant a))
  let time := if fresh then ((s.cmdInstant a : Int) + s.rdI Obj.CMD_LAG 0 0 * 65536).toNat else mark
  let v := x.v * mkRat scale (2 ^ 48)
  let flags := 1 + 2 * b2n (decide (v < 0)) + 64 * b2n (!fresh) + 256 + 512 * b2n (s.profileBreak a)
    + 2048 * b2n (decide (s.rd0 Obj.FT_STATE = 3))
  let tk : Tack := ⟨satS 64 (roundDiv (roundRat x.x * scale) (2 ^ 24)), time, flags, speedRaw v, s.pred.cmdSeq,
                    0x8000 + s.rd0 Obj.NODE_ID % 4096, s.cmdAcc a⟩
  let s1 := { s with pred := { s.pred with cmdSeq := (s.pred.cmdSeq + 1) % 2 ^ 32, cmdState := some (s.cmdInstant a), cmdLatched := some mark } }
  (s1.bufferTack 8 tk).acceptTack tk

/-- A commanded Tack at the periodic instant (R49). -/
def Core.commandedTack (s : Core) : Core :=
  let mark := s.periodMark
  let due : Bool := match s.pred.cmdLatched with | some t => decide (t < mark) | none => true
  if s.running ∧ s.rd0 Obj.PACE_SRC = 9 ∧ due then s.latchCommanded mark else s

/-! ### The ring source (R50, R388) -/

/-- The age of the newest accepted ring Tack exceeds TACK_AGE_MAX. While none has been accepted (since the source was chosen, or since an FT step), the source
is stale (log entry 152). -/
def Core.ringStale (s : Core) : Bool :=
  match s.pred.newest with
  | some t => decide (t + s.rd0 Obj.TACK_AGE_MAX * 65536 < s.ftQ)
  | none => true

/-- TACK_STALE (R50): one occurrence for each time the newest accepted Tack grows too old. -/
def Core.tackStale (s : Core) : Core :=
  if s.running ∧ s.rd0 Obj.PACE_SRC = 10 ∧ s.ringStale ∧ !s.pred.staleRaised then
    ({ s with pred := { s.pred with staleRaised := true } }).occur 616 0
  else s

/-! ### What the writes of this chapter do -/

/-- A forward step of FT by `q` units of 2^-16 ns (R25): Tacks and predictor cleared, every estimator in HELD with no held edge, TIME with REALIGN on every
aligned port (R128). -/
def Core.stepFtQ (s : Core) (q : Nat) : Core :=
  let s1 := { s with ftAcc := s.ftAcc + q * 2 ^ 17, tacks := [], pred := { cmdSeq := s.pred.cmdSeq, staleRaised := s.pred.staleRaised } }
  let s1 := s1.each (List.range 12) (fun t a => t.updAxis a (fun (x : Axis) => { x with tEval := x.tEval + mkRat q 65536000000000 }))
  let s2 := s1.each (List.range 8) (fun t n => ((t.setChan n { (t.chan n).hold (s.heldSpeed n) [] with
    last := none, lastTack := (t.chan n).lastTack.map (· + q) }).setEst n estHeld))
  let s3 := s2.mapPorts (fun x => { x with laneFree := x.laneFree + q })
  s3.each s3.alignedPorts (fun t p => t.sendTime p false true)

/-- A forward step by whole nanoseconds. -/
def Core.stepFt (s : Core) (nsStep : Nat) : Core := s.stepFtQ (nsStep * 65536)

/-- A permitted MODE write of a channel (R28): count cleared, STOPPED, Tack buffer emptied. A lost signal stays lost while the new MODE uses inputs; OFF uses
none, so the condition of FBn_SIGNAL ends (R32, R589). The spacing of Tacks goes on (R44). -/
def Core.clearChan (s : Core) (n : Nat) : Core :=
  let x := s.chan n
  let lost := x.lost && decide (s.rd Obj.fb_MODE n 0 ≠ 0)
  let s1 := ((s.setChan n { seq := x.seq, edgeAt := s.clk, lastTack := x.lastTack, lost := lost }).level (608 + n) 0 lost).wr Obj.fb_COUNT n 0 0
  (({ s1 with tacks := Tab.erase s1.tacks n }).setEst n estStopped).wr Obj.fb_SPEED n 0 0

/-- TACK_NOW (R44): a Tack on every channel with TACK_TRIG[3]. -/
def Core.tackNow (s : Core) : Core :=
  s.each (List.range 8) (fun t n => if t.chanOn n ∧ bit (t.rd Obj.fb_TACK_TRIG n 0) 3 then t.trigger n t.ftQ else t)

/-- A change of PACE_SRC or PACE_AXIS starts the predictor afresh (R47); the buffers keep their records. -/
def Core.restartPredictor (s : Core) : Core :=
  { s with pred := { cmdSeq := s.pred.cmdSeq, cmdState := s.pred.cmdState, cmdLatched := s.pred.cmdLatched, landings := s.pred.landings } }

/-! ### The commands -/

/-- QUAD_TRANSITION (R29): the change of A and of B. -/
def execQuadTransition (dt ch : Nat) (a b : Change) (s : State) : Host.Outcome State Fault Refusal :=
  onCore (fun c => (c.advance dt).quadTransition ch (2 * (a.before % 2) + b.before % 2) a.after b.after) s

/-- HALL_TRANSITION (R30): the change of the state U:V:W. -/
def execHallTransition (dt ch : Nat) (uvw : Change) (s : State) : Host.Outcome State Fault Refusal :=
  onCore (fun c => (c.advance dt).hallTransition ch uvw.before uvw.after) s

/-- SSI_SAMPLE (R31). -/
def execSsiSample (dt ch raw : Nat) (start parity err : Bool) (s : State) : Host.Outcome State Fault Refusal :=
  onCore (fun c => (c.advance dt).ssiSample ch raw start parity err) s

/-- SIGNAL_LOSS (R32). -/
def execSignalLoss (dt ch : Nat) (s : State) : Host.Outcome State Fault Refusal :=
  onCore (fun c => (c.advance dt).signalLoss ch) s

/-- SIGNAL_RETURN (R32). -/
def execSignalReturn (dt ch : Nat) (s : State) : Host.Outcome State Fault Refusal :=
  onCore (fun c => (c.advance dt).signalReturn ch) s

/-- Z_INDEX (R33). -/
def execZIndex (dt ch : Nat) (s : State) : Host.Outcome State Fault Refusal :=
  onCore (fun c => (c.advance dt).zIndex ch) s

/-- EST_ZERO_TIMEOUT (R39). -/
def execEstZeroTimeout (dt ch : Nat) (s : State) : Host.Outcome State Fault Refusal :=
  onCore (fun c => (c.advance dt).estZero ch) s

/-- TACK_PERIODIC (R44). -/
def execTackPeriodic (dt ch : Nat) (s : State) : Host.Outcome State Fault Refusal :=
  onCore (fun c => (c.advance dt).tackPeriodic ch) s

/-- DEFERRED_TACK_LATCH (R44). -/
def execDeferredTackLatch (dt ch : Nat) (s : State) : Host.Outcome State Fault Refusal :=
  onCore (fun c => (c.advance dt).deferredTack ch) s

/-- COMMANDED_TACK (R49). -/
def execCommandedTack (dt : Nat) (s : State) : Host.Outcome State Fault Refusal :=
  onCore (fun c => (c.advance dt).commandedTack) s

/-- TACK_STALE (R50). -/
def execTackStale (dt : Nat) (s : State) : Host.Outcome State Fault Refusal :=
  onCore (fun c => (c.advance dt).tackStale) s

end Sys2Proof.Machine
end

