-- ==== Sys2Proof/Machine/Fire.lean ====
section
/-! DEFINITION. Fire sequencing (ch. 3): gates, the drop decision, transmission, deadlines missed, validation, spit runs. -/

namespace Sys2Proof.Machine

open Sys2Proof

/-! ### The gate (R79 to R83) -/

/-- Start ticks of column `j` on a port: those issued, or those predicted now. -/
def Core.ticksOf (s : Core) (p j : Nat) (issued : Bool) : Option (List Nat) :=
  let pred := (s.pageOf j).bind (fun pg => s.solveTicks pg (pg.own s) p (j - pg.base))
  match (s.port p).colAt j with
  | some r => if r.gated ∧ (issued ∨ pred.isNone) then some r.ticks else pred
  | none => pred

/-- Ticks `new` start a column earlier than 16 slots after the start `old` of the one before it, on some present row-group (R14, R66). -/
def Core.tooSoon (s : Core) (p : Nat) (old new : List Nat) (slot : Nat) : Bool :=
  (s.rgs p).any (fun g => decide (nth 0 new g < nth 0 old g + 16 * slot))

/-- The last column before `j` that passes `ok`, at most `k` back. -/
def prevCol (ok : Nat → Bool) : Nat → Nat → Option Nat
  | 0, _ => none
  | _, 0 => none
  | k + 1, j + 1 => if ok j then some j else prevCol ok k j

/-- A column is overspeed on its gating port, by its solved start instants (R81, R66). -/
def Core.overOwn (s : Core) (p j : Nat) (ticks : List Nat) : Bool :=
  match ((s.port p).cols.filter (fun r => decide (r.col < j) && r.gated && !r.lost && !r.dropped && !r.run)).getLast? with
  | some r => s.tooSoon p r.ticks ticks r.nslot
  | none => false

/-- The slot period of a column on a port: its own once it is gated, before that the one a gate fixes now (R66, R77). -/
def Core.slotPeriod (s : Core) (p j : Nat) : Nat :=
  match (s.port p).colAt j with
  | some r => if r.gated then r.nslot else (s.port p).fSlot
  | none => (s.port p).fSlot

/-- A column is overspeed on another port, by the start instants predicted for it and for the last column before it not dropped (R82). -/
def Core.overOther (s : Core) (p j : Nat) : Bool :=
  match prevCol (fun k => !s.isDropped k) (s.decided.length + 1) j with
  | none => false
  | some k =>
    match s.ticksOf p k false, s.ticksOf p j false with
    | some a, some b => s.tooSoon p a b (s.slotPeriod p k)
    | _, _ => false

/-- F_MED of a plane map (R57): round(w × s / u) Hz from the reference speed, in the sense of σ. -/
def Core.fMed (s : Core) (sigma : Int) (m : PlaneMap) : Nat :=
  match s.pred.ref with
  | none => 0
  | some r => (max 0 (roundRat ((sigma : Rat) * r.v * (m.s : Rat) / ((max 1 m.u : Nat) : Rat)))).toNat

/-- The decision over the limit of R363 on some active port, with F_MED as published. -/
def Core.overLimit (s : Core) : Bool :=
  s.activePorts.any (fun p => decide (s.rd Obj.F_MED 0 p * 1000 > (s.port p).fValid * (1000 + s.rd0 Obj.OS_LIMIT)))

/-- Record the class of a column's decision in OS_RUN (R363). -/
def Core.osRun (s : Core) (fast : Bool) : Core := s.wr0 Obj.OS_RUN (if fast then s.rd0 Obj.OS_RUN + 1 else 0)

/-- The pacing channel has lost its signal: no start instant is solved from it (R32). -/
def Core.pacingLost (s : Core) : Bool :=
  decide (1 ≤ s.rd0 Obj.PACE_SRC ∧ s.rd0 Obj.PACE_SRC ≤ 8) && (s.chan (s.rd0 Obj.PACE_SRC - 1)).lost

/-- The landings of a column whose start instants are final (R56), for the row-groups of its page, with the targets and flight times of its solve (R61). -/
def Core.addLandings (s : Core) (p : Nat) (r : Col) : Core :=
  match s.pageOf r.col with
  | none => s
  | some pg =>
    let ls := (s.targets pg (pg.own s) p (r.col - pg.base)).map (fun gx =>
      (⟨p, r.col, gx.1, ofTick (nth 0 r.ticks gx.1) + s.flight p gx.1, gx.2, false⟩ : Landing))
    { s with pred := { s.pred with landings := s.pred.landings ++ ls } }

/-- Fix a column at its gate: start instants, t_ref, slot timing, generation and ENTRY_ENERGY (R79, R55, R77, R113, R115); its landings are predicted from
here on (R56). -/
def Core.fixCol (s : Core) (p j : Nat) (ticks : List Nat) : Core :=
  let x := s.port p
  let ref := ((s.pageOf j).bind (fun pg => s.colRef pg (pg.own s) p (j - pg.base))).getD 0
  let r := { s.colOf p j with gated := true, ticks := ticks, ref := ref, nslot := x.fSlot, nspan := x.fSpan, gateGen := x.fGen, genE := x.fGenE }
  let t := s.setCol p r
  let t := if r.run then t else t.addLandings p r
  let t := if s.sharedPort p ∧ !r.run then { t with pair := { t.pair with gateJ := j, gateSeq := (s.pred.ref.map Tack.seq).getD 0 } } else t
  (t.wrRun Obj.ENTRY_ENERGY p 0 x.fGenE).tryComplete p j

/-- The gate of column `j` on a port, its start instants being solved. -/
def Core.gateSolved (s : Core) (p j : Nat) (pg : Page) (ticks : List Nat) : Core :=
  let m := pg.own s
  let t := (s.updPort p (fun x => { x with gateNext := j + 1 })).each (p :: s.activePorts) (fun t q => t.wr Obj.F_MED 0 q (s.fMed pg.dir m))
  let own := t.overOwn p j ticks
  let made := t.decided.any (fun d => decide (d.1 = j))
  let dropped := !made && (own || (t.activePorts.filter (· ≠ p)).any (fun q => t.overOther q j))
  let t := if made then t else t.osRun t.overLimit
  if dropped then t.dropCol j
  else
    let t := if made then t else { t with decided := (j, false) :: t.keepDecided j }
    if own then t.loseCol p j
    else if (t.ftQ : Int) + tTx + t.linkDelay p > ofTick (t.minTick p ticks) then t.loseCol p j
    else t.fixCol p j ticks

/-- The gate of the next column of a spit run on a port, by the run's own clock (R85, R117): its start instants are the run's. -/
def Core.runGate (s : Core) (p : Nat) : Core :=
  match (s.port p).cols.find? (fun r => r.run && !r.gated && !r.settled) with
  | none => s
  | some r => match s.gateAt p r.col with
    | some g => if (s.ftQ : Int) < g ∨ s.link p ≠ lkReady then s else s.fixCol p r.col r.ticks
    | none => s

/-- COLUMN_GATE on a port (R79): nothing but time passes until the gate of its next column. -/
def Core.columnGate (s : Core) (p : Nat) : Core :=
  if p < 64 ∧ s.spit.isSome then s.runGate p
  else if p < 64 ∧ s.inPrint ∧ s.activePort p then
    let j := s.gateCol p
    match s.pageOf j, s.gateAt p j with
    | some pg, some g =>
      if !s.belowSeam j ∨ (s.ftQ : Int) < g ∨ (s.mode = .printScan ∧ s.feedMoving) then s
      else if s.pacingLost then (s.updPort p (fun x => { x with gateNext := j + 1 })).loseCol p j
      else match s.solveTicks pg (pg.own s) p (j - pg.base) with
        | some ticks => s.gateSolved p j pg ticks
        | none => s
    | _, _ => s
  else s

/-! ### Transmission (R80) -/

/-- The frame of the record's column can still reach the die by t_first(c - 2) if it leaves now. -/
def Core.inTime (s : Core) (p : Nat) (r : Col) : Bool :=
  match s.backOf p r.col 2 with
  | some t => decide ((s.laneAt p : Int) + tTx + s.linkDelay p ≤ t)
  | none => true

/-- The column whose frame comes next on a port: the lowest gated, complete and unsent one. -/
def Core.nextFrame (s : Core) (p : Nat) : Option Col :=
  (s.port p).cols.find? (fun r => !r.settled && !r.sent && !r.lost && !r.dropped && r.gated && r.complete)

/-- The die has completed column c - 4 and every earlier one sent to it (R17). -/
def Port.roomFor (x : Port) (j : Nat) : Bool := !x.cols.any (fun r => r.sent && !r.lost && !r.acked && decide (r.col + 4 ≤ j))

/-- FRAME_TRANSMIT on a port (R80). -/
def Core.frameTransmit (s : Core) (p : Nat) : Core :=
  if p < 64 ∧ s.link p = lkReady ∧ (s.inPrint ∨ s.spit.isSome) then
    match s.nextFrame p with
    | none => s
    | some r =>
      if !(s.port p).roomFor r.col ∨ s.armed .ackWait p ∨ (s.port p).cfgWait ∨ (!r.run ∧ !s.belowSeam r.col) then s
      else if !s.inTime p r then s.loseCol p r.col
      else
        let t := s.sendColumn p r
        let r' := (t.colOf p r.col)
        let t := { t with colTop := max t.colTop (r.col + 1) }
        if r.run then t.setCol p { r' with sent := true, settled := true }
        else t.settleSent p r'
  else s

/-! ### Deadlines missed (R16, R18) -/

/-- A column whose frame can no longer reach the die. -/
def Core.frameLate (s : Core) (p : Nat) (r : Col) : Bool := !r.sent && !s.inTime p r

/-- STAGE_DEADLINE_MISS of column `j` on a port: the column is lost there (R18). On a standby's shared port it only settles, at t_first(c - 2)
(R410). On a port that is away, the columns up to it are lost once its raster deadline has passed (R591). -/
def Core.stageMiss (s : Core) (p j : Nat) : Core :=
  if p < 64 ∧ (s.port p).away ∧ s.inPrint then
    (if (s.pageOf j).isSome ∧ s.belowSeam j ∧ s.rasterLate p j then s.awayLost p j else s)
  else
  let r := s.colOf p j
  let due := if r.run then s.frameLate p r
    else s.inPrint && s.activePort p && decide ((s.port p).floor ≤ j) && (s.pageOf j).isSome && s.belowSeam j && !s.isDropped j
      && (s.rasterLate p j || s.frameLate p r)
  let passed : Bool := match s.backOf p j 2 with | some t => decide (t < (s.ftQ : Int)) | none => false
  if s.isStandby ∧ s.sharedPort p then
    (if p < 64 ∧ due ∧ passed ∧ !r.settled then (s.setCol p { r with settled := true }).afterSettle p else s)
  else if p < 64 ∧ due ∧ !r.settled then s.rasterMiss p j
  else s

/-! ### Spit runs (R84, R85, R117) -/

/-- The ports of a spit pattern that can take part: those whose link is READY. -/
def Core.spitPorts (s : Core) (pat : Nat) : List Nat := allPorts.filter (fun p => bit (s.rd Obj.spat_PORTS pat 0) p && decide (s.link p = lkReady))

/-- Make column `q` of the run on every port of its pattern: bits from the pattern, start instants from the run's clock. Its gate is still to come (R117). -/
def Core.spitCol (s : Core) (x : Spit) (q : Nat) : Core :=
  if s.rd Obj.spat_COLUMNS x.pattern 0 ≤ q then s
  else
    let tick := x.startTick + q * x.step
    s.each (s.spitPorts x.pattern) (fun t p =>
      t.setCol p { col := x.base + q, spit := some x.pattern, run := true, step := x.step, asm := true, fire := t.spitBits x.pattern q p
                   ticks := (List.range 4).map (fun g => if t.rgPresent p g then tick else 0) })

/-- Start a spit run: the first column starts no earlier than GATE_LEAD + 2 × t_tx + 4 / SPIT_RATE after the write. -/
def Core.spitStart (s : Core) (pat : Nat) : Core :=
  let t0 := (s.ftQ : Int) + ((s.rd0 Obj.GATE_LEAD * 65536 : Nat) : Int) + 2 * tTx
    + ((ceilDiv (4 * 1000000000 * 65536) (max 1 (s.rd0 Obj.SPIT_RATE)) : Nat) : Int)
  let x : Spit := ⟨pat, 0, ceilDiv t0.toNat 163840, s.colTop, s.spitStep⟩
  let t := (({ s with spit := some x }).wr0 Obj.SPIT_STATE 1).setCompO Obj.SPIT_RUN 0 0 1
  t.each [0, 1, 2, 3] (fun t q => t.spitCol x q)

/-- The run's column clock reaches the start of column `next`: the column four later is made; past the last one the run ends. -/
def Core.spitClock (s : Core) : Core :=
  match s.spit with
  | none => s
  | some x =>
    if (s.ftQ : Int) < ofTick (x.startTick + x.next * x.step) then s
    else if s.rd Obj.spat_COLUMNS x.pattern 0 ≤ x.next then
      (({ s with spit := none }).wr0 Obj.SPIT_STATE 0).endComp Obj.SPIT_RUN 0 0 true
    else ({ s with spit := some { x with next := x.next + 1 } }).spitCol x (x.next + 4)

/-- The overspeed stop (R363). -/
def Core.osStop (s : Core) : Core :=
  if s.inPrint ∧ s.rd0 Obj.OS_COLS < s.rd0 Obj.OS_RUN then (s.wr0 Obj.OS_RUN 0).occur 1525 0 else s

/-! ### The commands -/

/-- COLUMN_GATE (R79). -/
def execColumnGate (dt port : Nat) (s : State) : Host.Outcome State Fault Refusal :=
  onCore (fun c => (c.advance dt).columnGate port) s

/-- FRAME_TRANSMIT (R80). -/
def execFrameTransmit (dt port : Nat) (s : State) : Host.Outcome State Fault Refusal :=
  onCore (fun c => (c.advance dt).frameTransmit port) s

/-- STAGE_DEADLINE_MISS (R18). -/
def execStageDeadlineMiss (dt port col : Nat) (s : State) : Host.Outcome State Fault Refusal :=
  onCore (fun c => (c.advance dt).stageMiss port col) s

/-- PULSE_VALIDATION_DONE (R77). -/
def execPulseValidationDone (dt port : Nat) (s : State) : Host.Outcome State Fault Refusal :=
  onCore (fun c => (c.advance dt).when ((c.advance dt).due .validation port) (fun t => t.validated port)) s

/-- SPIT_COLUMN_CLOCK (R85). -/
def execSpitColumnClock (dt : Nat) (s : State) : Host.Outcome State Fault Refusal :=
  onCore (fun c => (c.advance dt).spitClock) s

/-- OS_STOP (R363). -/
def execOsStop (dt : Nat) (s : State) : Host.Outcome State Fault Refusal :=
  onCore (fun c => (c.advance dt).osStop) s

end Sys2Proof.Machine
end

