-- ==== Sys2Proof/Machine/SbOps.lean ====
section
/-! DEFINITION. The sideband (R132, R138 to R143): requests, the conversation queue, SYNC-RESET; a port's entry to OFF, FAULT and RETRAIN; the Thimble keys (R178). -/

namespace Sys2Proof.Machine

open Sys2Proof

/-! ### Thimble keys (R178) -/

/-- The ASCII bytes of a tag. -/
def ascii (l : List Nat) : List Byte := l.map (BitVec.ofNat 8)

/-- KDF(K, L, X). -/
def thimKdf (k l x : List Byte) : List Byte := Crypto.cmac k ([1] ++ l ++ x) ++ Crypto.cmac k ([2] ++ l ++ x)

/-- "THMH". -/
def thmh : List Byte := ascii [84, 72, 77, 72]

/-- "THMS". -/
def thms : List Byte := ascii [84, 72, 77, 83]

/-- COUNT or NEW_COUNT, then CSEQ or NEW_CSEQ, as the messages carry them. -/
def countBytes (count cseq : Nat) : List Byte := leBytes 8 count ++ leBytes 4 cseq

/-- The request payload of a counter update (Table 7-1). -/
def updatePayload (ks : List Byte) (count cseq : Nat) : List Byte :=
  countBytes count cseq ++ List.replicate 4 0 ++ Crypto.cmac ks ([0x21] ++ countBytes count cseq)

/-! ### Requests (Tables 5-6, 5-9 to 5-11, 6-1, 7-1) -/

/-- OP codes. -/
def opRead : Nat := 1
def opWrite : Nat := 2
def opCommit : Nat := 3
def opSync : Nat := 15

/-- CAL_BYTES of the port's die. -/
def Core.calBytes (s : Core) (p : Nat) : Nat := s.rd Obj.port_DIE_IDENT p 0 / 256 ^ 16 % 2 ^ 32

/-- READ steps of the CAL conversation. -/
def Core.calSteps (s : Core) (p : Nat) : Nat := ceilDiv (s.calBytes p) 256

/-- The CFG_ID a COMMIT assigns: the previous one plus 1, skipping 0 (R143). -/
def Core.nextCfg (s : Core) (p : Nat) : Nat := s.rd Obj.port_CFG_ID p 0 % 255 + 1

/-- The bytes of a pulse table entry in the TABLE conversation: P1, TD, P2 as U16. -/
def entryBytes (w : Nat) : List Byte := let f := pulseFields w; leBytes 2 f.1 ++ leBytes 2 f.2.1 ++ leBytes 2 f.2.2

/-- OP, ARG and payload of the present step of a conversation. -/
def Core.stepOf (s : Core) (p : Nat) (c : Conv) : Nat × Nat × List Byte :=
  let th := (s.port p).thim
  match c.conv with
  | 1 => (if c.step < 4 then opRead else opCommit, 0, [])
  | 2 => if c.step ≤ s.calSteps p then (opRead, 256 * (c.step - 1), []) else (opCommit, 0, [])
  | 3 => if c.step = 1 then (opWrite, 0, c.data) else if c.step = 2 then (opWrite, c.arg, []) else (opCommit, s.nextCfg p, [])
  | 4 =>
    if c.step = 1 then (opWrite, 0, c.data.take 192)
    else if c.step = 2 then (opWrite, 0, c.data.drop 192)
    else (opCommit, s.nextCfg p, [])
  | 5 =>
    if c.step = 1 then (opRead, 0, [])
    else if c.step = 2 then (opWrite, 0, th.nonce)
    else if c.step = 3 then (opWrite, 0, c.data)
    else if c.step = 4 then (opCommit, 0, [])
    else if c.why = 7 then (opRead, 0, c.data)
    else match th.flight with
      | some (n, q) => (opCommit, 0, updatePayload th.ks n q)
      | none => (opRead, 0, [])
  | _ => if c.step = 1 then (opWrite, c.arg, c.data) else (opCommit, 0, [])

/-- A sideband request frame. -/
def sbFrame (r : SbReq) : List Byte :=
  let b := leBytes 1 2 ++ leBytes 1 r.seq ++ leBytes 1 r.conv ++ leBytes 1 r.op ++ leBytes 2 r.step ++ leBytes 2 r.data.length
    ++ leBytes 4 r.arg ++ r.data
  b ++ leBytes 4 (Crypto.crc32 b)

/-- Put the outstanding request on the lane; SB_TIMEOUT runs from its last symbol (R139). Where R144 bars it now it waits (`lanePump`). -/
def Core.sbSend (s : Core) (p : Nat) : Core :=
  match (s.port p).req with
  | none => s
  | some r =>
    let t := s.disarm .sbPending p
    if s.laneRoom p (16 + r.data.length) then
      let wait := (s.laneAt p - s.ftQ) / 32768 + ns (8 * (16 + r.data.length)) + us (s.rd Obj.port_SB_TIMEOUT p 0)
      ((t.laneFrame p .sideband [] (sbFrame r)).updPort p (fun x => { x with sbHeld := false })).arm .sbWait p wait
    else t.updPort p (fun x => { x with sbHeld := true })

/-- A TIME frame, then a request, that wait for the lane leave as soon as R144 allows. -/
def Core.lanePump (s : Core) (p : Nat) : Core :=
  let t := if (s.port p).timeHeld ≠ 0 then s.sendTime p false (decide ((s.port p).timeHeld = 2)) else s
  if (t.port p).sbHeld then t.sbSend p else t

/-- Send the request of the conversation's present step under the next SEQ. -/
def Core.sbStep (s : Core) (p : Nat) : Core :=
  match (s.port p).conv with
  | none => s
  | some c =>
    let q := (s.port p).seq % 255 + 1
    let (op, arg, data) := s.stepOf p c
    (s.updPort p (fun x => { x with seq := q, req := some ⟨q, c.conv, op, c.step, arg, data, 0⟩ })).sbSend p

/-- The states in which the controller holds conversations. -/
def Core.sbUp (s : Core) (p : Nat) : Bool := decide (s.link p = lkEnum ∨ s.link p = lkReady ∨ s.link p = lkStandby)

/-- What a conversation carries, taken as it begins: rotation and G, the pulse table, the next step of a Thimble instance, the sweep of the nozzles
still to measure from 300 µs after the departure of step 1 (R169). -/
def Core.prepare (s : Core) (p : Nat) (c : Conv) : Conv :=
  if c.conv = 3 then { c with data := (s.rotation p).flatMap (leBytes 1), arg := Nat.log2 (s.rd Obj.port_PHASE_GROUPS p 0) }
  else if c.conv = 4 then { c with data := (s.pulseLoad p).flatMap entryBytes }
  else if c.conv = 5 ∧ c.why ≠ 0 then { c with step := (s.port p).thim.nextStep }
  else if c.conv = 6 ∧ c.arg = 2 then
    let n := s.rd Obj.SWEEP_NEXT 0 p
    { c with data := leBytes 2 n ++ leBytes 2 (16 * s.nPrim p - n) ++ leBytes 5 (tickOf (s.laneAt p + 300000 * 65536)) ++ leBytes 2 640 ++ [0] }
  else c

/-- The conversation that begins next, and those left: the oldest, but no THIMBLE conversation while an update waits for the standby's acknowledgement (R410);
a step whose number would exceed 65,535 waits for a new instance (R184). -/
def Port.pick (x : Port) : Option (Conv × List Conv) :=
  match x.queue.find? (fun c => !(x.thim.mirrorWait && decide (c.conv = 5))) with
  | none => none
  | some c => if c.conv = 5 ∧ c.why ≠ 0 ∧ 65535 < x.thim.nextStep then some ({ conv := 5 }, x.queue) else some (c, x.queue.erase c)

/-- What the beginning of a conversation changes: a Thimble instance draws its nonce and gives up the session before it (R183, R184). -/
def Core.convBegin (s : Core) (p : Nat) (c : Conv) : Core :=
  if c.conv = 5 ∧ c.why = 0 then
    let d := s.draw
    (d.2.updPort p (fun x => { x with thim := { x.thim with kh := [], ks := [], nonce := d.1, slot := none, nextStep := 1, authed := false, renew := false } })).wr
      Obj.THIM_STATE 0 p 1
  else s

/-- Begin the next queued conversation if none is in progress. -/
def Core.sbNext (s : Core) (p : Nat) : Core :=
  match (s.port p).conv, (s.port p).pick with
  | none, some (c, rest) =>
    if s.sbUp p then
      let t := s.convBegin p c
      (t.updPort p (fun x => { x with conv := some (t.prepare p c), queue := rest, syncSince := false })).sbStep p
    else s
  | _, _ => s

/-- A CONFIG or TABLE conversation is in progress or queued: no column frame is sent (R143). -/
def cfgBusy (x : Port) : Bool := (x.conv.toList ++ x.queue).any (fun c => decide (c.conv = 3 ∨ c.conv = 4))

/-- Recompute whether column frames wait for a configuration. -/
def Core.cfgUpdate (s : Core) (p : Nat) : Core := s.updPort p (fun x => { x with cfgWait := cfgBusy x })

/-- Queue a conversation (R138). -/
def Core.queueConv (s : Core) (p : Nat) (c : Conv) : Core :=
  ((s.updPort p (fun x => { x with queue := x.queue ++ [c] })).cfgUpdate p).sbNext p

/-- The conversation in progress is over; the next one begins. -/
def Core.sbEnd (s : Core) (p : Nat) : Core :=
  (((s.updPort p (fun x => { x with conv := none, req := none, sbHeld := false })).disarm .sbWait p).disarm .sbPending p).cfgUpdate p

/-! ### Leaving a state -/

/-- The conversation of the port that a conversation number names is wanted: a TABLE_LOAD waiting stays pending (R150). -/
def Port.tableGoing (x : Port) : Bool := (x.conv.toList ++ x.queue).any (fun c => decide (c.conv = 4 ∧ c.why = 3))

/-- The deadlines of a port, but for its validation. -/
def portTimers : List Timer :=
  [.hpSettle, .linkState, .statusWait, .ackWait, .timePeriod, .sbWait, .sbPending, .commitPeriod, .leaveCommit, .thimbleAck]

/-- Disarm a port's deadlines. -/
def Core.portQuiet (s : Core) (p : Nat) : Core := portTimers.foldl (fun t k => t.disarm k p) s

/-- A measurement on the port's channel ends with STATUS LINK; the channel is freed at once, unless the die may stay powered through the partner
of a pair (R152). -/
def Core.measLink (s : Core) (p : Nat) : Core :=
  let a := s.afeOf (p / 2)
  if a.port = p ∧ a.kind ≠ 0 then
    let t := s.useAfe (p / 2) (if s.sharedPort p then { port := p, kind := 3 } else {})
    let t := (t.disarm .tsrSettle (p / 2)).disarm .tsrIntegrate (p / 2)
    if a.kind = 1 then t.publishBad p 2 else t
  else s

/-- A port's head power is off: its conversations are abandoned with their committed steps kept, its die's configuration is gone, columns
not begun and columns held are lost (Tables 5-12, 5-13, R591). -/
def Core.portDown (s : Core) (p st : Nat) : Core :=
  let x := s.port p
  let verify := (x.conv.toList ++ x.queue).any (fun c => decide (c.conv = 5 ∧ c.why = 7))
  let t := (s.portQuiet p).updPort p (fun x => { x with
    conv := none, req := none, queue := [], cfgWait := false, finalTime := false, loaded := [], rotDie := [], closing := false, retrained := false, sbHeld := false, timeHeld := 0
    tableWanted := x.tableWanted || x.tableGoing, offAt := s.clk, thim := { x.thim with authed := false, renew := false, sending := false, again := false, mirrorWait := false } })
  let t := (t.wr Obj.port_LINK_STATE p 0 st).wr Obj.port_PORT_FLAGS p 0 0
  let t := (t.wr Obj.THIM_STATE 0 p 0).emit .headPower p [0] []
  let t := if verify then t.endComp Obj.VERIFY_REQ 0 p false else t
  let t := (t.portInactive p).loseHeld p (fun _ => true)
  (t.measLink p).settle

/-- The port goes to OFF. -/
def Core.portOff (s : Core) (p : Nat) : Core := s.portDown p lkOff

/-- The port goes to FAULT: THREAD_FAULT (Table 5-12, R151). -/
def Core.portFault (s : Core) (p : Nat) : Core := (s.portDown p lkFault).level (768 + p) 0 true

/-- The port goes to RETRAIN (R137, R145, Table 5-13): its outstanding frame is not resent before ALIGN; its columns settle (R591); a measurement of its die ends
and a sweep stops, and the channel stays busy (R152, R169). -/
def Core.enterRetrain (s : Core) (p : Nat) : Core :=
  let b := s.link p
  let t := (((s.disarm .statusWait p).disarm .ackWait p).disarm .sbWait p).disarm .sbPending p
  let t := t.updPort p (fun x => { x with before := b, retrained := true, echoes := [], finalTime := false, timeFaults := 0, sbHeld := false, timeHeld := 0 })
  let t := ((t.wr Obj.port_LINK_STATE p 0 lkRetrain).inc Obj.port_RETRAINS p 0 1).arm .linkState p (ms 10)
  let a := t.afeOf (p / 2)
  let t := if a.kind = 1 ∧ a.port = p then t.publishBad p 2 else t
  let t := if a.kind ≠ 0 ∧ a.port = p then ((t.useAfe (p / 2) { port := p, kind := 3 }).disarm .tsrSettle (p / 2)).disarm .tsrIntegrate (p / 2) else t
  (t.portInactive p).occur (832 + p) 0

/-! ### SYNC-RESET (R140, R141) -/

/-- Send a SYNC; one that comes before a further step was committed is a failed resume, unless it follows a RETRAIN. -/
def Core.sync (s : Core) (p : Nat) (counted : Bool) : Core :=
  let x := s.port p
  let fails := if counted && x.syncSince then x.failedResumes + 1 else x.failedResumes
  if 3 ≤ fails then s.portFault p
  else
    let e := (x.epoch + 1) % 2 ^ 32
    let t := s.updPort p (fun x => { x with epoch := e, failedResumes := fails, syncSince := true, seq := 0, req := some ⟨0, 0, opSync, 0, e, [], 0⟩ })
    (t.inc Obj.port_SYNC_RESETS p 0 1).sbSend p

end Sys2Proof.Machine
end

