-- ==== Sys2Proof/Machine/Thimble.lean ====
section
/-! DEFINITION. Thimble (ch. 7): authentication, counting, commits, the journal, orphans, verification; the writes of its objects. -/

namespace Sys2Proof.Machine

open Sys2Proof

/-! ### Key slots (R179 to R181) -/

/-- The bytes of a KEY_SLOT record. -/
def Core.slotRec (s : Core) (k : Nat) : List Byte := leBytes 8 (s.rd Obj.KEY_SLOT 0 k)

/-- STATE of a slot: 0 EMPTY, 1 LOADED, 2 REVOKED. -/
def Core.slotState (s : Core) (k : Nat) : Nat := leAt (s.slotRec k) 0 1

/-- KEY_ID of a slot. -/
def Core.slotId (s : Core) (k : Nat) : Nat := leAt (s.slotRec k) 2 2

/-- The LOADED slot with a KEY_ID. -/
def Core.slotOf (s : Core) (id : Nat) : Option Nat := (List.range 8).find? (fun k => decide (s.slotState k = 1 ∧ s.slotId k = id))

/-- The key of a slot. -/
def Core.slotKey (s : Core) (k : Nat) : List Byte := Tab.get [] s.slotKeys k

/-- The record of a slot that has been programmed. -/
def slotBytes (st id : Nat) (key : List Byte) : List Byte :=
  leBytes 1 st ++ [0] ++ leBytes 2 id ++ (Crypto.cmac key (List.replicate 16 0)).take 3 ++ [0]

/-- The check of a KEY_LOAD value (R180); the FACTORY role is tested with the roles. -/
def chkKeyLoad : WrChk := fun s _ _ _ v =>
  let b := leBytes 48 v
  let k := leAt b 0 1
  let id := leAt b 6 2
  worse (stateIf (decide (s.mode ≠ .config) || (decide (k < 8) && decide (s.slotState k ≠ 0)) || decide (id = 0 ∨ id = 0xFFFF) || (s.slotOf id).isSome))
    (valueIf (decide (7 < k) || decide (leAt b 1 5 ≠ 0) || (Crypto.kwUnwrap Config.dtk (b.drop 8)).isNone))

/-- An accepted KEY_LOAD programs the slot; the object reads back the slot number alone. -/
def actKeyLoad : WrAct := fun _ _ _ v s =>
  let b := leBytes 48 v
  let k := leAt b 0 1
  match Crypto.kwUnwrap Config.dtk (b.drop 8) with
  | none => s
  | some key =>
    (({ s with slotKeys := Tab.set s.slotKeys k key }).wr Obj.KEY_SLOT 0 k (ofLe (slotBytes 1 (leAt b 6 2) key))).wr0 Obj.KEY_LOAD k

/-- An accepted KEY_REVOKE (R181). A slot revoked while EMPTY shows the KCV of an empty key (log entry 162). -/
def actKeyRevoke : WrAct := fun _ _ _ v s => s.wr Obj.KEY_SLOT 0 v (ofLe (slotBytes 2 (s.slotId v) (s.slotKey v)))

/-! ### The journal entry (R188) -/

/-- Change the Thimble side of a port. -/
def Core.updThim (s : Core) (p : Nat) (f : Thim → Thim) : Core := s.updPort p (fun x => { x with thim := f x.thim })

/-- The journal entry of a port as it stands now. -/
def Core.thimEntry (s : Core) (p : Nat) : ThimEntry :=
  ⟨s.rd Obj.CARRIER_ID 0 p, s.rd Obj.COUNT 0 p, s.rd Obj.CSEQ 0 p, s.rd Obj.PENDING_PL 0 p, (s.port p).thim.flight⟩

/-- The body of a THIMBLE mirror record (Table 15-1). -/
def ThimEntry.body (e : ThimEntry) : List Byte :=
  let f := e.flight.getD (0, 0)
  leBytes 8 e.carrier ++ leBytes 8 e.base ++ leBytes 4 e.cseq ++ leBytes 4 f.2 ++ leBytes 8 e.acc ++ leBytes 8 f.1 ++ leBytes 1 (b2n e.flight.isSome)
    ++ List.replicate 7 0

/-- Write the journal entry of a port, and mirror it where the port is shared (R188, Table 15-1). While the store refuses its writes the entry stays as it
was, each attempt is THIM_JOURNAL, and the next comes within 10 ms (R191). -/
def Core.thimWrite (s : Core) (p : Nat) : Core :=
  let e := s.thimEntry p
  let t :=
    if (s.port p).thim.writeFails then ((s.updThim p (fun x => { x with changed := true })).arm .thimJournal p (ms 10)).occur 1349 0
    else (({ s with thimJ := Tab.set s.thimJ p e }).updThim p (fun x => { x with changed := false })).disarm .thimJournal p
  if t.sharedPort p then t.mirrorPaced 7 p e.body else t

/-- A change of ACC: the entry is due within 10 ms. -/
def Core.accChanged (s : Core) (p : Nat) : Core :=
  let t := s.updThim p (fun x => { x with changed := true })
  if t.armed .thimJournal p then t else t.arm .thimJournal p (ms 10)

/-- Add to ACC. -/
def Core.addAcc (s : Core) (p : Nat) (d : Int) : Core :=
  (s.wr Obj.PENDING_PL 0 p (((s.rd Obj.PENDING_PL 0 p : Nat) : Int) + d).toNat).accChanged p

/-! ### Orphans (R189) -/

/-- The bytes of an orphan record. -/
def orphanBytes (carrier base cseq pl : Nat) : List Byte := leBytes 8 carrier ++ leBytes 8 base ++ leBytes 4 cseq ++ List.replicate 4 0 ++ leBytes 8 pl

/-- Element of ORPHANS as bytes. -/
def Core.orphan (s : Core) (j : Nat) : List Byte := leBytes 32 (s.rd Obj.ORPHANS 0 j)

/-- Make an orphan record of a port's entry: the first unused element, or the oldest. -/
def Core.addOrphan (s : Core) (e : ThimEntry) : Core :=
  let free := (List.range 64).find? (fun j => !s.orphanAge.contains j)
  let v := ofLe (orphanBytes e.carrier e.base e.cseq (e.acc / 64))
  match free with
  | some j => (({ s with orphanAge := s.orphanAge ++ [j] }).wr Obj.ORPHANS 0 j v).occur 1348 0
  | none =>
    let j := s.orphanAge.headD 0
    ((({ s with orphanAge := s.orphanAge.drop 1 ++ [j] }).wr Obj.ORPHANS 0 j v).inc0 Obj.ORPHAN_LOST).occur 1348 0

/-- Remove an orphan record. -/
def Core.dropOrphan (s : Core) (j : Nat) : Core := ({ s with orphanAge := s.orphanAge.filter (· ≠ j) }).wr Obj.ORPHANS 0 j 0

/-- Merge the orphan record of a carrier, if there is one: its PENDING is added to ACC (Table 7-2). -/
def Core.mergeOrphan (s : Core) (p carrier : Nat) : Core :=
  match s.orphanAge.find? (fun j => decide (leAt (s.orphan j) 0 8 = carrier)) with
  | some j => (s.addAcc p ((64 * leAt (s.orphan j) 24 8 : Nat) : Int)).dropOrphan j
  | none => s

/-- An ORPHAN_ACK write (R189): the record is removed and the removal noted in the log. -/
def actOrphanAck : WrAct := fun _ _ _ v s =>
  if s.orphanAge.contains (v - 1) then ((s.dropOrphan (v - 1)).addLog 65535 6 255 255 (0x9400 * 65536 + 8) 0 0).settle else s

/-! ### Authentication (R182 to R184) -/

/-- Queue a new instance, which begins at step 1 (R183, R184), unless one waits already. -/
def Core.thimAuth (s : Core) (p : Nat) : Core :=
  let t := s.wr Obj.THIM_STATE 0 p 1
  if (t.port p).queue.any (fun c => decide (c.conv = 5 ∧ c.why = 0)) then t else t.queueConv p { conv := 5, why := 0 }

/-- An instance of the port waits or runs. -/
def Port.authGoing (x : Port) : Bool := (x.conv.toList ++ x.queue).any (fun c => decide (c.conv = 5 ∧ c.why = 0))

/-- VERIFY_RESULT (Table 7-5). -/
def verifyBytes (tNs carrier count cseq st : Nat) (tv : List Byte) : List Byte :=
  leBytes 8 tNs ++ leBytes 8 carrier ++ leBytes 8 count ++ leBytes 4 cseq ++ leBytes 1 st ++ List.replicate 3 0 ++ padTo 16 tv

/-- Publish VERIFY_RESULT. -/
def Core.verifyPublish (s : Core) (p st count cseq : Nat) (tv : List Byte) : Core :=
  s.wr Obj.VERIFY_RESULT 0 p (ofLe (verifyBytes s.ftNs (s.rd Obj.CARRIER_ID 0 p) count cseq st tv))

/-- A verification ends without an answer. -/
def Core.verifyFail (s : Core) (p : Nat) : Core :=
  (s.verifyPublish p 1 (s.rd Obj.COUNT 0 p) (s.rd Obj.CSEQ 0 p) []).endComp Obj.VERIFY_REQ 0 p false

/-- No authenticated instance is left: the steps that wait for it are given up, an update keeping its in-flight record. -/
def Core.thimDrop (s : Core) (p : Nat) : Core :=
  let verify := (s.port p).queue.any (fun c => decide (c.conv = 5 ∧ c.why = 7))
  let t := (s.updPort p (fun x => { x with
    queue := x.queue.filter (fun c => !decide (c.conv = 5 ∧ c.why ≠ 0)), thim := { x.thim with authed := false, sending := false, mirrorWait := false } })).disarm
      .thimbleAck p
  if verify then t.verifyFail p else t

/-- The instance fails (R183). -/
def Core.thimFail (s : Core) (p : Nat) : Core := (((s.wr Obj.THIM_STATE 0 p 3).setFlag p 1 false).thimDrop p).occur (1280 + p) 0

/-- The carrier key of a slot and carrier (R178). -/
def Core.carrierKey (s : Core) (slot carrier : Nat) : List Byte := thimKdf (s.slotKey slot) thmh (leBytes 8 carrier)

/-- The reconciliation of Table 7-2: false is a rollback. -/
def Core.reconcile (s : Core) (p carrier count cseq : Nat) : Core × Bool :=
  let e := s.thimEntry p
  let setBase (t : Core) : Core := ((t.wr Obj.CARRIER_ID 0 p carrier).wr Obj.COUNT 0 p count).wr Obj.CSEQ 0 p cseq
  let clear (t : Core) : Core := t.updThim p (fun x => { x with flight := none })
  if carrier ≠ e.carrier then
    let t := if e.acc ≠ 0 ∨ e.flight.isSome then s.addOrphan e else s
    let t := ((clear (setBase t)).wr Obj.PENDING_PL 0 p 0).mergeOrphan p carrier
    (t.thimWrite p, true)
  else if cseq < e.cseq ∨ count < e.base then (s.occur 1347 0, false)
  else
    match e.flight with
    | none =>
      if cseq = e.cseq ∧ count = e.base then (s, true) else ((setBase s).thimWrite p |>.occur 1346 0, true)
    | some (n, q) =>
      if cseq = q ∧ count = n then
        ((clear (setBase (s.addAcc p (-((64 * (n - e.base) : Nat) : Int))))).thimWrite p, true)
      else if cseq = e.cseq ∧ count = e.base then (s, true)
      else ((clear (setBase s)).thimWrite p |>.occur 1346 0, true)

/-! ### Commits (R187) -/

/-- The standby has acknowledged the target, or will not: the update may leave (R410). -/
def Core.thimSend (s : Core) (p : Nat) : Core := (s.updThim p (fun x => { x with mirrorWait := false })).sbNext p

/-- Queue the update in flight as the next step of the instance; on a shared port it leaves once the standby has acknowledged its target (R410). -/
def Core.thimUpdate (s : Core) (p : Nat) : Core :=
  let wait := s.isPairActive && s.sharedPort p
  let t := (s.updThim p (fun x => { x with sending := true, mirrorWait := wait, mirrorSeq := 2 ^ 32 })).thimWrite p
  (if wait then t.arm .thimbleAck p (ms 1) else t).queueConv p { conv := 5, why := 6 }

/-- A commit trigger of a port (R187, R191): a new target, or the one in flight again, or a new instance first; one that comes while a commit or an instance
runs is served at its end. -/
def Core.thimTrigger (s : Core) (p : Nat) : Core :=
  let x := (s.port p).thim
  let t := s.disarm .commitPeriod p
  let later := t.updThim p (fun x => { x with again := true })
  if x.sending then later
  else if !x.authed then (if (s.port p).authGoing then later else if x.renew ∧ s.sbUp p then later.thimAuth p else t)
  else
    match x.flight with
    | some _ => t.thimUpdate p
    | none =>
      let n := s.rd Obj.COUNT 0 p + s.rd Obj.PENDING_PL 0 p / 64
      let q := s.rd Obj.CSEQ 0 p + 1
      (t.updThim p (fun x => { x with flight := some (n, q), since := 0, firstSince := none })).thimUpdate p

/-- A commit has ended: a trigger that waited is served, else a port that waited for its commit leaves, else 1,000 ms run from the first acknowledgement not
in the commit (R187). -/
def Core.thimAfter (s : Core) (p : Nat) : Core :=
  let x := (s.port p).thim
  let t := s.updThim p (fun x => { x with sending := false, mirrorWait := false, again := false })
  if x.again then t.thimTrigger p
  else if (s.port p).closing then t.portOff p
  else match (if x.flight.isSome then x.firstSince else x.first) with
    | some c => t.arm .commitPeriod p (c + ms 1000 - t.clk)
    | none => t

/-- DONE with a correct T_a confirms the update (R187). -/
def Core.thimConfirm (s : Core) (p n q : Nat) : Core :=
  let x := (s.port p).thim
  let used : Int := ((64 * (n - s.rd Obj.COUNT 0 p) : Nat) : Int)
  let t := ((s.wr Obj.COUNT 0 p n).wr Obj.CSEQ 0 p q).addAcc p (-used)
  let t := (t.wr Obj.DROPS_PENDING 0 p x.since).inc Obj.COMMITS 0 p 1
  let t := t.updThim p (fun x => { x with flight := none, since := 0, first := x.firstSince, firstSince := none, overdue := false })
  (t.thimWrite p).thimAfter p

/-- The update was answered ARG, its T_a was wrong, or its conversation ended otherwise (R191): the next trigger starts a new instance. -/
def Core.thimCommitFail (s : Core) (p : Nat) : Core :=
  let t := ((s.thimDrop p).updThim p (fun x => { x with renew := true })).inc Obj.COMMIT_FAILS 0 p 1
  (t.occur 1344 0).thimAfter p

/-- A port is about to leave READY or STANDBY: the commit comes first, and waits at most 5 ms (R187). -/
def Core.leavePort (s : Core) (p : Nat) : Core :=
  if (s.link p = lkReady ∨ s.link p = lkStandby) ∧ ((s.port p).thim.authed ∨ (s.port p).thim.renew) then
    ((s.updPort p (fun x => { x with closing := true })).arm .leaveCommit p (ms 5)).thimTrigger p
  else s.portOff p

/-! ### Counting (R187) -/

/-- Count the drops of a column that an acknowledgement covers, of those nozzles that `keep` selects. -/
def Core.thimCredit (s : Core) (p : Nat) (r : Col) (keep : Nat → Bool) : Core :=
  let l := r.idx.filter (fun ni => keep ni.1 && decide (ni.2 ≠ 0))
  if l.isEmpty then s
  else
    let vol := l.foldl (fun a ni => a + s.rd Obj.DROP_VOL p (ni.2 - 1)) 0
    let x := (s.port p).thim
    let t := (if vol = 0 then s else s.addAcc p ((vol : Nat) : Int)).inc Obj.DROPS_PENDING 0 p l.length
    let fly := x.flight.isSome
    let t := t.updThim p (fun x => { x with
      since := if fly then x.since + l.length else x.since
      first := if x.first.isNone ∧ !fly then some s.clk else x.first
      firstSince := if fly ∧ x.firstSince.isNone then some s.clk else x.firstSince })
    if t.armed .commitPeriod p ∨ x.sending then t else t.arm .commitPeriod p (ms 1000)

/-! ### Steps of the conversation (Table 7-1) -/

/-- What a DONE answer to the present Thimble step brings about: the state, whether the conversation goes on to its next step, and the data the next
step carries. -/
def Core.thimDone (s : Core) (p : Nat) (c : Conv) (rsp : List Byte) : Core × Bool × List Byte :=
  let x := (s.port p).thim
  if c.step = 1 then
    let carrier := leAt rsp 0 8
    match s.slotOf (leAt rsp 8 2) with
    | none => (((s.wr Obj.THIM_STATE 0 p 4).sbEnd p).thimDrop p, false, [])
    | some k =>
      if leAt rsp 10 2 ≠ 0x0100 then ((s.sbEnd p).thimFail p, false, [])
      else (s.updThim p (fun y => { y with slot := some k, kh := s.carrierKey k carrier }), true, leBytes 8 carrier)
  else if c.step = 2 then
    let nh := rsp.take 16
    let count := leAt rsp 16 8
    let cseq := leAt rsp 24 4
    let th := (rsp.drop 32).take 16
    if th ≠ Crypto.cmac x.kh ([0x11] ++ x.nonce ++ nh ++ countBytes count cseq) then ((s.sbEnd p).thimFail p, false, [])
    else
      let r := s.reconcile p (ofLe c.data) count cseq
      if !r.2 then ((r.1.sbEnd p).thimFail p, false, [])
      else (r.1.updThim p (fun y => { y with ks := thimKdf x.kh thms (x.nonce ++ nh) }), true, Crypto.cmac x.kh ([0x12] ++ nh ++ x.nonce))
  else if c.step = 3 then (s, true, [])
  else if c.step = 4 then
    let t := ((s.wr Obj.THIM_STATE 0 p 2).setFlag p 1 true).updThim p (fun y => { y with authed := true, nextStep := 5 })
    let t := t.sbEnd p
    let queued := (t.port p).queue.any (fun c => decide (c.conv = 5 ∧ c.why = 6))
    let keep := queued && x.flight.isSome
    let t := if keep then t else t.updPort p (fun y => { y with
      queue := y.queue.filter (fun c => !decide (c.conv = 5 ∧ c.why = 6)), thim := { y.thim with sending := false, mirrorWait := false, again := false } })
    ((if !keep ∧ (x.flight.isSome ∨ s.rd Obj.PENDING_PL 0 p ≠ 0 ∨ x.again ∨ queued ∨ (s.port p).closing) then t.thimTrigger p else t), false, [])
  else
    let t := (s.updThim p (fun y => { y with nextStep := c.step + 1 })).sbEnd p
    let count := leAt rsp 0 8
    let cseq := leAt rsp 8 4
    let tag := (rsp.drop 16).take 16
    if c.why = 7 then ((t.verifyPublish p 0 count cseq tag).endComp Obj.VERIFY_REQ 0 p true, false, [])
    else
      match x.flight with
      | some (n, q) =>
        if count = n ∧ cseq = q ∧ tag = Crypto.cmac x.ks ([0x22] ++ countBytes count cseq) then (t.thimConfirm p n q, false, [])
        else (t.thimCommitFail p, false, [])
      | none => (t, false, [])

/-- A Thimble conversation ended unsuccessfully. INACTIVE is no failure (Table 5-8, R147): the conversation just ends, and so does the instance. ARG at any
step of an instance is taken as R183 takes it at step 3 (log entry 163). -/
def Core.thimEnded (s : Core) (p : Nat) (c : Conv) (status : Nat) : Core :=
  let t := s.sbEnd p
  if c.why = 7 then t.verifyFail p
  else if status = 4 then (if c.why = 6 then (t.thimDrop p).thimAfter p else t.thimDrop p)
  else if c.why = 6 then t.thimCommitFail p
  else t.thimFail p

/-! ### Writes -/

/-- A VERIFY_REQ needs READY or STANDBY and an authenticated instance (R190). -/
def chkVerify : WrChk := fun s _ _ p _ => stateIf (!((decide (s.link p = lkReady ∨ s.link p = lkStandby)) && (s.port p).thim.authed))

/-- A VERIFY_REQ runs one READ step. -/
def actVerify : WrAct := fun _ _ p v s =>
  ((s.setCompO Obj.VERIFY_REQ 0 p 1).verifyPublish p 2 (s.rd Obj.COUNT 0 p) (s.rd Obj.CSEQ 0 p) []).queueConv p { conv := 5, why := 7, data := leBytes 16 v }

/-- COMMIT_NOW (R187). -/
def actCommitNow : WrAct := fun _ _ _ v s => s.each (bitsSet 64 v) Core.thimTrigger

/-- THIM_RETRY (R183). -/
def actThimRetry : WrAct := fun _ _ _ v s => s.each (bitsSet 64 v) (fun t p => if t.link p = lkReady ∨ t.link p = lkStandby then t.thimAuth p else t)

/-! ### The commands -/

/-- COMMIT_PERIOD_EXPIRY (R187). -/
def execCommitPeriodExpiry (dt port : Nat) (s : State) : Host.Outcome State Fault Refusal :=
  onCore (fun c => (c.advance dt).when ((c.advance dt).due .commitPeriod port) (fun t => t.thimTrigger port)) s

/-- COMMIT_DROPS_REACHED (R187). -/
def execCommitDropsReached (dt port : Nat) (s : State) : Host.Outcome State Fault Refusal :=
  onCore (fun c => (c.advance dt).when (decide (port < 64 ∧ 2 ^ 24 ≤ c.rd Obj.DROPS_PENDING 0 port)) (fun t => t.thimTrigger port)) s

/-- LEAVE_COMMIT_TIMEOUT (R187): the port proceeds, the amount stays journaled. -/
def execLeaveCommitTimeout (dt port : Nat) (s : State) : Host.Outcome State Fault Refusal :=
  onCore (fun c => (c.advance dt).when ((c.advance dt).due .leaveCommit port && (c.port port).closing && decide (c.link port ≠ lkAborted)) (fun t => t.portOff port)) s

/-- THIMBLE_JOURNAL_TIMER (R188): the entry is written, or its write fails; until a later one succeeds the store refuses the port's other writes too
(log entry 164). -/
def execThimbleJournalTimer (dt port : Nat) (fails : Bool) (s : State) : Host.Outcome State Fault Refusal :=
  onCore (fun c => (c.advance dt).when ((c.advance dt).due .thimJournal port && (c.port port).thim.changed) (fun t =>
    (t.updThim port (fun x => { x with writeFails := fails })).thimWrite port)) s

/-- THIM_OVERDUE (R191). -/
def execThimOverdue (dt port : Nat) (s : State) : Host.Outcome State Fault Refusal :=
  onCore (fun c => (c.advance dt).when
    (c.inPrint && !(c.port port).thim.overdue && (match (c.port port).thim.first with
      | some t => decide (t + ms (c.rd0 Obj.THIM_GRACE) < (c.advance dt).clk)
      | none => false))
    (fun t => (t.updThim port (fun x => { x with overdue := true })).occur 1345 0)) s

end Sys2Proof.Machine
end

