-- ==== Sys2Proof/Machine/Health.lean ====
section
/-! DEFINITION. Head health (ch. 6): temperature and junction measurements, rate of rise, dry fire, the nozzle map, heater sweeps, head supplies. -/

namespace Sys2Proof.Machine

open Sys2Proof

/-! ### The nozzle map (R166, R167) -/

/-- Store a NOZZLE_MAP byte; a change on a shared port is mirrored with the first column it applies to (Table 15-1). -/
def Core.setNozzle (s : Core) (n v : Nat) : Core :=
  let old := s.rd Obj.NOZZLE_MAP 0 n
  let t := s.wr Obj.NOZZLE_MAP 0 n v
  if v = old ∨ !s.sharedPort (n / 1024) then t
  else t.mirrorPaced 5 (s.nextAssembly (n / 1024)) (leBytes 2 1 ++ leBytes 2 0 ++ leBytes 2 n ++ leBytes 1 v ++ [0])

/-- Set DRY_FLAGS; a change is mirrored. -/
def Core.setDry (s : Core) (v : Nat) : Core :=
  if v = s.rd0 Obj.DRY_FLAGS then s
  else
    let first := ((bitsSet 64 (s.rd0 Obj.PAIR_PORTS)).head?).getD 0
    (s.wr0 Obj.DRY_FLAGS v).mirrorPaced 6 (s.nextAssembly first) (leBytes 8 v)

/-- HOST of an entry takes 0 to 2; a standby rejects writes to shared ports (R167, R410). -/
def chkNozzleMap : WrChk := fun s _ _ n v =>
  worse (valueIf (decide (field v 3 2 = 3))) (stateIf (s.isStandby && s.sharedPort (n / 1024)))

/-- A write changes HOST only (R167). -/
def actNozzleMap : WrAct := fun b _ n v s =>
  let old := b.rd Obj.NOZZLE_MAP 0 n
  (s.wr Obj.NOZZLE_MAP 0 n old).setNozzle n (putField old 3 2 (field v 3 2))

/-- DRY_CLEAR (R165). -/
def actDryClear : WrAct := fun _ _ _ v s => s.setDry (maskOf ((bitsSet 64 (s.rd0 Obj.DRY_FLAGS)).filter (fun p => !bit v p)))

/-- A die with another SERIAL: the map, the baselines and the dry flag of the port are forgotten (R168). -/
def Core.newDie (s : Core) (p serial : Nat) : Core :=
  let t := (List.range 1024).foldl (fun t a => (t.setNozzle (1024 * p + a) 0x30).wr Obj.R_BASE 0 (1024 * p + a) 0) s
  (t.setDry (putBit (t.rd0 Obj.DRY_FLAGS) p false)).wr Obj.DIE_SERIAL 0 p serial

/-! ### Rate of rise (R161, R162) -/

/-- The newest earlier measurement between RISE_MIN_DT and RISE_MAX_DT before instant `t`. -/
def Core.riseRef (s : Core) (sensor t : Nat) : Option (Nat × Int) :=
  (Tab.get [] s.meas sensor).find? (fun r =>
    decide (r.1 + 1000 * s.rd0 Obj.RISE_MIN_DT ≤ t ∧ t ≤ r.1 + 1000000 * s.rd0 Obj.RISE_MAX_DT))

/-- RATE in Q24.8 K/s of a rise in Q8.8 K over `dt` ns. -/
def rateOf (rise : Int) (dt : Nat) : Int := satS 32 (roundDiv (rise * 1000000000) dt)

/-- Keep a valid measurement as a reference, for as long as RISE_MAX_DT can reach. -/
def Core.keepMeas (s : Core) (sensor t : Nat) (temp : Int) : Core :=
  { s with meas := Tab.set s.meas sensor ((t, temp) :: (Tab.get [] s.meas sensor).filter (fun r => decide (t ≤ r.1 + 3600000000000))) }

/-- RISE, RATE and FLAGS [0] to [4] of a valid measurement. -/
def Core.riseFlags (s : Core) (sensor t : Nat) (temp : Int) : Int × Int × Nat :=
  let js := decide (64 ≤ sensor)
  let thr (o q : Ob) : Nat := s.rd0 (if js then q else o)
  let abs_ := b2n (decide (temp > s.rdI (if js then Obj.T_ABS_JS else Obj.T_ABS_DIE) 0 0))
  match s.riseRef sensor t with
  | none => (0, 0, 16 * abs_)
  | some r =>
    let rise := satS 16 (temp - r.2)
    let rate := rateOf (temp - r.2) (t - r.1)
    let above (o q : Ob) : Nat := b2n (decide (rate > ((16 * thr o q : Nat) : Int)))
    (rise, rate, 1 + 2 * above Obj.RISE1_DIE Obj.RISE1_JS + 4 * above Obj.RISE2_DIE Obj.RISE2_JS + 8 * above Obj.RISE3_DIE Obj.RISE3_JS + 16 * abs_)

/-- The source a measurement's flags raise: only the highest threshold (R162). -/
def riseSource (sensor flags : Nat) : Option Nat :=
  let pick (die js : Nat) : Option Nat := some (if sensor < 64 then die + sensor else js + (sensor - 64))
  if bit flags 3 ∨ bit flags 4 then pick 1040 1200
  else if bit flags 2 then pick 976 1184
  else if bit flags 1 then pick 912 1168
  else none

/-- Raise the source of a measurement's flags. -/
def Core.raiseRise (s : Core) (sensor flags : Nat) : Core :=
  match riseSource sensor flags with
  | some n => s.occur n 0
  | none => s

/-- A record goes out: its object, and its mirror of a die's measurement on a shared port. -/
def Core.publish (s : Core) (sensor : Nat) (rec : List Byte) : Core :=
  let t := s.publishMeas sensor rec
  if 64 ≤ sensor ∨ s.sharedPort sensor then t.mirrorPaced 8 sensor rec else t

/-- The dry test of R164. -/
def Core.dryTest (s : Core) (m p : Int) : Bool :=
  decide (p ≥ s.rd0 Obj.DRY_MIN_RISE) && decide (0 < m) && decide (m * 4096 > p * s.rd0 Obj.DRY_RATIO)

/-- A valid die record is decided and published once the model step has taken it (R156, R158, R161, R164). -/
def Core.publishDie (s : Core) (p : Nat) (m : MeasWait) (corrected : Bool) : Core :=
  let f := s.riseFlags p m.tNs m.temp
  let dry := corrected && (match Tab.get? s.prevTemp p with
    | some v => s.dryTest (m.temp - v) (s.rdI Obj.PRED_RISE 0 p)
    | none => false)
  let rec_ := measRecord m.tNs m.raw m.temp f.1 f.2.1 0 p (f.2.2 + 32 * b2n dry + 64 * b2n corrected)
  let t := ({ s.keepMeas p m.tNs m.temp with prevTemp := Tab.set s.prevTemp p m.temp }).publish p rec_
  let t := t.raiseRise p f.2.2
  if dry ∧ !bit (t.rd0 Obj.DRY_FLAGS) p then (t.setDry (putBit (t.rd0 Obj.DRY_FLAGS) p true)).occur (1104 + p) 0 else t

/-- One measurement waiting on a port: the model's correction, then its record. -/
def Core.takeMeas (s : Core) (p : Nat) (m : MeasWait) : Core :=
  let r := s.correct p m
  r.1.publishDie p m r.2

/-- A THERMAL record's body: T̂ and T_SINK of 32 ports (Table 15-1). -/
def Core.thermalBody (s : Core) (first : Nat) : List Byte :=
  leBytes 1 first ++ List.replicate 7 0 ++ (List.range 32).flatMap (fun i =>
    leBytes 4 (rawOf 32 (s.port (first + i)).therm.t) ++ leBytes 2 (s.rd Obj.T_SINK 0 (first + i)) ++ leBytes 2 0)

/-- The THERMAL pair of the active member. -/
def Core.mirrorThermal (s : Core) (step : Nat) : Core :=
  (s.mirrorActive 2 0 (step % 2 ^ 32) (s.thermalBody 0)).mirrorActive 2 0 (step % 2 ^ 32) (s.thermalBody 32)

/-- Put a measurement into a list in order of t_m. -/
def putMeas (m : MeasWait) : List MeasWait → List MeasWait
  | [] => [m]
  | x :: t => if m.tNs ≤ x.tNs then m :: x :: t else x :: putMeas m t

/-- The measurements whose result arrived in the step just ended correct the model, in order of t_m (R110). -/
def Core.modelCorrect (s : Core) (p : Nat) : Core :=
  let k := (s.port p).therm.step
  let w := (s.port p).therm.waiting
  ((w.filter (fun m => decide (m.step < k))).foldr putMeas []).foldl (fun u m => u.takeMeas p m)
    (s.updPort p (fun x => { x with therm := { x.therm with waiting := w.filter (fun m => decide (k ≤ m.step)) } }))

/-- The next `n` steps of a port end. -/
def Core.modelRun (s : Core) (p : Nat) : Nat → Core
  | 0 => s
  | n + 1 =>
    let u := s.modelStepPort p
    if (u.port p).therm.t = (s.port p).therm.t ∧ (s.port p).therm.q.isEmpty ∧ (s.port p).therm.waiting.isEmpty then u.modelRest p n
    else (u.modelCorrect p).modelRun p n

/-- MODEL_STEP (R108, R110): at a boundary of 8,192 ns every step of a port's model whose end has passed ends, and the measurements of each correct it; every 8 steps the
active member of a pair mirrors the models. -/
def Core.modelStep (s : Core) : Core :=
  if !s.running then s
  else
    let t := s.each (s.ports.map Prod.fst) (fun t p => t.modelRun p (t.modelNow - (t.port p).therm.step))
    if s.modelNow % 8 = 0 then t.mirrorThermal s.modelNow else t

/-! ### Requests (R155) -/

/-- The modes that accept a measurement request (R155). -/
def measModes : List Mode := [.ready, .printWeb, .printScan, .service, .park]

/-- Request the temperature of the dies of a port mask. -/
def Core.measRequest (s : Core) (v : Nat) : Core :=
  let t := s.each (bitsSet 64 v) (fun t p =>
    if t.link p ≠ lkReady then t.publishBad p 1
    else if (t.afeOf (p / 2)).kind = 1 ∧ (t.afeOf (p / 2)).port = p then t
    else { t with measPending := putBit t.measPending p true })
  t.settle

/-- Begin a conversion of junction sensors. -/
def Core.jsStartConv (s : Core) (v : Nat) : Core := { s with jsRunning := v, jsStart := s.ftNs }

/-- Request junction sensors: those named and not yet in hand are converted together, after a conversion in progress (R155, R160). -/
def Core.jsRequest (s : Core) (v : Nat) : Core :=
  let fresh := maskOf ((bitsSet 16 v).filter (fun i => !bit s.jsRunning i && !bit s.jsPending i))
  if fresh = 0 then s
  else if s.jsRunning = 0 then s.jsStartConv fresh
  else { s with jsPending := s.jsPending + fresh }

/-- MEAS_REQ. -/
def actMeasReq : WrAct := fun _ _ _ v s => s.measRequest v

/-- MEAS_REQ_JS. -/
def actMeasReqJs : WrAct := fun _ _ _ v s => s.jsRequest v

/-! ### A die measurement (R156, R157) -/

/-- The channel is free (R152): never taken, or its last die's switch is open. -/
def Core.chanFree (s : Core) (k : Nat) : Bool :=
  let a := s.afeOf k
  let l := s.link a.port
  decide (a.kind = 0) || (decide (a.kind = 3)
    && (decide (l = lkAborted) || (decide (l = lkOff ∨ l = lkFault) && !s.sharedPort a.port)
      || (decide (l = lkStandby) && s.sharedPort a.port)))

/-- The lowest port of a channel whose bit is set in a mask. -/
def chanPort (mask k : Nat) : Option Nat := [2 * k, 2 * k + 1].find? (bit mask)

/-- Open the switch of a port's die (SENSE OPEN). -/
def Core.openSwitch (s : Core) (p : Nat) : Core :=
  (s.useAfe (p / 2) { port := p, kind := 3 }).queueConv p { conv := 6, why := 10 }

/-- The reading of the front end's precision reference is within 0.5 % of its stored value (R174). -/
def Core.refGood (s : Core) (reading : Nat) : Bool := decide (200 * ((reading : Int) - s.afeRef).natAbs ≤ s.afeRef)

/-- The sweep on a channel is to pause (R171): at the end of the dwell in progress; at once where no heater is connected yet. -/
def Core.pauseSweep (s : Core) (k : Nat) : Core :=
  let a := s.afeOf k
  if a.kind ≠ 2 then s
  else if a.armed ∧ ofTick a.start ≤ (s.ftQ : Int) then s.setAfe k { a with pause := true }
  else (s.updPort a.port (fun x => { x with queue := x.queue.filter (fun c => !decide (c.conv = 6 ∧ c.arg = 2)) })).openSwitch a.port

/-- The current of a swept nozzle's dwell: from 400 ns into it, for 1,000 ns (R169). -/
def Core.heaterPulse (s : Core) (k i : Nat) : Core :=
  let a := s.afeOf k
  let from_ := a.start + (i - a.base) * 640 + 160
  s.emit .heaterPulse k [(a.force : Int), (from_ : Int), ((from_ + 400 : Nat) : Int)] []

/-- MEAS_SERVICE on a channel: the next request begins its SENSE conversation; a sweep is paused first; a failed reference check ends the batch (R174). -/
def Core.measService (s : Core) (k ref : Nat) : Core :=
  if s.mode = .safe ∨ !s.running ∨ 32 ≤ k then s
  else match chanPort s.measPending k with
    | none => s
    | some p =>
      if (s.afeOf k).kind = 2 then s.pauseSweep k
      else if !s.chanFree k then s
      else
        let clear (t : Core) (q : Nat) : Core := { t with measPending := putBit t.measPending q false }
        if !s.refGood ref then
          let t := s.each ([2 * k, 2 * k + 1].filter (bit s.measPending)) (fun t q => (clear t q).publishBad q 4)
          t.settle.occur 1267 0
        else if s.link p ≠ lkReady then ((clear s p).publishBad p 1).settle
        else (((clear s p).setAfe k { kind := 1, port := p }).queueConv p { conv := 6, why := 4, arg := 1 })

/-- TSR_SETTLE_DONE: integration begins. -/
def Core.tsrSettled (s : Core) (k : Nat) : Core :=
  if s.due .tsrSettle k ∧ (s.afeOf k).kind = 1 then
    ((s.disarm .tsrSettle k).setAfe k { s.afeOf k with start := s.ftNs }).arm .tsrIntegrate k (us 64)
  else s

/-- T_m in Q8.8 from R_m and R_nom in Q16.16 and α in Q1.31 (R157): exact, then rounded once. -/
def tempOf (raw nom : Nat) (alpha : Int) : Int :=
  let den : Int := (nom : Int) * alpha
  satS 16 (roundDivI (6400 * den + ((raw : Int) - nom) * 2 ^ 39) den)

/-- The measurement can be converted (R157). -/
def tempValid (raw nom : Nat) (alpha : Int) : Bool := decide (nom ≠ 0 ∧ alpha ≠ 0 ∧ 65536 ≤ raw ∧ raw ≤ 65535 * 65536)

/-- The resistance of a mean sense voltage in pV over a force current in µA, with `q` fraction bits (R156, R169). -/
def ohms (q pv ua : Nat) : Nat := (roundDiv ((pv * 2 ^ q : Nat) : Int) (1000000 * ua)).toNat

/-- Integration ends with the mean sense voltage over the window: R_m is that over the force current; the result goes to Bobbin, or an invalid record is
published; the switch is opened. -/
def Core.tsrDone (s : Core) (k pv : Nat) : Core :=
  let a := s.afeOf k
  if s.due .tsrIntegrate k ∧ a.kind = 1 then
    let p := a.port
    let nom := s.rd Obj.TSR_NOM 0 p
    let al := s.rdI Obj.TSR_ALPHA 0 p
    let r := satU 32 (ohms 16 pv a.force)
    let tm := a.start + 32000
    let t := s.disarm .tsrIntegrate k
    let t :=
      if tempValid r nom al then
        t.updPort p (fun x => { x with therm := { x.therm with waiting := x.therm.waiting ++ [⟨tempOf r nom al, tm, r, 0, t.modelNow⟩] } })
      else
        let d := t.drawOpen
        (d.2.publish p (measRecord tm r ((d.1 : Nat) : Int) 0 0 3 p 0)).occur 1266 0
    t.openSwitch p
  else s

/-- The junction converter is done: every record of the request at once (R160). The conversion is over before a trip that one of its records raises. -/
def Core.jsDone (s : Core) (temps : List Int) (codes : List Nat) : Core :=
  if s.jsRunning = 0 then s
  else
    let tm := (s.jsStart + s.ftNs) / 2
    let t := ({ s with jsRunning := 0 }).each (bitsSet 16 s.jsRunning) (fun t i =>
      let temp := satS 16 (nth 0 temps i)
      let f := t.riseFlags (64 + i) tm temp
      (((t.keepMeas (64 + i) tm temp).publish (64 + i) (measRecord tm (nth 0 codes i) temp f.1 f.2.1 0 (64 + i) f.2.2))).raiseRise (64 + i) f.2.2)
    let next := t.jsPending
    if t.mode = .safe ∨ next = 0 then { t with jsPending := 0 }
    else ({ t with jsPending := 0 }).jsStartConv next

/-! ### Sweeps (R169 to R171) -/

/-- The SWEEP payload of the ring (R395). -/
def sweepPayload (sub st id ports : Nat) : List Byte := leBytes 1 sub ++ leBytes 1 st ++ leBytes 2 0 ++ leBytes 4 id ++ leBytes 8 ports

/-- The ring-wide sweep is over when no controller is still SENT. -/
def Core.ringSweepLook (s : Core) : Core :=
  let l := (List.range (s.rd0 Obj.TOPO_COUNT)).map (fun j => s.rd Obj.RING_SWEEP_STATUS 0 j)
  if l.contains 1 then s else s.endComp Obj.RING_SWEEP_REQ 0 0 (!l.contains 3 && !l.contains 4)

/-- Report a completed ring-wide sweep: to the master, or in its own RING_SWEEP_STATUS. -/
def Core.sweepReport (s : Core) (st id ports : Nat) : Core :=
  if s.rd0 Obj.RING_STATE = 0 ∨ s.rd0 Obj.MASTER_ID = s.rd0 Obj.NODE_ID then
    match s.placeOf (s.rd0 Obj.NODE_ID) with
    | some j => (s.wr Obj.RING_SWEEP_STATUS 0 j (if st = 0 then 2 else 4)).ringSweepLook
    | none => s
  else if !s.originates then s
  else s.ringMessage 0x23 (s.rd0 Obj.MASTER_ID) (sweepPayload 2 st id ports)

/-- A port's sweep is over; the last of a ring-wide one is reported. -/
def Core.sweepOver (s : Core) (p : Nat) (done : Bool) : Core :=
  let t := s.wr0 Obj.SWEEP_PENDING (putBit (s.rd0 Obj.SWEEP_PENDING) p false)
  match t.ringSweep with
  | none => t
  | some (id, mask, ok) =>
    let ok := if done && bit mask p then putBit ok p true else ok
    if (bitsSet 64 mask).any (bit (t.rd0 Obj.SWEEP_PENDING)) then { t with ringSweep := some (id, mask, ok) }
    else ({ t with ringSweep := none, ringSweepLast := some (id, ok) }).sweepReport 0 id ok

/-- Ports become pending for a sweep. -/
def Core.sweepRequest (s : Core) (v : Nat) : Core :=
  s.each ((bitsSet 64 v).filter (fun p => !bit (s.rd0 Obj.SWEEP_PENDING) p)) (fun t p =>
    { ((t.wr0 Obj.SWEEP_PENDING (putBit (t.rd0 Obj.SWEEP_PENDING) p true)).wr Obj.SWEEP_NEXT 0 p 0) with sweepDead := putBit t.sweepDead p false })

/-- SWEEP_REQ. -/
def actSweepReq : WrAct := fun _ _ _ v s => s.sweepRequest v

/-- A sweep of the port runs. -/
def Core.sweeping (s : Core) (p : Nat) : Bool := decide ((s.afeOf (p / 2)).kind = 2 ∧ (s.afeOf (p / 2)).port = p)

/-- SWEEP_CANCEL ends every pending and paused sweep (R171). -/
def actSweepCancel : WrAct := fun _ _ _ v s =>
  if v = 0 then s else s.each ((bitsSet 64 (s.rd0 Obj.SWEEP_PENDING)).filter (fun p => !s.sweeping p)) (fun t p => t.sweepOver p false)

/-- Pause every running sweep at the end of its dwell (R171). -/
def Core.pauseSweeps (s : Core) : Core :=
  s.each (List.range 32) Core.pauseSweep

/-- A sweep is running on some channel. -/
def Core.anySweep (s : Core) : Bool := (List.range 32).any (fun k => decide ((s.afeOf k).kind = 2))

/-- The device is where sweeps run (R169). -/
def Core.sweepsRun (s : Core) : Bool := decide (s.mode = .ready ∨ s.mode = .park) || (decide (s.mode = .service) && s.spit.isNone)

/-- The port can be swept now (R169). -/
def Core.sweepable (s : Core) (p : Nat) : Bool :=
  bit (s.rd0 Obj.SWEEP_PENDING) p && s.sweepsRun
    && decide (s.link p = lkReady) && !(s.port p).holdsFrames

/-- SWEEP_START on a channel: the even port first. -/
def Core.sweepStart (s : Core) (k ref : Nat) : Core :=
  if !s.chanFree k ∨ 32 ≤ k ∨ (chanPort s.measPending k).isSome then s
  else match [2 * k, 2 * k + 1].find? s.sweepable with
    | none => s
    | some p =>
      if !s.refGood ref then s.occur 1267 0
      else (s.setAfe k { kind := 2, port := p, base := s.rd Obj.SWEEP_NEXT 0 p }).queueConv p { conv := 6, why := 5, arg := 2 }

/-- The class of a swept nozzle and whether it was reached at step 3 or 4 (R170). -/
def sweepClass (r open_ short_ base weak dead : Nat) : Nat × Bool :=
  if r = 0xFFFF ∨ open_ < r then (2, false)
  else if r < short_ then (2, false)
  else if base = 0 then (0, true)
  else
    let d := (((r : Int) - base).natAbs) * 32768
    (if dead * base < d then 2 else if weak * base < d then 1 else 0, true)

/-- SWEEP_DWELL_END on a channel with the sense voltage over its integration: R_m in Q10.6, 0xFFFF for over range (R170). A sweep that may no longer run pauses
here. -/
def Core.dwellEnd (s : Core) (k pv : Nat) : Core :=
  let a := s.afeOf k
  let p := a.port
  let i := s.rd Obj.SWEEP_NEXT 0 p
  if a.kind ≠ 2 ∨ !a.armed ∨ (s.ftQ : Int) < ofTick (a.start + (i + 1 - a.base) * 640) ∨ 16 * s.nPrim p ≤ i ∨ s.link p ≠ lkReady then s
  else
    let n := 1024 * p + i
    let r := satU 16 (ohms 6 pv a.force)
    let c := sweepClass r (s.rd0 Obj.R_OPEN) (s.rd0 Obj.R_SHORT) (s.rd Obj.R_BASE 0 n) (s.rd0 Obj.DRIFT_WEAK) (s.rd0 Obj.DRIFT_DEAD)
    let old := s.rd Obj.NOZZLE_MAP 0 n
    let t := ((s.wr Obj.R_HEATER 0 n r).setNozzle n (putField old 5 4 c.1)).wr Obj.SWEEP_NEXT 0 p (i + 1)
    let t := { t with sweepOk := if c.2 then Tab.set t.sweepOk n 1 else Tab.erase t.sweepOk n }
    let t := if c.1 = 2 ∧ field old 5 4 ≠ 2 ∧ !bit t.sweepDead p then ({ t with sweepDead := putBit t.sweepDead p true }).occur 1265 0 else t
    if 16 * s.nPrim p ≤ i + 1 then (t.sweepOver p true).openSwitch p
    else if a.pause ∨ !t.sweepsRun then t.openSwitch p
    else t.heaterPulse k (i + 1)

/-- BASELINE is rejected while a sweep of a named port runs (R170). -/
def chkBaseline : WrChk := fun s _ _ _ v => stateIf ((bitsSet 64 v).any s.sweeping)

/-- BASELINE (R170). -/
def actBaseline : WrAct := fun _ _ _ v s =>
  s.each (bitsSet 64 v) (fun t p =>
    (List.range 1024).foldl (fun t a =>
      let n := 1024 * p + a
      if (Tab.get? t.sweepOk n).isSome then t.wr Obj.R_BASE 0 n (t.rd Obj.R_HEATER 0 n) else t) t)

/-! ### What the SENSE conversation's end brings about -/

/-- The COMMIT of a SENSE conversation is DONE. -/
def Core.senseDone (s : Core) (p : Nat) (c : Conv) : Core :=
  let k := p / 2
  let a := s.afeOf k
  if c.arg = 0 then (if a.kind = 3 ∧ a.port = p then s.setAfe k {} else s)
  else if c.arg = 1 then
    if a.kind = 1 ∧ a.port = p then (s.useAfe k { a with force := s.rd0 Obj.TSR_FORCE }).arm .tsrSettle k (us 20) else s.openSwitch p
  else if a.kind = 2 ∧ a.port = p then
    let now := s.ftQ / 163840
    let start := ((now : Int) + seqDist 40 (leAt c.data 4 5) now).toNat
    let b := leAt c.data 0 2
    (s.setAfe k { a with armed := true, start := start, base := b, force := s.rd0 Obj.HEATER_FORCE }).heaterPulse k b
  else if a.kind = 3 ∧ a.port = p ∧ (s.port p).queue.any (fun c => decide (c.conv = 6 ∧ c.arg = 0)) then s
  else s.openSwitch p

/-- A SENSE conversation ended unsuccessfully. One that was to open a switch leaves the channel busy (R152). -/
def Core.senseEnded (s : Core) (p : Nat) (c : Conv) (status : Nat) : Core :=
  let k := p / 2
  let a := s.afeOf k
  if c.arg = 2 ∧ a.kind = 2 ∧ a.port = p then
    if status = 3 ∧ c.step = 2 ∧ a.tries < 3 then
      (s.setAfe k { a with tries := a.tries + 1 }).queueConv p { conv := 6, why := 5, arg := 2 }
    else ((s.sweepOver p false).openSwitch p).occur 1266 0
  else if c.arg = 1 ∧ a.kind = 1 ∧ a.port = p then (s.publishBad p 2).settle.openSwitch p
  else s

/-- The die has opened its switch of itself: at an accepted column frame within a sweep, whose nozzle in dwell gets no result (Table 6-9). -/
def Core.sweepAccepted (s : Core) (p : Nat) : Core :=
  let a := s.afeOf (p / 2)
  if a.kind = 2 ∧ a.port = p then s.openSwitch p else s

/-- A STATUS shows the die following the other input: its switch is open, a measurement of it ends with LINK, the channel is free (R152, R154, Table 6-9). -/
def Core.senseTaken (s : Core) (p : Nat) : Core :=
  let k := p / 2
  let a := s.afeOf k
  if a.kind ≠ 0 ∧ a.port = p then
    let t := ((s.useAfe k {}).disarm .tsrSettle k).disarm .tsrIntegrate k
    if a.kind = 1 then (t.publishBad p 2).settle else t
  else s

/-- A port is back from RETRAIN: a channel that its die may still hold is opened (R152). -/
def Core.senseBack (s : Core) (p : Nat) : Core :=
  let a := s.afeOf (p / 2)
  let has := ((s.port p).conv.toList ++ (s.port p).queue).any (fun c => decide (c.conv = 6))
  if a.kind = 3 ∧ a.port = p ∧ !has then s.openSwitch p else s

/-! ### Head supplies (R173) -/

/-- Instant since which the port's HPWR_EN is low. -/
def Core.lowSince (s : Core) (p : Nat) : Nat := max (s.port p).offAt (s.safeSince.getD 0)

/-- A head-supply input is active (R173). -/
def Core.hsActive (s : Core) (i : Nat) : Bool :=
  (bitsSet 64 (s.rd Obj.hsv_HS_PORTS i 0)).any (fun p => s.hpwr p && decide ((s.port p).powerAt + us (s.rd Obj.port_HP_SETTLE p 0) ≤ s.clk))

/-- Every port the input feeds has had HPWR_EN low for HS_OFF_TIME. -/
def Core.hsOff (s : Core) (i : Nat) : Bool :=
  (bitsSet 64 (s.rd Obj.hsv_HS_PORTS i 0)).all (fun p => !s.hpwr p && decide (s.lowSince p + ms (s.rd Obj.hsv_HS_OFF_TIME i 0) ≤ s.clk))

/-- HSV_SAMPLE: one sample of an input in mV, to 10 mV. -/
def Core.hsvSample (s : Core) (i mv : Nat) : Core :=
  if !(s.running || decide (s.phase = .waking)) ∨ 16 ≤ i then s
  else
    let v := min 40000 (mv / 10 * 10)
    let act := s.hsActive i
    let t := s.wr Obj.hsv_HS_VOLT i 0 v
    let t := if act then (t.wr Obj.hsv_HS_MIN i 0 (min v (t.rd Obj.hsv_HS_MIN i 0))).wr Obj.hsv_HS_MAX i 0 (max v (t.rd Obj.hsv_HS_MAX i 0)) else t
    if s.rd Obj.hsv_HS_PORTS i 0 = 0 then
      ((({ t with hsRuns := Tab.set t.hsRuns i {} }).level (1217 + i) 0 false).level (1233 + i) 0 false).level (1249 + i) 0 false
    else
      let r := Tab.get {} t.hsRuns i
      let uv := if act && decide (v < s.rd Obj.hsv_HS_UV i 0) then r.uv + 1 else 0
      let ov := if act && decide (s.rd Obj.hsv_HS_OV i 0 < v) then r.ov + 1 else 0
      let stuck := if s.hsOff i && decide (s.rd Obj.hsv_HS_OFF_MAX i 0 < v) then r.stuck + 1 else 0
      let t := { t with hsRuns := Tab.set t.hsRuns i ⟨uv, ov, stuck⟩ }
      ((t.level (1217 + i) 0 (decide (3 ≤ uv))).level (1233 + i) 0 (decide (3 ≤ ov))).level (1249 + i) 0 (decide (3 ≤ stuck))

/-! ### Checks of the parameters (R161, R170, R173) -/

/-- RISE1 < RISE2 < RISE3 for both kinds of sensor. -/
def chkRise : WrChk := fun _ t _ _ _ =>
  valueIf (decide (t.rd0 Obj.RISE1_DIE ≥ t.rd0 Obj.RISE2_DIE ∨ t.rd0 Obj.RISE2_DIE ≥ t.rd0 Obj.RISE3_DIE
    ∨ t.rd0 Obj.RISE1_JS ≥ t.rd0 Obj.RISE2_JS ∨ t.rd0 Obj.RISE2_JS ≥ t.rd0 Obj.RISE3_JS))

/-- DRIFT_DEAD exceeds DRIFT_WEAK. -/
def chkDrift : WrChk := fun _ t _ _ _ => valueIf (decide (t.rd0 Obj.DRIFT_DEAD ≤ t.rd0 Obj.DRIFT_WEAK))

/-- HS_UV is below HS_OV. -/
def chkHs : WrChk := fun _ t i _ _ => valueIf (decide (t.rd Obj.hsv_HS_OV i 0 ≤ t.rd Obj.hsv_HS_UV i 0))

/-! ### The commands -/

/-- MEAS_SERVICE (R156, R174). -/
def execMeasService (dt chan ref : Nat) (s : State) : Host.Outcome State Fault Refusal :=
  onCore (fun c => (c.advance dt).measService chan ref) s

/-- TSR_SETTLE_DONE (R156). -/
def execTsrSettleDone (dt chan : Nat) (s : State) : Host.Outcome State Fault Refusal :=
  onCore (fun c => (c.advance dt).tsrSettled chan) s

/-- TSR_INTEGRATION_DONE (R157). -/
def execTsrIntegrationDone (dt chan volt : Nat) (s : State) : Host.Outcome State Fault Refusal :=
  onCore (fun c => (c.advance dt).tsrDone chan volt) s

/-- JS_CONVERSION_DONE (R160). -/
def execJsConversionDone (dt : Nat) (temps : List Int) (codes : List Nat) (s : State) : Host.Outcome State Fault Refusal :=
  onCore (fun c => (c.advance dt).jsDone temps codes) s

/-- MODEL_STEP (R108). -/
def execModelStep (dt : Nat) (s : State) : Host.Outcome State Fault Refusal :=
  onCore (fun c => (c.advance dt).modelStep) s

/-- SWEEP_START (R169). -/
def execSweepStart (dt chan ref : Nat) (s : State) : Host.Outcome State Fault Refusal :=
  onCore (fun c => (c.advance dt).sweepStart chan ref) s

/-- SWEEP_DWELL_END (R170). -/
def execSweepDwellEnd (dt chan volt : Nat) (s : State) : Host.Outcome State Fault Refusal :=
  onCore (fun c => (c.advance dt).dwellEnd chan volt) s

/-- JUNCTION_TRIP (R172): in every mode, from WAKING on, while all rails are good. -/
def execJunctionTrip (dt : Nat) (s : State) : Host.Outcome State Fault Refusal :=
  onCore (fun c => (c.advance dt).when ((c.running || decide (c.phase = .waking)) && decide (c.rd0 Obj.RAIL_STATE = 0x3FF))
    (fun t => t.level 1216 0 true)) s

/-- HSV_SAMPLE (R173). -/
def execHsvSample (dt input mv : Nat) (s : State) : Host.Outcome State Fault Refusal :=
  onCore (fun c => (c.advance dt).hsvSample input mv) s

end Sys2Proof.Machine
end

