-- ==== Sys2Proof/Machine/FopOps.lean ====
section
/-! DEFINITION. FOP messages as bytes (R425 to R427), role and session keys (R428, R429), how a session or a locked sequence ends (R431, R444, R507). -/

namespace Sys2Proof.Machine

open Sys2Proof

/-! ### Messages (Tables 16-1, 16-2, 16-5) -/

/-- TYPE of a request. -/
def ReqBody.typ : ReqBody → Nat
  | .opn .. => 0x01 | .close => 0x02 | .keepalive => 0x03 | .read .. => 0x10 | .write .. => 0x11 | .describe .. => 0x12
  | .txnBegin => 0x20 | .txnCommit => 0x21 | .txnAbort => 0x22 | .subscribe .. => 0x30 | .bad t _ => t

/-- The body of a request. -/
def ReqBody.bytes : ReqBody → List Byte
  | .opn r m nh => leBytes 1 r ++ [0] ++ leBytes 2 m ++ leBytes 4 0 ++ leBytes 16 nh
  | .read i s c w l o => leBytes 2 i ++ leBytes 2 s ++ leBytes 2 c ++ leBytes 1 w ++ leBytes 1 l ++ leBytes 4 o ++ leBytes 4 0
  | .write i s c w l o t d => leBytes 2 i ++ leBytes 2 s ++ leBytes 2 c ++ leBytes 1 w ++ leBytes 1 l ++ leBytes 4 o ++ leBytes 4 t ++ d
  | .describe i s => leBytes 2 i ++ leBytes 2 s
  | .subscribe m => leBytes 4 m ++ leBytes 4 0
  | .bad _ b => b
  | _ => []

/-- A body of a TYPE as its layout reads it; one that breaks the layout is `bad`. -/
def parseBody (t : Nat) (b : List Byte) : ReqBody :=
  let n := b.length
  let whole (r : ReqBody) : ReqBody := if r.bytes = b then r else .bad t b
  if t = 0x01 ∧ n = 24 then whole (.opn (leAt b 0 1) (leAt b 2 2) (leAt b 8 16))
  else if t = 0x02 then whole .close
  else if t = 0x03 then whole .keepalive
  else if t = 0x10 ∧ n = 16 then whole (.read (leAt b 0 2) (leAt b 2 2) (leAt b 4 2) (leAt b 6 1) (leAt b 7 1) (leAt b 8 4))
  else if t = 0x11 ∧ 16 ≤ n then whole (.write (leAt b 0 2) (leAt b 2 2) (leAt b 4 2) (leAt b 6 1) (leAt b 7 1) (leAt b 8 4) (leAt b 12 4) (b.drop 16))
  else if t = 0x12 ∧ n = 4 then whole (.describe (leAt b 0 2) (leAt b 2 2))
  else if t = 0x20 then whole .txnBegin
  else if t = 0x21 then whole .txnCommit
  else if t = 0x22 then whole .txnAbort
  else if t = 0x30 ∧ n = 8 then whole (.subscribe (leAt b 0 4))
  else .bad t b

/-- TYPE is a request of Table 16-2. -/
def requestType (t : Nat) : Bool := [0x01, 0x02, 0x03, 0x10, 0x11, 0x12, 0x20, 0x21, 0x22, 0x30].contains t

/-- The header of Table 16-1. -/
def fopHead (typ flags node serial session bodyLen seq : Nat) : List Byte :=
  leBytes 2 0x4F46 ++ leBytes 1 1 ++ leBytes 1 typ ++ leBytes 2 flags ++ leBytes 2 node ++ leBytes 8 serial ++ leBytes 2 session
    ++ leBytes 2 bodyLen ++ leBytes 4 seq

/-- The bytes of a request that its TAG covers (R427). -/
def requestBytes (e : FopEnv) (b : ReqBody) : List Byte :=
  fopHead b.typ 0 e.node e.serial e.session b.bytes.length e.seq ++ b.bytes

/-- A whole message under a key; with none it is UNTAGGED and carries 32 zero bytes. -/
def taggedMessage (key : Option (List Byte)) (typ flags node serial session seq : Nat) (body : List Byte) : List Byte :=
  let m := fopHead typ (match key with | some _ => flags | none => flags + 2) node serial session body.length seq ++ body
  m ++ (match key with | some k => Crypto.hmac k m | none => List.replicate 32 0)

/-- The TAG of a request is right under a key. -/
def tagOk (key : List Byte) (e : FopEnv) (b : ReqBody) : Bool := decide (ofLe (Crypto.hmac key (requestBytes e b)) = e.tag)

/-- The payload a FOP message is carried in over the ring (R392): address, port, six reserved bytes, serial, message. -/
def tunnelled (ip port serial : Nat) (m : List Byte) : List Byte := leBytes 16 ip ++ leBytes 2 port ++ leBytes 6 0 ++ leBytes 8 serial ++ m

/-- Originate a FOP message to a node; to one without a place in TOPOLOGY it leaves by KE in a ring and by each UP port otherwise. -/
def Core.ringFop (s : Core) (node : Nat) (p : List Byte) : Core :=
  if (s.routeTo node).isSome then s.ringMessage 0x31 node p
  else
    let q := s.nextRingSeq 0x31
    let n := max 1 (ceilDiv p.length 512)
    let l := if s.rd0 Obj.RING_STATE = 2 then s.upPorts.take 1 else s.upPorts
    ({ s with ringTx := Tab.set s.ringTx 0x31 q }).each (l.flatMap (fun k => (List.range n).map (fun i => 2 * i + k))) (fun t c =>
      let i := c / 2
      t.ringStore (c % 2) (ringFrame 0x31 (if i + 1 = n then 2 else 0) node (s.rd0 Obj.NODE_ID) 0 q (512 * i) ((p.drop (512 * i)).take 512)))

/-- Send a message to a requester: as a datagram from a host port, or to its gateway (lane 2 + node). -/
def Core.sendFop (s : Core) (k : OutKind) (lane ip port : Nat) (m : List Byte) : Core :=
  if lane < 2 then s.emit k lane [(ip : Int), (port : Int)] m
  else (s.emit k 2 [(ip : Int), (port : Int)] m).ringFop (lane - 2) (tunnelled ip port (Config.serial % 2 ^ 64) m)

/-- An untagged reply (R427). -/
def Core.untagged (s : Core) (e : FopEnv) (typ session status info : Nat) : Core :=
  s.sendFop .fopReply e.lane e.ip e.port (taggedMessage none typ 1 e.node e.serial session e.seq (leBytes 4 status ++ leBytes 4 info))

/-! ### Keys (R428, R429) -/

/-- The key of a role: none while its slot is EMPTY. -/
def Core.roleKey (s : Core) (r : Nat) : Option (List Byte) :=
  match Tab.get? s.roleKeys r with
  | some k => some k
  | none => if r = 3 then some Config.factoryKey else none

/-- A session's key (R429). -/
def sessionKey (kRole nh nd : List Byte) (h : Nat) : List Byte :=
  Crypto.hmac kRole ([0x46, 0x4F, 0x50, 0x53] ++ nh ++ nd ++ leBytes 2 h)

/-! ### Sessions -/

/-- A session by its handle. -/
def Core.session (s : Core) (h : Nat) : Session := Tab.get freeSession s.sess h

/-- Change a session. -/
def Core.setSession (s : Core) (h : Nat) (x : Session) : Core := { s with sess := Tab.set s.sess h x }

/-- A message was discarded (FOP_DISCARDS). -/
def Core.discard (s : Core) (j : Nat) : Core := s.inc Obj.FOP_DISCARDS 0 j 1

/-- A locked sequence lapses (R444): rolled back, counted, raised, and told to its session if that still exists. -/
def Core.lapseTxn (s : Core) (h : Nat) (tell : Bool) : Core :=
  let x := s.session h
  match x.txn with
  | none => s
  | some t =>
    let s1 := ((s.setSession h { x with txn := none }).disarm .txnLease h).inc0 Obj.TXN_LAPSES
    let s2 := if tell then s1.pushEvent h ⟨0x00F0, t.id, 0, s1.ftNs⟩ else s1
    s2.occur 1569 0

/-- The host lock is lost (R507): the owner's sequence is rolled back first, then the lock is freed and HOST_LOST raised. -/
def Core.hostLockLost (s : Core) : Core :=
  let h := s.rd0 Obj.HOST_LOCK_OWNER
  if h = 0 then s
  else (((s.lapseTxn h (decide ((s.session h).st ≠ 0))).wr0 Obj.HOST_LOCK_OWNER 0).disarm .hostLock 0).occur 6 0

/-- A session ends (R431): its sequence is rolled back, what it holds is forgotten, its handle is FREE; the host lock is lost with its owner. -/
def Core.endSession (s : Core) (h : Nat) : Core :=
  if (s.session h).st = 0 then s
  else
    let s1 := s.lapseTxn h false
    let s2 := { s1 with sess := Tab.erase s1.sess h }
    let s3 := ((((s2.disarm .sessionIdle h).disarm .sessionPending h).disarm .readSnapshot h).disarm .writePartial h).disarm .txnLease h
    if s3.rd0 Obj.HOST_LOCK_OWNER = h then s3.hostLockLost else s3

/-- Every session of a role ends (R428). -/
def Core.endRole (s : Core) (r : Nat) : Core :=
  s.each (s.sess.map (·.1)) (fun t h => if (t.session h).role = r then t.endSession h else t)

/-- A verified message of a session arrives: its idle time, its lease and, for the owner, the host lock's time begin again (R431, R444, R507). -/
def Core.verified (s : Core) (h : Nat) : Core :=
  let x := s.session h
  let s1 := if x.st = 2 then s.arm .sessionIdle h (sec (s.rd0 Obj.SESSION_IDLE)) else s
  let s2 := if x.txn.isSome then s1.arm .txnLease h (ms 2000) else s1
  if s2.rd0 Obj.HOST_LOCK_OWNER = h then s2.arm .hostLock 0 (ms (s2.rd0 Obj.HOST_TIMEOUT)) else s2

end Sys2Proof.Machine
end

