-- ==== Sys2Proof/Machine/Pair.lean ====
section
/-! DEFINITION. Redundant pairs (ch. 15): digest, mirror records, the standby, takeover, the writes of the pair record. -/

namespace Sys2Proof.Machine

open Sys2Proof

/-! ### The digest (R405) -/

/-- The shared ports, ascending. -/
def Core.shared (s : Core) : List Nat := allPorts.filter s.sharedPort

/-- One element's contribution: index, subindex, stored bytes. -/
def Core.digestElem (s : Core) (o : Ob) (i j : Nat) : List Byte :=
  leBytes 2 (o.idx + o.stride * i) ++ leBytes 2 (o.sub + j) ++ (if o.size = 0 then unpackBytes (s.rd o i j) else leBytes o.size (s.rd o i j))

/-- Every element of the listed instances of an object. -/
def Core.digestAll (s : Core) (o : Ob) (is : List Nat) : List Byte :=
  is.flatMap (fun i => (List.range o.nsub).flatMap (fun j => s.digestElem o i j))

/-- The shared ports' elements of a per-port array. -/
def Core.digestPorts (s : Core) (o : Ob) (i : Nat) : List Byte := s.shared.flatMap (fun p => s.digestElem o i p)

/-- The bytes PAIR_DIGEST covers, in ascending index and subindex. -/
def Core.digestBytes (s : Core) : List Byte :=
  let four := [0, 1, 2, 3]
  s.digestElem Obj.GATE_LEAD 0 0 ++ s.digestElem Obj.COMET_MODE 0 0
  ++ four.flatMap (s.digestPorts Obj.RG_OFFSET) ++ four.flatMap (s.digestPorts Obj.RG_FLIGHT) ++ s.digestPorts Obj.PORT_DATUM 0
  ++ s.shared.flatMap (fun p => s.digestAll Obj.port_PULSE_LOAD [p] ++ s.digestAll Obj.port_F_SET [p] ++ s.digestAll Obj.port_PHASE_GROUPS [p]
      ++ s.digestAll Obj.port_ROTATION [p])
  ++ s.digestPorts Obj.E_DIE 0 ++ four.flatMap (s.digestPorts Obj.K_ROW)
  ++ [Obj.EPT, Obj.WEAK_TRIM, Obj.THERM_COEF, Obj.T_REF, Obj.K_THERM_MIN, Obj.K_THERM_MAX, Obj.G_E, Obj.A_DECAY, Obj.CORR_GAIN,
      Obj.SINK_GAIN].flatMap (fun o => s.digestPorts o 0)
  ++ s.digestElem Obj.HIST_AGE 0 0 ++ s.digestAll Obj.HIST s.shared ++ s.digestAll Obj.NBR s.shared
  ++ s.digestElem Obj.INTERLEAVE 0 0 ++ s.digestElem Obj.SUBCOL 0 0 ++ s.digestAll Obj.DIST [0] ++ four.flatMap (s.digestPorts Obj.RG_MAP)
  ++ (List.range 8).flatMap (fun i => [Obj.ms_PW, Obj.ms_PH, Obj.ms_PASSES, Obj.ms_X0, Obj.ms_L0, Obj.ms_MASK_DATA, Obj.ms_MASK_VALID,
      Obj.ms_UNCOVERED, Obj.ms_OVERCOVERED].flatMap (fun o => s.digestElem o i 0))
  ++ (List.range 16).flatMap (fun i => [Obj.spat_COLUMNS, Obj.spat_ADDR_MASK, Obj.spat_EVERY, Obj.spat_ENERGY, Obj.spat_INCLUDE,
      Obj.spat_PORTS].flatMap (fun o => s.digestElem o i 0))
  ++ s.digestElem Obj.COMET_LA 0 0 ++ s.digestElem Obj.RESUME_LA 0 0 ++ s.digestAll Obj.PRESET_INFO [0] ++ s.digestElem Obj.PAIR_PORTS 0 0
  ++ s.digestAll Obj.DROP_VOL s.shared

/-- The digests differ and did not before: PAIR_DIGEST. -/
def Core.digestTest (s before : Core) : Core :=
  if s.rd0 Obj.PAIR_DIGEST ≠ s.rd0 Obj.PARTNER_DIGEST ∧ before.rd0 Obj.PAIR_DIGEST = before.rd0 Obj.PARTNER_DIGEST then s.occur 1557 0 else s

/-- Recompute PAIR_DIGEST. -/
def Core.refreshDigest (s : Core) : Core :=
  if s.rd0 Obj.PAIR_STATE = 0 then s else (s.wr0 Obj.PAIR_DIGEST (Crypto.crc32c s.digestBytes)).digestTest s

/-! ### Roles -/

/-- The standby asks for a snapshot (R408). -/
def Core.syncReq (s : Core) : Core :=
  let id := (s.pair.snapId + 1) % 2 ^ 32
  ({ s with pair := { s.pair with snapOk := false, snapId := id, snapKinds := 0, snapBuf := [] } }).mirror 0x82 0 id []

/-- PAIR_ROLE or PARTNER has been written, or read back at start-up: unpaired, active on input A, or standby on input B. -/
def Core.pairSetup (s : Core) : Core :=
  if s.rd0 Obj.PAIR_ROLE = 0 ∨ s.rd0 Obj.PARTNER = 0 then s.wr0 Obj.PAIR_STATE 0
  else if s.rd0 Obj.PAIR_ROLE = 1 then
    ({ s with pair := { s.pair with standbyAt := some s.clk, standbyLost := false } }).wr0 Obj.PAIR_STATE 1
  else (s.wr0 Obj.PAIR_STATE 2).syncReq

/-- The writes of PAIR_ROLE and PARTNER. -/
def actPairRole : WrAct := fun _ _ _ _ s => s.pairSetup

/-- The die of a STATUS with this ACTIVE_B follows this controller's input (R403). -/
def Core.mine (s : Core) (activeB : Bool) : Bool := decide (activeB = decide (s.rd0 Obj.PAIR_ROLE = 2))

/-- An active member sees its dies follow the other input (R417). -/
def Core.demote (s : Core) : Core :=
  if s.rd0 Obj.PAIR_STATE = 1 then ((({ s with pair := { s.pair with paced := [] } }).wr0 Obj.PAIR_STATE 2).occur 1554 0).syncReq else s

/-! ### Readiness (R412) -/

/-- More than `d` half ns have passed since an instant of the clock, if there was one. -/
def Core.olderThan (s : Core) (t : Option Nat) (d : Nat) : Bool := match t with | some x => decide (x + d < s.clk) | none => true

/-- No mirror record within PAIR_SILENCE. -/
def Core.silent (s : Core) : Bool := s.olderThan s.pair.lastRec (ns (s.rd0 Obj.PAIR_SILENCE))

/-- NOT_READY. `partnerPrint`: the active member is in PRINT. -/
def Core.notReady (s : Core) (partnerPrint : Bool) : Nat :=
  maskOf ((List.range 9).filter (fun b => match b with
    | 0 => (s.placeOf (s.rd0 Obj.PARTNER)).isNone || s.silent
    | 1 => decide (s.rd0 Obj.PAIR_DIGEST ≠ s.rd0 Obj.PARTNER_DIGEST)
    | 2 => !s.pair.snapOk
    | 3 => s.shared.any (fun p => decide (s.link p ≠ lkStandby) || s.olderThan (s.port p).statusAt (us 100))
    | 4 => decide (s.rd0 Obj.FT_STATE ≠ 1)
    | 5 => partnerPrint && !s.inPrint
    | 6 => s.inPrint && decide (s.rd0 Obj.LOOKAHEAD < s.rd0 Obj.COMET_LA) && !s.jobComplete
    | 7 => !s.olderThan s.pair.divergeAt (ms 10)
    | _ => s.src.any (fun (e : Nat × Src) => e.2.raised && decide (1 ≤ e.2.eff))))

/-- Publish NOT_READY, and with it STANDBY_SYNC or STANDBY_READY. -/
def Core.setNotReady (s : Core) (v : Nat) : Core :=
  let t := s.wr0 Obj.NOT_READY v
  if t.rd0 Obj.PAIR_STATE = 2 ∨ t.rd0 Obj.PAIR_STATE = 3 then t.wr0 Obj.PAIR_STATE (if v = 0 then 3 else 2) else t

/-! ### Takeover (R413 to R416) -/

/-- A TAKE frame (Table 5-5). -/
def takeFrame (node epoch resume : Nat) : List Byte :=
  let b := leBytes 1 4 ++ [0] ++ leBytes 2 (node % 4096) ++ leBytes 4 epoch ++ leBytes 4 resume
  b ++ leBytes 4 (Crypto.crc32 b)

/-- Send TAKE on a port; its die must follow within 10 µs of the last symbol (R415). -/
def Core.sendTake (s : Core) (p resume : Nat) : Core :=
  let dep := s.laneAt p
  ((s.laneFrame p .takeRequest [] (takeFrame (s.rd0 Obj.NODE_ID) (s.rd0 Obj.PAIR_EPOCH) resume)).updPort p
    (fun x => { x with takes := x.takes + 1 })).arm .takeRetry p ((dep - s.ftQ) / 32768 + ns 128 + us 10)

/-- E of a port: the predicted end of the last slot of the newest accepted column, while the die holds columns (R414). -/
def Core.heldEnd (s : Core) (p : Nat) : Option Int :=
  let x := s.port p
  match x.accTop with
  | none => none
  | some h =>
    if x.held = 0 then none
    else (s.pageOf h).bind (fun pg => (s.solveTicks pg (pg.own s) p (h - pg.base)).map (fun l =>
      ofTick (l.foldl max 0 + 16 * s.rd Obj.port_N_SLOT p 0)))

/-- Column `j` can be the takeover column on a port. -/
def Core.takeOk (s : Core) (p j : Nat) : Bool :=
  match s.pageOf j with
  | none => true
  | some _ =>
    (match s.gateAt p j with | some g => decide ((s.ftQ : Int) + ((s.rd0 Obj.TAKE_LEAD * 65536 : Nat) : Int) ≤ g) | none => false)
      && (match s.heldEnd p with
        | none => true
        | some e => (match s.backOf p j 2 with | some t => decide (e ≤ t - tTx - 2000 * 65536) | none => false))

/-- T: the lowest job column that qualifies on every shared port (R414). -/
def Core.takeCol (s : Core) : Nat :=
  let h := (s.shared.filterMap (fun p => (s.port p).accTop)).foldl (fun a x => max a (x + 1)) s.colNext
  let from_ := if 3 ≤ s.pair.ephem.1 then max h (s.pair.ephem.2.2 + 1) else h
  let ports := s.shared.filter s.jobPort
  let rec go : Nat → Nat → Nat
    | 0, j => j
    | k + 1, j => if ports.all (fun p => s.takeOk p j) then j else go k (j + 1)
  go 4096 from_

/-- The first column of a port that neither member fires, before T (R416). -/
def Core.gapFirst (s : Core) (p : Nat) : Nat :=
  let x := s.port p
  match x.abortCol, x.accTop with
  | some a, _ => a
  | none, some h => h + 1
  | none, none => x.floor

/-- The carry-free bits of a column as indexes: 1 for a nozzle that fires. -/
def Col.freeIdx (r : Col) (p : Nat) : Tab Nat :=
  (List.range 1024).foldl (fun t a => if bit (nth 0 r.free (a / 16)) (a % 16) then Tab.set t (1024 * p + a) 1 else t) []

/-- Once the die follows and holds nothing, the columns before T whose COLUMN record never came count as fired with their carry-free bits when DONE_COL has
passed them; the others were accepted and will not fire: they are lost on the port (R416). -/
def Core.takeHistory (s : Core) (p t : Nat) : Core :=
  let done (r : Col) : Bool := decide (0 ≤ seqDist 32 (s.rd Obj.port_DONE_COL p 0) r.col)
  let left := (s.port p).cols.filter (fun r => decide (r.col < t) && !r.acked && !r.lost)
  let u := s.updPort p (fun x => { x with cols := x.cols.map (fun r =>
    if r.col < t ∧ !r.acked ∧ !r.lost ∧ done r then { r with sent := true, settled := true, acked := true, idx := r.freeIdx p } else r) })
  (left.filter (fun r => !done r)).foldl (fun u r => u.loseCol p r.col) u

/-- Columns from the first of the gap to T - 1, which neither member fires, are lost on a port, each of them (R416); the port prints from T. -/
def Core.takeGap (s : Core) (p t : Nat) : Core :=
  let f := s.gapFirst p
  let u := s.each ((List.range (t - f)).map (f + ·)) (fun u j =>
    if u.isDropped j then u else match (u.port p).colAt j with
    | some _ => u.loseCol p j
    | none => u.countLost p j)
  u.updPort p (fun x => { x with floor := max x.floor t, runBase := t, gateNext := max x.gateNext t })

/-- A member that takes over within a Comet of its partner goes on with it at the same step, with the partner's seam (R22, R414): the newest EPHEM record
named them. -/
def Core.takeComet (s : Core) : Core :=
  let st := s.pair.ephem.1
  if st = 0 then s
  else
    let t := (s.wr0 Obj.SEAM s.pair.ephem.2.2).wr0 Obj.COMET_STATE st
    { t with hold := some (s.pair.ephem.2.2 : Int), comet := { t.comet with id := s.pair.ephem.2.1, guest := true, any := true } }

/-- The carries of the shared ports start at 0 on a member that takes over (R219). -/
def Core.takeCarries (s : Core) : Core :=
  let t : Core := { s with pages := s.pages.map (fun (pg : Page) => { pg with carries := pg.carries.filter (fun e => !s.sharedPort (e.1 / 1024)) }) }
  t.each s.shared (fun t p => t.each (List.range 64) (fun t q => t.wr Obj.CARRY 0 (64 * p + q) 0))

/-- Steps 1 and 2 begin: TAKE on every shared port with RESUME_COL = T. -/
def Core.takeStart (s : Core) (t : Nat) : Core :=
  let u := ({ s with pair := { s.pair with take := some t } }).wr0 Obj.PAIR_STATE 4
  u.each u.shared (fun u p => (u.updPort p (fun x => { x with takes := 0 })).sendTake p (t % 2 ^ 32))

/-- A takeover is decided for a trigger (Table 15-3), or PAIR_NO_TAKE raised; while an orderly stop is in progress none is decided. -/
def Core.takeDecide (s : Core) (trigger : Nat) : Core :=
  if !s.inPrint ∨ !s.isStandby ∨ s.rd0 Obj.PAIR_STATE = 4 ∨ s.stop.isSome then s
  else if s.rd0 Obj.PAIR_STATE ≠ 3 then s.occur 1553 0
  else
    let t := s.takeCol
    let g := (s.shared.map s.gapFirst).foldl min t
    let e := (s.rd0 Obj.PAIR_EPOCH + 1) % 2 ^ 32
    let rec_ := leBytes 8 s.ftNs ++ leBytes 4 t ++ leBytes 4 g ++ leBytes 2 (t - g) ++ leBytes 1 trigger ++ [0] ++ leBytes 4 e
    let u := (((s.wr0 Obj.PAIR_EPOCH e).wr0 Obj.TAKE_LAST (ofLe rec_)).inc0 Obj.TAKEOVERS).occur 1552 0
    let u := (({ u with pair := { u.pair with trigger := trigger } }).takeComet.takeCarries).takeStart t
    u.each (u.shared.filter u.jobPort) (fun u p => u.takeGap p t)

/-- Every shared die has been dealt with: the owed Comet messages, the measurements, the Thimble instances, and the active role (R415). -/
def Core.takeDone (s : Core) : Core :=
  if s.rd0 Obj.PAIR_STATE = 4 ∧ s.shared.all (fun p => decide ((s.port p).takes = 0)) then
    let t := { s with pair := { s.pair with take := none, standbyAt := some s.clk, standbyLost := false, nextCol := s.pair.take.getD s.pair.nextCol, due := [] } }
    let t := t.wr0 Obj.PAIR_STATE 1
    let up := t.shared.filter (fun p => decide (t.link p = lkReady))
    let t := if t.comet.guest ∧ t.comet.seamDone then t.sendComet 5 0 (t.rd0 Obj.SEAM) 0 0 else t
    let t := if t.comet.guest ∧ t.comet.readySent then t.sendComet 3 0 0 0 0 else t
    if s.pair.trigger = 0 then t
    else ({ t with pair := { t.pair with trigger := 0 } }).measRequest (maskOf up) |>.each up Core.thimAuth
  else s

/-- A die follows this controller's input after a TAKE, and holds nothing up to h: REALIGN, and the port is READY with the configuration the die
holds (R415, R147). -/
def Core.takeFollowed (s : Core) (p cfg : Nat) : Core :=
  let x := s.port p
  let t := ((s.takeHistory p (s.pair.take.getD 0)).sendTime p false true).disarm .takeRetry p
  let t := (t.wr Obj.port_LINK_STATE p 0 lkReady).wr Obj.port_CFG_ID p 0 cfg
  let t := t.updPort p (fun y => { y with takes := 0, abortCol := none, rotDie := t.rotation p, loaded := if x.loaded.isEmpty then t.pulseLoad p else x.loaded,
                                           gWant := t.rd Obj.port_PHASE_GROUPS p 0, gDie := t.rd Obj.port_PHASE_GROUPS p 0 })
  ((t.setFlag p 0 true).startValidation p (t.oldPeriod p) false).takeDone

/-- A STATUS on a standby's shared port: acceptances seen, and an abort by the active member (Table 15-3, R410). -/
def Core.standbyStatus (s : Core) (p kind ackCol : Nat) (aborted : Bool) (abortCol done : Nat) : Core :=
  let top := s.colTop
  let full (c : Nat) : Nat := (((top : Int)) + seqDist 32 c top).toNat
  let acc := decide (kind = 1 ∨ kind = 3)
  let t := if acc then
      let j := full ackCol
      let u := s.updPort p (fun x => { x with accTop := some (match x.accTop with | some h => max h j | none => j) })
      let u := { u with pair := { u.pair with lastAccept := if kind = 1 then some u.clk else u.pair.lastAccept }, colTop := max u.colTop (j + 1) }
      match (u.port p).colAt j with
      | some r => if r.settled then u else (u.setCol p { r with settled := true }).afterSettle p
      | none => u
    else s
  if aborted ∧ (s.port p).abortCol.isNone then
    let u := t.updPort p (fun x => { x with abortCol := some (if abortCol = done then full done + 1 else full abortCol) })
    if !u.inPrint ∨ u.stop.isSome then u else if u.rd0 Obj.PAIR_TAKE_FATAL = 1 then u.takeDecide 1 else u.occur 1553 0
  else t

/-! ### Mirror records received -/

/-- A record of the active member arrives under a SEQ: a gap ends the snapshot's validity (R406). -/
def Core.rxMirror (s : Core) (seq : Nat) : Core :=
  let t := { s with pair := { s.pair with rxSeq := some seq, lastRec := some s.clk, silenced := 0 } }
  match s.pair.rxSeq with
  | none => t
  | some q => if (q + 1) % 2 ^ 32 = seq then t else ((t.inc0 Obj.MIRROR_GAPS).occur 1556 0).syncReq

/-- A record acts on a standby only. -/
def Core.asStandby (s : Core) (seq : Nat) (f : Core → Core) : Core := if s.isStandby ∧ s.running then f (s.rxMirror seq) else s

/-- A record acts on the active member only. -/
def Core.asActive (s : Core) (f : Core → Core) : Core := if s.isPairActive ∧ s.running then f s else s

/-- Toggle the fired state of nozzles. -/
def toggle (l : List Nat) (t : Tab Nat) : Tab Nat :=
  l.foldl (fun t n => if Tab.get 0 t n = 0 then Tab.set t n 1 else Tab.erase t n) t

/-- A COLUMN record on one shared port (R410). -/
def Core.takeColumn (s : Core) (j fired lost : Nat) (deltas : List Nat) (p : Nat) : Core :=
  let r := s.colOf p j
  let own := r.freeIdx p
  if bit fired p then
    let idx := toggle (deltas.filter (fun n => decide (n / 1024 = p))) (if r.acked then r.idx else own)
    s.setCol p { r with sent := true, settled := true, acked := true, idx := idx }
  else if bit lost p then s.setCol p { r with lost := true, settled := true }
  else s

/-- T̂ and T_SINK of 32 ports from a THERMAL body. -/
def Core.takeThermal (s : Core) (first : Nat) (ts : List Byte) : Core :=
  s.each (s.shared.filter (fun p => decide (first ≤ p ∧ p < first + 32))) (fun t p =>
    let e := ts.drop (8 * (p - first))
    ((t.updPort p (fun x => { x with therm := { x.therm with t := signedOf 32 (leAt e 0 4) } })).wr Obj.T_SINK 0 p (leAt e 4 2)).hwUpdate Obj.T_SINK 0 p |>.publishT p)

/-- Apply a mirrored change from its REF column; a column already assembled with other states is assembled again (R410). -/
def Core.mirrorChange (s : Core) (ref : Nat) (dry : Bool) (idx val : Nat) (ports : List Nat) : Core :=
  if ports.any (fun p => decide (ref < s.nextAssembly p)) ∨ !s.inPrint then
    let t := ({ s with pair := { s.pair with due := s.pair.due ++ [(0, dry, idx, val)] } }).applyDue 0
    t.each ports (fun t p => t.updPort p (fun x => { x with cols := x.cols.map (fun r =>
      if ref ≤ r.col ∧ !r.settled then { r with asm := false, fire := [], free := [] } else r) }))
  else { s with pair := { s.pair with due := s.pair.due ++ [(ref, dry, idx, val)] } }

/-- Adopt a Thimble journal entry as the port's own (R410). -/
def Core.adoptThim (s : Core) (p : Nat) (e : ThimEntry) : Core :=
  if 64 ≤ p then s else
  let t := { s with thimJ := Tab.set s.thimJ p e }
  let t := (((t.wr Obj.CARRIER_ID 0 p e.carrier).wr Obj.COUNT 0 p e.base).wr Obj.CSEQ 0 p e.cseq).wr Obj.PENDING_PL 0 p e.acc
  t.updThim p (fun x => { x with flight := e.flight })

/-- The entry a THIMBLE body carries. -/
def thimOfBody (b : List Byte) : ThimEntry :=
  ⟨leAt b 0 8, leAt b 8 8, leAt b 16 4, leAt b 24 8, if leAt b 40 1 % 2 = 1 then some (leAt b 32 8, leAt b 20 4) else none⟩

/-- A measurement record kept as a rise reference. -/
def Core.takeMeasRec (s : Core) (sensor : Nat) (b : List Byte) : Core :=
  if sensor < 80 ∧ leAt b 20 1 = 0 then s.keepMeas sensor (leAt b 0 8) (signedOf 16 (leAt b 12 2)) else s

/-! ### Snapshots (R408) -/

/-- The SNAP records of one kind. -/
def Core.sendSnap (s : Core) (id kind : Nat) (data : List Byte) : Core :=
  let n := max 1 (ceilDiv data.length 496)
  s.each (List.range n) (fun t i =>
    t.mirrorPaced 9 id (leBytes 1 kind ++ leBytes 1 (b2n (decide (i + 1 = n))) ++ leBytes 2 0 ++ leBytes 4 (496 * i) ++ (data.drop (496 * i)).take 496))

/-- The nozzles of the shared ports, ascending. -/
def Core.sharedNozzles (s : Core) : List Nat := s.shared.flatMap (fun p => (List.range 1024).map (1024 * p + ·))

/-- The newest column that has settled on every shared port. -/
def Core.snapCol (s : Core) : Nat := s.pair.nextCol - 1

/-- A whole mirror record as CONTEXT carries it. -/
def ctxRecord (rtype ref : Nat) (body : List Byte) : List Byte := leBytes 1 rtype ++ [0, 0, 0] ++ leBytes 4 ref ++ body

/-- The newest measurement record of a sensor. -/
def Core.lastMeas (s : Core) (sensor : Nat) : List Byte :=
  if sensor < 64 then leBytes 24 (s.rd Obj.LAST_MEAS 0 sensor) else leBytes 24 (s.rd Obj.LAST_JS 0 (sensor - 64))

/-- Send the snapshot the standby asked for, paced (R407); records of an earlier one not yet sent are dropped. -/
def Core.snapshot (s0 : Core) (id : Nat) : Core :=
  let s := { s0 with pair := { s0.pair with paced := s0.pair.paced.filter (fun r => decide (r.1 ≠ 9)) } }
  let ns_ := s.sharedNozzles
  let j := s.snapCol
  let hist := s.shared.flatMap (fun p =>
    let l := historyCols (s.port p) (j + 1) (s.port p).histFrom
    (List.range 1024).flatMap (fun a => leBytes 1 (histBits l (1024 * p + a))))
  let ctx := s.shared.flatMap (fun p => ctxRecord 7 p (s.thimEntry p).body)
    ++ (s.shared ++ (List.range 16).map (64 + ·)).flatMap (fun n => ctxRecord 8 n (s.lastMeas n))
    ++ ctxRecord 2 (s.ftNs / 8192 % 2 ^ 32) (s.thermalBody 0) ++ ctxRecord 2 (s.ftNs / 8192 % 2 ^ 32) (s.thermalBody 32)
  (((s.sendSnap id 1 (ns_.flatMap (fun n => leBytes 2 (s.rd Obj.K_CAL 0 n)))).sendSnap id 2 (leBytes 4 j ++ hist)).sendSnap id 3
    (ns_.flatMap (fun n => leBytes 1 (s.rd Obj.NOZZLE_MAP 0 n)))).sendSnap id 4 ctx

/-- Records of a CONTEXT, one after another. -/
def Core.takeContext : Nat → List Byte → Core → Core
  | 0, _, s => s
  | k + 1, b, s =>
    if b.length < 8 then s
    else
      let typ := leAt b 0 1
      let ref := leAt b 4 4
      let body := b.drop 8
      if typ = 7 then Core.takeContext k (body.drop 48) (s.adoptThim ref (thimOfBody body))
      else if typ = 8 then Core.takeContext k (body.drop 24) (s.takeMeasRec ref body)
      else Core.takeContext k (body.drop 264) (s.takeThermal (leAt body 0 1) (body.drop 8))

/-- History bytes become the last eight columns of a port. -/
def Core.takeHist (s : Core) (j : Nat) (p : Nat) (h : List Byte) : Core :=
  s.each (List.range (min 8 (j + 1))) (fun t i =>
    let idx := (List.range 1024).foldl (fun m a => if bit (nth 0 (h.drop a) 0).toNat i then Tab.set m (1024 * p + a) 1 else m) []
    t.setCol p { (t.colOf p (j - i)) with sent := true, settled := true, acked := true, idx := idx })

/-- A kind of the snapshot is whole: store it. -/
def Core.takeSnap (s : Core) (kind : Nat) (data : List Byte) : Core :=
  let ns_ := s.sharedNozzles
  if kind = 1 then ns_.zipIdx.foldl (fun t e => t.wr Obj.K_CAL 0 e.1 (leAt data (2 * e.2) 2)) s
  else if kind = 2 then
    let j := leAt data 0 4
    s.shared.zipIdx.foldl (fun t e => t.takeHist j e.1 ((data.drop (4 + 1024 * e.2)).take 1024)) s
  else if kind = 3 then ns_.zipIdx.foldl (fun t e => t.wr Obj.NOZZLE_MAP 0 e.1 (leAt data e.2 1)) s
  else Core.takeContext 256 data s

/-- A SNAP record: the snapshot is complete when every kind has come with LAST. -/
def Core.snapRecord (s : Core) (id kind : Nat) (last : Bool) (offset : Nat) (data : List Byte) : Core :=
  if id ≠ s.pair.snapId ∨ kind = 0 ∨ 4 < kind then s
  else
    let buf := Tab.get [] s.pair.snapBuf kind
    let buf := if offset = buf.length then buf ++ data else buf
    let t := { s with pair := { s.pair with snapBuf := Tab.set s.pair.snapBuf kind buf } }
    if last then
      let kinds := putBit t.pair.snapKinds (kind - 1) true
      let u := t.takeSnap kind buf
      { u with pair := { u.pair with snapKinds := kinds, snapOk := decide (kinds = 15), snapBuf := Tab.erase u.pair.snapBuf kind } }
    else t

/-! ### EPHEM and STREAM -/

/-- GATE_TF: whole ns of t_first on the lowest shared port. -/
def Core.gateTf (s : Core) (j : Nat) : Option Nat := (s.shared.head?.bind (fun p => s.tFirst p j)).map (fun t => (t / 65536).toNat)

/-- The EPHEM record of the active member. -/
def Core.sendEphem (s : Core) : Core :=
  let j := s.pair.gateJ
  s.mirror 3 0 s.pair.gateSeq (leBytes 4 j ++ leBytes 4 0 ++ leBytes 8 ((s.gateTf j).getD 0) ++ leBytes 1 (s.rd0 Obj.COMET_STATE) ++ leBytes 3 0
    ++ leBytes 4 s.comet.id ++ leBytes 4 (s.rd0 Obj.SEAM) ++ leBytes 4 (s.rd0 Obj.PAIR_DIGEST))

/-- The comparison of R411, and what an EPHEM record carries. -/
def Core.ephemRecord (s : Core) (gateJ gateTf st cid seam digest : Nat) : Core :=
  let t := { s with pair := { s.pair with ephem := (st, cid, seam) } }
  let t := (t.wr0 Obj.PARTNER_DIGEST digest).digestTest t
  match t.gateTf gateJ with
  | some own =>
    if ((own : Int) - gateTf).natAbs > t.rd0 Obj.PAIR_T_TOL then ({ t with pair := { t.pair with divergeAt := some t.clk } }).occur 1558 0 else t
  | none => t

/-- The STREAM record of the active member. -/
def Core.sendStreamRec (s : Core) : Core :=
  s.mirror 4 0 (s.colNext % 2 ^ 32) (leBytes 4 (s.rd0 Obj.LAST_SSN) ++ leBytes 4 (s.rd0 Obj.NEXT_DSEQ) ++ leBytes 4 (s.rd0 Obj.LOOKAHEAD)
    ++ leBytes 4 ((s.currentPage.map Page.no).getD 0) ++ leBytes 8 0)

/-! ### Writes -/

/-- TAKEOVER: on a standby in PRINT (R413, R419). -/
def chkTakeover : WrChk := fun s _ _ _ _ => stateIf (!s.inPrint || !s.isStandby)

/-- TAKEOVER. -/
def actTakeover : WrAct := fun _ _ _ v s => if v = 1 then s.takeDecide 4 else s

/-- PAIR_SWITCH: on the active member outside PRINT while the partner is READY (R418). -/
def chkPairSwitch : WrChk := fun s _ _ _ _ => stateIf (s.inPrint || !s.isPairActive || decide (s.rd0 Obj.PARTNER_READY ≠ 0))

/-- PAIR_SWITCH sends SWITCH (R419). -/
def actPairSwitch : WrAct := fun _ _ _ v s => if v = 1 then s.mirror 0x0A 0 ((s.rd0 Obj.PAIR_EPOCH + 1) % 2 ^ 32) [] else s

/-! ### The commands -/

/-- MIRROR_COLUMN (R410). -/
def execMirrorColumn (dt seq job fired lost : Nat) (deltas : List Nat) (s : State) : Host.Outcome State Fault Refusal :=
  onCore (fun c => (c.advance dt).asStandby seq (fun t => t.each t.shared (fun t p => t.takeColumn job fired lost deltas p))) s

/-- MIRROR_THERMAL (R410). -/
def execMirrorThermal (dt seq first : Nat) (bytes : List Byte) (s : State) : Host.Outcome State Fault Refusal :=
  onCore (fun c => (c.advance dt).asStandby seq (fun t => t.takeThermal first bytes)) s

/-- MIRROR_EPHEM (R411). -/
def execMirrorEphem (dt seq gateJ gateTf cometState cometId seam digest : Nat) (s : State) : Host.Outcome State Fault Refusal :=
  onCore (fun c => (c.advance dt).asStandby seq (fun t => t.refreshDigest.ephemRecord gateJ gateTf cometState cometId seam digest)) s

/-- MIRROR_STREAM (R406). -/
def execMirrorStream (dt seq job ssn dseq la page : Nat) (s : State) : Host.Outcome State Fault Refusal :=
  onCore (fun c => (c.advance dt).asStandby seq (fun t => { t with pair := { t.pair with stream := [job, ssn, dseq, la, page] } })) s

/-- MIRROR_MAP (R410). -/
def execMirrorMap (dt seq ref : Nat) (entries : List (Nat × Nat)) (s : State) : Host.Outcome State Fault Refusal :=
  onCore (fun c => (c.advance dt).asStandby seq (fun t =>
    (entries.filter (fun e => t.sharedPort (e.1 / 1024))).foldl (fun t e => t.mirrorChange ref false e.1 e.2 [e.1 / 1024]) t)) s

/-- MIRROR_DRY (R410). -/
def execMirrorDry (dt seq ref flags : Nat) (s : State) : Host.Outcome State Fault Refusal :=
  onCore (fun c => (c.advance dt).asStandby seq (fun t => t.mirrorChange ref true 0 flags t.shared)) s

/-- MIRROR_THIMBLE (R410). -/
def execMirrorThimble (dt seq port : Nat) (bytes : List Byte) (s : State) : Host.Outcome State Fault Refusal :=
  onCore (fun c => (c.advance dt).asStandby seq (fun t => if 64 ≤ port then t else (t.adoptThim port (thimOfBody bytes)).mirror 0x81 0 seq [])) s

/-- MIRROR_MEAS (R410). -/
def execMirrorMeas (dt seq sensor : Nat) (bytes : List Byte) (s : State) : Host.Outcome State Fault Refusal :=
  onCore (fun c => (c.advance dt).asStandby seq (fun t => t.takeMeasRec sensor bytes)) s

/-- MIRROR_SNAP (R408). -/
def execMirrorSnap (dt seq id kind : Nat) (last : Bool) (offset : Nat) (bytes : List Byte) (s : State) : Host.Outcome State Fault Refusal :=
  onCore (fun c => (c.advance dt).asStandby seq (fun t => t.snapRecord id kind last offset bytes)) s

/-- MIRROR_SWITCH (R419). -/
def execMirrorSwitch (dt seq epoch : Nat) (s : State) : Host.Outcome State Fault Refusal :=
  onCore (fun c => (c.advance dt).asStandby seq (fun t => (t.wr0 Obj.PAIR_EPOCH epoch).takeStart t.colNext)) s

/-- MIRROR_ACK (R410). -/
def execMirrorAck (dt ref : Nat) (s : State) : Host.Outcome State Fault Refusal :=
  onCore (fun c => (c.advance dt).asActive (fun t =>
    t.each (t.shared.filter (fun p => (t.port p).thim.mirrorWait && decide ((t.port p).thim.mirrorSeq = ref))) (fun t p =>
      (t.disarm .thimbleAck p).thimSend p))) s

/-- MIRROR_SYNC_REQ (R408). -/
def execMirrorSyncReq (dt id : Nat) (s : State) : Host.Outcome State Fault Refusal :=
  onCore (fun c => (c.advance dt).asActive (fun t => t.snapshot id)) s

/-- MIRROR_STANDBY (R412). -/
def execMirrorStandby (dt notReady : Nat) (s : State) : Host.Outcome State Fault Refusal :=
  onCore (fun c => (c.advance dt).asActive (fun t =>
    let u := ({ t with pair := { t.pair with standbyAt := some t.clk, standbyLost := decide (notReady ≠ 0) } }).wr0 Obj.PARTNER_READY notReady
    let u := if bit notReady 1 then u else u.wr0 Obj.PARTNER_DIGEST (u.rd0 Obj.PAIR_DIGEST)
    if notReady ≠ 0 ∧ !t.pair.standbyLost then u.occur 1555 0 else u)) s

/-- MIRROR_EPHEM_TIMER (R406). -/
def execMirrorEphemTimer (dt : Nat) (s : State) : Host.Outcome State Fault Refusal :=
  onCore (fun c => (c.advance dt).asActive (fun t => t.refreshDigest.sendEphem.mirrorPump)) s

/-- MIRROR_STREAM_TIMER (R406). -/
def execMirrorStreamTimer (dt : Nat) (s : State) : Host.Outcome State Fault Refusal :=
  onCore (fun c => (c.advance dt).asActive (fun t => t.sendStreamRec.mirrorPump)) s

/-- STANDBY_RECORD_TIMER (R406, R412). -/
def execStandbyRecordTimer (dt : Nat) (partnerPrint : Bool) (s : State) : Host.Outcome State Fault Refusal :=
  onCore (fun c => (c.advance dt).when (c.isStandby && c.running) (fun t =>
    let u := t.refreshDigest
    let v := u.notReady partnerPrint
    (u.setNotReady v).mirror 0x83 0 v (leBytes 4 0))) s

/-- STANDBY_RECORD_TIMEOUT (R412). -/
def execStandbyRecordTimeout (dt : Nat) (s : State) : Host.Outcome State Fault Refusal :=
  onCore (fun c => (c.advance dt).asActive (fun t =>
    if t.olderThan t.pair.standbyAt (ms 5) ∧ !t.pair.standbyLost then ({ t with pair := { t.pair with standbyLost := true } }).occur 1555 0 else t)) s

/-- THIMBLE_ACK_WAIT_TIMEOUT (R410). -/
def execThimbleAckWaitTimeout (dt port : Nat) (s : State) : Host.Outcome State Fault Refusal :=
  onCore (fun c => (c.advance dt).when ((c.advance dt).due .thimbleAck port) (fun t =>
    let u := t.disarm .thimbleAck port
    if (u.port port).thim.mirrorWait then (u.occur 1556 0).thimSend port else u)) s

/-- The active member has fallen silent: the triggers of Table 15-3, each once for one silence. -/
def Core.pairSilence (s : Core) : Core :=
  let dead := s.olderThan s.pair.lastAccept (ns (s.rd0 Obj.PAIR_SILENCE))
  let step := if dead then 2 else 1
  if s.silent ∧ s.isStandby ∧ s.inPrint ∧ s.pair.silenced < step then
    let t := { s with pair := { s.pair with silenced := step } }
    if dead then t.takeDecide 2 else (t.occur 1556 0).setNotReady (putBit (t.rd0 Obj.NOT_READY) 0 true)
  else s

/-- PAIR_SILENCE_EXPIRY (R413). -/
def execPairSilenceExpiry (dt : Nat) (s : State) : Host.Outcome State Fault Refusal :=
  onCore (fun c => (c.advance dt).pairSilence) s

end Sys2Proof.Machine
end

