-- ==== Sys2Proof/Machine/Thread.lean ====
section
/-! DEFINITION. Thread (ch. 5): bring-up of a port, acknowledgements and resends, the sideband's responses and what each conversation brings about. -/

namespace Sys2Proof.Machine

open Sys2Proof

/-! ### Bring-up (Table 5-12) -/

/-- The port holds a bring-up place (R145): until READY or FAULT, also while it retrains from ALIGN or ENUM. -/
def Core.inBringup (s : Core) (p : Nat) : Bool :=
  decide (1 ≤ s.link p ∧ s.link p ≤ 4) || (decide (s.link p = lkRetrain) && decide ((s.port p).before = lkAlign ∨ (s.port p).before = lkEnum))

/-- Ports may be brought up: CONFIG or later and not in SAFE, heads not held off by a head stop or a PARK. -/
def Core.mayBringUp (s : Core) : Bool :=
  s.inModes [.config, .ready, .printWeb, .printScan, .service] && decide (s.headStep < 4)

/-- With STRAP_CONFIG high a port begins bring-up only after a host write of 1 to its PORT_ENABLE (R562). -/
def Core.strapAllows (s : Core) (p : Nat) : Bool := !bit (s.rd0 Obj.STRAPS) 1 || bit s.strapPorts p

/-- PORT_BRINGUP_START: the lowest eligible port enters POWER. -/
def Core.bringupStart (s : Core) : Core :=
  match allPorts.find? (fun p => s.rdB Obj.port_PORT_ENABLE p 0 && decide (s.link p = lkOff) && s.strapAllows p) with
  | none => s
  | some p =>
    if !s.mayBringUp ∨ s.rd0 Obj.ENUM_PARALLEL ≤ (allPorts.filter s.inBringup).length then s
    else
      let t := s.updPort p (fun x => { x with
        trainFails := 0, echoes := [], finalTime := false, timeFaults := 0, powerAt := s.clk, seq := 0, syncSince := false, failedResumes := 0
        enumerated := false, accTop := none, held := 0, abortCol := none, takes := 0, before := 0, gWant := s.rd Obj.port_PHASE_GROUPS p 0
        sbHeld := false, timeHeld := 0 })
      (((t.wr Obj.port_LINK_STATE p 0 lkPower).wr Obj.port_DONE_COL p 0 0xFFFFFFFF).emit .headPower p [1] []).arm .hpSettle p
        (us (s.rd Obj.port_HP_SETTLE p 0))

/-- HP_SETTLE has elapsed: POWER to TRAIN. -/
def Core.hpSettled (s : Core) (p : Nat) : Core :=
  if s.link p = lkPower ∧ s.due .hpSettle p then ((s.disarm .hpSettle p).wr Obj.port_LINK_STATE p 0 lkTrain).arm .linkState p (ms 10) else s

/-- TRAIN has lasted 10 ms: back to POWER, or FAULT the third time in a row. -/
def Core.trainTimeout (s : Core) (p : Nat) : Core :=
  if s.link p = lkTrain ∧ s.due .linkState p then
    let n := (s.port p).trainFails + 1
    let t := (s.disarm .linkState p).updPort p (fun x => { x with trainFails := n })
    if 3 ≤ n then t.portFault p
    else ((t.updPort p (fun x => { x with powerAt := s.clk })).wr Obj.port_LINK_STATE p 0 lkPower).arm .hpSettle p (us (s.rd Obj.port_HP_SETTLE p 0))
  else s

/-- The eight TIME frames with ECHO and REALIGN, one idle pair apart (R124, R127). -/
def Core.sendEchoes (s : Core) (p : Nat) : Core :=
  s.each (List.range 8) (fun t _ => t.laneFrame p .timeFrame [] (timeFrame 3 (tickQ8 (t.laneAt p))))

/-- Comma alignment and 1,024 idle pairs: TRAIN to ALIGN, or the same regained within RETRAIN. The lanes' running disparity starts anew. -/
def Core.laneTrained (s0 : Core) (p : Nat) : Core :=
  let s := if p < 64 then s0.updPort p (fun x => { x with txPlus := false, rxPlus := false, rxErr := 0 }) else s0
  if 64 ≤ p then s
  else if s.link p = lkTrain then
    let t := ((s.disarm .linkState p).wr Obj.port_LINK_STATE p 0 lkAlign).updPort p (fun x => { x with trainFails := 0, echoes := [], finalTime := false })
    (t.sendEchoes p).arm .statusWait p (us 100)
  else if s.link p = lkRetrain then (s.updPort p (fun x => { x with echoes := [], finalTime := false })).sendEchoes p
  else s

/-- Four times D of an ECHO in Q24.8 ns: RTT in half ns, TURN in Q24.8 ticks (R127). -/
def fourD (rtt turn : Nat) : Int := (256 * rtt : Nat) - ((5 * turn : Nat) : Int)

/-- A frame of `n` bytes and a type with a correct CRC (R125). -/
def goodFrame (typ n : Nat) (b : List Byte) : Bool :=
  decide (b.length = n) && decide (leAt b 0 1 = typ) && decide (leAt b (n - 4) 4 = Crypto.crc32 (b.take (n - 4)))

/-- A frame came damaged: counted as a CRC failure (R123). -/
def Core.badFrame (s : Core) (p : Nat) : Core := s.inc Obj.port_LINK_ERR p 1 1

/-- The link is aligned by measurement: LINK_DELAY, the final REALIGN TIME (R127). -/
def Core.echoesDone (s : Core) (p : Nat) (sum : Int) : Core :=
  if 32 * 25600 < sum then s.portFault p
  else
    let t := s.wr Obj.port_LINK_DELAY p 0 (satU 32 (roundDiv sum 32))
    (t.updPort p (fun x => { x with finalTime := true })).sendTime p false true

/-- ECHO_RECEIVED: one measurement of the link delay; the mean of eight counts. Where an ECHO is lost or damaged no TIME frame is sent again: the port stays in
ALIGN until it leaves it by another row of Table 5-12 (log entry 160). -/
def Core.echo (s : Core) (p rtt : Nat) (b : List Byte) : Core :=
  let x := s.port p
  if 64 ≤ p then s
  else if !(decide (s.link p = lkAlign ∨ s.link p = lkRetrain)) ∨ 8 ≤ x.echoes.length then s
  else if !goodFrame 0x83 16 b then s.badFrame p
  else
    let es := x.echoes ++ [fourD rtt (leAt b 4 4)]
    let t := s.updPort p (fun y => { y with echoes := es })
    if es.length = 8 then t.echoesDone p (sumI es) else t

/-! ### Column frames answered (R135, R136) -/

/-- The column frame that awaits its answer. -/
def Port.outstanding (x : Port) : Option Col := x.cols.find? (fun r => r.sent && !r.accepted && !r.lost && !r.acked)

/-- The conditions of a resend (R136); none is sent while a CONFIG or TABLE conversation runs (R143) or after SPIT_ABORT (R85). -/
def Core.mayResend (s : Core) (p : Nat) (r : Col) : Bool :=
  decide (s.link p = lkReady) && decide (r.attempt < s.rd Obj.port_RESEND_MAX p 0) && s.inTime p r && !(s.port p).cfgWait
    && !(r.run && s.spit.isNone) && !(s.port p).cols.any (fun c => c.sent && decide (r.col < c.col))

/-- Resend the frame, or lose its column. -/
def Core.resend (s : Core) (p : Nat) (r : Col) : Core :=
  if s.mayResend p r then (s.inc Obj.port_RESENDS p 0 1).sendColumn p { r with attempt := r.attempt + 1 } else s.loseCol p r.col

/-- ACK_TIMEOUT: no answer within 2,000 ns. -/
def Core.ackTimeout (s : Core) (p : Nat) : Core :=
  if s.due .ackWait p then
    let t := (s.disarm .ackWait p).inc Obj.port_NAK_COUNT p 12 1
    match (t.port p).outstanding with
    | some r => (t.resend p r).lanePump p
    | none => t.lanePump p
  else s

/-- Element of NAK_COUNT for a cause. -/
def nakIdx (cause : Nat) : Nat := if 1 ≤ cause ∧ cause ≤ 11 then cause - 1 else 11

/-- A NAK is counted, and one other than CRC is THREAD_NAK (Table 5-17). -/
def Core.countNak (s : Core) (p cause : Nat) : Core :=
  let t := s.inc Obj.port_NAK_COUNT p (nakIdx cause) 1
  if cause = 1 then t else t.occur 896 0

/-- ACCEPT, NAK and DUPLICATE (R133, R136). A NAK that names no outstanding frame is only counted. -/
def Core.answer (s : Core) (p kind cause ackCol : Nat) : Core :=
  match (s.port p).outstanding with
  | none => if kind = 2 then s.countNak p cause else s
  | some r =>
    if kind = 1 ∨ kind = 3 then
      (if ackCol = r.col % 2 ^ 32 then
        (((s.disarm .ackWait p).setCol p { r with accepted := true }).updPort p (fun x => { x with
          accTop := some (match x.accTop with | some h => max h r.col | none => r.col) })).sweepAccepted p
       else s)
    else if kind = 2 then
      let t := s.countNak p cause
      if cause = 1 then (t.disarm .ackWait p).resend p r
      else if cause = 2 ∨ ackCol = r.col % 2 ^ 32 then (t.disarm .ackWait p).loseCol p r.col
      else t
    else s

/-- Credit a column that has fired: heat and drops, of the nozzles that `keep` selects (R135). -/
def Core.creditCol (s : Core) (p : Nat) (r : Col) (keep : Nat → Bool) : Core :=
  let t := ((s.creditHeat p r keep).thimCredit p r keep).setCol p { r with accepted := true, acked := true }
  if r.run then t else { t with doneTop := some (match t.doneTop with | some d => max d r.col | none => r.col) }

/-- DONE_COL of a STATUS: an advance is a fire acknowledgement. -/
def Core.doneUpTo (s : Core) (p done : Nat) : Core :=
  if seqDist 32 done (s.rd Obj.port_DONE_COL p 0) ≤ 0 then s
  else
    let t := s.wr Obj.port_DONE_COL p 0 done
    let l := (t.port p).cols.filter (fun r => r.sent && !r.lost && !r.acked && (r.accepted || decide (r.col % 2 ^ 32 = done))
      && decide (0 ≤ seqDist 32 done (r.col % 2 ^ 32)))
    l.foldl (fun t r => t.creditCol p r (fun _ => true)) t

/-- The slot of a nozzle under the rotation the die holds. -/
def Core.slotOfNozzle (s : Core) (p n : Nat) : Nat := (s.rot p).idxOf (n % 16)

/-- A STATUS with ABORTED: the counted slots of ABORT_COL are credited, what the die had accepted above it is lost (R135), and with it a frame that this
controller's own ABORT cut off (Table 5-13). -/
def Core.abortedStatus (s : Core) (p abortCol slots done : Nat) : Core :=
  let t := match (s.port p).cols.find? (fun r => r.sent && !r.lost && !r.acked && decide (r.col % 2 ^ 32 = abortCol)) with
    | some r =>
      if abortCol = done then s
      else s.creditCol p r (fun n => decide (s.slotOfNozzle p n < field slots (5 * s.rgOf p (n % 1024 / 16) + 4) (5 * s.rgOf p (n % 1024 / 16))))
    | none => s
  t.loseHeld p (fun r => r.accepted || decide (s.link p = lkAborted))

/-! ### STATUS (R130) -/

/-- The link is back from RETRAIN with this STATUS (R145, Table 5-13), in the state before. Back in ALIGN, with its ECHOs measured and its final TIME sent, the
port is checked again at the next STATUS. -/
def Core.retrainBack (s : Core) (p : Nat) : Core :=
  let x := s.port p
  let st := x.before
  let t := ((s.disarm .linkState p).wr Obj.port_LINK_STATE p 0 st).updPort p (fun y => { y with
    finalTime := decide (st = lkAlign), timeFaults := 0, retrained := false })
  let t := match x.conv with
    | some _ => t.sync p false
    | none => t.sbNext p
  let t := if (t.port p).tableWanted ∧ st = lkReady then
      (t.updPort p (fun y => { y with tableWanted := false })).queueConv p { conv := 4, why := 3 } else t
  t.senseBack p

/-- What the first STATUS after a RETRAIN leaves unacknowledged: accepted columns are lost, the outstanding frame is resent while it still can be. -/
def Core.retrainColumns (s : Core) (p : Nat) : Core :=
  let l := (s.port p).cols.filter (fun r => r.sent && !r.lost && !r.acked)
  let t := l.foldl (fun t r => if r.accepted then t.loseCol p r.col else t.resend p r) s
  if t.link p = lkReady then t.portReturns p else t

/-- The check after the final REALIGN TIME. Answers whether the port is aligned now. -/
def Core.alignCheck (s : Core) (p : Nat) (timeFault : Bool) : Core × Bool :=
  let x := s.port p
  if !x.finalTime ∨ !decide (s.link p = lkAlign ∨ s.link p = lkRetrain) then (s, false)
  else if timeFault then
    let t := s.updPort p (fun y => { y with timeFaults := y.timeFaults + 1 })
    (if 3 ≤ x.timeFaults + 1 then t.portFault p else (t.sendTime p false true), false)
  else if s.link p = lkAlign then
    (((s.wr Obj.port_LINK_STATE p 0 lkEnum).updPort p (fun y => { y with finalTime := false, timeFaults := 0 })).queueConv p { conv := 1 }, true)
  else (s.retrainBack p, true)

/-- Which input the die follows (Table 5-12, R147, R417). -/
def Core.followInput (s : Core) (p : Nat) (activeB : Bool) (held done cfg : Nat) : Core :=
  let t := s.setFlag p 3 activeB
  if t.mine activeB then
    if t.link p = lkStandby ∧ (t.port p).takes ≠ 0 then
      match (t.port p).accTop with
      | some h => if held = 0 ∨ 0 ≤ seqDist 32 done (h % 2 ^ 32) then t.takeFollowed p cfg else t
      | none => t.takeFollowed p cfg
    else t
  else if t.link p = lkReady then
    let u := ((t.wr Obj.port_LINK_STATE p 0 lkStandby).portInactive p).senseTaken p
    if u.sharedPort p then u.demote else u
  else t

/-- The rest of a valid STATUS on an aligned port. -/
def Core.statusBody (s : Core) (p : Nat) (b : List Byte) (back : Bool) : Core :=
  let flags := leAt b 1 1
  let kind := leAt b 2 1
  let ackCol := leAt b 4 4
  let done := leAt b 8 4
  let t := if s.link p = lkStandby then s else s.answer p kind (leAt b 3 1) ackCol
  let keep := match (s.port p).outstanding with
    | some r => if kind = 1 ∧ ackCol = r.col % 2 ^ 32 ∧ 0 < leAt b 20 1 % 8 then some r.col else none
    | none => none
  let t := t.doneUpTo p done
  let t := if bit flags 2 ∧ t.link p ≠ lkStandby then t.abortedStatus p (leAt b 12 4) (leAt b 16 4) done else t
  let t := if bit flags 4 ∧ t.link p ≠ lkStandby ∧ !back then t.loseHeld p (fun r => r.accepted && decide (some r.col ≠ keep)) else t
  let t := if back then t.retrainColumns p else t
  if t.link p = lkStandby ∧ t.sharedPort p then t.standbyStatus p kind ackCol (bit flags 2) (leAt b 12 4) done else t

/-- STATUS_RECEIVED. -/
def Core.statusIn (s : Core) (p : Nat) (b : List Byte) : Core :=
  let l := s.link p
  if 64 ≤ p ∨ !s.running ∨ l = lkOff ∨ l = lkPower ∨ l = lkTrain ∨ l = lkFault ∨ (l = lkRetrain ∧ !(s.port p).finalTime) then s
  else if !goodFrame 0x81 32 b then s.badFrame p
  else
    let flags := leAt b 1 1
    let t := ((s.wr Obj.port_LINK_ERR p 2 (leAt b 24 2)).wr Obj.port_LINK_ERR p 3 (leAt b 26 2)).updPort p
      (fun x => { x with held := leAt b 20 1 % 8, statusAt := some s.clk })
    let t := if l = lkAborted then t else t.arm .statusWait p (us 100)
    let t := if bit flags 1 ∨ bit flags 5 then t.occur (832 + p) 0 else t
    let t := if bit flags 3 then t.occur 898 0 else t
    let a := t.alignCheck p (bit flags 1)
    let u := a.1.followInput p (bit flags 0) (leAt b 20 1 % 8) (leAt b 8 4) (leAt b 22 1)
    let u := if u.link p = lkAlign ∨ u.link p = lkOff ∨ u.link p = lkFault ∨ u.link p = lkRetrain then u
      else u.statusBody p b (a.2 && decide (l = lkRetrain))
    match (u.port p).conv, (u.port p).req with
    | some _, none => if u.sbUp p ∧ !(u.port p).holdsFrames then u.sbStep p else u
    | _, _ => if u.sbUp p then u.lanePump p else u

/-- STATUS_TIMEOUT (R137). -/
def Core.statusTimeout (s : Core) (p : Nat) : Core :=
  if s.due .statusWait p ∧ (s.link p = lkAlign ∨ s.sbUp p) then s.enterRetrain p else s

/-- One code group that a port has received outside a whole frame: the running disparity and the errors of the last 64 symbols follow; a code error is counted
(R123). -/
def Core.rxGroup (s : Core) (p g : Nat) : Core :=
  let x := s.port p
  let bad := codeError x.rxPlus g
  let t := s.updPort p (fun x => { x with rxPlus := rdAfter x.rxPlus g, rxErr := (2 * x.rxErr + b2n bad) % 2 ^ 64 })
  if bad then t.inc Obj.port_LINK_ERR p 0 1 else t

/-- The code groups in their order; `frame` says whether a type symbol has opened a frame, and `hurt` whether an error has fallen into it since. The frame ends
at the next idle pair, which lies between any two (R124); a damaged one is discarded and counted as a CRC failure (R123). -/
def Core.rxGroups (p : Nat) : List Nat → Bool → Bool → Core → Core
  | [], _, hurt, s => if hurt then s.badFrame p else s
  | g :: l, frame, hurt, s =>
    let plus := (s.port p).rxPlus
    let t := s.rxGroup p g
    match controlOf plus g with
    | some 0xBC => Core.rxGroups p l false false (if hurt then t.badFrame p else t)
    | some k => if opensFrame k ∧ !frame then Core.rxGroups p l true false t else Core.rxGroups p l frame hurt t
    | none => Core.rxGroups p l frame (hurt || (frame && codeError plus g)) t

/-- LINK_CODE_ERRORS: code groups with code errors among them reach the port (R123); eight errors within 64 symbols take it to RETRAIN (R145). A frame received
whole comes by a command of its own. -/
def Core.codeErrors (s : Core) (p : Nat) (groups : List Nat) : Core :=
  if 64 ≤ p ∨ s.link p = lkOff ∨ s.link p = lkFault then s
  else
    let t := Core.rxGroups p groups false false s
    if 8 ≤ popCount 64 (t.port p).rxErr then
      let u := t.updPort p (fun x => { x with rxErr := 0 })
      if u.link p = lkAlign ∨ u.sbUp p then u.enterRetrain p else u
    else t

/-- RETRAIN has lasted 10 ms. -/
def Core.retrainTimeout (s : Core) (p : Nat) : Core :=
  if s.link p = lkRetrain ∧ s.due .linkState p then s.portFault p else s

/-- TIME_PERIOD has elapsed (R128). -/
def Core.timePeriod (s : Core) (p : Nat) : Core :=
  if s.due .timePeriod p ∧ s.sbUp p then s.sendTime p false false else s

/-! ### ENUM, CAL, CONFIG, TABLE (R142, R143, R168) -/

/-- The checks of DIE_GEOM (Table 5-9). -/
def geomOk (b : List Byte) : Bool :=
  let n := leAt b 0 1
  let rg := leAt b 1 1
  let of_ (q : Nat) : Nat := leAt b 8 16 / 4 ^ q % 4
  decide (n = 32 ∨ n = 48 ∨ n = 64) && (List.range n).all (fun q => bit rg (of_ q))
    && (List.range 4).all (fun g => !bit rg g || (List.range n).any (fun q => decide (of_ q = g)))

/-- The checks of DIE_LIMITS (Table 5-9). -/
def limitsOk (b : List Byte) : Bool := decide (160 ≤ leAt b 0 2 ∧ 400 ≤ leAt b 2 2 ∧ 640 ≤ leAt b 4 2 ∧ leAt b 6 1 = 4)

/-- A write to a Bobbin table of a port: columns with a unit started keep the old value (R106). -/
def Core.tableWr (s : Core) (p : Nat) (o : Ob) (i j v : Nat) : Core :=
  let old := s.rd o i j
  if old = o.fit v then s else (s.keepOld p (o.key i j) old).wr o i j v

/-- Every K_CAL of a port at 1.0. -/
def Core.calDefault (s : Core) (p : Nat) : Core := (List.range 1024).foldl (fun t a => t.tableWr p Obj.K_CAL 0 (1024 * p + a) 0x4000) s

/-- Calibration memory rejected (Table 5-10). -/
def Core.calReject (s : Core) (p : Nat) : Core := ((s.calDefault p).setFlag p 2 false).occur 897 0

/-- The values of calibration memory, if it passes every condition of Table 5-10. -/
def calValues (b : List Byte) (nPrim crc : Nat) : Option (List Nat) :=
  let n := b.length
  let noz := leAt b 2 2
  let vals := (List.range noz).map (fun k => leAt b (16 + 2 * k) 2)
  let own := Crypto.crc32 (b.take (n - 4))
  if crc = own ∧ leAt b (n - 4) 4 = own ∧ leAt b 0 2 = 1 ∧ noz = 16 * nPrim ∧ n = 20 + 2 * noz ∧ vals.all (fun v => decide (0x1000 ≤ v)) then some vals
  else none

/-- The CAL conversation has committed. -/
def Core.calDone (s : Core) (p : Nat) (mem : List Byte) (crc : Nat) : Core :=
  match calValues mem (s.nPrim p) crc with
  | some vs => (vs.zipIdx.foldl (fun t e => t.tableWr p Obj.K_CAL 0 (1024 * p + e.2) e.1) s).setFlag p 2 true
  | none => s.calReject p

/-- The die is enumerated: serial check, model reset, and CAL and CONFIG follow (R107, R142, R168). -/
def Core.enumDone (s : Core) (p : Nat) : Core :=
  let t := (s.updPort p (fun x => { x with enumerated := true }))
  let t := ({ t with prevTemp := Tab.erase t.prevTemp p }).updPort p (fun x => { x with therm := { x.therm with prev := none } })
  let serial := t.rd Obj.port_DIE_IDENT p 0 / 2 ^ 64 % 2 ^ 64
  let t := if serial = t.rd Obj.DIE_SERIAL 0 p then t else t.newDie p serial
  t.resetModel p

/-- The pulse words that a TABLE conversation carried. -/
def tableWords (b : List Byte) : List Nat :=
  (List.range 63).map (fun k => leAt b (6 * k) 2 + leAt b (6 * k + 2) 2 * 2 ^ 16 + leAt b (6 * k + 4) 2 * 2 ^ 32)

/-- End the completion of every element of ROTATION. -/
def Core.endRotation (s : Core) (p : Nat) (ok : Bool) : Core := s.each (List.range 16) (fun t k => t.endComp Obj.port_ROTATION p k ok)

/-- PULSE_LOAD holds a table. -/
def Core.tableHeld (s : Core) (p : Nat) : Bool := (s.pulseLoad p).any (fun w => decide (w ≠ 0))

/-- Bring-up is complete: READY, or STANDBY where the die follows the other input; TABLE and THIMBLE follow (Table 5-12). -/
def Core.portUp (s : Core) (p : Nat) : Core :=
  let follows := s.mine (s.flag p 3)
  let t := s.wr Obj.port_LINK_STATE p 0 (if follows then lkReady else lkStandby)
  if !follows then t
  else
    let want := t.tableHeld p || (t.port p).tableWanted
    let t := if want then (t.updPort p (fun x => { x with tableWanted := false })).queueConv p { conv := 4, why := 3 } else t
    ((t.thimAuth p).senseBack p).portReturns p

/-- CONFIG has committed. -/
def Core.configDone (s : Core) (p : Nat) (c : Conv) : Core :=
  let t := (s.wr Obj.port_CFG_ID p 0 (s.nextCfg p)).updPort p (fun x => { x with rotDie := c.data.map BitVec.toNat, gDie := 2 ^ c.arg })
  let t := if t.hasTable p then t.putInForce p else t
  if c.why = 0 then t.portUp p
  else if c.why = 1 then t.endRotation p true
  else if (t.port p).validating then t
  else t.endComp Obj.port_PHASE_GROUPS p 0 true

/-- A CONFIG that was to carry new phase groups failed: the previous configuration stays in force (R143), and the table is validated against it again
(log entry 161). -/
def Core.configRefused (s : Core) (p : Nat) : Core :=
  let t := (s.endComp Obj.port_PHASE_GROUPS p 0 false).updPort p (fun x => { x with gWant := x.gDie })
  t.startValidation p (t.oldPeriod p) true

/-- TABLE has committed: the table is loaded, and its validation starts. -/
def Core.tableDone (s : Core) (p : Nat) (c : Conv) : Core :=
  let t := (s.wr Obj.port_CFG_ID p 0 (s.nextCfg p)).updPort p (fun x => { x with loaded := tableWords c.data })
  ((t.setFlag p 0 true).startValidation p (t.oldPeriod p) false).endComp Obj.port_TABLE_LOAD p 0 true

/-! ### Conversations step by step (R139, Table 5-8) -/

/-- The next step of the conversation in progress, carrying `data`. -/
def Core.nextStep (s : Core) (p : Nat) (data : List Byte) : Core :=
  (s.updPort p (fun x => { x with conv := x.conv.map (fun c => { c with step := c.step + 1, data := data }), req := none })).sbStep p

/-- End the conversation, do what its end brings, and begin the next one. -/
def Core.convEnd (s : Core) (p : Nat) (f : Core → Core) : Core := (f (s.sbEnd p)).sbNext p

/-- A DONE answer to the present step of an ENUM conversation. -/
def Core.enumStep (s : Core) (p : Nat) (c : Conv) (rsp : List Byte) : Core :=
  if c.step = 1 then
    let t := s.wr Obj.port_DIE_IDENT p 0 (ofLe (padTo 32 rsp))
    if leAt rsp 6 2 = 0x0100 then t.nextStep p [] else t.portFault p
  else if c.step = 2 then
    let t := s.wr Obj.port_DIE_GEOM p 0 (ofLe (padTo 24 rsp))
    if geomOk rsp then t.nextStep p [] else t.portFault p
  else if c.step = 3 then
    let t := s.wr Obj.port_DIE_LIMITS p 0 (ofLe (padTo 16 rsp))
    if limitsOk rsp then t.nextStep p [] else t.portFault p
  else s.convEnd p (fun t =>
    let t := t.enumDone p
    let t := if t.calBytes p ≠ 0 then t.queueConv p { conv := 2 } else t.calDefault p
    t.queueConv p { conv := 3 })

/-- A DONE answer to the present step (R140): it is committed. -/
def Core.stepDone (s : Core) (p : Nat) (c : Conv) (result : Nat) (rsp : List Byte) : Core :=
  let t := (s.updPort p (fun x => { x with failedResumes := 0, syncSince := false })).wr Obj.port_CONV_STEP p (c.conv - 1) c.step
  match c.conv with
  | 1 => t.enumStep p c rsp
  | 2 =>
    if c.step ≤ t.calSteps p then t.nextStep p (c.data ++ rsp.take (min 256 (t.calBytes p - 256 * (c.step - 1))))
    else t.convEnd p (fun t => t.calDone p c.data (leAt rsp 0 4))
  | 3 => if c.step < 3 then t.nextStep p c.data else t.convEnd p (fun t => t.configDone p c)
  | 4 => if c.step < 3 then t.nextStep p c.data else t.convEnd p (fun t => t.tableDone p c)
  | 5 =>
    let r := t.thimDone p c rsp
    if r.2.1 then r.1.nextStep p r.2.2 else r.1.sbNext p
  | _ => if c.step = 1 then t.nextStep p c.data else t.convEnd p (fun t => t.senseDone p { c with step := result / 256 % 256 })

/-- A conversation ended without success: the consequence of each (Tables 5-10 to 5-12, 6-4, R183). A COMMIT answered ARG is THREAD_NAK (Table 5-17). -/
def Core.convFails (s0 : Core) (p : Nat) (c : Conv) (status : Nat) : Core :=
  let s := if status = 3 ∧ (s0.stepOf p c).1 = opCommit ∧ !(c.conv = 3 ∧ c.why = 0) then s0.occur 896 0 else s0
  match c.conv with
  | 1 =>
    if status = 4 ∧ 4 ≤ c.step ∧ !s.mine (s.flag p 3) then s.convEnd p (fun t => (t.enumDone p).wr Obj.port_LINK_STATE p 0 lkStandby)
    else s.portFault p
  | 2 => s.convEnd p (fun t => t.calReject p)
  | 3 =>
    if c.why = 0 then (s.portFault p).occur 896 0
    else s.convEnd p (fun t => if c.why = 1 then t.endRotation p false else t.configRefused p)
  | 4 => s.convEnd p (fun t => t.endComp Obj.port_TABLE_LOAD p 0 false)
  | 5 => (s.thimEnded p c status).sbNext p
  | _ => s.convEnd p (fun t => t.senseEnded p c status)

/-- The answer to SYNC: the conversation resumes after the lower committed step; a COMMIT that met unfired columns waits for them (R140, Table 5-13). -/
def Core.syncDone (s : Core) (p : Nat) (rsp : List Byte) : Core :=
  let t := ((s.disarm .sbWait p).disarm .sbPending p).updPort p (fun x => { x with req := none, seq := 0 })
  match (t.port p).conv with
  | none => t.sbNext p
  | some c =>
    let m := min (c.step - 1) (leAt rsp (4 + 2 * (c.conv - 1)) 2)
    let u := t.updPort p (fun x => { x with conv := some { c with step := m + 1, data := if c.conv = 2 then c.data.take (256 * m) else c.data } })
    if (c.conv = 3 ∨ c.conv = 4) ∧ m + 1 = 3 ∧ (u.port p).holdsFrames then u else u.sbStep p

/-- An answer that matches the outstanding request (Table 5-8). -/
def Core.sbMatched (s : Core) (p : Nat) (r : SbReq) (status result : Nat) (rsp : List Byte) : Core :=
  let t := s.disarm .sbWait p
  if r.op = opSync then
    (if status = 0 then t.syncDone p rsp
     else if status = 1 then t.arm .sbPending p (us 10)
     else if status = 5 then t.portFault p
     else if status = 3 ∨ status = 4 then
       (match (t.port p).conv with
        | some c => t.convFails p c status
        | none => (t.updPort p (fun x => { x with req := none })).sbNext p)
     else t.sync p true)
  else match (t.port p).conv with
    | none => t
    | some c =>
      if status = 0 then t.stepDone p c result rsp
      else if status = 1 then t.arm .sbPending p (us 10)
      else if status = 3 ∨ status = 4 then t.convFails p c status
      else if status = 5 then t.portFault p
      else t.sync p true

/-- A response that matches no request is discarded and counted (R139). -/
def Core.sbUnmatched (s : Core) (p : Nat) : Core := s.updPort p (fun x => { x with unmatched := x.unmatched + 1 })

/-- SB_RESPONSE (R139). -/
def Core.sbResponse (s : Core) (p : Nat) (b : List Byte) : Core :=
  let len := leAt b 6 2
  if 64 ≤ p ∨ !s.sbUp p then s
  else if 256 < len ∨ !goodFrame 0x82 (16 + len) b then s.badFrame p
  else match (s.port p).req with
    | none => s.sbUnmatched p
    | some r =>
      let rsp := (b.drop 12).take len
      let ok := decide (leAt b 1 1 = r.seq ∧ leAt b 2 1 = r.conv ∧ leAt b 3 1 = r.op ∧ leAt b 4 2 = r.step)
        && (decide (r.op ≠ opSync) || decide (leAt rsp 0 4 = r.arg))
      if ok then s.sbMatched p r (leAt b 8 1) (leAt b 8 4) rsp else s.sbUnmatched p

/-- SB_TIMEOUT (R139): the request again, and at the third timeout SYNC-RESET. -/
def Core.sbTimeout (s : Core) (p : Nat) : Core :=
  match (s.port p).req with
  | none => s
  | some r =>
    if !s.due .sbWait p then s
    else if 2 ≤ r.tries then (s.disarm .sbWait p).sync p true
    else (s.updPort p (fun x => { x with req := some { r with tries := r.tries + 1 } })).sbSend p

/-! ### The commands -/

/-- PORT_BRINGUP_START (R145). -/
def execPortBringupStart (dt : Nat) (s : State) : Host.Outcome State Fault Refusal :=
  onCore (fun c => (c.advance dt).bringupStart) s

/-- HP_SETTLE_EXPIRY (R145). -/
def execHpSettleExpiry (dt port : Nat) (s : State) : Host.Outcome State Fault Refusal :=
  onCore (fun c => (c.advance dt).hpSettled port) s

/-- LANE_TRAINED (R145). -/
def execLaneTrained (dt port : Nat) (s : State) : Host.Outcome State Fault Refusal :=
  onCore (fun c => (c.advance dt).laneTrained port) s

/-- TRAIN_TIMEOUT (R145). -/
def execTrainTimeout (dt port : Nat) (s : State) : Host.Outcome State Fault Refusal :=
  onCore (fun c => (c.advance dt).trainTimeout port) s

/-- ECHO_RECEIVED (R127). -/
def execEchoReceived (dt port rtt : Nat) (bytes : List Byte) (s : State) : Host.Outcome State Fault Refusal :=
  onCore (fun c => (c.advance dt).echo port rtt bytes) s

/-- STATUS_RECEIVED (R135). -/
def execStatusReceived (dt port : Nat) (bytes : List Byte) (s : State) : Host.Outcome State Fault Refusal :=
  onCore (fun c => (c.advance dt).statusIn port bytes) s

/-- ACK_TIMEOUT (R136). -/
def execAckTimeout (dt port : Nat) (s : State) : Host.Outcome State Fault Refusal :=
  onCore (fun c => (c.advance dt).ackTimeout port) s

/-- STATUS_TIMEOUT (R137). -/
def execStatusTimeout (dt port : Nat) (s : State) : Host.Outcome State Fault Refusal :=
  onCore (fun c => (c.advance dt).statusTimeout port) s

/-- LINK_CODE_ERRORS (R123, R145). -/
def execLinkCodeErrors (dt : Nat) (rx : LaneRx) (s : State) : Host.Outcome State Fault Refusal :=
  onCore (fun c => (c.advance dt).codeErrors rx.port rx.groups) s

/-- RETRAIN_TIMEOUT (R145). -/
def execRetrainTimeout (dt port : Nat) (s : State) : Host.Outcome State Fault Refusal :=
  onCore (fun c => (c.advance dt).retrainTimeout port) s

/-- TIME_PERIOD_EXPIRY (R128). -/
def execTimePeriodExpiry (dt port : Nat) (s : State) : Host.Outcome State Fault Refusal :=
  onCore (fun c => (c.advance dt).timePeriod port) s

/-- SB_RESPONSE (R139). -/
def execSbResponse (dt port : Nat) (bytes : List Byte) (s : State) : Host.Outcome State Fault Refusal :=
  onCore (fun c => (c.advance dt).sbResponse port bytes) s

/-- SB_TIMEOUT (R139). -/
def execSbTimeout (dt port : Nat) (s : State) : Host.Outcome State Fault Refusal :=
  onCore (fun c => (c.advance dt).sbTimeout port) s

/-- SB_PENDING_RETRY (R138). -/
def execSbPendingRetry (dt port : Nat) (s : State) : Host.Outcome State Fault Refusal :=
  onCore (fun c => (c.advance dt).when ((c.advance dt).due .sbPending port) (fun t => t.sbSend port)) s

/-- TAKE_RETRY_TIMEOUT (R415): TAKE once more under the next epoch, then the port goes to FAULT; THREAD_TAKE reports the refusal. -/
def execTakeRetryTimeout (dt port : Nat) (s : State) : Host.Outcome State Fault Refusal :=
  onCore (fun c => (c.advance dt).when ((c.advance dt).due .takeRetry port && decide ((c.port port).takes ≠ 0) && decide (c.rd0 Obj.PAIR_STATE = 4)
      && decide (c.link port ≠ lkAborted)) (fun t =>
    let u := (t.disarm .takeRetry port).occur 898 0
    if (u.port port).takes = 1 then
      (u.wr0 Obj.PAIR_EPOCH ((u.rd0 Obj.PAIR_EPOCH + 1) % 2 ^ 32)).sendTake port ((u.pair.take.getD 0) % 2 ^ 32)
    else ((u.updPort port (fun x => { x with takes := 0 })).portFault port).takeDone)) s

end Sys2Proof.Machine
end

