-- ==== Sys2Proof/Machine/PortWrites.lean ====
section
/-! DEFINITION. The checks and actions of host writes to the objects of Ephemeris, Fire Sequencing, Bobbin, Thread, Thimble and the raster path (ch. 2
to 8). -/

namespace Sys2Proof.Machine

open Sys2Proof

/-- The commands that Table 18-4 admits in CONFIG, READY and SERVICE only. -/
def chkSetup : WrChk := chkModes [.config, .ready, .service]

/-- CONFIG only (Table 18-4). -/
def chkConfig : WrChk := chkModes [.config]

/-! ### Ephemeris -/

/-- This controller leads a ring or chain (R376, R378). -/
def Core.ringLeads (s : Core) : Bool := decide (s.rd0 Obj.RING_ROLE = 1) && !s.rejected && decide (0 < s.rd0 Obj.TOPO_COUNT)

/-- FT_STEP (R25): not in a lock, and not on a master while a TOPO entry carries IN_PRINT (R384). -/
def chkFtStep : WrChk := fun s t i j v =>
  worse (chkSetup s t i j v) (stateIf (decide (s.rd0 Obj.FT_STATE = 1 ∨ s.rd0 Obj.FT_STATE = 2) || (s.ringLeads && s.topo.any (fun e => bit e 14))))

/-- FT_STEP: f of R383 is 0, and the first SYNC of a master after it carries STEP (R384). -/
def actFtStep : WrAct := fun _ _ _ v s =>
  let t := s.stepFt v
  { t with ring := { t.ring with f := 0, step := t.ring.step || s.ringLeads } }

/-- MODE of a channel (R28). -/
def chkFbMode : WrChk := fun s _ n _ _ => stateIf (s.inPrint && decide (s.rd0 Obj.PACE_SRC = n + 1))

/-- MODE of a channel. -/
def actFbMode : WrAct := fun _ n _ _ s => s.clearChan n

/-- PACE_SRC or PACE_AXIS: an actual change starts the predictor afresh (R47). -/
def actPace : WrAct := fun b _ _ _ s =>
  if b.rd0 Obj.PACE_SRC = s.rd0 Obj.PACE_SRC ∧ b.rd0 Obj.PACE_AXIS = s.rd0 Obj.PACE_AXIS then s else s.restartPredictor

/-- TACK_NOW (R44). -/
def actTackNow : WrAct := fun _ _ _ v s => if v = 1 then s.tackNow else s

/-- SSI_PERIOD covers its frame and recovery (R31). -/
def chkSsi : WrChk := fun _ t n _ _ =>
  let clk := t.rd Obj.fb_SSI_CLK n 0
  valueIf (decide (t.rd Obj.fb_SSI_PERIOD n 0 * clk < (t.rd Obj.fb_SSI_BITS n 0 + 1) * 1000000 + t.rd Obj.fb_SSI_RECOVERY n 0 * clk))

/-- T_CNT_ON is below T_CNT_OFF (R37). -/
def chkTCnt : WrChk := fun _ t n _ _ => valueIf (decide (t.rd Obj.fb_T_CNT_OFF n 0 ≤ t.rd Obj.fb_T_CNT_ON n 0))

/-- The port (subindex) holds no frame not yet fired (R61). -/
def chkNoFrames : WrChk := fun s _ _ p _ => stateIf (s.port p).holdsFrames

/-! ### Fire sequencing -/

/-- N_span of a port under the values stored (R69). -/
def Core.spanOf (t : Core) (p : Nat) : Nat := nSpan (t.rd Obj.port_F_SET p 0) (t.rd Obj.port_PHASE_GROUPS p 0)

/-- N_span would be less than 40 ticks (R70). Natural subtraction reads 0 for a negative span. -/
def Core.spanShort (t : Core) (p : Nat) : Bool := decide (t.spanOf p < 40)

/-- ROTATION holds each address once (R64). -/
def isPerm16 (l : List Nat) : Bool := (List.range 16).all (fun a => decide (l.count a = 1))

/-- ROTATION (R64, R143). -/
def chkRotation : WrChk := fun s t p _ _ => worse (valueIf (!isPerm16 (t.rotation p))) (stateIf (s.port p).holdsFrames)

/-- A configuration conversation can be queued on the port now. -/
def Core.takesConfig (s : Core) (p : Nat) : Bool := decide (s.link p = lkEnum ∨ s.link p = lkReady ∨ s.link p = lkRetrain)

/-- ROTATION: CONFIG carries it to the die. -/
def actRotation : WrAct := fun _ p _ _ s =>
  if s.takesConfig p then (s.each (List.range 16) (fun t k => t.setCompO Obj.port_ROTATION p k 1)).queueConv p { conv := 3, why := 1 } else s

/-- PHASE_GROUPS (R70, R76). -/
def chkPhaseGroups : WrChk := fun s t p j v =>
  worse (chkSetup s t p j v)
    (valueIf (t.spanShort p || (s.rgs p).any (fun g => decide ((s.rgPrims p g).length % v ≠ 0))))

/-- PHASE_GROUPS: re-validation and CONFIG (R77). -/
def actPhaseGroups : WrAct := fun _ p _ _ s =>
  let busy := s.hasTable p || s.takesConfig p
  let t := if busy then s.setCompO Obj.port_PHASE_GROUPS p 0 1 else s
  let t := (t.updPort p (fun x => { x with gWant := t.rd Obj.port_PHASE_GROUPS p 0 })).startValidation p (t.oldPeriod p) true
  if t.takesConfig p then t.queueConv p { conv := 3, why := 2 } else t

/-- The port takes part in the spit run. -/
def Core.inSpitRun (s : Core) (p : Nat) : Bool :=
  match s.spit with | some x => bit (s.rd Obj.spat_PORTS x.pattern 0) p | none => false

/-- F_SET of one port (R70, R76), with the values stored. -/
def Core.fSetCode (s t : Core) (p v : Nat) : Nat :=
  worse (valueIf (t.spanShort p))
    (stateIf ((s.inPrint && (decide (v < s.rd Obj.F_MED 0 p) || (s.port p).rateVal))
      || (decide (s.mode = .service) && (s.inSpitRun p || (s.port p).rateVal))))

/-- F_SET. -/
def chkFSet : WrChk := fun s t p _ v => s.fSetCode t p v

/-- F_SET: the table is validated against the new rate (R77). -/
def actFSet : WrAct := fun _ p _ _ s =>
  if s.hasTable p then (s.setCompO Obj.port_F_SET p 0 1).startValidation p (s.oldPeriod p) true else s

/-- F_SET_ALL: every port's check first (R78). -/
def chkFSetAll : WrChk := fun s _ _ _ v =>
  allPorts.foldl (fun c p => worse c (s.fSetCode (s.wr Obj.port_F_SET p 0 v) p v)) okC

/-- F_SET_ALL (R78): validations complete within the shortest old column period. -/
def actFSetAll : WrAct := fun _ _ _ v s =>
  let t := s.each allPorts (fun t p => t.wr Obj.port_F_SET p 0 v)
  let l := allPorts.filter t.hasTable
  let d := (l.map t.oldPeriod).foldl min 2000000
  t.each l (fun t p => (t.setCompO Obj.port_F_SET p 0 1).startValidation p d true)

/-- A pattern is in use by a spit run or a band (R84). -/
def Core.patternUsed (s : Core) (i : Nat) : Bool :=
  (match s.spit with | some x => decide (x.pattern = i) | none => false) || s.pages.any (fun pg => pg.bands.any (fun b => decide (b.pattern = i)))

/-- A write to a spit pattern (R84). -/
def chkPattern : WrChk := fun s _ i _ _ => stateIf (s.patternUsed i)

/-- SPIT_RUN (R85). -/
def chkSpitRun : WrChk := fun s _ _ _ v =>
  stateIf (s.spit.isSome || decide (s.mode ≠ .service) || (s.spitPorts v).any (fun p => decide ((s.port p).fValid < s.rd0 Obj.SPIT_RATE)))

/-- SPIT_RUN: running sweeps pause (R171), the run starts. -/
def actSpitRun : WrAct := fun _ _ _ v s => s.pauseSweeps.spitStart v

/-- SPIT_ABORT (R85). -/
def actSpitAbort : WrAct := fun _ _ _ v s => if v = 1 then s.spitAbort else s

/-! ### Bobbin -/

/-- A write to a table of R106: columns with a unit started keep the old value. `portOf` gives the port of an element. -/
def actTable (o : Ob) (portOf : Nat → Nat → Nat) : WrAct := fun b i j _ s => s.keepOld (portOf i j) (o.key i j) (b.rd o i j)

/-- The port of an element of a per-port array, of a per-port index, of a per-nozzle array. -/
def bySub (_ j : Nat) : Nat := j
def byIdx (i _ : Nat) : Nat := i
def byNozzle (_ j : Nat) : Nat := j / 1024

/-- EPT also starts a validation (R106). -/
def actEpt : WrAct := fun b i j v s => (actTable Obj.EPT bySub b i j v s).startValidation j (s.oldPeriod j) false

/-- K_THERM_MIN does not exceed K_THERM_MAX (R101). -/
def chkKTherm : WrChk := fun _ t _ p _ => valueIf (decide (t.rd Obj.K_THERM_MAX 0 p < t.rd Obj.K_THERM_MIN 0 p))

/-- G_E or A_DECAY: T̂ becomes T_SINK (R107). -/
def actModelParam : WrAct := fun _ _ p _ s => s.resetModel p

/-- STATS_CLEAR (R96). -/
def actStatsClear : WrAct := fun _ _ _ v s =>
  if v = 1 then (s.wr0 Obj.LOAD_PEAK 0).wr0 Obj.MIN_SLACK (Obj.MIN_SLACK.resetValue 0 0) else s

/-! ### Thread -/

/-- PORT_ENABLE (R145): 0 takes the port to OFF after any Thimble commit; 1 lets a port begin bring-up although STRAP_CONFIG is high (R562). -/
def actPortEnable : WrAct := fun _ p _ v s0 =>
  let s := if v = 1 then { s0 with strapPorts := putBit s0.strapPorts p true } else s0
  if v = 1 ∨ s.link p = lkOff ∨ s.link p = lkFault ∨ s.link p = lkAborted then s else s.leavePort p

/-- PORT_RESET: FAULT to OFF (R150). -/
def actPortReset : WrAct := fun _ p _ v s => if v = 1 ∧ s.link p = lkFault then (s.level (768 + p) 0 false).portOff p else s

/-- TABLE_LOAD (R150). -/
def chkTableLoad : WrChk := fun s t p j v =>
  worse (chkSetup s t p j v) (stateIf (decide (v = 1) && decide (s.link p = lkStandby ∨ s.link p = lkAborted ∨ s.link p = lkFault)))

/-- TABLE_LOAD: at once in READY, else at the next bring-up or return to READY. -/
def actTableLoad : WrAct := fun _ p _ v s =>
  if v ≠ 1 then s
  else
    let t := s.setCompO Obj.port_TABLE_LOAD p 0 1
    if t.link p = lkReady then t.queueConv p { conv := 4, why := 3 } else t.updPort p (fun x => { x with tableWanted := true })

/-! ### Thimble -/

/-- DROP_VOL is not written in PRINT or SERVICE (Table 7-3). -/
def chkDropVol : WrChk := fun s _ _ _ _ => stateIf (s.inPrint || decide (s.mode = .service))

/-! ### The raster path -/

/-- RG_MAP: no reserved ROLE (R199); outside PRINT (R202). -/
def chkRgMap : WrChk := fun s t i j v => worse (chkSetup s t i j v) (valueIf (decide (rmRole v = 3)))

/-- DIST: no bit at or above s, none in a level-0 entry (R208). -/
def chkDist : WrChk := fun s t i j v =>
  worse (chkSetup s t i j v) (valueIf (decide (2 ^ (j / 16 + 1) ≤ v) || (decide (j / 4 % 4 = 0) && decide (v ≠ 0))))

/-- The set is named by the page in progress or by one accepted and not yet begun (R211). -/
def Core.maskUsed (s : Core) (i : Nat) : Bool := s.pages.any (fun pg => decide (pg.mask = i))

/-- A write to a mask set: free, and its origins inside the tile (R209, R211). -/
def chkMask : WrChk := fun s t i _ _ =>
  worse (stateIf (s.maskUsed i))
    (valueIf (decide (t.rd Obj.ms_PW i 0 ≤ t.rd Obj.ms_X0 i 0 ∨ t.rd Obj.ms_PH i 0 ≤ t.rd Obj.ms_L0 i 0)))

/-- PW, PH or PASSES: MASK_VALID clears (R209). -/
def actMaskGeometry : WrAct := fun _ i _ _ s => s.wr Obj.ms_MASK_VALID i 0 0

/-- Bytes of MASK_DATA by the geometry. -/
def Core.maskLen (s : Core) (i : Nat) : Nat := s.rd Obj.ms_PASSES i 0 * s.rd Obj.ms_PW i 0 * s.rd Obj.ms_PH i 0 / 8

/-- MASK_DATA has exactly the length the geometry gives (R209). -/
def chkMaskData : WrChk := fun s t i _ v =>
  worse (stateIf (s.maskUsed i)) (if (unpackBytes v).length = t.maskLen i then okC else sizeC)

/-- Passes that keep a cell of the tile. -/
def passesKeeping (data tile passes cell : Nat) : Nat := ((List.range passes).filter (fun p => bit data (p * tile + cell))).length

/-- MASK_DATA: MASK_VALID, UNCOVERED and OVERCOVERED (R209, R211). -/
def actMaskData : WrAct := fun _ i _ v s =>
  let tile := s.rd Obj.ms_PW i 0 * s.rd Obj.ms_PH i 0
  let ns_ := (List.range tile).map (passesKeeping v tile (s.rd Obj.ms_PASSES i 0))
  ((s.wr Obj.ms_MASK_VALID i 0 1).wr Obj.ms_UNCOVERED i 0 (ns_.filter (· = 0)).length).wr Obj.ms_OVERCOVERED i 0
    (ns_.filter (fun n => decide (1 < n))).length

end Sys2Proof.Machine
end

