-- ==== Sys2Proof/Machine/Stream.lean ====
section
/-! DEFINITION. The job stream (ch. 10): datagrams and ACKs, records and their order, staging, the start of pages and passes, MEASURE requests. -/

namespace Sys2Proof.Machine

open Sys2Proof

/-! ### Datagrams and ACKs (R258 to R262) -/

/-- Two numbers modulo 2^32: `a` counted from `b`. -/
def fwd32 (a b : Nat) : Nat := (a + 2 ^ 32 - b % 2 ^ 32) % 2 ^ 32

/-- The stream is OPEN or ERROR. -/
def Core.streamUp (s : Core) : Bool := decide (s.rd0 Obj.STREAM_STATE = 1 ∨ s.rd0 Obj.STREAM_STATE = 2)

/-- SACK: bit i is set when NEXT_DSEQ + 1 + i has been received. -/
def Core.sack (s : Core) : Nat :=
  maskOf ((List.range 64).filter (fun i => s.stream.got.any (fun e => decide (fwd32 e.1 (s.rd0 Obj.NEXT_DSEQ) = i + 1))))

/-- A stream datagram (Table 10-1). -/
def streamDgram (kind flags id dseq : Nat) (pay : List Byte) : List Byte :=
  let b := leBytes 2 0x5346 ++ leBytes 1 1 ++ leBytes 1 kind ++ leBytes 2 flags ++ leBytes 2 pay.length ++ leBytes 4 id ++ leBytes 4 dseq ++ pay
  b ++ leBytes 4 (Crypto.crc32c b)

/-- The ACK payload (Table 10-2). -/
def Core.ackPayload (s : Core) : List Byte :=
  leBytes 4 (s.rd0 Obj.NEXT_DSEQ) ++ leBytes 8 s.sack ++ leBytes 4 (s.stageFree / 1024) ++ leBytes 1 (s.rd0 Obj.STREAM_STATE) ++ [0, 0, 0]
    ++ leBytes 4 (s.rd0 Obj.LAST_SSN)

/-- A datagram carried over the ring: address, UDP port, six reserved bytes, the UDP payload (R392, R393). -/
def carried (ip port : Nat) (b : List Byte) : List Byte := leBytes 16 ip ++ leBytes 2 port ++ leBytes 6 0 ++ b

/-- Send an ACK by way of the gateway, where the last accepted datagram came over the ring (lane 16 plus its node), or on the lane of the last accepted datagram, to the host's address and that datagram's port; none before there is one. -/
def Core.sendAck (s : Core) : Core :=
  match s.stream.lane with
  | none => s
  | some k =>
    let n := s.stream.acks
    let t := { s with stream := { s.stream with acks := (n + 1) % 2 ^ 32 } }
    let d := streamDgram 2 0 (s.rd0 Obj.STREAM_ID) n s.ackPayload
    if 16 ≤ k then t.when t.originates (fun t => t.ringMessage 0x32 (k - 16) (carried (s.rd0 Obj.STREAM_HOST) s.stream.port d))
    else t.emit .streamAck k [(s.rd0 Obj.STREAM_HOST : Int), (s.stream.port : Int)] d

/-- Discard a datagram under a cause; causes 3 to 5 raise STREAM_DISCARD at most once per ACK_PERIOD (R289). -/
def Core.discardDgram (s : Core) (cause : Nat) : Core :=
  let t := s.wr Obj.DGRAM_DISCARDS 0 (cause - 1) (s.rd Obj.DGRAM_DISCARDS 0 (cause - 1) + 1)
  if 3 ≤ cause ∧ cause ≤ 5 then
    let ok := match t.stream.discardAt with | some a => decide (a + us (t.rd0 Obj.ACK_PERIOD) ≤ t.clk) | none => true
    if ok then ({ t with stream := { t.stream with discardAt := some t.clk } }).occur 1394 0 else t
  else t

/-! ### Records (R263 to R273) -/

/-- LEN of a record type, if its length is fixed. -/
def recordLen (t : Nat) : Option Nat :=
  match t with
  | 0x01 => some 8 | 0x02 => some 0 | 0x10 => some 2100 | 0x11 => some 32 | 0x12 => some 8 | 0x13 => some 4 | 0x30 => some 16
  | 0x31 => some 12 | 0x3F => some 4 | _ => none

/-- Checks 1 to 3 of R273 on the record at the front, as far as its bytes have come, and that its reserved header bits are 0. -/
def Core.checkFront (s : Core) : Core :=
  let b := s.stream.bytes
  if s.rd0 Obj.STREAM_STATE ≠ 1 ∨ b.length < 12 then s
  else
    let (typ, len, ssn) := s.frontRec
    let spare (t : Core) : Core := if leAt b 1 3 ≠ 0 then t.streamError errFormat typ ssn else t
    if ssn ≠ s.stream.ssn then s.streamError errSeq typ ssn
    else if typ = 0x20 then
      if len < 32 then s.streamError errFormat typ ssn
      else if b.length < 44 then s
      else if len ≠ 32 + leAt b 18 2 + leAt b 36 4 then s.streamError errFormat typ ssn
      else if s.rd0 Obj.STAGE_SIZE < len then s.streamError errSpace typ ssn
      else spare s
    else match recordLen typ with
      | some n => if len = n then spare s else s.streamError errFormat typ ssn
      | none => s.streamError errFormat typ ssn

/-- Records that the command queue holds (R271): PAGE_START, MEASURE and SPIT_BAND of pages and passes not yet started. -/
def Core.queued (s : Core) : Nat := sumN ((s.pages.filter (fun pg => !pg.started)).map (fun pg => 1 + pg.bands.length + pg.measures.length))

/-- The record at the front has been processed: the next one stands there. -/
def Core.takeRecord (s : Core) (ssn : Nat) : Core :=
  let len := s.frontRec.2.1
  let t := { s with stream := { s.stream with bytes := s.stream.bytes.drop (12 + len), ssn := (ssn + 1) % 2 ^ 32 } }
  (((t.wr0 Obj.LAST_SSN ssn).wr0 Obj.CMD_QUEUE t.queued).putFree).checkFront

/-- Change the pass the last PAGE_START opened, ended or not. -/
def Core.updOpen (s : Core) (f : Page → Page) : Core :=
  match s.stream.last with
  | some (no, ps, _) => { s with pages := s.pages.map (fun pg => if pg.no = no ∧ pg.pass = ps then f pg else pg)
                                 stream := { s.stream with ended := s.stream.ended.map f } }
  | none => s

/-- That pass as the block holds it, or as the stream still knows it once it has ended. -/
def Core.openPage (s : Core) : Option Page :=
  match s.stream.last with
  | some (no, ps, _) => (s.pages.find? (fun pg => decide (pg.no = no ∧ pg.pass = ps))).or s.stream.ended
  | none => none

/-- Change the stream's own record. -/
def Core.updStream (s : Core) (f : Stream → Stream) : Core := { s with stream := f s.stream }

/-- A DATA datagram joins the sequence with every one that follows it without a gap (R260). -/
def joinDgrams : Nat → Nat → List (Nat × List Byte) → List Byte → Nat × List (Nat × List Byte) × List Byte
  | 0, next, got, b => (next, got, b)
  | k + 1, next, got, b =>
    match got.find? (fun e => decide (e.1 = next)) with
    | some e => joinDgrams k ((next + 1) % 2 ^ 32) (got.filter (fun e => decide (e.1 ≠ next))) (b ++ e.2)
    | none => (next, got, b)

/-- A duplicate from SL0 of what SL1 delivered in the same cycle takes its place (R259). -/
def Core.preferSl0 (s : Core) (lane dseq port : Nat) (pay : List Byte) : Core :=
  match s.stream.rival with
  | some (q, at_, back, len) =>
    if lane = 0 ∧ q = dseq ∧ at_ = s.clk then
      let x := s.stream
      let n := x.bytes.length - back
      let x := if x.got.any (fun e => decide (e.1 = dseq)) then { x with got := x.got.map (fun e => if e.1 = dseq then (dseq, pay) else e) }
        else if back ≤ x.bytes.length then { x with bytes := x.bytes.take n ++ pay ++ x.bytes.drop (n + len) } else x
      (({ s with stream := { x with lane := some 0, port := port, rival := none } }).putFree).checkFront
    else s
  | none => s

/-- A DATA datagram: the tests of R259, in order; then it joins. -/
def Core.localDatagram (s : Core) (lane src port : Nat) (b : List Byte) : Core :=
  if !s.streamRuns then s
  else
    let pay := leAt b 6 2
    let dseq := leAt b 12 4
    let next := s.rd0 Obj.NEXT_DSEQ
    let d := fwd32 dseq next
    let ackReq := bit (leAt b 4 2) 0
    if !s.streamUp ∨ src ≠ s.rd0 Obj.STREAM_HOST then s.discardDgram 2
    else if b.length < 20 ∨ leAt b 0 4 ≠ 0x01015346 ∨ 4 ≤ leAt b 4 2 ∨ pay + 20 ≠ b.length ∨ pay = 0 ∨ 8932 < pay then s.discardDgram 3
    else if leAt b (16 + pay) 4 ≠ Crypto.crc32c (b.take (16 + pay)) then s.discardDgram 4
    else if leAt b 8 4 ≠ s.rd0 Obj.STREAM_ID then s.discardDgram 5
    else if 64 < d ∧ d < 2 ^ 31 then (s.discardDgram 7).sendAck
    else if 2 ^ 31 ≤ d ∨ s.stream.got.any (fun e => decide (e.1 = dseq)) then
      ((s.preferSl0 lane dseq port ((b.drop 16).take pay)).discardDgram 6).sendAck
    else if s.stageFree < pay then (s.discardDgram 8).when ackReq Core.sendAck
    else
      let j := joinDgrams 66 next ((dseq, (b.drop 16).take pay) :: s.stream.got) s.stream.bytes
      let t := s.updStream (fun x => { x with
        got := j.2.1, bytes := j.2.2, lane := some lane, port := port
        rival := if lane = 1 then some (dseq, s.clk, j.2.2.length - s.stream.bytes.length, pay) else x.rival })
      let t := ((t.wr0 Obj.NEXT_DSEQ j.1).putFree).checkFront
      t.when ackReq Core.sendAck

/-- The node FWD_TABLE gives a STREAM_ID (R393). -/
def Core.forwardNode (s : Core) (id : Nat) : Option Nat :=
  ((List.range 64).find? (fun j => bit (s.rd Obj.FWD_TABLE 0 j) 63 && decide (s.rd Obj.FWD_TABLE 0 j % 2 ^ 32 = id))).map
    (fun j => field (s.rd Obj.FWD_TABLE 0 j) 43 32)

/-- A datagram at STREAM_PORT of a host port: forwarded to the node of its stream, or handled here (R259, R393). -/
def Core.dataDatagram (s : Core) (lane src port : Nat) (b : List Byte) : Core :=
  let pay := leAt b 6 2
  let sound := decide (20 ≤ b.length ∧ leAt b 0 4 = 0x01015346 ∧ pay + 20 = b.length) && decide (leAt b (16 + pay) 4 = Crypto.crc32c (b.take (16 + pay)))
  match (if s.running ∧ sound then s.forwardNode (leAt b 8 4) else none) with
  | some n => if n = s.rd0 Obj.NODE_ID then s.localDatagram lane src port b else s.when s.originates (fun t => t.ringMessage 0x32 n (carried src port b))
  | none => s.localDatagram lane src port b

/-- ACK_PERIOD has elapsed (R261). -/
def Core.ackPeriod (s : Core) : Core :=
  if s.streamRuns ∧ s.streamUp ∧ s.due .streamAckPeriod 0 then (s.sendAck).arm .streamAckPeriod 0 (us (s.rd0 Obj.ACK_PERIOD)) else s

/-! ### Opening and closing (R257) -/

/-- STREAM_CTRL (R257, R311). -/
def chkStreamCtrl : WrChk := fun s _ _ _ v =>
  if v = 1 then
    stateIf (!s.inModes [.config, .ready, .service] || s.streamUp || decide (s.rd0 Obj.DRAM_SIZE < s.rd0 Obj.STAGE_BASE + s.rd0 Obj.STAGE_SIZE))
  else stateIf s.inPrint

/-- OPEN. DE0.C00 is enabled, its bucket full (R283, log entry 169). -/
def Core.streamOpen (s : Core) : Core :=
  let t := (((s.closeStream.updStream (fun _ => {})).wr0 Obj.STREAM_STATE 1).wr0 Obj.NEXT_DSEQ 0).arm .streamAckPeriod 0 (us (s.rd0 Obj.ACK_PERIOD))
  (t.fixTokens 0 (8 * t.rd Obj.dma_BUCKET 0 0)).showDe0 false

/-- CLOSE. -/
def Core.streamClose (s : Core) : Core := s.closeStream.recomputeLA

/-- STREAM_CTRL: 1 OPEN, 2 CLOSE. -/
def actStreamCtrl : WrAct := fun _ _ _ v s => if v = 1 then s.streamOpen else s.streamClose

/-- STREAM_PORT, STAGE_BASE and STAGE_SIZE are written only while the stream is CLOSED (R274). -/
def chkStage : WrChk := fun s t _ _ _ =>
  worse (stateIf s.streamUp)
    (valueIf (decide (t.rd0 Obj.STREAM_PORT = t.rd0 Obj.FOP_PORT ∨ t.rd0 Obj.STAGE_BASE % 2 ^ 20 ≠ 0 ∨ t.rd0 Obj.STAGE_SIZE % 2 ^ 20 ≠ 0
      ∨ t.rd0 Obj.STAGE_SIZE < 64 * 2 ^ 20 ∨ 16 * 2 ^ 30 < t.rd0 Obj.STAGE_SIZE)))

/-- RESUME_LA stays above COMET_LA (R277). -/
def chkLA : WrChk := fun _ t _ _ _ => valueIf (decide (t.rd0 Obj.RESUME_LA ≤ t.rd0 Obj.COMET_LA))

/-! ### The records -/

/-- A present port whose die has accepted a column since its last bring-up (R270). -/
def Core.hasHistory (s : Core) (p : Nat) : Bool :=
  (s.port p).accTop.isSome && s.rdB Obj.port_PORT_ENABLE p 0 && decide (s.link p ≠ lkOff ∧ s.link p ≠ lkFault ∧ s.link p ≠ lkAborted)

/-- Ports still on their way through the bring-up that a JOB_START waits for. -/
def Core.stillDown (s : Core) : List Nat :=
  (bitsSet 64 s.stream.down).filter (fun p => s.rdB Obj.port_PORT_ENABLE p 0 && decide (s.link p < lkReady ∨ s.link p = lkRetrain))

/-- JOB_START (R270): outside PRINT, the last job settled, its ports taken through bring-up; then the new job begins. -/
def Core.recJobStart (s : Core) : Core :=
  match s.recordReady 0x01 with
  | none => s
  | some (b, ssn) =>
    if leAt b 4 4 ≠ 0 then s.streamError errFormat 0x01 ssn
    else if s.stream.place ≠ 0 then s.streamError errOrder 0x01 ssn
    else if s.inPrint ∨ !s.pages.isEmpty then s
    else
      let hist := allPorts.filter s.hasHistory
      if !hist.isEmpty then
        let t := s.updStream (fun x => { x with down := maskOf hist })
        t.each (hist.filter (fun p => !(t.port p).closing)) (fun t p => t.leavePort p)
      else if !s.stillDown.isEmpty then s
      else
        let t := s.updStream (fun x => { x with place := 1, last := none, direct := false, lastNo := none, idx := [], down := 0, ended := none })
        let t := { t with job := { active := true, settled := false }, hold := none, lanes := t.lanes.map (fun _ => (64, 0, 0)), decided := [], doneTop := none, colTop := 0,
                          measDue := [], comet := { t.comet with any := false } }
        let t := t.mapPorts (fun x => { x with cols := [], floor := 0, runBase := 0, gateNext := 0, histFrom := 0, away := false })
        ((t.wr0 Obj.JOB_ID (leAt b 0 4)).takeRecord ssn).recomputeLA

/-- JOB_END (R265). -/
def Core.recJobEnd (s : Core) : Core :=
  match s.recordReady 0x02 with
  | none => s
  | some (_, ssn) =>
    let ok := decide (s.stream.place = 1) && (match s.stream.last with | some (_, _, fin) => fin | none => false)
    if !ok then s.streamError errOrder 0x02 ssn
    else
      let t := (s.updStream (fun x => { x with place := 0, direct := false }))
      ((({ t with job := { t.job with ended := true } }).takeRecord ssn).recomputeLA).jobEnds

/-- The plane map a PLANE_SETUP body carries (Table 10-3). -/
def setupMap (b : List Byte) : PlaneMap :=
  ⟨leAt b 0 1, leAt b 1 1, (List.range 48).map (fun i => leAt b (4 + i) 1), (List.range 256).map (fun i => leAt b (52 + 8 * i) 8)⟩

/-- Its values would be accepted as writes to the objects they replace (R266). -/
def setupOk (b : List Byte) : Bool :=
  let m := setupMap b
  Obj.INTERLEAVE.inDom m.u && Obj.SUBCOL.inDom m.s && decide (leAt b 2 2 = 0)
    && (List.range 48).all (fun j => decide (nth 0 m.dist j < 2 ^ (j / 16 + 1)) && (decide (j / 4 % 4 ≠ 0) || decide (nth 0 m.dist j = 0)))
    && m.rgMap.all (fun e => Obj.RG_MAP.inDom e && decide (rmRole e ≠ 3))

/-- PLANE_SETUP: staged for the next page; in PRINT the tests run on it (R202). The mask test of Table 8-2 has no page yet to test. -/
def Core.recPlaneSetup (s : Core) : Core :=
  match s.recordReady 0x10 with
  | none => s
  | some (b, ssn) =>
    if !setupOk b then s.streamError errFormat 0x10 ssn
    else if s.stream.place = 0 then s.streamError errOrder 0x10 ssn
    else
      let m := setupMap b
      let t := (({ s with staged := some m }).wr0 Obj.PM_STAGED 1).updStream (fun x => { x with direct := false })
      let t := if t.inPrint then (t.runPlaneTest m 0xFF 0).1 else t
      t.takeRecord ssn

/-- A PAGE_START body is in range (R266, Table 10-4). -/
def pageBodyOk (web : Bool) (b : List Byte) : Bool :=
  let dir := leAt b 5 1
  let x := signedOf 32 (leAt b 12 4)
  decide (leAt b 4 1 ≤ 15) && decide (dir = 1 ∨ dir = 255) && decide (leAt b 6 1 ≤ 7 ∨ leAt b 6 1 = 255) && decide (leAt b 7 1 ≤ 1)
    && (!web || decide (leAt b 7 1 = 1)) && decide (1 ≤ leAt b 8 4 ∧ leAt b 8 4 ≤ 2 ^ 24) && decide (-8388608 ≤ x ∧ x ≤ 8388607) && decide (leAt b 24 8 = 0)

/-- A record cannot enter the command queue: a word of bank SB06, which holds the stream's buffers and the queue, cannot be read (R273, Table 11-2; log entry 174). -/
def Core.queueBad (s : Core) : Bool := s.badIn (bankSpan 6).1 (bankSpan 6).2

/-- PAGE_START (R265, R590): the page or pass is queued with the plane map staged at that moment. -/
def Core.recPageStart (s : Core) : Core :=
  match s.recordReady 0x11 with
  | none => s
  | some (b, ssn) =>
    let no := leAt b 0 4
    let ps := leAt b 4 1
    let fin := decide (leAt b 7 1 = 1)
    let lines := leAt b 8 4
    let placed :=
      if ps = 0 then
        decide (s.stream.place = 1) && (match s.stream.last with | some (_, _, f) => f | none => true)
          && (match s.stream.lastNo with | some k => decide (k < no) | none => true)
      else decide (s.stream.place = 1) && s.stream.direct && decide (s.mode ≠ .printWeb)
          && (match s.stream.last with | some (n, p, f) => decide (n = no ∧ p + 1 = ps) && !f | none => false)
    if !pageBodyOk (decide (s.mode = .printWeb)) b then s.streamError errFormat 0x11 ssn
    else if !placed then s.streamError errOrder 0x11 ssn
    else if 4096 ≤ s.queued then s
    else if s.queueBad then s.streamError errMem 0x11 ssn
    else
      let old := if ps = 0 then [] else s.stream.idx
      let pg : Page := {
        no := no, pass := ps, dir := signedOf 8 (leAt b 5 1), mask := leAt b 6 1, final := fin, lines := lines, xshift := signedOf 32 (leAt b 12 4)
        origin := signedOf 64 (leAt b 16 8), map := s.staged, ssn := ssn
        done := if ps = 0 then [] else (List.range 16).map (fun p => (p, lines)), blocks := old }
      let t := ({ s with pages := s.pages ++ [pg], staged := none }).wr0 Obj.PM_STAGED 0
      let t := t.updStream (fun x => { x with place := 2, last := some (no, ps, fin), direct := false, lastNo := if ps = 0 then some no else x.lastNo, ended := none })
      t.takeRecord ssn

/-- LINE_MARK (R268). -/
def Core.recLineMark (s : Core) : Core :=
  match s.recordReady 0x12 with
  | none => s
  | some (b, ssn) =>
    let planes := bitsSet 16 (leAt b 0 2)
    let d := leAt b 4 4
    let pg := s.openPage
    let bad : Bool := match pg with
      | some pg => decide (pg.lines < d) || planes.any (fun p => decide (d < Tab.get 0 pg.done p))
      | none => false
    if leAt b 2 2 ≠ 0 then s.streamError errFormat 0x12 ssn
    else if !s.withinPage ∨ bad then s.streamError errOrder 0x12 ssn
    else
      let t := s.updOpen (fun pg => { pg with done := planes.foldl (fun m p => Tab.set m p d) pg.done })
      (t.takeRecord ssn).recomputeLA

/-- PAGE_END (R265, R268). -/
def Core.recPageEnd (s : Core) : Core :=
  match s.recordReady 0x13 with
  | none => s
  | some (b, ssn) =>
    let ok := decide (s.stream.place = 2) && (match s.stream.last with | some (n, _, _) => decide (n = leAt b 0 4) | none => false)
    if !ok then s.streamError errOrder 0x13 ssn
    else
      let idx := match s.openPage with
        | some pg => pg.blocks.map (fun x => { x with busy := false, done := false, bad := false, tried := false, freed := false, levels := [] })
        | none => s.stream.idx
      let t := s.updOpen (fun pg => { pg with done := (List.range 16).map (fun p => (p, pg.lines)) })
      let t := t.updStream (fun x => { x with place := 1, direct := true, idx := if s.withinPage then idx else x.idx, ended := none })
      (t.takeRecord ssn).recomputeLA

/-- The bursts of DE0.C00 that its bucket and the fabric's turn let it issue now, at most `k`; the last part says what stopped one: a bus error (1) or an uncorrectable
word that a burst writes only in part (2). -/
def Core.stageBursts (b : List Byte) : Nat → Core → List Host.Cell → Core × List Host.Cell × Nat
  | 0, s, m => (s, m, 0)
  | k + 1, s, m =>
    if s.stream.put = b.length ∨ s.dmaTurn ≠ some 0 then (s, m, 0)
    else
      let n := s.stageBurst b.length
      let a := s.rd0 Obj.STAGE_BASE + s.stageAt
      let f := s.writeFault ownDma a n
      if f ≠ 0 then (s, m, f)
      else
        let l := (b.drop s.stream.put).take n
        let t := ((({ s with dmaTop := 0 }).fixTokens 0 (s.tokensOf 0 - 8 * n)).inc Obj.dma_BYTES 0 0 n).mendWords a n
        Core.stageBursts b k (t.updStream (fun x => { x with put := x.put + n })) (s.storeAt m a l)

/-- The BLOCK is an ORDER error (R265, R267). -/
def Core.blockOrder (s : Core) (b : List Byte) : Bool :=
  !s.withinPage || (match s.openPage with
    | some pg =>
      let lo := if pg.dir = 1 then hFirstCol b else pg.lines - (hFirstCol b + hColCount b)
      decide (pg.lines < hFirstCol b + hColCount b) || (decide (0 < hColCount b) && decide (lo < Tab.get 0 pg.done (hPlane b)))
    | none => false)

/-- The BLOCK is whole in staging: it stands in the staging ring and in the page's index. A page that has ended in its final pass has no use for it. -/
def Core.blockDone (s : Core) (b : List Byte) (ssn : Nat) : Core :=
  let blk : Block := ⟨s.rd0 Obj.STAGE_BASE + s.stream.off, b.length, hPlane b, hFirstCol b, hColCount b, hFirstNoz b, hNozCount b, ssn, false, false, false,
    false, false, []⟩
  let t := ({ s with stage := s.stage ++ [(ssn, b.length, false)] }).updOpen (fun pg => { pg with blocks := pg.blocks ++ [blk] })
  let t := t.updStream (fun x => { x with off := (x.off + b.length) % max 1 (s.rd0 Obj.STAGE_SIZE), put := 0, direct := false })
  let t := (t.showDe0 false).takeRecord ssn
  match s.stream.ended with
  | some pg => if pg.final ∨ s.mode ≠ .printScan then t.releaseBlocks [ssn] else t
  | none => t

/-- BLOCK (R267, R274): written by DE0.C00 into staging, burst by burst as its pacing allows, and then added to the page's index. -/
def Core.recBlock (s : Core) (m : List Host.Cell) (ecc errAddr : Nat) : Core × List Host.Cell :=
  match s.recordReady 0x20 with
  | none => (s, m)
  | some (b, ssn) =>
    if s.blockOrder b then (s.streamError errOrder 0x20 ssn, m)
    else if ecc = 2 then ((s.memError ecc errAddr).streamError errMem 0x20 ssn, m)
    else
      let r := Core.stageBursts b (b.length + 1) (s.memError ecc errAddr) m
      let t := r.1
      if r.2.2 = 1 then (t.blockBus b.length ssn, r.2.1)
      else if r.2.2 = 2 then ((t.memError 2 (t.badAddr (t.rd0 Obj.STAGE_BASE + t.stageAt) (t.stageBurst b.length))).streamError errMem 0x20 ssn, r.2.1)
      else if t.stream.put = b.length then (t.blockDone b ssn, r.2.1)
      else (t.showDe0 true, r.2.1)

/-- Request the ports and sensors of a MEASURE (R271). -/
def Core.measureNow (s : Core) (x : Measure) : Core := (s.measRequest x.ports).jsRequest x.js

/-- MEASURE (R271). -/
def Core.recMeasure (s : Core) : Core :=
  match s.recordReady 0x30 with
  | none => s
  | some (b, ssn) =>
    let x : Measure := ⟨leAt b 0 4, leAt b 4 2, leAt b 8 8⟩
    if leAt b 6 2 ≠ 0 then s.streamError errFormat 0x30 ssn
    else if s.stream.place ≠ 2 then s.streamError errOrder 0x30 ssn
    else
      let go := fun (t : Core) => (t.updStream (fun x => { x with direct := false })).takeRecord ssn
      match s.openPage with
      | none => go s
      | some pg =>
        let passed := decide (x.atCol < pg.cols) && (match s.doneTop with | some d => decide (pg.base + x.atCol ≤ d) | none => false)
        if !pg.started ∧ 4096 ≤ s.queued then s
        else if !pg.started ∧ s.queueBad then s.streamError errMem 0x30 ssn
        else if pg.started ∧ (passed ∨ (s.stream.ended.isSome ∧ pg.cols ≤ x.atCol)) then (go s).measureNow x
        else go (s.updOpen (fun pg => { pg with measures := pg.measures ++ [x] }))

/-- SPIT_BAND (R271, R86). -/
def Core.recSpitBand (s : Core) : Core :=
  match s.recordReady 0x31 with
  | none => s
  | some (b, ssn) =>
    let x : Band := ⟨leAt b 0 1, leAt b 4 4, leAt b 8 4⟩
    let page := (s.openPage.bind (fun pg => s.laidOut.find? (fun q => decide (q.no = pg.no ∧ q.pass = pg.pass)))).or s.stream.ended
    let cols := match page with | some pg => pg.cols | none => 0
    let overlap : Bool := match s.openPage with | some pg => decide (x.first < pg.bandTop) | none => false
    if 15 < x.pattern ∨ leAt b 1 3 ≠ 0 then s.streamError errFormat 0x31 ssn
    else if s.stream.place ≠ 2 ∨ cols < x.first + x.count ∨ overlap then s.streamError errOrder 0x31 ssn
    else
      let go := fun (t : Core) => ((t.updOpen (fun pg => { pg with bandTop := x.first + x.count })).updStream (fun x => { x with direct := false })).takeRecord ssn
      match s.openPage with
      | none => go s
      | some pg =>
        if !pg.started ∧ 4096 ≤ s.queued then s
        else if !pg.started ∧ s.queueBad then s.streamError errMem 0x31 ssn
        else if s.stream.ended.isSome ∨ (pg.started ∧ s.activePorts.any (fun p => decide (pg.base + x.first < s.nextAssembly p))) then
          ((go s).inc0 Obj.LATE_CMDS).occur 1393 0
        else go (s.updOpen (fun pg => { pg with bands := pg.bands ++ [x] }))

/-- MARK (R271). -/
def Core.recMark (s : Core) : Core :=
  match s.recordReady 0x3F with
  | none => s
  | some (b, ssn) =>
    if s.stream.place = 0 then s.streamError errOrder 0x3F ssn
    else ((s.event (some 2) 0x0020 (leAt b 0 4) ssn).settle.updStream (fun x => { x with direct := false })).takeRecord ssn

/-! ### The start of a page or pass (R590) -/

/-- A plane map is written into the objects (R590). -/
def Core.installMap (s : Core) (m : PlaneMap) : Core :=
  if m = s.presentMap then s
  else
    let t := ((s.wr0 Obj.INTERLEAVE m.u).wr0 Obj.SUBCOL m.s).wrRun Obj.DIST 0 0 m.dist
    t.each (List.range 256) (fun t i => t.wr Obj.RG_MAP (i % 4) (i / 4) (m.entry (i / 4) (i % 4)))

/-- Every carry reads 0 (R219). -/
def Core.clearCarries (s : Core) : Core := { s with objs := s.objs.filter (fun e => decide (e.1 / 2 ^ 32 ≠ 0x5200)) }

/-- Change the first page not yet started. -/
def updFirst (f : Page → Page) : List Page → List Page
  | [] => []
  | pg :: t => if pg.started then pg :: updFirst f t else f pg :: t

/-- PLACE_MAX and PLACE_OVER start anew with each page (R58). -/
def Core.clearPlacement (s : Core) : Core := s.each allPorts (fun t p => (t.wr Obj.PLACE_MAX 0 p 0).wr Obj.PLACE_OVER 0 p 0)

/-- PAGE_START: the first page or pass not yet started begins, when it may. -/
def Core.pageStart (s : Core) : Core :=
  match s.laidOut.find? (fun pg => !pg.started) with
  | none => s
  | some pg =>
    if !s.inPrint ∨ pg.failed ∨ 1 < s.startedPages.length then s
    else
      let m := pg.own s
      let (t, ok) := s.runPlaneTest m pg.mask pg.pass
      if !ok then ({ t with pages := updFirst (fun q => { q with failed := true, map := none }) t.pages }).occur 1360 0
      else if !t.windowsFit [(pg, 256)] then
        if pg.noSpace then s else ({ t with pages := updFirst (fun q => { q with noSpace := true }) t.pages }).occur 1428 0
      else
        let q := { pg with started := true, map := some m, window := ((s.startedPages.getLast?.map (fun b => b.window + b.lines)).getD 0) % 256 }
        let t := ({ t with pages := updFirst (fun _ => q) t.pages }).installMap m
        let t := ((t.clearCarries.clearPlacement.wr0 Obj.CMD_QUEUE t.queued).wr0 Obj.OS_RUN 0).showPage
        if s.startedPages.isEmpty then (t.wr0 Obj.LA_MIN 0xFFFFFFFF).recomputeLA else t

/-- MEASURE_AT_COL: MEASUREs whose column has completed on any port, and those of an ended page past its columns (R271). -/
def Core.measureAtCol (s : Core) : Core :=
  let hit (pg : Page) (x : Measure) : Bool :=
    pg.started && decide (x.atCol < pg.cols) && (match s.doneTop with | some d => decide (pg.base + x.atCol ≤ d) | none => false)
  let now := s.measDue ++ s.pages.flatMap (fun pg => pg.measures.filter (hit pg))
  let t := { s with measDue := [], pages := s.pages.map (fun pg => { pg with measures := pg.measures.filter (fun x => !hit pg x) }) }
  now.foldl (fun t x => t.measureNow x) t

/-! ### The commands -/

/-- DATA_DATAGRAM (R259). -/
def execDataDatagram (dt lane src port : Nat) (bytes : List Byte) (s : State) : Host.Outcome State Fault Refusal :=
  onCore (fun c => (c.advance dt).dataDatagram lane src port bytes) s

/-- ACK_PERIOD_EXPIRY (R261). -/
def execAckPeriodExpiry (dt : Nat) (s : State) : Host.Outcome State Fault Refusal := onCore (fun c => (c.advance dt).ackPeriod) s

/-- RECORD_JOB_START (R270). -/
def execRecordJobStart (dt : Nat) (s : State) : Host.Outcome State Fault Refusal := onCore (fun c => (c.advance dt).recJobStart) s

/-- RECORD_JOB_END (R265). -/
def execRecordJobEnd (dt : Nat) (s : State) : Host.Outcome State Fault Refusal := onCore (fun c => (c.advance dt).recJobEnd) s

/-- RECORD_PLANE_SETUP (R202). -/
def execRecordPlaneSetup (dt : Nat) (s : State) : Host.Outcome State Fault Refusal := onCore (fun c => (c.advance dt).recPlaneSetup) s

/-- RECORD_PAGE_START (R590). -/
def execRecordPageStart (dt : Nat) (s : State) : Host.Outcome State Fault Refusal := onCore (fun c => (c.advance dt).recPageStart) s

/-- RECORD_LINE_MARK (R268). -/
def execRecordLineMark (dt : Nat) (s : State) : Host.Outcome State Fault Refusal := onCore (fun c => (c.advance dt).recLineMark) s

/-- RECORD_PAGE_END (R268). -/
def execRecordPageEnd (dt : Nat) (s : State) : Host.Outcome State Fault Refusal := onCore (fun c => (c.advance dt).recPageEnd) s

/-- RECORD_BLOCK (R274). -/
def execRecordBlock (dt ecc errAddr : Nat) (s : State) : Host.Outcome State Fault Refusal :=
  onBoth (fun c m => (c.advance dt).recBlock m ecc errAddr) s

/-- RECORD_MEASURE (R271). -/
def execRecordMeasure (dt : Nat) (s : State) : Host.Outcome State Fault Refusal := onCore (fun c => (c.advance dt).recMeasure) s

/-- RECORD_SPIT_BAND (R271). -/
def execRecordSpitBand (dt : Nat) (s : State) : Host.Outcome State Fault Refusal := onCore (fun c => (c.advance dt).recSpitBand) s

/-- RECORD_MARK (R271). -/
def execRecordMark (dt : Nat) (s : State) : Host.Outcome State Fault Refusal := onCore (fun c => (c.advance dt).recMark) s

/-- PAGE_START (R590). -/
def execPageStart (dt : Nat) (s : State) : Host.Outcome State Fault Refusal := onCore (fun c => (c.advance dt).pageStart) s

/-- MEASURE_AT_COL (R271). -/
def execMeasureAtCol (dt : Nat) (s : State) : Host.Outcome State Fault Refusal := onCore (fun c => (c.advance dt).measureAtCol) s

end Sys2Proof.Machine
end

