-- ==== Sys2Proof/Machine/HostPort.lean ====
section
/-! DEFINITION. The host ports SL0 and SL1 (R255, R256, R423): their addresses, ARP, neighbour solicitations and echo requests, what is discarded, block lock. -/

namespace Sys2Proof.Machine

open Sys2Proof

/-! ### Addresses (R423, Table 16-8) -/

/-- The value in force of a host-port record member: a write takes effect at the next reset. -/
def Core.netVal (s : Core) (o : Ob) (p : Nat) : Nat := Tab.get (s.rd o p 0) s.netUsed (o.key p 0)

/-- A host-port member is written: the value in force stays until the next reset, and NET_PENDING reads 1. -/
def actNet (o : Ob) : WrAct := fun b p j _ s =>
  let t := if (Tab.get? s.netUsed (o.key p j)).isSome then s else { s with netUsed := Tab.set s.netUsed (o.key p j) (b.rd o p j) }
  t.wr Obj.hp_NET_PENDING p 0 1

/-- FOP_PORT is written: both ports wait for the next reset. -/
def actFopPort : WrAct := fun b i j v s => (actNet Obj.FOP_PORT b i j v s).wr Obj.hp_NET_PENDING 1 0 1

/-- A group address is no MAC address of a port. -/
def chkMac : WrChk := fun _ _ _ _ v => valueIf (v % 2 = 1)

/-- FOP_PORT and STREAM_PORT differ. -/
def chkPorts : WrChk := fun _ w _ _ _ => valueIf (w.rd0 Obj.FOP_PORT = w.rd0 Obj.STREAM_PORT)

/-- The bytes of a port's MAC address. -/
def Core.macOf (s : Core) (p : Nat) : List Byte := leBytes 6 (s.netVal Obj.hp_MAC_ADDR p)

/-- The link-local address of a port: modified EUI-64 of its MAC address. -/
def Core.linkLocalOf (s : Core) (p : Nat) : List Byte :=
  let m := s.macOf p
  [0xFE, 0x80, 0, 0, 0, 0, 0, 0] ++ [((nth 0 m 0) ^^^ 2), nth 0 m 1, nth 0 m 2, 0xFF, 0xFE, nth 0 m 3, nth 0 m 4, nth 0 m 5]

/-- An IPv4 address is the port's own. -/
def Core.ownV4 (s : Core) (p : Nat) (a : List Byte) : Bool := decide (s.netVal Obj.hp_IPV4_ADDR p ≠ 0) && decide (a = leBytes 4 (s.netVal Obj.hp_IPV4_ADDR p))

/-- An IPv6 address is the port's own: global or link-local. -/
def Core.ownV6 (s : Core) (p : Nat) (a : List Byte) : Bool :=
  decide (a = s.linkLocalOf p) || (decide (s.netVal Obj.hp_IPV6_ADDR p ≠ 0) && decide (a = leBytes 16 (s.netVal Obj.hp_IPV6_ADDR p)))

/-! ### Checksums -/

/-- The ones'-complement sum of 16-bit big-endian words. -/
def wordSum : List Byte → Nat
  | [] => 0
  | [a] => 256 * a.toNat
  | a :: b :: t => 256 * a.toNat + b.toNat + wordSum t

/-- Fold a sum into 16 bits. -/
def foldSum (n : Nat) : Nat := let a := n / 65536 + n % 65536; a / 65536 + a % 65536

/-- The internet checksum of bytes, to be stored. -/
def inetSum (b : List Byte) : Nat := 65535 - foldSum (wordSum b)

/-! ### Frames (R256) -/

/-- A frame that is neither answered nor known is counted. -/
def Core.otherFrame (s : Core) : Core := s.inc Obj.DGRAM_DISCARDS 0 0 1

/-- An answer: Ethernet type, destination MAC and addresses as numbers, and the bytes above them. -/
def Core.hostAnswer (s : Core) (lane typ : Nat) (dstMac src dst b : List Byte) : Core :=
  s.emit .hostFrame lane [(typ : Int), (ofLe dstMac : Int), (ofLe src : Int), (ofLe dst : Int)] b

/-- ARP: a request for the port's own IPv4 address is answered. -/
def Core.arpIn (s : Core) (lane : Nat) (b : List Byte) : Core :=
  let sha := (b.drop 8).take 6
  let spa := (b.drop 14).take 4
  let tpa := (b.drop 24).take 4
  if 28 ≤ b.length ∧ b.take 8 = [0, 1, 8, 0, 6, 4, 0, 1] ∧ s.ownV4 lane tpa then
    s.hostAnswer lane 0x0806 sha tpa spa ([0, 1, 8, 0, 6, 4, 0, 2] ++ s.macOf lane ++ tpa ++ sha ++ spa)
  else s.otherFrame

/-- An echo request's reply: the same message with another type. -/
def echoReply (typ : Nat) (pseudo m : List Byte) : List Byte :=
  let z := leBytes 1 typ ++ [0] ++ [0, 0] ++ m.drop 4
  leBytes 1 typ ++ [0] ++ beBytes 2 (inetSum (pseudo ++ z)) ++ m.drop 4

/-- The IPv6 pseudo-header of an ICMPv6 message. -/
def pseudo6 (src dst : List Byte) (n : Nat) : List Byte := src ++ dst ++ beBytes 4 n ++ [0, 0, 0, 58]

/-- A UDP datagram for the port (R256): to STREAM_PORT it goes to the stream receiver; those to the FOP port and PTP's ports come to their units by commands of
their own; every other is counted. `src` is its source address as an IPv6 address or an IPv4-mapped one. -/
def Core.udpIn (s : Core) (lane : Nat) (own : Bool) (src m : List Byte) : Core :=
  let dst := ofBe ((m.drop 2).take 2)
  if own ∧ dst = s.netVal Obj.STREAM_PORT 0 then s.dataDatagram lane (ofLe src) (ofBe (m.take 2)) ((m.drop 8).take (ofBe ((m.drop 4).take 2) - 8))
  else if (own ∧ dst = s.netVal Obj.FOP_PORT 0) ∨ dst = 319 ∨ dst = 320 then s
  else s.otherFrame

/-- An IPv4 packet: echo requests to the port's own address are answered; fragments, and headers or UDP checksums that fail, are discarded. -/
def Core.ipv4In (s : Core) (lane : Nat) (mac b : List Byte) : Core :=
  let h := 4 * ((nth 0 b 0).toNat % 16)
  let src := (b.drop 12).take 4
  let dst := (b.drop 16).take 4
  let m := (b.drop h).take (ofBe ((b.drop 2).take 2) - h)
  let frag := ofBe ((b.drop 6).take 2) % 16384 ≠ 0
  let udp := [0, 17] ++ beBytes 2 m.length ++ src ++ dst
  if b.length < 20 ∨ (nth 0 b 0).toNat / 16 ≠ 4 ∨ h < 20 ∨ foldSum (wordSum (b.take h)) ≠ 65535 then s.otherFrame
  else if frag then s
  else if nth 0 b 9 = 1 ∧ nth 0 m 0 = 8 ∧ s.ownV4 lane dst ∧ foldSum (wordSum m) = 65535 then s.hostAnswer lane 0x0800 mac dst src (echoReply 0 [] m)
  else if nth 0 b 9 = 17 ∧ (m.drop 6).take 2 ≠ [0, 0] ∧ foldSum (wordSum (udp ++ m)) ≠ 65535 then s
  else if nth 0 b 9 = 17 ∧ 8 ≤ m.length then s.udpIn lane (s.ownV4 lane dst) ([0, 0, 0, 0, 0, 0, 0, 0, 0, 0, 0xFF, 0xFF] ++ src) m
  else s.otherFrame

/-- An IPv6 packet: echo requests and neighbour solicitations for the port's own addresses are answered; fragments are discarded. -/
def Core.ipv6In (s : Core) (lane : Nat) (mac b : List Byte) : Core :=
  let src := (b.drop 8).take 16
  let dst := (b.drop 24).take 16
  let m := (b.drop 40).take (ofBe ((b.drop 4).take 2))
  let target := (m.drop 8).take 16
  let next := (nth 0 b 6).toNat
  if b.length < 40 ∨ (nth 0 b 0).toNat / 16 ≠ 6 then s.otherFrame
  else if next = 44 then s
  else if next = 58 ∧ foldSum (wordSum (pseudo6 src dst m.length ++ m)) = 65535 ∧ nth 0 m 0 = 128 ∧ s.ownV6 lane dst then
    s.hostAnswer lane 0x86DD mac dst src (echoReply 129 (pseudo6 dst src m.length) m)
  else if next = 58 ∧ foldSum (wordSum (pseudo6 src dst m.length ++ m)) = 65535 ∧ nth 0 m 0 = 135 ∧ s.ownV6 lane target then
    let adv (sum : Nat) := [136, 0] ++ beBytes 2 sum ++ [0x60, 0, 0, 0] ++ target ++ [2, 1] ++ s.macOf lane
    s.hostAnswer lane 0x86DD mac target src (adv (inetSum (pseudo6 target src 32 ++ adv 0)))
  else if next = 17 ∧ 8 ≤ m.length then
    if (m.drop 6).take 2 = [0, 0] ∨ foldSum (wordSum (src ++ dst ++ beBytes 4 m.length ++ [0, 0, 0, 17] ++ m)) ≠ 65535 then s
    else s.udpIn lane (s.ownV6 lane dst) src m
  else s.otherFrame

/-- HOST_PORT_FRAME. One IEEE 802.1Q tag is ignored; frames with more, MAC control frames and frames over 9,018 bytes are discarded. -/
def Core.hostFrame (s : Core) (lane : Nat) (b : List Byte) : Core :=
  let mac := (b.drop 6).take 6
  let tagged := decide (ofBe ((b.drop 12).take 2) = 0x8100)
  let o := if tagged then 16 else 12
  let typ := ofBe ((b.drop o).take 2)
  let p := b.drop (o + 2)
  if !s.running ∨ !s.configReached ∨ 2 ≤ lane then s
  else if 9018 < b.length + 4 ∨ typ = 0x8808 ∨ (tagged ∧ typ = 0x8100) then s
  else if typ = 0x0806 then s.arpIn lane p
  else if typ = 0x0800 then s.ipv4In lane mac p
  else if typ = 0x86DD then s.ipv6In lane mac p
  else s.otherFrame

/-- HOST_PORT_FRAME (R256). -/
def execHostPortFrame (dt lane : Nat) (bytes : List Byte) (s : State) : Host.Outcome State Fault Refusal :=
  onCore (fun c => (c.advance dt).hostFrame lane bytes) s

/-- PORT_LINK follows block lock from CONFIG on, while the lane's island runs (R452, R532). -/
def Core.hostLink (s : Core) (lane : Nat) (up : Bool) : Core :=
  if s.running ∧ s.configReached ∧ lane < 2 ∧ s.rd Obj.ISLAND_STATE 0 (64 + lane) = 2 then s.wr Obj.hp_PORT_LINK lane 0 (b2n up) else s

/-- HOST_PORT_BLOCK_LOCK (R255). -/
def execHostPortBlockLock (dt lane : Nat) (s : State) : Host.Outcome State Fault Refusal := onCore (fun c => (c.advance dt).hostLink lane true) s

/-- HOST_PORT_LOCK_LOST (R255). -/
def execHostPortLockLost (dt lane : Nat) (s : State) : Host.Outcome State Fault Refusal := onCore (fun c => (c.advance dt).hostLink lane false) s

end Sys2Proof.Machine
end

