-- ==== Sys2Proof/Machine/Ring.lean ====
section
/-! DEFINITION. The Klolar ring (ch. 14): ports and HELLO, joining and TOPO, delays and calibration, Fenax Time, Tacks, fault blocks, sweeps, folds; PTP. -/

namespace Sys2Proof.Machine

open Sys2Proof

/-! ### Small things -/

/-- Change the ring's own state. -/
def Core.updRing (s : Core) (f : Ring → Ring) : Core := { s with ring := f s.ring }

/-- This controller is the ring's master (R376, R378). -/
def Core.isMaster (s : Core) : Bool := decide (s.rd0 Obj.RING_ROLE = 1) && !s.rejected

/-- A ring port is enabled. -/
def Core.ringEn (s : Core) (k : Nat) : Bool := decide (k < 2) && bit (s.rd0 Obj.RING_EN) k

/-- LINK_STATE of a ring port. -/
def Core.rpState (s : Core) (k : Nat) : Nat := s.rd Obj.rp_LINK_STATE k 0

/-- A link-local frame to the neighbour (R371). -/
def Core.linkLocal (s : Core) (k typ : Nat) (payload : List Byte) : Core :=
  let q := s.nextRingSeq typ
  ({ s with ringTx := Tab.set s.ringTx typ q }).ringSend k (if typ = 1 then .hello else if typ = 2 then .delayReq else .delayRsp)
    (ringFrame typ 2 0 (s.rd0 Obj.NODE_ID) 0 q 0 payload)

/-- The neighbour's node ID with bit 15 where the port is not UP. -/
def Core.nbField (s : Core) (k : Nat) : Nat := if s.rpState k = 3 then s.rd Obj.rp_NEIGHBOUR k 0 % 4096 else s.rd Obj.rp_NEIGHBOUR k 0 % 4096 + 32768

/-- The direction of the master: the port its SYNC comes by over fewer links. -/
def Core.masterPort (s : Core) : Nat :=
  let h := s.rd0 Obj.HOPS_TO_MASTER
  if h % 65536 ≤ h / 65536 then 0 else 1

/-- A JOIN (R378). -/
def Core.sendJoin (s : Core) : Core :=
  if s.mode = .safe ∨ !s.running ∨ s.isMaster ∨ s.rd0 Obj.MASTER_ID = 0 ∨ !s.upPorts.contains s.masterPort then s
  else
    let q := s.nextRingSeq 0x20
    let pay := leBytes 8 (Config.serial % 2 ^ 64) ++ leBytes 2 (s.nbField 0) ++ leBytes 2 (s.nbField 1)
      ++ leBytes 1 (b2n s.inPrint + 2 * b2n (decide (s.rd0 Obj.PACE_SRC = 10))) ++ leBytes 3 0 ++ leBytes 8 s.ftNs
    (({ s with ringTx := Tab.set s.ringTx 0x20 q }).updRing (fun r => { r with joinAt := some s.clk })).ringStore s.masterPort
      (ringFrame 0x20 2 (s.rd0 Obj.MASTER_ID) (s.rd0 Obj.NODE_ID) 0 q 0 pay)

/-! ### Calibration and sweeps sent by the master -/

/-- The CAL payload (Table 14-15). -/
def calPayload (sub st nb id delay : Nat) : List Byte := leBytes 1 sub ++ leBytes 1 st ++ leBytes 2 nb ++ leBytes 4 id ++ leBytes 4 delay ++ leBytes 4 0

/-- Begin to measure the KE link (R380, R381). -/
def Core.startMeasure (s : Core) (id : Nat) : Core :=
  if s.rpState 0 = 3 then s.updRing (fun r => { r with calOf := id, reqNext := 0, reqAt := s.clk, t1 := [], delays := [], out := false }) else s

/-- Nodes whose east link is not broken, in TOPOLOGY order. -/
def Core.linkNodes (s : Core) : List Nat := (s.topo.filter (fun e => !bit e 13)).map topoNode

/-- CAL_STATE follows the reports still missing; a link cut off during the sweep leaves it INCOMPLETE (R381, R397). -/
def Core.calLook (s : Core) : Core :=
  if s.rd0 Obj.CAL_STATE = 1 ∧ s.ring.calLeft = [] then
    ((s.wr0 Obj.CAL_STATE (if s.ring.calLost then 3 else 2)).disarm .calReport 0).endComp Obj.CAL_REQ 0 0 (!s.ring.calLost)
  else s

/-- Send the CAL command for the links not yet reported, and measure the master's own. -/
def Core.calSend (s : Core) : Core :=
  let t := (s.ringBoth 0x22 4095 (calPayload 1 0 0 s.ring.calId 0)).arm .calReport 0 (ms 1)
  let t := if t.ring.calLeft.contains (t.rd0 Obj.NODE_ID) then t.startMeasure t.ring.calId else t
  (t.wr0 Obj.CAL_STATE 1).calLook

/-- A new calibration sweep (R381). -/
def Core.calStart (s : Core) : Core := (s.updRing (fun r => { r with calId := nextSeq32 r.calId, calLeft := s.linkNodes, calLost := false })).calSend

/-! ### TOPO (R378) -/

/-- A neighbour's node on the ring, as the master knows it: its own port's, or the node's JOIN. -/
def Core.nbOf (s : Core) (node side : Nat) : Option (Option Nat) :=
  if node = s.rd0 Obj.NODE_ID then some (if s.rpState side = 3 then some (s.rd Obj.rp_NEIGHBOUR side 0) else none)
  else (s.ring.joins.find? (fun j => decide (j.node = node))).map (fun j => if side = 0 then j.ke else j.kw)

/-- Follow neighbour IDs from a node on one side: the nodes met, and how it ended (0 at a port that is not UP, 1 back at the master, 2 at a node not
heard of). -/
def Core.walk (s : Core) (side : Nat) : Nat → Nat → List Nat → List Nat × Nat
  | 0, _, acc => (acc, 2)
  | f + 1, node, acc =>
    match s.nbOf node side with
    | none => (acc, 2)
    | some none => (acc, 0)
    | some (some n) =>
      if n = s.rd0 Obj.NODE_ID then (acc, 1)
      else if acc.contains n ∨ (s.nbOf n side).isNone then (acc, 2)
      else Core.walk s side f n (acc ++ [n])

/-- The nodes east of the master, and whether the order is a ring (R378). None where the formation is not yet whole. -/
def Core.ringOrder (s : Core) : Option (List Nat × Option Nat) :=
  let e := s.walk 0 4094 (s.rd0 Obj.NODE_ID) []
  if e.2 = 1 then some (s.rd0 Obj.NODE_ID :: e.1, none)
  else if e.2 = 0 then
    let w := s.walk 1 4094 (s.rd0 Obj.NODE_ID) []
    if w.2 = 0 then some (s.rd0 Obj.NODE_ID :: (e.1 ++ w.1.reverse), some e.1.length) else none
  else none

/-- Node IDs that two JOINs with different serials carry, the master's own among them (R378). -/
def Core.dupNodes (s : Core) : List Nat :=
  (s.ring.joins.filter (fun x => decide (x.node ≠ 0) && (s.ring.joins.any (fun y => decide (y.node = x.node ∧ y.serial ≠ x.serial))
    || decide (x.node = s.rd0 Obj.NODE_ID ∧ x.serial ≠ Config.serial % 2 ^ 64)))).map (fun x => x.node)

/-- TOPO entries of the order. -/
def Core.topoEntries (s : Core) (l : List Nat) (broken : Option Nat) : List Nat :=
  (l.zip (List.range l.length)).map (fun (e : Nat × Nat) =>
    let inP := if e.1 = s.rd0 Obj.NODE_ID then s.inPrint else (s.ring.joins.find? (fun j => decide (j.node = e.1))).any (fun j => bit j.flags 0)
    e.1 + 4096 * b2n (s.dupNodes.contains e.1) + 8192 * b2n (decide (broken = some e.2)) + 16384 * b2n inP)

/-- The links of a list of entries, as pairs of nodes, unbroken ones only. -/
def linkPairs (l : List Nat) : List (Nat × Nat) :=
  ((l.zip (l.drop 1 ++ l.take 1)).filter (fun (e : Nat × Nat) => !bit e.1 13 && decide (1 < l.length))).map (fun e => (topoNode e.1, topoNode e.2))

/-- Broadcast the whole TOPO in segments of up to 248 entries. -/
def Core.sendTopo (s : Core) : Core :=
  let l := s.topo
  (s.updRing (fun r => { r with topoAt := some s.clk })).each (List.range (max 1 (ceilDiv l.length 248))) (fun t i =>
    t.ringBoth 0x21 4095 (leBytes 4 (t.rd0 Obj.TOPO_EPOCH) ++ leBytes 2 l.length ++ leBytes 2 (248 * i) ++ ((l.drop (248 * i)).take 248).flatMap (leBytes 2)))

/-- LINK_DELAY of the east link of a place, as its neighbour reports it in TOPO order; 0 where it is not known. -/
def Core.linkDelayOf (s : Core) (node : Nat) : Nat := if node = s.rd0 Obj.NODE_ID then s.rd Obj.rp_LINK_DELAY 0 0 else Tab.get 0 s.ring.links node

/-- AGE_BOUND, worked out at every TOPO (R388): the longer arm that any single break leaves. KL_HOP_BUDGET is raised for a new TOPO whose bound exceeds
TACK_AGE_MAX, and at a repetition where the bound has come to exceed it. -/
def Core.ageBound (s : Core) (new : Bool) : Core :=
  let l := s.topo
  let cost (es : List Nat) : Nat := sumN (es.map (fun e => 300 * 256 + s.linkDelayOf (topoNode e)))
  let arms := match (l.zip (List.range l.length)).find? (fun (e : Nat × Nat) => bit e.1 13) with
    | some (_, b) => max (cost (l.take b)) (cost (l.drop (b + 1)))
    | none => max (cost (l.take (l.length - 1))) (cost (l.drop 1))
  let a := s.rd0 Obj.RING_TACK_PERIOD + 1000 + roundDivNat arms 256
  let t := s.wr0 Obj.AGE_BOUND a
  if a > t.rd0 Obj.TACK_AGE_MAX ∧ (new ∨ s.rd0 Obj.AGE_BOUND ≤ t.rd0 Obj.TACK_AGE_MAX) then t.occur 1545 0 else t

/-- A half of HOPS_TO_MASTER whose arc crosses a broken link reads 0xFFFF (R378, R396). -/
def Core.hopsLook (s : Core) : Core :=
  match s.placeOf (s.rd0 Obj.NODE_ID) with
  | none => s
  | some i =>
    let l := s.topo
    let h := s.rd0 Obj.HOPS_TO_MASTER
    s.wr0 Obj.HOPS_TO_MASTER ((if arcWhole l i (eastDist l.length i 0) then h % 65536 else 65535)
      + 65536 * (if arcWhole l 0 i then h / 65536 else 65535))

/-- Write TOPOLOGY, and carry what is kept by place over to the new places. -/
def Core.putTopo (s : Core) (l : List Nat) : Core :=
  let old := s.topo
  let stat (e : Nat) : Nat := match s.placeOf (topoNode e) with | some j => s.rd Obj.RING_SWEEP_STATUS 0 j | none => 0
  let pad := List.replicate (old.length - l.length) 0
  let t := ((s.wrRun Obj.TOPOLOGY 0 0 (l ++ pad)).wrRun Obj.RING_SWEEP_STATUS 0 0 (l.map stat ++ pad)).wr0 Obj.TOPO_COUNT l.length
  let t := if t.enlisted.all (fun n => (l.map topoNode).contains n) then t else t.setParts (t.enlisted.filter (fun n => (l.map topoNode).contains n))
  (t.wr0 Obj.RING_STATE (if t.upPorts = [] then 0 else if l.any (fun e => bit e 13) then 3 else 2)).hopsLook

/-- The master works out the order anew: a change raises TOPO_EPOCH and is broadcast; a formation, or a link added, is calibrated; a controller that has
left is KL_SPLIT (R378, R381, R398). -/
def Core.formTopo (s : Core) : Core :=
  if !s.isMaster then s
  else match s.ringOrder with
  | none => if s.rd0 Obj.RING_STATE = 0 ∧ s.upPorts ≠ [] then s.wr0 Obj.RING_STATE 1 else s
  | some (l, b) =>
    let new := s.topoEntries l b
    let old := s.topo
    if new = old then s
    else
      let gone := old.filter (fun e => !(l.contains (topoNode e)))
      let t := (s.wr0 Obj.TOPO_EPOCH (s.rd0 Obj.TOPO_EPOCH + 1)).putTopo new
      let t := ((t.wr0 Obj.MASTER_ID (t.rd0 Obj.NODE_ID)).sendTopo).ageBound true
      let t := gone.foldl (fun t _ => t.occur 1539 0) t
      let added := (linkPairs new).any (fun p => !(linkPairs old).contains p)
      if added then t.calStart else t

/-! ### Breaks (R396 to R398) -/

/-- The link east of a node is in TOPO, and not marked broken. -/
def Core.linkWhole (s : Core) (node : Nat) : Bool := match s.placeOf node with | some j => !bit (s.rd Obj.TOPOLOGY 0 j) 13 | none => false

/-- Mark the link east of a node broken, and route as a chain; a master with no port UP is alone. -/
def Core.markBroken (s : Core) (node : Nat) : Core :=
  match s.placeOf node with
  | none => s
  | some j => ((s.wr Obj.TOPOLOGY 0 j (putBit (s.rd Obj.TOPOLOGY 0 j) 13 true)).wr0 Obj.RING_STATE (if s.upPorts = [] ∧ s.isMaster then 0 else 3)).hopsLook

/-- What the master knows of a broken link: the port of `node` on `side` is not UP, nor the port of `peer` at its other end. -/
def Core.joinsBroken (s : Core) (node side peer : Nat) : Core :=
  let down (j : JoinRec) (k : Nat) : JoinRec := if k = 0 then { j with ke := none } else { j with kw := none }
  s.updRing (fun r => { r with joins := r.joins.map (fun j => if j.node = node then down j side else if j.node = peer then down j (1 - side) else j) })

/-- Frames that waited for a port gone DOWN wait at the other one where their destination lies on that arm; the others are lost, and counted (R396). -/
def Core.requeue (s : Core) (k : Nat) : Core :=
  let l := s.ring.queue.filter (fun x => decide (x.port = k))
  let t := s.updRing (fun r => { r with queue := r.queue.filter (fun x => decide (x.port ≠ k)), freeAt := Tab.erase r.freeAt k })
  l.foldl (fun t x => if t.routeTo (frDst x.bytes) = some (1 - k) ∧ t.upPorts.contains (1 - k) then t.ringForward (1 - k) x.bytes else t.dropFrame k) t

/-- A controller other than the master that no longer reaches the master (R398). -/
def Core.splitCheck (s : Core) : Core :=
  if s.isMaster ∨ s.rd0 Obj.RING_STATE ≠ 3 then s
  else
    let l := s.topo
    match s.placeOf (s.rd0 Obj.NODE_ID) with
    | none => s
    | some i => if arcWhole l i (eastDist l.length i 0) ∨ arcWhole l 0 i then s else (s.wr0 Obj.RING_STATE 4).occur 1539 0

/-- What the master does about a break (R396, R397): KL_FOLD, a new TOPO, and the commands of sweeps sent again to the segments still reached; nothing more
for a break it has already marked. -/
def Core.foldMaster (s : Core) (new : Bool) : Core :=
  if !s.isMaster then s
  else if !new then s.formTopo
  else
    let cal := decide (s.rd0 Obj.CAL_STATE = 1)
    let sent := s.topo.filter (fun e => match s.placeOf (topoNode e) with | some j => decide (s.rd Obj.RING_SWEEP_STATUS 0 j = 1) | none => false)
    let t := (s.occur 1538 0).formTopo
    let still := s.ring.calLeft.filter (fun n => t.linkNodes.contains n)
    let t := if !cal then t
      else
        let cut := decide (still.length < s.ring.calLeft.length)
        let u := t.updRing (fun r => { r with calLeft := still, calLost := r.calLost || cut })
        let u := if cut then u.occur 1547 0 else u
        if still = [] then u.calLook else u.calSend
    if sent.isEmpty then t
    else
      let here := sent.filter (fun e => (t.topo.map topoNode).contains (topoNode e))
      let u := if here.length < sent.length then t.occur 1547 0 else t
      if here.isEmpty then u else u.ringBoth 0x23 4095 (sweepPayload 1 0 (u.rd0 Obj.RING_SWEEP_ID) u.ring.sweepMask)

/-- A ring port goes DOWN (Table 14-3), and through LOCKING again while it is enabled outside OFF, RETAIN and SAFE. From UP it is counted, KL_LINK, and a
FOLD leaves by the other port. -/
def Core.ringDown (s : Core) (k : Nat) : Core :=
  let up := decide (s.rpState k = 3)
  let next := if s.ringEn k ∧ s.running ∧ s.mode ≠ .safe then 1 else 0
  let peer := s.rd Obj.rp_NEIGHBOUR k 0
  let t := (s.wr Obj.rp_LINK_STATE k 0 next).disarm .helloWait k
  let t := t.updRing (fun r => { r with run := Tab.erase r.run k, heard := Tab.erase r.heard k, reqNext := if k = 0 then 16 else r.reqNext })
  let h := t.rd0 Obj.HOPS_TO_MASTER
  let t := t.wr0 Obj.HOPS_TO_MASTER (if k = 0 then h / 65536 * 65536 + 65535 else h % 65536 + 65535 * 65536)
  if !up then t
  else
    let t := (t.inc Obj.rp_DOWNS k 0 1).occur (1536 + k) 0
    let t := t.ringBoth 0x13 4095 (leBytes 2 peer ++ leBytes 1 k ++ leBytes 1 0 ++ leBytes 4 (t.rd0 Obj.TOPO_EPOCH))
    let east := if k = 0 then t.rd0 Obj.NODE_ID else peer
    let new := t.linkWhole east
    let t := (t.markBroken east).joinsBroken peer (1 - k) 0
    let t := if t.upPorts = [] ∧ (t.placeOf (t.rd0 Obj.NODE_ID)).isNone then ((t.wr0 Obj.MASTER_ID 0).disarm .noMaster 0).wr0 Obj.RING_STATE 0 else t
    ((t.requeue k).splitCheck).foldMaster new

/-- A port is UP (Table 14-3). -/
def Core.ringUp (s : Core) (k : Nat) : Core :=
  let t := s.wr Obj.rp_LINK_STATE k 0 3
  let t := if t.rd0 Obj.RING_STATE = 0 then t.wr0 Obj.RING_STATE 1 else t
  if t.isMaster then t.formTopo
  else
    let t := if t.rd0 Obj.MASTER_ID = 0 then t.arm .noMaster 0 (ms 100) else t
    t.sendJoin

/-! ### HELLO (R377) -/

/-- A HELLO payload (Table 14-13). KE_DELAY is the measured value, in use or held pending. -/
def Core.helloPayload (s : Core) (k : Nat) : List Byte :=
  leBytes 2 (s.rd0 Obj.NODE_ID) ++ leBytes 1 k ++ leBytes 1 (s.rd0 Obj.RING_ROLE) ++ leBytes 8 (Config.serial % 2 ^ 64)
    ++ leBytes 4 (s.rd0 Obj.TOPO_EPOCH)
    ++ leBytes 4 (if s.rd Obj.rp_LINK_DELAY_PENDING k 0 ≠ 0 then s.rd Obj.rp_LINK_DELAY_PENDING k 0 else s.rd Obj.rp_LINK_DELAY k 0) ++ leBytes 4 0

/-- HELLO_SEND_TIMER: every 2 µs on each enabled port that is not DOWN. -/
def Core.helloSend (s : Core) (k : Nat) : Core :=
  let due : Bool := match Tab.get? s.ring.helloAt k with | some c => decide (c + us 2 ≤ s.clk) | none => true
  if s.running ∧ s.ringEn k ∧ 1 ≤ s.rpState k ∧ due then
    (s.updRing (fun r => { r with helloAt := Tab.set r.helloAt k s.clk })).linkLocal k 1 (s.helloPayload k)
  else s

/-- A measured delay of a port's link (R381): applied, or held pending once. -/
def Core.applyDelay (s : Core) (k d : Nat) : Core :=
  let old := s.rd Obj.rp_LINK_DELAY k 0
  if s.inPrint ∧ ((d : Int) - old).natAbs > 256 then
    (if s.rd Obj.rp_LINK_DELAY_PENDING k 0 = d then s else (s.wr Obj.rp_LINK_DELAY_PENDING k 0 d).occur 1542 0)
  else (s.wr Obj.rp_LINK_DELAY k 0 d).wr Obj.rp_LINK_DELAY_PENDING k 0 0

/-- The bits of a HELLO that make it valid. -/
def helloOk (b : List Byte) : Bool :=
  let p := frPayload b
  frOk b && decide (frType b = 1 ∧ frLen b = 24) && decide (leAt p 0 2 < 4096 ∧ leAt p 2 1 ≤ 1 ∧ leAt p 20 4 = 0)

/-- A HELLO arrives (Table 14-3). -/
def Core.helloReceived (s : Core) (k : Nat) (b : List Byte) : Core :=
  let st := s.rpState k
  if !s.running ∨ 2 ≤ k ∨ st < 2 then s
  else if !frOk b then (s.inc Obj.rp_LINK_ERR k 1 1).updRing (fun r => { r with run := Tab.erase r.run k })
  else if !helloOk b then s.updRing (fun r => { r with run := Tab.erase r.run k })
  else
    let p := frPayload b
    let serial := leAt p 4 8
    let known := bit (Tab.get 0 s.ring.heard k) 0
    if known ∧ serial ≠ s.rd Obj.rp_NEIGHBOUR_SERIAL k 0 then s.ringDown k
    else
      let t := ((s.wr Obj.rp_NEIGHBOUR k 0 (leAt p 0 2)).wr Obj.rp_NEIGHBOUR_SERIAL k 0 serial).arm .helloWait k (us 8)
      let t := t.updRing (fun r => { r with heard := Tab.set r.heard k 1 })
      if leAt p 2 1 = k then
        let t := t.updRing (fun r => { r with run := Tab.erase r.run k })
        (if st = 2 then (t.wr Obj.rp_LINK_STATE k 0 4).occur (1536 + k) 0 else t)
      else
        let n := Tab.get 0 t.ring.run k + 1
        let t := t.updRing (fun r => { r with run := Tab.set r.run k n })
        let t := if k = 1 ∧ leAt p 16 4 ≠ 0 then t.applyDelay 1 (leAt p 16 4) else t
        if st = 2 ∧ 3 ≤ n then t.ringUp k else t

/-! ### Hop delay (R380, R381) -/

/-- FT to 0.5 ns, in 2^-16 ns. -/
def Core.stampNow (s : Core) : Nat := roundDivNat s.ftQ 32768 * 32768

/-- The KE end sends its next DELAY_REQ, 10 µs after the one before. -/
def Core.delayReqTimer (s : Core) : Core :=
  let i := s.ring.reqNext
  if s.originates ∧ s.rpState 0 = 3 ∧ i < 16 ∧ (i = 0 ∨ s.ring.reqAt + us 10 ≤ s.clk) then
    (s.updRing (fun r => { r with reqNext := i + 1, reqAt := s.clk, t1 := Tab.set r.t1 i s.stampNow })).linkLocal 0 2
      (leBytes 2 i ++ leBytes 2 0 ++ leBytes 4 s.ring.calOf ++ leBytes 8 0)
  else s

/-- The KW end answers, unless it may originate no DELAY_RSP (R376, R377). -/
def Core.delayReq (s : Core) (b : List Byte) (resid : Nat) : Core :=
  if !s.running ∨ s.rpState 1 ≠ 3 then s
  else if !frOk b then s.inc Obj.rp_LINK_ERR 1 1 1
  else if frType b ≠ 2 ∨ frLen b ≠ 16 ∨ !s.originates then s
  else
    let p := frPayload b
    let t2 := s.stampNow
    let t3 := roundDivNat (s.ftQ + resid) 32768 * 32768
    s.linkLocal 1 3 (leBytes 2 (leAt p 0 2) ++ leBytes 2 0 ++ leBytes 4 (leAt p 4 4) ++ leBytes 8 (t2 / 65536) ++ leBytes 2 (t2 % 65536) ++ leBytes 2 0
      ++ leBytes 8 (t3 / 65536) ++ leBytes 2 (t3 % 65536) ++ leBytes 2 0)

/-- The master notes a link's report. -/
def Core.calNote (s : Core) (node id : Nat) (delay : Option Nat) : Core :=
  if s.rd0 Obj.CAL_STATE = 1 ∧ id = s.ring.calId then
    (s.updRing (fun r => { r with
      calLeft := r.calLeft.filter (· ≠ node)
      links := match delay with | some d => Tab.set r.links node d | none => r.links })).calLook
  else s

/-- The outcome of the sixteen exchanges: LINK_DELAY, or a link left unmeasured; reported to the master. -/
def Core.delayDone (s : Core) : Core :=
  let l := s.ring.delays
  let d := (roundRat ((l.foldl (· + ·) 0) * 256 / 16)).toNat
  let t := if s.ring.out then s.occur 1536 0 else s.applyDelay 0 d
  let rep := if s.ring.out then none else some d
  if t.isMaster then t.calNote (t.rd0 Obj.NODE_ID) t.ring.calOf rep
  else if t.originates then
    t.ringMessage 0x22 (t.rd0 Obj.MASTER_ID) (calPayload 2 (b2n s.ring.out) (t.rd Obj.rp_NEIGHBOUR 0 0) t.ring.calOf (rep.getD 0))
  else t

/-- The KE end computes one delay value. -/
def Core.delayRsp (s : Core) (b : List Byte) : Core :=
  if !s.running ∨ s.rpState 0 ≠ 3 then s
  else if !frOk b then s.inc Obj.rp_LINK_ERR 0 1 1
  else
    let p := frPayload b
    match Tab.get? s.ring.t1 (leAt p 0 2) with
    | none => s
    | some t1 =>
      if frType b ≠ 3 ∨ frLen b ≠ 32 ∨ leAt p 4 4 ≠ s.ring.calOf then s
      else
        let t2 : Int := ((leAt p 8 8 * 65536 + leAt p 16 2 : Nat) : Int)
        let t3 : Int := ((leAt p 20 8 * 65536 + leAt p 28 2 : Nat) : Int)
        let d : Rat := mkRat (((s.stampNow : Int) - t1) - (t3 - t2)) 131072
        let t := s.updRing (fun r => { r with t1 := Tab.erase r.t1 (leAt p 0 2), delays := d :: r.delays, out := r.out || decide (d < 0 ∨ 20000 < d) })
        if t.ring.delays.length = 16 then t.delayDone else t

/-! ### Fenax Time on the ring (R382 to R384) -/

/-- The master may send SYNC and TACK: a port is UP, and no other master has been heard. -/
def Core.leads (s : Core) : Bool := s.isMaster && s.originates && !s.ring.silenced && !s.upPorts.isEmpty

/-- A SYNC payload (Table 14-4). -/
def syncPayload (ft flags : Nat) (corr : Int) (epoch : Nat) : List Byte :=
  leBytes 8 (ft / 65536) ++ leBytes 2 (ft % 65536) ++ leBytes 1 flags ++ leBytes 1 0 ++ leBytes 8 (rawOf 64 corr) ++ leBytes 4 epoch ++ leBytes 8 0

/-- SYNC_SEND_TIMER: every SYNC_PERIOD. -/
def Core.syncSend (s : Core) : Core :=
  let due : Bool := match s.ring.syncAt with | some c => decide (c + ns (s.rd0 Obj.SYNC_PERIOD) ≤ s.clk) | none => true
  if s.leads ∧ due then
    let st := s.rd0 Obj.FT_STATE
    (s.ringBoth 0x10 4095 (syncPayload s.ftQ (b2n s.ring.step + 2 * b2n (decide (st = 2)) + 4 * b2n (decide (st = 3))) 0 (s.rd0 Obj.TOPO_EPOCH))).updRing
      (fun r => { r with syncAt := some s.clk, step := false })
  else s

/-- A TOPO entry carries IN_PRINT (R384). -/
def Core.ringPrints (s : Core) : Bool := s.inPrint || s.topo.any (fun e => bit e 14)

/-- Lock acquisition begins: f is 0 (R383). -/
def Core.unlock (s : Core) : Core := (s.updRing (fun r => { r with f := 0, good := 0, bad := 0 })).wr0 Obj.FT_STATE 0

/-- FT steps forward by 2^-16 ns and lock is acquired anew. -/
def Core.ringStep (s : Core) (q : Nat) : Core := (s.stepFtQ q).unlock

/-- Lock is lost: HOLDOVER with FT_UNLOCK in PRINT, else FREE (R26, R383). -/
def Core.lockLost (s : Core) : Core := if s.inPrint then (s.wr0 Obj.FT_STATE 3).occur 619 0 else s.unlock

/-- The rate trim a loop demands, under the limits of R26: in PRINT a demand beyond 20 ppm of the trim at entry freezes it. -/
def Core.putTrim (s : Core) (m : Int) : Core :=
  if s.inPrint then
    if (m - s.ring.trimBase).natAbs ≤ 85899 then s.wrI Obj.FT_TRIM 0 0 m
    else if s.rd0 Obj.FT_STATE = 3 then s
    else (s.wr0 Obj.FT_STATE 3).occur 619 0
  else s.wrI Obj.FT_TRIM 0 0 (clampI (-2147483) 2147483 m)

/-- The servo of R383 for an offset `e` in ns. -/
def Core.servo (s : Core) (e : Rat) : Core :=
  let P : Rat := ((s.rd0 Obj.SYNC_PERIOD : Nat) : Rat)
  let f := s.ring.f + e / (256 * P)
  let m := -(roundRat (4294967296 * (f + e / (16 * P))))
  (s.updRing (fun r => { r with f := f, good := if absRat e ≤ 20 then r.good + 1 else 0, bad := if absRat e > 100 then r.bad + 1 else 0 })).putTrim m

/-- A usable SYNC with its offset in 2^-16 ns (R383, R384). KL_FT_AHEAD is raised as FT is first found ahead (log entry 177). -/
def Core.useSync (s : Core) (eq : Int) (step : Bool) : Core :=
  let e : Rat := mkRat eq 65536
  let t := (s.wrI Obj.FT_OFFSET 0 0 (satS 32 (roundRat (e * 256)))).arm .syncWait 0 (ns (4 * s.rd0 Obj.SYNC_PERIOD))
  let st := t.rd0 Obj.FT_STATE
  if step ∧ t.inPrint then (if st = 3 then t else t.lockLost)
  else if step ∧ st = 1 then t.ringStep (-eq).toNat
  else if st = 1 then
    let u := t.servo e
    if u.rd0 Obj.FT_STATE = 1 ∧ 4 ≤ u.ring.bad then u.lockLost else u
  else if st = 0 ∧ e > 1000 then
    let u := t.updRing (fun r => { r with good := 0, ahead := true })
    if t.ring.ahead then u else u.occur 1544 0
  else if st = 0 ∧ e < -1000 ∧ !t.inPrint then (t.updRing (fun r => { r with ahead := false })).ringStep (-eq).toNat
  else
    let u := (t.updRing (fun r => { r with ahead := false })).servo e
    if 16 ≤ u.ring.good then u.wr0 Obj.FT_STATE 1 else u

/-- Learning from a SYNC copy (R378): MASTER_ID and the hops by this port; two masters; a JOIN when a master or an epoch is new. -/
def Core.learnMaster (s : Core) (k src hops epoch : Nat) : Core :=
  let other := s.isMaster ∨ (s.rd0 Obj.MASTER_ID ≠ 0 ∧ s.rd0 Obj.MASTER_ID ≠ src)
  let h := s.rd0 Obj.HOPS_TO_MASTER
  let n := min (hops + 1) 65534
  let h := if k = 0 then h / 65536 * 65536 + n else h % 65536 + n * 65536
  if other then
    let t := if s.isMaster then s.updRing (fun r => { r with silenced := true }) else s
    if t.rd0 Obj.RING_STATE = 4 then t else (t.wr0 Obj.RING_STATE 4).occur 1541 0
  else
    let t := ((s.wr0 Obj.MASTER_ID src).wr0 Obj.HOPS_TO_MASTER h).disarm .noMaster 0
    let t := if t.rd0 Obj.RING_STATE = 4 then t.wr0 Obj.RING_STATE 1 else t
    if s.rd0 Obj.MASTER_ID = 0 ∨ (epoch ≠ 0 ∧ epoch ≠ s.rd0 Obj.TOPO_EPOCH ∧ s.ring.joinAt.isSome ∧ (s.placeOf (s.rd0 Obj.NODE_ID)).isNone) then t.sendJoin else t

/-- SYNC_RECEIVED (R382, R383): forwarded with the residence time and the delay of the link it came by added to CORRECTION. -/
def Core.syncReceived (s : Core) (k : Nat) (b : List Byte) (resid : Nat) : Core :=
  let dIn := s.rd Obj.rp_LINK_DELAY k 0
  let onward (p : List Byte) : List Byte :=
    p.take 12 ++ leBytes 8 (rawOf 64 (signedOf 64 (leAt p 12 8) + resid + dIn * 256)) ++ p.drop 20
  let t := s.rxFrame k 0x10 b none onward id
  let p := frPayload b
  if !s.running ∨ 2 ≤ k ∨ s.rpState k ≠ 3 ∨ !frOk b ∨ frType b ≠ 0x10 ∨ p.length ≠ 32 ∨ frSrc b = s.rd0 Obj.NODE_ID then t
  else
    let t := t.learnMaster k (frSrc b) (frHops b) (leAt p 20 4)
    let fresh : Bool := match t.ring.used with | some (n, q) => decide (n ≠ frSrc b) || decide (0 < seqDist 32 (frSeq b) q) | none => true
    if t.isMaster ∨ t.rd0 Obj.RING_STATE = 4 ∨ dIn = 0 ∨ !fresh then t
    else
      let tRing : Int := ((leAt p 0 8 * 65536 + leAt p 8 2 : Nat) : Int) + signedOf 64 (leAt p 12 8) + dIn * 256
      (t.updRing (fun r => { r with used := some (frSrc b, frSeq b) })).useSync ((t.stampNow : Int) - tRing) (bit (leAt p 10 1) 0)

/-- No usable SYNC for 4 × SYNC_PERIOD (R383). -/
def Core.syncLoss (s : Core) : Core :=
  if s.running ∧ s.due .syncWait 0 then
    let t := s.disarm .syncWait 0
    if t.rd0 Obj.FT_STATE = 1 then t.lockLost else t
  else s

/-! ### Tacks on the ring (R387, R388) -/

/-- RING_TACK_TIMER: the master latches a Tack of its pacing source and sends it. -/
def Core.ringTack (s : Core) : Core :=
  let due : Bool := match s.ring.tackAt with | some c => decide (c + ns (s.rd0 Obj.RING_TACK_PERIOD) ≤ s.clk) | none => true
  let src := s.rd0 Obj.PACE_SRC
  if s.leads ∧ s.onRing ∧ 1 ≤ src ∧ src ≤ 9 ∧ due then
    let t := s.updRing (fun r => { r with tackAt := some s.clk })
    let last := (t.chan (src - 1)).lastTack
    let t := if src = 9 then t.latchCommanded t.ftQ else if last.isSome ∧ t.ftQ < last.getD 0 + 1000 * 65536 then t else t.latchTack (src - 1) t.ftQ
    match (Tab.get [] t.tacks (src - 1)).head? with
    | some tk => t.ringBoth 0x11 4095 tk.bytes
    | none => t
  else s

/-- A Tack of the ring at the predictor (R45, R388); its acceleration by R41 over the ring Tacks' own speeds. -/
def Core.ringTackIn (s : Core) (p : List Byte) : Core :=
  if p.length ≠ 32 ∨ s.rd0 Obj.PACE_SRC ≠ 10 then s
  else
    let time := leAt p 8 8 * 65536 + leAt p 16 2
    let fl := leAt p 18 2
    let v := signedOf 32 (leAt p 20 4)
    let i : SpeedVal := ⟨mkRat v 256, (time : Rat)⟩
    let vals := if bit fl 2 ∨ bit fl 4 ∨ bit fl 7 then [] else s.pred.vals
    let a := accelOf s.tAcc ((s.rd0 Obj.A_MAX : Nat) : Rat) i vals
    let tk : Tack := ⟨signedOf 64 (leAt p 0 8), time, fl, v, leAt p 24 4, leAt p 28 2, a.1⟩
    let t := s.acceptTack tk
    if t.rd0 Obj.TACK_DISCARDS = s.rd0 Obj.TACK_DISCARDS then
      let t := { t with pred := { t.pred with vals := if bit fl 6 then vals else if bit fl 2 ∨ bit fl 4 ∨ bit fl 7 then [] else i :: pruneVals longestSpan i vals } }
      let t := t.bufferTack 9 tk
      if a.2 ∧ !bit fl 6 then t.occur 618 0 else t
    else t

/-! ### Joining (R378) -/

/-- JOIN_RECEIVED on the master: recorded; the order follows; a joiner ahead steps FT where nobody prints (R384). -/
def Core.joinIn (s : Core) (src : Nat) (p : List Byte) : Core :=
  if !s.isMaster ∨ p.length ≠ 24 then s
  else
    let nb (o : Nat) : Option Nat := let v := leAt p o 2; if bit v 15 then none else some (v % 4096)
    let j : JoinRec := ⟨src, leAt p 0 8, nb 8, nb 10, leAt p 12 1, leAt p 16 8⟩
    let t := s.updRing (fun r => { r with joins := r.joins.filter (fun x => !decide (x.serial = j.serial)) ++ [j] })
    let t := if t.dupNodes.contains src ∧ !s.dupNodes.contains src then t.occur 1540 0 else t
    let top := (t.ring.joins.map (fun x => x.ft)).foldl max 0
    let t := if t.ftNs + 1000 < j.ft ∧ !t.ringPrints then (t.stepFtQ ((top + 1000000) * 65536 - t.ftQ)).updRing (fun r => { r with step := true }) else t
    t.formTopo

/-- JOIN_REPEAT_TIMER: every 10 ms until this controller's entry appears. -/
def Core.joinRepeat (s : Core) : Core :=
  match s.ring.joinAt with
  | some c => if s.running ∧ c + ms 10 ≤ s.clk ∧ (s.placeOf (s.rd0 Obj.NODE_ID)).isNone then s.sendJoin else s
  | none => s

/-- A TOPO is whole: it is adopted; a JOIN answers each new epoch (R378). -/
def Core.adoptTopo (s : Core) (epoch : Nat) (l : List Nat) : Core :=
  let new := decide (epoch ≠ s.rd0 Obj.TOPO_EPOCH)
  let t := (s.wr0 Obj.TOPO_EPOCH epoch).putTopo l
  let t := if (t.placeOf (t.rd0 Obj.NODE_ID)).isNone then t.wr0 Obj.RING_STATE 1 else t
  let t := t.splitCheck
  if new then t.sendJoin else t

/-- TOPO_RECEIVED: a segment. -/
def Core.topoIn (s : Core) (p : List Byte) : Core :=
  if s.isMaster ∨ p.length < 8 ∨ p.length % 2 ≠ 0 then s
  else
    let epoch := leAt p 0 4
    let count := leAt p 4 2
    let first := leAt p 6 2
    let es := (List.range ((p.length - 8) / 2)).map (fun i => (first + i, leAt p (8 + 2 * i) 2))
    let have_ := if s.ring.seg.1 = epoch then s.ring.seg.2 else []
    let tab := es.foldl (fun (m : Tab Nat) e => Tab.set m e.1 e.2) have_
    let t := s.updRing (fun r => { r with seg := (epoch, tab) })
    if (List.range count).all (fun i => (Tab.get? tab i).isSome) then
      (t.updRing (fun r => { r with seg := (0, []) })).adoptTopo epoch ((List.range count).map (fun i => Tab.get 0 tab i))
    else t

/-- TOPO_REPEAT_TIMER: every 100 ms. -/
def Core.topoRepeat (s : Core) : Core :=
  match s.ring.topoAt with
  | some c => if s.isMaster ∧ s.originates ∧ c + ms 100 ≤ s.clk ∧ 0 < s.rd0 Obj.TOPO_COUNT then s.sendTopo.ageBound false else s
  | none => s

/-- NO_MASTER_TIMEOUT: no SYNC within 100 ms of a port reaching UP. -/
def Core.noMaster (s : Core) : Core :=
  if s.running ∧ s.due .noMaster 0 then ((s.disarm .noMaster 0).wr0 Obj.RING_STATE 4).occur 1541 0 else s

/-- FOLD_RECEIVED (R396). -/
def Core.foldIn (s : Core) (src : Nat) (p : List Byte) : Core :=
  if p.length ≠ 8 then s
  else
    let peer := leAt p 0 2 % 4096
    let east := if leAt p 2 1 = 0 then src else peer
    let t := (s.markBroken east).joinsBroken src (leAt p 2 1) peer
    (t.splitCheck).foldMaster (s.linkWhole east)

/-! ### Calibration and sweep messages -/

/-- CAL_REQ: master only (R381). -/
def chkCalReq : WrChk := fun s _ _ _ _ => stateIf !s.isMaster

/-- CAL_REQ. -/
def actCalReq : WrAct := fun _ _ _ v s => if v = 1 then (s.setCompO Obj.CAL_REQ 0 0 1).calStart else s

/-- CAL_REPORT_TIMEOUT: 1 ms has passed. -/
def Core.calTimeout (s : Core) : Core :=
  if s.running ∧ s.due .calReport 0 then
    let t := s.disarm .calReport 0
    if t.rd0 Obj.CAL_STATE = 1 then (t.wr0 Obj.CAL_STATE 3).endComp Obj.CAL_REQ 0 0 false else t
  else s

/-- A ring-wide sweep reaches this controller (R395). -/
def Core.sweepCommand (s : Core) (id mask : Nat) : Core :=
  match s.ringSweep, s.ringSweepLast with
  | some (r, _, _), l => if r = id then s else (match l with | some (q, ok) => if q = id then s.sweepReport 0 id ok else s | none => s)
  | none, l =>
    match l with
    | some (q, ok) => if q = id then s.sweepReport 0 id ok else begin_ s id mask
    | none => begin_ s id mask
where
  begin_ (s : Core) (id mask : Nat) : Core :=
    if !s.sweepsRun then s.sweepReport 1 id 0
    else if mask = 0 then ({ s with ringSweepLast := some (id, 0) }).sweepReport 0 id 0
    else ({ s with ringSweep := some (id, mask, 0) }).sweepRequest mask

/-- RING_SWEEP_REQ: master only, and none running (R395). -/
def chkRingSweep : WrChk := fun s _ _ _ _ =>
  stateIf (!s.isMaster || (List.range (s.rd0 Obj.TOPO_COUNT)).any (fun j => decide (s.rd Obj.RING_SWEEP_STATUS 0 j = 1)))

/-- RING_SWEEP_REQ: every controller is sent the command, and the master sweeps its own ports. -/
def actRingSweep : WrAct := fun _ _ _ v s =>
  let id := nextSeq32 (s.rd0 Obj.RING_SWEEP_ID)
  let t := (s.wr0 Obj.RING_SWEEP_ID id).updRing (fun r => { r with sweepMask := v })
  let t := t.wrRun Obj.RING_SWEEP_STATUS 0 0 (List.replicate (t.rd0 Obj.TOPO_COUNT) 1)
  ((t.setCompO Obj.RING_SWEEP_REQ 0 0 1).ringBoth 0x23 4095 (sweepPayload 1 0 id v)).sweepCommand id v

/-- SWEEP_REPORT_RECEIVED on the master. -/
def Core.sweepReportIn (s : Core) (src : Nat) (p : List Byte) : Core :=
  if s.isMaster ∧ p.length = 16 ∧ leAt p 0 1 = 2 ∧ leAt p 4 4 = s.rd0 Obj.RING_SWEEP_ID then
    match s.placeOf src with
    | some j => (s.wr Obj.RING_SWEEP_STATUS 0 j (if leAt p 1 1 = 0 then 2 else 4)).ringSweepLook
    | none => s
  else s

/-! ### Fault blocks (R389, R390) -/

/-- A fault block arrives: checked, forwarded at most four times per direction, and on its first copy KL_REMOTE_STOP. -/
def Core.faultBlockIn (s : Core) (k : Nat) (b : List Byte) : Core :=
  if !s.running ∨ 2 ≤ k ∨ s.rpState k ≠ 3 then s
  else if b.length ≠ 7 ∨ leAt b 5 2 ≠ Crypto.crc16 0x1021 (b.take 5) 0xFFFF then s.inc Obj.rp_LINK_ERR k 3 1
  else
    let w := leAt b 0 5
    let origin := w % 4096
    let kind := w / 4096 % 16
    let fseq := w / 65536 % 256
    if (kind ≠ 1 ∧ kind ≠ 2) ∨ w / 2 ^ 24 ≠ 0 ∨ (origin = s.rd0 Obj.NODE_ID ∧ origin ≠ 0) then s
    else
      let key (x : Nat × Nat × Nat × Nat) : Bool := decide (x.1 = origin ∧ x.2.1 = fseq ∧ x.2.2.1 = k)
      let n := match s.ring.blocks.find? key with | some x => x.2.2.2 | none => 0
      let seen := s.ring.blocks.any (fun x => decide (x.1 = origin ∧ x.2.1 = fseq))
      let t := s.updRing (fun r => { r with blocks := ((origin, fseq, k, n + 1) :: r.blocks.filter (fun x => !key x)).take 64 })
      let t := if n < 4 ∧ t.upPorts.contains (1 - k) then t.emit .faultBlock (1 - k) [] b else t
      if seen then t else t.occur 1543 0

/-! ### STREAM frames (R393) -/

/-- A STREAM message: a datagram for this controller, or an ACK that leaves from its STREAM_PORT. -/
def Core.streamIn (s : Core) (src : Nat) (m : List Byte) : Core :=
  let b := m.drop 24
  if leAt b 3 1 = 2 then s.emit .streamAck 0 [(leAt m 0 16 : Int), (leAt m 16 2 : Int)] b
  else s.localDatagram (16 + src) (leAt m 0 16) (leAt m 16 2) b

/-- STREAM_FRAME_RECEIVED. -/
def Core.streamFrame (s : Core) (k : Nat) (b : List Byte) : Core :=
  s.rxFrame k 0x32 b none id (fun t =>
    let r := t.reassemble b
    match r.1 with
    | some m => r.2.streamIn (frSrc b) m
    | none => r.2)

/-! ### Writes of the ring's configuration (R376) -/

/-- Both ports go DOWN and through joining again. -/
def Core.ringRestart (s : Core) : Core :=
  let t := s.each [0, 1] (fun t k => if t.rpState k = 3 then (t.inc Obj.rp_DOWNS k 0 1).occur (1536 + k) 0 else t)
  let t := t.each [0, 1] (fun t k => (((t.wr Obj.rp_LINK_STATE k 0 (b2n (t.ringEn k && t.running && decide (t.mode ≠ .safe)))).disarm .helloWait k).wr
    Obj.rp_NEIGHBOUR k 0 0).wr Obj.rp_NEIGHBOUR_SERIAL k 0 0)
  let t := (t.putTopo []).wr0 Obj.HOPS_TO_MASTER 0xFFFFFFFF
  let t := ((t.wr0 Obj.MASTER_ID 0).wr0 Obj.RING_STATE 0).disarm .noMaster 0
  let t := if t.rd0 Obj.CAL_STATE = 1 then ((t.wr0 Obj.CAL_STATE 3).disarm .calReport 0).endComp Obj.CAL_REQ 0 0 false else t
  { t with ring := { calId := t.ring.calId, f := t.ring.f, good := 0, trimBase := t.ring.trimBase } }

/-- NODE_ID, RING_ROLE or RING_EN. -/
def chkRingConfig : WrChk := chkModes [.config, .ready, .service, .park]

/-- NODE_ID, RING_ROLE or RING_EN. -/
def actRingConfig : WrAct := fun _ _ _ _ s => s.ringRestart

/-- RING_EN: a master that another one's SYNC has silenced stays so (R378). -/
def actRingEn : WrAct := fun _ _ _ _ s => s.ringRestart.updRing (fun r => { r with silenced := s.ring.silenced })

/-! ### PTP (R386) -/

/-- PTP on a lane and domain disciplines this controller: the master, or a controller on no ring. -/
def Core.ptpOn (s : Core) (lane domain : Nat) : Bool :=
  s.running && s.rdB Obj.PTP_EN 0 0 && decide (lane < 2) && bit (s.rd0 Obj.PTP_PORTS) lane && decide (domain = s.rd0 Obj.PTP_DOMAIN)
    && (s.isMaster || decide (s.rd0 Obj.RING_STATE = 0))

/-- The trim of the PTP loop: the spec gives no law for it, so it is a free value within the limits of R26. -/
def Core.ptpTrim (s : Core) : Core :=
  let d := s.drawOpen
  if s.inPrint then d.2.putTrim (s.ring.trimBase + ((d.1 % 171799 : Nat) : Int) - 85899)
  else d.2.putTrim (((d.1 % 4294967 : Nat) : Int) - 2147483)

/-- PTP_SYNC_RECEIVED: the offset of FT from the PTP time plus PTP_OFFSET_NS. -/
def Core.ptpSync (s : Core) (lane domain : Nat) (time delay : Int) : Core :=
  if !s.ptpOn lane domain ∨ s.ptp.best = [] then s
  else
    let target := (time + delay) / 65536 + s.rdI Obj.PTP_OFFSET_NS 0 0
    let e : Int := (s.ftQ : Int) - target * 65536
    let t := s.wrI Obj.PTP_ERR 0 0 (satS 32 (roundDiv e 65536))
    if !t.ptp.adopted ∧ !t.ringPrints then
      let u := { t with ptp := { t.ptp with adopted := true, good := 0 } }
      if e < 0 then (u.stepFtQ (-e).toNat).updRing (fun r => { r with step := u.isMaster }) else u.ptpTrim
    else
      let n := if e.natAbs ≤ 100 * 65536 then t.ptp.good + 1 else 0
      let u := ({ t with ptp := { t.ptp with good := n } }).ptpTrim
      if 16 ≤ n then ({ u with ptp := { u.ptp with adopted := true } }).wr0 Obj.FT_STATE 2 else u

/-- The one list of bytes comes before the other. -/
def bytesLess : List Byte → List Byte → Bool
  | a :: s, b :: t => decide (a.toNat < b.toNat) || (decide (a.toNat = b.toNat) && bytesLess s t)
  | [], _ :: _ => true
  | _, [] => false

/-- PTP_ANNOUNCE_RECEIVED: the best master is kept, and the loss interval restarts. -/
def Core.ptpAnnounce (s : Core) (lane domain : Nat) (rank : List Byte) (interval : Nat) : Core :=
  if !s.ptpOn lane domain then s
  else
    let gm := (rank.drop 6).take 8
    let same := decide ((s.ptp.best.drop 6).take 8 = gm)
    if s.ptp.best = [] ∨ same ∨ bytesLess rank s.ptp.best then
      (({ s with ptp := { s.ptp with best := rank, good := if same then s.ptp.good else 0 } }).wr0 Obj.PTP_GM (ofLe gm)).arm .ptpAnnounce 0 (3 * ns interval)
    else s

/-- PTP_ANNOUNCE_TIMEOUT: the grandmaster is lost. -/
def Core.ptpLost (s : Core) : Core :=
  if s.running ∧ s.due .ptpAnnounce 0 then
    let t := ({ s with ptp := { s.ptp with best := [], good := 0 } }).disarm .ptpAnnounce 0
    if t.rd0 Obj.FT_STATE = 2 then (if t.inPrint then (t.wr0 Obj.FT_STATE 3).occur 619 0 else t.wr0 Obj.FT_STATE 0) else t
  else s

/-! ### The commands -/

/-- RING_BLOCK_LOCK (R377). -/
def execRingBlockLock (dt port : Nat) (s : State) : Host.Outcome State Fault Refusal :=
  onCore (fun c => let t := c.advance dt
    if t.running ∧ port < 2 ∧ t.rpState port = 1 then (t.wr Obj.rp_LINK_STATE port 0 2).arm .helloWait port (us 8) else t) s

/-- RING_LOCK_LOST (R377). -/
def execRingLockLost (dt port : Nat) (s : State) : Host.Outcome State Fault Refusal :=
  onCore (fun c => let t := c.advance dt; if t.running ∧ port < 2 ∧ t.rpState port ≠ 0 then t.ringDown port else t) s

/-- HELLO_SEND_TIMER (R377). -/
def execHelloSendTimer (dt port : Nat) (s : State) : Host.Outcome State Fault Refusal :=
  onCore (fun c => (c.advance dt).helloSend port) s

/-- HELLO_RECEIVED (R377). -/
def execHelloReceived (dt port : Nat) (bytes : List Byte) (s : State) : Host.Outcome State Fault Refusal :=
  onCore (fun c => (c.advance dt).helloReceived port bytes) s

/-- HELLO_TIMEOUT (R377). -/
def execHelloTimeout (dt port : Nat) (s : State) : Host.Outcome State Fault Refusal :=
  onCore (fun c => let t := c.advance dt; if t.running ∧ port < 2 ∧ t.due .helloWait port ∧ t.rpState port ≠ 0 then t.ringDown port else t) s

/-- DELAY_REQ_TIMER (R380). -/
def execDelayReqTimer (dt : Nat) (s : State) : Host.Outcome State Fault Refusal :=
  onCore (fun c => (c.advance dt).delayReqTimer) s

/-- DELAY_REQ_RECEIVED (R380). -/
def execDelayReqReceived (dt : Nat) (bytes : List Byte) (resid : Nat) (s : State) : Host.Outcome State Fault Refusal :=
  onCore (fun c => (c.advance dt).delayReq bytes resid) s

/-- DELAY_RSP_RECEIVED (R380). -/
def execDelayRspReceived (dt : Nat) (bytes : List Byte) (s : State) : Host.Outcome State Fault Refusal :=
  onCore (fun c => (c.advance dt).delayRsp bytes) s

/-- SYNC_SEND_TIMER (R382). -/
def execSyncSendTimer (dt : Nat) (s : State) : Host.Outcome State Fault Refusal :=
  onCore (fun c => (c.advance dt).syncSend) s

/-- SYNC_RECEIVED (R383). -/
def execSyncReceived (dt port : Nat) (bytes : List Byte) (resid : Nat) (s : State) : Host.Outcome State Fault Refusal :=
  onCore (fun c => (c.advance dt).syncReceived port bytes resid) s

/-- SYNC_LOSS_TIMEOUT (R383). -/
def execSyncLossTimeout (dt : Nat) (s : State) : Host.Outcome State Fault Refusal :=
  onCore (fun c => (c.advance dt).syncLoss) s

/-- RING_TACK_TIMER (R387). -/
def execRingTackTimer (dt : Nat) (s : State) : Host.Outcome State Fault Refusal :=
  onCore (fun c => (c.advance dt).ringTack) s

/-- TACK_FRAME_RECEIVED (R388). -/
def execTackFrameReceived (dt port : Nat) (bytes : List Byte) (s : State) : Host.Outcome State Fault Refusal :=
  onCore (fun c => (c.advance dt).rxFrame port 0x11 bytes none id (fun t => t.ringTackIn (frPayload bytes))) s

/-- ABORTED_FRAME_RECEIVED (R374). -/
def execAbortedFrameReceived (dt port : Nat) (s : State) : Host.Outcome State Fault Refusal :=
  onCore (fun c => let t := c.advance dt
    if t.running ∧ port < 2 ∧ t.rpState port = 3 then (t.inc Obj.rp_LINK_ERR port 2 1).sendAborted port else t) s

/-- FRAGMENT_TIMEOUT (R372). -/
def execFragmentTimeout (dt : Nat) (s : State) : Host.Outcome State Fault Refusal :=
  onCore (fun c => (c.advance dt).fragTimeout) s

/-- FOLD_RECEIVED (R396). -/
def execFoldReceived (dt port : Nat) (bytes : List Byte) (s : State) : Host.Outcome State Fault Refusal :=
  onCore (fun c => (c.advance dt).rxFrame port 0x13 bytes none id (fun t => t.foldIn (frSrc bytes) (frPayload bytes))) s

/-- JOIN_RECEIVED (R378). -/
def execJoinReceived (dt port : Nat) (bytes : List Byte) (s : State) : Host.Outcome State Fault Refusal :=
  onCore (fun c => (c.advance dt).rxFrame port 0x20 bytes none id (fun t => t.joinIn (frSrc bytes) (frPayload bytes))) s

/-- JOIN_REPEAT_TIMER (R378). -/
def execJoinRepeatTimer (dt : Nat) (s : State) : Host.Outcome State Fault Refusal :=
  onCore (fun c => (c.advance dt).joinRepeat) s

/-- TOPO_RECEIVED (R378). -/
def execTopoReceived (dt port : Nat) (bytes : List Byte) (s : State) : Host.Outcome State Fault Refusal :=
  onCore (fun c => (c.advance dt).rxFrame port 0x21 bytes none id (fun t => t.topoIn (frPayload bytes))) s

/-- TOPO_REPEAT_TIMER (R378). -/
def execTopoRepeatTimer (dt : Nat) (s : State) : Host.Outcome State Fault Refusal :=
  onCore (fun c => (c.advance dt).topoRepeat) s

/-- NO_MASTER_TIMEOUT (R378). -/
def execNoMasterTimeout (dt : Nat) (s : State) : Host.Outcome State Fault Refusal :=
  onCore (fun c => (c.advance dt).noMaster) s

/-- CAL_COMMAND_RECEIVED (R381). -/
def execCalCommandReceived (dt port : Nat) (bytes : List Byte) (s : State) : Host.Outcome State Fault Refusal :=
  onCore (fun c => (c.advance dt).rxFrame port 0x22 bytes none id (fun t =>
    let p := frPayload bytes
    if p.length = 16 ∧ leAt p 0 1 = 1 ∧ !t.isMaster then t.startMeasure (leAt p 4 4) else t)) s

/-- CAL_REPORT_RECEIVED (R381). -/
def execCalReportReceived (dt port : Nat) (bytes : List Byte) (s : State) : Host.Outcome State Fault Refusal :=
  onCore (fun c => (c.advance dt).rxFrame port 0x22 bytes none id (fun t =>
    let p := frPayload bytes
    if p.length = 16 ∧ leAt p 0 1 = 2 ∧ t.isMaster then t.calNote (frSrc bytes) (leAt p 4 4) (if leAt p 1 1 = 0 then some (leAt p 8 4) else none) else t)) s

/-- CAL_REPORT_TIMEOUT (R381). -/
def execCalReportTimeout (dt : Nat) (s : State) : Host.Outcome State Fault Refusal :=
  onCore (fun c => (c.advance dt).calTimeout) s

/-- SWEEP_COMMAND_RECEIVED (R395). -/
def execSweepCommandReceived (dt port : Nat) (bytes : List Byte) (s : State) : Host.Outcome State Fault Refusal :=
  onCore (fun c => (c.advance dt).rxFrame port 0x23 bytes none id (fun t =>
    let p := frPayload bytes
    if p.length = 16 ∧ leAt p 0 1 = 1 then t.sweepCommand (leAt p 4 4) (leAt p 8 8) else t)) s

/-- SWEEP_REPORT_RECEIVED (R395). -/
def execSweepReportReceived (dt port : Nat) (bytes : List Byte) (s : State) : Host.Outcome State Fault Refusal :=
  onCore (fun c => (c.advance dt).rxFrame port 0x23 bytes none id (fun t => t.sweepReportIn (frSrc bytes) (frPayload bytes))) s

/-- FAULT_BLOCK_RECEIVED (R390). -/
def execFaultBlockReceived (dt port : Nat) (bytes : List Byte) (s : State) : Host.Outcome State Fault Refusal :=
  onCore (fun c => (c.advance dt).faultBlockIn port bytes) s

/-- STREAM_FRAME_RECEIVED (R393). -/
def execStreamFrameReceived (dt port : Nat) (head payload crc : List Byte) (s : State) : Host.Outcome State Fault Refusal :=
  onCore (fun c => (c.advance dt).streamFrame port (head ++ payload ++ crc)) s

/-- PTP_SYNC_RECEIVED (R386). -/
def execPtpSyncReceived (dt lane domain : Nat) (time delay : Int) (s : State) : Host.Outcome State Fault Refusal :=
  onCore (fun c => (c.advance dt).ptpSync lane domain time delay) s

/-- PTP_ANNOUNCE_RECEIVED (R386). -/
def execPtpAnnounceReceived (dt lane domain : Nat) (rank : List Byte) (interval : Nat) (s : State) : Host.Outcome State Fault Refusal :=
  onCore (fun c => (c.advance dt).ptpAnnounce lane domain rank interval) s

/-- PTP_ANNOUNCE_TIMEOUT (R386). -/
def execPtpAnnounceTimeout (dt : Nat) (s : State) : Host.Outcome State Fault Refusal :=
  onCore (fun c => (c.advance dt).ptpLost) s

end Sys2Proof.Machine
end

