-- ==== Sys2Proof/Machine/Modes.lean ====
section
/-! DEFINITION. Operating modes (ch. 18): requests and their conditions, entry to and exit from PRINT, stops, the head stop, PARK, RETAIN. -/

namespace Sys2Proof.Machine

open Sys2Proof

/-! ### Entry conditions (Table 18-3, R479, R484) -/

/-- ENTRY_FAIL: a code and its instance, 0xFFFF for none. -/
def Core.entryFail (s : Core) (code inst : Nat) : Core := s.wr0 Obj.ENTRY_FAIL (code % 256 + inst % 65536 * 65536)

/-- No instance. -/
def noInst : Nat := 0xFFFF

/-- A port whose bring-up or retraining runs (R479). -/
def Core.comingUp (s : Core) (p : Nat) : Bool := s.inBringup p || decide (s.link p = lkRetrain)

/-- The ports that lack energy or thermal limits (R101). -/
def Core.noEnergy (s : Core) (p : Nat) : Bool :=
  decide (s.rd Obj.E_DIE 0 p = 0 ∨ s.rd Obj.EPT 0 p = 0 ∨ s.rd Obj.K_THERM_MAX 0 p < s.rd Obj.K_THERM_MIN 0 p)

/-- A job in progress has columns that have not settled. -/
def Core.jobUnsettled (s : Core) : Bool := s.job.active && !s.job.settled

/-- The plane map the first page would start with (R202). -/
def Core.firstMap (s : Core) : PlaneMap := match s.pages.head? with | some pg => pg.own s | none => s.presentMap

/-- A port of the job is ready to print (condition 7, R409). -/
def Core.portReady (s : Core) (p : Nat) : Bool :=
  if s.isStandby ∧ s.sharedPort p then
    decide (s.link p = lkStandby) && (match (s.port p).statusAt with | some t => decide (s.clk ≤ t + us 100) | none => false)
  else decide (s.link p = lkReady) && s.flag p 0 && s.flag p 1

/-- PACE_SRC names a source that works and its Tacks arrive (R47). -/
def Core.paced (s : Core) : Bool :=
  let src := s.rd0 Obj.PACE_SRC
  let n := src - 1
  let chan := if 1 ≤ src ∧ src ≤ 8 then decide (s.rd Obj.fb_MODE n 0 ≠ 0) && decide (s.rdI Obj.fb_SCALE n 0 ≠ 0) && !(s.srcRec (608 + n)).active else true
  let fresh := if src = 10 then !s.ringStale else
    (match s.pred.acceptedAt with | some t => decide (s.clk ≤ t + ns (10 * s.rd0 Obj.TACK_PERIOD)) | none => false)
  decide (src ≠ 0) && chan && fresh

/-- An axis is enabled, HOMED and in a group that counts as a print group (R321, R329). -/
def Core.axisPrints (s : Core) (a : Nat) : Bool :=
  let g := s.rd Obj.ax_GROUP a 0
  decide (s.axSt a ≠ axDisabled) && bit (s.rd Obj.ax_AX_FLAGS a 0) 0 && decide (g < 8) && s.printGroup g && decide (s.rd Obj.grp_MASTER g 0 < 12)

/-- The Comet has what it needs (R352). -/
def Core.cometReady (s : Core) (scan : Bool) : Bool :=
  if s.rd0 Obj.COMET_MODE = 0 then true
  else if s.rd0 Obj.PACE_SRC = 10 then s.onRing && decide (s.rd0 Obj.MASTER_ID ≠ 0) && (s.placeOf (s.rd0 Obj.MASTER_ID)).isSome
  else decide ((s.pacedGroups scan).length = 1) && decide (s.cometScale ≠ 0)

/-- The conditions of a pair member (R404). -/
def Core.pairReady (s : Core) : Bool :=
  if s.rd0 Obj.PAIR_ROLE = 0 then true
  else
    (match s.placeOf (s.rd0 Obj.PARTNER) with
      | some _ => decide (s.rd0 Obj.MASTER_ID ≠ s.rd0 Obj.PARTNER)
      | none => false)
      && decide (s.rd0 Obj.RING_ROLE = 0) && decide (s.rd0 Obj.PACE_SRC = 10)
      && !(List.range 12).any (fun a => decide (s.axSt a ≠ axDisabled) && decide (s.rd Obj.ax_GROUP a 0 < 8) && s.printGroup (s.rd Obj.ax_GROUP a 0))
      && decide (s.rd0 Obj.PAIR_DIGEST = s.rd0 Obj.PARTNER_DIGEST)

/-- A raised source forbids printing (condition 15): its reaction is an orderly stop, a head stop, or a group stop of a print group. -/
def Core.forbids (s : Core) (n : Nat) : Bool :=
  let r := s.rd Obj.src_REACTION n 0
  s.isRaised n && s.qualified n && (decide (1 ≤ r ∧ r ≤ 3) || (decide (r = 4) && (s.groupsOf n).any s.printGroup))

/-- A raised RISE2 or RISE3 source, with the instance of condition 8: a port of the job, or none for a junction sensor. -/
def Core.riseOpen (s : Core) : Option Nat :=
  match s.jobPorts.find? (fun p => s.isRaised (976 + p) || s.isRaised (1040 + p)) with
  | some p => some p
  | none => if (List.range 16).any (fun i => s.isRaised (1184 + i) || s.isRaised (1200 + i)) then some noInst else none

/-- The first condition of Table 18-3 that fails, with its instance. Condition 5 has just been tested: `planes` is its outcome. -/
def Core.printFail (s : Core) (scan planes : Bool) : Option (Nat × Nat) :=
  let chk (c : Bool) (code : Nat) (inst : Nat) (r : Option (Nat × Nat)) : Option (Nat × Nat) := if c then r else some (code, inst)
  let opt (o : Option Nat) (code : Nat) (r : Option (Nat × Nat)) : Option (Nat × Nat) := match o with | some i => some (code, i) | none => r
  chk (decide (s.mode = .ready ∧ s.phase = .steady)) 1 noInst <|
  chk s.job.active 2 noInst <|
  chk s.resumeReady 3 noInst <|
  chk (decide (s.rd0 Obj.DRAM_STATE = 3)) 4 noInst <|
  opt ((List.range 50).find? (fun b => decide (s.bankState b = bankQuarantined))) 4 <|
  chk planes 5 (s.rd0 Obj.PM_FAIL_PORT) <|
  opt ([0, 1, 2, 3].find? (fun d => decide (s.decState d ≠ decIdle ∨ s.rd Obj.dec_REQ_HEAD d 0 ≠ s.rd Obj.dec_REQ_TAIL d 0))) 6 <|
  opt (s.jobPorts.find? (fun p => !s.portReady p)) 7 <|
  opt (s.jobPorts.find? (fun p => bit (s.rd0 Obj.DRY_FLAGS) p && !s.dryCovered s.firstMap p)) 8 <|
  opt s.riseOpen 8 <|
  opt (s.jobPorts.find? s.noEnergy) 9 <|
  chk s.paced 10 noInst <|
  chk (decide (s.rd0 Obj.PACE_SRC ≠ 10) || (decide (s.rd0 Obj.FT_STATE = 1) && !s.ringStale)) 11 noInst <|
  opt ((List.range 12).find? (fun a => (decide (s.rd Obj.ax_ROLE a 0 = 1) || (scan && decide (s.rd Obj.ax_ROLE a 0 = 2))) && !s.axisPrints a)) 12 <|
  chk (s.cometReady scan) 13 noInst <|
  chk s.pairReady 14 noInst <|
  opt ((List.range 2048).find? s.forbids) 15 none

/-- The transitions of Table 18-2 that a request may make from the present mode. -/
def Core.mayRequest (s : Core) (v : Nat) : Bool :=
  match s.mode with
  | .config => decide (v = 3 ∨ v = 7)
  | .ready => decide (v = 2 ∨ v = 4 ∨ v = 5 ∨ v = 6 ∨ v = 7)
  | .printWeb | .printScan => decide (v = 3)
  | .service => decide (v = 3 ∨ v = 7)
  | .park => decide (v = 2) && decide (s.rd0 Obj.PARK_STEP = 10) && decide (s.rd0 Obj.PARK_TARGET = 0)
  | _ => false

/-- The test of a request: its abort code, and what a rejected one leaves. A request for the present mode in STEADY is accepted. -/
def Core.modeTest (s : Core) (v : Nat) : Nat × Core :=
  if v < 2 ∨ 7 < v then (valueC, s)
  else if v = s.mode.code ∧ s.phase = .steady then (okC, s)
  else if v = 4 ∨ v = 5 then
    if s.mode = .ready ∧ s.phase = .steady then
      let first := s.pages.head?
      let r := s.runPlaneTest s.firstMap ((first.map Page.mask).getD 0xFF) ((first.map Page.pass).getD 0)
      match r.1.printFail (decide (v = 5)) r.2 with
      | some e => (stateC, r.1.entryFail e.1 e.2)
      | none => (okC, r.1)
    else (stateC, s.entryFail 1 noInst)
  else if s.phase ≠ .steady ∨ !s.mayRequest v then (stateC, s)
  else if v = 3 ∧ s.mode = .config ∧ allPorts.any s.comingUp then (stateC, s.entryFail 0x10 noInst)
  else if v = 6 then
    match (allPorts.filter (fun p => decide (s.link p = lkReady))).find? s.noEnergy with
    | some p => (stateC, s.entryFail 9 p)
    | none => if s.jobUnsettled || s.printGroups.any (fun g => !s.groupAtRest g) then (stateC, s.entryFail 0x11 noInst) else (okC, s)
  else (okC, s)

/-- MODE_REQ (R476, R507: the host lock is tested with the request). -/
def chkModeReq : WrChk := fun s _ _ _ v => (s.modeTest v).1

/-! ### Entry to and exit from PRINT -/

/-- Pages queued before PRINT WEB was entered that belong to PRINT SCAN are ORDER errors (R265, R481). -/
def Core.webPages (s : Core) : Core :=
  match s.pages.find? (fun pg => !pg.started && (decide (pg.pass ≠ 0) || !pg.final)) with
  | some pg =>
    let t := { s.streamError errOrder 0x11 pg.ssn with pages := s.pages.takeWhile (fun q => decide (q.ssn ≠ pg.ssn)) }
    t.wr0 Obj.CMD_QUEUE t.queued
  | none => s

/-- What entry to PRINT brings about beside the mode (R26, R171, R378, R391, R481). -/
def Core.enterPrint (s : Core) (m : Mode) : Core :=
  let t := (s.setMode m).pauseSweeps
  let t := t.updRing (fun r => { r with trimBase := t.rdI Obj.FT_TRIM 0 0 })
  let t := t.sendJoin.formTopo
  let t := if t.rd0 Obj.PACE_SRC = 10 then t.sendComet 6 0 (if t.rd0 Obj.PAIR_ROLE = 2 then t.rd0 Obj.PARTNER else 0) 0 0 else t
  if m = .printWeb then t.webPages else t

/-- The job ends with the stay in PRINT (R270, Table 10-9): one that is not complete closes the stream. -/
def Core.leaveJob (s : Core) : Core :=
  if !s.job.active then s
  else if s.jobComplete then s.dropJob.recomputeLA
  else s.streamClose

/-- A delay held back while the device was in PRINT applies (R381). -/
def Core.applyPending (s : Core) (k : Nat) : Core :=
  let d := s.rd Obj.rp_LINK_DELAY_PENDING k 0
  if d = 0 then s else (s.wr Obj.rp_LINK_DELAY k 0 d).wr Obj.rp_LINK_DELAY_PENDING k 0 0

/-- What exit from PRINT to `m` brings about (R26, R358, R378, R381, R391, Table 10-9). -/
def Core.leavePrint (s : Core) (m : Mode) : Core :=
  let t := { s with hold := none, decided := [], comet := {} }
  let t := if t.rd0 Obj.COMET_STATE = 0 then t else t.setComet 0
  let t := (t.leaveJob).setMode m
  let t := (t.applyPending 0).applyPending 1
  let t := if t.rd0 Obj.FT_STATE = 3 then t.unlock else t
  let t := t.sendJoin.formTopo
  if t.rd0 Obj.PACE_SRC = 10 then t.sendComet 7 0 0 0 0 else t

/-! ### The end of a stop (R483, R484) -/

/-- A LIFT or CAP axis is enabled. -/
def Core.hasCaps (s : Core) : Bool := (List.range 12).any (fun a => decide (s.rd Obj.ax_ROLE a 0 = 3 ∨ s.rd Obj.ax_ROLE a 0 = 4) && decide (s.axSt a ≠ axDisabled))

/-- The seam has completed on every active port. -/
def Core.stopSeamDone (s : Core) : Bool :=
  match s.stop with
  | some x => (match x.seam with | some j => s.doneThrough j | none => true)
  | none => true

/-- READY is entered: the stop is over and the request done; T_READY_NS at the first entry. -/
def Core.toReady (s : Core) : Core :=
  let t := { s with stop := none, phase := .steady, stopCap := false }
  let t := if t.inPrint then t.leavePrint .ready else t.setMode .ready
  let t := if t.rd0 Obj.T_READY_NS = 0 then t.wr0 Obj.T_READY_NS t.ftNs else t
  (t.endComp Obj.MODE_REQ 0 0 true).settle

/-- STOP_COMPLETE: the seam and the axes are done; the cap sequence runs, or has run, and READY is entered. -/
def Core.stopComplete (s : Core) : Core :=
  let rested : Bool := if s.mode = .service then (List.range 12).all s.atRest else s.printGroups.all s.groupAtRest && s.stopSeamDone
  if s.phase ≠ .stopping ∨ !rested then s
  else if s.stopCap then
    if s.mot.capPhase ≠ 0 then s
    else (if s.mot.capDone then s else s.occur 1268 0).toReady
  else if s.rdB Obj.CAP_ON_READY 0 0 && s.hasCaps then { s.capStart with stopCap := true }
  else s.toReady

/-! ### Ports and axes at a stop -/

/-- A port goes to OFF, after its commit where it is authenticated (R187). -/
def Core.portToOff (s : Core) (p : Nat) : Core :=
  if s.link p = lkOff then s
  else if s.link p = lkFault then (s.level (768 + p) 0 false).portOff p
  else s.leavePort p

/-- A port goes to OFF at once. -/
def Core.portOffNow (s : Core) (p : Nat) : Core :=
  if s.link p = lkOff then s
  else if s.link p = lkFault then (s.level (768 + p) 0 false).portOff p
  else s.portOff p

/-- Every port is in OFF. -/
def Core.allOff (s : Core) : Bool := allPorts.all (fun p => decide (s.link p = lkOff))

/-- Bring-up starts again under R479; the controller will request READY itself where START_MODE says so. -/
def Core.beginBringup (s : Core) : Core := { s with wantReady := decide (s.rd0 Obj.START_MODE = 3) }

/-! ### The head stop (Table 6-6) -/

/-- Step 4: every port to OFF. -/
def Core.headPortsOff (s : Core) : Core := ({ s.disarm .capWait 0 with headStep := 4 }).each allPorts Core.portToOff

/-- HEAD_STOP_STEP_ADVANCE: a step of the head stop has ended. -/
def Core.headAdvance (s : Core) : Core :=
  if s.headStep = 2 then
    if s.printGroups.all s.groupAtRest ∧ s.stopSeamDone then
      (({ s with headStep := 3 }).arm .capWait 0 (ms (s.rd0 Obj.CAP_TIMEOUT))).capStart
    else s
  else if s.headStep = 3 then
    if s.mot.capPhase = 0 ∧ s.mot.capDone then s.headPortsOff else s
  else if s.headStep = 4 then
    if s.allOff then
      let t := { s with headStep := 5, stop := none, phase := .steady }
      let t := if t.inPrint then t.leavePrint .config else t.setMode .config
      (t.endComp Obj.MODE_REQ 0 0 false).settle
    else s
  else if s.headStep = 5 then
    if s.headSources.all (fun n => !s.isRaised n) then
      let t := { s with headStep := 0, headSources := [] }
      if t.mode = .config then t.beginBringup else t
    else s
  else s

/-- CAP_TIMEOUT in step 3: CAP_FAIL, and step 4 follows. -/
def Core.capTimeout (s : Core) : Core :=
  if s.headStep = 3 ∧ s.due .capWait 0 then
    let t := { s with mot := { s.mot with capPhase := 0, capAxes := [] } }
    (t.occur 1268 0).headPortsOff
  else s

/-! ### PARK (R486, Table 18-5) -/

/-- One evaluation period of an axis in half ns. -/
def Core.evalPeriod (s : Core) (a : Nat) : Nat :=
  if isStepper a then 2000000000 / max 1 (s.rd Obj.st_PWM_FREQ (a - 4) 0) + 1 else ns (s.rd0 Obj.SERVO_PERIOD)

/-- A moving axis other than LIFT and CAP. -/
def Core.parkMoving (s : Core) (a : Nat) : Bool :=
  decide (s.rd Obj.ax_ROLE a 0 ≠ 3 ∧ s.rd Obj.ax_ROLE a 0 ≠ 4) && decide (2 ≤ s.axSt a ∧ s.axSt a ≤ 4)

/-- The longest stopping time of the moving axes, from their next evaluation instant, in half ns. -/
def Core.stopBound (s : Core) : Nat :=
  ((List.range 12).filter s.parkMoving).foldl (fun m a => max m ((segsTime (s.stopSegs a) * 2000000000).ceil.toNat + s.evalPeriod a)) 0

/-- An axis goes to DISABLED from any state (step 7). -/
def Core.disableAxis (s : Core) (a : Nat) : Core :=
  if s.axSt a = axDisabled then s
  else
    let t := (((s.failMove a).freeze a).setAxFlag a 0 (bit (s.rd Obj.ax_AX_FLAGS a 0) 0)).updAxis a (fun x => { x with causes := [], micro := none })
    let t := ((t.setAxSt a axDisabled).wr Obj.ax_ENABLE a 0 0).hwUpdate Obj.ax_ENABLE a 0
    if isStepper a then (t.wr Obj.st_CUR_MODE (a - 4) 0 0).bridge (a - 4) else t

/-- A measurement is queued, runs, or waits for the model step that publishes it. -/
def Core.measuring (s : Core) : Bool :=
  decide (s.measPending ≠ 0 ∨ s.jsPending ≠ 0 ∨ s.jsRunning ≠ 0) || (List.range 32).any (fun k => decide ((s.afeOf k).kind = 1))
    || s.ports.any (fun p => !p.2.therm.waiting.isEmpty)

/-- The commit of a port is neither confirmed nor journaled in flight. -/
def Core.committing (s : Core) (p : Nat) : Bool :=
  let x := (s.port p).thim
  x.authed && (match x.flight with
    | some f => (match Tab.get? s.thimJ p with | some e => decide (e.flight ≠ some f) | none => true)
    | none => false)

/-- A step of Table 18-5 applies. -/
def Core.parkApplies (s : Core) (k : Nat) : Bool :=
  match k with
  | 1 => (List.range 12).any s.parkMoving
  | 2 => s.hasCaps
  | 3 => true
  | 4 => s.rdB Obj.SWEEP_ON_PARK 0 0 && (allPorts.any (fun p => decide (s.link p = lkReady)) || s.anySweep)
  | 5 => allPorts.any (fun p => (s.port p).thim.authed || (s.port p).thim.renew)
  | 6 => !s.allOff
  | 7 => (List.range 12).any (fun a => decide (s.axSt a ≠ axDisabled))
  | 8 => !s.dirty.isEmpty
  | 9 => true
  | _ => false

/-- What a step does as it begins. -/
def Core.parkAction (s : Core) (k : Nat) : Core :=
  let ready := maskOf (allPorts.filter (fun p => decide (s.link p = lkReady)))
  match k with
  | 1 => s.stopMoving (fun a => decide (s.rd Obj.ax_ROLE a 0 = 3 ∨ s.rd Obj.ax_ROLE a 0 = 4))
  | 2 => s.capStart
  | 3 => (s.measRequest (maskOf (allPorts.filter (fun p => (s.port p).enumerated)))).jsRequest 0xFFFF
  | 4 => s.sweepRequest ready
  | 5 => s.each (allPorts.filter (fun p => (s.port p).thim.authed || (s.port p).thim.renew)) Core.thimTrigger
  | 6 => s.each allPorts Core.portOffNow
  | 7 => s.each (List.range 12) Core.disableAxis
  | 9 => s.bistStart 1
  | _ => s

/-- The bound of a step in half ns. -/
def Core.parkBound (s : Core) (k : Nat) : Nat :=
  if k = 1 then s.stopBound else if k = 2 then ms (s.rd0 Obj.CAP_TIMEOUT) else ms (nth 0 [0, 0, 0, 5, 20, 5, 1, 1, 20, 1800] k)

/-- The end of a step has come. -/
def Core.parkOver (s : Core) (k : Nat) : Bool :=
  match k with
  | 1 => !(List.range 12).any s.parkMoving
  | 2 => decide (s.mot.capPhase = 0) && s.mot.capDone
  | 3 => !s.measuring
  | 4 => !(List.range 32).any (fun k => decide ((s.afeOf k).kind ≠ 0)) && !allPorts.any s.sweepable
  | 5 => !allPorts.any s.committing
  | 6 => s.allOff
  | 7 => (List.range 12).all (fun a => decide (s.axSt a = axDisabled))
  | 8 => s.dirty.isEmpty
  | 9 => decide (s.bist.kind = 0)
  | _ => false

/-- RETAIN is entered: every island but AON loses power; DRAM goes into self-refresh (R488). -/
def Core.toRetain (s : Core) : Core :=
  let t := (((s.setMode .retain).emit .mainEn 0 [0] []).emit .safeOutputs 0 [] []).wr0 Obj.DRAM_STATE 4
  let t := { t with phase := .steady, configReached := false, timers := [] }
  if s.rd0 Obj.WAKE_AFTER = 0 then t else t.arm .wakeAfter 0 (sec (s.rd0 Obj.WAKE_AFTER))

/-- The 64-byte check block of DRAM is written at entry to RETAIN (R313); the spec does not say what it holds. -/
def Core.retainEntry (s : Core) (m : List Host.Cell) : Core × List Host.Cell :=
  if s.dramUp ∧ 64 ≤ s.rd0 Obj.DRAM_SIZE then
    let d := s.drawOpen
    (d.2.toRetain, Memory.write m (s.rd0 Obj.DRAM_SIZE - 64) (leBytes 64 d.1))
  else (s.toRetain, m)

/-- The sequence goes on from step `k`: steps that do not apply are passed over; at most `n` of them. -/
def Core.parkFrom : Nat → Nat → Core → Core
  | 0, _, s => s
  | n + 1, k, s =>
    let t := s.wr0 Obj.PARK_STEP k
    if 10 ≤ k then ({ t with phase := .steady }).endComp Obj.MODE_REQ 0 0 true
    else if t.parkApplies k then (t.parkAction k).arm .parkStep 0 (t.parkBound k)
    else Core.parkFrom n (k + 1) t

/-- PARK is entered (R486). -/
def Core.enterPark (s : Core) : Core :=
  let t := { ((s.spitAbort).setMode .park) with phase := .parking, wantReady := false, headStep := 0, headSources := [] }
  Core.parkFrom 11 1 ((t.wr0 Obj.PARK_FAILED 0).setCompO Obj.MODE_REQ 0 0 1)

/-- After DONE with PARK_TARGET RETAIN, once every change is journaled, RETAIN follows (R487, R528). -/
def Core.parkEnd (s : Core) (m : List Host.Cell) : Core × List Host.Cell :=
  if s.mode = .park ∧ s.rd0 Obj.PARK_STEP = 10 ∧ s.rd0 Obj.PARK_TARGET = 1 ∧ s.dirty = [] then s.retainEntry m else (s, m)

/-- PARK_STEP_COMPLETE: the step in progress ends and the next begins; from DONE, RETAIN is entered where PARK_TARGET says so. -/
def Core.parkStepComplete (s : Core) (m : List Host.Cell) : Core × List Host.Cell :=
  let k := s.rd0 Obj.PARK_STEP
  if s.mode = .park ∧ s.phase = .parking ∧ s.parkOver k then (Core.parkFrom 11 (k + 1) (s.disarm .parkStep 0)).parkEnd m
  else s.parkEnd m

/-- PARK_STEP_BOUND_EXPIRY: the step is abandoned, and the sequence continues. -/
def Core.parkStepExpired (s : Core) : Core :=
  let k := s.rd0 Obj.PARK_STEP
  if s.mode = .park ∧ s.phase = .parking ∧ s.due .parkStep 0 ∧ !s.parkOver k then
    let t := (s.disarm .parkStep 0).wr0 Obj.PARK_FAILED (putBit (s.rd0 Obj.PARK_FAILED) k true)
    let t := if k = 9 then t.bistAbort else t
    let t := t.occur 1600 0
    if t.mode = .park then Core.parkFrom 11 (k + 1) t else t
  else s

/-! ### MODE_REQ (R476) -/

/-- What an accepted request does; the completion status reads DONE unless it says otherwise. -/
def actModeReq : WrAct := fun b _ _ v s0 =>
  let s := (b.modeTest v).2
  let s := ({ s with objs := s0.objs, comp := s0.comp, dirty := s0.dirty, dirtySince := s0.dirtySince }).entryFail 0 noInst
  let s := if v = 4 ∨ v = 5 then (s.runPlaneTest s.firstMap (((s.pages.head?).map Page.mask).getD 0xFF) (((s.pages.head?).map Page.pass).getD 0)).1 else s
  if v = b.mode.code ∧ b.phase = .steady then s
  else if v = 2 then (if b.mode = .park then ((s.wr0 Obj.PARK_STEP 0).setMode .config).beginBringup.settle else (s.setMode .config).settle)
  else if v = 4 then (s.enterPrint .printWeb).settle
  else if v = 5 then (s.enterPrint .printScan).settle
  else if v = 6 then (s.setMode .service).settle
  else if v = 7 then s.enterPark.settle
  else if b.inPrint then (s.setCompO Obj.MODE_REQ 0 0 1).orderlyStop 65535
  else if b.mode = .service then
    { ((s.setCompO Obj.MODE_REQ 0 0 1).spitAbort).stopMoving (fun _ => false) with phase := .stopping }
  else s.toReady

/-- AUTO_READY_REQUEST: with START_MODE READY the controller requests READY once no port is in bring-up or waits for its place in it. -/
def Core.autoReady (s : Core) : Core :=
  let waits (p : Nat) : Bool := s.rdB Obj.port_PORT_ENABLE p 0 && decide (s.link p = lkOff)
  if s.wantReady ∧ s.mode = .config ∧ s.phase = .steady ∧ !allPorts.any s.comingUp ∧ (s.headStep ≠ 0 ∨ !allPorts.any waits) then
    (((({ s with wantReady := false }).wr0 Obj.MODE_REQ 3).entryFail 0 noInst).setCompO Obj.MODE_REQ 0 0 2).toReady
  else s

/-- HEAD_STOP_STEP_ADVANCE (R163). -/
def execHeadStopStepAdvance (dt : Nat) (s : State) : Host.Outcome State Fault Refusal := onCore (fun c => (c.advance dt).headAdvance) s

/-- CAP_TIMEOUT (R163). -/
def execCapTimeout (dt : Nat) (s : State) : Host.Outcome State Fault Refusal := onCore (fun c => (c.advance dt).capTimeout) s

/-- STOP_COMPLETE (R483). -/
def execStopComplete (dt : Nat) (s : State) : Host.Outcome State Fault Refusal := onCore (fun c => (c.advance dt).stopComplete) s

/-- AUTO_READY_REQUEST (R479). -/
def execAutoReadyRequest (dt : Nat) (s : State) : Host.Outcome State Fault Refusal := onCore (fun c => (c.advance dt).autoReady) s

/-- PARK_STEP_COMPLETE (R486). -/
def execParkStepComplete (dt : Nat) (s : State) : Host.Outcome State Fault Refusal := onBoth (fun c m => (c.advance dt).parkStepComplete m) s

/-- PARK_STEP_BOUND_EXPIRY (R486). -/
def execParkStepBoundExpiry (dt : Nat) (s : State) : Host.Outcome State Fault Refusal := onCore (fun c => (c.advance dt).parkStepExpired) s

end Sys2Proof.Machine
end

