-- ==== Sys2Proof/Machine/Selvedge.lean ====
section
/-! DEFINITION. Selvedge and Hem (ch. 19): acknowledgement, forced occurrences, source configuration, the host lock, fault inputs, the host trip, the
safety-island watchdog, Hem's readbacks. Resets that follow are in Power. -/

namespace Sys2Proof.Machine

open Sys2Proof

/-! ### Who writes -/

/-- The session that makes a request: its handle and role. -/
structure Caller where
  h : Nat
  role : Nat
  deriving DecidableEq, Repr

/-- The host lock bars an OPERATOR session that does not hold it (R507). -/
def Core.lockBars (s : Core) (c : Caller) : Bool :=
  decide (s.rd0 Obj.HOST_LOCK_OWNER ≠ 0) && decide (s.rd0 Obj.HOST_LOCK_OWNER ≠ c.h) && decide (c.role = 1)

/-! ### Acknowledgement and force (R500, R501) -/

/-- STATUS of a source: 1 acknowledges, which a RAISED source must allow (Table 19-4). -/
def chkSourceStatus (c : Caller) : WrChk := fun s _ n _ v =>
  stateIf (s.lockBars c || (decide (v = 1) && s.isRaised n && !s.ackable n))

/-- Acknowledge a RAISED source. -/
def actSourceStatus : WrAct := fun _ n _ v s => if v = 1 ∧ s.isRaised n then (s.ackSource n).settle else s

/-- ACK_ALL. -/
def chkAckAll (c : Caller) : WrChk := fun s _ _ _ _ => stateIf (s.lockBars c)

/-- Every source that can be acknowledged is, but one that occurs in this cycle: its clear is lost, and the write reads back FAILED (R500). -/
def actAckAll : WrAct := fun _ _ _ _ s =>
  let l := (s.src.map (·.1)).filter s.ackable
  let lost (n : Nat) : Bool := decide (Tab.get? s.hwAt (Obj.src_STATUS.key n 0) = some s.clk)
  let t := (s.each (l.filter (fun n => !lost n)) Core.ackSource).settle
  if l.any lost then (t.setCompO Obj.ACK_ALL 0 0 3).lostWrite Obj.ACK_ALL.idx Obj.ACK_ALL.sub else t

/-- FORCE makes one forced occurrence. -/
def actForce : WrAct := fun _ n _ v s => if v = 1 then s.occurForced n else s

/-! ### Configuration of a source (R497, R502) -/

/-- The role a write of a member needs: FORCE of a FIXED source, and a write that masks a class F source or lowers CLASS from F, need FACTORY. -/
def srcRole (s : Core) (sub n v : Nat) : Nat :=
  let f := decide (s.rd Obj.src_CLASS n 0 = 2)
  if sub = 2 then (if srcField false (·.fixed) n then 3 else 2)
  else if sub = 3 ∧ v = 1 ∧ f then 3
  else if sub = 4 ∧ v < 2 ∧ f then 3
  else 2

/-- STATE in PRINT and while RAISED; VALUE on a FIXED source. -/
def srcGuard (s : Core) (n : Nat) : Nat := worse (stateIf (s.inPrint || s.isRaised n)) (valueIf (srcField false (·.fixed) n))

/-- MASK or ESC. -/
def chkSrcPlain : WrChk := fun s _ n _ _ => srcGuard s n

/-- CLASS: not C while REACTION is another than NONE. -/
def chkSrcClass : WrChk := fun s w n _ v => worse (srcGuard s n) (valueIf (decide (v = 0 ∧ w.rd Obj.src_REACTION n 0 ≠ 0)))

/-- REACTION: NONE on class C; GROUP_STOP only in Table 12-11. -/
def chkSrcReaction : WrChk := fun s w n _ v =>
  worse (srcGuard s n) (valueIf (decide (v ≠ 0 ∧ w.rd Obj.src_CLASS n 0 = 0) || (decide (v = 4) && !isGroupSource n)))

/-! ### The host lock and the trip (R507, R508) -/

/-- A lock held by another session cannot be taken. -/
def chkHostLock (c : Caller) : WrChk := fun s _ _ _ v =>
  stateIf (decide (v = 1 ∧ s.rd0 Obj.HOST_LOCK_OWNER ≠ 0 ∧ s.rd0 Obj.HOST_LOCK_OWNER ≠ c.h))

/-- Take the lock, or release it from its owner. -/
def actHostLock (c : Caller) : WrAct := fun _ _ _ v s =>
  if v = 1 then (s.wr0 Obj.HOST_LOCK_OWNER c.h).arm .hostLock 0 (ms (s.rd0 Obj.HOST_TIMEOUT))
  else if s.rd0 Obj.HOST_LOCK_OWNER = c.h then (s.wr0 Obj.HOST_LOCK_OWNER 0).disarm .hostLock 0
  else s

/-- TRIP_CMD. -/
def actTrip : WrAct := fun _ _ _ v s => if v = 1 then s.occur 7 0 else s

/-! ### The commands that no host sends -/

/-- HOST_TIMEOUT_EXPIRY (R507). -/
def execHostTimeoutExpiry (dt : Nat) (s : State) : Host.Outcome State Fault Refusal :=
  onCore (fun c => let t := c.advance dt; if t.due .hostLock 0 then t.hostLockLost else t) s

/-- A fault input takes or leaves its active level (R508); its level is published (Table 22-8). -/
def Core.faultInput (s : Core) (n : Nat) (active : Bool) : Core :=
  if !s.running ∨ 16 ≤ n then s
  else
    let high := decide (active = bit (s.rd0 Obj.FAULT_IN_POL) n)
    (s.wr0 Obj.FAULT_IN_LEVEL (putBit (s.rd0 Obj.FAULT_IN_LEVEL) n high)).level (9 + n) 0 active

/-- FAULT_IN_POL: an input whose level has long held is active, or no more, under its new polarity at once (R508). -/
def actFaultInPol : WrAct := fun b _ _ v s =>
  s.each ((List.range 16).filter (fun n => bit v n != bit (b.rd0 Obj.FAULT_IN_POL) n)) (fun t n =>
    t.level (9 + n) 0 (bit (t.rd0 Obj.FAULT_IN_LEVEL) n == bit v n))

/-- FAULT_INPUT (R508). -/
def execFaultInput (dt input : Nat) (s : State) : Host.Outcome State Fault Refusal := onCore (fun c => (c.advance dt).faultInput input true) s

/-- FAULT_INPUT_INACTIVE (R508). -/
def execFaultInputInactive (dt input : Nat) (s : State) : Host.Outcome State Fault Refusal :=
  onCore (fun c => (c.advance dt).faultInput input false) s

/-- The watchdog expires (R505): Hem acts itself, SAFETY_WDOG is registered if Selvedge still can, the device is reset 10 ms later. -/
def Core.wdogExpiry (s : Core) (selvedge : Bool) : Core :=
  if !s.running ∨ s.wdogExpired then s
  else
    let t := ({ s with wdogExpired := true }).arm .wdogReset 0 (ms 10)
    (if selvedge then t.occur 4 0 else t).hemSafe.settle

/-- SAFETY_WDOG_EXPIRY (R505). -/
def execSafetyWdogExpiry (dt : Nat) (selvedge : Bool) (s : State) : Host.Outcome State Fault Refusal :=
  onCore (fun c => (c.advance dt).wdogExpiry selvedge) s

/-- The source a readback failure raises: FAULT_N, HPWR_EN of a port, ABORT of a port, the gates of a stepper axis, the frames of a Drive Link. -/
def readbackSource (kind index : Nat) : Option Nat :=
  match kind with
  | 0 => some 5
  | 1 => if index < 64 then some (64 + index) else none
  | 2 => if index < 64 then some (128 + index) else none
  | 3 => if index < 8 then some (192 + index) else none
  | 4 => if index < 4 then some (200 + index) else none
  | _ => none

/-- The readback is made in the present mode (R504): HPWR_EN in every mode, gates also while the axis is FAULTED, the others in SAFE. -/
def Core.readbackMade (s : Core) (kind index : Nat) : Bool :=
  s.running && (decide (kind = 1) || decide (s.mode = .safe) || (decide (kind = 3) && decide (s.axSt (4 + index) = axFaulted)))

/-- HEM_READBACK_FAIL (R504). -/
def execHemReadbackFail (dt kind index : Nat) (s : State) : Host.Outcome State Fault Refusal :=
  onCore (fun c =>
    let t := c.advance dt
    match readbackSource kind index with
    | some n => if t.readbackMade kind index then t.occur n 0 else t
    | none => t) s

/-- HEM_ARM_CHECK (R504): a copy that differs raises HEM_ARM and is taken again from the objects. -/
def execHemArmCheck (dt : Nat) (mismatch : Bool) (s : State) : Host.Outcome State Fault Refusal :=
  onCore (fun c =>
    let t := c.advance dt
    if t.running ∧ mismatch then
      (t.each ((List.range 12).filter (fun a => bit (t.rd Obj.ax_AX_FLAGS a 0) 1)) Core.armAxis).occur 3 0
    else t) s

/-- SELVEDGE_LOCKSTEP_MISMATCH (R511): SEL_INTEGRITY, SEL_CONFIG or HEM_INTEGRITY. -/
def execSelvedgeLockstepMismatch (dt kind : Nat) (s : State) : Host.Outcome State Fault Refusal :=
  onCore (fun c => let t := c.advance dt; if t.running ∧ kind < 3 then t.occur kind 0 else t) s

end Sys2Proof.Machine
end

