-- ==== Sys2Proof/Machine/Power.lean ====
section
/-! DEFINITION. Power, clock islands and reset (ch. 20): rails, reset and start-up, retention, wakes, clock and parity monitors, island resets. -/

namespace Sys2Proof.Machine

open Sys2Proof

/-! ### The retention store at a reset (R462, R527 to R529) -/

/-- Partitions that cannot be read, as a mask: 0 object journal, 1 Thimble, 2 fault record, 3 self-test, 4 device state. -/
def partitionOf (o : Ob) : Nat :=
  if o.name = "ORPHANS" then 1
  else if o.name = "LOG_SEQ" ∨ o.name = "SAFE_CAUSE" then 2
  else if 0x9800 ≤ o.idx ∧ o.idx ≤ 0x98FF then 3
  else 4

/-- One journal record replayed, oldest first: the values so far, and the keys whose newest record fails its check. -/
def replay (a : Tab Nat × List Nat) (r : JRec) : Tab Nat × List Nat :=
  if r.valid then (r.entries.foldl (fun t e => Tab.set t e.1 e.2) a.1, a.2.filter (fun k => !(r.entries.map (·.1)).contains k))
  else (a.1, a.2 ++ (r.entries.map (·.1)).filter (fun k => !a.2.contains k))

/-- The retained elements restored, and how many from another than their newest record (R462). -/
def Core.restored (s : Core) (bad : Nat) : Tab Nat × Nat :=
  if bit bad 0 then ([], 0)
  else
    let a := s.journal.reverse.foldl replay ([], [])
    (a.1, a.2.length)

/-- Elements kept outside the journal: their own partitions, and the key slots' state. -/
def Core.keptObjs (s : Core) (bad : Nat) : Tab Nat :=
  let l := Obj.KEY_SLOT :: dictionary.filter (fun o => o.ownPartition && !bit bad (partitionOf o))
  s.objs.filter (fun e => l.any (fun o => o.hasKey e.1))

/-- Every object at its value after a reset (R460): what is kept, then what the journal restores. -/
def Core.resetObjs (s : Core) (bad : Nat) : Tab Nat := (s.restored bad).1.foldl (fun t e => Tab.set t e.1 e.2) (s.keptObjs bad)

/-- A port's Thimble record as the journal holds it (R188): confirmed values, ACC, the update in flight. -/
def Core.thimRestore (s : Core) (e : Nat × ThimEntry) : Core :=
  ((((s.wr Obj.CARRIER_ID 0 e.1 e.2.carrier).wr Obj.COUNT 0 e.1 e.2.base).wr Obj.CSEQ 0 e.1 e.2.cseq).wr Obj.PENDING_PL 0 e.1 e.2.acc).updThim e.1
    (fun x => { x with flight := e.2.flight })

/-- What a device reset leaves (R529): the retention store, programmed keys, what has been sent; everything else at its reset value. -/
def Core.cleared (s : Core) (bad : Nat) : Core :=
  (if bit bad 1 then [] else s.thimJ).foldl Core.thimRestore
  { clk := s.clk, out := s.out, freeCount := s.freeCount, lastStatus := s.lastStatus, mode := .off, phase := .steady
    objs := s.resetObjs bad
    journal := if bit bad 0 then [] else s.journal
    logRet := if bit bad 2 then [] else s.logRet
    thimJ := if bit bad 1 then [] else s.thimJ
    orphanAge := if bit bad 1 then [] else s.orphanAge
    slotKeys := s.slotKeys, roleKeys := s.roleKeys
    dramEcc := s.dramEcc
    bist := { repairs := if bit bad 3 then [] else s.bist.repairs }
    bistWasCut := s.bistWasCut || s.bist.cut
    causes := s.causes, resetLow := s.resetLow, testEn := s.testEn, tapIr := s.tapIr, tapBoundary := s.tapBoundary }

/-- OFF (R515): every island is held in reset, outputs stand at their held-safe levels; nothing is logged. `cause` is the reset kind that will follow. -/
def Core.powerOff (s : Core) (cause : Nat) : Core :=
  let rails := s.rd0 Obj.RAIL_STATE
  let t := s.cleared 0
  (({ t with causes := putBit t.causes cause true }).wr0 Obj.RAIL_STATE rails).emit .safeOutputs 1 [] []

/-! ### Start-up (R525, R529 to R531) -/

/-- The banks take their retained owners (R307). -/
def Core.bankStates (s : Core) : Core :=
  s.each (List.range 50) (fun t b =>
    let own := bankFixed b || decide (t.rd Obj.SB_OWNER 0 b ≠ 0) || (bankDual b && decide (t.rd Obj.SB_OWNER_B 0 (b - 48) ≠ 0))
    if t.rd Obj.SB_STATE 0 b = b2n own then t else t.wr Obj.SB_STATE 0 b (b2n own))

/-- With STRAP_NET high both host ports use the recovery values until the next sample (R562). -/
def Core.strapNet (s : Core) : Core :=
  if bit (s.rd0 Obj.STRAPS) 2 then
    let use (t : Core) (o : Ob) (p v : Nat) : Core := { t with netUsed := Tab.set t.netUsed (o.key p 0) v }
    let t := s.each [0, 1] (fun t p => (use (use t Obj.hp_IPV4_ADDR p 0) Obj.hp_IPV6_ADDR p 0).wr Obj.hp_NET_PENDING p 0 1)
    use (use t Obj.FOP_PORT 0 47760) Obj.STREAM_PORT 0 47761
  else s

/-- RESET_CAUSE (Table 20-8). -/
def Core.resetCause (s : Core) (kinds : Nat) : Nat :=
  ofLe (leBytes 2 (((bitsSet 9 kinds).head?).getD 0) ++ leBytes 2 kinds ++ leBytes 4 0 ++ leBytes 8 (match s.journal.head? with | some r => r.tNs | none => 0))

/-- A device reset begins its start-up: `kinds` is the mask of its causes, `bad` the partitions that cannot be read, `straps` the levels sampled
(0 XTAL, 1 CONFIG, 2 NET, 3 TEST_EN). With TEST_EN high at a POWER_ON reset the device stays in OFF (R563). -/
def Core.startUp (s : Core) (m : List Host.Cell) (kinds bad straps : Nat) : Core × List Host.Cell :=
  let wake := decide (s.mode = .retain)
  let on := bit (s.causes ||| kinds) 1
  let test := if on then bit straps 3 else s.testEn
  let t := s.cleared bad
  let t := { t with causes := t.causes ||| kinds, testEn := test, resetLow := false, fromRetain := wake, tapIr := if on then 1 else t.tapIr }
  if test then (t, m)
  else
    let t := { t with phase := .waking, dramEcc := if wake then t.dramEcc else t.rdB Obj.DRAM_ECC 0 0 }
    let t := ((t.wr0 Obj.RESET_CAUSE (s.resetCause kinds)).inc0 Obj.RESET_COUNT).wr0 Obj.STRAPS (straps % 8)
    let t := if t.rdB Obj.DRAM_ECC 0 0 = t.dramEcc then t else t.wr0 Obj.DRAM_ECC_PENDING 1
    let t := t.addLog 65535 5 255 255 (((bitsSet 9 kinds).head?).getD 0) 0 0
    let t := (t.bankStates.softRepair).strapNet
    let faults := (s.restored bad).2
    let t := if 0 < faults then t.wr0 Obj.RESTORE_FAULTS faults else t
    let t := if 0 < faults ∨ bad % 32 ≠ 0 then t.occur 1584 0 else t
    let t := if bit bad 3 then t.wr0 Obj.BIST_VALID 0 else t
    let t := t.emit .mainEn 0 [1] []
    let t := if t.rdB Obj.BIST_VALID 0 0 then t else (((t.wr0 Obj.START_PATH 1).occur 2004 0).bistStart 2)
    let m1 := Memory.clear m spoolBase (spoolBase + spoolSize)
    (t, if wake then m1 else Memory.clear m1 0 spoolBase)

/-- Every rail is good. -/
def Core.railsGood (s : Core) : Bool := decide (s.rd0 Obj.RAIL_STATE = 0x3FF)

/-- A wake from RETAIN of a kind: at once where every rail is good, else once the main rails are (R517). -/
def Core.wake (s : Core) (m : List Host.Cell) (kind bad straps : Nat) : Core × List Host.Cell :=
  if s.railsGood then s.startUp m (2 ^ kind) bad straps
  else ((({ s with railWait := true, phase := .waking, causes := putBit s.causes kind true }).disarm .wakeAfter 0).arm .mainRail 0 (ms 100)
    |>.emit .mainEn 0 [1] [], m)

/-- RAIL_GOOD: all ten rails have stayed good for 1 ms; no rail is below or above its thresholds any more (Table 19-12). -/
def Core.railGood (s : Core) (m : List Host.Cell) (bad straps : Nat) : Core × List Host.Cell :=
  let t := s.wr0 Obj.RAIL_STATE 0x3FF
  if s.mode = .retain ∧ s.railWait then t.startUp m (s.causes % 512) bad straps
  else if s.mode = .off ∧ s.phase = .steady ∧ !s.resetLow ∧ s.causes ≠ 0 then t.startUp m (s.causes % 512) bad straps
  else ((t.each (List.range 20) (fun t r => t.level (256 + r) 0 false)).level 1488 0 false, m)

/-- RAIL_WARNING (R516). -/
def Core.railWarning (s : Core) (r : Nat) : Core :=
  if r < 10 ∧ (s.running ∨ s.phase = .waking) then
    (s.wr0 Obj.RAIL_STATE (putBit (s.rd0 Obj.RAIL_STATE) r false)).level (256 + r) 0 true
  else s

/-- RAIL_WARNING_END: VDRV is back at 8.0 V (R516); it is above the threshold of VDRV_UV too. -/
def Core.railWarningEnd (s : Core) : Core :=
  ((s.wr0 Obj.RAIL_STATE (putBit (s.rd0 Obj.RAIL_STATE) 9 true)).level 265 0 false).level 1488 0 false

/-- RAIL_OVERVOLTAGE (R516). -/
def Core.railOver (s : Core) (r : Nat) : Core :=
  if r < 10 ∧ (s.running ∨ s.phase = .waking) then
    (s.wr0 Obj.RAIL_STATE (putBit (s.rd0 Obj.RAIL_STATE) r false)).level (266 + r) 0 true
  else s

/-- RAIL_OFF: a rail from 0 to 8 is below its off threshold (R516, R517). -/
def Core.railOff (s : Core) (r : Nat) : Core :=
  if 9 ≤ r then s
  else
    let t := s.wr0 Obj.RAIL_STATE (putBit (s.rd0 Obj.RAIL_STATE) r false)
    let cause := if r = 7 then 1 else 2
    if s.mode = .retain ∧ !(r = 4 ∨ r = 5 ∨ r = 7) then t
    else if s.mode = .off ∧ s.phase = .steady then (if r = 7 then { t with causes := 2 } else t)
    else t.powerOff cause

/-- MAIN_RAIL_TIMEOUT (R517). -/
def Core.mainRailTimeout (s : Core) : Core := if s.mode = .retain ∧ s.railWait ∧ s.due .mainRail 0 then s.powerOff 2 else s

/-- RESET_N has been low for 1 µs (R525). -/
def Core.resetNLow (s : Core) : Core :=
  let t := if s.mode = .retain ∨ (s.mode = .off ∧ s.phase = .steady) then s else s.powerOff 4
  { t with resetLow := true }

/-- RESET_N rises (R525). -/
def Core.resetNRise (s : Core) (m : List Host.Cell) (bad straps : Nat) : Core × List Host.Cell :=
  if !s.resetLow then (s, m)
  else
    let t := { s with resetLow := false }
    if s.mode = .retain then t.wake m 4 bad straps
    else if s.railsGood then t.startUp m 16 bad straps
    else ({ t with causes := putBit t.causes 4 true }, m)

/-! ### CONFIG is reached (R530, R532) -/

/-- DRAM after its initialisation (R309 to R313). -/
def Core.dramStart (s : Core) (a b : Nat) (trained kept : Bool) : Core :=
  let t := (s.wr Obj.DRAM_FITTED 0 0 a).wr Obj.DRAM_FITTED 0 1 b
  if !trained ∨ a = 0 ∨ (b ≠ 0 ∧ b ≠ a) then (t.wr0 Obj.DRAM_STATE 5).occur 1431 0
  else
    let t := t.wr0 Obj.DRAM_SIZE (if t.dramEcc then (a + b) / 8 * 7 else a + b)
    if t.fromRetain ∧ kept then (t.wr0 Obj.DRAM_STATE 3).wr0 Obj.DRAM_SCRUB_POS (t.rd0 Obj.DRAM_SIZE)
    else
      let t := t.wr0 Obj.DRAM_STATE 2
      if t.fromRetain then t.occur 1432 0 else t

/-- The start-up tests or the fast-path checks have ended. -/
def Core.startReady (s : Core) : Bool :=
  decide (s.mode = .off) && decide (s.phase = .waking) && decide (s.bist.kind = 0) && (s.rdB Obj.BIST_VALID 0 0 || decide (s.rd0 Obj.START_PATH = 1))

/-- The previous span ended by RAIL, WATCHDOG or SAFE_AUTO. -/
def Core.unexpected (s : Core) : Bool := bit s.causes 2 || bit s.causes 3 || bit s.causes 6

/-- CONFIG is entered (R530): FOP answers, the ring and host ports start, bring-up begins. -/
def Core.enterConfig (s : Core) : Core :=
  let t := ((({ s with phase := .steady, configReached := true }).setMode .config).settle).arm .loadWindow 0 (ns 1048576)
  let t := t.wr0 Obj.T_CONFIG_NS t.ftNs
  let t := t.when s.unexpected (fun t => t.occur 530 0)
  let t := t.when s.bistWasCut (fun t => t.occur 2003 0)
  let t := { t.bistRaise with causes := 0, bistWasCut := false }
  let t := t.ringRestart.pairSetup
  t.when (decide (t.mode = .config) && !bit (t.rd0 Obj.STRAPS) 1) Core.beginBringup

/-- STARTUP_COMPLETE: DRAM is up, and CONFIG follows unless a fatal fault came first. -/
def Core.startupComplete (s : Core) (m : List Host.Cell) (a b : Nat) (trained kept retBad : Bool) : Core × List Host.Cell :=
  if !s.startReady then (s, m)
  else
    let t := s.dramStart a b trained kept
    let m' := if t.rd0 Obj.DRAM_STATE = 2 then Memory.clear m 0 spoolBase else m
    let t := t.when (retBad && decide (t.rd0 Obj.START_PATH = 1)) (fun t => t.occur 2001 0)
    (t.when (decide (t.mode = .off)) Core.enterConfig, m')

/-! ### Monitors (R520, R523, R524, R535) -/

/-- FT is locked to the ring or to PTP. -/
def Core.ftLocked (s : Core) : Bool := decide (s.rd0 Obj.FT_STATE = 1 ∨ s.rd0 Obj.FT_STATE = 2)

/-- CLOCK_MONITOR_CHECK: the XTAL input is absent or more than 5% off, SDREF is (log entry 185), and |FT_TRIM| beyond 60 ppm while FT is locked. -/
def Core.clockCheck (s : Core) (xtal sdref : Bool) : Core :=
  if !s.running ∧ s.phase ≠ .waking then s
  else
    let st := if xtal then 1 else if sdref then 2 else 0
    let t := (s.wr0 Obj.OSC_STATE st).level 528 0 xtal
    let t := if st = 2 ∧ s.rd0 Obj.OSC_STATE ≠ 2 then t.occur 528 0 else t
    let drift := t.ftLocked && decide (257698 < (t.rdI Obj.FT_TRIM 0 0).natAbs)
    let u := { t with driftRaised := t.ftLocked && (t.driftRaised || drift) }
    if drift ∧ !t.driftRaised then u.occur 529 0 else u

/-- What loses an island that is in reset or without its clock: a Thread port to FAULT, a SerDes lane's link. -/
def Core.laneLost (s : Core) (i : Nat) : Core :=
  if i < 64 then (if s.link i = lkOff ∨ s.link i = lkFault then s else s.portFault i)
  else if i < 66 then s.wr Obj.hp_PORT_LINK (i - 64) 0 0
  else if i < 68 then s.ringDown (i - 66)
  else s

/-- CLK_FAIL of an island (R523). -/
def Core.clockFail (s : Core) (i : Nat) : Core :=
  if 84 ≤ i ∨ s.rd Obj.ISLAND_STATE 0 i ≠ 2 ∨ (!s.running ∧ s.phase ≠ .waking) then s
  else (((s.wr Obj.ISLAND_STATE 0 i 3).laneLost i).level (276 + i) 0 true)

/-- An island goes into reset for 10 µs. -/
def Core.islandDown (s : Core) (i : Nat) : Core :=
  ({ s with islandsDown := i :: s.islandsDown.filter (· ≠ i) }.wr Obj.ISLAND_STATE 0 i 1).arm .islandReset i (us 10)

/-- The owner code of an island that holds Spool banks. -/
def ownerOfIsland (v : Nat) : Nat := if v = 0x48 then 3 else if v = 0x4A then 2 else if v = 0x42 ∨ v = 0x43 then 6 else 0

/-- The banks of an island that is reset alone are quarantined (R293). -/
def Core.quarantineIsland (s : Core) (v : Nat) : Core := if ownerOfIsland v = 0 then s else s.quarantineOwner (ownerOfIsland v)

/-- ISLAND_CLOCK_RETURN: a Thread or SerDes island whose clock is back is reset; every other stays CLOCK_FAILED. -/
def Core.clockReturn (s : Core) (i : Nat) : Core :=
  if i < 68 ∧ s.rd Obj.ISLAND_STATE 0 i = 3 then ((s.quarantineIsland i).islandDown i).level (276 + i) 0 false else s

/-- ISLAND_RESET_DONE: the island runs again; a ring port goes through joining. -/
def Core.islandUp (s : Core) (i : Nat) : Core :=
  if s.islandsDown.contains i ∧ s.due .islandReset i then
    let t := ({ s with islandsDown := s.islandsDown.filter (· ≠ i) }.disarm .islandReset i).wr Obj.ISLAND_STATE 0 i 2
    let t := if 66 ≤ i ∧ i < 68 then t.ringDown (i - 66) else t
    let t := if i < 64 ∧ t.link i = lkFault then (t.level (768 + i) 0 false).portOff i else t
    if t.rd0 Obj.ISLAND_RESET = i then t.endComp Obj.ISLAND_RESET 0 0 true else t
  else s

/-- The islands that can be reset alone (Table 20-3). -/
def resettable (v : Nat) : Bool := decide (v < 68) || [0x48, 0x4A, 0x52].contains v

/-- ISLAND_RESET (R526). -/
def chkIslandReset : WrChk := fun s _ _ _ v =>
  worse (valueIf !resettable v)
    (stateIf ((decide (v < 64) && !(decide (s.link v = lkOff ∨ s.link v = lkFault))) || (decide (v = 0x48) && s.inPrint)
      || (decide (v = 0x4A) && !(List.range 128).all (fun k => decide (s.chState k = chDisabled))) || (decide (v = 0x52) && decide (s.mode = .park))))

/-- An island is reset alone: its banks are quarantined, what it held is lost. -/
def actIslandReset : WrAct := fun _ _ _ v s0 =>
  let s := s0.setCompO Obj.ISLAND_RESET 0 0 1
  let t := s.quarantineIsland v
  let t := if v = 0x48 then { t.each [0, 1, 2, 3] (fun t d => t.wr Obj.dec_DEC_STATE d 0 0) with decs := [] } else t
  let t := if v < 64 ∧ t.link v = lkFault then (t.level (768 + v) 0 false).portOff v else if 64 ≤ v ∧ v < 68 then t.laneLost v else t
  t.islandDown v

/-! ### The commands -/

/-- RAIL_GOOD (R514, R525). -/
def execRailGood (dt bad straps : Nat) (s : State) : Host.Outcome State Fault Refusal := onBoth (fun c m => (c.advance dt).railGood m bad straps) s

/-- RAIL_WARNING (R516). -/
def execRailWarning (dt rail : Nat) (s : State) : Host.Outcome State Fault Refusal := onCore (fun c => (c.advance dt).railWarning rail) s

/-- RAIL_WARNING_END (R589). -/
def execRailWarningEnd (dt : Nat) (s : State) : Host.Outcome State Fault Refusal := onCore (fun c => (c.advance dt).railWarningEnd) s

/-- RAIL_OFF (R516). -/
def execRailOff (dt rail : Nat) (s : State) : Host.Outcome State Fault Refusal := onCore (fun c => (c.advance dt).railOff rail) s

/-- RAIL_OVERVOLTAGE (R516). -/
def execRailOvervoltage (dt rail : Nat) (s : State) : Host.Outcome State Fault Refusal := onCore (fun c => (c.advance dt).railOver rail) s

/-- MAIN_RAIL_TIMEOUT (R517). -/
def execMainRailTimeout (dt : Nat) (s : State) : Host.Outcome State Fault Refusal := onCore (fun c => (c.advance dt).mainRailTimeout) s

/-- RESET_N_LOW (R525). -/
def execResetNLow (dt : Nat) (s : State) : Host.Outcome State Fault Refusal := onCore (fun c => (c.advance dt).resetNLow) s

/-- RESET_N_RISE (R525). -/
def execResetNRise (dt bad straps : Nat) (s : State) : Host.Outcome State Fault Refusal := onBoth (fun c m => (c.advance dt).resetNRise m bad straps) s

/-- WAKE_N_FALL (R489): only in RETAIN; with RESET_N low the wake is that of its rising edge (Table 22-11). -/
def execWakeNFall (dt bad straps : Nat) (s : State) : Host.Outcome State Fault Refusal :=
  onBoth (fun c m =>
    let t := c.advance dt
    if t.mode = .retain ∧ !t.railWait ∧ !t.resetLow then t.wake m 7 bad straps else (t, m)) s

/-- WAKE_AFTER_EXPIRY (R489). -/
def execWakeAfterExpiry (dt bad straps : Nat) (s : State) : Host.Outcome State Fault Refusal :=
  onBoth (fun c m =>
    let t := c.advance dt
    if t.mode = .retain ∧ !t.railWait ∧ t.due .wakeAfter 0 then t.wake m 7 bad straps else (t, m)) s

/-- STARTUP_COMPLETE (R530). -/
def execStartupComplete (dt dramA dramB : Nat) (trained kept retBad : Bool) (s : State) : Host.Outcome State Fault Refusal :=
  onBoth (fun c m => (c.advance dt).startupComplete m dramA dramB trained kept retBad) s

/-- WDOG_RESET_DELAY (R505). -/
def execWdogResetDelay (dt bad straps : Nat) (s : State) : Host.Outcome State Fault Refusal :=
  onBoth (fun c m => let t := c.advance dt; if t.wdogExpired ∧ t.due .wdogReset 0 then t.startUp m 8 bad straps else (t, m)) s

/-- SAFE_AUTO_RESET has passed since entry to SAFE, and SAFE_CAUSE names no FIXED source (R505). -/
def Core.safeAutoDue (s : Core) : Bool :=
  decide (s.mode = .safe) && decide (s.rd0 Obj.SAFE_AUTO_RESET ≠ 0) && !srcField false (·.fixed) (s.rd0 Obj.SAFE_CAUSE / 2 ^ 80 % 65536)
    && (match s.safeSince with | some c => decide (c + sec (s.rd0 Obj.SAFE_AUTO_RESET) ≤ s.clk) | none => false)

/-- SAFE_AUTO_RESET_EXPIRY (R505). -/
def execSafeAutoResetExpiry (dt bad straps : Nat) (s : State) : Host.Outcome State Fault Refusal :=
  onBoth (fun c m => let t := c.advance dt; if t.safeAutoDue then t.startUp m 64 bad straps else (t, m)) s

/-- CLOCK_MONITOR_CHECK (R520). -/
def execClockMonitorCheck (dt : Nat) (xtal sdref : Bool) (s : State) : Host.Outcome State Fault Refusal :=
  onCore (fun c => (c.advance dt).clockCheck xtal sdref) s

/-- ISLAND_CLOCK_WINDOW (R523): no count is made while the XTAL has failed. -/
def execIslandClockWindow (dt island : Nat) (off : Bool) (s : State) : Host.Outcome State Fault Refusal :=
  onCore (fun c => let t := c.advance dt; if off ∧ t.rd0 Obj.OSC_STATE ≠ 1 then t.clockFail island else t) s

/-- ISLAND_CLOCK_ABSENT (R523). -/
def execIslandClockAbsent (dt island : Nat) (s : State) : Host.Outcome State Fault Refusal := onCore (fun c => (c.advance dt).clockFail island) s

/-- ISLAND_CLOCK_RETURN (R523). -/
def execIslandClockReturn (dt island : Nat) (s : State) : Host.Outcome State Fault Refusal := onCore (fun c => (c.advance dt).clockReturn island) s

/-- REG_PARITY_PASS (R524): each island that received a word of wrong parity at a crossing raises XING (R522; log entry 186), each with a failing
register REG_PAR. -/
def execRegParityPass (dt : Nat) (fails : List ParityFail) (s : State) : Host.Outcome State Fault Refusal :=
  onCore (fun c =>
    let t := c.advance dt
    if t.running ∨ t.phase = .waking then
      let t := t.each ((List.range 84).filter (fun i => fails.contains ⟨i, true⟩)) (fun t i => t.occur (360 + i) 0)
      t.each ((List.range 84).filter (fun i => fails.contains ⟨i, false⟩)) (fun t i => t.occur (444 + i) 0)
    else t) s

/-- REFERENCE_COMPARE (Table 20-9). -/
def execReferenceCompare (dt : Nat) (differ : Bool) (s : State) : Host.Outcome State Fault Refusal :=
  onCore (fun c => let t := c.advance dt; if t.running ∨ t.phase = .waking then t.level 531 0 differ else t) s

/-- ISLAND_RESET_DONE (R526). -/
def execIslandResetDone (dt island : Nat) (s : State) : Host.Outcome State Fault Refusal := onCore (fun c => (c.advance dt).islandUp island) s

end Sys2Proof.Machine
end

