-- ==== Sys2Proof/Machine/FopRules.lean ====
section
/-! DEFINITION. The rule each chapter gives a write of its objects: the role it needs (R432), its check, what it brings about. Objects that stand in no list
have no rule of their own. Also the dictionary service record (R461 to R467) and ROLE_KEY (R428). -/

namespace Sys2Proof.Machine

open Sys2Proof

/-- The rule of an object: a check and an action, which may depend on the session that writes. -/
structure WriteRule where
  ob : Ob
  chk : Caller → WrChk
  act : Caller → WrAct

/-- A rule that does not depend on the session. -/
def rule (o : Ob) (c : WrChk) (a : WrAct) : WriteRule := ⟨o, fun _ => c, fun _ => a⟩

/-! ### Roles (R432, Table 16-3) -/

/-- Objects whose chapter asks for SERVICE. -/
def serviceObjects : List Ob :=
  [Obj.ORPHAN_ACK, Obj.RESTORE_FACTORY, Obj.HOST_TIMEOUT, Obj.FAULT_IN_POL, Obj.SAFE_AUTO_RESET, Obj.ISLAND_RESET]

/-- The object is one of a list, by its place in the dictionary. -/
def Ob.among (o : Ob) (l : List Ob) : Bool := l.any (fun p => decide (p.idx = o.idx ∧ p.sub = o.sub))

/-- The lowest role that may write a value to an element. -/
def Core.needRole (s : Core) (o : Ob) (i v : Nat) : Nat :=
  if o.acc = .ro ∨ o.acc = .konst then 1
  else if o.among [Obj.ROLE_KEY, Obj.KEY_LOAD, Obj.KEY_REVOKE] then 3
  else if o.idx = 0x8800 then (if o.sub = 1 then 1 else srcRole s o.sub i v)
  else if decide (0x1000 ≤ o.idx ∧ o.idx ≤ 0x1FFF) || decide (0x9800 ≤ o.idx ∧ o.idx ≤ 0x9BFF) || o.among serviceObjects then 2
  else 1

/-! ### Role keys (R428) -/

/-- ROLE_KEY: in CONFIG; the unwrap must succeed. -/
def chkRoleKey : WrChk := fun s _ _ _ v =>
  worse (stateIf (decide (s.mode ≠ .config))) (valueIf (Crypto.kwUnwrap Config.dtk (leBytes 40 v)).isNone)

/-- An accepted key replaces the slot's, and every session of the role ends. -/
def actRoleKey : WrAct := fun _ _ r v s =>
  match Crypto.kwUnwrap Config.dtk (leBytes 40 v) with
  | none => s
  | some k => ({ s with roleKeys := Tab.set s.roleKeys r k }).endRole r

/-! ### The dictionary service record -/

/-- A register has side effects (R466: W1C, CNT, SC, ACT). -/
def sideEffects (l : List Config.RegField) : Bool := l.any (fun f => decide (3 ≤ f.typ ∧ f.typ ≤ 6))

/-- Fields of a register, none where it does not exist. -/
def regFields (r : Nat) : List Config.RegField := (Config.regs r).getD []

/-- REG_LOOKUP_RESULT for an element (R467). -/
def lookupBytes (v : Nat) : List Byte :=
  match Config.regOf v with
  | none => leBytes 4 0xFFFFFFFF ++ List.replicate 12 0
  | some (r, n) =>
    let side := sideEffects (regFields r) || (decide (n = 2) && sideEffects (regFields (r + 1)))
    let types := (regFields r).take 8
    leBytes 4 r ++ leBytes 1 n ++ leBytes 1 (b2n side) ++ [0, 0] ++ leBytes 8 (types.mapIdx (fun i f => f.typ % 16 * 16 ^ i)).sum

/-- REG_LOOKUP. -/
def actLookup : WrAct := fun _ _ _ v s => s.wr0 Obj.REG_LOOKUP_RESULT (ofLe (lookupBytes v))

/-- JOURNAL_SYNC: DONE at once when nothing waits, FAILED while the journal fails, else PENDING (R463, R472). -/
def actSync : WrAct := fun _ _ _ v s =>
  if v = 1 ∧ !s.dirty.isEmpty then s.setCompO Obj.JOURNAL_SYNC 0 0 (if s.journalFailing then 3 else 1) else s

/-- A string is well-formed UTF-8 (R457): `need` continuation bytes are still to come, the next of them within `lo` and `hi`. -/
def utf8From : List Byte → Nat → Nat → Nat → Bool
  | [], need, _, _ => decide (need = 0)
  | b :: t, 0, _, _ =>
    let n := b.toNat
    if n < 0x80 then utf8From t 0 0 0
    else if 0xC2 ≤ n ∧ n ≤ 0xDF then utf8From t 1 0x80 0xBF
    else if n = 0xE0 then utf8From t 2 0xA0 0xBF
    else if n = 0xED then utf8From t 2 0x80 0x9F
    else if 0xE1 ≤ n ∧ n ≤ 0xEF then utf8From t 2 0x80 0xBF
    else if n = 0xF0 then utf8From t 3 0x90 0xBF
    else if 0xF1 ≤ n ∧ n ≤ 0xF3 then utf8From t 3 0x80 0xBF
    else if n = 0xF4 then utf8From t 3 0x80 0x8F
    else false
  | b :: t, k + 1, lo, hi => decide (lo ≤ b.toNat ∧ b.toNat ≤ hi) && utf8From t k 0x80 0xBF

/-- DEVICE_NAME. -/
def chkName : WrChk := fun _ _ _ _ v => valueIf !(utf8From (unpackBytes v) 0 0 0)

/-- RESTORE_FACTORY: in CONFIG, no locked sequence open but the session's own; at least one group. -/
def chkRestore (c : Caller) : WrChk := fun s _ _ _ v =>
  worse (stateIf (decide (s.mode ≠ .config) || s.sess.any (fun p => decide (p.1 ≠ c.h) && p.2.txn.isSome)))
    (valueIf (decide (v = 0 ∨ 8 ≤ v)))

/-! ### The rules by chapter -/

/-- MODE_REQ of a session the host lock bars (R507). -/
def chkModeReqOf (c : Caller) : WrChk := fun s t i j v => worse (stateIf (s.lockBars c)) (chkModeReq s t i j v)

/-- PARK_TARGET is not written in PARK (R493). -/
def chkParkTarget : WrChk := fun s _ _ _ _ => stateIf (decide (s.mode = .park))

/-- SWEEP_REQ: READY, PARK, or SERVICE with no spit run (R169). -/
def chkSweepReq : WrChk := fun s _ _ _ _ => stateIf !s.sweepsRun

/-- MEAS_REQ and MEAS_REQ_JS (R155). -/
def chkMeas : WrChk := chkModes [.ready, .printWeb, .printScan, .service, .park]

/-- Ephemeris, Fire Sequencing (ch. 2, 3). -/
def rules02 : List WriteRule :=
  [rule Obj.PACE_SRC chkSetup actPace, rule Obj.PACE_AXIS chkSetup actPace, rule Obj.TACK_NOW chkNone actTackNow,
   rule Obj.FT_STEP chkFtStep actFtStep, rule Obj.fb_MODE chkFbMode actFbMode, rule Obj.fb_T_CNT_ON chkTCnt actNone,
   rule Obj.fb_T_CNT_OFF chkTCnt actNone, rule Obj.fb_SSI_BITS chkSsi actNone, rule Obj.fb_SSI_CLK chkSsi actNone,
   rule Obj.fb_SSI_PERIOD chkSsi actNone, rule Obj.fb_SSI_RECOVERY chkSsi actNone, rule Obj.RG_OFFSET chkNoFrames actNone,
   rule Obj.RG_FLIGHT chkNoFrames actNone, rule Obj.PORT_DATUM chkNoFrames actNone, rule Obj.port_F_SET chkFSet actFSet,
   rule Obj.port_PHASE_GROUPS chkPhaseGroups actPhaseGroups, rule Obj.port_ROTATION chkRotation actRotation,
   rule Obj.GATE_LEAD chkNotPrint actNone, rule Obj.F_SET_ALL chkFSetAll actFSetAll]

/-- Spit patterns and runs (R83 to R86). -/
def rules03 : List WriteRule :=
  [Obj.spat_COLUMNS, Obj.spat_ADDR_MASK, Obj.spat_EVERY, Obj.spat_ENERGY, Obj.spat_INCLUDE, Obj.spat_PORTS].map (fun o => rule o chkPattern actNone)
  ++ [rule Obj.SPIT_RUN chkSpitRun actSpitRun, rule Obj.SPIT_ABORT chkNone actSpitAbort]

/-- Bobbin (ch. 4): the tables of R106 first. -/
def rules04 : List WriteRule :=
  [rule Obj.K_CAL chkNone (actTable Obj.K_CAL byNozzle), rule Obj.E_DIE chkNone (actTable Obj.E_DIE bySub),
   rule Obj.K_ROW chkNone (actTable Obj.K_ROW bySub), rule Obj.EPT chkNone actEpt, rule Obj.WEAK_TRIM chkNone (actTable Obj.WEAK_TRIM bySub),
   rule Obj.THERM_COEF chkNone (actTable Obj.THERM_COEF bySub), rule Obj.T_REF chkNone (actTable Obj.T_REF bySub),
   rule Obj.K_THERM_MIN chkKTherm (actTable Obj.K_THERM_MIN bySub), rule Obj.K_THERM_MAX chkKTherm (actTable Obj.K_THERM_MAX bySub),
   rule Obj.HIST chkNone (actTable Obj.HIST byIdx), rule Obj.NBR chkNone (actTable Obj.NBR byIdx),
   rule Obj.G_E chkNone actModelParam, rule Obj.A_DECAY chkNone actModelParam, rule Obj.STATS_CLEAR chkNone actStatsClear]

/-- Thread, head health, Thimble (ch. 5 to 7). -/
def rules05 : List WriteRule :=
  [rule Obj.port_PORT_ENABLE chkSetup actPortEnable, rule Obj.port_PORT_RESET chkSetup actPortReset, rule Obj.port_TABLE_LOAD chkTableLoad actTableLoad,
   rule Obj.NOZZLE_MAP chkNozzleMap actNozzleMap, rule Obj.MEAS_REQ chkMeas actMeasReq, rule Obj.MEAS_REQ_JS chkMeas actMeasReqJs,
   rule Obj.SWEEP_REQ chkSweepReq actSweepReq, rule Obj.SWEEP_CANCEL chkNone actSweepCancel, rule Obj.BASELINE chkBaseline actBaseline,
   rule Obj.DRY_CLEAR chkNotPrint actDryClear, rule Obj.DRIFT_WEAK chkDrift actNone, rule Obj.DRIFT_DEAD chkDrift actNone,
   rule Obj.RISE1_DIE chkRise actNone, rule Obj.RISE2_DIE chkRise actNone, rule Obj.RISE3_DIE chkRise actNone, rule Obj.RISE1_JS chkRise actNone,
   rule Obj.RISE2_JS chkRise actNone, rule Obj.RISE3_JS chkRise actNone, rule Obj.hsv_HS_UV chkHs actNone, rule Obj.hsv_HS_OV chkHs actNone,
   rule Obj.KEY_LOAD chkKeyLoad actKeyLoad, rule Obj.KEY_REVOKE chkConfig actKeyRevoke, rule Obj.COMMIT_NOW chkNone actCommitNow,
   rule Obj.THIM_RETRY chkNone actThimRetry, rule Obj.ORPHAN_ACK chkNone actOrphanAck, rule Obj.DROP_VOL chkDropVol actNone,
   rule Obj.VERIFY_REQ chkVerify actVerify]

/-- The raster path, Avone, the stream (ch. 8 to 10). -/
def rules08 : List WriteRule :=
  [rule Obj.INTERLEAVE chkSetup actNone, rule Obj.SUBCOL chkSetup actNone, rule Obj.DIST chkDist actNone, rule Obj.RG_MAP chkRgMap actNone,
   rule Obj.ms_PW chkMask actMaskGeometry, rule Obj.ms_PH chkMask actMaskGeometry, rule Obj.ms_PASSES chkMask actMaskGeometry,
   rule Obj.ms_X0 chkMask actNone, rule Obj.ms_L0 chkMask actNone, rule Obj.ms_MASK_DATA chkMaskData actMaskData,
   rule Obj.PRESET_DATA chkPreset actPreset, rule Obj.dec_REQ_TAIL (chkTail 16 Obj.dec_REQ_HEAD Obj.dec_REQ_TAIL) actNone,
   rule Obj.dec_OUT_TAIL (chkTail 256 Obj.dec_OUT_HEAD Obj.dec_OUT_TAIL) actOutTail, rule Obj.dec_DONE_TAIL chkDoneTail actNone,
   rule Obj.dec_DEC_ABORT chkNone actDecAbort, rule Obj.STREAM_CTRL chkStreamCtrl actStreamCtrl,
   rule Obj.STAGE_BASE chkStage actNone, rule Obj.STAGE_SIZE chkStage actNone, rule Obj.COMET_LA chkLA actNone, rule Obj.RESUME_LA chkLA actNone]

/-- STREAM_PORT is not the FOP port, and a change waits for CLOSED (Table 10-12). -/
def chkStreamPort : WrChk := fun s t i j v => worse (chkStage s t i j v) (chkPorts s t i j v)

/-- DMA, Spool, DRAM (ch. 10, 11). -/
def rules10 : List WriteRule :=
  [rule Obj.STREAM_PORT chkStreamPort actNone, rule Obj.dma_ENABLE chkDmaEnable actDmaEnable, rule Obj.dma_PRIORITY chkDmaShare actNone,
   rule Obj.dma_PACE_MODE chkDma actNone, rule Obj.dma_SHARE chkDmaShare actDmaShare, rule Obj.dma_BUCKET chkDmaShare actDmaShare,
   rule Obj.dma_TAIL chkDmaTail actDmaTail, rule Obj.dma_RESUME chkDma actDmaResume, rule Obj.dma_ABORT chkDma actDmaAbort,
   rule Obj.DESC_RING chkDma actNone, rule Obj.SB_OWNER chkOwner actOwner, rule Obj.SB_OWNER_B chkOwnerB actOwnerB,
   rule Obj.SP_ATOMIC chkAtomic actNone, rule Obj.MEM_ADDR chkMemAddr actNone, rule Obj.MEM_DATA chkMemData actNone,
   rule Obj.DRAM_ECC chkNone actDramEcc]

/-- Motion (ch. 12). -/
def rules12 : List WriteRule :=
  [rule Obj.SERVO_PERIOD chkServo actNone, rule Obj.CAP_SEQ chkCapSeq actCapSeq, rule Obj.grp_MASTER chkMaster actMaster,
   rule Obj.grp_GEAR_ENGAGE chkGear actGear, rule Obj.grp_GROUP_STOP chkNone actGroupStop, rule Obj.ax_ROLE chkRole actNone,
   rule Obj.ax_GROUP chkGroup actGroup, rule Obj.ax_ENABLE chkEnable actEnable, rule Obj.ax_MOVE chkMove actMove,
   rule Obj.ax_V_MAX chkHome actNone, rule Obj.ax_STOP_DEC chkDec actNone, rule Obj.ax_SAFE_DEC chkSafeDec actArm,
   rule Obj.ax_SAFE_END chkSafeEnd actArm, rule Obj.ax_POS_MIN chkBounds actNone, rule Obj.ax_POS_MAX chkBounds actNone,
   rule Obj.ax_INPUT_POL chkNone actInputPol, rule Obj.ax_HOME_MODE chkHome actNone, rule Obj.ax_HOME_SPEED chkHome actNone, rule Obj.ax_SET_POS chkSetPos actSetPos,
   rule Obj.st_PWM_FREQ chkPwm actNone, rule Obj.st_STRONG_ON chkStrong actNone, rule Obj.st_STRONG_OFF chkStrong actNone,
   rule Obj.st_QUIET_VOLT chkStArmed actStArm, rule Obj.st_BEMF_K chkStArmed actStArm, rule Obj.st_HOLD_VOLT chkStArmed actStArm,
   rule Obj.st_VBUS_UV chkVbus actNone, rule Obj.st_VBUS_OV chkVbus actNone]

/-- The Comet, the ring, pairs (ch. 13 to 15). -/
def rules13 : List WriteRule :=
  [Obj.COMET_MODE, Obj.COMET_RUNOUT, Obj.COMET_MARGIN, Obj.COMET_STEP, Obj.COMET_STABLE, Obj.V_RES_MIN, Obj.COMET_SCALE, Obj.COMET_COLLECT].map
    (fun o => rule o chkComet actNone)
  ++ [rule Obj.NODE_ID chkSetup actRingConfig, rule Obj.RING_ROLE chkRingConfig actRingConfig, rule Obj.RING_EN chkRingConfig actRingEn,
      rule Obj.CAL_REQ chkCalReq actCalReq, rule Obj.RING_SWEEP_REQ chkRingSweep actRingSweep, rule Obj.PAIR_ROLE chkNotPrint actPairRole,
      rule Obj.PARTNER chkNotPrint actPairRole, rule Obj.PAIR_PORTS chkNotPrint actNone, rule Obj.TAKEOVER chkTakeover actTakeover,
      rule Obj.PAIR_SWITCH chkPairSwitch actPairSwitch]

/-- The host ports, FOP, the dictionary service (ch. 16, 17). RESTORE_FACTORY acts in the request pipeline. -/
def rules16 : List WriteRule :=
  [rule Obj.hp_MAC_ADDR chkMac (actNet Obj.hp_MAC_ADDR), rule Obj.hp_IPV4_ADDR chkNone (actNet Obj.hp_IPV4_ADDR),
   rule Obj.hp_IPV4_PREFIX chkNone (actNet Obj.hp_IPV4_PREFIX), rule Obj.hp_IPV4_GW chkNone (actNet Obj.hp_IPV4_GW),
   rule Obj.hp_IPV6_ADDR chkNone (actNet Obj.hp_IPV6_ADDR), rule Obj.hp_IPV6_PREFIX chkNone (actNet Obj.hp_IPV6_PREFIX),
   rule Obj.hp_IPV6_GW chkNone (actNet Obj.hp_IPV6_GW), rule Obj.FOP_PORT chkPorts actFopPort, rule Obj.ROLE_KEY chkRoleKey actRoleKey,
   rule Obj.DEVICE_NAME chkName actNone, rule Obj.REG_LOOKUP chkNone actLookup, rule Obj.JOURNAL_SYNC chkNone actSync,
   ⟨Obj.RESTORE_FACTORY, chkRestore, fun _ => actNone⟩]

/-- The reset that RESET_CMD asks for follows its response (R490). -/
def actReset : WrAct := fun _ _ _ _ s => s.arm .commandReset 0 (ms 1)

/-- Modes, Selvedge, power, self-test (ch. 18 to 21). -/
def rules18 : List WriteRule :=
  [⟨Obj.MODE_REQ, chkModeReqOf, fun _ => actModeReq⟩, rule Obj.PARK_TARGET chkParkTarget actNone, rule Obj.RESET_CMD chkNone actReset,
   ⟨Obj.src_STATUS, chkSourceStatus, fun _ => actSourceStatus⟩, rule Obj.src_FORCE chkNone actForce, rule Obj.src_MASK chkSrcPlain actNone,
   rule Obj.src_CLASS chkSrcClass actNone, rule Obj.src_REACTION chkSrcReaction actNone, rule Obj.src_ESC chkSrcPlain actNone,
   ⟨Obj.ACK_ALL, chkAckAll, fun _ => actAckAll⟩, rule Obj.TRIP_CMD chkNone actTrip, rule Obj.FAULT_IN_POL chkNone actFaultInPol, ⟨Obj.HOST_LOCK, chkHostLock, actHostLock⟩,
   rule Obj.ISLAND_RESET chkIslandReset actIslandReset, rule Obj.BIST_INVALIDATE chkNone actBistInvalidate]

/-- Every rule. -/
def writeRules : List WriteRule :=
  rules02 ++ rules03 ++ rules04 ++ rules05 ++ rules08 ++ rules10 ++ rules12 ++ rules13 ++ rules16 ++ rules18

/-- The rule of an object. -/
def ruleOf (o : Ob) : WriteRule :=
  (writeRules.find? (fun r => decide (r.ob.idx = o.idx ∧ r.ob.sub = o.sub))).getD (rule o chkNone actNone)

end Sys2Proof.Machine
end

