-- ==== Sys2Proof/Machine/FopRead.lean ====
section
/-! DEFINITION. What FOP reads (R435, R437, R454 to R460, R467 to R469): objects by index and subindex, values read live, type records, the raw window,
DESCRIBE, MEM_DATA. -/

namespace Sys2Proof.Machine

open Sys2Proof

/-! ### Objects by index and subindex (R454, R455) -/

/-- The two rows are one object. -/
def Ob.same (o p : Ob) : Bool := decide (o.idx = p.idx ∧ o.sub = p.sub)

/-- The object at an index and subindex, its instance and element. A source record exists for assigned sources alone. -/
def objectAt (idx sub : Nat) : Option (Ob × Nat × Nat) :=
  match dictionary.find? (fun o => (o.at idx sub).isSome) with
  | none => none
  | some o =>
    match o.at idx sub with
    | none => none
    | some (i, j) => if o.idx = 0x8800 ∧ !srcAssigned i then none else some (o, i, j)

/-- The object is an array, so that a run may be named (R435). -/
def Ob.isArray (o : Ob) : Bool := decide (o.shape = .zero ∨ o.shape = .one)

/-- An element of a primitive or nozzle array whose primitive is absent (R456). -/
def Core.absentElem (s : Core) (o : Ob) (j : Nat) : Bool :=
  decide (o.shape = .zero) && ((decide (o.nsub = 65536) && !s.primPresent (j / 1024) (j / 16 % 64)) || (decide (o.nsub = 4096) && !s.primPresent (j / 64) (j % 64)))

/-! ### Values (R9, R459) -/

/-- The stored bytes of an element; a member that is itself an array holds its elements one after another. -/
def Core.storedBytes (s : Core) (o : Ob) (i j : Nat) : List Byte :=
  if o.nel > 1 then (List.range o.nel).flatMap (fun k => leBytes o.size (s.rd o i k))
  else if o.size = 0 then unpackBytes (s.rd o i j)
  else leBytes o.size (s.rd o i j)

/-- The byte of a nozzle (Table 6-7): EFFECTIVE, HOST, SWEEP, DRY. -/
def Core.nozzleByte (s : Core) (n : Nat) : Nat :=
  let e := s.rd Obj.NOZZLE_MAP 0 n
  s.nozzle n + 4 * field e 3 2 + 16 * field e 5 4 + 64 * b2n (bit (s.rd0 Obj.DRY_FLAGS) (n / 1024))

/-- The SESSIONS record of a handle (Table 16-8). -/
def Core.sessionBytes (s : Core) (h : Nat) : List Byte :=
  let x := s.session h
  if x.st = 0 then List.replicate 32 0
  else leBytes 1 x.st ++ leBytes 1 x.role ++ leBytes 2 x.maxMsg ++ leBytes 4 x.n ++ leBytes 16 x.ip ++ leBytes 2 x.port
    ++ leBytes 1 (b2n x.txn.isSome + 2 * b2n (decide (x.mask ≠ 0))) ++ [0] ++ leBytes 4 x.mask

/-- Bytes of a changed element that the journal has not yet taken (R463). -/
def Core.dirtyBytes (s : Core) : Nat :=
  (s.dirty.map (fun k => match dictionary.find? (fun o => o.hasKey k) with
    | some o => if o.size = 0 then (unpackBytes (Tab.get 0 s.objs k)).length else o.size
    | none => 0)).sum

/-- What is read live: an object, and its value for an instance and element. -/
structure LiveRead where
  ob : Ob
  val : Core → Nat → Nat → List Byte

/-- The objects whose value follows other state. RAIL_MV and DRAM_SCRUB_POS are measurements and progress the spec gives no value for: free values. -/
def liveReads : List LiveRead :=
  [⟨Obj.MODE, fun s _ _ => leBytes 1 s.mode.code⟩, ⟨Obj.MODE_PHASE, fun s _ _ => leBytes 1 s.phase.code⟩,
   ⟨Obj.FT_NS, fun s _ _ => leBytes 8 s.ftNs⟩, ⟨Obj.fb_SPEED, fun s n _ => leBytes 4 (rawOf 32 (speedRaw (s.reported n)))⟩,
   ⟨Obj.SESSIONS, fun s _ j => s.sessionBytes (j + 1)⟩, ⟨Obj.SESSIONS_OPEN, fun s _ _ => leBytes 1 (s.sess.filter (fun p => decide (p.2.st ≠ 0))).length⟩,
   ⟨Obj.FAULT_LOG, fun s _ j => (s.log[j]?.map LogEntry.bytes).getD (List.replicate 32 0)⟩,
   ⟨Obj.FAULT_LOG_RET, fun s _ j => (s.logRet[j]?.map LogEntry.bytes).getD (List.replicate 32 0)⟩,
   ⟨Obj.RAISED_C, fun s _ _ => leBytes 2 (s.raisedCount 0)⟩, ⟨Obj.RAISED_U, fun s _ _ => leBytes 2 (s.raisedCount 1)⟩,
   ⟨Obj.RAISED_F, fun s _ _ => leBytes 2 (s.raisedCount 2)⟩, ⟨Obj.RAISED_MAP, fun s _ j => leBytes 8 (s.raisedMap j)⟩,
   ⟨Obj.src_STATUS, fun s n _ => leBytes 1 (s.srcStatus n)⟩,
   ⟨Obj.TACKS_FB, fun s i j => ((Tab.get [] s.tacks i)[j]?.map Tack.bytes).getD (List.replicate 32 0)⟩,
   ⟨Obj.TACKS_CMD, fun s _ j => ((Tab.get [] s.tacks 8)[j]?.map Tack.bytes).getD (List.replicate 32 0)⟩,
   ⟨Obj.TACKS_RING, fun s _ j => ((Tab.get [] s.tacks 9)[j]?.map Tack.bytes).getD (List.replicate 32 0)⟩,
   ⟨Obj.NOZZLE_MAP, fun s _ j => leBytes 1 (s.nozzleByte j)⟩,
   ⟨Obj.DRAM_SCRUB_POS, fun s i j =>
      if s.rd0 Obj.DRAM_STATE = 2 then leBytes 8 (Config.open_ s.freeCount % (s.rd0 Obj.DRAM_SIZE + 1)) else s.storedBytes Obj.DRAM_SCRUB_POS i j⟩,
   ⟨Obj.RAIL_MV, fun s _ j => leBytes 2 (Config.open_ (s.freeCount + j))⟩,
   ⟨Obj.JOURNAL_PENDING, fun s _ _ => leBytes 4 s.dirtyBytes⟩, ⟨Obj.ROLE_KEY, fun _ _ _ => List.replicate 40 0⟩,
   ⟨Obj.ROLE_KEY_INFO, fun s _ j => leBytes 4 (roleKeyInfo (s.roleKey j))⟩]

/-- The present value of an element; one of an absent primitive reads as zeros (R456). -/
def Core.valueBytes (s : Core) (o : Ob) (i j : Nat) : List Byte :=
  if s.absentElem o j then List.replicate o.size 0
  else match liveReads.find? (fun r => r.ob.same o) with
    | some r => r.val s i j
    | none => s.storedBytes o i j

/-- A read of the object takes free values. -/
def Ob.readsFree (o : Ob) : Bool := o.same Obj.RAIL_MV || o.same Obj.DRAM_SCRUB_POS

/-! ### Type records (R457, R458) -/

/-- SIZE, KIND and FRAC of a type index. -/
def typeRecord (t : Nat) : Option (Nat × Nat × Nat) :=
  if t = 1 then some (1, 0, 0)
  else if 2 ≤ t ∧ t ≤ 5 then some (2 ^ (t - 2), 1, 0)
  else if 6 ≤ t ∧ t ≤ 9 then some (2 ^ (t - 6), 2, 0)
  else if t = 0x10 then some (0, 5, 0)
  else if t = 0x11 then some (0, 6, 0)
  else if t = 0x20 then some (0, 7, 0)
  else if t = 0x21 then some (0, 8, 0)
  else if 0x800 ≤ t ∧ t < 0x1000 ∧ !bit t 7 then
    let w := 8 * 2 ^ field t 9 8
    let n := t % 128
    if bit t 10 then (if n < w then some (w / 8, 4, n) else none) else (if n ≤ w then some (w / 8, 3, n) else none)
  else none

/-- A member of a type record. -/
def typeMember (t sub : Nat) : Option (List Byte) :=
  match typeRecord t with
  | none => none
  | some (z, k, f) => if sub = 1 then some (leBytes 4 z) else if sub = 2 then some (leBytes 1 k) else if sub = 3 then some (leBytes 1 f) else none

/-! ### The raw register window (R467 to R469) -/

/-- The index lies in the window. -/
def inWindow (idx : Nat) : Bool := decide (0xA000 ≤ idx ∧ idx ≤ 0xAFFF)

/-- Register number of an index and subindex of the window. -/
def registerOf (idx sub : Nat) : Nat := (idx - 0xA000) * 65536 + sub

/-- The register exists. -/
def registerExists (r : Nat) : Bool := (Config.regs r).isSome

/-- The value of a field: bits of the object element it backs, or its own. -/
def Core.fieldValue (s : Core) (r : Nat) (f : Config.RegField) : Nat :=
  match f.elem with
  | some (ei, es, lo) =>
    match objectAt ei es with
    | some (o, i, j) => ofLe (s.valueBytes o i j) / 2 ^ lo % 2 ^ f.width
    | none => 0
  | none => Tab.get (Config.rawReset r) s.rawRegs r / 2 ^ f.lo % 2 ^ f.width

/-- The value of a register. -/
def Core.registerValue (s : Core) (r : Nat) : Nat := ((regFields r).map (fun f => s.fieldValue r f * 2 ^ f.lo)).sum % 2 ^ 32

/-- The form of an access (R468). -/
def rawForm (idx sub count width lane : Nat) : Nat :=
  let r := registerOf idx sub
  worse (if count = 0 then formatC else okC)
    (worse (if registerExists r ∧ (count ≠ 2 ∨ (registerExists (r + 1) ∧ sub % 65536 ≠ 65535)) then okC else noObjectC)
      (worse (if !([0, 1, 2, 4].contains width) ∨ 2 < count ∨ (count = 2 ∧ width ≠ 0) then sizeC else okC)
        (if ((width = 1 ∨ width = 2) ∧ (lane % width ≠ 0 ∨ 4 < lane + width)) ∨ ((width = 0 ∨ width = 4) ∧ lane ≠ 0) ∨ (count = 2 ∧ sub % 2 = 1)
          then alignC else okC)))

/-- The bytes of an access the window permits. -/
def Core.rawRead (s : Core) (idx sub count width lane : Nat) : List Byte :=
  let r := registerOf idx sub
  if count = 2 then leBytes 4 (s.registerValue r) ++ leBytes 4 (s.registerValue (r + 1))
  else if width = 1 ∨ width = 2 then ((leBytes 4 (s.registerValue r)).drop lane).take width
  else leBytes 4 (s.registerValue r)

/-! ### MEM_DATA (R291) -/

/-- Of a list of banks, as many from the front as FOP may reach. -/
def Core.fopBanks (s : Core) : List Nat → Nat
  | [] => 0
  | b :: t => if s.owns ownFop b && !s.bankUnderTest b then 1 + s.fopBanks t else 0

/-- Bytes a read of MEM_DATA returns: what is mapped and granted from MEM_ADDR on, at most 1 MiB. -/
def Core.memSpan (s : Core) : Nat :=
  let a := s.rd0 Obj.MEM_ADDR
  let v := s.locate a
  if !s.reaches ownFop a 8 then 0
  else if v.1 = .dram then min 1048576 ((s.rd0 Obj.DRAM_SIZE - a) / 8 * 8)
  else
    let b := bankOf v.2
    let n := s.fopBanks ((List.range (50 - b)).map (b + ·))
    let last := bankSpan (b + n - 1)
    min 1048576 (last.1 + last.2 - v.2)

/-- The code of a read of MEM_DATA. -/
def Core.memReadCode (s : Core) : Nat :=
  if (s.locate (s.rd0 Obj.MEM_ADDR)).1 = .unmapped then valueC
  else if s.memSpan = 0 then stateC
  else if s.memReadBad s.memSpan then memoryC
  else okC

/-! ### A run (R435) -/

/-- The code of a read and the bytes of the whole value. -/
def Core.readRun (s : Core) (m : List Host.Cell) (idx sub count width lane : Nat) : Nat × List Byte :=
  if inWindow idx then
    let c := rawForm idx sub count width lane
    (c, if c = 0 then s.rawRead idx sub count width lane else [])
  else
    let form := worse (if count = 0 then formatC else okC) (if width ≠ 0 ∨ lane ≠ 0 then sizeC else okC)
    if idx < 0x1000 then
      match typeMember idx sub with
      | some b => let c := worse form (if count ≤ 1 then okC else noObjectC); (c, if c = 0 then b else [])
      | none => (worse form noObjectC, [])
    else
      match objectAt idx sub with
      | none => (worse form noObjectC, [])
      | some (o, i, j) =>
        let run := if count ≤ 1 ∨ (o.isArray ∧ j + count ≤ o.nsub) then okC else noObjectC
        let c := worse form (worse run (if o.same Obj.MEM_DATA then s.memReadCode else okC))
        if c ≠ 0 then (c, [])
        else if o.same Obj.MEM_DATA then (0, s.loadAt m (s.rd0 Obj.MEM_ADDR) s.memSpan)
        else (0, (List.range count).flatMap (fun k => s.valueBytes o i (j + k)))

/-- An access reads an object's element at (ei, es), itself or through registers that back it. -/
def accessReads (idx sub count ei es : Nat) : Bool :=
  if inWindow idx then
    let r := registerOf idx sub
    (regFields r ++ (if count = 2 then regFields (r + 1) else [])).any (fun f => match f.elem with
      | some (i, j, _) => decide (i = ei ∧ j = es)
      | none => false)
  else decide (idx = ei ∧ sub = es)

/-- FT_FRAC shows the fraction of the reading of FT_NS that the session made last (Table 2-6; log entry 153). -/
def Core.showFrac (s : Core) (h idx sub count : Nat) : Core :=
  if accessReads idx sub count 0x3010 2 then s.wr0 Obj.FT_FRAC (s.session h).ftFrac else s

/-- A read of FT_NS keeps the fraction of the same instant for the session. -/
def Core.keepFrac (s : Core) (h idx sub count : Nat) : Core :=
  if accessReads idx sub count 0x3010 1 then { s with sess := Tab.set s.sess h { s.session h with ftFrac := s.ftFrac } } else s

/-- INFO of a READ or DESCRIBE: completion status (R437). A register's is that of the object behind its lowest field that backs one (R470). -/
def Core.infoOf (s : Core) (idx sub : Nat) : Nat :=
  let own := idx * 65536 + sub
  let key := if inWindow idx then
      match (regFields (registerOf idx sub)).filterMap Config.RegField.elem with
      | (ei, es, _) :: _ => ei * 65536 + es
      | [] => own
    else own
  Tab.get 0 s.comp key

/-! ### DESCRIBE (R455, Table 16-5) -/

/-- TYPE, ACCESS, DEFSRC, WRITE_ROLE, ELEM_SIZE, MAX_SIZE, FIRST_SUB, LAST_SUB. -/
def describeBytes (ty acc src role elem top first last : Nat) : List Byte :=
  leBytes 2 ty ++ leBytes 1 acc ++ leBytes 1 src ++ leBytes 1 role ++ [0, 0, 0] ++ leBytes 4 elem ++ leBytes 4 top ++ leBytes 2 first ++ leBytes 2 last

/-- The code of an access kind (Table 17-3). -/
def Access.code : Access → Nat
  | .ro => 0 | .rw => 1 | .wo => 2 | .rwr => 3 | .konst => 4

/-- The code of a default source. -/
def DefSrc.code : DefSrc → Nat
  | .factory => 0 | .retained => 1 | .reset => 2

/-- The rows of a record or one-based array at an index. -/
def rowsAt (idx : Nat) : List Ob :=
  dictionary.filter (fun o => decide (o.shape = .member ∨ o.shape = .one) && (match o.at idx o.sub with
    | some (i, _) => decide (o.idx ≠ 0x8800) || srcAssigned i
    | none => false))

/-- A container: TYPE RECORD or ARRAY and its subindex range. -/
def containerBytes (idx : Nat) : Option (List Byte) :=
  if (typeRecord idx).isSome then some (describeBytes 0x20 0 2 0xFF 0 0 1 3)
  else match rowsAt idx with
    | [] => none
    | o :: t =>
      let last := (o :: t).foldl (fun n q => Nat.max n (q.sub + q.nsub - 1)) 0
      let first := (o :: t).foldl (fun n q => Nat.min n q.sub) 65535
      some (describeBytes (if o.shape = .member then 0x20 else 0x21) 0 2 0xFF 0 0 first last)

/-- The role code DESCRIBE gives: the lowest that may write some value. -/
def Core.describeRole (s : Core) (o : Ob) (i : Nat) : Nat := if o.acc = .ro ∨ o.acc = .konst then 0xFF else s.needRole o i 2

/-- What DESCRIBE answers, if the element or container exists. -/
def Core.describe (s : Core) (idx sub : Nat) : Option (List Byte) :=
  if inWindow idx then (if registerExists (registerOf idx sub) then some (describeBytes 4 1 2 2 4 (4 * 65536) 0 65535) else none)
  else if idx < 0x1000 ∧ sub ≠ 0 then
    (match typeMember idx sub with
      | some b => some (describeBytes (if b.length = 4 then 4 else 2) 4 0 0xFF b.length b.length sub sub)
      | none => none)
  else match objectAt idx sub with
    | some (o, i, _) =>
      let n := if o.isArray then o.nsub else 1
      some (describeBytes o.ty o.acc.code o.src.code (s.describeRole o i) o.size (if o.size = 0 then o.max else if o.isArray then o.size * n else o.max)
        o.sub (o.sub + n - 1))
    | none => if sub = 0 then containerBytes idx else none

end Sys2Proof.Machine
end

