-- ==== Sys2Proof/Machine/FopWrite.lean ====
section
/-! DEFINITION. What a FOP write does (R432, R436, R437, R441 to R443, R456, R464 to R466, R470): its form, the checks of a staged element, the
application of a run or a commit, RESTORE_FACTORY, MEM_DATA and SP_ATOMIC. -/

namespace Sys2Proof.Machine

open Sys2Proof

/-- What stands around a host request and is no part of it: a memory error met by its access (0 none, 1 corrected, 2 uncorrectable) and where,
collisions met in a row, and, for a reset it brings about, retention partitions that cannot be read and the levels of the strap balls. -/
structure Around where
  ecc : Nat := 0
  errAddr : Nat := 0
  coll : Nat := 0
  bad : Nat := 0
  straps : Nat := 0
  deriving DecidableEq, Repr

/-! ### The form of a write (R435, R436, R468) -/

/-- Byte lanes of an access in the raw window. -/
def rawLanes (count width lane : Nat) : Nat := if count = 2 then 255 else if width = 1 ∨ width = 2 then (2 ^ width - 1) * 2 ^ lane else 15

/-- A raw write as one staged value: its data in place, and above them the byte lanes it writes. -/
def rawStaged (count width lane : Nat) (data : List Byte) : Nat := ofLe data * 256 ^ lane + rawLanes count width lane * 2 ^ 64

/-- The elements a whole value gives to consecutive subindexes. -/
def splitRun (o : Ob) (idx sub : Nat) (data : List Byte) : Nat → List Staged
  | 0 => []
  | n + 1 => splitRun o idx sub data n ++ [⟨0, idx, sub + n, ofLe ((data.drop (o.size * n)).take o.size)⟩]

/-- The code of a write's form, and its elements. -/
def writeForm (idx sub count width lane : Nat) (data : List Byte) : Nat × List Staged :=
  if inWindow idx then
    let need := if count = 2 then 8 else if width = 1 ∨ width = 2 then width else 4
    let c := worse (rawForm idx sub count width lane) (if data.length = need then okC else sizeC)
    (c, if c = 0 then [⟨0, idx, sub, rawStaged count width lane data⟩] else [])
  else
    let form := worse (if count = 0 then formatC else okC) (if width ≠ 0 ∨ lane ≠ 0 then sizeC else okC)
    if idx < 0x1000 then
      match typeMember idx sub with
      | some b =>
        let c := worse form (worse (if count ≤ 1 then okC else noObjectC) (if data.length = b.length then okC else sizeC))
        (c, if c = 0 then [⟨0, idx, sub, ofLe data⟩] else [])
      | none => (worse form noObjectC, [])
    else
      match objectAt idx sub with
      | none => (worse form noObjectC, [])
      | some (o, _, j) =>
        let run := if count ≤ 1 ∨ (o.isArray ∧ j + count ≤ o.nsub) then okC else noObjectC
        let size := if o.size = 0 then (if data.length ≤ o.max then okC else sizeC) else if data.length = count * o.size * o.nel then okC else sizeC
        let c := worse form (worse run size)
        (c, if c ≠ 0 then [] else if o.size = 0 then [⟨0, idx, sub, packBytes data⟩] else splitRun o idx sub data count)

/-! ### What a staged value writes -/

/-- One storage a write reaches: an element (through the window, a counter may be one of an RO object), or a register's own fields. -/
inductive Prim where
  | elem (o : Ob) (i j v : Nat) (cnt : Bool)
  | reg (r v mask : Nat)

/-- The bits of `w` that `lanes` select, from lane `k` on, in a 32-bit register. -/
def laneMask (lanes k : Nat) : Nat := ((List.range 4).map (fun i => if bit lanes (k + i) then 255 * 256 ^ i else 0)).sum

/-- Bits of `old` replaced by those of `new` under a mask of 64 bits. -/
def mergeBits (old new mask : Nat) : Nat := (old &&& (2 ^ 64 - 1 - mask)) ||| (new &&& mask)

/-- Fields of the registers a raw write covers, with their distance from the lower register's bit 0. -/
def rawFields (r lanes : Nat) : List (Nat × Config.RegField) :=
  (regFields r).map (fun f => (f.lo, f)) ++ (if 15 < lanes then (regFields (r + 1)).map (fun f => (f.lo + 32, f)) else [])

/-- The 64-bit mask of a raw write's lanes. -/
def rawMask (lanes : Nat) : Nat := laneMask lanes 0 + laneMask lanes 4 * 2 ^ 32

/-- The write of one element through the window: fields of RO objects are ignored except counters; a 1 clears a W1C bit or starts a SC command and a 0
does nothing; an ACT field takes the value written; every other field stores its bits (R469, R470, Table 17-4). -/
def Core.rawElem (s : Core) (data mask : Nat) (fs : List (Nat × Config.RegField)) (e : Nat × Nat) : List Prim :=
  match objectAt e.1 e.2 with
  | none => []
  | some (o, i, j) =>
    let ro := decide (o.acc = .ro ∨ o.acc = .konst)
    let mine := fs.filterMap (fun p => match p.2.elem with
      | some (ei, es, lo) => if ei = e.1 ∧ es = e.2 ∧ (mask / 2 ^ p.1 % 2 ^ p.2.width ≠ 0) then some (p.1, p.2, lo) else none
      | none => none)
    let live := mine.filter (fun q => decide (1 ≤ q.2.1.typ ∧ q.2.1.typ ≤ 6) && (!ro || decide (q.2.1.typ = 4)))
    let starts (q : Nat × Config.RegField × Nat) : Bool := decide (q.2.1.typ = 3 ∨ q.2.1.typ = 5)
    let bitsOf (q : Nat × Config.RegField × Nat) : Nat := data / 2 ^ q.1 % 2 ^ q.2.1.width
    if live.isEmpty ∨ (live.all starts ∧ live.all (fun q => decide (bitsOf q = 0))) then []
    else
      let base := if live.any (fun q => starts q || decide (q.2.1.typ = 6)) then 0 else ofLe (s.valueBytes o i j)
      let v := live.foldl (fun b q =>
        let fm := mask / 2 ^ q.1 % 2 ^ q.2.1.width
        mergeBits b (bitsOf q * 2 ^ q.2.2) (fm * 2 ^ q.2.2)) base
      [.elem o i j v ro]

/-- What a raw write reaches. -/
def Core.rawPrims (s : Core) (r v : Nat) : List Prim :=
  let data := v % 2 ^ 64
  let lanes := v / 2 ^ 64
  let mask := rawMask lanes
  let fs := rawFields r lanes
  let elems := (fs.filterMap (fun p => p.2.elem.map (fun q => (q.1, q.2.1)))).eraseDups
  let own (k base : Nat) : List Prim :=
    (regFields k).filterMap (fun f =>
      if f.elem.isNone ∧ 1 ≤ f.typ ∧ f.typ ≤ 4 then
        let fm := mask / 2 ^ (base + f.lo) % 2 ^ f.width
        let bits := data / 2 ^ (base + f.lo) % 2 ^ f.width
        if fm = 0 then none
        else if f.typ = 3 then some (.reg k 0 ((bits &&& fm) * 2 ^ f.lo))
        else some (.reg k (bits * 2 ^ f.lo) (fm * 2 ^ f.lo))
      else none)
  elems.flatMap (s.rawElem data mask fs) ++ own r 0 ++ (if 15 < lanes then own (r + 1) 32 else [])

/-- What a staged value writes. -/
def Core.prims (s : Core) (w : Staged) : List Prim :=
  if inWindow w.idx then s.rawPrims (registerOf w.idx w.sub) w.val
  else match objectAt w.idx w.sub with
    | some (o, i, j) => [.elem o i j w.val false]
    | none => []

/-- The elements a staged value would write, for the locks of R442: through the window, those behind the fields its lanes reach. -/
def Staged.elems (w : Staged) : List (Nat × Nat) :=
  if inWindow w.idx then
    let lanes := w.val / 2 ^ 64
    ((rawFields (registerOf w.idx w.sub) lanes).filter (fun p => decide (1 ≤ p.2.typ ∧ p.2.typ ≤ 6 ∧ rawMask lanes / 2 ^ p.1 % 2 ^ p.2.width ≠ 0))).filterMap
      (fun p => p.2.elem.map (fun q => (q.1, q.2.1)))
  else [(w.idx, w.sub)]

/-! ### Checks -/

/-- The element is staged by another session (R442). -/
def Core.lockedFor (s : Core) (h : Nat) (w : Staged) : Bool :=
  s.sess.any (fun p => decide (p.1 ≠ h) && (match p.2.txn with
    | some t => t.staged.any (fun q => q.elems.any (w.elems.contains ·))
    | none => false))

/-- A register whose fields are all RO, CONST-backed or reserved (R470). -/
def rawReadOnly (r lanes : Nat) : Bool :=
  (rawFields r lanes).all (fun p => decide (p.2.typ = 0 ∨ 7 ≤ p.2.typ) || (match p.2.elem with
    | some (ei, es, _) => (match objectAt ei es with
      | some (o, _, _) => decide (o.acc = .ro ∨ o.acc = .konst) && decide (p.2.typ ≠ 4)
      | none => true)
    | none => false))

/-- A narrow write to a register with side effects, or a write to one register of a 64-bit object that has them (R469). -/
def rawSideEffect (r lanes : Nat) : Bool :=
  if 15 < lanes then false
  else if lanes ≠ 15 then sideEffects (regFields r)
  else (regFields r).any (fun f => match f.elem with
    | some (ei, es, _) => (match Config.regOf (ei * 65536 + es) with
      | some (q, 2) => sideEffects (regFields q) || sideEffects (regFields (q + 1))
      | _ => false)
    | none => false)

/-- A raw write sets a bit that no field of types 0x0 to 0x6 holds: a reserved bit (R6, R470). -/
def rawReserved (r v : Nat) : Bool :=
  let lanes := v / 2 ^ 64
  let held := (rawFields r lanes).foldl (fun b p => if p.2.typ ≤ 6 then b ||| ((2 ^ p.2.width - 1) * 2 ^ p.1) else b) 0
  let set_ := v % 2 ^ 64 &&& rawMask lanes
  (set_ &&& held) != set_

/-- Role and range of one storage, which are tested at staging (R441). -/
def Core.primPre (s : Core) (role : Nat) : Prim → Nat
  | .reg .. => okC
  | .elem o i j v cnt =>
    worse (if cnt ∨ s.needRole o i v ≤ role then okC else roleC) (if cnt ∨ s.absentElem o j ∨ o.inDom v then okC else valueC)

/-- Every check of one storage: `t` holds every value of the run or commit. -/
def Core.primCode (s t : Core) (c : Caller) : Prim → Nat
  | .reg .. => okC
  | .elem o i j v cnt =>
    let pre := s.primPre c.role (.elem o i j v cnt)
    if cnt ∨ s.absentElem o j then pre
    else if o.acc = .ro ∨ o.acc = .konst then worse pre readOnlyC
    else worse pre ((ruleOf o).chk c s t i j v)

/-- The checks made at staging. -/
def Core.stagedPre (s : Core) (role : Nat) (w : Staged) : Nat :=
  worse (if inWindow w.idx ∧ role < 2 then roleC else if inWindow w.idx ∧ rawReserved (registerOf w.idx w.sub) w.val then valueC else okC) ((s.prims w).foldl (fun c p => worse c (s.primPre role p)) okC)

/-- Every check of a staged value. -/
def Core.stagedCode (s t : Core) (c : Caller) (w : Staged) : Nat :=
  let r := registerOf w.idx w.sub
  let lanes := w.val / 2 ^ 64
  let raw := if inWindow w.idx then worse (if rawReadOnly r lanes then readOnlyC else okC) (if rawSideEffect r lanes then sideEffectC else okC)
    else if w.idx < 0x1000 then readOnlyC else okC
  worse (s.stagedPre c.role w) (worse raw ((s.prims w).foldl (fun n p => worse n (s.primCode t c p)) okC))

/-! ### Storing (R456, R466) -/

/-- Objects of field type RWH: the host stores them and the hardware also updates them. -/
def Ob.rwh (o : Ob) : Bool := o.among [Obj.T_SINK, Obj.ax_ENABLE, Obj.grp_GEAR_ENGAGE, Obj.DESC_RING, Obj.SB_OWNER, Obj.SB_OWNER_B]

/-- The write meets a hardware update of a W1C or RWH field in the same cycle and is lost. -/
def Core.loses (s : Core) (o : Ob) (i j v : Nat) : Bool :=
  (o.rwh || (o.same Obj.src_STATUS && decide (v = 1))) && decide (Tab.get? s.hwAt (o.key i j) = some s.clk)

/-- Store one value. Objects that keep no value, elements of absent primitives and lost writes store nothing; what hardware adds to a counter in the same
cycle goes on top of the value written to it. -/
def Core.storePrim (t : Core) : Prim → Core
  | .reg r v mask => { t with rawRegs := Tab.set t.rawRegs r (mergeBits (Tab.get (Config.rawReset r) t.rawRegs r) v mask) }
  | .elem o i j v cnt =>
    if t.absentElem o j ∨ o.among [Obj.MEM_DATA, Obj.ROLE_KEY, Obj.src_STATUS] ∨ t.loses o i j v then t
    else t.wr o i j (if cnt then v + t.bumped (o.key i j) else v)

/-- Store every value in staging order; what each staged value wrote. -/
def Core.storeAll (s : Core) : List Staged → Core × List Prim
  | [] => (s, [])
  | w :: l =>
    let ps := s.prims w
    let r := (ps.foldl Core.storePrim s).storeAll l
    (r.1, ps ++ r.2)

/-! ### RESTORE_FACTORY (R464) -/

/-- The group of RESTORE_FACTORY a retained object belongs to: bit number, or none where it is never touched. -/
def restoreGroup (o : Ob) : Option Nat :=
  if !o.retained ∨ o.same Obj.RET_WEAR ∨ o.among [Obj.CARRIER_ID, Obj.COUNT, Obj.CSEQ, Obj.PENDING_PL, Obj.ORPHANS, Obj.PAIR_EPOCH, Obj.TAKE_LAST]
    ∨ (0x9800 ≤ o.idx ∧ o.idx ≤ 0x9BFF) then none
  else if o.idx = 0x1100 ∨ o.among [Obj.FOP_PORT, Obj.STREAM_PORT, Obj.DEVICE_NAME, Obj.NODE_ID, Obj.RING_ROLE] then some 1
  else if o.among [Obj.NOZZLE_MAP, Obj.R_BASE, Obj.DIE_SERIAL, Obj.DRY_FLAGS] then some 2
  else if 0x2000 ≤ o.idx ∧ o.idx ≤ 0x9FFF then some 0
  else none

/-- The objects whose elements hold values, each with the storage keys of those: an array is one object with all its elements. -/
def objectGroups (keys : List Nat) : List (Ob × List Nat) :=
  (keys.foldl (fun l k =>
    match dictionary.find? (fun o => o.hasKey k) with
    | none => l
    | some o =>
      let tag := if o.isArray then k / 2 ^ 32 else k / 65536
      match l with
      | (h, p, ks) :: t => if h = tag ∧ p.same o then (h, p, k :: ks) :: t else (tag, o, [k]) :: l
      | [] => [(tag, o, [k])]) ([] : List (Nat × Ob × List Nat))).reverse.map (fun e => (e.2.1, e.2.2.reverse))

/-- One object set back as a host write of its reset value would set it; one whose rules reject that keeps its value and is counted. -/
def Core.restoreObject (c : Caller) (s : Core) (g : Ob × List Nat) : Core :=
  let o := g.1
  let place (k : Nat) : Nat × Nat := match o.at (k / 2 ^ 32) (k / 65536 % 65536) with
    | some (i, j) => (i, if o.nel > 1 then k % 65536 else j)
    | none => (0, 0)
  let host := !decide (o.acc = .ro ∨ o.acc = .konst)
  let new (e : Nat × Nat) : Nat := o.resetValue e.1 e.2
  let els := g.2.map place
  let t := els.foldl (fun t e => t.wr o e.1 e.2 (new e)) s
  if host ∧ els.any (fun e => decide ((ruleOf o).chk c s t e.1 e.2 (new e) ≠ 0)) then s.inc0 Obj.RESTORE_SKIPPED
  else if o.same Obj.NOZZLE_MAP then els.foldl (fun u e => u.setNozzle e.2 (new e)) s
  else if host then els.foldl (fun u e => (ruleOf o).act c s e.1 e.2 (new e) u) t
  else t

/-- The restore of the groups `v` selects, in ascending index and subindex. DONE once it is journaled. -/
def Core.restoreFactory (s : Core) (c : Caller) (v : Nat) : Core :=
  let keys := (s.objs.map (·.1)).filter (fun k => match dictionary.find? (fun o => o.hasKey k) with
    | some o => (match restoreGroup o with | some g => bit v g | none => false)
    | none => false)
  let t := (objectGroups keys).foldl (Core.restoreObject ⟨c.h, 3⟩) (s.wr0 Obj.RESTORE_SKIPPED 0)
  let t := if bit v 0 then { t with logRet := [] } else t
  t.setCompO Obj.RESTORE_FACTORY 0 0 (if t.dirty.isEmpty then 2 else 1)

/-! ### Memory (R298, R301, R303) -/

/-- An access to `n` bytes from `a` meets an error at a device address among them: a corrected one is counted, an uncorrectable word is noted. -/
def Core.meetError (s : Core) (x : Around) (a n : Nat) : Core :=
  let v := s.locate x.errAddr
  if x.errAddr < a ∨ a + n ≤ x.errAddr then s
  else if x.ecc = 1 then s.memError 1 x.errAddr
  else if x.ecc = 2 ∧ v.1 ≠ .unmapped ∧ (v.1 ≠ .dram ∨ s.dramEcc) then { s with badWords := insertWord (v.2 / 8) s.badWords }
  else s

/-- Collisions met on a dual-port bank among `n` bytes from `a`. -/
def Core.meetCollisions (s : Core) (x : Around) (a n : Nat) : Core :=
  let v := s.locate a
  if v.1 = .dram ∨ v.1 = .unmapped then s
  else match (banksOf v.2 n).find? bankDual with
    | some b => s.inc Obj.SB_COLLISIONS 0 (b - 48) x.coll
    | none => s

/-- The access met 16 collisions in a row. -/
def Core.collided (s : Core) (x : Around) (a n : Nat) : Bool :=
  let v := s.locate a
  decide (16 ≤ x.coll) && !decide (v.1 = .dram ∨ v.1 = .unmapped) && (banksOf v.2 n).any bankDual

/-- MEM_DATA written. -/
def Core.memWrite (s : Core) (m : List Host.Cell) (x : Around) (b : List Byte) : Core × List Host.Cell :=
  let a := s.rd0 Obj.MEM_ADDR
  let k := (s.locate a).1
  let t := if k = .bitSet ∨ k = .bitClear then s.meetError x a b.length else s
  let t := t.meetCollisions x a b.length
  if s.collided x a b.length then (t.setCompO Obj.MEM_DATA 0 0 3, m) else t.memDataWrite m b

/-- SP_ATOMIC written. -/
def Core.atomicWrite (s : Core) (m : List Host.Cell) (x : Around) (v : Nat) : Core × List Host.Cell :=
  let a := spAddr v
  let n := spWidth (spOp v)
  let t := (s.meetError x a n).meetCollisions x a n
  if s.collided x a n then (t.setCompO Obj.SP_ATOMIC 0 0 3, m) else t.atomic m v

/-! ### Applying (R443, R437) -/

/-- The action of one storage: `b` is the state before the run or commit. -/
def actPrim (x : Around) (c : Caller) (b : Core) (u : Core × List Host.Cell) : Prim → Core × List Host.Cell
  | .reg .. => u
  | .elem o i j v cnt =>
    if cnt ∨ u.1.absentElem o j ∨ b.loses o i j v then u
    else if o.same Obj.MEM_DATA then u.1.memWrite u.2 x (unpackBytes v)
    else if o.same Obj.SP_ATOMIC then u.1.atomicWrite u.2 x v
    else if o.same Obj.RESTORE_FACTORY then (u.1.restoreFactory c v, u.2)
    else ((ruleOf o).act c b i j v u.1, u.2)

/-- A storage belongs to a command object. -/
def Prim.isCommand : Prim → Bool
  | .elem o _ _ _ _ => decide (o.acc = .wo)
  | .reg .. => false

/-- A lost write: counted, recorded, raised. -/
def Core.noteLost (s t : Core) : Prim → Core
  | .elem o i j v _ =>
    if s.loses o i j v then (t.setCompO o i j 3).lostWrite (o.idx + o.stride * i) (o.sub + j) else t
  | .reg .. => t

/-- The completion status of an accepted write reads DONE until its action says otherwise. -/
def Core.markDone (t : Core) : Prim → Core
  | .elem o i j _ cnt => if cnt then t else t.setCompO o i j 2
  | .reg r _ _ => t.setComp (0xA000 + r / 65536) (r % 65536) 2

/-- Apply values that have passed every check: all are stored, then settings take effect, then command objects act in staging order. -/
def applyPrims (x : Around) (c : Caller) (b t : Core) (m : List Host.Cell) (ps : List Prim) : Core × List Host.Cell :=
  let t := ps.foldl Core.markDone t
  let t := ps.foldl (fun t p => b.noteLost t p) t
  let u := (ps.filter (fun p => !p.isCommand)).foldl (actPrim x c b) (t, m)
  let u := (ps.filter Prim.isCommand).foldl (actPrim x c b) u
  (u.1.refreshDigest, u.2)

/-- What a rejected run leaves: a MODE_REQ whose own test rejected it has recorded why (R480). -/
def Core.rejectedBy (s : Core) (c : Caller) (w : Staged) : Core :=
  match objectAt w.idx w.sub with
  | some (o, _, _) => if o.same Obj.MODE_REQ ∧ !s.lockBars c ∧ c.role ≠ 0 then (s.modeTest w.val).2 else s
  | none => s

/-- The outcome of a run or commit: its code, the first element that failed, the block after it. -/
structure Applied where
  code : Nat
  failIdx : Nat
  failSub : Nat
  core : Core
  mem : List Host.Cell

/-- A run or commit: nothing is applied unless every check passes. -/
def commitAll (x : Around) (c : Caller) (s : Core) (m : List Host.Cell) (l : List Staged) : Applied :=
  let r := s.storeAll l
  match l.find? (fun w => decide (s.stagedCode r.1 c w ≠ 0)) with
  | some w => ⟨s.stagedCode r.1 c w, w.idx, w.sub, s.rejectedBy c w, m⟩
  | none =>
    let u := applyPrims x c s r.1 m r.2
    ⟨okC, 0, 0, u.1, u.2⟩

/-! ### Staging (R441) -/

/-- Bytes of a staged value. -/
def Staged.bytes (w : Staged) : Nat :=
  if inWindow w.idx then popCount 8 (w.val / 2 ^ 64)
  else match objectAt w.idx w.sub with
    | some (o, _, _) => if o.size = 0 then (unpackBytes w.val).length else o.size
    | none => 0

/-- Writes a sequence holds: runs of one WRITE count once. -/
def stagedWrites : List Staged → Nat
  | [] => 0
  | [_] => 1
  | a :: b :: t => (if a.wr = b.wr then 0 else 1) + stagedWrites (b :: t)

/-- A sequence with more values staged: earlier ones of the same elements leave it. -/
def Txn.stage (t : Txn) (l : List Staged) : Txn :=
  let new := l.map (fun w => { w with wr := t.nextWr })
  let old := t.staged.filter (fun w => !l.any (fun q => decide (q.idx = w.idx ∧ q.sub = w.sub)))
  let all := old ++ new
  { t with nextWr := t.nextWr + 1, staged := all, bytes := (all.map Staged.bytes).sum }

/-- The sequence is within its limits. -/
def Txn.within (t : Txn) : Bool := decide (stagedWrites t.staged ≤ 256 ∧ t.bytes ≤ 1048576)

end Sys2Proof.Machine
end

