-- ==== Sys2Proof/Machine/Fop.lean ====
section
/-! DEFINITION. The Fenax Object Protocol (ch. 16): how a request is received, checked against its session and executed; what is tunnelled; events,
deadlines of sessions; the journal (R461, R463). -/

namespace Sys2Proof.Machine

open Sys2Proof

/-! ### Executing a request (R435 to R445) -/

/-- The outcome of a request: abort code, INFO, the bytes after INFO, the block after it. -/
structure Ans where
  code : Nat
  info : Nat
  rest : List Byte
  core : Core
  mem : List Host.Cell

/-- Bytes of all segment buffers (R438) but the snapshot or the partial value of session `h` that a new one replaces. -/
def Core.bufferBytes (s : Core) (h : Nat) (read : Bool) : Nat :=
  (s.sess.map (fun p =>
    (match p.2.snap with | some q => if p.1 = h ∧ read then 0 else q.data.length | none => 0)
    + (match p.2.part with | some q => if p.1 = h ∧ !read then 0 else q.total | none => 0))).sum

/-- The fields a READ response echoes, TOTAL and the data. -/
def readRest (idx sub count off total : Nat) (data : List Byte) : List Byte :=
  leBytes 2 idx ++ leBytes 2 sub ++ leBytes 2 count ++ leBytes 2 0 ++ leBytes 4 off ++ leBytes 4 total ++ data

/-- Change a session's read snapshot. -/
def Core.setSnap (s : Core) (h : Nat) (q : Option Snapshot) : Core :=
  let t := s.setSession h { s.session h with snap := q }
  match q with
  | some _ => t.arm .readSnapshot h (ms 2000)
  | none => t.disarm .readSnapshot h

/-- Change a session's partial write. -/
def Core.setPart (s : Core) (h : Nat) (q : Option Partial) : Core :=
  let t := s.setSession h { s.session h with part := q }
  match q with
  | some _ => t.arm .writePartial h (ms 2000)
  | none => t.disarm .writePartial h

/-- READ (R435, R439). A read of MEM_DATA may meet a memory error. -/
def ansRead (x : Around) (h : Nat) (s0 : Core) (m : List Host.Cell) (idx sub count width lane off : Nat) : Ans :=
  let room := (s0.session h).maxMsg - 80
  let fail (s : Core) (c : Nat) : Ans := ⟨c, 0, readRest idx sub count off 0 [], s, m⟩
  let lanesBad := !inWindow idx && decide (width ≠ 0 ∨ lane ≠ 0)
  if off = 0 then
    let isMem : Bool := match objectAt idx sub with | some (o, _, _) => o.same Obj.MEM_DATA | none => false
    let s := if isMem ∧ s0.memSpan ≠ 0 then s0.meetError x (s0.rd0 Obj.MEM_ADDR) s0.memSpan else s0.showFrac h idx sub count
    let r := s.readRun m idx sub count width lane
    let s := if r.1 = 0 then s.keepFrac h idx sub count else s
    let s := match objectAt idx sub with
      | some (o, _, _) => if r.1 = 0 ∧ o.readsFree then { s with freeCount := s.freeCount + 16 } else s
      | none => s
    if r.1 ≠ 0 then
      (if r.1 = memoryC then fail ((s.memBad s.memSpan).setCompO Obj.MEM_DATA 0 0 3) r.1 else fail s r.1)
    else
      let data := r.2
      let total := data.length
      if total ≤ room then ⟨okC, s.infoOf idx sub, readRest idx sub count 0 total data, s.setSnap h none, m⟩
      else if 2097152 < s.bufferBytes h true + total then ⟨busyC, 100000, [], s0, m⟩
      else ⟨okC, s.infoOf idx sub, readRest idx sub count 0 total (data.take room), s.setSnap h (some ⟨idx, sub, count, data⟩), m⟩
  else
    match (s0.session h).snap with
    | some q =>
      if q.idx = idx ∧ q.sub = sub ∧ q.count = count ∧ off < q.data.length ∧ !lanesBad then
        let part := (q.data.drop off).take room
        ⟨okC, s0.infoOf idx sub, readRest idx sub count off q.data.length part,
          s0.setSnap h (if off + part.length = q.data.length then none else some q), m⟩
      else fail s0 (if lanesBad then sizeC else segmentC)
    | none => fail s0 (if lanesBad then sizeC else segmentC)

/-- The answer to a WRITE. -/
def writeAns (code info failIdx failSub : Nat) (s : Core) (m : List Host.Cell) : Ans :=
  ⟨code, info, leBytes 2 failIdx ++ leBytes 2 failSub, s, m⟩

/-- A whole value is written: staged in the session's open sequence, or checked and applied (R436, R441, R442). -/
def ansWhole (x : Around) (c : Caller) (s : Core) (m : List Host.Cell) (idx sub count width lane : Nat) (data : List Byte) (info : Nat) : Ans :=
  let f := writeForm idx sub count width lane data
  let role : Nat := match objectAt idx sub with
    | some (o, i, _) => if c.role < s.needRole o i 2 then roleC else okC
    | none => if inWindow idx ∧ registerExists (registerOf idx sub) ∧ c.role < 2 then roleC else okC
  if f.1 ≠ 0 then writeAns (worse f.1 role) 0 0 0 s m
  else
    let locked := f.2.find? (s.lockedFor c.h)
    match (s.session c.h).txn with
    | some t =>
      let pre := f.2.foldl (fun n w => worse n (s.stagedPre c.role w)) (if locked.isSome then lockedC else okC)
      let t' := t.stage f.2
      if pre ≠ 0 then writeAns pre 0 0 0 s m
      else if !t'.within then writeAns txnLimitC 0 0 0 s m
      else writeAns okC info 0 0 (s.setSession c.h { s.session c.h with txn := some t' }) m
    | none =>
      let r := commitAll x c s m f.2
      let run := decide (1 < count)
      match locked with
      | some w =>
        if r.code ≠ 0 ∧ r.code < lockedC then writeAns r.code 0 (if run then r.failIdx else 0) (if run then r.failSub else 0) r.core r.mem
        else writeAns lockedC 0 (if run then w.idx else 0) (if run then w.sub else 0) s m
      | none =>
        if r.code ≠ 0 then writeAns r.code 0 (if run then r.failIdx else 0) (if run then r.failSub else 0) r.core r.mem
        else writeAns okC info 0 0 r.core r.mem

/-- WRITE (R436, R440, R449): an OBSERVER cannot write, and in SAFE RESET_CMD alone is written. -/
def ansWrite (x : Around) (c : Caller) (s : Core) (m : List Host.Cell) (idx sub count width lane off total : Nat) (data : List Byte) : Ans :=
  let barred := worse (if c.role = 0 then roleC else okC) (stateIf (decide (s.mode = .safe) && !(decide (idx = 0x2000) && decide (sub = 13))))
  let fail (t : Core) (code : Nat) : Ans := writeAns code 0 0 0 t m
  let lanesBad := !inWindow idx && decide (width ≠ 0 ∨ lane ≠ 0)
  if barred ≠ 0 then fail s barred
  else if off = 0 ∧ total < data.length then fail s (worse (ansWhole x c s m idx sub count width lane (data.take total) 0).code formatC)
  else if off = 0 then
    if data.length = total then ansWhole x c (s.setPart c.h none) m idx sub count width lane data 0
    else if count = 0 ∨ lanesBad ∨ 1048576 < total then fail s (if lanesBad ∨ 1048576 < total then sizeC else formatC)
    else if 2097152 < s.bufferBytes c.h false + total then ⟨busyC, 100000, [], s, m⟩
    else writeAns okC data.length 0 0 (s.setPart c.h (some ⟨idx, sub, count, total, data⟩)) m
  else
    match (s.session c.h).part with
    | none => fail s segmentC
    | some q =>
      let all := q.data ++ data
      if q.idx ≠ idx ∨ q.sub ≠ sub ∨ q.count ≠ count ∨ q.total ≠ total ∨ q.data.length ≠ off then fail (s.setPart c.h none) segmentC
      else if total < all.length then fail s formatC
      else if all.length = total then ansWhole x c (s.setPart c.h none) m idx sub count width lane all total
      else writeAns okC all.length 0 0 (s.setPart c.h (some { q with data := all })) m

/-- TXN_BEGIN (R441, R449). -/
def ansTxnBegin (c : Caller) (s : Core) (m : List Host.Cell) : Ans :=
  let opened := s.sess.filter (fun p => p.2.txn.isSome)
  let code := worse (if c.role = 0 then roleC else okC) (worse (stateIf (decide (s.mode = .safe)))
    (worse (if (s.session c.h).txn.isSome then txnOpenC else okC) (if 4 ≤ opened.length then txnLimitC else okC)))
  if code ≠ 0 then ⟨code, 0, [], s, m⟩
  else
    let id := (s.txnId + 1) % 2 ^ 32
    let t := { s with txnId := id }
    ⟨okC, id, [], (t.setSession c.h { t.session c.h with txn := some { id := id } }).arm .txnLease c.h (ms 2000), m⟩

/-- The sequence of a session ends. -/
def Core.dropTxn (s : Core) (h : Nat) : Core := (s.setSession h { s.session h with txn := none }).disarm .txnLease h

/-- TXN_COMMIT (R443); in SAFE, where a sequence not yet applied has ended, the answer is STATE (R451). -/
def ansTxnCommit (x : Around) (c : Caller) (s : Core) (m : List Host.Cell) : Ans :=
  if c.role = 0 then ⟨roleC, 0, leBytes 4 0, s, m⟩
  else if s.mode = .safe then ⟨stateC, 0, leBytes 4 0, s, m⟩
  else match (s.session c.h).txn with
    | none => ⟨txnNoneC, 0, leBytes 4 0, s, m⟩
    | some t =>
      let r := commitAll x c (s.dropTxn c.h) m t.staged
      ⟨r.code, 0, leBytes 2 r.failIdx ++ leBytes 2 r.failSub, r.core, r.mem⟩

/-- TXN_ABORT (R443). -/
def ansTxnAbort (c : Caller) (s : Core) (m : List Host.Cell) : Ans :=
  if c.role = 0 then ⟨roleC, 0, [], s, m⟩
  else if (s.session c.h).txn.isSome then ⟨okC, 0, [], s.dropTxn c.h, m⟩
  else ⟨txnNoneC, 0, [], s, m⟩

/-- SUBSCRIBE (R445). -/
def ansSubscribe (h : Nat) (s : Core) (m : List Host.Cell) (mask : Nat) : Ans :=
  if 32 ≤ mask then ⟨valueC, 0, [], s, m⟩
  else ⟨okC, nextSeq32 (s.session h).evSeq, [], s.setSession h { s.session h with mask := mask }, m⟩

/-- A request of a session is executed. -/
def ansOf (x : Around) (c : Caller) (s : Core) (m : List Host.Cell) : ReqBody → Ans
  | .close => ⟨okC, 0, [], s, m⟩
  | .keepalive => ⟨okC, 0, [], s, m⟩
  | .read i u n w l o => ansRead x c.h s m i u n w l o
  | .write i u n w l o t d => ansWrite x c s m i u n w l o t d
  | .describe i u =>
    (match s.describe i u with
      | some b => ⟨okC, s.infoOf i u, b, s, m⟩
      | none => ⟨noObjectC, 0, List.replicate 20 0, s, m⟩)
  | .txnBegin => ansTxnBegin c s m
  | .txnCommit => ansTxnCommit x c s m
  | .txnAbort => ansTxnAbort c s m
  | .subscribe k => ansSubscribe c.h s m k
  | .opn .. => ⟨formatC, 0, [], s, m⟩
  | .bad .. => ⟨formatC, 0, [], s, m⟩

/-! ### Responses (R426, R433) -/

/-- The body of a response. -/
def ansBody (a : Ans) : List Byte := leBytes 4 a.code ++ leBytes 4 a.info ++ a.rest

/-- Send a response of a session. -/
def Core.respond (s : Core) (e : FopEnv) (msg : List Byte) : Core := s.sendFop .fopReply e.lane e.ip e.port msg

/-- After execution: the response leaves, it is stored, n advances, and the source becomes the one events go to. Nothing is stored for a session that
has ended. -/
def Core.finish (s : Core) (h : Nat) (e : FopEnv) (msg : List Byte) : Core :=
  let x := s.session h
  let t := s.respond e msg
  if x.st = 0 then t
  else t.setSession h { x with
    n := nextSeq32 x.n
    evLane := e.lane
    evIp := e.ip
    evPort := e.port
    stored := (⟨e.seq, msg, s.clk⟩ :: x.stored).take 8 }

/-- A request whose turn has come: executed and answered. The third part tells whether n advanced; BUSY leaves it (R448). -/
def runOne (x : Around) (h : Nat) (e : FopEnv) (b : ReqBody) (s : Core) (m : List Host.Cell) : Core × List Host.Cell × Bool :=
  let q := s.session h
  let a := ansOf x ⟨h, q.role⟩ s m b
  let msg := taggedMessage (some q.key) b.typ 1 e.node e.serial h e.seq (ansBody a)
  let t := { a.core with lastStatus := a.code }
  if a.code = busyC then (t.respond e msg, a.mem, false)
  else
    let t := t.finish h e msg
    (if b = .close then t.endSession h else t, a.mem, true)

/-- Held requests whose turn has come are executed in order (R433). -/
def runHeld (x : Around) (h : Nat) : Nat → Core → List Host.Cell → Core × List Host.Cell
  | 0, s, m => (s, m)
  | k + 1, s, m =>
    let q := s.session h
    match q.held.find? (fun r => decide (r.env.seq = q.n)) with
    | none => (s, m)
    | some r =>
      let t := s.setSession h { q with held := q.held.filter (fun r => decide (r.env.seq ≠ q.n)) }
      let u := runOne x h r.env r.body t m
      if u.2.2 then runHeld x h k u.1 u.2.1 else (u.1, u.2.1)

/-! ### Receiving a request -/

/-- A failed TAG: counted, FOP_AUTH at most once a second (R427). -/
def Core.authFail (s : Core) : Core :=
  let t := s.discard 1
  if t.armed .fopAuth 0 ∧ !t.due .fopAuth 0 then t else (t.arm .fopAuth 0 (sec 1)).occur 1568 0

/-- NO_SESSION, at most 100 a second per host port (R431). -/
def Core.noSession (s : Core) (e : FopEnv) (typ : Nat) : Core :=
  let k := if e.lane < 2 then e.lane else 2
  let l := (Tab.get [] s.noSess k).filter (fun c => decide (s.clk < c + sec 1))
  if 100 ≤ l.length then { s with noSess := Tab.set s.noSess k l }
  else
    (({ s with noSess := Tab.set s.noSess k (s.clk :: l), lastStatus := noSessionC }).discard 4).untagged e typ e.session noSessionC 0

/-- The role an OPEN names. -/
def ReqBody.openRole : ReqBody → Nat
  | .opn r _ _ => r
  | .bad _ b => leAt b 0 1
  | _ => 0

/-- OPEN (R429): proved by the role's key; the lowest free handle is allocated. -/
def Core.openSession (s : Core) (e : FopEnv) (b : ReqBody) : Core :=
  match s.roleKey b.openRole with
  | none => s.authFail
  | some key =>
    if !tagOk key e b then s.authFail
    else
      let used := (s.sess.filter (fun p => decide (p.2.st ≠ 0))).length
      let pending := (s.sess.filter (fun p => decide (p.2.st = 1))).length
      let reply (t : Core) (c : Nat) (rest : List Byte) : Core :=
        ({ t with lastStatus := c }).respond e (taggedMessage (some key) 1 1 e.node e.serial 0 e.seq (leBytes 4 c ++ leBytes 4 0 ++ rest))
      let full := if 16 ≤ used ∨ 4 ≤ pending then sessionsFullC else okC
      match b with
      | .opn role maxMsg nonce =>
        let code := worse full (worse (valueIf (decide (maxMsg < 512))) (if e.session ≠ 0 ∨ e.seq ≠ 0 then formatC else okC))
        if code ≠ 0 then reply s code (List.replicate 24 0)
        else
          let h := (((List.range 17).drop 1).find? (fun h => decide ((s.session h).st = 0))).getD 0
          let d := s.draw
          let top := min maxMsg 8952
          let x : Session := { st := 1, role := role, maxMsg := top, n := 1, lane := e.lane, ip := e.ip, port := e.port, evLane := e.lane,
                               evIp := e.ip, evPort := e.port, key := sessionKey key (leBytes 16 nonce) d.1 h }
          let t := (d.2.setSession h x).arm .sessionPending h (ms 1000)
          reply t okC (leBytes 2 h ++ leBytes 2 top ++ leBytes 4 (s.rd0 Obj.SESSION_IDLE) ++ d.1)
      | _ => reply s (worse full formatC) (List.replicate 24 0)

/-- The SEQs after `n`, `k` of them. -/
def seqsAfter : Nat → Nat → List Nat
  | 0, _ => []
  | k + 1, n => nextSeq32 n :: seqsAfter k (nextSeq32 n)

/-- A request of a session (R430, R431, R433, R448). A repeat that arrives at the instant its original was executed is dropped: one response answers both;
of two copies of a request held that arrive at one instant, SL0's is taken. -/
def Core.sessionRequest (s0 : Core) (m : List Host.Cell) (x : Around) (e : FopEnv) (b : ReqBody) : Core × List Host.Cell :=
  let h := e.session
  let q := s0.session h
  if h = 0 ∨ 16 < h ∨ q.st = 0 then (s0.noSession e b.typ, m)
  else if q.ip ≠ e.ip ∨ q.port ≠ e.port then (s0.discard 2, m)
  else if !tagOk q.key e b then (s0.authFail, m)
  else
    let s := if q.st = 1 ∧ e.seq = 1 then (s0.setSession h { q with st := 2 }).disarm .sessionPending h else s0
    let s := s.verified h
    let q := s.session h
    let ahead := (seqsAfter 7 q.n).contains e.seq
    let waiting := (s.sess.map (fun p => p.2.held.length)).sum
    let twin := q.held.find? (fun r => decide (r.env.seq = e.seq))
    if ahead ∧ twin.isSome then
      (if e.lane = 0 ∧ twin.map HeldReq.due = some (s.clk + ms 100) then
        s.setSession h { q with held := q.held.map (fun r => if r.env.seq = e.seq then ⟨e, b, r.due⟩ else r) } else s, m)
    else if e.seq = q.n ∨ ahead then
      if 64 ≤ waiting then
        (({ s with lastStatus := busyC }).respond e
          (taggedMessage (some q.key) b.typ 1 e.node e.serial h e.seq (leBytes 4 busyC ++ leBytes 4 1000)), m)
      else if ahead then
        (s.setSession h { q with held := q.held ++ [⟨e, b, s.clk + ms 100⟩] }, m)
      else
        let u := runOne x h e b s m
        if u.2.2 then runHeld x h 8 u.1 u.2.1 else (u.1, u.2.1)
    else match q.stored.find? (fun r => decide (r.seq = e.seq)) with
      | some r => (if r.clk = s.clk then s else s.respond e r.msg, m)
      | none => (s.discard 3, m)

/-- The message is for this controller (R424). -/
def Core.targetsMe (s : Core) (e : FopEnv) : Bool :=
  (decide (e.node = 0) && (decide (e.serial = 0) || decide (e.serial = Config.serial % 2 ^ 64)))
    || (decide (e.node ≠ 0) && decide (e.node = s.rd0 Obj.NODE_ID))

/-- A gateway passes a request on (R392, R424), or answers that it cannot. -/
def Core.gateway (s : Core) (e : FopEnv) (b : ReqBody) : Core :=
  if s.originates ∧ ((e.node = 0 ∧ !s.upPorts.isEmpty) ∨ (s.routeTo e.node).isSome) then
    (s.emit .fopTunnel e.node [(e.ip : Int), (e.port : Int)] []).ringFop e.node
      (tunnelled e.ip e.port e.serial (requestBytes e b ++ leBytes 32 e.tag))
  else ({ s with lastStatus := unreachableC }).untagged e b.typ e.session unreachableC 0

/-- The controller's estimate of the time to CONFIG in µs (R448). -/
def Core.busyTime (s : Core) : Nat := min 2500000 (max 10000 (Config.busyEstimate s.freeCount))

/-- A FOP request arrives. -/
def Core.fopArrives (s : Core) (m : List Host.Cell) (x : Around) (e : FopEnv) (b : ReqBody) : Core × List Host.Cell :=
  if !s.running ∧ s.phase ≠ .waking then (s, m)
  else if s.mode = .retain then (s, m)
  else if 4095 ≤ e.node ∨ !requestType b.typ then (s.discard 0, m)
  else if !s.configReached then
    (({ s with freeCount := s.freeCount + 1, lastStatus := busyC }).untagged e b.typ 0 busyC s.busyTime, m)
  else if !s.targetsMe e then (s.gateway e b, m)
  else if b.typ = 1 then (s.openSession e b, m)
  else s.sessionRequest m x e b

/-- A request arrives and is dealt with; a reset it asked for follows its response (R490). -/
def Core.fopRequest (s : Core) (m : List Host.Cell) (x : Around) (e : FopEnv) (b : ReqBody) : Core × List Host.Cell :=
  let u := s.fopArrives m x e b
  if u.1.armed .commandReset 0 then u.1.startUp u.2 32 x.bad x.straps else u

/-! ### FOP over the ring (R392) -/

/-- A FOP message carried in FOP frames: an answer or event for a requester of this gateway goes out as a datagram, a request is dealt with. -/
def Core.fopMessage (s : Core) (m : List Host.Cell) (x : Around) (src : Nat) (p : List Byte) : Core × List Host.Cell :=
  let ip := leAt p 0 16
  let port := leAt p 16 2
  let b := p.drop 32
  let typ := leAt b 3 1
  let flags := leAt b 4 2
  let n := leAt b 18 2
  if leAt b 0 2 = 0x4F46 ∧ (bit flags 0 ∨ typ = 0x31) then (s.emit (if typ = 0x31 then .fopEvent else .fopReply) 0 [(ip : Int), (port : Int)] b, m)
  else if b.length ≠ 56 + n ∨ leAt b 0 2 ≠ 0x4F46 ∨ leAt b 2 1 ≠ 1 ∨ flags ≠ 0 then (s.discard 0, m)
  else
    let e : FopEnv := ⟨2 + src, ip, port, leAt b 6 2, leAt b 8 8, leAt b 16 2, leAt b 20 4, leAt b (24 + n) 32⟩
    s.fopRequest m x e (parseBody typ ((b.drop 24).take n))

/-- The serial a FOP frame names: of its message's first fragment. -/
def Core.fopSerial (s : Core) (b : List Byte) : Option Nat :=
  if frFrag b = 0 then some (leAt (frPayload b) 24 8)
  else ((s.ring.frags.find? (fun f => decide (f.src = frSrc b ∧ f.typ = frType b ∧ f.seq = frSeq b))).bind (fun f =>
    (f.parts.find? (fun p => decide (p.1 = 0))).map (fun p => leAt p.2 24 8)))

/-- A frame of a type is delivered here (R372). -/
def Core.delivers (s : Core) (k typ : Nat) (b : List Byte) (serial : Option Nat) : Bool :=
  s.running && decide (k < 2) && decide (s.rpState k = 3) && frOk b && decide (frType b = typ) && s.frMine b serial && s.firstCopy b
    && !decide (frSrc b = s.rd0 Obj.NODE_ID)

/-- FOP_FRAME_RECEIVED. -/
def Core.fopFrame (s : Core) (m : List Host.Cell) (k : Nat) (b : List Byte) : Core × List Host.Cell :=
  let u := s.rxFrame k 0x31 b (s.fopSerial b) id (fun c => (c.reassemble b).2)
  match (s.reassemble b).1 with
  | some p => if s.delivers k 0x31 b (s.fopSerial b) then u.fopMessage m {} (frSrc b) p else (u, m)
  | none => (u, m)

/-! ### Events (R446, R447) -/

/-- The bytes of an event record (Table 16-6). -/
def EventRec.bytes (r : EventRec) : List Byte :=
  leBytes 2 r.code ++ leBytes 2 0 ++ leBytes 4 r.arg0 ++ leBytes 8 r.arg1 ++ leBytes 8 r.tNs ++ List.replicate 8 0

/-- The queued events of a session leave in one EVENT message; an OVERFLOW record follows lost ones as soon as there is room. -/
def Core.sendEvents (s : Core) (h : Nat) : Core :=
  let x := s.session h
  if x.st = 0 ∨ x.events.isEmpty ∨ !s.running then s
  else
    let k := (x.maxMsg - 64) / 32
    let now := x.events.take k
    let seq := nextSeq32 x.evSeq
    let body := leBytes 2 now.length ++ List.replicate 6 0 ++ now.flatMap EventRec.bytes
    let msg := taggedMessage (some x.key) 0x31 0 (s.rd0 Obj.NODE_ID) (Config.serial % 2 ^ 64) h seq body
    let rest := x.events.drop k
    let rest := if x.lost = 0 then rest else rest ++ [⟨0x00F1, x.lost, 0, s.ftNs⟩]
    (s.setSession h { x with events := rest, evSeq := seq, lost := 0 }).sendFop .fopEvent x.evLane x.evIp x.evPort msg

/-! ### Deadlines of sessions -/

/-- A PENDING session that no request opened in time. -/
def Core.pendingLapse (s : Core) (h : Nat) : Core :=
  if (s.session h).st = 1 ∧ s.due .sessionPending h then (s.discard 5).endSession h else s

/-- SESSION_IDLE has passed with no verified message. -/
def Core.idleLapse (s : Core) (h : Nat) : Core := if (s.session h).st = 2 ∧ s.due .sessionIdle h then s.endSession h else s

/-- Held requests whose gap was not filled in time are discarded and counted. -/
def Core.heldLapse (s : Core) (h : Nat) : Core :=
  let x := s.session h
  let late := x.held.filter (fun r => decide (r.due ≤ s.clk))
  if late.isEmpty then s else (s.setSession h { x with held := x.held.filter (fun r => decide (s.clk < r.due)) }).inc Obj.FOP_DISCARDS 0 3 late.length

/-! ### The journal (R461, R463) -/

/-- The record of every retained change not yet journaled. -/
def Core.journalRecord (s : Core) : JRec :=
  ⟨s.dirty.filterMap (fun k => (Tab.get? s.objs k).map (fun v => (k, v))), true, s.ftNs⟩

/-- RET_WEAR after a write to the store; RET_WEAR_SRC once it passes 800 per mille. -/
def Core.noteWear (s : Core) (wear : Nat) : Core :=
  let old := s.rd0 Obj.RET_WEAR
  let t := if wear = old then s else s.wr0 Obj.RET_WEAR wear
  if old ≤ 800 ∧ 800 < wear then t.occur 1587 0 else t

/-- The record is written: nothing waits any more. -/
def Core.journalDone (s : Core) (wear : Nat) : Core :=
  let t := s.noteWear wear
  let t := { t with journal := t.journalRecord :: t.journal, dirty := [], dirtySince := none, journalFailing := false }
  ((t.disarm .journal 0).endComp Obj.JOURNAL_SYNC 0 0 true).endComp Obj.RESTORE_FACTORY 0 0 true

/-- The record could not be written: RET_JOURNAL, and a retry in 10 ms. -/
def Core.journalFail (s : Core) : Core :=
  let t := ({ s with journalFailing := true }.arm .journal 0 (ms 10)).endComp Obj.JOURNAL_SYNC 0 0 false
  if s.journalFailing then t else t.occur 1585 0

/-- JOURNAL_TIMER: within 10 ms of the oldest change. -/
def Core.journalTimer (s : Core) (fail : Bool) (wear : Nat) : Core :=
  if s.dirty.isEmpty ∨ s.journalFailing ∨ !s.running then s else s.choose fail Core.journalFail (fun t => t.journalDone wear)

/-- JOURNAL_RETRY: 10 ms after a write that failed. -/
def Core.journalRetry (s : Core) (fail : Bool) (wear : Nat) : Core :=
  if s.journalFailing ∧ s.running ∧ s.due .journal 0 then s.choose fail Core.journalFail (fun t => t.journalDone wear) else s

/-! ### Host commands -/

/-- A FOP request reaches the block after `dt`. -/
def hostRequest (dt : Nat) (x : Around) (e : FopEnv) (b : ReqBody) (s : State) : Host.Outcome State Fault Refusal :=
  onBoth (fun c m => (c.advance dt).fopRequest m x e b) s

/-- A WRITE of values to consecutive elements of an object, unsegmented. -/
def writeOf (o : Ob) (i j : Nat) (vals : List Nat) : ReqBody :=
  let d := vals.flatMap (leBytes o.size)
  .write ((o.idx + o.stride * i) % 65536) ((o.sub + j) % 65536) (vals.length % 65536) 0 0 0 d.length d

/-- A WRITE of a byte string. -/
def writeBytesOf (o : Ob) (i j : Nat) (d : List Byte) : ReqBody :=
  .write ((o.idx + o.stride * i) % 65536) ((o.sub + j) % 65536) 1 0 0 0 d.length d

/-- The 16 bytes of a MOVE (Table 12-3): kind, speed, target. -/
def moveBytes (kind : Nat) (speed target : Int) : List Byte := leBytes 1 kind ++ [0, 0, 0] ++ leBytes 4 (rawOf 32 speed) ++ leBytes 8 (rawOf 64 target)

/-- The 24 bytes of SP_ATOMIC (Table 11-10): ADDR, OPERAND, OP. -/
def atomicBytes (addr operand op : Nat) : List Byte := leBytes 8 addr ++ leBytes 8 operand ++ leBytes 1 op ++ List.replicate 7 0

end Sys2Proof.Machine
end

