-- ==== Sys2Proof/Machine/HostRows.lean ====
section
/-! DEFINITION. The meanings of the commands a host sends: each is a FOP request, received and executed as ch. 16 says, whose effect is the rule of the
chapter that defines the object it reads or writes (FopRules); and of the frames, deadlines and journal writes of FOP. -/

namespace Sys2Proof.Machine

open Sys2Proof

/-- The tables of R106, in its order. -/
def tablesOf106 : List Ob :=
  [Obj.K_CAL, Obj.HIST, Obj.NBR, Obj.E_DIE, Obj.K_ROW, Obj.EPT, Obj.WEAK_TRIM, Obj.THERM_COEF, Obj.T_REF, Obj.K_THERM_MIN, Obj.K_THERM_MAX]

/-! ### Ephemeris -/

/-- FT_STEP (R25). -/
def execFtStep (dt : Nat) (env : FopEnv) (ns : Nat) (s : State) : Host.Outcome State Fault Refusal :=
  hostRequest dt {} env (writeOf Obj.FT_STEP 0 0 [ns]) s

/-- CHANNEL_MODE_WRITE (R28). -/
def execChannelModeWrite (dt : Nat) (env : FopEnv) (ch mode : Nat) (s : State) : Host.Outcome State Fault Refusal :=
  hostRequest dt {} env (writeOf Obj.fb_MODE ch 0 [mode]) s

/-- TACK_NOW (R44). -/
def execTackNow (dt : Nat) (env : FopEnv) (value : Nat) (s : State) : Host.Outcome State Fault Refusal :=
  hostRequest dt {} env (writeOf Obj.TACK_NOW 0 0 [value]) s

/-- PACE_SRC_WRITE (R47). -/
def execPaceSrcWrite (dt : Nat) (env : FopEnv) (sub value : Nat) (s : State) : Host.Outcome State Fault Refusal :=
  hostRequest dt {} env (writeOf (if sub = 2 then Obj.PACE_AXIS else Obj.PACE_SRC) 0 0 [value]) s

/-! ### Fire sequencing -/

/-- ROTATION_WRITE (R64). -/
def execRotationWrite (dt : Nat) (env : FopEnv) (port first : Nat) (vals : List Nat) (s : State) : Host.Outcome State Fault Refusal :=
  hostRequest dt {} env (writeOf Obj.port_ROTATION port first vals) s

/-- PHASE_GROUPS_WRITE (R77). -/
def execPhaseGroupsWrite (dt : Nat) (env : FopEnv) (port v : Nat) (s : State) : Host.Outcome State Fault Refusal :=
  hostRequest dt {} env (writeOf Obj.port_PHASE_GROUPS port 0 [v]) s

/-- F_SET_WRITE (R76). -/
def execFSetWrite (dt : Nat) (env : FopEnv) (port v : Nat) (s : State) : Host.Outcome State Fault Refusal :=
  hostRequest dt {} env (writeOf Obj.port_F_SET port 0 [v]) s

/-- F_SET_ALL_WRITE (R78). -/
def execFSetAllWrite (dt : Nat) (env : FopEnv) (v : Nat) (s : State) : Host.Outcome State Fault Refusal :=
  hostRequest dt {} env (writeOf Obj.F_SET_ALL 0 0 [v]) s

/-- SPIT_RUN (R85). -/
def execSpitRun (dt : Nat) (env : FopEnv) (v : Nat) (s : State) : Host.Outcome State Fault Refusal :=
  hostRequest dt {} env (writeOf Obj.SPIT_RUN 0 0 [v]) s

/-- SPIT_ABORT (R85). -/
def execSpitAbort (dt : Nat) (env : FopEnv) (v : Nat) (s : State) : Host.Outcome State Fault Refusal :=
  hostRequest dt {} env (writeOf Obj.SPIT_ABORT 0 0 [v]) s

/-! ### Bobbin -/

/-- STATS_CLEAR (R96). -/
def execStatsClear (dt : Nat) (env : FopEnv) (v : Nat) (s : State) : Host.Outcome State Fault Refusal :=
  hostRequest dt {} env (writeOf Obj.STATS_CLEAR 0 0 [v]) s

/-- BOBBIN_TABLE_WRITE (R106). -/
def execBobbinTableWrite (dt : Nat) (env : FopEnv) (table inst first : Nat) (vals : List Nat) (s : State) : Host.Outcome State Fault Refusal :=
  hostRequest dt {} env (writeOf (nth Obj.K_CAL tablesOf106 table) inst first vals) s

/-- MODEL_PARAM_WRITE (R107). -/
def execModelParamWrite (dt : Nat) (env : FopEnv) (decay : Bool) (port v : Nat) (s : State) : Host.Outcome State Fault Refusal :=
  hostRequest dt {} env (writeOf (if decay then Obj.A_DECAY else Obj.G_E) 0 port [v]) s

/-! ### Thread -/

/-- PORT_ENABLE_SET (R145). -/
def execPortEnableSet (dt : Nat) (env : FopEnv) (port : Nat) (s : State) : Host.Outcome State Fault Refusal :=
  hostRequest dt {} env (writeOf Obj.port_PORT_ENABLE port 0 [1]) s

/-- PORT_DISABLE (R145). -/
def execPortDisable (dt : Nat) (env : FopEnv) (port : Nat) (s : State) : Host.Outcome State Fault Refusal :=
  hostRequest dt {} env (writeOf Obj.port_PORT_ENABLE port 0 [0]) s

/-- PORT_RESET (R150). -/
def execPortReset (dt : Nat) (env : FopEnv) (port v : Nat) (s : State) : Host.Outcome State Fault Refusal :=
  hostRequest dt {} env (writeOf Obj.port_PORT_RESET port 0 [v]) s

/-- TABLE_LOAD (R150). -/
def execTableLoad (dt : Nat) (env : FopEnv) (port v : Nat) (s : State) : Host.Outcome State Fault Refusal :=
  hostRequest dt {} env (writeOf Obj.port_TABLE_LOAD port 0 [v]) s

/-! ### Head health -/

/-- MEAS_REQ (R155). -/
def execMeasReq (dt : Nat) (env : FopEnv) (mask : Nat) (s : State) : Host.Outcome State Fault Refusal :=
  hostRequest dt {} env (writeOf Obj.MEAS_REQ 0 0 [mask]) s

/-- MEAS_REQ_JS (R155). -/
def execMeasReqJs (dt : Nat) (env : FopEnv) (mask : Nat) (s : State) : Host.Outcome State Fault Refusal :=
  hostRequest dt {} env (writeOf Obj.MEAS_REQ_JS 0 0 [mask]) s

/-- SWEEP_REQ (R169). -/
def execSweepReq (dt : Nat) (env : FopEnv) (mask : Nat) (s : State) : Host.Outcome State Fault Refusal :=
  hostRequest dt {} env (writeOf Obj.SWEEP_REQ 0 0 [mask]) s

/-- BASELINE (R170). -/
def execBaseline (dt : Nat) (env : FopEnv) (mask : Nat) (s : State) : Host.Outcome State Fault Refusal :=
  hostRequest dt {} env (writeOf Obj.BASELINE 0 0 [mask]) s

/-- DRY_CLEAR (R165). -/
def execDryClear (dt : Nat) (env : FopEnv) (mask : Nat) (s : State) : Host.Outcome State Fault Refusal :=
  hostRequest dt {} env (writeOf Obj.DRY_CLEAR 0 0 [mask]) s

/-- SWEEP_CANCEL (R171). -/
def execSweepCancel (dt : Nat) (env : FopEnv) (v : Nat) (s : State) : Host.Outcome State Fault Refusal :=
  hostRequest dt {} env (writeOf Obj.SWEEP_CANCEL 0 0 [v]) s

/-- NOZZLE_MAP_WRITE (R167). -/
def execNozzleMapWrite (dt : Nat) (env : FopEnv) (first : Nat) (vals : List Nat) (s : State) : Host.Outcome State Fault Refusal :=
  hostRequest dt {} env (writeOf Obj.NOZZLE_MAP 0 first vals) s

/-! ### Thimble -/

/-- KEY_LOAD (R180). -/
def execKeyLoad (dt : Nat) (env : FopEnv) (bytes : List Byte) (s : State) : Host.Outcome State Fault Refusal :=
  hostRequest dt {} env (writeBytesOf Obj.KEY_LOAD 0 0 bytes) s

/-- KEY_REVOKE (R181). -/
def execKeyRevoke (dt : Nat) (env : FopEnv) (slot : Nat) (s : State) : Host.Outcome State Fault Refusal :=
  hostRequest dt {} env (writeOf Obj.KEY_REVOKE 0 0 [slot]) s

/-- COMMIT_NOW (R187). -/
def execCommitNow (dt : Nat) (env : FopEnv) (mask : Nat) (s : State) : Host.Outcome State Fault Refusal :=
  hostRequest dt {} env (writeOf Obj.COMMIT_NOW 0 0 [mask]) s

/-- THIM_RETRY (R183). -/
def execThimRetry (dt : Nat) (env : FopEnv) (mask : Nat) (s : State) : Host.Outcome State Fault Refusal :=
  hostRequest dt {} env (writeOf Obj.THIM_RETRY 0 0 [mask]) s

/-- ORPHAN_ACK (R189). -/
def execOrphanAck (dt : Nat) (env : FopEnv) (v : Nat) (s : State) : Host.Outcome State Fault Refusal :=
  hostRequest dt {} env (writeOf Obj.ORPHAN_ACK 0 0 [v]) s

/-- VERIFY_REQ (R190). -/
def execVerifyReq (dt : Nat) (env : FopEnv) (port : Nat) (bytes : List Byte) (s : State) : Host.Outcome State Fault Refusal :=
  hostRequest dt {} env (writeBytesOf Obj.VERIFY_REQ 0 port bytes) s

/-! ### The raster path -/

/-- MASK_GEOMETRY_WRITE (R209). -/
def execMaskGeometryWrite (dt : Nat) (env : FopEnv) (member set v : Nat) (s : State) : Host.Outcome State Fault Refusal :=
  hostRequest dt {} env (writeOf (nth Obj.ms_PW [Obj.ms_PW, Obj.ms_PH, Obj.ms_PASSES] member) set 0 [v]) s

/-- MASK_DATA_WRITE (R209). -/
def execMaskDataWrite (dt : Nat) (env : FopEnv) (set : Nat) (bytes : List Byte) (s : State) : Host.Outcome State Fault Refusal :=
  hostRequest dt {} env (writeBytesOf Obj.ms_MASK_DATA set 0 bytes) s

/-! ### Avone -/

/-- REQ_TAIL_WRITE (R238). -/
def execReqTailWrite (dt : Nat) (env : FopEnv) (dec v : Nat) (s : State) : Host.Outcome State Fault Refusal :=
  hostRequest dt {} env (writeOf Obj.dec_REQ_TAIL dec 0 [v]) s

/-- OUT_TAIL_WRITE (R241). -/
def execOutTailWrite (dt : Nat) (env : FopEnv) (dec v : Nat) (s : State) : Host.Outcome State Fault Refusal :=
  hostRequest dt {} env (writeOf Obj.dec_OUT_TAIL dec 0 [v]) s

/-- DONE_TAIL_WRITE (R238). -/
def execDoneTailWrite (dt : Nat) (env : FopEnv) (dec v : Nat) (s : State) : Host.Outcome State Fault Refusal :=
  hostRequest dt {} env (writeOf Obj.dec_DONE_TAIL dec 0 [v]) s

/-- DEC_ABORT (R244). -/
def execDecAbort (dt : Nat) (env : FopEnv) (dec v : Nat) (s : State) : Host.Outcome State Fault Refusal :=
  hostRequest dt {} env (writeOf Obj.dec_DEC_ABORT dec 0 [v]) s

/-- PRESET_WRITE (R232). -/
def execPresetWrite (dt : Nat) (env : FopEnv) (preset : Nat) (bytes : List Byte) (s : State) : Host.Outcome State Fault Refusal :=
  hostRequest dt {} env (writeBytesOf Obj.PRESET_DATA preset 0 bytes) s

/-! ### Stream and DMA -/

/-- STREAM_OPEN (R257). -/
def execStreamOpen (dt : Nat) (env : FopEnv) (s : State) : Host.Outcome State Fault Refusal :=
  hostRequest dt {} env (writeOf Obj.STREAM_CTRL 0 0 [1]) s

/-- STREAM_CLOSE (R257). -/
def execStreamClose (dt : Nat) (env : FopEnv) (s : State) : Host.Outcome State Fault Refusal :=
  hostRequest dt {} env (writeOf Obj.STREAM_CTRL 0 0 [2]) s

/-- DMA_ENABLE (R286). -/
def execDmaEnable (dt : Nat) (env : FopEnv) (ch : Nat) (s : State) : Host.Outcome State Fault Refusal :=
  hostRequest dt {} env (writeOf Obj.dma_ENABLE ch 0 [1]) s

/-- DMA_DISABLE (R286). -/
def execDmaDisable (dt : Nat) (env : FopEnv) (ch : Nat) (s : State) : Host.Outcome State Fault Refusal :=
  hostRequest dt {} env (writeOf Obj.dma_ENABLE ch 0 [0]) s

/-- DMA_TAIL_WRITE (R278). -/
def execDmaTailWrite (dt : Nat) (env : FopEnv) (ch v : Nat) (s : State) : Host.Outcome State Fault Refusal :=
  hostRequest dt {} env (writeOf Obj.dma_TAIL ch 0 [v]) s

/-- DMA_RESUME (R285). -/
def execDmaResume (dt : Nat) (env : FopEnv) (ch v : Nat) (s : State) : Host.Outcome State Fault Refusal :=
  hostRequest dt {} env (writeOf Obj.dma_RESUME ch 0 [v]) s

/-- DMA_ABORT (R285). -/
def execDmaAbort (dt : Nat) (env : FopEnv) (ch v : Nat) (s : State) : Host.Outcome State Fault Refusal :=
  hostRequest dt {} env (writeOf Obj.dma_ABORT ch 0 [v]) s

/-- DMA_PRIORITY_WRITE (R282). -/
def execDmaPriorityWrite (dt : Nat) (env : FopEnv) (ch v : Nat) (s : State) : Host.Outcome State Fault Refusal :=
  hostRequest dt {} env (writeOf Obj.dma_PRIORITY ch 0 [v]) s

/-! ### Spool and DRAM -/

/-- SB_OWNER_WRITE (R293). -/
def execSbOwnerWrite (dt : Nat) (env : FopEnv) (portB : Bool) (bank v : Nat) (s : State) : Host.Outcome State Fault Refusal :=
  hostRequest dt {} env (writeOf (if portB then Obj.SB_OWNER_B else Obj.SB_OWNER) 0 bank [v]) s

/-- MEM_DATA_READ (R291). -/
def execMemDataRead (dt : Nat) (env : FopEnv) (off ecc errAddr : Nat) (s : State) : Host.Outcome State Fault Refusal :=
  hostRequest dt { ecc := ecc, errAddr := errAddr } env (.read Obj.MEM_DATA.idx Obj.MEM_DATA.sub 1 0 0 (off % 2 ^ 32)) s

/-- MEM_DATA_WRITE (R291). -/
def execMemDataWrite (dt : Nat) (env : FopEnv) (off total : Nat) (bytes : List Byte) (ecc errAddr coll : Nat) (s : State) : Host.Outcome State Fault Refusal :=
  hostRequest dt { ecc := ecc, errAddr := errAddr, coll := coll } env (.write Obj.MEM_DATA.idx Obj.MEM_DATA.sub 1 0 0 (off % 2 ^ 32) (total % 2 ^ 32) bytes) s

/-- ATOMIC_ADD32 (R300). -/
def execAtomicAdd32 (dt : Nat) (env : FopEnv) (addr operand ecc coll : Nat) (s : State) : Host.Outcome State Fault Refusal :=
  hostRequest dt { ecc := ecc, errAddr := addr, coll := coll } env (writeBytesOf Obj.SP_ATOMIC 0 0 (atomicBytes addr operand 1)) s

/-- ATOMIC_ADD64 (R300). -/
def execAtomicAdd64 (dt : Nat) (env : FopEnv) (addr operand ecc coll : Nat) (s : State) : Host.Outcome State Fault Refusal :=
  hostRequest dt { ecc := ecc, errAddr := addr, coll := coll } env (writeBytesOf Obj.SP_ATOMIC 0 0 (atomicBytes addr operand 2)) s

/-- ATOMIC_SWAP32 (R300). -/
def execAtomicSwap32 (dt : Nat) (env : FopEnv) (addr operand ecc coll : Nat) (s : State) : Host.Outcome State Fault Refusal :=
  hostRequest dt { ecc := ecc, errAddr := addr, coll := coll } env (writeBytesOf Obj.SP_ATOMIC 0 0 (atomicBytes addr operand 3)) s

/-- ATOMIC_SWAP64 (R300). -/
def execAtomicSwap64 (dt : Nat) (env : FopEnv) (addr operand ecc coll : Nat) (s : State) : Host.Outcome State Fault Refusal :=
  hostRequest dt { ecc := ecc, errAddr := addr, coll := coll } env (writeBytesOf Obj.SP_ATOMIC 0 0 (atomicBytes addr operand 4)) s

/-- DRAM_ECC_WRITE (R310). -/
def execDramEccWrite (dt : Nat) (env : FopEnv) (v : Nat) (s : State) : Host.Outcome State Fault Refusal :=
  hostRequest dt {} env (writeOf Obj.DRAM_ECC 0 0 [v]) s

/-! ### Motion -/

/-- MOVE_ABS (R324). -/
def execMoveAbs (dt : Nat) (env : FopEnv) (axis : Nat) (target speed : Int) (s : State) : Host.Outcome State Fault Refusal :=
  hostRequest dt {} env (writeBytesOf Obj.ax_MOVE axis 0 (moveBytes 1 speed target)) s

/-- MOVE_REL (R324). -/
def execMoveRel (dt : Nat) (env : FopEnv) (axis : Nat) (target speed : Int) (s : State) : Host.Outcome State Fault Refusal :=
  hostRequest dt {} env (writeBytesOf Obj.ax_MOVE axis 0 (moveBytes 2 speed target)) s

/-- MOVE_VEL (R324). -/
def execMoveVel (dt : Nat) (env : FopEnv) (axis : Nat) (speed : Int) (s : State) : Host.Outcome State Fault Refusal :=
  hostRequest dt {} env (writeBytesOf Obj.ax_MOVE axis 0 (moveBytes 3 speed 0)) s

/-- MOVE_STOP (R327). -/
def execMoveStop (dt : Nat) (env : FopEnv) (axis : Nat) (s : State) : Host.Outcome State Fault Refusal :=
  hostRequest dt {} env (writeBytesOf Obj.ax_MOVE axis 0 (moveBytes 4 0 0)) s

/-- MOVE_HOME (R329). -/
def execMoveHome (dt : Nat) (env : FopEnv) (axis : Nat) (speed : Int) (s : State) : Host.Outcome State Fault Refusal :=
  hostRequest dt {} env (writeBytesOf Obj.ax_MOVE axis 0 (moveBytes 5 speed 0)) s

/-- MOVE_CAP (R324). -/
def execMoveCap (dt : Nat) (env : FopEnv) (axis : Nat) (s : State) : Host.Outcome State Fault Refusal :=
  hostRequest dt {} env (writeBytesOf Obj.ax_MOVE axis 0 (moveBytes 6 0 0)) s

/-- MOVE_UNCAP (R324). -/
def execMoveUncap (dt : Nat) (env : FopEnv) (axis : Nat) (s : State) : Host.Outcome State Fault Refusal :=
  hostRequest dt {} env (writeBytesOf Obj.ax_MOVE axis 0 (moveBytes 7 0 0)) s

/-- AXIS_ENABLE (R332). -/
def execAxisEnable (dt : Nat) (env : FopEnv) (axis : Nat) (s : State) : Host.Outcome State Fault Refusal :=
  hostRequest dt {} env (writeOf Obj.ax_ENABLE axis 0 [1]) s

/-- AXIS_DISABLE (R332). -/
def execAxisDisable (dt : Nat) (env : FopEnv) (axis : Nat) (s : State) : Host.Outcome State Fault Refusal :=
  hostRequest dt {} env (writeOf Obj.ax_ENABLE axis 0 [0]) s

/-- GEAR_ENGAGE (R321). -/
def execGearEngage (dt : Nat) (env : FopEnv) (group : Nat) (s : State) : Host.Outcome State Fault Refusal :=
  hostRequest dt {} env (writeOf Obj.grp_GEAR_ENGAGE group 0 [1]) s

/-- GEAR_DISENGAGE (R321). -/
def execGearDisengage (dt : Nat) (env : FopEnv) (group : Nat) (s : State) : Host.Outcome State Fault Refusal :=
  hostRequest dt {} env (writeOf Obj.grp_GEAR_ENGAGE group 0 [0]) s

/-- GROUP_STOP (R330). -/
def execGroupStop (dt : Nat) (env : FopEnv) (group v : Nat) (s : State) : Host.Outcome State Fault Refusal :=
  hostRequest dt {} env (writeOf Obj.grp_GROUP_STOP group 0 [v]) s

/-- CAP_SEQ (R331). -/
def execCapSeq (dt : Nat) (env : FopEnv) (v : Nat) (s : State) : Host.Outcome State Fault Refusal :=
  hostRequest dt {} env (writeOf Obj.CAP_SEQ 0 0 [v]) s

/-- SET_POS (R329). -/
def execSetPos (dt : Nat) (env : FopEnv) (axis : Nat) (pos : Int) (s : State) : Host.Outcome State Fault Refusal :=
  hostRequest dt {} env (writeOf Obj.ax_SET_POS axis 0 [rawOf 64 pos]) s

/-- GROUP_MASTER_WRITE (R321). -/
def execGroupMasterWrite (dt : Nat) (env : FopEnv) (master : Bool) (index v : Nat) (s : State) : Host.Outcome State Fault Refusal :=
  hostRequest dt {} env (writeOf (if master then Obj.grp_MASTER else Obj.ax_GROUP) index 0 [v]) s

/-! ### The ring -/

/-- CAL_REQ (R381). -/
def execCalReq (dt : Nat) (env : FopEnv) (v : Nat) (s : State) : Host.Outcome State Fault Refusal :=
  hostRequest dt {} env (writeOf Obj.CAL_REQ 0 0 [v]) s

/-- RING_SWEEP_REQ (R395). -/
def execRingSweepReq (dt : Nat) (env : FopEnv) (mask : Nat) (s : State) : Host.Outcome State Fault Refusal :=
  hostRequest dt {} env (writeOf Obj.RING_SWEEP_REQ 0 0 [mask]) s

/-- RING_CONFIG_WRITE (R376). -/
def execRingConfigWrite (dt : Nat) (env : FopEnv) (member v : Nat) (s : State) : Host.Outcome State Fault Refusal :=
  hostRequest dt {} env (writeOf (nth Obj.NODE_ID [Obj.NODE_ID, Obj.RING_ROLE, Obj.RING_EN] member) 0 0 [v]) s

/-! ### Pairs -/

/-- TAKEOVER_WRITE (R413). -/
def execTakeoverWrite (dt : Nat) (env : FopEnv) (v : Nat) (s : State) : Host.Outcome State Fault Refusal :=
  hostRequest dt {} env (writeOf Obj.TAKEOVER 0 0 [v]) s

/-- PAIR_SWITCH (R418). -/
def execPairSwitch (dt : Nat) (env : FopEnv) (v : Nat) (s : State) : Host.Outcome State Fault Refusal :=
  hostRequest dt {} env (writeOf Obj.PAIR_SWITCH 0 0 [v]) s

/-! ### FOP -/

/-- FOP_OPEN (R429). -/
def execFopOpen (dt : Nat) (env : FopEnv) (role maxMsg nonce : Nat) (s : State) : Host.Outcome State Fault Refusal :=
  hostRequest dt {} env (.opn (role % 256) (maxMsg % 65536) (nonce % 2 ^ 128)) s

/-- FOP_CLOSE (R431). -/
def execFopClose (dt : Nat) (env : FopEnv) (s : State) : Host.Outcome State Fault Refusal :=
  hostRequest dt {} env .close s

/-- FOP_KEEPALIVE (R431). -/
def execFopKeepalive (dt : Nat) (env : FopEnv) (s : State) : Host.Outcome State Fault Refusal :=
  hostRequest dt {} env .keepalive s

/-- FOP_READ (R435). -/
def execFopRead (dt : Nat) (env : FopEnv) (index sub count width lane off : Nat) (s : State) : Host.Outcome State Fault Refusal :=
  hostRequest dt {} env (.read (index % 65536) (sub % 65536) (count % 65536) (width % 256) (lane % 256) (off % 2 ^ 32)) s

/-- FOP_DESCRIBE (R435). -/
def execFopDescribe (dt : Nat) (env : FopEnv) (index sub : Nat) (s : State) : Host.Outcome State Fault Refusal :=
  hostRequest dt {} env (.describe (index % 65536) (sub % 65536)) s

/-- OBJECT_WRITE (R436). -/
def execObjectWrite (dt : Nat) (env : FopEnv) (index sub count width lane off total : Nat) (data : List Byte) (s : State) : Host.Outcome State Fault Refusal :=
  hostRequest dt {} env (.write (index % 65536) (sub % 65536) (count % 65536) (width % 256) (lane % 256) (off % 2 ^ 32) (total % 2 ^ 32) data) s

/-- TXN_BEGIN (R441). -/
def execTxnBegin (dt : Nat) (env : FopEnv) (s : State) : Host.Outcome State Fault Refusal :=
  hostRequest dt {} env .txnBegin s

/-- TXN_COMMIT (R443). -/
def execTxnCommit (dt : Nat) (env : FopEnv) (s : State) : Host.Outcome State Fault Refusal :=
  hostRequest dt {} env .txnCommit s

/-- TXN_ABORT (R443). -/
def execTxnAbort (dt : Nat) (env : FopEnv) (s : State) : Host.Outcome State Fault Refusal :=
  hostRequest dt {} env .txnAbort s

/-- FOP_SUBSCRIBE (R445). -/
def execFopSubscribe (dt : Nat) (env : FopEnv) (mask : Nat) (s : State) : Host.Outcome State Fault Refusal :=
  hostRequest dt {} env (.subscribe (mask % 2 ^ 32)) s

/-! ### The dictionary -/

/-- ROLE_KEY_WRITE (R428). -/
def execRoleKeyWrite (dt : Nat) (env : FopEnv) (role : Nat) (bytes : List Byte) (s : State) : Host.Outcome State Fault Refusal :=
  hostRequest dt {} env (writeBytesOf Obj.ROLE_KEY 0 role bytes) s

/-- REG_LOOKUP (R467). -/
def execRegLookup (dt : Nat) (env : FopEnv) (index sub : Nat) (s : State) : Host.Outcome State Fault Refusal :=
  hostRequest dt {} env (writeOf Obj.REG_LOOKUP 0 0 [index % 65536 * 65536 + sub % 65536]) s

/-- RAW_WINDOW_READ (R468). -/
def execRawWindowRead (dt : Nat) (env : FopEnv) (reg count width lane : Nat) (s : State) : Host.Outcome State Fault Refusal :=
  hostRequest dt {} env (.read (0xA000 + reg % 2 ^ 28 / 65536) (reg % 65536) (count % 65536) (width % 256) (lane % 256) 0) s

/-- RAW_WINDOW_WRITE (R470). -/
def execRawWindowWrite (dt : Nat) (env : FopEnv) (reg count width lane : Nat) (data : List Byte) (s : State) : Host.Outcome State Fault Refusal :=
  hostRequest dt {} env (.write (0xA000 + reg % 2 ^ 28 / 65536) (reg % 65536) (count % 65536) (width % 256) (lane % 256) 0 data.length data) s

/-- JOURNAL_SYNC (R463). -/
def execJournalSync (dt : Nat) (env : FopEnv) (v : Nat) (s : State) : Host.Outcome State Fault Refusal :=
  hostRequest dt {} env (writeOf Obj.JOURNAL_SYNC 0 0 [v]) s

/-- RESTORE_FACTORY (R464). -/
def execRestoreFactory (dt : Nat) (env : FopEnv) (groups : Nat) (s : State) : Host.Outcome State Fault Refusal :=
  hostRequest dt {} env (writeOf Obj.RESTORE_FACTORY 0 0 [groups]) s

/-! ### Modes -/

/-- MODE_REQ_CONFIG (R476). -/
def execModeReqConfig (dt : Nat) (env : FopEnv) (s : State) : Host.Outcome State Fault Refusal :=
  hostRequest dt {} env (writeOf Obj.MODE_REQ 0 0 [2]) s

/-- MODE_REQ_READY (R476). -/
def execModeReqReady (dt : Nat) (env : FopEnv) (s : State) : Host.Outcome State Fault Refusal :=
  hostRequest dt {} env (writeOf Obj.MODE_REQ 0 0 [3]) s

/-- MODE_REQ_PRINT_WEB (R480). -/
def execModeReqPrintWeb (dt : Nat) (env : FopEnv) (s : State) : Host.Outcome State Fault Refusal :=
  hostRequest dt {} env (writeOf Obj.MODE_REQ 0 0 [4]) s

/-- MODE_REQ_PRINT_SCAN (R480). -/
def execModeReqPrintScan (dt : Nat) (env : FopEnv) (s : State) : Host.Outcome State Fault Refusal :=
  hostRequest dt {} env (writeOf Obj.MODE_REQ 0 0 [5]) s

/-- MODE_REQ_SERVICE (R484). -/
def execModeReqService (dt : Nat) (env : FopEnv) (s : State) : Host.Outcome State Fault Refusal :=
  hostRequest dt {} env (writeOf Obj.MODE_REQ 0 0 [6]) s

/-- MODE_REQ_PARK (R486). -/
def execModeReqPark (dt : Nat) (env : FopEnv) (s : State) : Host.Outcome State Fault Refusal :=
  hostRequest dt {} env (writeOf Obj.MODE_REQ 0 0 [7]) s

/-- RESET_CMD (R490). -/
def execResetCmd (dt : Nat) (env : FopEnv) (v bad straps : Nat) (s : State) : Host.Outcome State Fault Refusal :=
  hostRequest dt { bad := bad, straps := straps } env (writeOf Obj.RESET_CMD 0 0 [v]) s

/-! ### Selvedge -/

/-- SOURCE_ACK (R500). -/
def execSourceAck (dt : Nat) (env : FopEnv) (source v : Nat) (s : State) : Host.Outcome State Fault Refusal :=
  hostRequest dt {} env (writeOf Obj.src_STATUS source 0 [v]) s

/-- ACK_ALL (R500). -/
def execAckAll (dt : Nat) (env : FopEnv) (v : Nat) (s : State) : Host.Outcome State Fault Refusal :=
  hostRequest dt {} env (writeOf Obj.ACK_ALL 0 0 [v]) s

/-- SOURCE_FORCE (R501). -/
def execSourceForce (dt : Nat) (env : FopEnv) (source v : Nat) (s : State) : Host.Outcome State Fault Refusal :=
  hostRequest dt {} env (writeOf Obj.src_FORCE source 0 [v]) s

/-- SOURCE_CONFIG_WRITE (R502). -/
def execSourceConfigWrite (dt : Nat) (env : FopEnv) (source sub v : Nat) (s : State) : Host.Outcome State Fault Refusal :=
  hostRequest dt {} env (writeOf (nth Obj.src_MASK [Obj.src_MASK, Obj.src_CLASS, Obj.src_REACTION, Obj.src_ESC] (sub - 3)) source 0 [v]) s

/-- HOST_LOCK_TAKE (R507). -/
def execHostLockTake (dt : Nat) (env : FopEnv) (s : State) : Host.Outcome State Fault Refusal :=
  hostRequest dt {} env (writeOf Obj.HOST_LOCK 0 0 [1]) s

/-- HOST_LOCK_RELEASE (R507). -/
def execHostLockRelease (dt : Nat) (env : FopEnv) (s : State) : Host.Outcome State Fault Refusal :=
  hostRequest dt {} env (writeOf Obj.HOST_LOCK 0 0 [0]) s

/-- TRIP_CMD (R508). -/
def execTripCmd (dt : Nat) (env : FopEnv) (v : Nat) (s : State) : Host.Outcome State Fault Refusal :=
  hostRequest dt {} env (writeOf Obj.TRIP_CMD 0 0 [v]) s

/-! ### Power -/

/-- ISLAND_RESET_WRITE (R526). -/
def execIslandResetWrite (dt : Nat) (env : FopEnv) (v : Nat) (s : State) : Host.Outcome State Fault Refusal :=
  hostRequest dt {} env (writeOf Obj.ISLAND_RESET 0 0 [v]) s

/-! ### Self-test -/

/-- BIST_INVALIDATE (R545). -/
def execBistInvalidate (dt : Nat) (env : FopEnv) (v : Nat) (s : State) : Host.Outcome State Fault Refusal :=
  hostRequest dt {} env (writeOf Obj.BIST_INVALIDATE 0 0 [v]) s

/-! ### What no host sends -/

/-- FOP_FRAME_RECEIVED (R392). -/
def execFopFrameReceived (dt : Nat) (port : Nat) (head payload crc : List Byte) (s : State) : Host.Outcome State Fault Refusal :=
  onBoth (fun c m => (c.advance dt).fopFrame m port (head ++ payload ++ crc)) s

/-- EVENT_SEND (R446). -/
def execEventSend (dt : Nat) (handle : Nat) (s : State) : Host.Outcome State Fault Refusal :=
  onCore (fun c => (c.advance dt).sendEvents handle) s

/-- SESSION_PENDING_TIMEOUT (R429). -/
def execSessionPendingTimeout (dt : Nat) (handle : Nat) (s : State) : Host.Outcome State Fault Refusal :=
  onCore (fun c => (c.advance dt).pendingLapse handle) s

/-- SESSION_IDLE_TIMEOUT (R431). -/
def execSessionIdleTimeout (dt : Nat) (handle : Nat) (s : State) : Host.Outcome State Fault Refusal :=
  onCore (fun c => (c.advance dt).idleLapse handle) s

/-- HELD_REQUEST_TIMEOUT (R433). -/
def execHeldRequestTimeout (dt : Nat) (handle : Nat) (s : State) : Host.Outcome State Fault Refusal :=
  onCore (fun c => (c.advance dt).heldLapse handle) s

/-- READ_SNAPSHOT_TIMEOUT (R439). -/
def execReadSnapshotTimeout (dt : Nat) (handle : Nat) (s : State) : Host.Outcome State Fault Refusal :=
  onCore (fun c => let t := c.advance dt; if t.due .readSnapshot handle then t.setSnap handle none else t) s

/-- WRITE_SEGMENT_TIMEOUT (R440). -/
def execWriteSegmentTimeout (dt : Nat) (handle : Nat) (s : State) : Host.Outcome State Fault Refusal :=
  onCore (fun c => let t := c.advance dt; if t.due .writePartial handle then t.setPart handle none else t) s

/-- TXN_LEASE_LAPSE (R444). -/
def execTxnLeaseLapse (dt : Nat) (handle : Nat) (s : State) : Host.Outcome State Fault Refusal :=
  onCore (fun c => let t := c.advance dt; if t.due .txnLease handle then t.lapseTxn handle true else t) s

/-- JOURNAL_TIMER (R461). -/
def execJournalTimer (dt : Nat) (fail : Bool) (wear : Nat) (s : State) : Host.Outcome State Fault Refusal :=
  onCore (fun c => (c.advance dt).journalTimer fail wear) s

/-- JOURNAL_RETRY (R463). -/
def execJournalRetry (dt : Nat) (fail : Bool) (wear : Nat) (s : State) : Host.Outcome State Fault Refusal :=
  onCore (fun c => (c.advance dt).journalRetry fail wear) s

end Sys2Proof.Machine
end

