-- ==== Sys2Proof/Machine/Pins.lean ====
section
/-! DEFINITION. The balls (ch. 22): the test access port, the levels of the single-ended outputs in each mode (Table 22-8). -/

namespace Sys2Proof.Machine

open Sys2Proof

/-! ### The test access port (R563) -/

/-- The TAP has power: outside OFF and RETAIN, or held in OFF by TEST_EN. -/
def Core.tapOn (s : Core) : Bool := s.running || decide (s.phase = .waking) || s.testEn

/-- The instruction a code executes as: with TEST_EN low every one but IDCODE is BYPASS, and an undefined one always is. -/
def Core.tapDecode (s : Core) (ir : Nat) : Nat := if ir = 1 ∨ (s.testEn ∧ (ir = 2 ∨ ir = 3)) then ir else 0

/-- TAP_INSTRUCTION. IDCODE answers JTAG_IDCODE; SAMPLE/PRELOAD answers the balls as sampled and takes the boundary register; EXTEST drives it. -/
def Core.tapInstruction (s : Core) (ir boundary : Nat) : Core :=
  if !s.tapOn then s
  else
    let k := s.tapDecode ir
    let t := { s with tapIr := k }
    match k with
    | 1 => t.emit .tdo 1 [(jtagIdcode : Int)] []
    | 2 =>
      let d := t.drawOpen
      ({ d.2 with tapBoundary := boundary }).emit .tdo 2 [(d.1 : Int)] []
    | 3 => ({ t with tapBoundary := boundary }).emit .tdo 3 [(boundary : Int)] []
    | _ => t.emit .tdo 0 [] []

/-- TAP_INSTRUCTION (R563). -/
def execTapInstruction (dt ir boundary : Nat) (s : State) : Host.Outcome State Fault Refusal :=
  onCore (fun c => (c.advance dt).tapInstruction ir boundary) s

/-! ### Levels of the single-ended outputs (Table 22-8) -/

/-- A ball's level. -/
inductive Level where
  | hiZ | low | high
  deriving DecidableEq, Repr

/-- MAIN_EN. -/
def Core.mainEn (s : Core) : Level :=
  match s.mode, s.phase with
  | .off, .waking => .high
  | .off, _ => .hiZ
  | .retain, .waking => .high
  | .retain, _ => .low
  | _, _ => .high

/-- FAULT_N: high in the running modes alone. -/
def Core.faultN (s : Core) : Level :=
  match s.mode, s.phase with
  | .off, .waking => .low
  | .off, _ => .hiZ
  | .retain, _ => .low
  | .safe, _ => .low
  | _, _ => .high

/-- HPWR_EN of a port: high where the port's state powers its head. -/
def Core.hpwrEn (s : Core) (p : Nat) : Level :=
  match s.mode, s.phase with
  | .off, .waking => .low
  | .off, _ => .hiZ
  | .retain, _ => .hiZ
  | .safe, _ => .low
  | _, _ => if s.link p = lkOff ∨ s.link p = lkFault then .low else .high

end Sys2Proof.Machine
end

