-- ==== Sys2Proof/Machine/Dispatch.lean ====
section
/-! DEFINITION. One arm per command, each a direct call of its meaning. -/

namespace Sys2Proof.Machine

open Sys2Proof

def exec (i : Instr) (s : State) : Host.Outcome State Fault Refusal :=
  match i with
  | .ftStep dt env ns => Sys2Proof.Machine.execFtStep dt env ns s
  | .channelModeWrite dt env ch mode => Sys2Proof.Machine.execChannelModeWrite dt env ch mode s
  | .quadTransition dt ch a b => Sys2Proof.Machine.execQuadTransition dt ch a b s
  | .hallTransition dt ch uvw => Sys2Proof.Machine.execHallTransition dt ch uvw s
  | .ssiSample dt ch raw start parity err => Sys2Proof.Machine.execSsiSample dt ch raw start parity err s
  | .signalLoss dt ch => Sys2Proof.Machine.execSignalLoss dt ch s
  | .signalReturn dt ch => Sys2Proof.Machine.execSignalReturn dt ch s
  | .zIndex dt ch => Sys2Proof.Machine.execZIndex dt ch s
  | .estZeroTimeout dt ch => Sys2Proof.Machine.execEstZeroTimeout dt ch s
  | .tackPeriodic dt ch => Sys2Proof.Machine.execTackPeriodic dt ch s
  | .tackNow dt env value => Sys2Proof.Machine.execTackNow dt env value s
  | .paceSrcWrite dt env sub value => Sys2Proof.Machine.execPaceSrcWrite dt env sub value s
  | .commandedTack dt => Sys2Proof.Machine.execCommandedTack dt s
  | .tackStale dt => Sys2Proof.Machine.execTackStale dt s
  | .columnGate dt port => Sys2Proof.Machine.execColumnGate dt port s
  | .frameTransmit dt port => Sys2Proof.Machine.execFrameTransmit dt port s
  | .stageDeadlineMiss dt port col => Sys2Proof.Machine.execStageDeadlineMiss dt port col s
  | .rotationWrite dt env port first vals => Sys2Proof.Machine.execRotationWrite dt env port first vals s
  | .phaseGroupsWrite dt env port v => Sys2Proof.Machine.execPhaseGroupsWrite dt env port v s
  | .fSetWrite dt env port v => Sys2Proof.Machine.execFSetWrite dt env port v s
  | .fSetAllWrite dt env v => Sys2Proof.Machine.execFSetAllWrite dt env v s
  | .pulseValidationDone dt port => Sys2Proof.Machine.execPulseValidationDone dt port s
  | .spitRun dt env v => Sys2Proof.Machine.execSpitRun dt env v s
  | .spitColumnClock dt => Sys2Proof.Machine.execSpitColumnClock dt s
  | .spitAbort dt env v => Sys2Proof.Machine.execSpitAbort dt env v s
  | .bobbinUnitStart dt ecc => Sys2Proof.Machine.execBobbinUnitStart dt ecc s
  | .bobbinUnitDone dt => Sys2Proof.Machine.execBobbinUnitDone dt s
  | .bobbinLate dt port col => Sys2Proof.Machine.execBobbinLate dt port col s
  | .bobbinLoadWindow dt => Sys2Proof.Machine.execBobbinLoadWindow dt s
  | .statsClear dt env v => Sys2Proof.Machine.execStatsClear dt env v s
  | .bobbinTableWrite dt env table inst first vals => Sys2Proof.Machine.execBobbinTableWrite dt env table inst first vals s
  | .modelParamWrite dt env decay port v => Sys2Proof.Machine.execModelParamWrite dt env decay port v s
  | .modelStep dt => Sys2Proof.Machine.execModelStep dt s
  | .portEnableSet dt env port => Sys2Proof.Machine.execPortEnableSet dt env port s
  | .portDisable dt env port => Sys2Proof.Machine.execPortDisable dt env port s
  | .portBringupStart dt => Sys2Proof.Machine.execPortBringupStart dt s
  | .hpSettleExpiry dt port => Sys2Proof.Machine.execHpSettleExpiry dt port s
  | .laneTrained dt port => Sys2Proof.Machine.execLaneTrained dt port s
  | .trainTimeout dt port => Sys2Proof.Machine.execTrainTimeout dt port s
  | .echoReceived dt port rtt bytes => Sys2Proof.Machine.execEchoReceived dt port rtt bytes s
  | .statusReceived dt port bytes => Sys2Proof.Machine.execStatusReceived dt port bytes s
  | .ackTimeout dt port => Sys2Proof.Machine.execAckTimeout dt port s
  | .statusTimeout dt port => Sys2Proof.Machine.execStatusTimeout dt port s
  | .linkCodeErrors dt rx => Sys2Proof.Machine.execLinkCodeErrors dt rx s
  | .retrainTimeout dt port => Sys2Proof.Machine.execRetrainTimeout dt port s
  | .timePeriodExpiry dt port => Sys2Proof.Machine.execTimePeriodExpiry dt port s
  | .sbResponse dt port bytes => Sys2Proof.Machine.execSbResponse dt port bytes s
  | .sbTimeout dt port => Sys2Proof.Machine.execSbTimeout dt port s
  | .sbPendingRetry dt port => Sys2Proof.Machine.execSbPendingRetry dt port s
  | .portReset dt env port v => Sys2Proof.Machine.execPortReset dt env port v s
  | .tableLoad dt env port v => Sys2Proof.Machine.execTableLoad dt env port v s
  | .measReq dt env mask => Sys2Proof.Machine.execMeasReq dt env mask s
  | .measReqJs dt env mask => Sys2Proof.Machine.execMeasReqJs dt env mask s
  | .measService dt chan ref => Sys2Proof.Machine.execMeasService dt chan ref s
  | .tsrSettleDone dt chan => Sys2Proof.Machine.execTsrSettleDone dt chan s
  | .tsrIntegrationDone dt chan raw => Sys2Proof.Machine.execTsrIntegrationDone dt chan raw s
  | .jsConversionDone dt temps codes => Sys2Proof.Machine.execJsConversionDone dt temps codes s
  | .sweepReq dt env mask => Sys2Proof.Machine.execSweepReq dt env mask s
  | .sweepStart dt chan ref => Sys2Proof.Machine.execSweepStart dt chan ref s
  | .sweepDwellEnd dt chan raw => Sys2Proof.Machine.execSweepDwellEnd dt chan raw s
  | .sweepCancel dt env v => Sys2Proof.Machine.execSweepCancel dt env v s
  | .baseline dt env mask => Sys2Proof.Machine.execBaseline dt env mask s
  | .dryClear dt env mask => Sys2Proof.Machine.execDryClear dt env mask s
  | .nozzleMapWrite dt env first vals => Sys2Proof.Machine.execNozzleMapWrite dt env first vals s
  | .junctionTrip dt => Sys2Proof.Machine.execJunctionTrip dt s
  | .hsvSample dt input mv => Sys2Proof.Machine.execHsvSample dt input mv s
  | .headStopStepAdvance dt => Sys2Proof.Machine.execHeadStopStepAdvance dt s
  | .capTimeout dt => Sys2Proof.Machine.execCapTimeout dt s
  | .keyLoad dt env bytes => Sys2Proof.Machine.execKeyLoad dt env bytes s
  | .keyRevoke dt env slot => Sys2Proof.Machine.execKeyRevoke dt env slot s
  | .commitPeriodExpiry dt port => Sys2Proof.Machine.execCommitPeriodExpiry dt port s
  | .commitDropsReached dt port => Sys2Proof.Machine.execCommitDropsReached dt port s
  | .commitNow dt env mask => Sys2Proof.Machine.execCommitNow dt env mask s
  | .leaveCommitTimeout dt port => Sys2Proof.Machine.execLeaveCommitTimeout dt port s
  | .thimbleJournalTimer dt port fails => Sys2Proof.Machine.execThimbleJournalTimer dt port fails s
  | .thimRetry dt env mask => Sys2Proof.Machine.execThimRetry dt env mask s
  | .orphanAck dt env v => Sys2Proof.Machine.execOrphanAck dt env v s
  | .verifyReq dt env port bytes => Sys2Proof.Machine.execVerifyReq dt env port bytes s
  | .thimOverdue dt port => Sys2Proof.Machine.execThimOverdue dt port s
  | .columnAssembly dt port ecc => Sys2Proof.Machine.execColumnAssembly dt port ecc s
  | .maskGeometryWrite dt env member set v => Sys2Proof.Machine.execMaskGeometryWrite dt env member set v s
  | .maskDataWrite dt env set bytes => Sys2Proof.Machine.execMaskDataWrite dt env set bytes s
  | .pageStart dt => Sys2Proof.Machine.execPageStart dt s
  | .reqTailWrite dt env dec v => Sys2Proof.Machine.execReqTailWrite dt env dec v s
  | .outTailWrite dt env dec v => Sys2Proof.Machine.execOutTailWrite dt env dec v s
  | .doneTailWrite dt env dec v => Sys2Proof.Machine.execDoneTailWrite dt env dec v s
  | .decoderTakeRequest dt dec => Sys2Proof.Machine.execDecoderTakeRequest dt dec s
  | .decoderHeaderDone dt dec ecc errAddr => Sys2Proof.Machine.execDecoderHeaderDone dt dec ecc errAddr s
  | .decoderTableDone dt dec ecc errAddr => Sys2Proof.Machine.execDecoderTableDone dt dec ecc errAddr s
  | .decodeCode dt dec ecc errAddr => Sys2Proof.Machine.execDecodeCode dt dec ecc errAddr s
  | .decoderBlockEnd dt dec => Sys2Proof.Machine.execDecoderBlockEnd dt dec s
  | .decAbort dt env dec v => Sys2Proof.Machine.execDecAbort dt env dec v s
  | .presetWrite dt env preset bytes => Sys2Proof.Machine.execPresetWrite dt env preset bytes s
  | .windowDispatch dt => Sys2Proof.Machine.execWindowDispatch dt s
  | .streamOpen dt env => Sys2Proof.Machine.execStreamOpen dt env s
  | .streamClose dt env => Sys2Proof.Machine.execStreamClose dt env s
  | .dataDatagram dt lane src port bytes => Sys2Proof.Machine.execDataDatagram dt lane src port bytes s
  | .ackPeriodExpiry dt => Sys2Proof.Machine.execAckPeriodExpiry dt s
  | .recordJobStart dt => Sys2Proof.Machine.execRecordJobStart dt s
  | .recordJobEnd dt => Sys2Proof.Machine.execRecordJobEnd dt s
  | .recordPlaneSetup dt => Sys2Proof.Machine.execRecordPlaneSetup dt s
  | .recordPageStart dt => Sys2Proof.Machine.execRecordPageStart dt s
  | .recordLineMark dt => Sys2Proof.Machine.execRecordLineMark dt s
  | .recordPageEnd dt => Sys2Proof.Machine.execRecordPageEnd dt s
  | .recordBlock dt ecc errAddr => Sys2Proof.Machine.execRecordBlock dt ecc errAddr s
  | .recordMeasure dt => Sys2Proof.Machine.execRecordMeasure dt s
  | .recordSpitBand dt => Sys2Proof.Machine.execRecordSpitBand dt s
  | .recordMark dt => Sys2Proof.Machine.execRecordMark dt s
  | .measureAtCol dt => Sys2Proof.Machine.execMeasureAtCol dt s
  | .dmaEnable dt env ch => Sys2Proof.Machine.execDmaEnable dt env ch s
  | .dmaDisable dt env ch => Sys2Proof.Machine.execDmaDisable dt env ch s
  | .dmaTailWrite dt env ch v => Sys2Proof.Machine.execDmaTailWrite dt env ch v s
  | .dmaGrant dt engine => Sys2Proof.Machine.execDmaGrant dt engine s
  | .dmaBurst dt engine ecc errAddr coll => Sys2Proof.Machine.execDmaBurst dt engine ecc errAddr coll s
  | .dmaDescriptorEnd dt engine => Sys2Proof.Machine.execDmaDescriptorEnd dt engine s
  | .dmaBusError dt engine write => Sys2Proof.Machine.execDmaBusError dt engine write s
  | .dmaResume dt env ch v => Sys2Proof.Machine.execDmaResume dt env ch v s
  | .dmaAbort dt env ch v => Sys2Proof.Machine.execDmaAbort dt env ch v s
  | .dmaPriorityWrite dt env ch v => Sys2Proof.Machine.execDmaPriorityWrite dt env ch v s
  | .sbOwnerWrite dt env portB bank v => Sys2Proof.Machine.execSbOwnerWrite dt env portB bank v s
  | .bankHandoverDone dt bank => Sys2Proof.Machine.execBankHandoverDone dt bank s
  | .quarantineCleared dt bank => Sys2Proof.Machine.execQuarantineCleared dt bank s
  | .memDataRead dt env off ecc errAddr => Sys2Proof.Machine.execMemDataRead dt env off ecc errAddr s
  | .memDataWrite dt env off total bytes ecc errAddr coll => Sys2Proof.Machine.execMemDataWrite dt env off total bytes ecc errAddr coll s
  | .spoolBitSet dt who addr width value coll => Sys2Proof.Machine.execSpoolBitSet dt who addr width value coll s
  | .spoolBitClear dt who addr width value coll => Sys2Proof.Machine.execSpoolBitClear dt who addr width value coll s
  | .atomicAdd32 dt env addr operand ecc coll => Sys2Proof.Machine.execAtomicAdd32 dt env addr operand ecc coll s
  | .atomicAdd64 dt env addr operand ecc coll => Sys2Proof.Machine.execAtomicAdd64 dt env addr operand ecc coll s
  | .atomicSwap32 dt env addr operand ecc coll => Sys2Proof.Machine.execAtomicSwap32 dt env addr operand ecc coll s
  | .atomicSwap64 dt env addr operand ecc coll => Sys2Proof.Machine.execAtomicSwap64 dt env addr operand ecc coll s
  | .basteRegion dt bank ecc word abandoned failBit => Sys2Proof.Machine.execBasteRegion dt bank ecc word abandoned failBit s
  | .dramScrubDone dt => Sys2Proof.Machine.execDramScrubDone dt s
  | .dramRefreshChange dt code above => Sys2Proof.Machine.execDramRefreshChange dt code above s
  | .dramEccWrite dt env v => Sys2Proof.Machine.execDramEccWrite dt env v s
  | .moveAbs dt env axis target speed => Sys2Proof.Machine.execMoveAbs dt env axis target speed s
  | .moveRel dt env axis target speed => Sys2Proof.Machine.execMoveRel dt env axis target speed s
  | .moveVel dt env axis speed => Sys2Proof.Machine.execMoveVel dt env axis speed s
  | .moveStop dt env axis => Sys2Proof.Machine.execMoveStop dt env axis s
  | .moveHome dt env axis speed => Sys2Proof.Machine.execMoveHome dt env axis speed s
  | .moveCap dt env axis => Sys2Proof.Machine.execMoveCap dt env axis s
  | .moveUncap dt env axis => Sys2Proof.Machine.execMoveUncap dt env axis s
  | .axisEnable dt env axis => Sys2Proof.Machine.execAxisEnable dt env axis s
  | .axisDisable dt env axis => Sys2Proof.Machine.execAxisDisable dt env axis s
  | .gearEngage dt env group => Sys2Proof.Machine.execGearEngage dt env group s
  | .gearDisengage dt env group => Sys2Proof.Machine.execGearDisengage dt env group s
  | .groupStop dt env group v => Sys2Proof.Machine.execGroupStop dt env group v s
  | .capSeq dt env v => Sys2Proof.Machine.execCapSeq dt env v s
  | .setPos dt env axis pos => Sys2Proof.Machine.execSetPos dt env axis pos s
  | .groupMasterWrite dt env master index v => Sys2Proof.Machine.execGroupMasterWrite dt env master index v s
  | .servoTick dt => Sys2Proof.Machine.execServoTick dt s
  | .pwmBoundary dt freq samples => Sys2Proof.Machine.execPwmBoundary dt freq samples s
  | .driveStatus dt dl bytes codeErr => Sys2Proof.Machine.execDriveStatus dt dl bytes codeErr s
  | .driveStatusMissing dt dl => Sys2Proof.Machine.execDriveStatusMissing dt dl s
  | .dlLink dt dl => Sys2Proof.Machine.execDlLink dt dl s
  | .homeEdge dt axis active => Sys2Proof.Machine.execHomeEdge dt axis active s
  | .limActive dt axis => Sys2Proof.Machine.execLimActive dt axis s
  | .phaseOpen dt st => Sys2Proof.Machine.execPhaseOpen dt st s
  | .senseReferenceTest dt st resA resB => Sys2Proof.Machine.execSenseReferenceTest dt st resA resB s
  | .sensePlausibilityFail dt st => Sys2Proof.Machine.execSensePlausibilityFail dt st s
  | .desaturation dt st gate => Sys2Proof.Machine.execDesaturation dt st gate s
  | .vdrvUndervoltage dt => Sys2Proof.Machine.execVdrvUndervoltage dt s
  | .vbusFault dt st high => Sys2Proof.Machine.execVbusFault dt st high s
  | .holdDelayExpiry dt st => Sys2Proof.Machine.execHoldDelayExpiry dt st s
  | .cometReqReceived dt port bytes => Sys2Proof.Machine.execCometReqReceived dt port bytes s
  | .cometCollectEnd dt => Sys2Proof.Machine.execCometCollectEnd dt s
  | .cometGoReceived dt port bytes => Sys2Proof.Machine.execCometGoReceived dt port bytes s
  | .cometSeamComplete dt => Sys2Proof.Machine.execCometSeamComplete dt s
  | .cometResume dt => Sys2Proof.Machine.execCometResume dt s
  | .cometReadyReceived dt port bytes => Sys2Proof.Machine.execCometReadyReceived dt port bytes s
  | .cometSeamDoneReceived dt port bytes => Sys2Proof.Machine.execCometSeamDoneReceived dt port bytes s
  | .cometEnlistReceived dt port bytes => Sys2Proof.Machine.execCometEnlistReceived dt port bytes s
  | .cometDelistReceived dt port bytes => Sys2Proof.Machine.execCometDelistReceived dt port bytes s
  | .cometStateReceived dt port bytes => Sys2Proof.Machine.execCometStateReceived dt port bytes s
  | .cometParticipantTimeout dt => Sys2Proof.Machine.execCometParticipantTimeout dt s
  | .osStop dt => Sys2Proof.Machine.execOsStop dt s
  | .ringBlockLock dt port => Sys2Proof.Machine.execRingBlockLock dt port s
  | .ringLockLost dt port => Sys2Proof.Machine.execRingLockLost dt port s
  | .helloSendTimer dt port => Sys2Proof.Machine.execHelloSendTimer dt port s
  | .helloReceived dt port bytes => Sys2Proof.Machine.execHelloReceived dt port bytes s
  | .helloTimeout dt port => Sys2Proof.Machine.execHelloTimeout dt port s
  | .delayReqTimer dt => Sys2Proof.Machine.execDelayReqTimer dt s
  | .delayReqReceived dt bytes resid => Sys2Proof.Machine.execDelayReqReceived dt bytes resid s
  | .delayRspReceived dt bytes => Sys2Proof.Machine.execDelayRspReceived dt bytes s
  | .syncSendTimer dt => Sys2Proof.Machine.execSyncSendTimer dt s
  | .syncReceived dt port bytes resid => Sys2Proof.Machine.execSyncReceived dt port bytes resid s
  | .syncLossTimeout dt => Sys2Proof.Machine.execSyncLossTimeout dt s
  | .ringTackTimer dt => Sys2Proof.Machine.execRingTackTimer dt s
  | .tackFrameReceived dt port bytes => Sys2Proof.Machine.execTackFrameReceived dt port bytes s
  | .abortedFrameReceived dt port => Sys2Proof.Machine.execAbortedFrameReceived dt port s
  | .fragmentTimeout dt => Sys2Proof.Machine.execFragmentTimeout dt s
  | .foldReceived dt port bytes => Sys2Proof.Machine.execFoldReceived dt port bytes s
  | .joinReceived dt port bytes => Sys2Proof.Machine.execJoinReceived dt port bytes s
  | .joinRepeatTimer dt => Sys2Proof.Machine.execJoinRepeatTimer dt s
  | .topoReceived dt port bytes => Sys2Proof.Machine.execTopoReceived dt port bytes s
  | .topoRepeatTimer dt => Sys2Proof.Machine.execTopoRepeatTimer dt s
  | .noMasterTimeout dt => Sys2Proof.Machine.execNoMasterTimeout dt s
  | .calReq dt env v => Sys2Proof.Machine.execCalReq dt env v s
  | .calCommandReceived dt port bytes => Sys2Proof.Machine.execCalCommandReceived dt port bytes s
  | .calReportReceived dt port bytes => Sys2Proof.Machine.execCalReportReceived dt port bytes s
  | .calReportTimeout dt => Sys2Proof.Machine.execCalReportTimeout dt s
  | .ringSweepReq dt env mask => Sys2Proof.Machine.execRingSweepReq dt env mask s
  | .sweepCommandReceived dt port bytes => Sys2Proof.Machine.execSweepCommandReceived dt port bytes s
  | .sweepReportReceived dt port bytes => Sys2Proof.Machine.execSweepReportReceived dt port bytes s
  | .faultBlockReceived dt port bytes => Sys2Proof.Machine.execFaultBlockReceived dt port bytes s
  | .fopFrameReceived dt port head payload crc => Sys2Proof.Machine.execFopFrameReceived dt port head payload crc s
  | .streamFrameReceived dt port head payload crc => Sys2Proof.Machine.execStreamFrameReceived dt port head payload crc s
  | .ringConfigWrite dt env member v => Sys2Proof.Machine.execRingConfigWrite dt env member v s
  | .ptpSyncReceived dt lane domain time delay => Sys2Proof.Machine.execPtpSyncReceived dt lane domain time delay s
  | .ptpAnnounceTimeout dt => Sys2Proof.Machine.execPtpAnnounceTimeout dt s
  | .mirrorColumn dt seq job fired lost deltas => Sys2Proof.Machine.execMirrorColumn dt seq job fired lost deltas s
  | .mirrorThermal dt seq first bytes => Sys2Proof.Machine.execMirrorThermal dt seq first bytes s
  | .mirrorEphem dt seq gateJ gateTf cometState cometId seam digest => Sys2Proof.Machine.execMirrorEphem dt seq gateJ gateTf cometState cometId seam digest s
  | .mirrorStream dt seq job ssn dseq la page => Sys2Proof.Machine.execMirrorStream dt seq job ssn dseq la page s
  | .mirrorMap dt seq ref entries => Sys2Proof.Machine.execMirrorMap dt seq ref entries s
  | .mirrorDry dt seq ref flags => Sys2Proof.Machine.execMirrorDry dt seq ref flags s
  | .mirrorThimble dt seq port bytes => Sys2Proof.Machine.execMirrorThimble dt seq port bytes s
  | .mirrorMeas dt seq sensor bytes => Sys2Proof.Machine.execMirrorMeas dt seq sensor bytes s
  | .mirrorSnap dt seq id kind last offset bytes => Sys2Proof.Machine.execMirrorSnap dt seq id kind last offset bytes s
  | .mirrorSwitch dt seq epoch => Sys2Proof.Machine.execMirrorSwitch dt seq epoch s
  | .mirrorAck dt ref => Sys2Proof.Machine.execMirrorAck dt ref s
  | .mirrorSyncReq dt id => Sys2Proof.Machine.execMirrorSyncReq dt id s
  | .mirrorStandby dt notReady => Sys2Proof.Machine.execMirrorStandby dt notReady s
  | .mirrorEphemTimer dt => Sys2Proof.Machine.execMirrorEphemTimer dt s
  | .mirrorStreamTimer dt => Sys2Proof.Machine.execMirrorStreamTimer dt s
  | .standbyRecordTimer dt partnerPrint => Sys2Proof.Machine.execStandbyRecordTimer dt partnerPrint s
  | .standbyRecordTimeout dt => Sys2Proof.Machine.execStandbyRecordTimeout dt s
  | .thimbleAckWaitTimeout dt port => Sys2Proof.Machine.execThimbleAckWaitTimeout dt port s
  | .pairSilenceExpiry dt => Sys2Proof.Machine.execPairSilenceExpiry dt s
  | .takeoverWrite dt env v => Sys2Proof.Machine.execTakeoverWrite dt env v s
  | .takeRetryTimeout dt port => Sys2Proof.Machine.execTakeRetryTimeout dt port s
  | .pairSwitch dt env v => Sys2Proof.Machine.execPairSwitch dt env v s
  | .fopOpen dt env role maxMsg nonce => Sys2Proof.Machine.execFopOpen dt env role maxMsg nonce s
  | .fopClose dt env => Sys2Proof.Machine.execFopClose dt env s
  | .fopKeepalive dt env => Sys2Proof.Machine.execFopKeepalive dt env s
  | .fopRead dt env index sub count width lane off => Sys2Proof.Machine.execFopRead dt env index sub count width lane off s
  | .fopDescribe dt env index sub => Sys2Proof.Machine.execFopDescribe dt env index sub s
  | .objectWrite dt env index sub count width lane off total data => Sys2Proof.Machine.execObjectWrite dt env index sub count width lane off total data s
  | .txnBegin dt env => Sys2Proof.Machine.execTxnBegin dt env s
  | .txnCommit dt env => Sys2Proof.Machine.execTxnCommit dt env s
  | .txnAbort dt env => Sys2Proof.Machine.execTxnAbort dt env s
  | .fopSubscribe dt env mask => Sys2Proof.Machine.execFopSubscribe dt env mask s
  | .eventSend dt handle => Sys2Proof.Machine.execEventSend dt handle s
  | .sessionPendingTimeout dt handle => Sys2Proof.Machine.execSessionPendingTimeout dt handle s
  | .sessionIdleTimeout dt handle => Sys2Proof.Machine.execSessionIdleTimeout dt handle s
  | .heldRequestTimeout dt handle => Sys2Proof.Machine.execHeldRequestTimeout dt handle s
  | .readSnapshotTimeout dt handle => Sys2Proof.Machine.execReadSnapshotTimeout dt handle s
  | .writeSegmentTimeout dt handle => Sys2Proof.Machine.execWriteSegmentTimeout dt handle s
  | .txnLeaseLapse dt handle => Sys2Proof.Machine.execTxnLeaseLapse dt handle s
  | .roleKeyWrite dt env role bytes => Sys2Proof.Machine.execRoleKeyWrite dt env role bytes s
  | .regLookup dt env index sub => Sys2Proof.Machine.execRegLookup dt env index sub s
  | .rawWindowRead dt env reg count width lane => Sys2Proof.Machine.execRawWindowRead dt env reg count width lane s
  | .rawWindowWrite dt env reg count width lane data => Sys2Proof.Machine.execRawWindowWrite dt env reg count width lane data s
  | .journalTimer dt fail wear => Sys2Proof.Machine.execJournalTimer dt fail wear s
  | .journalRetry dt fail wear => Sys2Proof.Machine.execJournalRetry dt fail wear s
  | .journalSync dt env v => Sys2Proof.Machine.execJournalSync dt env v s
  | .restoreFactory dt env groups => Sys2Proof.Machine.execRestoreFactory dt env groups s
  | .modeReqConfig dt env => Sys2Proof.Machine.execModeReqConfig dt env s
  | .modeReqReady dt env => Sys2Proof.Machine.execModeReqReady dt env s
  | .modeReqPrintWeb dt env => Sys2Proof.Machine.execModeReqPrintWeb dt env s
  | .modeReqPrintScan dt env => Sys2Proof.Machine.execModeReqPrintScan dt env s
  | .modeReqService dt env => Sys2Proof.Machine.execModeReqService dt env s
  | .modeReqPark dt env => Sys2Proof.Machine.execModeReqPark dt env s
  | .autoReadyRequest dt => Sys2Proof.Machine.execAutoReadyRequest dt s
  | .stopComplete dt => Sys2Proof.Machine.execStopComplete dt s
  | .parkStepComplete dt => Sys2Proof.Machine.execParkStepComplete dt s
  | .parkStepBoundExpiry dt => Sys2Proof.Machine.execParkStepBoundExpiry dt s
  | .wakeNFall dt bad straps => Sys2Proof.Machine.execWakeNFall dt bad straps s
  | .wakeAfterExpiry dt bad straps => Sys2Proof.Machine.execWakeAfterExpiry dt bad straps s
  | .resetCmd dt env v bad straps => Sys2Proof.Machine.execResetCmd dt env v bad straps s
  | .sourceAck dt env source v => Sys2Proof.Machine.execSourceAck dt env source v s
  | .ackAll dt env v => Sys2Proof.Machine.execAckAll dt env v s
  | .sourceForce dt env source v => Sys2Proof.Machine.execSourceForce dt env source v s
  | .sourceConfigWrite dt env source sub v => Sys2Proof.Machine.execSourceConfigWrite dt env source sub v s
  | .hostLockTake dt env => Sys2Proof.Machine.execHostLockTake dt env s
  | .hostLockRelease dt env => Sys2Proof.Machine.execHostLockRelease dt env s
  | .hostTimeoutExpiry dt => Sys2Proof.Machine.execHostTimeoutExpiry dt s
  | .faultInput dt input => Sys2Proof.Machine.execFaultInput dt input s
  | .tripCmd dt env v => Sys2Proof.Machine.execTripCmd dt env v s
  | .safetyWdogExpiry dt selvedge => Sys2Proof.Machine.execSafetyWdogExpiry dt selvedge s
  | .wdogResetDelay dt bad straps => Sys2Proof.Machine.execWdogResetDelay dt bad straps s
  | .safeAutoResetExpiry dt bad straps => Sys2Proof.Machine.execSafeAutoResetExpiry dt bad straps s
  | .hemReadbackFail dt kind index => Sys2Proof.Machine.execHemReadbackFail dt kind index s
  | .hemArmCheck dt mismatch => Sys2Proof.Machine.execHemArmCheck dt mismatch s
  | .railGood dt bad straps => Sys2Proof.Machine.execRailGood dt bad straps s
  | .railWarning dt rail => Sys2Proof.Machine.execRailWarning dt rail s
  | .railOff dt rail => Sys2Proof.Machine.execRailOff dt rail s
  | .railOvervoltage dt rail => Sys2Proof.Machine.execRailOvervoltage dt rail s
  | .mainRailTimeout dt => Sys2Proof.Machine.execMainRailTimeout dt s
  | .resetNLow dt => Sys2Proof.Machine.execResetNLow dt s
  | .resetNRise dt bad straps => Sys2Proof.Machine.execResetNRise dt bad straps s
  | .startupComplete dt dramA dramB trained kept retBad => Sys2Proof.Machine.execStartupComplete dt dramA dramB trained kept retBad s
  | .clockMonitorCheck dt xtal sdref => Sys2Proof.Machine.execClockMonitorCheck dt xtal sdref s
  | .islandClockWindow dt island off => Sys2Proof.Machine.execIslandClockWindow dt island off s
  | .islandClockAbsent dt island => Sys2Proof.Machine.execIslandClockAbsent dt island s
  | .islandClockReturn dt island => Sys2Proof.Machine.execIslandClockReturn dt island s
  | .regParityPass dt fails => Sys2Proof.Machine.execRegParityPass dt fails s
  | .referenceCompare dt differ => Sys2Proof.Machine.execReferenceCompare dt differ s
  | .islandResetWrite dt env v => Sys2Proof.Machine.execIslandResetWrite dt env v s
  | .islandResetDone dt island => Sys2Proof.Machine.execIslandResetDone dt island s
  | .bistGroupStart dt => Sys2Proof.Machine.execBistGroupStart dt s
  | .bistGroupEnd dt group fails badSpares sigs checks => Sys2Proof.Machine.execBistGroupEnd dt group fails badSpares sigs checks s
  | .bistGroupTimeout dt group => Sys2Proof.Machine.execBistGroupTimeout dt group s
  | .bistInvalidate dt env v => Sys2Proof.Machine.execBistInvalidate dt env v s
  | .tapInstruction dt ir boundary => Sys2Proof.Machine.execTapInstruction dt ir boundary s
  | .hostPortFrame dt lane bytes => Sys2Proof.Machine.execHostPortFrame dt lane bytes s
  | .hostPortBlockLock dt lane => Sys2Proof.Machine.execHostPortBlockLock dt lane s
  | .hostPortLockLost dt lane => Sys2Proof.Machine.execHostPortLockLost dt lane s
  | .ptpAnnounceReceived dt lane domain rank interval => Sys2Proof.Machine.execPtpAnnounceReceived dt lane domain rank interval s
  | .limInactive dt axis => Sys2Proof.Machine.execLimInactive dt axis s
  | .faultInputInactive dt input => Sys2Proof.Machine.execFaultInputInactive dt input s
  | .railWarningEnd dt => Sys2Proof.Machine.execRailWarningEnd dt s
  | .deferredTackLatch dt ch => Sys2Proof.Machine.execDeferredTackLatch dt ch s
  | .selvedgeLockstepMismatch dt kind => Sys2Proof.Machine.execSelvedgeLockstepMismatch dt kind s

end Sys2Proof.Machine
end

