-- ==== Sys2Proof/WellFormed.lean ====
section
/-! DEFINITION. Which commands are well formed: every operand lies in the range its source can give it (a head port is one of 64, a ring port KE or KW, a field
of a message fits its width). A command that is not well formed cannot come from the block's surroundings; the meanings are total on it all the same. -/

namespace Sys2Proof

/-- An operand is below a count. -/
def below (n v : Nat) : Bool := decide (v < n)

/-- Both levels of a change are below a bound. -/
def Change.wf (n : Nat) (x : Change) : Bool := below n x.before && below n x.after

/-- An operand fits a field of `w` bits. -/
def fits (w v : Nat) : Bool := decide (v < 2 ^ w)

/-- A signed operand fits a two's-complement field of `w` bits. -/
def fitsI (w : Nat) (v : Int) : Bool := decide (-((2 : Int) ^ (w - 1)) ≤ v ∧ v < (2 : Int) ^ (w - 1))

/-- The fields of a request fit Table 16-1. -/
def FopEnv.wf (e : FopEnv) : Bool :=
  fits 128 e.ip && fits 16 e.port && fits 16 e.node && fits 64 e.serial && fits 16 e.session && fits 32 e.seq && fits 256 e.tag

/-- The command is well formed. -/
def Instr.wf : Instr → Bool
  | .ftStep _ env ns => env.wf && fits 64 ns
  | .channelModeWrite _ env ch mode => env.wf && below 8 ch && fits 8 mode
  | .quadTransition _ ch a b => below 8 ch && a.wf 2 && b.wf 2
  | .hallTransition _ ch uvw => below 8 ch && uvw.wf 8
  | .ssiSample _ ch raw _ _ _ => below 8 ch && fits 32 raw
  | .signalLoss _ ch => below 8 ch
  | .signalReturn _ ch => below 8 ch
  | .zIndex _ ch => below 8 ch
  | .estZeroTimeout _ ch => below 8 ch
  | .tackPeriodic _ ch => below 8 ch
  | .tackNow _ env value => env.wf && fits 8 value
  | .paceSrcWrite _ env sub value => env.wf && fits 16 sub && fits 8 value
  | .commandedTack _ => true
  | .tackStale _ => true
  | .columnGate _ port => below 64 port
  | .frameTransmit _ port => below 64 port
  | .stageDeadlineMiss _ port _ => below 64 port
  | .rotationWrite _ env port first vals => env.wf && below 64 port && fits 16 first && vals.all (fits 64)
  | .phaseGroupsWrite _ env port v => env.wf && below 64 port && fits 8 v
  | .fSetWrite _ env port v => env.wf && below 64 port && fits 32 v
  | .fSetAllWrite _ env v => env.wf && fits 32 v
  | .pulseValidationDone _ port => below 64 port
  | .spitRun _ env v => env.wf && fits 8 v
  | .spitColumnClock _ => true
  | .spitAbort _ env v => env.wf && fits 64 v
  | .bobbinUnitStart _ ecc => below 3 ecc
  | .bobbinUnitDone _ => true
  | .bobbinLate _ port _ => below 64 port
  | .bobbinLoadWindow _ => true
  | .statsClear _ env v => env.wf && fits 64 v
  | .bobbinTableWrite _ env _ inst first vals => env.wf && fits 16 inst && fits 16 first && vals.all (fits 64)
  | .modelParamWrite _ env _ port v => env.wf && below 64 port && fits 16 v
  | .modelStep _ => true
  | .portEnableSet _ env port => env.wf && below 64 port
  | .portDisable _ env port => env.wf && below 64 port
  | .portBringupStart _ => true
  | .hpSettleExpiry _ port => below 64 port
  | .laneTrained _ port => below 64 port
  | .trainTimeout _ port => below 64 port
  | .echoReceived _ port _ _ => below 64 port
  | .statusReceived _ port _ => below 64 port
  | .ackTimeout _ port => below 64 port
  | .statusTimeout _ port => below 64 port
  | .linkCodeErrors _ rx => below 64 rx.port && rx.groups.all (below 1024)
  | .retrainTimeout _ port => below 64 port
  | .timePeriodExpiry _ port => below 64 port
  | .sbResponse _ port _ => below 64 port
  | .sbTimeout _ port => below 64 port
  | .sbPendingRetry _ port => below 64 port
  | .portReset _ env port v => env.wf && below 64 port && fits 8 v
  | .tableLoad _ env port v => env.wf && below 64 port && fits 8 v
  | .measReq _ env mask => env.wf && fits 64 mask
  | .measReqJs _ env mask => env.wf && fits 64 mask
  | .measService _ chan ref => below 32 chan && fits 32 ref
  | .tsrSettleDone _ chan => below 32 chan
  | .tsrIntegrationDone _ chan volt => below 32 chan && fits 48 volt
  | .jsConversionDone _ temps codes => temps.all (fitsI 16) && codes.all (fits 16)
  | .sweepReq _ env mask => env.wf && fits 64 mask
  | .sweepStart _ chan ref => below 32 chan && fits 32 ref
  | .sweepDwellEnd _ chan volt => below 32 chan && fits 48 volt
  | .sweepCancel _ env v => env.wf && fits 64 v
  | .baseline _ env mask => env.wf && fits 64 mask
  | .dryClear _ env mask => env.wf && fits 64 mask
  | .nozzleMapWrite _ env first vals => env.wf && fits 16 first && vals.all (fits 64)
  | .junctionTrip _ => true
  | .hsvSample _ input _ => below 16 input
  | .headStopStepAdvance _ => true
  | .capTimeout _ => true
  | .keyLoad _ env _ => env.wf
  | .keyRevoke _ env slot => env.wf && fits 8 slot
  | .commitPeriodExpiry _ port => below 64 port
  | .commitDropsReached _ port => below 64 port
  | .commitNow _ env mask => env.wf && fits 64 mask
  | .leaveCommitTimeout _ port => below 64 port
  | .thimbleJournalTimer _ port _ => below 64 port
  | .thimRetry _ env mask => env.wf && fits 64 mask
  | .orphanAck _ env v => env.wf && fits 64 v
  | .verifyReq _ env port bytes => env.wf && below 64 port && decide (bytes.length = 16)
  | .thimOverdue _ port => below 64 port
  | .columnAssembly _ port ecc => below 64 port && below 3 ecc
  | .maskGeometryWrite _ env _ _ v => env.wf && fits 16 v
  | .maskDataWrite _ env _ _ => env.wf
  | .pageStart _ => true
  | .reqTailWrite _ env dec v => env.wf && below 4 dec && fits 32 v
  | .outTailWrite _ env dec v => env.wf && below 4 dec && fits 32 v
  | .doneTailWrite _ env dec v => env.wf && below 4 dec && fits 32 v
  | .decoderTakeRequest _ dec => below 4 dec
  | .decoderHeaderDone _ dec ecc errAddr => below 4 dec && below 3 ecc && fits 64 errAddr
  | .decoderTableDone _ dec ecc errAddr => below 4 dec && below 3 ecc && fits 64 errAddr
  | .decodeCode _ dec ecc errAddr => below 4 dec && below 3 ecc && fits 64 errAddr
  | .decoderBlockEnd _ dec => below 4 dec
  | .decAbort _ env dec v => env.wf && below 4 dec && fits 64 v
  | .presetWrite _ env preset _ => env.wf && below 16 preset
  | .windowDispatch _ => true
  | .streamOpen _ env => env.wf
  | .streamClose _ env => env.wf
  | .dataDatagram _ lane src port _ => below 2 lane && fits 128 src && fits 16 port
  | .ackPeriodExpiry _ => true
  | .recordJobStart _ => true
  | .recordJobEnd _ => true
  | .recordPlaneSetup _ => true
  | .recordPageStart _ => true
  | .recordLineMark _ => true
  | .recordPageEnd _ => true
  | .recordBlock _ ecc errAddr => below 3 ecc && fits 64 errAddr
  | .recordMeasure _ => true
  | .recordSpitBand _ => true
  | .recordMark _ => true
  | .measureAtCol _ => true
  | .dmaEnable _ env ch => env.wf && below 64 ch
  | .dmaDisable _ env ch => env.wf && below 64 ch
  | .dmaTailWrite _ env ch v => env.wf && below 64 ch && fits 32 v
  | .dmaGrant _ engine => below 4 engine
  | .dmaBurst _ engine ecc errAddr _ => below 4 engine && below 3 ecc && fits 64 errAddr
  | .dmaDescriptorEnd _ engine => below 4 engine
  | .dmaBusError _ engine _ => below 4 engine
  | .dmaResume _ env ch v => env.wf && below 64 ch && fits 64 v
  | .dmaAbort _ env ch v => env.wf && below 64 ch && fits 64 v
  | .dmaPriorityWrite _ env ch v => env.wf && below 64 ch && fits 64 v
  | .sbOwnerWrite _ env _ bank v => env.wf && below 52 bank && fits 64 v
  | .bankHandoverDone _ bank => below 52 bank
  | .quarantineCleared _ bank => below 52 bank
  | .memDataRead _ env off ecc errAddr => env.wf && fits 32 off && below 3 ecc && fits 64 errAddr
  | .memDataWrite _ env off total _ ecc errAddr _ => env.wf && fits 32 off && fits 32 total && below 3 ecc && fits 64 errAddr
  | .spoolBitSet _ who addr width value _ => below 16 who && fits 64 addr && fits 8 width && fits 64 value
  | .spoolBitClear _ who addr width value _ => below 16 who && fits 64 addr && fits 8 width && fits 64 value
  | .atomicAdd32 _ env addr operand ecc _ => env.wf && fits 64 addr && fits 64 operand && below 3 ecc
  | .atomicAdd64 _ env addr operand ecc _ => env.wf && fits 64 addr && fits 64 operand && below 3 ecc
  | .atomicSwap32 _ env addr operand ecc _ => env.wf && fits 64 addr && fits 64 operand && below 3 ecc
  | .atomicSwap64 _ env addr operand ecc _ => env.wf && fits 64 addr && fits 64 operand && below 3 ecc
  | .basteRegion _ bank ecc word _ failBit => below 52 bank && below 3 ecc && below 8 word && (match failBit with | some i => below 72 i | none => true)
  | .dramScrubDone _ => true
  | .dramRefreshChange _ _ _ => true
  | .dramEccWrite _ env v => env.wf && fits 64 v
  | .moveAbs _ env axis target speed => env.wf && below 12 axis && fitsI 64 target && fitsI 32 speed
  | .moveRel _ env axis target speed => env.wf && below 12 axis && fitsI 64 target && fitsI 32 speed
  | .moveVel _ env axis speed => env.wf && below 12 axis && fitsI 32 speed
  | .moveStop _ env axis => env.wf && below 12 axis
  | .moveHome _ env axis speed => env.wf && below 12 axis && fitsI 32 speed
  | .moveCap _ env axis => env.wf && below 12 axis
  | .moveUncap _ env axis => env.wf && below 12 axis
  | .axisEnable _ env axis => env.wf && below 12 axis
  | .axisDisable _ env axis => env.wf && below 12 axis
  | .gearEngage _ env group => env.wf && below 8 group
  | .gearDisengage _ env group => env.wf && below 8 group
  | .groupStop _ env group v => env.wf && below 8 group && fits 64 v
  | .capSeq _ env v => env.wf && fits 64 v
  | .setPos _ env axis pos => env.wf && below 12 axis && fitsI 64 pos
  | .groupMasterWrite _ env _ index v => env.wf && fits 16 index && fits 64 v
  | .servoTick _ => true
  | .pwmBoundary _ freq samples => fits 32 freq && samples.all (fun b => below 8 b.st)
  | .driveStatus _ dl _ _ => below 4 dl
  | .driveStatusMissing _ dl => below 4 dl
  | .dlLink _ dl => below 4 dl
  | .homeEdge _ axis _ => below 12 axis
  | .limActive _ axis => below 12 axis
  | .phaseOpen _ st => below 8 st
  | .senseReferenceTest _ st _ _ => below 8 st
  | .sensePlausibilityFail _ st => below 8 st
  | .desaturation _ st _ => below 8 st
  | .vdrvUndervoltage _ => true
  | .vbusFault _ st _ => below 8 st
  | .holdDelayExpiry _ st => below 8 st
  | .cometReqReceived _ port bytes => below 2 port && decide (bytes.length ≤ 560)
  | .cometCollectEnd _ => true
  | .cometGoReceived _ port bytes => below 2 port && decide (bytes.length ≤ 560)
  | .cometSeamComplete _ => true
  | .cometResume _ => true
  | .cometReadyReceived _ port bytes => below 2 port && decide (bytes.length ≤ 560)
  | .cometSeamDoneReceived _ port bytes => below 2 port && decide (bytes.length ≤ 560)
  | .cometEnlistReceived _ port bytes => below 2 port && decide (bytes.length ≤ 560)
  | .cometDelistReceived _ port bytes => below 2 port && decide (bytes.length ≤ 560)
  | .cometStateReceived _ port bytes => below 2 port && decide (bytes.length ≤ 560)
  | .cometParticipantTimeout _ => true
  | .osStop _ => true
  | .ringBlockLock _ port => below 2 port
  | .ringLockLost _ port => below 2 port
  | .helloSendTimer _ port => below 2 port
  | .helloReceived _ port bytes => below 2 port && decide (bytes.length ≤ 560)
  | .helloTimeout _ port => below 2 port
  | .delayReqTimer _ => true
  | .delayReqReceived _ _ _ => true
  | .delayRspReceived _ _ => true
  | .syncSendTimer _ => true
  | .syncReceived _ port bytes _ => below 2 port && decide (bytes.length ≤ 560)
  | .syncLossTimeout _ => true
  | .ringTackTimer _ => true
  | .tackFrameReceived _ port bytes => below 2 port && decide (bytes.length ≤ 560)
  | .abortedFrameReceived _ port => below 2 port
  | .fragmentTimeout _ => true
  | .foldReceived _ port bytes => below 2 port && decide (bytes.length ≤ 560)
  | .joinReceived _ port bytes => below 2 port && decide (bytes.length ≤ 560)
  | .joinRepeatTimer _ => true
  | .topoReceived _ port bytes => below 2 port && decide (bytes.length ≤ 560)
  | .topoRepeatTimer _ => true
  | .noMasterTimeout _ => true
  | .calReq _ env v => env.wf && fits 64 v
  | .calCommandReceived _ port bytes => below 2 port && decide (bytes.length ≤ 560)
  | .calReportReceived _ port bytes => below 2 port && decide (bytes.length ≤ 560)
  | .calReportTimeout _ => true
  | .ringSweepReq _ env mask => env.wf && fits 64 mask
  | .sweepCommandReceived _ port bytes => below 2 port && decide (bytes.length ≤ 560)
  | .sweepReportReceived _ port bytes => below 2 port && decide (bytes.length ≤ 560)
  | .faultBlockReceived _ port bytes => below 2 port && decide (bytes.length = 6)
  | .fopFrameReceived _ port head payload crc => below 2 port && decide (head.length ≤ 560) && decide (payload.length ≤ 560) && decide (crc.length ≤ 560)
  | .streamFrameReceived _ port head payload crc => below 2 port && decide (head.length ≤ 560) && decide (payload.length ≤ 560) && decide (crc.length ≤ 560)
  | .ringConfigWrite _ env _ v => env.wf && fits 64 v
  | .ptpSyncReceived _ lane domain _ _ => below 2 lane && fits 8 domain
  | .ptpAnnounceTimeout _ => true
  | .mirrorColumn _ seq job fired lost deltas => fits 32 seq && fits 32 job && fits 32 fired && fits 32 lost && deltas.all (fits 16)
  | .mirrorThermal _ seq first bytes => fits 32 seq && fits 16 first && decide (bytes.length = 256)
  | .mirrorEphem _ seq gateJ gateTf cometState cometId seam digest => fits 32 seq && fits 32 gateJ && fits 96 gateTf && fits 8 cometState && fits 32 cometId && fits 32 seam && fits 32 digest
  | .mirrorStream _ seq job ssn dseq la page => fits 32 seq && fits 32 job && fits 32 ssn && fits 32 dseq && fits 32 la && fits 32 page
  | .mirrorMap _ seq ref entries => fits 32 seq && fits 32 ref && entries.all (fun p => below 24576 p.1 && fits 8 p.2)
  | .mirrorDry _ seq ref flags => fits 32 seq && fits 32 ref && fits 64 flags
  | .mirrorThimble _ seq port bytes => fits 32 seq && below 64 port && decide (bytes.length = 48)
  | .mirrorMeas _ seq sensor bytes => fits 32 seq && below 80 sensor && decide (bytes.length = 24)
  | .mirrorSnap _ seq id kind _ offset _ => fits 32 seq && fits 32 id && fits 8 kind && fits 32 offset
  | .mirrorSwitch _ seq epoch => fits 32 seq && fits 32 epoch
  | .mirrorAck _ ref => fits 32 ref
  | .mirrorSyncReq _ id => fits 32 id
  | .mirrorStandby _ notReady => fits 32 notReady
  | .mirrorEphemTimer _ => true
  | .mirrorStreamTimer _ => true
  | .standbyRecordTimer _ _ => true
  | .standbyRecordTimeout _ => true
  | .thimbleAckWaitTimeout _ port => below 64 port
  | .pairSilenceExpiry _ => true
  | .takeoverWrite _ env v => env.wf && fits 64 v
  | .takeRetryTimeout _ port => below 64 port
  | .pairSwitch _ env v => env.wf && fits 64 v
  | .fopOpen _ env role maxMsg nonce => env.wf && fits 8 role && fits 16 maxMsg && fits 128 nonce
  | .fopClose _ env => env.wf
  | .fopKeepalive _ env => env.wf
  | .fopRead _ env index sub count width lane off => env.wf && fits 16 index && fits 16 sub && fits 16 count && fits 8 width && below 8 lane && fits 32 off
  | .fopDescribe _ env index sub => env.wf && fits 16 index && fits 16 sub
  | .objectWrite _ env index sub count width lane off total _ => env.wf && fits 16 index && fits 16 sub && fits 16 count && fits 8 width && below 8 lane && fits 32 off && fits 32 total
  | .txnBegin _ env => env.wf
  | .txnCommit _ env => env.wf
  | .txnAbort _ env => env.wf
  | .fopSubscribe _ env mask => env.wf && fits 64 mask
  | .eventSend _ handle => below 17 handle
  | .sessionPendingTimeout _ handle => below 17 handle
  | .sessionIdleTimeout _ handle => below 17 handle
  | .heldRequestTimeout _ handle => below 17 handle
  | .readSnapshotTimeout _ handle => below 17 handle
  | .writeSegmentTimeout _ handle => below 17 handle
  | .txnLeaseLapse _ handle => below 17 handle
  | .roleKeyWrite _ env role bytes => env.wf && fits 8 role && decide (bytes.length = 40)
  | .regLookup _ env index sub => env.wf && fits 16 index && fits 16 sub
  | .rawWindowRead _ env reg count width lane => env.wf && fits 32 reg && fits 16 count && fits 8 width && below 8 lane
  | .rawWindowWrite _ env reg count width lane _ => env.wf && fits 32 reg && fits 16 count && fits 8 width && below 8 lane
  | .journalTimer _ _ _ => true
  | .journalRetry _ _ _ => true
  | .journalSync _ env v => env.wf && fits 64 v
  | .restoreFactory _ env groups => env.wf && fits 64 groups
  | .modeReqConfig _ env => env.wf
  | .modeReqReady _ env => env.wf
  | .modeReqPrintWeb _ env => env.wf
  | .modeReqPrintScan _ env => env.wf
  | .modeReqService _ env => env.wf
  | .modeReqPark _ env => env.wf
  | .autoReadyRequest _ => true
  | .stopComplete _ => true
  | .parkStepComplete _ => true
  | .parkStepBoundExpiry _ => true
  | .wakeNFall _ bad straps => fits 8 bad && fits 8 straps
  | .wakeAfterExpiry _ bad straps => fits 8 bad && fits 8 straps
  | .resetCmd _ env v bad straps => env.wf && fits 64 v && fits 8 bad && fits 8 straps
  | .sourceAck _ env source v => env.wf && fits 16 source && fits 64 v
  | .ackAll _ env v => env.wf && fits 64 v
  | .sourceForce _ env source v => env.wf && fits 16 source && fits 64 v
  | .sourceConfigWrite _ env source sub v => env.wf && fits 16 source && fits 16 sub && fits 64 v
  | .hostLockTake _ env => env.wf
  | .hostLockRelease _ env => env.wf
  | .hostTimeoutExpiry _ => true
  | .faultInput _ input => below 16 input
  | .tripCmd _ env v => env.wf && fits 64 v
  | .safetyWdogExpiry _ _ => true
  | .wdogResetDelay _ bad straps => fits 8 bad && fits 8 straps
  | .safeAutoResetExpiry _ bad straps => fits 8 bad && fits 8 straps
  | .hemReadbackFail _ _ index => fits 16 index
  | .hemArmCheck _ _ => true
  | .railGood _ bad straps => fits 8 bad && fits 8 straps
  | .railWarning _ rail => below 10 rail
  | .railOff _ rail => below 10 rail
  | .railOvervoltage _ rail => below 10 rail
  | .mainRailTimeout _ => true
  | .resetNLow _ => true
  | .resetNRise _ bad straps => fits 8 bad && fits 8 straps
  | .startupComplete _ _ _ _ _ _ => true
  | .clockMonitorCheck _ _ _ => true
  | .islandClockWindow _ island _ => fits 8 island
  | .islandClockAbsent _ island => fits 8 island
  | .islandClockReturn _ island => fits 8 island
  | .regParityPass _ fails => fails.all (fun x => below 84 x.island)
  | .referenceCompare _ _ => true
  | .islandResetWrite _ env v => env.wf && fits 64 v
  | .islandResetDone _ island => fits 8 island
  | .bistGroupStart _ => true
  | .bistGroupEnd _ group fails badSpares sigs _ => below 9 group && fails.all (fun b => below 72 b.bit) && badSpares.all (fun p => below 256 p.1) && sigs.all (fits 32)
  | .bistGroupTimeout _ group => below 9 group
  | .bistInvalidate _ env v => env.wf && fits 64 v
  | .tapInstruction _ _ _ => true
  | .hostPortFrame _ lane _ => below 2 lane
  | .hostPortBlockLock _ lane => below 2 lane
  | .hostPortLockLost _ lane => below 2 lane
  | .ptpAnnounceReceived _ lane domain _ _ => below 2 lane && fits 8 domain
  | .limInactive _ axis => below 12 axis
  | .faultInputInactive _ input => below 16 input
  | .railWarningEnd _ => true
  | .deferredTackLatch _ ch => below 8 ch
  | .selvedgeLockstepMismatch _ _ => true

end Sys2Proof
end

