-- ==== Sys2Proof/Safety.lean ====
section
/-! DEFINITION. What the statements are said in: when a command answers a next state, which state of the block is sound, when the turn of a FOP request has
come, which write of a host is accepted, and what an accepted write leaves behind. -/

namespace Sys2Proof.Machine

open Sys2Proof

/-! ### Outcomes -/

/-- The command answers a next state that differs from `s` in its core alone: memory and the waiting commands stay. -/
def Does (i : Instr) (s : State) (k : Core) : Prop := exec i s = .next { s with core := k }

/-- The command answers a next state with this core and this memory; the waiting commands stay. -/
def DoesBoth (i : Instr) (s : State) (k : Core) (m : List Host.Cell) : Prop := exec i s = .next { s with core := k, mem := m }

/-- Nothing but the clocks has changed since `s`, `dt` half nanoseconds before. -/
def Core.onlyTime (s : Core) (dt : Nat) (k : Core) : Prop := k = s.advance dt

/-! ### Soundness of a state -/

/-- A sound state: memory is in its canonical form. -/
abbrev State.Sound (s : State) : Prop := Memory.wf s.mem = true

/-- Nothing waits to be raised, and neither a change of mode nor its event can overflow the fault log or a session's queue: such a change raises no source (R447, R506). -/
abbrev Core.quiet (s : Core) : Prop := s.alsoRaise = [] ∧ s.log.length < 4096 ∧ ∀ p ∈ s.sess, p.2.events.length + s.sess.length < 256

/-- Commands that a host sends: FOP requests. -/
def Instr.isHostRequest : Instr → Bool
  | .ftStep .. | .channelModeWrite .. | .tackNow .. | .paceSrcWrite .. | .rotationWrite .. | .phaseGroupsWrite .. | .fSetWrite .. | .fSetAllWrite .. => true
  | .spitRun .. | .spitAbort .. | .statsClear .. | .bobbinTableWrite .. | .modelParamWrite .. | .portEnableSet .. | .portDisable .. | .portReset .. => true
  | .tableLoad .. | .measReq .. | .measReqJs .. | .sweepReq .. | .baseline .. | .dryClear .. | .sweepCancel .. | .nozzleMapWrite .. => true
  | .keyLoad .. | .keyRevoke .. | .commitNow .. | .thimRetry .. | .orphanAck .. | .verifyReq .. | .maskGeometryWrite .. | .maskDataWrite .. => true
  | .reqTailWrite .. | .outTailWrite .. | .doneTailWrite .. | .decAbort .. | .presetWrite .. | .streamOpen .. | .streamClose .. | .dmaEnable .. => true
  | .dmaDisable .. | .dmaTailWrite .. | .dmaResume .. | .dmaAbort .. | .dmaPriorityWrite .. | .sbOwnerWrite .. | .memDataRead .. | .memDataWrite .. => true
  | .atomicAdd32 .. | .atomicAdd64 .. | .atomicSwap32 .. | .atomicSwap64 .. | .dramEccWrite .. | .moveAbs .. | .moveRel .. | .moveVel .. => true
  | .moveStop .. | .moveHome .. | .moveCap .. | .moveUncap .. | .axisEnable .. | .axisDisable .. | .gearEngage .. | .gearDisengage .. => true
  | .groupStop .. | .capSeq .. | .setPos .. | .groupMasterWrite .. | .calReq .. | .ringSweepReq .. | .ringConfigWrite .. | .takeoverWrite .. => true
  | .pairSwitch .. | .fopOpen .. | .fopClose .. | .fopKeepalive .. | .fopRead .. | .fopDescribe .. | .objectWrite .. | .txnBegin .. => true
  | .txnCommit .. | .txnAbort .. | .fopSubscribe .. | .roleKeyWrite .. | .regLookup .. | .rawWindowRead .. | .rawWindowWrite .. | .journalSync .. => true
  | .restoreFactory .. | .modeReqConfig .. | .modeReqReady .. | .modeReqPrintWeb .. | .modeReqPrintScan .. | .modeReqService .. | .modeReqPark .. | .resetCmd .. => true
  | .sourceAck .. | .ackAll .. | .sourceForce .. | .sourceConfigWrite .. | .hostLockTake .. | .hostLockRelease .. | .tripCmd .. | .islandResetWrite .. => true
  | .bistInvalidate .. => true
  | _ => false

/-- Commands other than host requests that may change the addressed memory: DMA, the decoders, Spool and DRAM, FOP messages from the ring, and what starts or
ends a span of the device (R307, R312: both stores are cleared). -/
def Instr.mayWriteMemory : Instr → Bool
  | .decoderHeaderDone .. | .decoderTableDone .. | .decodeCode .. | .decoderBlockEnd .. | .fopFrameReceived .. | .dmaBurst .. | .parkStepComplete .. | .quarantineCleared .. => true
  | .spoolBitSet .. | .spoolBitClear .. | .railGood .. | .resetNRise .. | .wakeNFall .. | .wakeAfterExpiry .. | .startupComplete .. | .wdogResetDelay .. => true
  | .safeAutoResetExpiry .. | .bistGroupEnd .. | .bistGroupTimeout .. | .recordBlock .. => true
  | _ => false

/-! ### When a ring frame is delivered (R370 to R372) -/

/-- A frame of type `typ` on ring port `k` is sound, is for this controller, is the first copy of its kind and comes from another. -/
abbrev Core.Delivers (s : Core) (k typ : Nat) (b : List Byte) : Prop :=
  s.running = true ∧
  k < 2 ∧
  s.rd Obj.rp_LINK_STATE k 0 = 3 ∧
  frOk b = true ∧
  frType b = typ ∧
  s.frMine b none = true ∧
  s.firstCopy b = true ∧
  frSrc b ≠ s.rd0 Obj.NODE_ID

/-- The block once the buffered frames that have begun are gone (R375), the frame has been sent on where it is to be, and its SEQ noted. -/
def Core.delivered (s0 : Core) (k typ : Nat) (b : List Byte) : Core :=
  let s := (s0.ringFlush 0).ringFlush 1
  let t := if s.frForward b true then s.sendOn k b (frPayload b) else s
  { t with ring := { t.ring with rx := Tab.set t.ring.rx (256 * frSrc b + typ) (frSeq b) } }

/-! ### When a request's turn has come (R424, R427, R430, R433, R448) -/

/-- The block takes a request of an OPEN session now: it runs and has reached CONFIG; the request targets it, comes from the session's address, carries the right
TAG and the next SEQ; fewer than 64 requests are held. -/
abbrev Core.Takes (s : Core) (e : FopEnv) (b : ReqBody) : Prop :=
  s.running = true ∧
  s.configReached = true ∧
  e.node < 4095 ∧
  s.targetsMe e = true ∧
  1 ≤ e.session ∧ e.session ≤ 16 ∧
  (s.session e.session).st = 2 ∧
  (s.session e.session).ip = e.ip ∧ (s.session e.session).port = e.port ∧
  tagOk (s.session e.session).key e b = true ∧
  e.seq = (s.session e.session).n ∧
  (s.sess.map (fun p => p.2.held.length)).sum < 64

/-- The tail of every executed request: the response under the session's key leaves and is stored, SEQ advances (R433), CLOSE ends the session, held requests whose
turn has come run, and a reset the request asked for follows its response (R490). -/
def Core.concludes (s : Core) (m : List Host.Cell) (x : Around) (e : FopEnv) (b : ReqBody) (key body : List Byte) : Core × List Host.Cell :=
  let t := s.finish e.session e (taggedMessage (some key) b.typ 1 e.node e.serial e.session e.seq body)
  let r := runHeld x e.session 8 (if b = .close then t.endSession e.session else t) m
  if r.1.armed .commandReset 0 then r.1.startUp r.2 32 x.bad x.straps else r

/-! ### Requests answered in their turn -/

/-- The block as an executed request finds it: its time has passed and the session's deadlines begin again (R431, R444, R507). -/
def Core.atTurn (s : Core) (dt : Nat) (e : FopEnv) : Core := (s.advance dt).verified e.session

/-- The request is executed and answered with this code, this INFO and these bytes after it; what it does itself leaves core `t` and memory `m`. -/
def Answers (i : Instr) (s : State) (dt : Nat) (x : Around) (e : FopEnv) (b : ReqBody) (code info : Nat) (rest : List Byte) (t : Core) (m : List Host.Cell) : Prop :=
  let r := Core.concludes { t with lastStatus := code } m x e b ((s.core.advance dt).session e.session).key (leBytes 4 code ++ leBytes 4 info ++ rest)
  DoesBoth i s r.1 r.2

/-! ### Host writes -/

/-- A host's write as one row of the command table spells it: what stands around it, the element it begins at, the staged values and their bytes; whether the object
keeps its value; and what the write of its `k`-th value brings about once every value is stored: from the state before the write, the number, the value. -/
structure HostWrite where
  dt : Nat
  env : FopEnv
  around : Around
  ob : Ob
  inst : Nat
  elem : Nat
  vals : List Nat
  data : List Byte
  keeps : Bool
  eff : Caller → Core → Nat → Nat → Core × List Host.Cell → Core × List Host.Cell

/-- The request a host write is. -/
def HostWrite.body (w : HostWrite) : ReqBody :=
  .write ((w.ob.idx + w.ob.stride * w.inst) % 65536) ((w.ob.sub + w.elem) % 65536) (w.vals.length % 65536) 0 0 0 w.data.length w.data

/-- The block as the write finds it: its time has passed, the session's deadlines begin again (R431, R444, R507), a partial write of the session is dropped (R440). -/
def HostWrite.before (w : HostWrite) (s : State) : Core :=
  let t := (s.core.advance w.dt).verified w.env.session
  t.setPart w.env.session none

/-- Who writes. -/
def HostWrite.caller (w : HostWrite) (s : State) : Caller := ⟨w.env.session, ((s.core.advance w.dt).session w.env.session).role⟩

/-- The block with every value stored. -/
def HostWrite.stored (w : HostWrite) (s : State) : Core :=
  if w.keeps then (w.before s).wrRun w.ob w.inst w.elem w.vals else w.before s

/-- The write is accepted (R436, R442, R449, R450): not SAFE unless it is RESET_CMD; no locked sequence is open; the run lies within one object that a host writes;
the role suffices; each value lies in its range and passes the rule of its chapter; no hardware update meets it in the same cycle (R466). -/
abbrev HostWrite.Accepted (w : HostWrite) (s : State) : Prop :=
  ((w.before s).mode ≠ .safe ∨ w.ob.same Obj.RESET_CMD = true) ∧
  (∀ p ∈ (w.before s).sess, p.2.txn = none) ∧
  0 < w.vals.length ∧ w.vals.length < 65536 ∧
  (w.vals.length = 1 ∨ (w.ob.isArray = true ∧ w.elem + w.vals.length ≤ w.ob.nsub)) ∧
  w.ob.nel = 1 ∧
  (if w.ob.size = 0 then w.vals = [packBytes w.data] ∧ w.data.length ≤ w.ob.max else w.data = w.vals.flatMap (leBytes w.ob.size)) ∧
  (∀ k < w.vals.length, objectAt (w.ob.idx + w.ob.stride * w.inst) (w.ob.sub + (w.elem + k)) = some (w.ob, w.inst, w.elem + k)) ∧
  (∀ k < w.vals.length, (w.before s).absentElem w.ob (w.elem + k) = false) ∧
  w.ob.acc ≠ .ro ∧ w.ob.acc ≠ .konst ∧
  1 ≤ (w.caller s).role ∧ (∀ v ∈ w.vals, (w.before s).needRole w.ob w.inst v ≤ (w.caller s).role) ∧
  (∀ v ∈ w.vals, w.ob.size = 0 ∨ v < 256 ^ w.ob.size) ∧
  (∀ v ∈ w.vals, w.ob.inDom v = true) ∧
  (∀ k < w.vals.length, (ruleOf w.ob).chk (w.caller s) (w.before s) (w.stored s) w.inst (w.elem + k) (nth 0 w.vals k) = 0) ∧
  (∀ k < w.vals.length, (w.before s).loses w.ob w.inst (w.elem + k) (nth 0 w.vals k) = false)

/-- What each value brings about, in order. -/
def HostWrite.effects (w : HostWrite) (s : State) : Core × List Host.Cell :=
  let t := (List.range w.vals.length).foldl (fun (t : Core) k => t.setCompO w.ob w.inst (w.elem + k) 2) (w.stored s)
  (List.range w.vals.length).foldl (fun u k => w.eff (w.caller s) (w.before s) k (nth 0 w.vals k) u) (t, s.mem)

/-- The block after an accepted write: every value is stored and the completion status of each element reads DONE until its action says otherwise (R437); the values
take effect in order; a member of a pair brings its digest up to date (R411); the host is answered OK. -/
def HostWrite.result (w : HostWrite) (s : State) : Core × List Host.Cell :=
  let u := w.effects s
  let t := { u.1.refreshDigest with lastStatus := okC }
  t.concludes u.2 w.around w.env w.body ((s.core.advance w.dt).session w.env.session).key (leBytes 4 okC ++ leBytes 4 0 ++ leBytes 2 0 ++ leBytes 2 0)

/-- The turn of the write has come. -/
abbrev HostWrite.Turn (w : HostWrite) (s : State) : Prop := (s.core.advance w.dt).Takes w.env w.body

/-- The effect on all but the addressed memory. -/
def coreEff (f : Caller → Core → Nat → Nat → Core → Core) : Caller → Core → Nat → Nat → Core × List Host.Cell → Core × List Host.Cell :=
  fun c b k v u => (f c b k v u.1, u.2)

/-- A write of one number. -/
def writes1 (dt : Nat) (e : FopEnv) (o : Ob) (i j v : Nat) (f : Caller → Core → Nat → Nat → Core → Core) : HostWrite :=
  ⟨dt, e, {}, o, i, j, [v], leBytes o.size v, true, coreEff f⟩

/-- A write of a run of numbers. -/
def writesRun (dt : Nat) (e : FopEnv) (o : Ob) (i j : Nat) (vals : List Nat) (f : Caller → Core → Nat → Nat → Core → Core) : HostWrite :=
  ⟨dt, e, {}, o, i, j, vals, vals.flatMap (leBytes o.size), true, coreEff f⟩

/-- A write of bytes. -/
def writesBytes (dt : Nat) (e : FopEnv) (o : Ob) (i j : Nat) (d : List Byte) (f : Caller → Core → Nat → Nat → Core → Core) : HostWrite :=
  ⟨dt, e, {}, o, i, j, [if o.size = 0 then packBytes d else ofLe d], d, true, coreEff f⟩

/-! ### The table of host writes -/

/-- The host writes of Ephemeris, fire sequencing, Bobbin, Thread, head health and Thimble (ch. 2 to 7): the element each row of the command table writes, the value, and what the rule of its chapter makes the value bring about. -/
def writes02 : Instr → Option HostWrite
  | .ftStep dt e ns => some
    (writes1 dt e Obj.FT_STEP 0 0 ns (fun _ _ _ v t => let u := t.stepFt v; { u with ring := { u.ring with f := 0, step := u.ring.step || t.ringLeads } }))
  | .channelModeWrite dt e ch mode => some
    (writes1 dt e Obj.fb_MODE ch 0 mode (fun _ _ _ _ t => t.clearChan ch))
  | .tackNow dt e value => some
    (writes1 dt e Obj.TACK_NOW 0 0 value (fun _ _ _ v t => if v = 1 then t.tackNow else t))
  | .paceSrcWrite dt e sub value => some
    (writes1 dt e (if sub = 2 then Obj.PACE_AXIS else Obj.PACE_SRC) 0 0 value (fun _ b _ _ t => if b.rd0 Obj.PACE_SRC = t.rd0 Obj.PACE_SRC ∧ b.rd0 Obj.PACE_AXIS = t.rd0 Obj.PACE_AXIS then t else t.restartPredictor))
  | .rotationWrite dt e port first vals => some
    (writesRun dt e Obj.port_ROTATION port first vals (fun _ _ _ _ t => if t.takesConfig port then (t.each (List.range 16) (fun t k => t.setCompO Obj.port_ROTATION port k 1)).queueConv port { conv := 3, why := 1 } else t))
  | .phaseGroupsWrite dt e port v => some
    (writes1 dt e Obj.port_PHASE_GROUPS port 0 v (fun _ b _ v t => actPhaseGroups b port 0 v t))
  | .fSetWrite dt e port v => some
    (writes1 dt e Obj.port_F_SET port 0 v (fun _ _ _ _ t => if t.hasTable port then (t.setCompO Obj.port_F_SET port 0 1).startValidation port (t.oldPeriod port) true else t))
  | .fSetAllWrite dt e v => some
    (writes1 dt e Obj.F_SET_ALL 0 0 v (fun _ b _ v t => actFSetAll b 0 0 v t))
  | .spitRun dt e v => some
    (writes1 dt e Obj.SPIT_RUN 0 0 v (fun _ _ _ v t => t.pauseSweeps.spitStart v))
  | .spitAbort dt e v => some
    (writes1 dt e Obj.SPIT_ABORT 0 0 v (fun _ _ _ v t => if v = 1 then t.spitAbort else t))
  | .statsClear dt e v => some
    (writes1 dt e Obj.STATS_CLEAR 0 0 v (fun _ _ _ v t => if v = 1 then (t.wr0 Obj.LOAD_PEAK 0).wr0 Obj.MIN_SLACK (Obj.MIN_SLACK.resetValue 0 0) else t))
  | .bobbinTableWrite dt e table inst first vals => some
    (writesRun dt e (nth Obj.K_CAL tablesOf106 table) inst first vals (fun c b k v t => (ruleOf (nth Obj.K_CAL tablesOf106 table)).act c b inst (first + k) v t))
  | .modelParamWrite dt e decay port v => some
    (writes1 dt e (if decay then Obj.A_DECAY else Obj.G_E) 0 port v (fun _ _ _ _ t => t.resetModel port))
  | .portEnableSet dt e port => some
    (writes1 dt e Obj.port_PORT_ENABLE port 0 1 (fun _ _ _ _ t => { t with strapPorts := putBit t.strapPorts port true }))
  | .portDisable dt e port => some
    (writes1 dt e Obj.port_PORT_ENABLE port 0 0 (fun _ _ _ _ t => if t.link port = lkOff ∨ t.link port = lkFault ∨ t.link port = lkAborted then t else t.leavePort port))
  | .portReset dt e port v => some
    (writes1 dt e Obj.port_PORT_RESET port 0 v (fun _ _ _ v t => if v = 1 ∧ t.link port = lkFault then (t.level (768 + port) 0 false).portOff port else t))
  | .tableLoad dt e port v => some
    (writes1 dt e Obj.port_TABLE_LOAD port 0 v (fun _ b _ v t => actTableLoad b port 0 v t))
  | .measReq dt e mask => some
    (writes1 dt e Obj.MEAS_REQ 0 0 mask (fun _ _ _ v t => t.measRequest v))
  | .measReqJs dt e mask => some
    (writes1 dt e Obj.MEAS_REQ_JS 0 0 mask (fun _ _ _ v t => t.jsRequest v))
  | .sweepReq dt e mask => some
    (writes1 dt e Obj.SWEEP_REQ 0 0 mask (fun _ _ _ v t => t.sweepRequest v))
  | .sweepCancel dt e v => some
    (writes1 dt e Obj.SWEEP_CANCEL 0 0 v (fun _ _ _ v t => if v = 0 then t else t.each ((bitsSet 64 (t.rd0 Obj.SWEEP_PENDING)).filter (fun p => !t.sweeping p)) (fun t p => t.sweepOver p false)))
  | .baseline dt e mask => some
    (writes1 dt e Obj.BASELINE 0 0 mask (fun _ b _ v t => actBaseline b 0 0 v t))
  | .dryClear dt e mask => some
    (writes1 dt e Obj.DRY_CLEAR 0 0 mask (fun _ _ _ v t => t.setDry (maskOf ((bitsSet 64 (t.rd0 Obj.DRY_FLAGS)).filter (fun p => !bit v p)))))
  | .nozzleMapWrite dt e first vals => some
    (writesRun dt e Obj.NOZZLE_MAP 0 first vals (fun _ b k v t => (t.wr Obj.NOZZLE_MAP 0 (first + k) (b.rd Obj.NOZZLE_MAP 0 (first + k))).setNozzle (first + k) (putField (b.rd Obj.NOZZLE_MAP 0 (first + k)) 3 2 (field v 3 2))))
  | .keyLoad dt e bytes => some
    (writesBytes dt e Obj.KEY_LOAD 0 0 bytes (fun _ b _ v t => actKeyLoad b 0 0 v t))
  | .keyRevoke dt e slot => some
    (writes1 dt e Obj.KEY_REVOKE 0 0 slot (fun _ _ _ v t => t.wr Obj.KEY_SLOT 0 v (ofLe (slotBytes 2 (t.slotId v) (t.slotKey v)))))
  | .commitNow dt e mask => some
    (writes1 dt e Obj.COMMIT_NOW 0 0 mask (fun _ _ _ v t => t.each (bitsSet 64 v) Core.thimTrigger))
  | .thimRetry dt e mask => some
    (writes1 dt e Obj.THIM_RETRY 0 0 mask (fun _ _ _ v t => t.each (bitsSet 64 v) (fun t p => if t.link p = lkReady ∨ t.link p = lkStandby then t.thimAuth p else t)))
  | .orphanAck dt e v => some
    (writes1 dt e Obj.ORPHAN_ACK 0 0 v (fun _ _ _ v t => if t.orphanAge.contains (v - 1) then ((t.dropOrphan (v - 1)).addLog 65535 6 255 255 (0x9400 * 65536 + 8) 0 0).settle else t))
  | .verifyReq dt e port bytes => some
    (writesBytes dt e Obj.VERIFY_REQ 0 port bytes (fun _ _ _ v t => ((t.setCompO Obj.VERIFY_REQ 0 port 1).verifyPublish port 2 (t.rd Obj.COUNT 0 port) (t.rd Obj.CSEQ 0 port) []).queueConv port { conv := 5, why := 7, data := leBytes 16 v }))
  | _ => none

/-- The host writes of the raster path, Avone, the stream, DMA, Spool, DRAM and motion (ch. 8 to 12): the element each row of the command table writes, the value, and what the rule of its chapter makes the value bring about. -/
def writes08 : Instr → Option HostWrite
  | .maskGeometryWrite dt e member set v => some
    (writes1 dt e (nth Obj.ms_PW [Obj.ms_PW, Obj.ms_PH, Obj.ms_PASSES] member) set 0 v (fun _ _ _ _ t => t.wr Obj.ms_MASK_VALID set 0 0))
  | .maskDataWrite dt e set bytes => some
    (writesBytes dt e Obj.ms_MASK_DATA set 0 bytes (fun _ b _ v t => actMaskData b set 0 v t))
  | .reqTailWrite dt e dec v => some
    (writes1 dt e Obj.dec_REQ_TAIL dec 0 v (fun _ _ _ _ t => t))
  | .outTailWrite dt e dec v => some
    (writes1 dt e Obj.dec_OUT_TAIL dec 0 v (fun _ b _ v t => actOutTail b dec 0 v t))
  | .doneTailWrite dt e dec v => some
    (writes1 dt e Obj.dec_DONE_TAIL dec 0 v (fun _ _ _ _ t => t))
  | .decAbort dt e dec v => some
    (writes1 dt e Obj.dec_DEC_ABORT dec 0 v (fun _ _ _ v t => if v = 1 ∧ t.decState dec ≠ decIdle then t.blockEnd dec avAborted else t))
  | .presetWrite dt e preset bytes => some
    (writesBytes dt e Obj.PRESET_DATA preset 0 bytes (fun _ _ _ v t => t.wr Obj.PRESET_INFO 0 preset (leAt (unpackBytes v) 0 2 + 2 ^ 16 + Crypto.crc32c (unpackBytes v) * 2 ^ 32)))
  | .streamOpen dt e => some
    (writes1 dt e Obj.STREAM_CTRL 0 0 1 (fun _ _ _ _ t => t.streamOpen))
  | .streamClose dt e => some
    (writes1 dt e Obj.STREAM_CTRL 0 0 2 (fun _ _ _ _ t => t.streamClose))
  | .dmaEnable dt e ch => some
    (writes1 dt e Obj.dma_ENABLE ch 0 1 (fun _ _ _ _ t => if t.chState ch = chDisabled then (t.fixTokens ch (8 * t.rd Obj.dma_BUCKET ch 0)).settleCh ch else t))
  | .dmaDisable dt e ch => some
    (writes1 dt e Obj.dma_ENABLE ch 0 0 (fun _ _ _ _ t => if t.chState ch = chIdle ∨ t.chState ch = chWait then t.setCh ch chDisabled else t))
  | .dmaTailWrite dt e ch v => some
    (writes1 dt e Obj.dma_TAIL ch 0 v (fun _ _ _ _ t => if t.chState ch = chIdle then t.settleCh ch else t))
  | .dmaResume dt e ch v => some
    (writes1 dt e Obj.dma_RESUME ch 0 v (fun _ _ _ v t => if v = 1 ∧ t.chState ch = chHalted then (t.setCh ch chActive).wr Obj.eng_ENG_STATE (ch / 16) 0 1 else t))
  | .dmaAbort dt e ch v => some
    (writes1 dt e Obj.dma_ABORT ch 0 v (fun _ _ _ v t => if v = 1 ∧ t.chState ch = chHalted then t.descEnd ch 4 chDisabled else t))
  | .dmaPriorityWrite dt e ch v => some
    (writes1 dt e Obj.dma_PRIORITY ch 0 v (fun _ _ _ _ t => t))
  | .sbOwnerWrite dt e portB bank v => some
    (writes1 dt e (if portB then Obj.SB_OWNER_B else Obj.SB_OWNER) 0 bank v (fun _ b _ v t => if portB then t.takeOwner Obj.SB_OWNER_B bank (48 + bank) (50 + bank) (b.rd Obj.SB_OWNER_B 0 bank) v else t.takeOwner Obj.SB_OWNER bank bank bank (b.rd Obj.SB_OWNER 0 bank) v))
  | .atomicAdd32 dt e addr operand ecc coll => some
    { writesBytes dt e Obj.SP_ATOMIC 0 0 (atomicBytes addr operand 1) (fun _ _ _ _ t => t) with
      around := { ecc := ecc, errAddr := addr, coll := coll }
      eff := fun _ _ _ v u => u.1.atomicWrite u.2 { ecc := ecc, errAddr := addr, coll := coll } v }
  | .atomicAdd64 dt e addr operand ecc coll => some
    { writesBytes dt e Obj.SP_ATOMIC 0 0 (atomicBytes addr operand 2) (fun _ _ _ _ t => t) with
      around := { ecc := ecc, errAddr := addr, coll := coll }
      eff := fun _ _ _ v u => u.1.atomicWrite u.2 { ecc := ecc, errAddr := addr, coll := coll } v }
  | .atomicSwap32 dt e addr operand ecc coll => some
    { writesBytes dt e Obj.SP_ATOMIC 0 0 (atomicBytes addr operand 3) (fun _ _ _ _ t => t) with
      around := { ecc := ecc, errAddr := addr, coll := coll }
      eff := fun _ _ _ v u => u.1.atomicWrite u.2 { ecc := ecc, errAddr := addr, coll := coll } v }
  | .atomicSwap64 dt e addr operand ecc coll => some
    { writesBytes dt e Obj.SP_ATOMIC 0 0 (atomicBytes addr operand 4) (fun _ _ _ _ t => t) with
      around := { ecc := ecc, errAddr := addr, coll := coll }
      eff := fun _ _ _ v u => u.1.atomicWrite u.2 { ecc := ecc, errAddr := addr, coll := coll } v }
  | .dramEccWrite dt e v => some
    (writes1 dt e Obj.DRAM_ECC 0 0 v (fun _ _ _ _ t => t.wr0 Obj.DRAM_ECC_PENDING 1))
  | .moveAbs dt e axis target speed => some
    (writesBytes dt e Obj.ax_MOVE axis 0 (moveBytes 1 speed target) (fun _ b _ v t => actMove b axis 0 v t))
  | .moveRel dt e axis target speed => some
    (writesBytes dt e Obj.ax_MOVE axis 0 (moveBytes 2 speed target) (fun _ b _ v t => actMove b axis 0 v t))
  | .moveVel dt e axis speed => some
    (writesBytes dt e Obj.ax_MOVE axis 0 (moveBytes 3 speed 0) (fun _ b _ v t => actMove b axis 0 v t))
  | .moveStop dt e axis => some
    (writesBytes dt e Obj.ax_MOVE axis 0 (moveBytes 4 0 0) (fun _ b _ v t => actMove b axis 0 v t))
  | .moveHome dt e axis speed => some
    (writesBytes dt e Obj.ax_MOVE axis 0 (moveBytes 5 speed 0) (fun _ b _ v t => actMove b axis 0 v t))
  | .moveCap dt e axis => some
    (writesBytes dt e Obj.ax_MOVE axis 0 (moveBytes 6 0 0) (fun _ b _ v t => actMove b axis 0 v t))
  | .moveUncap dt e axis => some
    (writesBytes dt e Obj.ax_MOVE axis 0 (moveBytes 7 0 0) (fun _ b _ v t => actMove b axis 0 v t))
  | .axisEnable dt e axis => some
    (writes1 dt e Obj.ax_ENABLE axis 0 1 (fun _ b _ v t => actEnable b axis 0 v t))
  | .axisDisable dt e axis => some
    (writes1 dt e Obj.ax_ENABLE axis 0 0 (fun _ b _ v t => actEnable b axis 0 v t))
  | .gearEngage dt e group => some
    (writes1 dt e Obj.grp_GEAR_ENGAGE group 0 1 (fun _ _ _ _ t => Core.capture { t with mot := { t.mot with gearOff := t.mot.gearOff.filter (· ≠ group) } } group))
  | .gearDisengage dt e group => some
    (writes1 dt e Obj.grp_GEAR_ENGAGE group 0 0 (fun _ b _ v t => actGear b group 0 v t))
  | .groupStop dt e group v => some
    (writes1 dt e Obj.grp_GROUP_STOP group 0 v (fun _ _ _ v t => if v = 1 then ((t.groupStop group).setCompO Obj.grp_GROUP_STOP group 0 1).motionAfter else t))
  | .capSeq dt e v => some
    (writes1 dt e Obj.CAP_SEQ 0 0 v (fun _ _ _ v t => if v = 1 then (t.setCompO Obj.CAP_SEQ 0 0 1).capStart else t))
  | .setPos dt e axis pos => some
    (writes1 dt e Obj.ax_SET_POS axis 0 (rawOf 64 pos) (fun _ b _ v t => actSetPos b axis 0 v t))
  | .groupMasterWrite dt e master index v => some
    (writes1 dt e (if master then Obj.grp_MASTER else Obj.ax_GROUP) index 0 v (fun _ b _ v t => if master then actMaster b index 0 v t else actGroup b index 0 v t))
  | _ => none

/-- The host writes of the ring, pairs, FOP, the dictionary, modes, Selvedge, power and self-test (ch. 13 to 21): the element each row of the command table writes, the value, and what the rule of its chapter makes the value bring about. -/
def writes13 : Instr → Option HostWrite
  | .calReq dt e v => some
    (writes1 dt e Obj.CAL_REQ 0 0 v (fun _ _ _ v t => if v = 1 then (t.setCompO Obj.CAL_REQ 0 0 1).calStart else t))
  | .ringSweepReq dt e mask => some
    (writes1 dt e Obj.RING_SWEEP_REQ 0 0 mask (fun _ b _ v t => actRingSweep b 0 0 v t))
  | .ringConfigWrite dt e member v => some
    (writes1 dt e (nth Obj.NODE_ID [Obj.NODE_ID, Obj.RING_ROLE, Obj.RING_EN] member) 0 0 v
      (fun _ _ _ _ t => if member = 2 then t.ringRestart.updRing (fun r => { r with silenced := t.ring.silenced }) else t.ringRestart))
  | .takeoverWrite dt e v => some
    (writes1 dt e Obj.TAKEOVER 0 0 v (fun _ _ _ v t => if v = 1 then t.takeDecide 4 else t))
  | .pairSwitch dt e v => some
    (writes1 dt e Obj.PAIR_SWITCH 0 0 v (fun _ _ _ v t => if v = 1 then t.mirror 0x0A 0 ((t.rd0 Obj.PAIR_EPOCH + 1) % 2 ^ 32) [] else t))
  | .roleKeyWrite dt e role bytes => some
    { writesBytes dt e Obj.ROLE_KEY 0 role bytes (fun _ _ _ v t => match Crypto.kwUnwrap Config.dtk (leBytes 40 v) with | none => t | some k => Core.endRole { t with roleKeys := Tab.set t.roleKeys role k } role) with keeps := false }
  | .regLookup dt e index sub => some
    (writes1 dt e Obj.REG_LOOKUP 0 0 (index % 65536 * 65536 + sub % 65536) (fun _ _ _ v t => t.wr0 Obj.REG_LOOKUP_RESULT (ofLe (lookupBytes v))))
  | .journalSync dt e v => some
    (writes1 dt e Obj.JOURNAL_SYNC 0 0 v (fun _ _ _ v t => if v = 1 ∧ !t.dirty.isEmpty then t.setCompO Obj.JOURNAL_SYNC 0 0 (if t.journalFailing then 3 else 1) else t))
  | .restoreFactory dt e groups => some
    (writes1 dt e Obj.RESTORE_FACTORY 0 0 groups (fun c _ _ v t => t.restoreFactory c v))
  | .modeReqConfig dt e => some
    (writes1 dt e Obj.MODE_REQ 0 0 2 (fun _ b _ v t => actModeReq b 0 0 v t))
  | .modeReqReady dt e => some
    (writes1 dt e Obj.MODE_REQ 0 0 3 (fun _ b _ v t => actModeReq b 0 0 v t))
  | .modeReqPrintWeb dt e => some
    (writes1 dt e Obj.MODE_REQ 0 0 4 (fun _ b _ v t => actModeReq b 0 0 v t))
  | .modeReqPrintScan dt e => some
    (writes1 dt e Obj.MODE_REQ 0 0 5 (fun _ b _ v t => actModeReq b 0 0 v t))
  | .modeReqService dt e => some
    (writes1 dt e Obj.MODE_REQ 0 0 6 (fun _ b _ v t => actModeReq b 0 0 v t))
  | .modeReqPark dt e => some
    (writes1 dt e Obj.MODE_REQ 0 0 7 (fun _ b _ v t => actModeReq b 0 0 v t))
  | .resetCmd dt e v bad straps => some
    { writes1 dt e Obj.RESET_CMD 0 0 v (fun _ _ _ _ t => t.arm .commandReset 0 (ms 1)) with around := { bad := bad, straps := straps } }
  | .sourceAck dt e source v => some
    { writes1 dt e Obj.src_STATUS source 0 v (fun _ _ _ v t => if v = 1 ∧ t.isRaised source then (t.ackSource source).settle else t) with keeps := false }
  | .ackAll dt e v => some
    (writes1 dt e Obj.ACK_ALL 0 0 v (fun _ b _ v t => actAckAll b 0 0 v t))
  | .sourceForce dt e source v => some
    (writes1 dt e Obj.src_FORCE source 0 v (fun _ _ _ v t => if v = 1 then t.occurForced source else t))
  | .sourceConfigWrite dt e source sub v => some
    (writes1 dt e (nth Obj.src_MASK [Obj.src_MASK, Obj.src_CLASS, Obj.src_REACTION, Obj.src_ESC] (sub - 3)) source 0 v (fun _ _ _ _ t => t))
  | .hostLockTake dt e => some
    (writes1 dt e Obj.HOST_LOCK 0 0 1 (fun c _ _ _ t => (t.wr0 Obj.HOST_LOCK_OWNER c.h).arm .hostLock 0 (ms (t.rd0 Obj.HOST_TIMEOUT))))
  | .hostLockRelease dt e => some
    (writes1 dt e Obj.HOST_LOCK 0 0 0 (fun c _ _ _ t => if t.rd0 Obj.HOST_LOCK_OWNER = c.h then (t.wr0 Obj.HOST_LOCK_OWNER 0).disarm .hostLock 0 else t))
  | .tripCmd dt e v => some
    (writes1 dt e Obj.TRIP_CMD 0 0 v (fun _ _ _ v t => if v = 1 then t.occur 7 0 else t))
  | .islandResetWrite dt e v => some
    (writes1 dt e Obj.ISLAND_RESET 0 0 v (fun _ b _ v t => actIslandReset b 0 0 v t))
  | .bistInvalidate dt e v => some
    (writes1 dt e Obj.BIST_INVALIDATE 0 0 v (fun _ _ _ v t => if v = 1 then Core.wr0 { t with bist := { t.bist with spoiled := true } } Obj.BIST_VALID 0 else t))
  | _ => none

end Sys2Proof.Machine
end

