-- ==== Sys2Proof/Certificates/Slice0/Obligations.lean ====
section
/-! DEFINITION. The statements for the provers: what the commands of the block do to its state, by chapter of the spec. `Does`, `DoesBoth` and `Answers` say that a command answers a next
state, and which (Safety). In each, `c` is the block once the command's own time has passed. A value marked in the assumption log as the model's choice is named where a statement rests on it. -/

open Sys2Proof Sys2Proof.Machine

/-! ### The block as a whole -/

/-- A step takes the command at the front of the queue and runs it on the block with the rest of the queue; with no command waiting the block idles (the
model's own choice, log entry 2). -/
def Obligations.StepRunsTheFrontCommand : Prop :=
  (∀ (s : State) (c : Instr), step { s with pending := c :: s.pending } = exec c s) ∧ (∀ s : State, s.pending = [] → step s = .next s)

/-- Every command is taken: it answers a next state, whatever the state; the commands that wait stay as they are; and a command that no host sends, outside
DMA, the decoders, Spool and DRAM, a FOP message from the ring, the end of PARK, self-test and resets, changes no byte of memory. Choices of the model it
rests on: log entries 7, 8 and 9. -/
def Obligations.EveryCommandCompletes : Prop :=
  ∀ (i : Instr) (s : State), ∃ t : State, exec i s = .next t ∧ t.pending = s.pending ∧ (Instr.isHostRequest i = false → Instr.mayWriteMemory i = false → t.mem = s.mem)

/-- The block at reset (R460, R529, R531): OFF and waking by the full path, the start-up self-test groups waiting, nothing queued, no session, memory empty
and sound; POWER_ON counted and logged; every port OFF, every axis DISABLED, every Spool bank with its owner of Table 11-2. Choices of the model it rests on:
log entries 10, 11 and 12. -/
def Obligations.ResetIsAPowerOn : Prop :=
  let c := State.reset.core
  State.reset.Sound ∧ State.reset.pending = [] ∧ State.reset.mem = [] ∧ c.mode = .off ∧ c.phase = .waking ∧ c.sess = [] ∧ c.timers = [] ∧ c.journal = [] ∧ c.bist.todo = [1, 2, 3, 4, 5, 6, 7, 8] ∧ c.bist.kind = 2 ∧
    c.rd0 Obj.RESET_COUNT = 1 ∧ c.rd0 Obj.RESET_CAUSE % 65536 = 1 ∧ c.rd0 Obj.START_PATH = 1 ∧ c.rd0 Obj.BIST_VALID = 0 ∧ c.ftNs = 0 ∧
    (∀ p, p < 64 → c.link p = lkOff) ∧ (∀ a, a < 12 → c.axSt a = axDisabled) ∧ (∀ b, b < 50 → c.rd Obj.SB_OWNER 0 b = bankOwnerAtReset b ∧ c.rd Obj.SB_STATE 0 b = b2n (bankOwnerAtReset b ≠ 0))

/-- Every step keeps memory in its canonical form: addresses strictly rising, no entry equal to what an unlisted address reads as. Choices of the model it
rests on: log entries 2 and 10. -/
def Obligations.StepsKeepMemoryCanonical : Prop :=
  ∀ s t : State, s.Sound → step s = .next t → t.Sound

/-! ### Host writes (R436, R437, R441, R442, R449 to R451) -/

/-- Accepted host writes of Ephemeris, fire sequencing, Bobbin, Thread, head health and Thimble (ch. 2 to 7): the row of the command table is answered OK,
with every value stored and its effect as the table of its chapter says (`writes02`). Choices of the model it rests on: log entries 1, 8, 33, 36, 53, 83, 117,
139, 161 and 162. -/
def Obligations.HostWritesOfTheHeads : Prop :=
  ∀ (i : Instr) (w : HostWrite) (s : State), writes02 i = some w → w.Turn s → w.Accepted s → DoesBoth i s (w.result s).1 (w.result s).2

/-- Accepted host writes of the raster path, Avone, the stream, DMA, Spool, DRAM and motion (ch. 8 to 12), as `writes08` lists them. Choices of the model it
rests on: log entries 1, 8, 54, 57, 69, 71, 72, 75, 77, 78, 80, 81, 82, 83, 139 and 175. -/
def Obligations.HostWritesOfRasterAndMotion : Prop :=
  ∀ (i : Instr) (w : HostWrite) (s : State), writes08 i = some w → w.Turn s → w.Accepted s → DoesBoth i s (w.result s).1 (w.result s).2

/-- Accepted host writes of the ring, pairs, the dictionary, modes, Selvedge, power and self-test (ch. 13 to 21), as `writes13` lists them. Choices of the
model it rests on: log entries 1, 8, 50, 83, 106, 115, 116, 117, 118, 125, 132, 136, 139, 188 and 189. -/
def Obligations.HostWritesOfTheDevice : Prop :=
  ∀ (i : Instr) (w : HostWrite) (s : State), writes13 i = some w → w.Turn s → w.Accepted s → DoesBoth i s (w.result s).1 (w.result s).2

/-! ### Ephemeris (ch. 2) -/

/-- A change of A and B, of U, V and W, or a good SSI sample moves COUNT as R29 to R31 say, for every channel that is on, has its signal and decodes that
mode: from the levels it decoded last, or those that stood on the inputs before, a step of the sequence counts one at its filtered instant in its direction
and any other change is a count error and an occurrence of S0600 + n; an SSI sample, taken once SSI_PERIOD has passed, counts by its difference unless its
start, parity or error bit or its size condemns it. The first counted edge of a stopped channel (R29, R34, R39, R40): COUNT moves by one, the estimator goes
to HELD with this edge as the held edge and speed 0; no Tack is latched where the channel latches none by edges; no other object and no other part of the
block changes. Choices of the model it rests on: log entries 1, 7, 19, 20, 146, 147 and 148. -/
def Obligations.FeedbackEdgesCount : Prop :=
  (∀ (s : State) (dt ch : Nat), let c := s.core.advance dt; let x := c.chan ch; c.chanOn ch = true → x.lost = false →
    (∀ before a b : Nat, before < 4 → a < 2 → b < 2 → c.rd Obj.fb_MODE ch 0 = 1 →
      let old := x.lev.getD before; let new := 2 * a + b; let k := c.setChan ch { x with lev := some new }; old < 4 →
      Does (.quadTransition dt ch ⟨before / 2, a⟩ ⟨before % 2, b⟩) s
        (if new = old then k
         else if new + old = 3 then (k.countError ch).occur (600 + ch) 0
         else if (old, new) ∈ [(0, 2), (2, 3), (3, 1), (1, 0)] then k.countEdge ch (c.stampOf ch (c.rd Obj.fb_FILTER ch 0)) 1 1
         else k.countEdge ch (c.stampOf ch (c.rd Obj.fb_FILTER ch 0)) (-1) (-1))) ∧
    (∀ before u : Nat, before < 8 → u < 8 → c.rd Obj.fb_MODE ch 0 = 2 →
      let old := x.lev.getD before; let k := c.setChan ch { x with lev := some u }; let l := [(4, 6), (6, 2), (2, 3), (3, 1), (1, 5), (5, 4)]; old < 8 →
      Does (.hallTransition dt ch ⟨before, u⟩) s
        (if u = old then k
         else if (old, u) ∈ l then k.countEdge ch (c.stampOf ch (c.rd Obj.fb_FILTER ch 0)) 1 1
         else if (u, old) ∈ l then k.countEdge ch (c.stampOf ch (c.rd Obj.fb_FILTER ch 0)) (-1) (-1)
         else (k.countError ch).occur (600 + ch) 0)) ∧
    (∀ (raw : Nat) (start parity err : Bool), c.rd Obj.fb_MODE ch 0 = 3 → x.sampleAt.all (fun t => decide (t + ns (c.rd Obj.fb_SSI_PERIOD ch 0) ≤ c.clk)) = true →
      let w := c.rd Obj.fb_SSI_BITS ch 0; let o := c.rd Obj.fb_SSI_OPTS ch 0; let r := raw % 2 ^ w
      let val := if bit o 0 then grayToBin 40 r else r
      let d : Int := match x.raw with | some p => signedOf w (val + 2 ^ w - p) | none => 0
      let k := c.setChan ch { x with sampleAt := some c.clk }
      Does (.ssiSample dt ch raw start parity err) s
        (if start = false ∨ (bit o 1 = true ∧ (popCount w r + b2n parity) % 2 = 1) ∨ (bit o 2 = true ∧ err = true) ∨ c.rd Obj.fb_SSI_MAX_STEP ch 0 < d.natAbs then
          (k.countError ch).occur (600 + ch) 0
         else (c.setChan ch { x with sampleAt := some c.clk, raw := some val }).countEdge ch (c.stampOf ch 0) d (if 0 < d then 1 else if d < 0 then -1 else x.dir)))) ∧
  (∀ (s : State) (dt ch before a b : Nat), let c := s.core.advance dt; let x := c.chan ch; let old := x.lev.getD before;
    c.chanOn ch = true → a < 2 → b < 2 → before < 4 → c.rd Obj.fb_MODE ch 0 = 1 → x.lost = false → old < 4 → 2 * a + b ≠ old → 2 * a + b + old ≠ 3 →
    c.rd Obj.fb_EST_STATE ch 0 = 0 → bit (c.rd Obj.fb_TACK_TRIG ch 0) 1 = false →
    ∃ k, Does (.quadTransition dt ch ⟨before / 2, a⟩ ⟨before % 2, b⟩) s k ∧
      k.rdI Obj.fb_COUNT ch 0 = satS 64 (c.rdI Obj.fb_COUNT ch 0 + quadStep old (2 * a + b)) ∧
      k.rd Obj.fb_EST_STATE ch 0 = 1 ∧
      (k.chan ch).held = true ∧ (k.chan ch).v = 0 ∧ (k.chan ch).discarded = true ∧ (k.chan ch).lev = some (2 * a + b) ∧
      (k.chan ch).last = some ⟨c.stampOf ch (c.rd Obj.fb_FILTER ch 0), satS 64 (c.rdI Obj.fb_COUNT ch 0 + quadStep old (2 * a + b))⟩ ∧
      (∀ n, n ≠ ch → k.chan n = c.chan n) ∧
      (∀ o i j, o.key i j ∉ [Obj.fb_COUNT.key ch 0, Obj.fb_EST_STATE.key ch 0, Obj.fb_SPEED.key ch 0] → k.rd o i j = c.rd o i j) ∧
      k = { c with objs := k.objs, chans := k.chans })

/-- The other events of a channel that is on (R32, R33, R39): a lost signal makes FBn_SIGNAL active; its return ends that, is a count error and an occurrence
of S0600 + n, and levels and sample are taken afresh; an index pulse captures COUNT in Z_POS, in Z_MODE 2 outside PRINT zeroes it, and is a trigger where
TACK_TRIG has bit 2; no edge for T_ZERO stops the estimate at speed 0. Choices of the model it rests on: log entries 1, 7, 19 and 148. -/
def Obligations.FeedbackSignalsTakeEffect : Prop :=
  ∀ (s : State) (dt ch : Nat), let c := s.core.advance dt; let x := c.chan ch; c.chanOn ch = true →
    (x.lost = false → Does (.signalLoss dt ch) s ((c.setChan ch { x with lost := true }).level (608 + ch) 0 true)) ∧
    (x.lost = true → Does (.signalReturn dt ch) s
      ((((c.setChan ch { x with lost := false, lev := none, raw := none }).level (608 + ch) 0 false).countError ch).occur (600 + ch) 0)) ∧
    (c.rd Obj.fb_MODE ch 0 = 1 → x.lost = false → c.rd Obj.fb_Z_MODE ch 0 = 1 ∨ c.rd Obj.fb_Z_MODE ch 0 = 2 →
      let n := c.rdI Obj.fb_COUNT ch 0
      let k := if c.rd Obj.fb_Z_MODE ch 0 = 2 ∧ c.inPrint = false then
          ((c.wrI Obj.fb_Z_POS ch 0 n).wrI Obj.fb_COUNT ch 0 0).setChan ch { x with
            index := true, last := x.last.map (fun e => ⟨e.t, e.cnt - n⟩), edges := x.edges.map (fun e => ⟨e.t, e.cnt - n⟩) }
        else (c.wrI Obj.fb_Z_POS ch 0 n).setChan ch { x with index := true }
      Does (.zIndex dt ch) s (if bit (c.rd Obj.fb_TACK_TRIG ch 0) 2 = true then k.trigger ch c.ftQ else k)) ∧
    (c.rd Obj.fb_EST_STATE ch 0 ≠ 0 → x.edgeAt + us (c.rd Obj.fb_T_ZERO ch 0) ≤ c.clk →
      Does (.estZeroTimeout dt ch) s (((c.setChan ch { x.hold 0 [] with counted := false }).setEst ch 0).publishSpeed ch))

/-- Tacks are latched as R44 and R49 say: a periodic instant not yet served latches one at once where none came within the 1,000 ns before it, and otherwise
notes that one waits; a waiting one is latched at its mark; a commanded one comes at the periodic instant while PACE_SRC is COMMANDED; ring Tacks too old are
one occurrence of TACK_STALE (R50) until one is accepted again. A latched Tack that the pacing source does not use (R44, R46): it becomes the newest of its
channel's buffer, of which 64 are kept; its position is the count of the newest edge scaled to px, its SEQ the channel's, which rises by one; its time is the
edge's where an edge has come since the last Tack, else the instant of the latch; and the position flag HELD_POS says which. Other buffers, the predictor and
memory stay. Choices of the model it rests on: log entries 1, 7, 18, 140, 149, 150 and 152. -/
def Obligations.TacksAreLatchedOnTime : Prop :=
  (∀ (s : State) (dt ch : Nat), let c := s.core.advance dt;
    (c.tackDue ch = true → (c.chan ch).lastTack.all (fun t => decide (t + 1000 * 65536 ≤ c.periodMark)) = true →
      Does (.tackPeriodic dt ch) s (c.latchTack ch c.periodMark)) ∧
    (∀ t, c.tackDue ch = true → (c.chan ch).lastTack = some t → c.periodMark < t + 1000 * 65536 →
      Does (.tackPeriodic dt ch) s (c.setChan ch { c.chan ch with waiting := true })) ∧
    (∀ t, c.chanOn ch = true → (c.chan ch).waiting = true → (c.chan ch).lastTack = some t → t + 1000 * 65536 ≤ c.ftQ →
      Does (.deferredTackLatch dt ch) s (c.latchTack ch (t + 1000 * 65536))) ∧
    (c.chanOn ch = true → (c.chan ch).waiting = true → (c.chan ch).lastTack = none → Does (.deferredTackLatch dt ch) s (c.latchTack ch c.ftQ)) ∧
    (c.running = true → c.rd0 Obj.PACE_SRC = 9 → c.pred.cmdLatched.all (fun t => decide (t < c.periodMark)) = true →
      Does (.commandedTack dt) s (c.latchCommanded c.periodMark)) ∧
    (c.running = true → c.rd0 Obj.PACE_SRC = 10 → c.pred.newest.all (fun t => decide (t + c.rd0 Obj.TACK_AGE_MAX * 65536 < c.ftQ)) = true →
      c.pred.staleRaised = false → Does (.tackStale dt) s (Core.occur { c with pred := { c.pred with staleRaised := true } } 616 0))) ∧
  (∀ (s : State) (dt ch : Nat), let c := s.core.advance dt; let x := c.chan ch;
    c.tackDue ch = true → x.lastTack.all (fun t => decide (t + 1000 * 65536 ≤ c.periodMark)) = true → c.rd0 Obj.PACE_SRC ≠ ch + 1 →
    ∃ k tk, Does (.tackPeriodic dt ch) s k ∧
      Tab.get [] k.tacks ch = (tk :: Tab.get [] c.tacks ch).take 64 ∧
      tk.pos = c.posOf ch (match x.last with | some e => e.cnt | none => c.rdI Obj.fb_COUNT ch 0) ∧
      tk.t = (if x.fresh then (match x.last with | some e => e.t.toNat | none => c.periodMark) else c.periodMark) ∧
      bit tk.flags 6 = !x.fresh ∧ bit tk.flags 0 = true ∧
      tk.seq = x.seq ∧ (k.chan ch).seq = (x.seq + 1) % 2 ^ 32 ∧ (k.chan ch).lastTack = some c.periodMark ∧
      (∀ n, n ≠ ch → Tab.get [] k.tacks n = Tab.get [] c.tacks n) ∧
      (∀ n, n ≠ ch → k.chan n = c.chan n) ∧
      k = { c with objs := k.objs, chans := k.chans, tacks := k.tacks })

/-- The predictor (R51): within H_MAX the predicted position is the reference's plus v τ plus a τ² / 2, beyond it it goes on at the speed reached at H_MAX;
both agree at H_MAX. A start instant rounds to the nearest tick of 2.5 ns, a tie to the later (R55): the tick taken lies no more than half a tick after the
instant, and less than half a tick before it would the tick before be the nearer one. Choices of the model it rests on: log entries 16 and 17. -/
def Obligations.PredictionAndRounding : Prop :=
  (∀ (x v a h tau : Rat),
    (tau ≤ h → predPos x v a h tau = x + v * tau + a * tau * tau / 2) ∧
    (h < tau → predPos x v a h tau = predPos x v a h h + (v + a * h) * (tau - h))) ∧
  (∀ t : Int, 0 ≤ t → ofTick (tickOf t) - t ≤ 81920 ∧ t - ofTick (tickOf t) < 81920)

/-! ### Fire sequencing (ch. 3) -/

/-- The gate of a column (R79): once its instant has come, its page is found and its start instants are solved, the column is decided on; with the pacing
channel's signal lost it is lost on this port (R32); the column of a spit run is fixed with the run's own start instants (R117). A frame leaves (R80) when its
column is the lowest gated, complete and unsent one, the die has room for it (R17), no acknowledgement is awaited and it can still arrive in time; the column
then settles (R218). Choices of the model it rests on: log entries 1, 7, 21, 23, 28, 155 and 157. -/
def Obligations.ColumnsAreGatedAndSent : Prop :=
  ∀ (s : State) (dt p : Nat), let c := s.core.advance dt; p < 64 →
    (∀ pg g, c.spit = none → c.inPrint = true → c.activePort p = true → c.pageOf (c.gateCol p) = some pg → c.gateAt p (c.gateCol p) = some g →
      c.belowSeam (c.gateCol p) = true → g ≤ (c.ftQ : Int) → (c.mode = .printScan → c.feedMoving = false) →
      (c.pacingLost = true → Does (.columnGate dt p) s ((c.updPort p (fun x => { x with gateNext := c.gateCol p + 1 })).loseCol p (c.gateCol p))) ∧
      (∀ ticks, c.pacingLost = false → c.solveTicks pg (pg.own c) p (c.gateCol p - pg.base) = some ticks →
        Does (.columnGate dt p) s (c.gateSolved p (c.gateCol p) pg ticks))) ∧
    (∀ r g, c.spit.isSome = true → c.link p = lkReady → (c.port p).cols.find? (fun r => r.run && !r.gated && !r.settled) = some r → c.gateAt p r.col = some g → g ≤ (c.ftQ : Int) →
      Does (.columnGate dt p) s (c.fixCol p r.col r.ticks)) ∧
    (∀ r, c.link p = lkReady → (c.inPrint = true ∨ c.spit.isSome = true) → c.nextFrame p = some r → (c.port p).roomFor r.col = true →
      c.armed .ackWait p = false → (c.port p).cfgWait = false → (r.run = true ∨ c.belowSeam r.col = true) →
      (c.inTime p r = false → Does (.frameTransmit dt p) s (c.loseCol p r.col)) ∧
      (c.inTime p r = true →
        let t := c.sendColumn p r
        let u := { t with colTop := max t.colTop (r.col + 1) }
        Does (.frameTransmit dt p) s
          (if r.run then u.setCol p { t.colOf p r.col with sent := true, settled := true }
           else u.settleSent p (t.colOf p r.col))))

/-- What else passes in fire sequencing: a raster stage or frame too late loses its column (R18), on a port that is away every column up to it (R591); at its
instant the validation of a pulse table completes (R77); a spit run's clock makes the column four later, and ends the run past its last (R85); more than
OS_COLS columns in a row over the limit are an overspeed stop, which starts the count afresh (R363). Choices of the model it rests on: log entries 1, 7, 24,
36, 158 and 161. -/
def Obligations.FireDeadlinesAndClocks : Prop :=
  ∀ (s : State) (dt p j : Nat), let c := s.core.advance dt;
    (p < 64 → (c.isStandby && c.sharedPort p) = false → (c.port p).away = false → c.inPrint = true → c.activePort p = true → (c.colOf p j).run = false →
      (c.port p).floor ≤ j → (c.pageOf j).isSome = true → c.belowSeam j = true → c.isDropped j = false → (c.colOf p j).settled = false →
      (c.rasterLate p j = true → Does (.stageDeadlineMiss dt p j) s ((if c.isBlank p j then c.countBlank j else c).loseCol p j)) ∧
      (c.rasterLate p j = false → (c.colOf p j).sent = false → c.inTime p (c.colOf p j) = false → Does (.stageDeadlineMiss dt p j) s (c.loseCol p j))) ∧
    (p < 64 → (c.port p).away = true → c.inPrint = true → (c.pageOf j).isSome = true → c.belowSeam j = true → c.rasterLate p j = true →
      Does (.stageDeadlineMiss dt p j) s (c.awayLost p j)) ∧
    (c.due .validation p = true → Does (.pulseValidationDone dt p) s (c.validated p)) ∧
    (∀ x, c.spit = some x → ofTick (x.startTick + x.next * x.step) ≤ (c.ftQ : Int) →
      Does (.spitColumnClock dt) s
        (if c.rd Obj.spat_COLUMNS x.pattern 0 ≤ x.next then (Core.wr0 { c with spit := none } Obj.SPIT_STATE 0).endComp Obj.SPIT_RUN 0 0 true
         else Core.spitCol { c with spit := some { x with next := x.next + 1 } } x (x.next + 4))) ∧
    (c.inPrint = true → c.rd0 Obj.OS_COLS < c.rd0 Obj.OS_RUN → Does (.osStop dt) s ((c.wr0 Obj.OS_RUN 0).occur 1525 0))

/-! ### Bobbin (ch. 4) -/

/-- Bobbin's units (R93, R94): while one of its eight lanes is free the next unit takes a lane for 16 cycles, a re-map for one a kept energy (R115; a
corrected table word is an occurrence of BOB_ECC_C, an uncorrectable one makes its column late instead, R118); the oldest running unit leaves its lane when it
is done; a column not complete at its deadline is late; a load window publishes LOAD = round(cycles / 96 per window, Q1.15) and starts the count afresh (R96).
The thermal model (R108): T̂ rises by the credited energy times G_E and decays by its distance to T_SINK times A_DECAY, each rounded once, and saturates in
Q8.24; with nothing credited and T̂ at T_SINK it stays. Choices of the model it rests on: log entries 1, 7 and 156. -/
def Obligations.BobbinUnitsAndLoad : Prop :=
  (∀ (s : State) (dt : Nat), let c := s.core.advance dt;
    (∀ p j q, c.running = true → c.mode ≠ .safe → c.lanes.length < 8 → c.nextUnit = some (p, j, q) →
      Does (.bobbinUnitStart dt 2) s ((c.lateCol p j).occur 724 0) ∧
      ∃ k, Does (.bobbinUnitStart dt 0) s k ∧ k.lanes = c.lanes ++ [(p, j, q)] ∧
        k.bobCycles = c.bobCycles + (if q = 64 then (c.colOf p j).e5.length else 16) ∧
        bit (k.colOf p j).units q = true ∧ k.mode = c.mode ∧ k.src = c.src ∧ k.spit = c.spit ∧ Does (.bobbinUnitStart dt 1) s (k.occur 723 0)) ∧
    (∀ p j q rest, c.lanes = (p, j, q) :: rest → ((c.port p).colAt j).all (fun r => r.lost || r.dropped) = true → Does (.bobbinUnitDone dt) s { c with lanes := rest }) ∧
    (∀ p j q rest r, c.lanes = (p, j, q) :: rest → (c.port p).colAt j = some r → r.lost = false → r.dropped = false →
      let v : Core := { c with lanes := rest }
      let r' : Col := { r with unitsDone := putBit r.unitsDone q true }
      Does (.bobbinUnitDone dt) s
        (if q = 64 then ((v.remap p r').1.setCol p (v.remap p r').2).tryComplete p j
         else (v.setCol p { r' with old := if v.allDone p r' then [] else r.old }).tryComplete p j)) ∧
    (∀ p j, c.isLate p j = true → Does (.bobbinLate dt p j) s (c.lateCol p j)) ∧
    (c.due .loadWindow 0 = true → c.rd0 Obj.LOAD_WARN ≥ roundDivNat (c.bobCycles * 327680) (96 * 1048576) →
      ∃ k, Does (.bobbinLoadWindow dt) s k ∧
        k.rd0 Obj.LOAD = Nat.min (roundDivNat (c.bobCycles * 327680) (96 * 1048576)) 32768 ∧
        k.rd0 Obj.LOAD_PEAK = Nat.max (c.rd0 Obj.LOAD_PEAK) (Nat.min (roundDivNat (c.bobCycles * 327680) (96 * 1048576)) 32768) ∧
        k.bobCycles = 0 ∧ k = { c with objs := k.objs, bobCycles := 0, timers := k.timers })) ∧
  (∀ (t sink : Int) (q gE aDecay : Nat),
    modelUpdate t sink q gE aDecay = satS 32 (t + ((q * gE + 2 ^ 23) / 2 ^ 24 : Nat) - roundDiv ((t - sink) * aDecay) (2 ^ 32)) ∧
    (-((2 : Int) ^ 31) ≤ sink → sink < (2 : Int) ^ 31 → modelUpdate sink sink 0 gE aDecay = sink) ∧
    (sink ≤ t → t < (2 : Int) ^ 31 → -((2 : Int) ^ 31) ≤ sink → aDecay < 2 ^ 32 → sink ≤ modelUpdate t sink 0 gE aDecay ∧ modelUpdate t sink 0 gE aDecay ≤ t))

/-- The scaling operation M of an energy in Q24.8 and a factor in Q2.14 (R98): (x f + 8,192) / 16,384 rounded down and held to 32 bits, which is the nearest
value, ties up, wherever it is not held; a factor of 0x4000 changes nothing. -/
def Obligations.EnergyScalingRoundsToNearest : Prop :=
  ∀ x f : Nat, x < 2 ^ 32 → f < 2 ^ 16 →
    let m := scaleE x f
    m = Nat.min ((x * f + 8192) / 16384) 0xFFFFFFFF ∧ m < 2 ^ 32 ∧ (m < 0xFFFFFFFF → 32768 * m ≤ 2 * (x * f) + 16384 ∧ 2 * (x * f) < 32768 * m + 16384) ∧ scaleE x 0x4000 = x

/-! ### Thread (ch. 5) -/

/-- Bring-up (R145, R127): the lowest enabled port that is OFF takes head power while fewer than ENUM_PARALLEL ports are coming up; after HP_SETTLE it trains
for at most 10 ms; a lane trained goes to ALIGN and sends its eight echo requests, as one trained again in RETRAIN does; a training that times out the first
or second time goes back to POWER, the third time to FAULT; so does a RETRAIN of 10 ms. Choices of the model it rests on: log entries 1, 7, 43, 55, 124 and
160. -/
def Obligations.BringUpStepsFollow : Prop :=
  ∀ (s : State) (dt p : Nat), let c := s.core.advance dt;
    (allPorts.find? (fun p => c.rdB Obj.port_PORT_ENABLE p 0 && decide (c.link p = lkOff) && c.strapAllows p) = some p → c.mayBringUp = true →
      (allPorts.filter c.inBringup).length < c.rd0 Obj.ENUM_PARALLEL → p < 64 →
      ∃ k, Does (.portBringupStart dt) s k ∧ k.link p = lkPower ∧ k.rd Obj.port_DONE_COL p 0 = 0xFFFFFFFF ∧
        k.out = ⟨.headPower, p, [1], []⟩ :: c.out ∧ k.armed .hpSettle p = true ∧ (k.port p).enumerated = false ∧ (∀ q, q ≠ p → k.port q = c.port q) ∧
        (∀ q, q < 64 → q ≠ p → k.link q = c.link q) ∧ k = { c with objs := k.objs, ports := k.ports, out := k.out, timers := k.timers }) ∧
    (p < 64 → c.link p = lkPower → c.due .hpSettle p = true →
      ∃ k, Does (.hpSettleExpiry dt p) s k ∧ k.link p = lkTrain ∧ k.armed .linkState p = true ∧
        (∀ q, q < 64 → q ≠ p → k.link q = c.link q) ∧ k = { c with objs := k.objs, timers := k.timers }) ∧
    (p < 64 → c.link p = lkTrain →
      ∃ k, Does (.laneTrained dt p) s k ∧ k.link p = lkAlign ∧ (k.port p).trainFails = 0 ∧ (k.port p).echoes = [] ∧
        (k.out.take 16).all (fun o => decide (o.port = p ∧ (o.kind = .timeFrame ∨ o.kind = .codeGroups))) = true ∧
        (k.out.filter (fun o => decide (o.kind = .timeFrame))).length = (c.out.filter (fun o => decide (o.kind = .timeFrame))).length + 8 ∧
        k.out.drop 16 = c.out ∧ k.armed .statusWait p = true) ∧
    (p < 64 → c.link p = lkRetrain →
      Does (.laneTrained dt p) s ((c.updPort p (fun x => { x with txPlus := false, rxPlus := false, rxErr := 0, echoes := [], finalTime := false })).sendEchoes p)) ∧
    (p < 64 → c.link p = lkTrain → c.due .linkState p = true → (c.port p).trainFails < 2 →
      ∃ k, Does (.trainTimeout dt p) s k ∧ k.link p = lkPower ∧ (k.port p).trainFails = (c.port p).trainFails + 1 ∧ k.armed .hpSettle p = true ∧
        k = { c with objs := k.objs, ports := k.ports, timers := k.timers }) ∧
    (c.link p = lkTrain → c.due .linkState p = true → 2 ≤ (c.port p).trainFails →
      Does (.trainTimeout dt p) s (((c.disarm .linkState p).updPort p (fun x => { x with trainFails := (c.port p).trainFails + 1 })).portFault p)) ∧
    (c.link p = lkRetrain → c.due .linkState p = true → Does (.retrainTimeout dt p) s (c.portFault p))

/-- Echoes and status (R123, R127, R135, R137): seven good echoes are gathered; the eighth makes LINK_DELAY the mean of all eight, or faults the port where it
exceeds the limit; a damaged frame counts as a CRC failure and does nothing else; a code error counts one in LINK_ERR; 100 µs without STATUS, or eight code
errors within 64 symbols on a working link, retrain the port; TIME leaves once a period. Choices of the model it rests on: log entries 1, 7, 32, 34, 154 and
160. -/
def Obligations.LinkIsMeasuredAndWatched : Prop :=
  ∀ (s : State) (dt p : Nat), let c := s.core.advance dt;
    (∀ rtt b, p < 64 → (c.link p = lkAlign ∨ c.link p = lkRetrain) → (c.port p).echoes.length < 7 → goodFrame 0x83 16 b = true →
      Does (.echoReceived dt p rtt b) s (c.updPort p (fun y => { y with echoes := (c.port p).echoes ++ [fourD rtt (leAt b 4 4)] }))) ∧
    (∀ rtt b, let es := (c.port p).echoes ++ [fourD rtt (leAt b 4 4)]; p < 64 → (c.link p = lkAlign ∨ c.link p = lkRetrain) → (c.port p).echoes.length = 7 →
      goodFrame 0x83 16 b = true →
      let u := c.updPort p (fun y => { y with echoes := es })
      Does (.echoReceived dt p rtt b) s
        (if 32 * 25600 < sumI es then u.portFault p
         else ((u.wr Obj.port_LINK_DELAY p 0 (satU 32 (roundDiv (sumI es) 32))).updPort p (fun x => { x with finalTime := true })).sendTime p false true)) ∧
    (∀ b, p < 64 → c.running = true → c.link p = lkReady → goodFrame 0x81 32 b = false →
      Does (.statusReceived dt p b) s (c.inc Obj.port_LINK_ERR p 1 1)) ∧
    (∀ b, let f := leAt b 1 1; p < 64 → c.running = true → c.link p = lkAlign → (c.port p).finalTime = false → goodFrame 0x81 32 b = true → bit f 1 = false → bit f 3 = false → bit f 5 = false →
      Does (.statusReceived dt p b) s (((((c.wr Obj.port_LINK_ERR p 2 (leAt b 24 2)).wr Obj.port_LINK_ERR p 3 (leAt b 26 2)).updPort p
        (fun x => { x with held := leAt b 20 1 % 8, statusAt := some c.clk })).arm .statusWait p (us 100)).setFlag p 3 (bit f 0))) ∧
    (c.due .ackWait p = true → ∀ r, (c.port p).outstanding = some r →
      let t := (c.disarm .ackWait p).inc Obj.port_NAK_COUNT p 12 1
      Does (.ackTimeout dt p) s
        (Core.lanePump (if t.mayResend p r then (t.inc Obj.port_RESENDS p 0 1).sendColumn p { r with attempt := r.attempt + 1 } else t.loseCol p r.col) p)) ∧
    (c.due .statusWait p = true → (c.link p = lkAlign ∨ c.sbUp p = true) → Does (.statusTimeout dt p) s (c.enterRetrain p)) ∧
    (∀ groups, p < 64 → c.link p = lkAlign ∨ c.sbUp p = true →
      let t := Core.rxGroups p groups false false c
      Does (.linkCodeErrors dt ⟨p, groups⟩) s (if 8 ≤ popCount 64 (t.port p).rxErr then (t.updPort p (fun x => { x with rxErr := 0 })).enterRetrain p else t)) ∧
    (∀ g, (c.rxGroup p g).rd Obj.port_LINK_ERR p 0 = (if codeError (c.port p).rxPlus g then (c.rd Obj.port_LINK_ERR p 0 + 1) % 2 ^ 32 else c.rd Obj.port_LINK_ERR p 0)) ∧
    (c.due .timePeriod p = true → c.sbUp p = true → Does (.timePeriodExpiry dt p) s (c.sendTime p false false))

/-- The sideband (R138, R139): a response that names the outstanding request brings on what its status says (Table 5-8): DONE commits the step, PENDING is
asked again after 10 µs, ARG and INACTIVE end the conversation, UNSUPPORTED is a fault, and any other resets the sequence; one that does not name it is
discarded and counted; no answer sends the request again with one more timeout counted, and the third timeout resets the sequence; a TAKE refused once is sent
again under the next epoch, and refused twice faults its port (R415). Choices of the model it rests on: log entries 1, 7, 34, 42, 45, 47 and 163. -/
def Obligations.SidebandAnswersAndTimeouts : Prop :=
  ∀ (s : State) (dt p : Nat), let c := s.core.advance dt;
    (∀ b r v, p < 64 → c.sbUp p = true → leAt b 6 2 ≤ 256 → goodFrame 0x82 (16 + leAt b 6 2) b = true → (c.port p).req = some r → (c.port p).conv = some v →
      r.op ≠ opSync → (leAt b 1 1 = r.seq ∧ leAt b 2 1 = r.conv ∧ leAt b 3 1 = r.op ∧ leAt b 4 2 = r.step) →
      let t := c.disarm .sbWait p
      let st := leAt b 8 1
      Does (.sbResponse dt p b) s
        (if st = 0 then t.stepDone p v (leAt b 8 4) ((b.drop 12).take (leAt b 6 2))
         else if st = 1 then t.arm .sbPending p (us 10)
         else if st = 3 ∨ st = 4 then t.convFails p v st
         else if st = 5 then t.portFault p
         else t.sync p true)) ∧
    (∀ b r, p < 64 → c.sbUp p = true → leAt b 6 2 ≤ 256 → goodFrame 0x82 (16 + leAt b 6 2) b = true → (c.port p).req = some r → leAt b 1 1 ≠ r.seq →
      Does (.sbResponse dt p b) s (c.updPort p (fun x => { x with unmatched := x.unmatched + 1 }))) ∧
    (∀ r, (c.port p).req = some r → c.due .sbWait p = true →
      Does (.sbTimeout dt p) s
        (if 2 ≤ r.tries then (c.disarm .sbWait p).sync p true
         else (c.updPort p (fun x => { x with req := some { r with tries := r.tries + 1 } })).sbSend p)) ∧
    (c.due .sbPending p = true → Does (.sbPendingRetry dt p) s (c.sbSend p)) ∧
    (c.due .takeRetry p = true → (c.port p).takes ≠ 0 → c.rd0 Obj.PAIR_STATE = 4 → c.link p ≠ lkAborted →
      let u := (c.disarm .takeRetry p).occur 898 0
      Does (.takeRetryTimeout dt p) s
        (if (u.port p).takes = 1 then (u.wr0 Obj.PAIR_EPOCH ((u.rd0 Obj.PAIR_EPOCH + 1) % 2 ^ 32)).sendTake p ((u.pair.take.getD 0) % 2 ^ 32)
         else ((u.updPort p (fun x => { x with takes := 0 })).portFault p).takeDone))

/-! ### Head health (ch. 6) -/

/-- Measurements and sweeps on an analogue front-end channel go as R156, R157, R169, R170 and R174 say: a request on a free channel begins its SENSE
conversation, but a reference reading off by more than 0.5 % ends the channel's requests with REF_FAIL and a port not READY gets NOT_AVAILABLE; a sweep on the
channel pauses first; settled, the channel integrates for 64 µs; the resistance is the mean voltage over the force current, and a valid result waits for the
model at T_m and the middle of the integration, an invalid one is published as out of range and is MEAS_FAIL; the die's switch opens; a sweep starts at the
next nozzle not yet swept; the end of a dwell stores the nozzle's resistance and class and goes to the next one, pauses, or ends the sweep. The class of a
swept nozzle follows R170 in its order: an open or over-range heater is dead; else a shorted one; else, with no baseline, it is good; else its drift from the
baseline decides, dead above DRIFT_DEAD, weak above DRIFT_WEAK. Only the last two outcomes count as measured. Choices of the model it rests on: log entries 1,
4, 6, 7, 38, 40, 165, 166 and 167. -/
def Obligations.MeasurementsAndSweepsRun : Prop :=
  (∀ (s : State) (dt k ref : Nat), let c := s.core.advance dt; let a := c.afeOf k;
    let refOk := 200 * ((ref : Int) - c.afeRef).natAbs ≤ c.afeRef;
    (∀ p, c.mode ≠ .safe → c.running = true → k < 32 → chanPort c.measPending k = some p → a.kind = 2 ∨ c.chanFree k = true →
      Does (.measService dt k ref) s
        (if a.kind = 2 then
          (if a.armed = true ∧ ofTick a.start ≤ (c.ftQ : Int) then c.setAfe k { a with pause := true }
           else (c.updPort a.port (fun x => { x with queue := x.queue.filter (fun v => !decide (v.conv = 6 ∧ v.arg = 2)) })).openSwitch a.port)
         else if refOk then
          (if c.link p = lkReady then (Core.setAfe { c with measPending := putBit c.measPending p false } k { kind := 1, port := p }).queueConv p { conv := 6, why := 4, arg := 1 }
           else (Core.publishBad { c with measPending := putBit c.measPending p false } p 1).settle)
         else
          (c.each ([2 * k, 2 * k + 1].filter (bit c.measPending)) (fun t q => Core.publishBad { t with measPending := putBit t.measPending q false } q 4)).settle.occur 1267 0)) ∧
    (c.due .tsrSettle k = true → a.kind = 1 →
      Does (.tsrSettleDone dt k) s (((c.disarm .tsrSettle k).setAfe k { a with start := c.ftNs }).arm .tsrIntegrate k (us 64))) ∧
    (∀ volt, c.due .tsrIntegrate k = true → a.kind = 1 →
      let r := satU 32 (roundDiv ((volt * 2 ^ 16 : Nat) : Int) (1000000 * a.force)); let t := c.disarm .tsrIntegrate k
      Does (.tsrIntegrationDone dt k volt) s
        (Core.openSwitch
          (if tempValid r (c.rd Obj.TSR_NOM 0 a.port) (c.rdI Obj.TSR_ALPHA 0 a.port) = true then
            t.updPort a.port (fun x => { x with therm := { x.therm with waiting := x.therm.waiting ++
              [⟨tempOf r (c.rd Obj.TSR_NOM 0 a.port) (c.rdI Obj.TSR_ALPHA 0 a.port), a.start + 32000, r, 0, c.ftNs / 8192⟩] } })
           else (t.drawOpen.2.publish a.port (measRecord (a.start + 32000) r ((t.drawOpen.1 : Nat) : Int) 0 0 3 a.port 0)).occur 1266 0)
          a.port)) ∧
    (∀ p, c.chanFree k = true → k < 32 → chanPort c.measPending k = none → [2 * k, 2 * k + 1].find? c.sweepable = some p →
      Does (.sweepStart dt k ref) s
        (if refOk then (c.setAfe k { kind := 2, port := p, base := c.rd Obj.SWEEP_NEXT 0 p }).queueConv p { conv := 6, why := 5, arg := 2 } else c.occur 1267 0)) ∧
    (∀ volt, let p := a.port; let i := c.rd Obj.SWEEP_NEXT 0 p; let n := 1024 * p + i
      let r := satU 16 (roundDiv ((volt * 2 ^ 6 : Nat) : Int) (1000000 * a.force))
      let cl := sweepClass r (c.rd0 Obj.R_OPEN) (c.rd0 Obj.R_SHORT) (c.rd Obj.R_BASE 0 n) (c.rd0 Obj.DRIFT_WEAK) (c.rd0 Obj.DRIFT_DEAD)
      a.kind = 2 → a.armed = true → ofTick (a.start + (i + 1 - a.base) * 640) ≤ (c.ftQ : Int) → i < 16 * c.nPrim p → c.link p = lkReady →
      let t := ((c.wr Obj.R_HEATER 0 n r).setNozzle n (putField (c.rd Obj.NOZZLE_MAP 0 n) 5 4 cl.1)).wr Obj.SWEEP_NEXT 0 p (i + 1)
      let t := { t with sweepOk := if cl.2 = true then Tab.set t.sweepOk n 1 else Tab.erase t.sweepOk n }
      let t := if cl.1 = 2 ∧ field (c.rd Obj.NOZZLE_MAP 0 n) 5 4 ≠ 2 ∧ bit t.sweepDead p = false then Core.occur { t with sweepDead := putBit t.sweepDead p true } 1265 0 else t
      Does (.sweepDwellEnd dt k volt) s
        (if 16 * c.nPrim p ≤ i + 1 then (t.sweepOver p true).openSwitch p
         else if a.pause = true ∨ t.sweepsRun = false then t.openSwitch p
         else t.heaterPulse k (i + 1)))) ∧
  (∀ r open_ short_ base weak dead : Nat, weak ≤ dead →
    (r = 0xFFFF ∨ open_ < r → sweepClass r open_ short_ base weak dead = (2, false)) ∧
    (r ≠ 0xFFFF → r ≤ open_ → r < short_ → sweepClass r open_ short_ base weak dead = (2, false)) ∧
    (r ≠ 0xFFFF → r ≤ open_ → short_ ≤ r → base = 0 → sweepClass r open_ short_ base weak dead = (0, true)) ∧
    (r ≠ 0xFFFF → r ≤ open_ → short_ ≤ r → base ≠ 0 →
      (sweepClass r open_ short_ base weak dead).2 = true ∧
      ((sweepClass r open_ short_ base weak dead).1 = 2 ↔ dead * base < ((r : Int) - base).natAbs * 32768) ∧
      ((sweepClass r open_ short_ base weak dead).1 = 0 ↔ ((r : Int) - base).natAbs * 32768 ≤ weak * base)))

/-- Junction sensors, the model step, the trip and the head supplies (R107, R108, R160, R172, R173): a conversion ends with a record of every sensor converted
at once, and the next request, if any, begins; at a model step each port of which one step has ended takes it, with the energy credited in it; the hard-wired
trip makes S1216 active while all rails are good; a sample of a head supply is stored in steps of 10 mV up to 40 V, moves MIN and MAX while its input is
active, and its third sample in a row past a limit makes the limit's source active. Choices of the model it rests on: log entries 1, 6, 7, 27 and 41. -/
def Obligations.JunctionModelAndSupplies : Prop :=
  ∀ (s : State) (dt : Nat), let c := s.core.advance dt;
    (∀ temps codes, c.jsRunning ≠ 0 →
      let tm := (c.jsStart + c.ftNs) / 2
      let t := Core.each { c with jsRunning := 0 } (bitsSet 16 c.jsRunning) (fun t i =>
        let temp := satS 16 (nth 0 temps i); let f := t.riseFlags (64 + i) tm temp;
        ((t.keepMeas (64 + i) tm temp).publish (64 + i) (measRecord tm (nth 0 codes i) temp f.1 f.2.1 0 (64 + i) f.2.2)).raiseRise (64 + i) f.2.2)
      Does (.jsConversionDone dt temps codes) s
        (if t.mode = .safe ∨ t.jsPending = 0 then { t with jsPending := 0 } else Core.jsStartConv { t with jsPending := 0 } t.jsPending)) ∧
    (∀ p, c.running = true → p ∈ c.ports.map Prod.fst → (c.ports.map Prod.fst).Nodup → (∀ q ∈ c.ports.map Prod.fst, (c.port q).therm.waiting = []) →
      (c.port p).therm.step + 1 = c.ftNs / 8192 →
      let th := (c.port p).therm
      let v := modelUpdate th.t (c.tSink p) (if c.mode = .safe then 0 else Tab.get 0 th.q th.step) (c.rd Obj.G_E 0 p) (c.rd Obj.A_DECAY 0 p)
      ∃ k, Does (.modelStep dt) s k ∧ (k.port p).therm.t = v ∧ (k.port p).therm.step = c.ftNs / 8192 ∧ (k.port p).therm.kept.head? = some v ∧
        (k.port p).therm.prev = th.prev ∧ (k.port p).cols = (c.port p).cols ∧
        k.rdI Obj.T_EST 0 p = satS 16 (roundDiv v 65536) ∧ k.mode = c.mode ∧ k.src = c.src ∧ k.log = c.log) ∧
    (c.running = true ∨ c.phase = .waking → c.rd0 Obj.RAIL_STATE = 0x3FF → Does (.junctionTrip dt) s (c.level 1216 0 true)) ∧
    (∀ i mv, c.running = true ∨ c.phase = .waking → i < 16 →
      let v := Nat.min 40000 (mv / 10 * 10); let act := c.hsActive i; let o := Tab.get {} c.hsRuns i
      let t := c.wr Obj.hsv_HS_VOLT i 0 v
      let t := if act = true then (t.wr Obj.hsv_HS_MIN i 0 (Nat.min v (t.rd Obj.hsv_HS_MIN i 0))).wr Obj.hsv_HS_MAX i 0 (Nat.max v (t.rd Obj.hsv_HS_MAX i 0)) else t
      let uv := if act = true ∧ v < c.rd Obj.hsv_HS_UV i 0 then o.uv + 1 else 0
      let ov := if act = true ∧ c.rd Obj.hsv_HS_OV i 0 < v then o.ov + 1 else 0
      let stuck := if c.hsOff i = true ∧ c.rd Obj.hsv_HS_OFF_MAX i 0 < v then o.stuck + 1 else 0
      Does (.hsvSample dt i mv) s
        (if c.rd Obj.hsv_HS_PORTS i 0 = 0 then ((Core.level { t with hsRuns := Tab.set t.hsRuns i {} } (1217 + i) 0 false).level (1233 + i) 0 false).level (1249 + i) 0 false
         else ((Core.level { t with hsRuns := Tab.set t.hsRuns i ⟨uv, ov, stuck⟩ } (1217 + i) 0 (decide (3 ≤ uv))).level (1233 + i) 0 (decide (3 ≤ ov))).level
           (1249 + i) 0 (decide (3 ≤ stuck))))

/-! ### Thimble (ch. 7) -/

/-- Commits are triggered by time and by drops (R187): a trigger on an authenticated port with nothing in flight takes the whole picolitres of ACC, puts COUNT
and CSEQ of the update in flight and sends it, or sends the one in flight again; while a step or an instance is on the link it waits for its end; where the
last commit failed a new instance comes first (R191). A port that leaves proceeds when its commit takes too long. The journal entry is written, or fails,
which is THIM_JOURNAL, and is tried again in 10 ms (R188, R191); THIM_GRACE after the oldest acknowledgement without a commit is THIM_OVERDUE in PRINT (R191).
Choices of the model it rests on: log entries 1, 7, 159, 163 and 164. -/
def Obligations.ThimbleCommitsAndJournal : Prop :=
  ∀ (s : State) (dt p : Nat), let c := s.core.advance dt; let x := (c.port p).thim; let n := c.rd Obj.COUNT 0 p + c.rd Obj.PENDING_PL 0 p / 64;
    let t := c.disarm .commitPeriod p; let later := t.updThim p (fun x => { x with again := true });
    let trigger : Core :=
      if x.sending = true then later
      else if x.authed = false then
        (if (c.port p).authGoing = true then later else if x.renew = true ∧ c.sbUp p = true then later.thimAuth p else t)
      else if x.flight.isSome = true then t.thimUpdate p
      else (t.updThim p (fun x => { x with flight := some (n, c.rd Obj.CSEQ 0 p + 1), since := 0, firstSince := none })).thimUpdate p;
    (c.due .commitPeriod p = true → Does (.commitPeriodExpiry dt p) s trigger) ∧
    (p < 64 → 2 ^ 24 ≤ c.rd Obj.DROPS_PENDING 0 p → Does (.commitDropsReached dt p) s trigger) ∧
    (c.due .leaveCommit p = true → (c.port p).closing = true → c.link p ≠ lkAborted → Does (.leaveCommitTimeout dt p) s (c.portOff p)) ∧
    (c.due .thimJournal p = true → x.changed = true →
      (let u := ((c.updThim p (fun x => { x with writeFails := true, changed := true })).arm .thimJournal p (ms 10)).occur 1349 0
       Does (.thimbleJournalTimer dt p true) s (if u.sharedPort p = true then u.mirrorPaced 7 p (c.thimEntry p).body else u)) ∧
      (let u := (Core.updThim { c with thimJ := Tab.set c.thimJ p (c.thimEntry p) } p (fun x => { x with writeFails := false, changed := false })).disarm .thimJournal p
       Does (.thimbleJournalTimer dt p false) s (if u.sharedPort p = true then u.mirrorPaced 7 p (c.thimEntry p).body else u))) ∧
    (∀ t, c.inPrint = true → x.overdue = false → x.first = some t → t + ms (c.rd0 Obj.THIM_GRACE) < c.clk →
      Does (.thimOverdue dt p) s ((c.updThim p (fun x => { x with overdue := true })).occur 1345 0))

/-! ### The raster path and Avone (ch. 8, 9) -/

/-- A column whose lines are resident is assembled in its page (R217, Table 8-5), after mirrored map changes that fall due with it have been applied (R410):
outside a spit band its fire bits, tentative changes of carries and Darning counts are those of the assembly, on a standby's shared port the carry-free
assembly alone; inside one (R86) they are the band's pattern; a corrected memory error is also an occurrence of S1362, and an uncorrectable one loses the
column and is an occurrence of S1363 (Table 8-6). Past t_first(c - 4) the column is lost instead (R16, R18), and blank where its lines are not resident with
COMET_MODE OFF (R362). Darning of one donor with an own drop (R214, R215): with PARTNER_OK the partner takes it and nothing changes here; else a neighbour
that can receive and is free fires and NEIGHBOUR counts; else the carry rises by one, to 15 at most, beyond which the drop is LOST. No carry but the donor's
moves, and no fire bit is taken away. Choices of the model it rests on: log entries 1, 7, 21, 157 and 168. -/
def Obligations.ColumnsAreAssembled : Prop :=
  (∀ (s : State) (dt p e : Nat) (pg : Page), let c0 := s.core.advance dt; let c := if c0.pair.due.isEmpty then c0 else c0.applyDue (c0.nextAssembly p)
    let j := c.nextAssembly p; let k := j - pg.base; let r := c.colOf p j; let shared := c.isStandby && c.sharedPort p;
    p < 64 → c.inPrint = true → c.activePort p = true → c.pageOf j = some pg → c.belowSeam j = true →
    (shared = false → c.rasterLate p j = true →
      Does (.columnAssembly dt p e) s ((if c.isBlank p j = true then c.countBlank j else c).loseCol p j)) ∧
    (shared = true ∨ c.rasterLate p j = false → k < availCols pg (pg.own c) → c.colResident pg (pg.own c) p k = true →
      let a := c.assemble pg (pg.own c) p k
      let t : Core := match c.bandAt pg p k with
        | some b => c.setCol p { r with asm := true, spit := some b.pattern, fire := c.spitBits b.pattern (k - b.first) p, free := c.spitBits b.pattern (k - b.first) p }
        | none =>
          if shared = true then c.setCol p { r with asm := true, fire := a.free, free := a.free }
          else c.setCol p { r with asm := true, fire := a.fire, free := a.free, counts := a.counts, carry := a.carry.map (fun nv => (nv.1, (nv.2 : Int) - c.carryBase pg p j nv.1)) }
      Does (.columnAssembly dt p e) s
        (if e = 2 then ((c.setCol p { r with asm := false }).loseCol p j).occur 1363 0 else if e = 1 then t.occur 1362 0 else t))) ∧
  (∀ (s : Core) (pg : Page) (m : PlaneMap) (base : Nat → Nat) (r : RowGroup) (q : Option RowGroup) (c k : Nat) (a : Assembly),
    a.counts.length = 5 → s.isDonor r k = true → s.ownBit pg m r k c = true →
    let b := s.pushDonor pg m base r q c a k
    let n := r.nozzleId k
    (q.any (fun p => s.partnerOk pg m r p k c) = true → b = a) ∧
    (q.any (fun p => s.partnerOk pg m r p k c) = false →
      (∀ a', s.pushTo r c a k = some a' → b.fire = a'.fire ∧ b.carry = a'.carry ∧ nth 0 b.counts 1 = nth 0 a'.counts 1 + 1) ∧
      (s.pushTo r c a k = none →
        b.fire = a.fire ∧
        (a.carryOf base n < 15 → b.carryOf base n = a.carryOf base n + 1 ∧ nth 0 b.counts 2 = nth 0 a.counts 2 + 1 ∧ nth 0 b.counts 4 = nth 0 a.counts 4) ∧
        (15 ≤ a.carryOf base n → b.carry = a.carry ∧ nth 0 b.counts 4 = nth 0 a.counts 4 + 1))) ∧
    (∀ n', n' ≠ n → b.carryOf base n' = a.carryOf base n') ∧
    (∀ x, a.get x = true → b.get x = true))

/-- A decoder goes through a block as R244, R226, R235, R229, R231 and R237 say: it takes the request at the head of its ring while a completion entry is
free; the first failing header check ends the block, else a DYNAMIC block's code table is read and a bad one ends the block, else the codes follow; bytes it
may not reach are a Spool violation and end the block with a status the spec leaves open, uncorrectable ones end it MEM; CHECK compares the CRC; the window
manager gives the block it needs next to the lowest idle decoder (R247). Blocks of the window that end bad are written as level 0 (R250). Choices of the model
it rests on: log entries 1, 6, 7, 56, 60 and 168. -/
def Obligations.DecodersFollowTheirSteps : Prop :=
  ∀ (s : State) (dt d : Nat), let c := s.core.advance dt; let rh := c.rd Obj.dec_REQ_HEAD d 0; d < 4 →
    (c.inModes [.config, .ready, .service] = true → c.decState d = decIdle → rh ≠ c.rd Obj.dec_REQ_TAIL d 0 →
      (c.rd Obj.dec_DONE_HEAD d 0 + 1) % 16 ≠ c.rd Obj.dec_DONE_TAIL d 0 →
      let e := c.rd Obj.REQ_RING d rh
      ∃ k, Does (.decoderTakeRequest dt d) s k ∧ k.decState d = decHeader ∧ k.rd Obj.dec_REQ_HEAD d 0 = (rh + 1) % 16 ∧
        (k.decoder d).src = e % 2 ^ 64 ∧ (k.decoder d).len = e / 2 ^ 64 % 2 ^ 32 ∧ (k.decoder d).tag = e / 2 ^ 96 % 2 ^ 32 ∧
        (k.decoder d).limit = c.rd Obj.dec_OUT_LIMIT d 0 ∧ (k.decoder d).out = [] ∧ (∀ i, i ≠ d → k.decoder i = c.decoder i) ∧
        k = { c with objs := k.objs, decs := k.decs }) ∧
    (∀ e a, c.decState d = decHeader →
      let u := c.decError e a; let x := c.decoder d; let st := headerCheck x.hdr x.len x.limit u.presetValid
      let f := if x.len < 32 then 0 else u.decFault x 0 32
      let t := if x.desc = true then u.blockEnd d avDesc
        else if f = 1 then (u.violation ownAvone (u.decAddr x 0) 32).blockUnreached d
        else if e = 2 then u.decMem d a
        else if f = 2 then u.decBadWord d 0 32
        else if st ≠ avOk then u.blockEnd d st
        else if hCoding x.hdr = 2 then u.setDec d decTable else (u.setDecoder d (u.decReset x)).setDec d decDecode
      DoesBoth (.decoderHeaderDone dt d e a) s t (t.blankBad s.core s.mem)) ∧
    (∀ e a, c.decState d = decTable →
      let y := { c.decoder d with inBytes := 170 }; let u := (c.decError e a).setDecoder d y; let b := u.decBytes s.mem y 32 138; let f := u.decFault y 32 138
      let t := if f = 1 then (u.violation ownAvone (u.decAddr y 32) 138).blockUnreached d
        else if e = 2 then u.decMem d a
        else if f = 2 then u.decBadWord d 32 138
        else if codeTableOk b = true then (u.setDecoder d (u.decReset { y with lens := codeLens b })).setDec d decDecode else u.blockEnd d avTable
      DoesBoth (.decoderTableDone dt d e a) s t (t.blankBad s.core s.mem)) ∧
    (c.decState d = decCheck →
      let t := c.blockEnd d (if Crypto.crc32c (c.decoder d).data = hCrc (c.decoder d).hdr then avOk else avCrc)
      DoesBoth (.decoderBlockEnd dt d) s t (t.blankBad s.core s.mem)) ∧
    (∀ pg col b, c.inPrint = true → [0, 1, 2, 3].find? (fun d => decide (c.decState d = decIdle)) = some d → c.nextBlock = some (pg, col, b) →
      ∃ k, Does (.windowDispatch dt) s k ∧ k.decState d = decHeader ∧ (k.decoder d).win = some (pg.base, b.ssn) ∧ (k.decoder d).src = b.addr ∧
        (k.decoder d).len = b.len ∧ (k.decoder d).limit = c.rd Obj.dec_OUT_LIMIT d 0 ∧ (∀ i, i ≠ d → k.decoder i = c.decoder i) ∧
        k = { c with objs := k.objs, decs := k.decs, pages := k.pages })

/-- One reading of a body (R229, R230, R234, R241): bytes still to be written go out first; a STORED body is taken whole; otherwise the decoder reads the next
code at its place in the stream: RESET empties the dictionary; END ends the body with the check of what follows it; a code it cannot accept ends the block
with CODE, a string past the limit with OVERRUN, the end of the stream with TRUNC; else the string is added and written out. An uncorrectable error reported
with the read ends the block MEM (R243). Decoded bytes keep their order and are never lost (R229, R240): in writing out what is pending into the ring's
buffers, what was written before followed by what was pending equals what is written after followed by what is still pending. Choices of the model it rests
on: log entries 1, 6, 7, 58 and 168. -/
def Obligations.CodesAreDecoded : Prop :=
  (∀ (s : State) (dt d a : Nat), let c := s.core.advance dt; let x := c.decoder d; let o := 32 + hTableLen x.hdr; let from_ := x.bits / 8; let n := Nat.min 5 (hBody x.hdr - from_);
    let word := ofLe (c.decBytes s.mem x (o + from_) n); let strm : Nat → Bool := fun i => bit word (x.bits % 8 + i);
    let runs (e : Nat) (r : Core × List Host.Cell) : Prop := DoesBoth (.decodeCode dt d e a) s r.1 (r.1.blankBad s.core r.2);
    let writes (t : Core) : Core × List Host.Cell := (let r := t.flush s.mem d;
      (if r.2.2 = true ∧ hCoding x.hdr = 0 ∧ r.1.decState d = decDecode ∧ (r.1.decoder d).out.length = hDecoded x.hdr then r.1.setDec d decCheck else r.1, r.2.1));
    d < 4 → c.decState d = decDecode ∨ (c.decState d = decOutWait ∧ x.win.isSome = true) →
    runs 2 ((c.decError 2 a).decMem d a, s.mem) ∧
    (x.pend ≠ [] → runs 0 (writes c)) ∧
    (x.pend = [] → hCoding x.hdr = 0 → c.decFault x o (hBody x.hdr) = 0 →
      let w := c.decBytes s.mem x o (hBody x.hdr)
      runs 0 (writes (c.setDecoder d { x with pend := if hPre x.hdr = 1 then inversePre (hLineBytes x.hdr) x.out w else w, bits := 8 * hBody x.hdr, inBytes := o + hBody x.hdr }))) ∧
    (x.pend = [] → hCoding x.hdr ≠ 0 → c.decFault x (o + from_) n = 0 →
      (x.readCode strm (8 * hBody x.hdr - x.bits) = .trunc → runs 0 ((c.setDecoder d { x with inBytes := o + hBody x.hdr }).blockEnd d avTrunc, s.mem)) ∧
      (∀ k, x.readCode strm (8 * hBody x.hdr - x.bits) = .bad k →
        runs 0 ((c.setDecoder d { x with bits := x.bits + k, codes := x.codes + 1, inBytes := o + ceilDiv (x.bits + k) 8 }).blockEnd d avCode, s.mem)) ∧
      (∀ v k, x.readCode strm (8 * hBody x.hdr - x.bits) = .code v k →
        let y := { x with bits := x.bits + k, codes := x.codes + 1, inBytes := o + ceilDiv (x.bits + k) 8 }
        (v = 256 → runs 0 (c.setDecoder d (c.decReset y), s.mem)) ∧
        (v = 257 → let st := y.endStatus (fun i => strm (k + i))
          runs 0 (if st = avOk then (c.setDecoder d y).setDec d decCheck else (c.setDecoder d y).blockEnd d st, s.mem)) ∧
        (v ≠ 256 → v ≠ 257 → y.accept v = none → runs 0 ((c.setDecoder d y).blockEnd d avCode, s.mem)) ∧
        (∀ w, v ≠ 256 → v ≠ 257 → y.accept v = some w →
          runs 0 (if Nat.min (hDecoded x.hdr) x.limit < y.out.length + w.length then ((c.setDecoder d y).blockEnd d avOverrun, s.mem)
            else (((c.setDecoder d (y.output w)).flush s.mem d).1, ((c.setDecoder d (y.output w)).flush s.mem d).2.1)))))) ∧
  (∀ (s : Core) (m : List Host.Cell) (d k : Nat) (x : Decoder),
    let r := s.flushRing m d k x
    r.1.data ++ r.1.pend = x.data ++ x.pend ∧ x.out.length ≤ r.1.out.length ∧ (r.2.2.2 = .all → r.1.pend = []))

/-! ### The stream and jobs (ch. 10) -/

/-- A DATA datagram is taken as R259 and R260 say: where FWD_TABLE names another node for its stream, it goes there over the ring; else, while the stream is
OPEN or ERROR, one from the stream's host, sound in form and CRC, with the stream's ID, inside the window and not yet received, for which staging has room,
joins the sequence with every later one that now follows without a gap, and is acknowledged where it asks for it. One from another host counts under cause 2,
a damaged one under cause 3, a wrong CRC under 4, another stream's under 5, one received before under 6 (SL0's copy taken where both came in one cycle), one
past the window under 7, one staging has no room for under 8. ACK_PERIOD sends an ACK and begins again (R261); where it is not due, or nothing is open,
nothing but time passes. What joins is consecutive (R260): from NEXT_DSEQ on, the payloads of just the next numbers received join in order, NEXT_DSEQ advances
by their count modulo 2^32, and those that joined are no longer held. Choices of the model it rests on: log entries 1, 61, 62, 129 and 184. -/
def Obligations.DatagramsJoinTheStream : Prop :=
  (∀ (s : State) (dt lane src port : Nat) (b : List Byte), let c := s.core.advance dt; let pay := leAt b 6 2; let dseq := leAt b 12 4; let d := fwd32 dseq (c.rd0 Obj.NEXT_DSEQ);
    let crcOk := leAt b (16 + pay) 4 = Crypto.crc32c (b.take (16 + pay)); let ours := b.length < 20 ∨ c.running = false ∨ c.forwardNode (leAt b 8 4) = none;
    let sound := 20 ≤ b.length ∧ leAt b 0 4 = 0x01015346 ∧ leAt b 4 2 < 4 ∧ pay + 20 = b.length ∧ 0 < pay ∧ pay ≤ 8932;
    let held := 2 ^ 31 ≤ d ∨ c.stream.got.any (fun e => decide (e.1 = dseq)) = true;
    (∀ n, c.running = true → 20 ≤ b.length → leAt b 0 4 = 0x01015346 → pay + 20 = b.length → crcOk → c.forwardNode (leAt b 8 4) = some n → n ≠ c.rd0 Obj.NODE_ID →
      Does (.dataDatagram dt lane src port b) s (if c.originates then c.ringMessage 0x32 n (carried src port b) else c)) ∧
    (ours → c.streamRuns = false → Does (.dataDatagram dt lane src port b) s c) ∧
    (ours → c.streamRuns = true → (c.streamUp = false ∨ src ≠ c.rd0 Obj.STREAM_HOST) → Does (.dataDatagram dt lane src port b) s (c.discardDgram 2)) ∧
    (ours → c.streamRuns = true → c.streamUp = true → src = c.rd0 Obj.STREAM_HOST →
      (¬sound → Does (.dataDatagram dt lane src port b) s (c.discardDgram 3)) ∧
      (sound → ¬crcOk → Does (.dataDatagram dt lane src port b) s (c.discardDgram 4)) ∧
      (sound → crcOk →
        (leAt b 8 4 ≠ c.rd0 Obj.STREAM_ID → Does (.dataDatagram dt lane src port b) s (c.discardDgram 5)) ∧
        (leAt b 8 4 = c.rd0 Obj.STREAM_ID →
          (64 < d → d < 2 ^ 31 → Does (.dataDatagram dt lane src port b) s ((c.discardDgram 7).sendAck)) ∧
          ((d ≤ 64 ∨ 2 ^ 31 ≤ d) → held →
            Does (.dataDatagram dt lane src port b) s (((c.preferSl0 lane dseq port ((b.drop 16).take pay)).discardDgram 6).sendAck)) ∧
          (d ≤ 64 → ¬held → c.stageFree < pay →
            Does (.dataDatagram dt lane src port b) s (if bit (leAt b 4 2) 0 then (c.discardDgram 8).sendAck else c.discardDgram 8)) ∧
          (d ≤ 64 → ¬held → pay ≤ c.stageFree →
            let j := joinDgrams 66 (c.rd0 Obj.NEXT_DSEQ) ((dseq, (b.drop 16).take pay) :: c.stream.got) c.stream.bytes
            let t := (((c.updStream (fun x => { x with
              got := j.2.1, bytes := j.2.2, lane := some lane, port := port,
              rival := if lane = 1 then some (dseq, c.clk, j.2.2.length - c.stream.bytes.length, pay) else x.rival })).wr0 Obj.NEXT_DSEQ j.1).putFree).checkFront
            Does (.dataDatagram dt lane src port b) s (if bit (leAt b 4 2) 0 then t.sendAck else t))))) ∧
    (if c.streamRuns = true ∧ c.streamUp = true ∧ c.due .streamAckPeriod 0 = true then
      Does (.ackPeriodExpiry dt) s (c.sendAck.arm .streamAckPeriod 0 (us (c.rd0 Obj.ACK_PERIOD))) else Does (.ackPeriodExpiry dt) s c)) ∧
  (∀ (k next : Nat) (got : List (Nat × List Byte)) (b : List Byte), k ≤ 2 ^ 31 → next < 2 ^ 32 →
    let r := joinDgrams k next got b
    ∃ l : List (List Byte), l.length ≤ k ∧ r.1 = (next + l.length) % 2 ^ 32 ∧ r.2.2 = b ++ l.flatten ∧
      (∀ i, i < l.length → (got.find? (fun e => decide (e.1 = (next + i) % 2 ^ 32))).map Prod.snd = l[i]?) ∧
      (∀ e, e ∈ r.2.1 ↔ e ∈ got ∧ ∀ i, i < l.length → e.1 ≠ (next + i) % 2 ^ 32) ∧
      (l.length < k → ∀ e ∈ got, e.1 ≠ (next + l.length) % 2 ^ 32))

/-- A record in its place is processed and the next one stands at the front (R263, R265, R268, R270, R271): JOB_START begins the job outside PRINT once no
page is left and every port with history has been brought up afresh; JOB_END ends it after a final page; PLANE_SETUP stages a map, which in PRINT is tested;
LINE_MARK and PAGE_END raise the done counts; MEASURE and SPIT_BAND join their page, or are error MEM where the queue's bank cannot be read (log entry 174);
MARK is an event. One out of its place, or with a reserved field set, is an error of the stream (R273). Choices of the model it rests on: log entries 1, 7,
66, 67, 68 and 174. -/
def Obligations.RecordsAreProcessedInTheirPlace : Prop :=
  ∀ (s : State) (dt ssn : Nat) (b : List Byte), let c := s.core.advance dt;
    (c.recordReady 0x01 = some (b, ssn) →
      (leAt b 4 4 ≠ 0 → Does (.recordJobStart dt) s (c.streamError errFormat 0x01 ssn)) ∧
      (leAt b 4 4 = 0 → c.stream.place ≠ 0 → Does (.recordJobStart dt) s (c.streamError errOrder 0x01 ssn)) ∧
      (leAt b 4 4 = 0 → c.stream.place = 0 → c.inPrint = false → c.pages = [] → allPorts.filter c.hasHistory = [] → c.stillDown = [] → c.stream.bytes.length = 12 + c.frontRec.2.1 →
        ∃ k, Does (.recordJobStart dt) s k ∧ k.job.active = true ∧ k.rd0 Obj.JOB_ID = leAt b 0 4 ∧ k.rd0 Obj.LAST_SSN = ssn % 2 ^ 32 ∧ k.stream.place = 1 ∧
          k.stream.bytes = c.stream.bytes.drop (12 + c.frontRec.2.1) ∧ k.stream.ssn = (ssn + 1) % 2 ^ 32 ∧ k.staged = c.staged ∧ k.hold = none ∧ k.colTop = 0)) ∧
    (c.recordReady 0x02 = some (b, ssn) →
      if c.stream.place = 1 ∧ c.stream.last.any (fun x => x.2.2) = true then
        let t := c.updStream (fun x => { x with place := 0, direct := false })
        Does (.recordJobEnd dt) s ((({ t with job := { t.job with ended := true } }).takeRecord ssn).recomputeLA).jobEnds
      else Does (.recordJobEnd dt) s (c.streamError errOrder 0x02 ssn)) ∧
    (c.recordReady 0x10 = some (b, ssn) →
      (setupOk b = false → Does (.recordPlaneSetup dt) s (c.streamError errFormat 0x10 ssn)) ∧
      (setupOk b = true → c.stream.place ≠ 0 →
        let t := (({ c with staged := some (setupMap b) }).wr0 Obj.PM_STAGED 1).updStream (fun x => { x with direct := false })
        Does (.recordPlaneSetup dt) s ((if c.inPrint then (t.runPlaneTest (setupMap b) 0xFF 0).1 else t).takeRecord ssn))) ∧
    (c.recordReady 0x12 = some (b, ssn) → leAt b 2 2 = 0 →
      if c.withinPage = true ∧ c.openPage.all (fun pg => decide (leAt b 4 4 ≤ pg.lines) && (bitsSet 16 (leAt b 0 2)).all (fun p => decide (Tab.get 0 pg.done p ≤ leAt b 4 4))) = true then
        Does (.recordLineMark dt) s
          (((c.updOpen (fun pg => { pg with done := (bitsSet 16 (leAt b 0 2)).foldl (fun m p => Tab.set m p (leAt b 4 4)) pg.done })).takeRecord ssn).recomputeLA)
      else Does (.recordLineMark dt) s (c.streamError errOrder 0x12 ssn)) ∧
    (c.recordReady 0x13 = some (b, ssn) →
      if c.stream.place = 2 ∧ c.stream.last.any (fun x => decide (x.1 = leAt b 0 4)) = true then
        let fresh (x : Block) : Block := { x with busy := false, done := false, bad := false, tried := false, freed := false, levels := [] }
        let t := c.updOpen (fun pg => { pg with done := (List.range 16).map (fun p => (p, pg.lines)) })
        Does (.recordPageEnd dt) s (((t.updStream (fun x => { x with
          place := 1, direct := true, idx := if c.withinPage then (c.openPage.map (fun pg => pg.blocks.map fresh)).getD c.stream.idx else x.idx
          ended := none })).takeRecord ssn).recomputeLA)
      else Does (.recordPageEnd dt) s (c.streamError errOrder 0x13 ssn)) ∧
    (∀ pg, c.recordReady 0x30 = some (b, ssn) → leAt b 6 2 = 0 → c.stream.place = 2 → c.openPage = some pg → pg.started = false → c.queued < 4096 →
      Does (.recordMeasure dt) s (if c.queueBad = true then c.streamError errMem 0x30 ssn
        else ((c.updOpen (fun pg => { pg with measures := pg.measures ++ [⟨leAt b 0 4, leAt b 4 2, leAt b 8 8⟩] })).updStream (fun x => { x with direct := false })).takeRecord ssn)) ∧
    (∀ pg lay, c.recordReady 0x31 = some (b, ssn) → leAt b 0 1 ≤ 15 → leAt b 1 3 = 0 → c.stream.place = 2 → c.openPage = some pg → c.stream.ended = none →
      c.laidOut.find? (fun q => decide (q.no = pg.no ∧ q.pass = pg.pass)) = some lay → leAt b 4 4 + leAt b 8 4 ≤ lay.cols → pg.bandTop ≤ leAt b 4 4 → pg.started = false → c.queued < 4096 →
      let t := (c.updOpen (fun pg => { pg with bands := pg.bands ++ [⟨leAt b 0 1, leAt b 4 4, leAt b 8 4⟩] })).updOpen (fun pg => { pg with bandTop := leAt b 4 4 + leAt b 8 4 })
      Does (.recordSpitBand dt) s (if c.queueBad = true then c.streamError errMem 0x31 ssn else (t.updStream (fun x => { x with direct := false })).takeRecord ssn)) ∧
    (c.recordReady 0x3F = some (b, ssn) →
      if c.stream.place = 0 then Does (.recordMark dt) s (c.streamError errOrder 0x3F ssn)
      else Does (.recordMark dt) s (((c.event (some 2) 0x0020 (leAt b 0 4) ssn).settle.updStream (fun x => { x with direct := false })).takeRecord ssn))

/-- A page's first PASS (R265, R590): a sound PAGE_START after a final page or none, its number above the last, is queued at the end with the map staged at
that moment, which is used up; the page is as its record says; where the queue's bank cannot be read it is error MEM (log entry 174). PAGE_START's command
begins the first page not yet started: its map is tested and written, its windows take their place, its carries and its placement counts begin at 0.
Measurements whose column has come are requested. A BLOCK joins its page (R267, R274, R283): its bursts go into the staging ring from where the last one
ended, running on at STAGE_BASE past the ring's end, each in its turn and once the bucket holds its tokens; no other byte of memory changes. Once all its
bytes are there it takes its place in the ring, the stream goes on, and the page's index gains the block at that address. Choices of the model it rests on:
log entries 1, 7, 21, 22, 59, 61, 63, 66, 68, 169 and 174. -/
def Obligations.PagesAndBlocksAreQueued : Prop :=
  (∀ (s : State) (dt ssn : Nat) (b : List Byte), let c := s.core.advance dt;
    (c.recordReady 0x11 = some (b, ssn) → pageBodyOk (decide (c.mode = .printWeb)) b = true → leAt b 4 1 = 0 → c.stream.place = 1 →
      c.stream.last.all (fun x => x.2.2) = true → c.stream.lastNo.all (fun k => decide (k < leAt b 0 4)) = true → c.queued < 4096 →
      c.stream.bytes.length = 12 + c.frontRec.2.1 →
      (c.queueBad = true → Does (.recordPageStart dt) s (c.streamError errMem 0x11 ssn)) ∧
      (c.queueBad = false → ∃ k pg, Does (.recordPageStart dt) s k ∧ k.pages = c.pages ++ [pg] ∧ pg.no = leAt b 0 4 ∧ pg.pass = 0 ∧ pg.dir = signedOf 8 (leAt b 5 1) ∧ pg.mask = leAt b 6 1 ∧
        pg.lines = leAt b 8 4 ∧ pg.map = c.staged ∧ pg.started = false ∧ k.staged = none ∧ k.stream.last = some (leAt b 0 4, 0, decide (leAt b 7 1 = 1)) ∧
        k.stream.ssn = (ssn + 1) % 2 ^ 32 ∧ k.job = c.job ∧ k.mode = c.mode)) ∧
    (∀ pg, c.inPrint = true → c.laidOut.find? (fun pg => !pg.started) = some pg → pg.failed = false → c.startedPages.length ≤ 1 →
      let t := (c.runPlaneTest (pg.own c) pg.mask pg.pass).1
      ((c.runPlaneTest (pg.own c) pg.mask pg.pass).2 = false →
        Does (.pageStart dt) s (({ t with pages := updFirst (fun q => { q with failed := true, map := none }) t.pages }).occur 1360 0)) ∧
      ((c.runPlaneTest (pg.own c) pg.mask pg.pass).2 = true → t.windowsFit [(pg, 256)] = false →
        Does (.pageStart dt) s (if pg.noSpace then c else ({ t with pages := updFirst (fun q => { q with noSpace := true }) t.pages }).occur 1428 0)) ∧
      ((c.runPlaneTest (pg.own c) pg.mask pg.pass).2 = true → t.windowsFit [(pg, 256)] = true →
        let q := { pg with started := true, map := some (pg.own c), window := ((c.startedPages.getLast?.map (fun b => b.window + b.lines)).getD 0) % 256 }
        let u := ({ t with pages := updFirst (fun _ => q) t.pages }).installMap (pg.own c)
        let v := ((u.clearCarries.clearPlacement.wr0 Obj.CMD_QUEUE u.queued).wr0 Obj.OS_RUN 0).showPage
        Does (.pageStart dt) s (if c.startedPages = [] then (v.wr0 Obj.LA_MIN 0xFFFFFFFF).recomputeLA else v))) ∧
    ((c.inPrint = false ∨ c.laidOut.find? (fun pg => !pg.started) = none ∨ 1 < c.startedPages.length) → Does (.pageStart dt) s c) ∧
    (∀ l, c.measDue = l → c.pages = [] →
      Does (.measureAtCol dt) s (l.foldl (fun t x => (t.measRequest x.ports).jsRequest x.js) { c with measDue := [] }))) ∧
  (∀ (s : State) (dt ssn a : Nat) (b : List Byte) (pg : Page), let c := s.core.advance dt; let base := c.rd0 Obj.STAGE_BASE; let size := c.rd0 Obj.STAGE_SIZE;
    Memory.wf s.mem = true → c.recordReady 0x20 = some (b, ssn) → c.withinPage = true → c.openPage = some pg → c.stream.ended = none → base + size ≤ c.rd0 Obj.DRAM_SIZE → b.length ≤ size → c.stream.off < size → c.stream.put < b.length →
    hFirstCol b + hColCount b ≤ pg.lines → Tab.get 0 pg.done (hPlane b) = 0 →
    let r := Core.stageBursts b (b.length + 1) c s.mem; let n := r.1.stream.put;
    c.stream.put ≤ n ∧ n ≤ b.length ∧
    (r.2.2 = 0 → n < b.length → DoesBoth (.recordBlock dt 0 a) s (r.1.showDe0 true) r.2.1) ∧
    (r.2.2 = 0 → n = b.length → c.stream.bytes.length = 12 + c.frontRec.2.1 →
      ∃ k, DoesBoth (.recordBlock dt 0 a) s k r.2.1 ∧
        k.stage = c.stage ++ [(ssn, b.length, false)] ∧ k.stream.off = (c.stream.off + b.length) % size ∧ k.stream.put = 0 ∧ k.stream.ssn = (ssn + 1) % 2 ^ 32 ∧
        (∃ pg' ∈ k.pages, pg'.no = pg.no ∧ pg'.pass = pg.pass ∧
          pg'.blocks = pg.blocks ++ [⟨base + c.stream.off, b.length, hPlane b, hFirstCol b, hColCount b, hFirstNoz b, hNozCount b, ssn, false, false, false, false, false, []⟩])) ∧
    (r.2.2 = 1 → DoesBoth (.recordBlock dt 0 a) s (r.1.blockBus b.length ssn) r.2.1) ∧
    (∀ i, c.stream.put ≤ i → i < n → Memory.get r.2.1 (base + (c.stream.off + i) % size) = nth 0 b i) ∧
    (∀ z, (∀ i, i < n → c.stream.put ≤ i → z ≠ base + (c.stream.off + i) % size) → Memory.get r.2.1 z = Memory.get s.mem z))

/-- DMA_GRANT (R280, R282): an idle engine DE1 to DE7 takes the descriptor at HEAD of the channel arbitration picks, checks it, and the channel becomes
ACTIVE; other channels, other engines and everything else stay. DMA_DESCRIPTOR_END ends a descriptor that failed its checks with their status, one whose bytes
have all moved with OK, and the channel waits again while its ring holds descriptors. DMA_BUS_ERROR halts the channel at the failing address and holds its
engine (R285); at DE0.C00, within a page, the block under way is discarded and the stream is in error. An engine with nothing to take or to end does nothing.
Choices of the model it rests on: log entries 1, 7, 60, 69 and 70. -/
def Obligations.DmaChannelsTakeAndEndDescriptors : Prop :=
  ∀ (s : State) (dt g k : Nat), let c := s.core.advance dt; let x := c.dmaCh k;
    (1 ≤ g → g < 8 → c.dmaGrants = true → c.rd Obj.eng_ENG_STATE g 0 = 0 → c.pickCh g = some k →
      let e := c.rd Obj.DESC_RING k (c.rd Obj.dma_HEAD k 0)
      ∃ t, Does (.dmaGrant dt g) s t ∧ t.chState k = chActive ∧ (t.dmaCh k).desc = e ∧ (t.dmaCh k).fail = descStatus e ∧ (t.dmaCh k).row = 0 ∧ (t.dmaCh k).col = 0 ∧
        t.rd Obj.eng_ENG_STATE g 0 = 1 ∧ t.rd Obj.eng_ACTIVE_CH g 0 = k % 16 ∧ Tab.get 15 t.dmaLast g = k % 16 ∧
        (∀ i, i ≠ k → t.dmaCh i = c.dmaCh i) ∧
        (∀ o i j, o.key i j ∉ [Obj.dma_CH_STATE.key k 0, Obj.eng_ENG_STATE.key g 0, Obj.eng_ACTIVE_CH.key g 0] → t.rd o i j = c.rd o i j) ∧
        t = { c with objs := t.objs, dma := t.dma, dmaLast := t.dmaLast }) ∧
    (c.activeCh g = some k → c.chState k = chActive → (x.fail ≠ 0 ∨ x.finished = true) →
      let t := c.descEnd k (if x.fail ≠ 0 then x.fail else 1) chDisabled
      Does (.dmaDescriptorEnd dt g) s (if t.rdB Obj.dma_ENABLE k 0 then t.settleCh k else t)) ∧
    (∀ w, c.activeCh g = some k → c.chState k = chActive → x.fail = 0 → x.finished = false →
      Does (.dmaBusError dt g w) s (c.dmaHalt k (if w then (nextBurst x).2.1 else (nextBurst x).1) w)) ∧
    (∀ w b ssn, c.recordReady 0x20 = some (b, ssn) → c.withinPage = true → Does (.dmaBusError dt 0 w) s (c.blockBus b.length ssn)) ∧
    (c.pickCh g = none → Does (.dmaGrant dt g) s c) ∧ (c.activeCh g = none → Does (.dmaDescriptorEnd dt g) s c)

/-- DMA_BURST stores (R283, R284): in its engine's turn, where neither end fails, the destination bytes become the source's (or the pattern's), merged as the
destination's view says (R299), every other byte of memory keeps its value, the bytes count, a paced channel pays its tokens, the turn passes on, and the
channel stands after the burst. A bus error at an end halts the channel instead, and memory keeps every byte (R285). Out of its turn an engine issues nothing.
DMA_BURST (R283): a burst moves 1 to 256 bytes within one row and crosses no 256-byte boundary at either end, and the descriptor advances by just those bytes,
rows in turn. Choices of the model it rests on: log entries 1, 6, 7, 10, 70, 169 and 170. -/
def Obligations.DmaBurstMovesItsBytes : Prop :=
  (∀ (s : State) (dt g k a : Nat), let c := s.core.advance dt; let x := c.dmaCh k; let b := nextBurst x; let n := b.2.2.1; let u := ({ c with dmaTop := g }).collide b.2.1 0;
    Memory.wf s.mem = true → c.activeCh g = some k →
    (c.dmaTurn ≠ some g → DoesBoth (.dmaBurst dt g 0 a 0) s c s.mem) ∧
    (c.dmaTurn = some g → (dFill x.desc = true ∨ u.readFault ownDma b.1 n = 0) → u.writeFault ownDma b.2.1 n = 0 →
      let v := c.locate b.2.1
      ∃ t m, DoesBoth (.dmaBurst dt g 0 a 0) s t m ∧
        (∀ i, i < n → Memory.get m (v.2 + i) = v.1.merge (Memory.get s.mem (v.2 + i)) (nth 0 (c.burstBytes s.mem x b) i)) ∧
        (∀ z, z < v.2 ∨ v.2 + n ≤ z → Memory.get m z = Memory.get s.mem z) ∧
        t.rd Obj.dma_BYTES k 0 = (c.rd Obj.dma_BYTES k 0 + n) % 2 ^ 64 ∧
        (t.dmaCh k).row = (x.moved n).row ∧ (t.dmaCh k).col = (x.moved n).col ∧
        (c.rd Obj.dma_PACE_MODE k 0 = 0 → (t.dmaCh k).tokens = c.tokensOf k - 8 * n) ∧
        (∀ i, i ≠ k → t.dmaCh i = c.dmaCh i) ∧ t.chState k = chActive ∧
        t = { c with objs := t.objs, dma := t.dma, badWords := t.badWords, bumps := t.bumps, bumpAt := t.bumpAt, dmaTop := g }) ∧
    (c.dmaTurn = some g → dFill x.desc = false → u.readFault ownDma b.1 n = 1 →
      DoesBoth (.dmaBurst dt g 0 a 0) s ((u.violation ownDma b.1 n).dmaHalt k b.1 false) s.mem) ∧
    (c.dmaTurn = some g → (dFill x.desc = true ∨ u.readFault ownDma b.1 n = 0) → u.writeFault ownDma b.2.1 n = 1 →
      DoesBoth (.dmaBurst dt g 0 a 0) s ((u.violation ownDma b.2.1 n).dmaHalt k b.2.1 true) s.mem)) ∧
  (∀ x : DmaCh, x.col < dRowBytes x.desc →
    let b := nextBurst x
    1 ≤ b.2.2.1 ∧ b.2.2.1 ≤ 256 ∧ b.2.1 / 256 = (b.2.1 + b.2.2.1 - 1) / 256 ∧ (dFill x.desc = false → b.1 / 256 = (b.1 + b.2.2.1 - 1) / 256) ∧
    x.col + b.2.2.1 ≤ dRowBytes x.desc ∧
    (let y := x.moved b.2.2.1; y.row * dRowBytes x.desc + y.col = x.row * dRowBytes x.desc + x.col + b.2.2.1 ∧ y.col < dRowBytes x.desc))

/-! ### Spool and DRAM (ch. 11) -/

/-- Banks and tests (R293 to R295, R304 to R306, R312, R314): a hand-over's end gives the port to its new owner and completes the write; a quarantined bank
that has been cleared reads zero in every byte while every other byte stays, and a fixed bank is OWNED again, another UNASSIGNED; a sound region of Baste
moves the bank to its next region, an abandoned one is tried again, and none is tested before BASTE_PERIOD has passed; the DRAM scrub's end makes DRAM READY;
a refresh change stores the code, and DRAM_HOT is ACTIVE just while the rate is above nominal. What is not under way does nothing. Alias writes (R299): a
granted, aligned write through the set alias ORs its bits into the plain bytes, through the clear alias clears them; no other byte of memory changes, and
nothing else of the block but, at a dual-port bank, the count of collisions. The 16th collision in a row leaves memory as it is, as do an access that is not
granted, which is a violation, and an uncorrectable word, which is a memory error; one misaligned, of another width, in SAFE or through another view does
nothing. Choices of the model it rests on: log entries 1, 6, 7, 10, 72 and 73. -/
def Obligations.BanksAndAliasesAct : Prop :=
  (∀ (s : State) (dt b : Nat), let c := s.core.advance dt;
    (if c.handsOver b = true then
      let t : Core := { c with handing := Tab.erase c.handing b }
      Does (.bankHandoverDone dt b) s (if b < 50 then t.endComp Obj.SB_OWNER 0 b true else t.endComp Obj.SB_OWNER_B 0 (b - 50) true)
    else Does (.bankHandoverDone dt b) s c) ∧
    ((50 ≤ b ∨ c.bankState b ≠ bankQuarantined) → Does (.quarantineCleared dt b) s c) ∧
    (b < 50 → c.bankState b = bankQuarantined → Memory.wf s.mem = true →
      ∃ t m, DoesBoth (.quarantineCleared dt b) s t m ∧
        t.bankState b = (if bankFixed b then bankOwned else bankUnassigned) ∧
        (∀ a, Memory.get m a = if (bankSpan b).1 ≤ a ∧ a < (bankSpan b).1 + (bankSpan b).2 then 0 else Memory.get s.mem a) ∧
        (∀ w ∈ t.badWords, w ∈ c.badWords) ∧ (∀ w, (bankSpan b).1 / 8 ≤ w → w < ((bankSpan b).1 + (bankSpan b).2) / 8 → w ∉ t.badWords) ∧
        (∀ o i j, o.key i j ≠ Obj.SB_STATE.key 0 b → t.rd o i j = c.rd o i j) ∧ t = { c with objs := t.objs, badWords := t.badWords }) ∧
    (∀ ecc word ab fail, c.basteRuns b = false → Does (.basteRegion dt b ecc word ab fail) s c) ∧
    (∀ ecc word ab fail q, c.basteRuns b = true → Tab.get? c.basteAt b = some q → c.clk < q + ns (c.rd0 Obj.BASTE_PERIOD) → Does (.basteRegion dt b ecc word ab fail) s c) ∧
    (c.basteRuns b = true → (Tab.get? c.basteAt b).all (fun q => decide (q + ns (c.rd0 Obj.BASTE_PERIOD) ≤ c.clk)) = true → Tab.get 0 c.basteNext b + 1 < basteRegions b →
      (∀ word, (∀ w ∈ c.badWords, 8 * w < (bankSpan b).1 + 64 * Tab.get 0 c.basteNext b ∨ (bankSpan b).1 + 64 * Tab.get 0 c.basteNext b + 64 ≤ 8 * w) →
        ∃ t, Does (.basteRegion dt b 0 word false none) s t ∧ Tab.get 0 t.basteNext b = Tab.get 0 c.basteNext b + 1 ∧ Tab.get? t.basteAt b = some c.clk ∧
          (∀ q, q ≠ b → Tab.get 0 t.basteNext q = Tab.get 0 c.basteNext q) ∧ (∀ o i j, o.key i j ≠ Obj.SB_FLAGS.key 0 b → t.rd o i j = c.rd o i j) ∧
          t = { c with objs := t.objs, basteNext := t.basteNext, basteTries := t.basteTries, basteAt := t.basteAt }) ∧
      (∀ ecc word fail, Tab.get 0 c.basteTries b < 15 →
        ∃ t, Does (.basteRegion dt b ecc word true fail) s t ∧ Tab.get 0 t.basteTries b = Tab.get 0 c.basteTries b + 1 ∧ t.basteNext = c.basteNext ∧ Tab.get? t.basteAt b = some c.clk ∧
          (∀ o i j, o.key i j ≠ Obj.SB_FLAGS.key 0 b → t.rd o i j = c.rd o i j) ∧ t = { c with objs := t.objs, basteTries := t.basteTries, basteAt := t.basteAt })) ∧
    (c.rd0 Obj.DRAM_STATE = 2 →
      ∃ t, Does (.dramScrubDone dt) s t ∧ t.rd0 Obj.DRAM_STATE = 3 ∧ t.rd0 Obj.DRAM_SCRUB_POS = c.rd0 Obj.DRAM_SIZE % 2 ^ 64 ∧
        (∀ o i j, o.key i j ∉ [Obj.DRAM_STATE.key 0 0, Obj.DRAM_SCRUB_POS.key 0 0] → t.rd o i j = c.rd o i j) ∧ t = { c with objs := t.objs }) ∧
    (c.rd0 Obj.DRAM_STATE ≠ 2 → Does (.dramScrubDone dt) s c) ∧
    (∀ code above, Does (.dramRefreshChange dt code above) s (if c.dramUp then (c.wr0 Obj.DRAM_REFRESH code).level 1433 0 above else c))) ∧
  (∀ (s : State) (dt who addr width value coll : Nat) (clear : Bool),
    let i : Instr := if clear then .spoolBitClear dt who addr width value coll else .spoolBitSet dt who addr width value coll;
    let k : View := if clear then .bitClear else .bitSet;
    let c := s.core.advance dt; let n := width / 8; let p := (c.locate addr).2;
    let t := if bankDual (bankOf p) then c.inc Obj.SB_COLLISIONS 0 (bankOf p - 48) coll else c;
    ((c.running = false ∨ c.mode = .safe ∨ (c.locate addr).1 ≠ k ∨ [8, 16, 32, 64].contains width = false ∨ addr % n ≠ 0) → DoesBoth i s c s.mem) ∧
    (Memory.wf s.mem = true → c.running = true → c.mode ≠ .safe → (c.locate addr).1 = k → [8, 16, 32, 64].contains width = true → addr % n = 0 →
      (t.writeFault who addr n = 1 → DoesBoth i s (t.violation who addr n) s.mem) ∧
      (t.writeFault who addr n = 2 → DoesBoth i s (t.memError 2 addr) s.mem) ∧
      (t.writeFault who addr n = 0 → 16 ≤ coll → DoesBoth i s t s.mem) ∧
      (t.writeFault who addr n = 0 → coll < 16 →
        ∃ m, DoesBoth i s t m ∧ ∀ a, Memory.get m a = if p ≤ a ∧ a < p + n then
          (let old := Memory.get s.mem a; let v := nth 0 (leBytes n value) (a - p); if clear then old &&& ~~~v else old ||| v) else Memory.get s.mem a)))

/-! ### Motion (ch. 12) -/

/-- Axes are evaluated at their own instants (R322, R334): a servo tick not yet served evaluates the four set-point axes at its mark, in order, and each sends
its frame; a PWM boundary not yet served takes in what its axes sampled, evaluates them at its mark and starts their next period. A mark is served once. A
change of speed keeps its limits (R325, R327): without a jerk limit it is one step of acceleration of at most A that ends at just the speed asked for, in no
negative time; with one, from no acceleration, no acceleration exceeds A and no jerk J, and where A is reached the speed asked for is met exactly. Choices of
the model it rests on: log entries 1, 7, 16, 75, 87 and 154. -/
def Obligations.AxesAreEvaluatedAtTheirMarks : Prop :=
  (∀ (s : State) (dt f : Nat) (samples : List BridgeSample), let c := s.core.advance dt; let P := c.rd0 Obj.SERVO_PERIOD; let mark := c.ftNs / (Nat.max 1 P) * P; let k := c.pwmIndex f;
    c.running = true →
    (c.mot.servo.all (fun m => decide (m < mark)) = true →
      let u : Core := { c with mot := { c.mot with servo := some mark } }
      Does (.servoTick dt) s
        (((u.each [0, 1, 2, 3] (fun u a => u.evalAxis (mkRat mark 1000000000) a)).motionAfter).each [0, 1, 2, 3]
          (fun u a => u.sendSetpoint (mkRat mark 1000000000) (mkRat P 1000000000) a))) ∧
    ((Tab.get? c.mot.pwm f).all (fun j => decide (j < k)) = true →
      let l := (List.range 8).filter (fun n => decide (c.rd Obj.st_PWM_FREQ n 0 = f))
      let u : Core := { c with mot := { c.mot with pwm := Tab.set c.mot.pwm f k } }
      let v := u.each l (fun u n => match samples.find? (fun b => decide (b.st = n)) with | some b => u.sampled n b | none => u)
      Does (.pwmBoundary dt f samples) s
        (((v.each l (fun u n => u.evalAxis (mkRat (pwmAt f k) 1000000000) (4 + n))).motionAfter).each l Core.periodStart)) ∧
    (c.mot.servo = some mark → Does (.servoTick dt) s c) ∧ (Tab.get? c.mot.pwm f = some k → Does (.pwmBoundary dt f samples) s c)) ∧
  (∀ v a vT A J : Rat, 0 < A →
    (segsSpeed v (velRamp v a vT A 0) = vT ∧ ∀ g ∈ velRamp v a vT A 0, absRat g.a ≤ A ∧ g.j = 0 ∧ 0 ≤ g.dur) ∧
    (0 < J → (∀ g ∈ velRamp v 0 vT A J, absRat g.a ≤ A ∧ absRat g.j ≤ J) ∧
      (A * A ≤ J * absRat (vT - v) → segsSpeed v (velRamp v 0 vT A J) = vT)))

/-- Drive Link (R336): a STATUS not sound counts as missed; so does its absence at the deadline; the third in a row makes DL_LINK active and an enabled axis
FAULTED on its STOP ramp; a sound one stores the drive's position, flags and fault code and takes in the levels of HOME and LIM; its FAULT flag raises
DRIVE_FAULT, and a following error past FOLLOW_MAX raises FOLLOW_ERR. One that nothing waits for changes nothing. Choices of the model it rests on: log
entries 1, 7, 76, 85, 87, 154 and 173. -/
def Obligations.DriveLinkIsWatched : Prop :=
  ∀ (s : State) (dt d : Nat) (b : List Byte) (e : Bool), let c := s.core.advance dt; c.running = true → d < 4 →
    (c.armed .drive d = false → Does (.driveStatus dt d b e) s c) ∧
    (c.armed .drive d = true → c.statusValid d b e = false → Does (.driveStatus dt d b e) s (c.statusMissed d)) ∧
    (if c.due .drive d = true then Does (.driveStatusMissing dt d) s (c.statusMissed d) else Does (.driveStatusMissing dt d) s c) ∧
    ((c.statusMissed d).chans = c.chans ∧ (c.statusMissed d).src = c.src ∧
      ((c.statusMissed d).axis d).missed = (c.axis d).missed + 1 ∧ (c.statusMissed d).rd Obj.dl_DL_MISSED d 0 = (c.rd Obj.dl_DL_MISSED d 0 + 1) % 2 ^ 32 ∧
      (∀ a, a ≠ d → (c.statusMissed d).axis a = c.axis a) ∧ ∀ o i j, o.key i j ≠ Obj.dl_DL_MISSED.key d 0 → (c.statusMissed d).rd o i j = c.rd o i j) ∧
    (3 ≤ (c.axis d).missed → (c.srcRec (1476 + d)).active = false →
      (c.axSt d ≠ axDisabled → c.axSt d ≠ axSafeHeld →
        Does (.dlLink dt d) s ((((c.enterStop d axFaulted (1476 + d)).updAxis d (fun x => { x with plan := .stop })).level (1476 + d) 0 true).motionAfter)) ∧
      (c.axSt d = axDisabled ∨ c.axSt d = axSafeHeld → Does (.dlLink dt d) s (((c.setAxFlag d 0 false).level (1476 + d) 0 true).motionAfter))) ∧
    ((c.axis d).missed < 3 ∨ (c.srcRec (1476 + d)).active = true → Does (.dlLink dt d) s c) ∧
    (c.armed .drive d = true → c.statusValid d b e = true →
      let pos := signedOf 64 (leAt b 4 8)
      let t := ((c.updAxis d (fun x => { x with missed := 0 })).disarm .drive d).level (1476 + d) 0 false
      let u := ((t.wrI Obj.dl_ACT_POS d 0 pos).wr Obj.dl_DL_FLAGS d 0 (leAt b 1 1)).wr Obj.dl_FAULT_CODE d 0 (leAt b 16 2)
      let v := (u.homeInput d (bit (leAt b 1 1) 3)).limInput d (bit (leAt b 1 1) 4)
      let w := if bit (leAt b 1 1) 2 then v.occur (1480 + d) 0 else v
      (w.rd Obj.dl_FOLLOW_MAX d 0 = 0 ∨ (w.axis d).sent.length ≠ 2 → Does (.driveStatus dt d b e) s w.motionAfter) ∧
      (∀ p q, 0 < w.rd Obj.dl_FOLLOW_MAX d 0 → (w.axis d).sent = [p, q] →
        Does (.driveStatus dt d b e) s (if (pos - q).natAbs > w.rd Obj.dl_FOLLOW_MAX d 0 * 65536 then w.occur (1484 + d) 0 else w).motionAfter))

/-- Inputs of the stepper axes (R329, R323, R589): the first active edge of HOME in a search, active as INPUT_POL says, shifts the coordinate so that the
present position reads HOME_POS while the motor's own place stays, sets HOMED and stops the axis; any other change of HOME sets its flag alone; a LIM input
sets its flag and makes AX_LIMIT follow it. An axis at rest for HOLD_DELAY holds with its holding voltage (R340). Choices of the model it rests on: log
entries 1, 7, 76 and 175. -/
def Obligations.AxisInputsTakeEffect : Prop :=
  ∀ (s : State) (dt a : Nat), let c := s.core.advance dt; let x := c.axis a; let pol := bit (c.rd Obj.ax_INPUT_POL a 0) 0; c.running = true → 4 ≤ a → a < 12 →
    (bit (c.rd Obj.ax_AX_FLAGS a 0) 2 = false → c.axSt a = axHoming → x.home = 1 →
      ∃ k, Does (.homeEdge dt a pol) s k ∧ (k.axis a).x + (k.axis a).off = x.x + x.off ∧ (k.axis a).plan = .stop ∧ (k.axis a).home = 2 ∧
        (k.axis a).x = x.x + (c.rdI Obj.ax_HOME_POS a 0 - roundPos true x.x) ∧
        bit (k.rd Obj.ax_AX_FLAGS a 0) 0 = true ∧ bit (k.rd Obj.ax_AX_FLAGS a 0) 2 = true ∧ (∀ i, i ≠ a → k.axis i = c.axis i) ∧
        k = { c with objs := k.objs, mot := k.mot }) ∧
    (bit (c.rd Obj.ax_AX_FLAGS a 0) 2 = true ∨ c.axSt a ≠ axHoming ∨ x.home ≠ 1 → Does (.homeEdge dt a pol) s (c.setAxFlag a 2 true)) ∧
    (Does (.homeEdge dt a (!pol)) s (c.setAxFlag a 2 false)) ∧
    (Does (.limActive dt a) s (((c.setAxFlag a 3 true).level (1440 + a) 0 true).motionAfter)) ∧
    (Does (.limInactive dt a) s ((c.setAxFlag a 3 false).level (1440 + a) 0 false)) ∧
    (c.due .holdDelay (a - 4) = true → c.axSt a = axIdle → c.axisDone a = true →
      ∃ k, Does (.holdDelayExpiry dt (a - 4)) s k ∧ (k.axis a).hold = true ∧ (∀ i, i ≠ a → k.axis i = c.axis i) ∧ k.objs = c.objs ∧
        k = { c with mot := k.mot, timers := k.timers }) ∧
    (c.due .holdDelay (a - 4) = true → c.axSt a ≠ axIdle ∨ c.axisDone a = false → Does (.holdDelayExpiry dt (a - 4)) s (c.disarm .holdDelay (a - 4))) ∧
    (c.due .holdDelay (a - 4) = false → Does (.holdDelayExpiry dt (a - 4)) s c)

/-- Faults of the stepper outputs (R343 to R346): eight failing periods brake the axis with both low sides on; a failed reference, or four implausible
periods, puts a running axis on its STOP ramp in quiet mode; a desaturation turns the gates of an enabled axis off; a low gate supply turns off those of every
enabled axis; VBUS outside a limit for three periods is active. What has not come to its limit stops nothing. Choices of the model it rests on: log entries 1,
7, 79 and 88. -/
def Obligations.StepperFaultsStopTheirAxis : Prop :=
  ∀ (s : State) (dt n : Nat), let c := s.core.advance dt; c.running = true → n < 8 →
    (c.axRuns (4 + n) = true → (8 ≤ (c.axis (4 + n)).openA ∨ 8 ≤ (c.axis (4 + n)).openB) →
      Does (.phaseOpen dt n) s ((((((c.freeze (4 + n)).enterStop (4 + n) axBraked (1452 + n)).wr Obj.st_CUR_MODE n 0 0).bridge n).occur (1452 + n) 0).motionAfter)) ∧
    (∀ ra rb, (Tab.get? c.mot.sense n).all (fun t => decide (t + us (c.rd Obj.st_SENSE_TEST_PERIOD n 0) ≤ c.clk)) = true →
      let t : Core := { c with mot := { c.mot with sense := Tab.set c.mot.sense n c.clk } }
      Does (.senseReferenceTest dt n ra rb) s (if t.refReads n ra ∧ t.refReads n rb then t else t.senseFail n)) ∧
    (c.axRuns (4 + n) = true → (4 ≤ (c.axis (4 + n)).implA ∨ 4 ≤ (c.axis (4 + n)).implB) →
      Does (.sensePlausibilityFail dt n) s
        (((((c.enterStop (4 + n) axFallback (1460 + n)).updAxis (4 + n) (fun x => { x with plan := .stop, strongBarred := true, micro := none })).wr Obj.st_CUR_MODE n 0 0).occur (1460 + n) 0).motionAfter)) ∧
    (∀ g, g < 8 → c.axSt (4 + n) ≠ axDisabled → Does (.desaturation dt n g) s (((c.gatesOff n (1468 + n)).occur (1468 + n) 0).motionAfter)) ∧
    (Does (.vdrvUndervoltage dt) s
      (((c.each ((List.range 8).filter (fun n => decide (c.axSt (4 + n) ≠ axDisabled))) (fun t n => t.gatesOff n 1488)).level 1488 0 true).motionAfter)) ∧
    (3 ≤ (c.axis (4 + n)).ovRun → Does (.vbusFault dt n true) s ((c.level (1497 + n) 0 true).motionAfter)) ∧
    (3 ≤ (c.axis (4 + n)).uvRun → Does (.vbusFault dt n false) s ((c.level (1489 + n) 0 true).motionAfter)) ∧
    ((c.axis (4 + n)).openA < 8 → (c.axis (4 + n)).openB < 8 → Does (.phaseOpen dt n) s c) ∧
    ((c.axis (4 + n)).implA < 4 → (c.axis (4 + n)).implB < 4 → Does (.sensePlausibilityFail dt n) s c) ∧
    ((c.axis (4 + n)).ovRun < 3 → Does (.vbusFault dt n true) s c) ∧ ((c.axis (4 + n)).uvRun < 3 → Does (.vbusFault dt n false) s c) ∧
    (∀ g, c.axSt (4 + n) = axDisabled → Does (.desaturation dt n g) s c)

/-- The course of a Comet (R354, R358 to R360, R391): on the owner the collection's end decides; the back-up begins once the seam is complete, the axis at
rest and no SEAM_DONE missing; the resume begins once LA is high enough and no READY missing, or fails where the axis can not take it; a participant silent
for 1 s is COMET_FAIL's occurrence. Another controller reports its seam and its readiness once each, unless it is a standby. Outside PRINT, during a stop or
in another state of the Comet nothing but time passes. Comet messages (R354, R356, R358, R391): a delivered COMET frame of a subtype takes just that subtype's
effect on the block: on the owner a REQ's reach is collected, a SEAM_DONE and a READY for the present COMET_ID are noted against their sender's controller, an
ENLIST and a DELIST change the participants; on another controller GO fixes its seam and STATE is taken over. To whom a message is not addressed it changes
nothing more, and so does one of another subtype. Choices of the model it rests on: log entries 1, 7, 16, 90, 91, 92, 178, 179 and 180. -/
def Obligations.CometFollowsItsCourse : Prop :=
  (∀ (s : State) (dt : Nat), let c := s.core.advance dt;
    (c.inPrint = false ∨ c.stop ≠ none → Does (.cometCollectEnd dt) s c ∧ Does (.cometSeamComplete dt) s c ∧ Does (.cometResume dt) s c ∧ Does (.cometParticipantTimeout dt) s c) ∧
    (c.inPrint = true → c.stop = none →
      (if c.rd0 Obj.COMET_STATE = 1 ∧ c.comet.guest = false ∧ c.due .cometCollect 0 = true then Does (.cometCollectEnd dt) s (c.cometCollectEnd.motionAfter)
        else Does (.cometCollectEnd dt) s c) ∧
      (c.rd0 Obj.COMET_STATE ≠ 2 ∨ c.seamComplete = false → Does (.cometSeamComplete dt) s c) ∧
      (c.rd0 Obj.COMET_STATE = 2 → c.seamComplete = true →
        (c.comet.guest = true → c.comet.seamDone = true → Does (.cometSeamComplete dt) s c) ∧
        (c.comet.guest = true → c.comet.seamDone = false →
          let t : Core := { c with comet := { c.comet with seamDone := true } }
          Does (.cometSeamComplete dt) s (if c.isStandby then t else t.sendComet 5 0 (c.rd0 Obj.SEAM) 0 0)) ∧
        (c.comet.guest = false → (c.cometAtRest = false ∨ c.cometMissing 0 ≠ []) → Does (.cometSeamComplete dt) s c) ∧
        (c.comet.guest = false → c.cometAtRest = true → c.cometMissing 0 = [] → Does (.cometSeamComplete dt) s ((c.disarm .participant 0).cometBackUp))) ∧
      (c.rd0 Obj.COMET_STATE ≠ 4 ∨ c.resumeReady = false → Does (.cometResume dt) s c) ∧
      (c.rd0 Obj.COMET_STATE = 4 → c.resumeReady = true →
        (c.comet.guest = true → c.comet.readySent = true → Does (.cometResume dt) s c) ∧
        (c.comet.guest = true → c.comet.readySent = false →
          let t : Core := { c with comet := { c.comet with readySent := true } }
          Does (.cometResume dt) s (if c.isStandby then t else t.sendComet 3 0 0 0 0)) ∧
        (c.comet.guest = false → c.cometMissing 1 ≠ [] → Does (.cometResume dt) s (if c.armed .participant 1 then c else c.arm .participant 1 (sec 1))) ∧
        (c.comet.guest = false → c.cometMissing 1 = [] → c.cometAxis = none → Does (.cometResume dt) s ((c.setComet 0).occur 1523 0)) ∧
        (∀ a, c.comet.guest = false → c.cometMissing 1 = [] → c.cometAxis = some a →
          let sp := roundRat (c.comet.sigma * ((c.rd0 Obj.V_RES : Nat) : Rat) / c.cometScale)
          let t := (c.disarm .participant 1).setComet 5
          Does (.cometResume dt) s
            (if t.movable a = true ∧ sp.natAbs ≤ t.rd Obj.ax_V_MAX a 0 then
              ((((t.releaseHold).failMove a).updAxis a (fun x => { x with plan := .vel (sp : Rat) (t.velLimit a sp), res := 1, hold := false })).setAxSt a axMoving).motionAfter
            else (t.setComet 0).occur 1523 0))) ∧
      (c.comet.guest = true → Does (.cometParticipantTimeout dt) s c) ∧
      (c.comet.guest = false → c.due .participant 0 = true → c.cometMissing 0 ≠ [] → Does (.cometParticipantTimeout dt) s ((c.disarm .participant 0).occur 1523 0)) ∧
      (c.comet.guest = false → (c.due .participant 0 = false ∨ c.cometMissing 0 = []) → c.due .participant 1 = true → c.cometMissing 1 ≠ [] →
        Does (.cometParticipantTimeout dt) s ((c.disarm .participant 1).occur 1523 0)))) ∧
  (∀ (s : State) (dt k : Nat) (b : List Byte), let c := s.core.advance dt; let t := c.delivered k 0x12 b; let p := frPayload b; let n := t.cometPart (frSrc b);
    let noted (i : Nat) : Core := if t.cometOwner = true ∧ leAt p 4 4 = t.comet.id then { t with comet := { t.comet with parts := Tab.set t.comet.parts n (putBit (Tab.get 0 t.comet.parts n) i true) } } else t;
    c.Delivers k 0x12 b →
    (leAt p 0 1 = 1 → p.length = 32 → Does (.cometReqReceived dt k b) s (t.cometReq (frSrc b) p)) ∧
    (leAt p 0 1 = 2 → p.length = 32 → Does (.cometGoReceived dt k b) s (t.cometGo (frSrc b) p)) ∧
    (leAt p 0 1 = 3 → p.length = 32 → Does (.cometReadyReceived dt k b) s (noted 1)) ∧
    (leAt p 0 1 = 5 → p.length = 32 → Does (.cometSeamDoneReceived dt k b) s (noted 0)) ∧
    (leAt p 0 1 = 6 → p.length = 32 → t.cometOwner = true → frSrc b ≠ 0 →
      let planet := leAt p 8 4 % 4096
      let u : Core := { t with ring := { t.ring with moons := if planet = 0 then Tab.erase t.ring.moons (frSrc b) else Tab.set t.ring.moons (frSrc b) planet } }
      Does (.cometEnlistReceived dt k b) s (if t.enlisted.contains (frSrc b) then u else u.setParts (t.enlisted ++ [frSrc b]))) ∧
    (leAt p 0 1 = 6 → p.length = 32 → t.cometOwner = false ∨ frSrc b = 0 → Does (.cometEnlistReceived dt k b) s t) ∧
    (leAt p 0 1 = 7 → p.length = 32 →
      Does (.cometDelistReceived dt k b) s
        (if t.cometOwner = true then Core.setParts { t with ring := { t.ring with moons := Tab.erase t.ring.moons (frSrc b) } } (t.enlisted.filter (· ≠ frSrc b)) else t)) ∧
    (leAt p 0 1 = 4 → p.length = 32 → t.cometOwner = false → t.inPrint = true → leAt p 1 1 ≤ 5 → leAt p 1 1 ≠ 1 →
      let u := Core.wr0 { t with comet := { t.comet with id := leAt p 4 4, guest := true } } Obj.COMET_STATE (leAt p 1 1)
      Does (.cometStateReceived dt k b) s (if leAt p 1 1 = 5 then u.releaseHold else u.cometReadyCheck)) ∧
    (leAt p 0 1 = 4 → p.length = 32 → t.cometOwner = true ∨ t.inPrint = false → Does (.cometStateReceived dt k b) s t) ∧
    (p.length ≠ 32 → ∀ i ∈ ([.cometReqReceived dt k b, .cometGoReceived dt k b, .cometReadyReceived dt k b, .cometSeamDoneReceived dt k b, .cometEnlistReceived dt k b,
      .cometDelistReceived dt k b, .cometStateReceived dt k b] : List Instr), Does i s t))

/-! ### The ring and PTP (ch. 14) -/

/-- A ring port goes through the states of Table 14-3 (R377): block lock takes a LOCKING port to HELLO with 8 µs to be heard; a HELLO leaves every 2 µs on a
port that is not DOWN; a valid HELLO names the neighbour, and the third in a row from the other side of it brings the port UP; one from the same side is
KL_LINK and MISWIRED; one whose CRC fails counts as an error; another neighbour, lost lock or silence for 8 µs takes the port DOWN. In any other state nothing
but time passes. Choices of the model it rests on: log entries 1, 7, 97 and 181. -/
def Obligations.RingPortsGoThroughTheirStates : Prop :=
  ∀ (s : State) (dt k : Nat) (b : List Byte), let c := s.core.advance dt; let p := frPayload b; c.running = true → k < 2 →
    (c.rpState k = 1 →
      ∃ t, Does (.ringBlockLock dt k) s t ∧ t.rpState k = 2 ∧ t.armed .helloWait k = true ∧ (∀ o i j, o.key i j ≠ Obj.rp_LINK_STATE.key k 0 → t.rd o i j = c.rd o i j) ∧
        t = { c with objs := t.objs, timers := t.timers }) ∧
    (c.rpState k ≠ 1 → Does (.ringBlockLock dt k) s c) ∧
    (if c.rpState k ≠ 0 then Does (.ringLockLost dt k) s (c.ringDown k) else Does (.ringLockLost dt k) s c) ∧
    (if c.rpState k ≠ 0 ∧ c.due .helloWait k = true then Does (.helloTimeout dt k) s (c.ringDown k) else Does (.helloTimeout dt k) s c) ∧
    (c.ringEn k = true → 1 ≤ c.rpState k → (Tab.get? c.ring.helloAt k).all (fun t => decide (t + us 2 ≤ c.clk)) = true →
      ∃ t f at_, Does (.helloSendTimer dt k) s t ∧ t.out = ⟨.hello, k, [1, 0, at_], f⟩ :: (c.ringFlush k).out ∧ frOk f = true ∧ frType f = 1 ∧ frPayload f = c.helloPayload k ∧
        Tab.get? t.ring.helloAt k = some c.clk ∧ t.objs = c.objs) ∧
    (c.ringEn k = false ∨ c.rpState k = 0 → Does (.helloSendTimer dt k) s c) ∧
    (c.rpState k < 2 → Does (.helloReceived dt k b) s c) ∧
    (2 ≤ c.rpState k → frOk b = false → Does (.helloReceived dt k b) s ((c.inc Obj.rp_LINK_ERR k 1 1).updRing (fun r => { r with run := Tab.erase r.run k }))) ∧
    (2 ≤ c.rpState k → frOk b = true → helloOk b = false → Does (.helloReceived dt k b) s (c.updRing (fun r => { r with run := Tab.erase r.run k }))) ∧
    (2 ≤ c.rpState k → helloOk b = true →
      let other := bit (Tab.get 0 c.ring.heard k) 0 = true ∧ leAt p 4 8 ≠ c.rd Obj.rp_NEIGHBOUR_SERIAL k 0
      let t := (((c.wr Obj.rp_NEIGHBOUR k 0 (leAt p 0 2)).wr Obj.rp_NEIGHBOUR_SERIAL k 0 (leAt p 4 8)).arm .helloWait k (us 8)).updRing (fun r => { r with heard := Tab.set r.heard k 1 })
      (other → Does (.helloReceived dt k b) s (c.ringDown k)) ∧
      (¬other → leAt p 2 1 = k →
        let u := t.updRing (fun r => { r with run := Tab.erase r.run k })
        Does (.helloReceived dt k b) s (if c.rpState k = 2 then (u.wr Obj.rp_LINK_STATE k 0 4).occur (1536 + k) 0 else u)) ∧
      (¬other → leAt p 2 1 = 1 - k →
        let n := Tab.get 0 c.ring.run k + 1
        let v := t.updRing (fun r => { r with run := Tab.set r.run k n })
        let u := if k = 1 ∧ leAt p 16 4 ≠ 0 then v.applyDelay 1 (leAt p 16 4) else v
        Does (.helloReceived dt k b) s (if c.rpState k = 2 ∧ 3 ≤ n then u.ringUp k else u)))

/-- Every frame on an UP ring port is checked, sent on and delivered by one rule (R370, R372, R374), once the waiting frames whose turn has come are gone,
shown on TACK frames: a failed CRC counts, and a copy already begun ends aborted; one for another node goes on by the other port with one hop more and nothing
else happens; one that has gone all the way round goes no further; a second copy, and one of the controller's own, is not delivered; a Tack for every node is
delivered as well; a reserved TYPE counts. An aborted copy counts and is passed on as one. A frame sent on is the frame received but for its hops and CRC
(R370, R372): same type, flags, destination, source, SEQ, length, fragment and payload, one hop more, and its CRC is correct. Choices of the model it rests
on: log entries 1, 93, 94, 176 and 181. -/
def Obligations.RingFramesAreCheckedAndForwarded : Prop :=
  (∀ (s : State) (dt k : Nat) (b : List Byte), let c := s.core.advance dt; let f := (c.ringFlush 0).ringFlush 1; let on := if c.frForward b (c.frMine b none) then f.sendOn k b (frPayload b) else f;
    c.running = true → k < 2 → c.rd Obj.rp_LINK_STATE k 0 = 3 →
    (frOk b = false →
      Does (.tackFrameReceived dt k b) s (if c.frForward b (c.frMine b none) then (f.inc Obj.rp_LINK_ERR k 1 1).sendAborted k else f.inc Obj.rp_LINK_ERR k 1 1)) ∧
    (frOk b = true → frType b ≠ 0x11 → Does (.tackFrameReceived dt k b) s (if reservedType (frType b) then f.inc Obj.rp_LINK_ERR k 0 1 else f)) ∧
    (frOk b = true → frType b = 0x11 → (c.frMine b none = false ∨ c.firstCopy b = false ∨ frSrc b = c.rd0 Obj.NODE_ID) → Does (.tackFrameReceived dt k b) s on) ∧
    (c.Delivers k 0x11 b → Does (.tackFrameReceived dt k b) s ((c.delivered k 0x11 b).ringTackIn (frPayload b))) ∧
    Does (.abortedFrameReceived dt k) s ((c.inc Obj.rp_LINK_ERR k 2 1).sendAborted k)) ∧
  (∀ b : List Byte, frOk b = true → frHops b < 65535 →
    let f := frOnward b (frPayload b)
    frOk f = true ∧ frType f = frType b ∧ frFlags f = frFlags b ∧ frDst f = frDst b ∧ frSrc f = frSrc b ∧ frSeq f = frSeq b ∧ frLen f = frLen b ∧ frFrag f = frFrag b ∧
      frPayload f = frPayload b ∧ frHops f = frHops b + 1)

/-- Delivered ring messages take their type's effect (R378, R381, R393, R395, R396): JOIN, TOPO and FOLD; CAL and SWEEP commands and reports; a STREAM message
put together from its fragments. One that is not for this controller's part on the ring has none. Choices of the model it rests on: log entries 1, 96, 98, 101
and 183. -/
def Obligations.RingMessagesTakeEffect : Prop :=
  ∀ (s : State) (dt k : Nat) (b : List Byte), let c := s.core.advance dt; let p := frPayload b;
    (c.Delivers k 0x13 b → Does (.foldReceived dt k b) s ((c.delivered k 0x13 b).foldIn (frSrc b) p)) ∧
    (c.Delivers k 0x20 b → Does (.joinReceived dt k b) s ((c.delivered k 0x20 b).joinIn (frSrc b) p)) ∧
    (c.Delivers k 0x21 b → Does (.topoReceived dt k b) s ((c.delivered k 0x21 b).topoIn p)) ∧
    (c.Delivers k 0x22 b → let t := c.delivered k 0x22 b
      Does (.calCommandReceived dt k b) s (if p.length = 16 ∧ leAt p 0 1 = 1 ∧ t.isMaster = false then t.startMeasure (leAt p 4 4) else t) ∧
      Does (.calReportReceived dt k b) s
        (if p.length = 16 ∧ leAt p 0 1 = 2 ∧ t.isMaster = true then t.calNote (frSrc b) (leAt p 4 4) (if leAt p 1 1 = 0 then some (leAt p 8 4) else none) else t)) ∧
    (c.Delivers k 0x23 b → let t := c.delivered k 0x23 b
      Does (.sweepCommandReceived dt k b) s (if p.length = 16 ∧ leAt p 0 1 = 1 then t.sweepCommand (leAt p 4 4) (leAt p 8 8) else t) ∧
      (∀ j, p.length = 16 → leAt p 0 1 = 2 → t.isMaster = true → leAt p 4 4 = t.rd0 Obj.RING_SWEEP_ID → t.placeOf (frSrc b) = some j →
        Does (.sweepReportReceived dt k b) s ((t.wr Obj.RING_SWEEP_STATUS 0 j (if leAt p 1 1 = 0 then 2 else 4)).ringSweepLook)) ∧
      (p.length ≠ 16 ∨ leAt p 0 1 ≠ 2 ∨ t.isMaster = false → Does (.sweepReportReceived dt k b) s t)) ∧
    (∀ head payload crc : List Byte, b = head ++ payload ++ crc → c.Delivers k 0x32 b → let r := (c.delivered k 0x32 b).reassemble b
      (∀ m, r.1 = some m → Does (.streamFrameReceived dt k head payload crc) s (r.2.streamIn (frSrc b) m)) ∧
      (r.1 = none → Does (.streamFrameReceived dt k head payload crc) s r.2))

/-- The link delay (R380): the KE end of an UP link sends its sixteen requests 10 µs apart, noting when; the KW end answers a sound one with the request's
numbers and its own two instants, and nothing else of it changes but its frame counter and its port; a request whose CRC fails counts. A response adds half
the difference of the two round-trip times to the delays found, and the sixteenth ends the measurement. Choices of the model it rests on: log entries 1, 6, 98
and 181. -/
def Obligations.LinkDelayIsMeasured : Prop :=
  ∀ (s : State) (dt resid : Nat) (b : List Byte), let c := s.core.advance dt; let p := frPayload b; c.running = true →
    (c.originates = true → c.rpState 0 = 3 → c.ring.reqNext < 16 → (c.ring.reqNext = 0 ∨ c.ring.reqAt + us 10 ≤ c.clk) →
      ∃ t f at_, Does (.delayReqTimer dt) s t ∧ t.out = ⟨.delayReq, 0, [2, 0, at_], f⟩ :: (c.ringFlush 0).out ∧ leAt (frPayload f) 0 2 = c.ring.reqNext ∧ t.ring.reqNext = c.ring.reqNext + 1 ∧
        Tab.get? t.ring.t1 c.ring.reqNext = some c.stampNow ∧ t.objs = c.objs) ∧
    (c.originates = false ∨ c.rpState 0 ≠ 3 ∨ 16 ≤ c.ring.reqNext → Does (.delayReqTimer dt) s c) ∧
    (c.rpState 1 ≠ 3 → Does (.delayReqReceived dt b resid) s c) ∧
    (c.rpState 1 = 3 → frOk b = false → Does (.delayReqReceived dt b resid) s (c.inc Obj.rp_LINK_ERR 1 1 1)) ∧
    (c.rpState 1 = 3 → frOk b = true → frType b = 2 → frLen b = 16 → c.originates = true →
      ∃ t f at_, Does (.delayReqReceived dt b resid) s t ∧ t.out = ⟨.delayRsp, 1, [3, 0, at_], f⟩ :: (c.ringFlush 1).out ∧ frType f = 3 ∧ leAt (frPayload f) 0 2 = leAt p 0 2 ∧
        leAt (frPayload f) 4 4 = leAt p 4 4 ∧ t = { c with out := t.out, ringTx := t.ringTx, ring := { c.ring with queue := t.ring.queue, freeAt := t.ring.freeAt } }) ∧
    (∀ t1, c.rpState 0 = 3 → frOk b = true → frType b = 3 → frLen b = 32 → leAt p 4 4 = c.ring.calOf → Tab.get? c.ring.t1 (leAt p 0 2) = some t1 →
      let t2 : Int := ((leAt p 8 8 * 65536 + leAt p 16 2 : Nat) : Int)
      let t3 : Int := ((leAt p 20 8 * 65536 + leAt p 28 2 : Nat) : Int)
      let d : Rat := mkRat (((c.stampNow : Int) - t1) - (t3 - t2)) 131072
      let t := c.updRing (fun r => { r with t1 := Tab.erase r.t1 (leAt p 0 2), delays := d :: r.delays, out := r.out || decide (d < 0 ∨ 20000 < d) })
      Does (.delayRspReceived dt b) s (if c.ring.delays.length = 15 then t.delayDone else t)) ∧
    (c.rpState 0 = 3 → frOk b = false → Does (.delayRspReceived dt b) s (c.inc Obj.rp_LINK_ERR 0 1 1))

/-- Time on the ring (R382, R383, R387): a controller that leads sends SYNC every SYNC_PERIOD, and a Tack of its pacing source, latched for it unless one came
within 1,000 ns, every RING_TACK_PERIOD; a SYNC used sets the offset and lets 4 periods more pass, and lock follows; an old one is not used; none used for
that long loses the lock. The ring's timers (R372, R378, R381): messages not whole 1 ms after their first fragment go; a JOIN not answered in 10 ms is sent
again; the master sends TOPO again every 100 ms; 100 ms without a master is KL_NO_MASTER's occurrence; a calibration not reported in 1 ms has FAILED. One
whose time has not come does nothing. Choices of the model it rests on: log entries 1, 7, 93, 96, 99, 177 and 181. -/
def Obligations.RingTimeAndTimers : Prop :=
  (∀ (s : State) (dt : Nat), let c := s.core.advance dt;
    (c.leads = true → c.ring.syncAt.all (fun t => decide (t + ns (c.rd0 Obj.SYNC_PERIOD) ≤ c.clk)) = true →
      let st := c.rd0 Obj.FT_STATE
      Does (.syncSendTimer dt) s
        ((c.ringBoth 0x10 4095 (syncPayload c.ftQ (b2n c.ring.step + 2 * b2n (decide (st = 2)) + 4 * b2n (decide (st = 3))) 0 (c.rd0 Obj.TOPO_EPOCH))).updRing
          (fun r => { r with syncAt := some c.clk, step := false }))) ∧
    (∀ (k : Nat) (b : List Byte) (resid : Nat), c.running = true → k < 2 → c.rpState k = 3 → frOk b = true → frType b = 0x10 → (frPayload b).length = 32 → frSrc b ≠ c.rd0 Obj.NODE_ID →
      let p := frPayload b
      let dIn := c.rd Obj.rp_LINK_DELAY k 0
      let t := (c.rxFrame k 0x10 b none (fun p => p.take 12 ++ leBytes 8 (rawOf 64 (signedOf 64 (leAt p 12 8) + resid + dIn * 256)) ++ p.drop 20) id).learnMaster k (frSrc b) (frHops b) (leAt p 20 4)
      let fresh := t.ring.used.all (fun u => decide (u.1 ≠ frSrc b) || decide (0 < seqDist 32 (frSeq b) u.2))
      (t.isMaster = false → t.rd0 Obj.RING_STATE ≠ 4 → dIn ≠ 0 → fresh = true →
        Does (.syncReceived dt k b resid) s
          ((t.updRing (fun r => { r with used := some (frSrc b, frSeq b) })).useSync
            ((t.stampNow : Int) - (((leAt p 0 8 * 65536 + leAt p 8 2 : Nat) : Int) + signedOf 64 (leAt p 12 8) + dIn * 256)) (bit (leAt p 10 1) 0))) ∧
      (t.isMaster = true ∨ t.rd0 Obj.RING_STATE = 4 ∨ dIn = 0 ∨ fresh = false → Does (.syncReceived dt k b resid) s t)) ∧
    (c.running = true → c.due .syncWait 0 = true →
      Does (.syncLossTimeout dt) s (if c.rd0 Obj.FT_STATE = 1 then (c.disarm .syncWait 0).lockLost else c.disarm .syncWait 0)) ∧
    (c.running = false ∨ c.due .syncWait 0 = false → Does (.syncLossTimeout dt) s c) ∧
    (∀ src, c.leads = true → c.onRing = true → c.rd0 Obj.PACE_SRC = src → 1 ≤ src → src ≤ 9 → c.ring.tackAt.all (fun t => decide (t + ns (c.rd0 Obj.RING_TACK_PERIOD) ≤ c.clk)) = true →
      let t := c.updRing (fun r => { r with tackAt := some c.clk })
      let u := if src = 9 then t.latchCommanded t.ftQ
        else if (t.chan (src - 1)).lastTack.any (fun l => decide (t.ftQ < l + 1000 * 65536)) then t else t.latchTack (src - 1) t.ftQ
      (Tab.get [] u.tacks (src - 1) = [] → Does (.ringTackTimer dt) s u) ∧
      (∀ tk l, Tab.get [] u.tacks (src - 1) = tk :: l → Does (.ringTackTimer dt) s (u.ringBoth 0x11 4095 tk.bytes))) ∧
    (c.leads = false → Does (.syncSendTimer dt) s c ∧ Does (.ringTackTimer dt) s c)) ∧
  (∀ (s : State) (dt : Nat), let c := s.core.advance dt;
    (∃ t, Does (.fragmentTimeout dt) s t ∧ (∀ f, f ∈ t.ring.frags ↔ f ∈ c.ring.frags ∧ c.clk < f.since + ms 1) ∧ t = { c with ring := { c.ring with frags := t.ring.frags } }) ∧
    (∀ x, c.ring.joinAt = some x →
      Does (.joinRepeatTimer dt) s (if c.running = true ∧ x + ms 10 ≤ c.clk ∧ c.placeOf (c.rd0 Obj.NODE_ID) = none then c.sendJoin else c)) ∧
    (c.ring.joinAt = none → Does (.joinRepeatTimer dt) s c) ∧
    (∀ x, c.ring.topoAt = some x →
      Does (.topoRepeatTimer dt) s (if c.isMaster = true ∧ c.originates = true ∧ x + ms 100 ≤ c.clk ∧ 0 < c.rd0 Obj.TOPO_COUNT then c.sendTopo.ageBound false else c)) ∧
    (c.ring.topoAt = none → Does (.topoRepeatTimer dt) s c) ∧
    (Does (.noMasterTimeout dt) s (if c.running = true ∧ c.due .noMaster 0 = true then ((c.disarm .noMaster 0).wr0 Obj.RING_STATE 4).occur 1541 0 else c)) ∧
    (c.running = true → c.due .calReport 0 = true →
      Does (.calReportTimeout dt) s
        (if c.rd0 Obj.CAL_STATE = 1 then ((c.disarm .calReport 0).wr0 Obj.CAL_STATE 3).endComp Obj.CAL_REQ 0 0 false else c.disarm .calReport 0)) ∧
    (c.running = false ∨ c.due .calReport 0 = false → Does (.calReportTimeout dt) s c))

/-- Fault blocks (R389, R390): one whose CRC fails counts; a STOP or FAULT block of another node, or of one without a number, is an occurrence of
KL_REMOTE_STOP the first time it is met and never again, and goes on by the other port at most four times per direction; one of another kind, and the
controller's own, go no further. Choices of the model it rests on: log entries 1, 102 and 181. -/
def Obligations.FaultBlocksStopOnce : Prop :=
  ∀ (s : State) (dt k : Nat) (b : List Byte), let c := s.core.advance dt; let w := leAt b 0 5; let org := w % 4096; let fseq := w / 65536 % 256;
    c.running = true → k < 2 → c.rpState k = 3 →
    (b.length ≠ 7 ∨ leAt b 5 2 ≠ Crypto.crc16 0x1021 (b.take 5) 0xFFFF → Does (.faultBlockReceived dt k b) s (c.inc Obj.rp_LINK_ERR k 3 1)) ∧
    (b.length = 7 → leAt b 5 2 = Crypto.crc16 0x1021 (b.take 5) 0xFFFF →
      ((w / 4096 % 16 ≠ 1 ∧ w / 4096 % 16 ≠ 2) ∨ w / 2 ^ 24 ≠ 0 ∨ (org = c.rd0 Obj.NODE_ID ∧ org ≠ 0) → Does (.faultBlockReceived dt k b) s c) ∧
      ((w / 4096 % 16 = 1 ∨ w / 4096 % 16 = 2) → w / 2 ^ 24 = 0 → (org ≠ c.rd0 Obj.NODE_ID ∨ org = 0) →
        let on := fun (t : Core) => if t.upPorts.contains (1 - k) then t.emit .faultBlock (1 - k) [] b else t
        let note := fun (n : Nat) => c.updRing (fun r => { r with blocks := ((org, fseq, k, n + 1) ::
          r.blocks.filter (fun x => !decide (x.1 = org ∧ x.2.1 = fseq ∧ x.2.2.1 = k))).take 64 })
        let here := c.ring.blocks.find? (fun x => decide (x.1 = org ∧ x.2.1 = fseq ∧ x.2.2.1 = k))
        (c.ring.blocks.any (fun x => decide (x.1 = org ∧ x.2.1 = fseq)) = false → Does (.faultBlockReceived dt k b) s ((on (note 0)).occur 1543 0)) ∧
        (c.ring.blocks.any (fun x => decide (x.1 = org ∧ x.2.1 = fseq)) = true → here = none → Does (.faultBlockReceived dt k b) s (on (note 0))) ∧
        (∀ n, here = some (org, fseq, k, n) → Does (.faultBlockReceived dt k b) s (if n < 4 then on (note n) else note n))))

/-- PTP (R386): on a lane and domain that disciplines this controller, an Announce that is the first, the present grandmaster's or a better one's is taken and
its loss interval begins; a Sync stores the error: the first after a reset, with nobody printing and FT behind, steps FT forward to the PTP time, another
trims, and after sixteen close ones FT follows PTP; a lost grandmaster leaves HOLDOVER in PRINT, FREE outside it. Choices of the model it rests on: log
entries 1, 4, 89 and 100. -/
def Obligations.PtpDisciplinesTime : Prop :=
  ∀ (s : State) (dt lane domain : Nat), let c := s.core.advance dt;
    (∀ rank iv, let gm := (rank.drop 6).take 8; let same := decide ((c.ptp.best.drop 6).take 8 = gm)
      (c.ptpOn lane domain = true → (c.ptp.best = [] ∨ same = true ∨ bytesLess rank c.ptp.best = true) →
        Does (.ptpAnnounceReceived dt lane domain rank iv) s
          ((Core.wr0 { c with ptp := { c.ptp with best := rank, good := if same then c.ptp.good else 0 } } Obj.PTP_GM (ofLe gm)).arm .ptpAnnounce 0 (3 * ns iv))) ∧
      (c.ptpOn lane domain = false ∨ (c.ptp.best ≠ [] ∧ same = false ∧ bytesLess rank c.ptp.best = false) → Does (.ptpAnnounceReceived dt lane domain rank iv) s c)) ∧
    (∀ time delay, let e : Int := (c.ftQ : Int) - ((time + delay) / 65536 + c.rdI Obj.PTP_OFFSET_NS 0 0) * 65536; let t := c.wrI Obj.PTP_ERR 0 0 (satS 32 (roundDiv e 65536))
      (c.ptpOn lane domain = false ∨ c.ptp.best = [] → Does (.ptpSyncReceived dt lane domain time delay) s c) ∧
      (c.ptpOn lane domain = true → c.ptp.best ≠ [] → c.ptp.adopted = false → t.ringPrints = false →
        let u : Core := { t with ptp := { c.ptp with adopted := true, good := 0 } }
        Does (.ptpSyncReceived dt lane domain time delay) s (if e < 0 then (u.stepFtQ (-e).toNat).updRing (fun r => { r with step := u.isMaster }) else u.ptpTrim)) ∧
      (c.ptpOn lane domain = true → c.ptp.best ≠ [] → (c.ptp.adopted = true ∨ t.ringPrints = true) →
        let n := if e.natAbs ≤ 100 * 65536 then c.ptp.good + 1 else 0
        let u := Core.ptpTrim { t with ptp := { c.ptp with good := n } }
        Does (.ptpSyncReceived dt lane domain time delay) s (if 16 ≤ n then Core.wr0 { u with ptp := { u.ptp with adopted := true } } Obj.FT_STATE 2 else u))) ∧
    (c.running = true → c.due .ptpAnnounce 0 = true →
      let t := Core.disarm { c with ptp := { c.ptp with best := [], good := 0 } } .ptpAnnounce 0
      Does (.ptpAnnounceTimeout dt) s (if c.rd0 Obj.FT_STATE ≠ 2 then t else if c.inPrint then (t.wr0 Obj.FT_STATE 3).occur 619 0 else t.wr0 Obj.FT_STATE 0)) ∧
    (c.running = false ∨ c.due .ptpAnnounce 0 = false → Does (.ptpAnnounceTimeout dt) s c)

/-! ### Pairs (ch. 15) -/

/-- Records of the active member take their effect on a standby (R406 to R411, R419), once their SEQ is noted: one that follows the last without a gap changes
only what its type carries; a gap counts, is an occurrence of S1556 and asks for a new snapshot. No record acts on a controller that is no standby. Choices of
the model it rests on: log entries 1, 9, 48, 51, 95 and 159. -/
def Obligations.MirrorRecordsActOnTheStandby : Prop :=
  ∀ (s : State) (dt seq : Nat), let c := s.core.advance dt; let t := c.rxMirror seq; (c.isStandby = false ∨ c.running = false →
      (∀ j fired lost ds, Does (.mirrorColumn dt seq j fired lost ds) s c) ∧ (∀ p b, Does (.mirrorThimble dt seq p b) s c) ∧ (∀ e, Does (.mirrorSwitch dt seq e) s c)) ∧
    (c.isStandby = true → c.running = true →
    ((c.pair.rxSeq = none ∨ c.pair.rxSeq.any (fun q => decide ((q + 1) % 2 ^ 32 = seq)) = true) → t = { c with pair := { c.pair with rxSeq := some seq, lastRec := some c.clk, silenced := 0 } }) ∧
    (∀ q, c.pair.rxSeq = some q → (q + 1) % 2 ^ 32 ≠ seq →
      t = ((Core.inc0 { c with pair := { c.pair with rxSeq := some seq, lastRec := some c.clk, silenced := 0 } } Obj.MIRROR_GAPS).occur 1556 0).syncReq) ∧
    (∀ j fired lost ds, Does (.mirrorColumn dt seq j fired lost ds) s (t.each t.shared (fun t p => t.takeColumn j fired lost ds p))) ∧
    (∀ first b, Does (.mirrorThermal dt seq first b) s (t.takeThermal first b)) ∧
    (∀ j tf st cid seam dg, Does (.mirrorEphem dt seq j tf st cid seam dg) s (t.refreshDigest.ephemRecord j tf st cid seam dg)) ∧
    (∀ j ssn d la pg, Does (.mirrorStream dt seq j ssn d la pg) s { t with pair := { t.pair with stream := [j, ssn, d, la, pg] } }) ∧
    (∀ ref es, Does (.mirrorMap dt seq ref es) s
      ((es.filter (fun e => t.sharedPort (e.1 / 1024))).foldl (fun t e => t.mirrorChange ref false e.1 e.2 [e.1 / 1024]) t)) ∧
    (∀ ref flags, Does (.mirrorDry dt seq ref flags) s (t.mirrorChange ref true 0 flags t.shared)) ∧
    (∀ p b, p < 64 → Does (.mirrorThimble dt seq p b) s ((t.adoptThim p (thimOfBody b)).mirror 0x81 0 seq [])) ∧
    (∀ p b, 64 ≤ p → Does (.mirrorThimble dt seq p b) s t) ∧
    (∀ n b, Does (.mirrorMeas dt seq n b) s (t.takeMeasRec n b)) ∧
    (∀ id kind last o b, Does (.mirrorSnap dt seq id kind last o b) s (t.snapRecord id kind last o b)) ∧
    (∀ e, Does (.mirrorSwitch dt seq e) s ((t.wr0 Obj.PAIR_EPOCH e).takeStart t.colNext)))

/-- The active member's side (R406, R408, R410, R412): an ACK of the standby releases just the commits that wait for it; a SYNC_REQ is answered with the
snapshot; a STANDBY record of readiness is noted, the first one that is not ready is PAIR_LOST's occurrence; its own timers send EPHEM and STREAM, and with
them the next paced record (R407); 5 ms without a STANDBY record is that occurrence once. A standby sends its readiness; an ACK that does not come in time
lets the commit go on; the active member's silence acts once on a standby in PRINT. Choices of the model it rests on: log entries 1, 7, 48, 49, 51, 52, 159
and 182. -/
def Obligations.ActiveMemberMirrorsAndListens : Prop :=
  ∀ (s : State) (dt : Nat), let c := s.core.advance dt;
    (c.isPairActive = true → c.running = true →
      (∀ ref, Does (.mirrorAck dt ref) s
        (c.each (c.shared.filter (fun p => (c.port p).thim.mirrorWait && decide ((c.port p).thim.mirrorSeq = ref))) (fun t p => (t.disarm .thimbleAck p).thimSend p))) ∧
      (∀ id, Does (.mirrorSyncReq dt id) s (c.snapshot id)) ∧
      (∀ n, let u := Core.wr0 { c with pair := { c.pair with standbyAt := some c.clk, standbyLost := decide (n ≠ 0) } } Obj.PARTNER_READY n
        let v := if bit n 1 then u else u.wr0 Obj.PARTNER_DIGEST (u.rd0 Obj.PAIR_DIGEST)
        Does (.mirrorStandby dt n) s (if n ≠ 0 ∧ c.pair.standbyLost = false then v.occur 1555 0 else v)) ∧
      Does (.mirrorEphemTimer dt) s c.refreshDigest.sendEphem.mirrorPump ∧
      Does (.mirrorStreamTimer dt) s c.sendStreamRec.mirrorPump ∧
      Does (.standbyRecordTimeout dt) s (if c.olderThan c.pair.standbyAt (ms 5) = true ∧ c.pair.standbyLost = false then
        Core.occur { c with pair := { c.pair with standbyLost := true } } 1555 0 else c)) ∧
    (c.isPairActive = false ∨ c.running = false →
      (∀ ref, Does (.mirrorAck dt ref) s c) ∧ (∀ id, Does (.mirrorSyncReq dt id) s c) ∧ (∀ n, Does (.mirrorStandby dt n) s c) ∧ Does (.mirrorEphemTimer dt) s c ∧
      Does (.mirrorStreamTimer dt) s c ∧ Does (.standbyRecordTimeout dt) s c) ∧
    (∀ pp, c.isStandby = true → c.running = true →
      Does (.standbyRecordTimer dt pp) s ((c.refreshDigest.setNotReady (c.refreshDigest.notReady pp)).mirror 0x83 0 (c.refreshDigest.notReady pp) (leBytes 4 0))) ∧
    (∀ p, let t := c.disarm .thimbleAck p
      Does (.thimbleAckWaitTimeout dt p) s (if c.due .thimbleAck p = true then (if (c.port p).thim.mirrorWait = true then (t.occur 1556 0).thimSend p else t) else c)) ∧
    (let dead := c.olderThan c.pair.lastAccept (ns (c.rd0 Obj.PAIR_SILENCE)); let n := if dead then 2 else 1
     let t : Core := { c with pair := { c.pair with silenced := n } }
     Does (.pairSilenceExpiry dt) s
       (if c.silent = true ∧ c.isStandby = true ∧ c.inPrint = true ∧ c.pair.silenced < n then
         (if dead then t.takeDecide 2 else (t.occur 1556 0).setNotReady (putBit (t.rd0 Obj.NOT_READY) 0 true)) else c))

/-! ### The Fenax Object Protocol (ch. 16) -/

/-- OPEN (R429): proved by the role's key, it takes the lowest free handle; the session is PENDING for 1 s, its next SEQ is 1, its key is derived from both
nonces, its MAX_MSG is the lesser of the host's and 8,952; the answer, under the role's key, carries handle, MAX_MSG, SESSION_IDLE and the device's nonce.
What does not deserve an answer in its session (R424, R427, R430, R431, R448): before CONFIG, BUSY untagged; no such session, NO_SESSION; another address than
the session's, discarded and counted; a TAG that is wrong, counted and FOP_AUTH raised. None of them changes memory. Shown on KEEPALIVE. Choices of the model
it rests on: log entries 1, 4, 5 and 129. -/
def Obligations.SessionsAreOpened : Prop :=
  (∀ (s : State) (dt role maxMsg nonce h : Nat) (e : FopEnv) (key : List Byte), let c := s.core.advance dt; let b := ReqBody.opn role maxMsg nonce
    c.running = true → c.configReached = true → e.node < 4095 → c.targetsMe e = true → role < 256 → maxMsg < 65536 → nonce < 2 ^ 128 → c.roleKey role = some key → tagOk key e b = true →
    e.session = 0 → e.seq = 0 → 512 ≤ maxMsg → (c.sess.filter (fun p => decide (p.2.st ≠ 0))).length < 16 → (c.sess.filter (fun p => decide (p.2.st = 1))).length < 4 →
    1 ≤ h → h ≤ 16 → (c.session h).st = 0 → (∀ k < h, 1 ≤ k → (c.session k).st ≠ 0) → c.armed .commandReset 0 = false → e.lane < 2 →
    let nd := c.draw.1
    let top := Nat.min maxMsg 8952
    ∃ k, Does (.fopOpen dt e role maxMsg nonce) s k ∧
      k.session h = { st := 1, role := role, maxMsg := top, n := 1, lane := e.lane, ip := e.ip, port := e.port, evLane := e.lane, evIp := e.ip, evPort := e.port, key := sessionKey key (leBytes 16 nonce) nd h } ∧
      (∀ j, j ≠ h → k.session j = c.session j) ∧ Tab.get? k.timers (timerKey .sessionPending h) = some (c.clk + ms 1000) ∧
      k.out = ⟨.fopReply, e.lane, [(e.ip : Int), (e.port : Int)],
        taggedMessage (some key) 1 1 e.node e.serial 0 0 (leBytes 4 okC ++ leBytes 4 0 ++ (leBytes 2 h ++ leBytes 2 top ++ leBytes 4 (c.rd0 Obj.SESSION_IDLE) ++ nd))⟩ :: c.out ∧
      k = { c with sess := k.sess, timers := k.timers, out := k.out, freeCount := c.freeCount + 1, lastStatus := okC }) ∧
  (∀ (s : State) (dt : Nat) (e : FopEnv), let c := s.core.advance dt; let q := c.session e.session
    c.running = true → e.node < 4095 → e.lane < 2 → c.armed .commandReset 0 = false →
    (c.configReached = false → ∃ k m, Does (.fopKeepalive dt e) s k ∧ k.out = ⟨.fopReply, e.lane, [(e.ip : Int), (e.port : Int)], m⟩ :: c.out ∧ leAt m 24 4 = busyC ∧
      10000 ≤ leAt m 28 4 ∧ leAt m 28 4 ≤ 2500000 ∧ bit (leAt m 4 2) 1 = true ∧ k = { c with out := k.out, freeCount := c.freeCount + 1, lastStatus := busyC }) ∧
    (c.configReached = true → c.targetsMe e = true → (e.session = 0 ∨ 16 < e.session ∨ q.st = 0) → Does (.fopKeepalive dt e) s (c.noSession e 3)) ∧
    (c.configReached = true → c.targetsMe e = true → 1 ≤ e.session → e.session ≤ 16 → q.st ≠ 0 → (q.ip ≠ e.ip ∨ q.port ≠ e.port) → Does (.fopKeepalive dt e) s (c.inc Obj.FOP_DISCARDS 0 2 1)) ∧
    (c.configReached = true → c.targetsMe e = true → 1 ≤ e.session → e.session ≤ 16 → q.st ≠ 0 → q.ip = e.ip → q.port = e.port → tagOk q.key e .keepalive = false →
      c.armed .fopAuth 0 = true → c.due .fopAuth 0 = false → Does (.fopKeepalive dt e) s (c.inc Obj.FOP_DISCARDS 0 1 1)))

/-- CLOSE, KEEPALIVE, DESCRIBE, SUBSCRIBE and the sequence requests in their turn (R431, R435, R441, R443, R445): each is answered OK with what its rule says
it answers, and changes no more than that: SUBSCRIBE the session's mask; TXN_BEGIN opens a sequence with the next TXN_ID and a lease of 2 s; TXN_COMMIT
applies every staged write or none; TXN_ABORT drops them. Choices of the model it rests on: log entries 1, 5, 133, 135 and 184. -/
def Obligations.SessionRequestsAreAnswered : Prop :=
  ∀ (s : State) (dt : Nat) (e : FopEnv), let t := s.core.advance dt; let c := s.core.atTurn dt e; let q := c.session e.session; let h := e.session
    (t.Takes e .close → Answers (.fopClose dt e) s dt {} e .close okC 0 [] c s.mem) ∧
    (t.Takes e .keepalive → Answers (.fopKeepalive dt e) s dt {} e .keepalive okC 0 [] c s.mem) ∧
    (∀ idx sub d, idx < 65536 → sub < 65536 → t.Takes e (.describe idx sub) → c.describe idx sub = some d →
      Answers (.fopDescribe dt e idx sub) s dt {} e (.describe idx sub) okC (c.infoOf idx sub) d c s.mem) ∧
    (∀ mask, mask < 32 → t.Takes e (.subscribe mask) →
      Answers (.fopSubscribe dt e mask) s dt {} e (.subscribe mask) okC (nextSeq32 q.evSeq) [] { c with sess := Tab.set c.sess h { q with mask := mask } } s.mem) ∧
    (t.Takes e .txnBegin → q.role ≠ 0 → c.mode ≠ .safe → q.txn = none → (c.sess.filter (fun p => p.2.txn.isSome)).length < 4 →
      let id := (c.txnId + 1) % 2 ^ 32
      Answers (.txnBegin dt e) s dt {} e .txnBegin okC id []
        { c with txnId := id, sess := Tab.set c.sess h { q with txn := some { id := id } }, timers := Tab.set c.timers (timerKey .txnLease h) (c.clk + ms 2000) } s.mem) ∧
    (∀ x, let r := commitAll {} ⟨h, q.role⟩ (c.dropTxn h) s.mem x.staged
      t.Takes e .txnCommit → q.role ≠ 0 → c.mode ≠ .safe → q.txn = some x → r.code ≠ busyC →
      Answers (.txnCommit dt e) s dt {} e .txnCommit r.code 0 (leBytes 2 r.failIdx ++ leBytes 2 r.failSub) r.core r.mem) ∧
    (t.Takes e .txnCommit → q.role ≠ 0 → c.mode = .safe → Answers (.txnCommit dt e) s dt {} e .txnCommit stateC 0 (leBytes 4 0) c s.mem) ∧
    (∀ x, t.Takes e .txnAbort → q.role ≠ 0 → q.txn = some x → Answers (.txnAbort dt e) s dt {} e .txnAbort okC 0 [] (c.dropTxn h) s.mem)

/-- Reads in their turn (R435, R439, R468): the value of a run of an object, whole or its first segment with the value kept for the rest; the registers of the
raw window; the bytes from MEM_ADDR on, as many as are mapped and granted. A read changes no object. Choices of the model it rests on: log entries 1, 4, 5,
71, 133, 138 and 153. -/
def Obligations.ReadsAnswerTheValue : Prop :=
  ∀ (s : State) (dt : Nat) (e : FopEnv), let t := s.core.advance dt; let c := s.core.atTurn dt e; let q := c.session e.session; let h := e.session
    (∀ idx sub count o i j, let b := ReqBody.read idx sub count 0 0 0; let d := (List.range count).flatMap (fun k => c.valueBytes o i (j + k))
      idx < 65536 → sub < 65536 → count < 65536 → t.Takes e b → 0x1000 ≤ idx → inWindow idx = false → objectAt idx sub = some (o, i, j) → 1 ≤ count →
      (count = 1 ∨ (o.isArray = true ∧ j + count ≤ o.nsub)) → o.same Obj.MEM_DATA = false → o.readsFree = false →
      (d.length ≤ q.maxMsg - 80 → Answers (.fopRead dt e idx sub count 0 0 0) s dt {} e b okC (c.infoOf idx sub)
        (leBytes 2 idx ++ leBytes 2 sub ++ leBytes 2 count ++ leBytes 2 0 ++ leBytes 4 0 ++ leBytes 4 d.length ++ d) (c.setSnap h none) s.mem) ∧
      (q.maxMsg - 80 < d.length → c.bufferBytes h true + d.length ≤ 2097152 → Answers (.fopRead dt e idx sub count 0 0 0) s dt {} e b okC (c.infoOf idx sub)
        (leBytes 2 idx ++ leBytes 2 sub ++ leBytes 2 count ++ leBytes 2 0 ++ leBytes 4 0 ++ leBytes 4 d.length ++ d.take (q.maxMsg - 80)) (c.setSnap h (some ⟨idx, sub, count, d⟩)) s.mem)) ∧
    (∀ idx sub count off z, let b := ReqBody.read idx sub count 0 0 off; let part := (z.data.drop off).take (q.maxMsg - 80)
      idx < 65536 → sub < 65536 → count < 65536 → off < 2 ^ 32 → t.Takes e b → 0 < off → q.snap = some z → z.idx = idx → z.sub = sub → z.count = count → off < z.data.length →
      Answers (.fopRead dt e idx sub count 0 0 off) s dt {} e b okC (c.infoOf idx sub)
        (leBytes 2 idx ++ leBytes 2 sub ++ leBytes 2 count ++ leBytes 2 0 ++ leBytes 4 off ++ leBytes 4 z.data.length ++ part)
        (c.setSnap h (if off + part.length = z.data.length then none else some z)) s.mem) ∧
    (∀ reg count width lane, let idx := 0xA000 + reg / 65536; let sub := reg % 65536; let b := ReqBody.read idx sub count width lane 0; let d := c.rawRead idx sub count width lane
      reg < 2 ^ 28 → count < 65536 → width < 256 → lane < 256 → t.Takes e b → rawForm idx sub count width lane = 0 → d.length ≤ q.maxMsg - 80 → objectAt idx sub = none →
      Answers (.rawWindowRead dt e reg count width lane) s dt {} e b okC (c.infoOf idx sub)
        (leBytes 2 idx ++ leBytes 2 sub ++ leBytes 2 count ++ leBytes 2 0 ++ leBytes 4 0 ++ leBytes 4 d.length ++ d) (c.setSnap h none) s.mem) ∧
    (let a := c.rd0 Obj.MEM_ADDR; let b := ReqBody.read Obj.MEM_DATA.idx Obj.MEM_DATA.sub 1 0 0 0; let d := Memory.read s.mem (c.locate a).2 c.memSpan
      t.Takes e b → c.memReadCode = 0 → d.length ≤ q.maxMsg - 80 →
      Answers (.memDataRead dt e 0 0 0) s dt {} e b okC (c.infoOf Obj.MEM_DATA.idx Obj.MEM_DATA.sub)
        (leBytes 2 Obj.MEM_DATA.idx ++ leBytes 2 Obj.MEM_DATA.sub ++ leBytes 2 1 ++ leBytes 2 0 ++ leBytes 4 0 ++ leBytes 4 d.length ++ d) (c.setSnap h none) s.mem)

/-- Writes of elements in their turn (R436, R440, R441, R470): a whole value outside a sequence passes every check of its elements and is stored and takes
effect; inside the session's own sequence it is staged; the first segment of a longer value is kept for the rest; so do a write of the raw window and one of
MEM_DATA, whose bytes, where the requester reaches them, are stored from MEM_ADDR on. Choices of the model it rests on: log entries 1, 5, 83, 134, 135, 137
and 188. -/
def Obligations.WritesStoreOrStage : Prop :=
  ∀ (s : State) (dt : Nat) (e : FopEnv), let t := s.core.advance dt; let c := s.core.atTurn dt e; let q := c.session e.session; let h := e.session; let p := c.setPart h none
    let done := leBytes 2 0 ++ leBytes 2 0
    (∀ idx sub count width lane (data : List Byte), let b := ReqBody.write idx sub count width lane 0 data.length data; let f := writeForm idx sub count width lane data
      let r := commitAll {} ⟨h, q.role⟩ p s.mem f.2
      idx < 65536 → sub < 65536 → count < 65536 → width < 256 → lane < 256 → data.length < 2 ^ 32 → t.Takes e b → 1 ≤ q.role → c.mode ≠ .safe → f.1 = 0 → f.2.find? (p.lockedFor h) = none →
      (q.txn = none → r.code = 0 → Answers (.objectWrite dt e idx sub count width lane 0 data.length data) s dt {} e b okC 0 done r.core r.mem) ∧
      (∀ x, q.txn = some x → f.2.foldl (fun n w => worse n (p.stagedPre q.role w)) okC = 0 → (x.stage f.2).within = true →
        Answers (.objectWrite dt e idx sub count width lane 0 data.length data) s dt {} e b okC 0 done (p.setSession h { p.session h with txn := some (x.stage f.2) }) s.mem)) ∧
    (∀ idx sub count total (data : List Byte), let b := ReqBody.write idx sub count 0 0 0 total data
      idx < 65536 → sub < 65536 → count < 65536 → total ≤ 1048576 → t.Takes e b → 1 ≤ q.role → c.mode ≠ .safe → 1 ≤ count → data.length < total → c.bufferBytes h false + total ≤ 2097152 →
      Answers (.objectWrite dt e idx sub count 0 0 0 total data) s dt {} e b okC data.length done (c.setPart h (some ⟨idx, sub, count, total, data⟩)) s.mem) ∧
    (∀ reg count width lane (data : List Byte), let idx := 0xA000 + reg / 65536; let sub := reg % 65536; let b := ReqBody.write idx sub count width lane 0 data.length data
      let f := writeForm idx sub count width lane data; let r := commitAll {} ⟨h, q.role⟩ p s.mem f.2
      reg < 2 ^ 28 → count < 65536 → width < 256 → lane < 256 → data.length < 2 ^ 32 → t.Takes e b → 2 ≤ q.role → c.mode ≠ .safe → f.1 = 0 → f.2.find? (p.lockedFor h) = none → q.txn = none → r.code = 0 →
      Answers (.rawWindowWrite dt e reg count width lane data) s dt {} e b okC 0 done r.core r.mem) ∧
    (∀ data : List Byte, let b := ReqBody.write Obj.MEM_DATA.idx Obj.MEM_DATA.sub 1 0 0 0 data.length data
      let f := writeForm Obj.MEM_DATA.idx Obj.MEM_DATA.sub 1 0 0 data; let r := commitAll {} ⟨h, q.role⟩ p s.mem f.2
      data.length < 2 ^ 32 → t.Takes e b → 1 ≤ q.role → c.mode ≠ .safe → f.1 = 0 → f.2.find? (p.lockedFor h) = none → q.txn = none → r.code = 0 →
      Answers (.memDataWrite dt e 0 data.length data 0 0 0) s dt {} e b okC 0 done r.core r.mem ∧
        (let a := c.rd0 Obj.MEM_ADDR; p.writeFault ownFop a data.length = 0 → ((p.locate a).1 = .dram ∨ (p.locate a).1 = .plain) → r.mem = Memory.write s.mem (p.locate a).2 data))

/-- Deadlines of sessions (R429, R431, R433, R439, R440, R444, R446): a PENDING session that lapses and an OPEN one that idles end; held requests whose gap
was not filled are discarded and counted; a kept value and a partial write are dropped; a locked sequence whose lease lapses is rolled back and its session is
told; queued events leave in one message of at most (MAX_MSG − 64) / 32 records under the session's key. Choices of the model it rests on: log entries 1, 5, 7
and 187. -/
def Obligations.SessionDeadlinesAct : Prop :=
  ∀ (s : State) (dt h : Nat), let c := s.core.advance dt; let x := c.session h
    (x.st = 1 → c.due .sessionPending h = true → Does (.sessionPendingTimeout dt h) s ((c.inc Obj.FOP_DISCARDS 0 5 1).endSession h)) ∧
    (x.st = 2 → c.due .sessionIdle h = true → Does (.sessionIdleTimeout dt h) s (c.endSession h)) ∧
    (let late := x.held.filter (fun r => decide (r.due ≤ c.clk)); late ≠ [] →
      ∃ k, Does (.heldRequestTimeout dt h) s k ∧ k.session h = { x with held := x.held.filter (fun r => decide (c.clk < r.due)) } ∧
        k.rd Obj.FOP_DISCARDS 0 3 = (c.rd Obj.FOP_DISCARDS 0 3 + late.length) % 2 ^ 32 ∧
        k = { c with sess := k.sess, objs := k.objs, bumps := k.bumps, bumpAt := k.bumpAt }) ∧
    (c.due .readSnapshot h = true → ∃ k, Does (.readSnapshotTimeout dt h) s k ∧ k.session h = { x with snap := none } ∧ k = { c with sess := k.sess, timers := k.timers }) ∧
    (c.due .writePartial h = true → ∃ k, Does (.writeSegmentTimeout dt h) s k ∧ k.session h = { x with part := none } ∧ k = { c with sess := k.sess, timers := k.timers }) ∧
    (∀ y, c.due .txnLease h = true → x.txn = some y → x.events.length < 256 →
      ∃ u : Core, Does (.txnLeaseLapse dt h) s (u.occur 1569 0) ∧ u.session h = { x with txn := none, events := x.events ++ [⟨0x00F0, y.id, 0, c.ftNs⟩] } ∧
        u.rd0 Obj.TXN_LAPSES = (c.rd0 Obj.TXN_LAPSES + 1) % 2 ^ 32 ∧ u = { c with sess := u.sess, timers := u.timers, objs := u.objs, bumps := u.bumps, bumpAt := u.bumpAt }) ∧
    (let k := (x.maxMsg - 64) / 32; let now := x.events.take k; let seq := nextSeq32 x.evSeq
      c.running = true → x.st ≠ 0 → x.events ≠ [] → x.lost = 0 → x.evLane < 2 →
      Does (.eventSend dt h) s { c with
        sess := Tab.set c.sess h { x with events := x.events.drop k, evSeq := seq },
        out := ⟨.fopEvent, x.evLane, [(x.evIp : Int), (x.evPort : Int)], taggedMessage (some x.key) 0x31 0 (c.rd0 Obj.NODE_ID) (Config.serial % 2 ^ 64) h seq
          (leBytes 2 now.length ++ List.replicate 6 0 ++ now.flatMap EventRec.bytes)⟩ :: c.out })

/-- Event queues (R447): a session queues at most 256 records; one that finds the queue full is lost and counted, FOP_EVENT_LOST is raised for the first of a
run of losses alone, and once queued records have left an OVERFLOW record that tells how many were lost is queued. -/
def Obligations.EventQueuesAreBounded : Prop :=
  ∀ (c : Core) (h : Nat) (e : EventRec), let x := c.session h; let k := c.pushEvent h e
    (x.events.length ≤ 256 → (k.session h).events.length ≤ 256) ∧
    (x.events.length < 256 → k = { c with sess := Tab.set c.sess h { x with events := x.events ++ [e] } }) ∧
    (256 ≤ x.events.length → (k.session h).events = x.events ∧ (k.session h).lost = x.lost + 1 ∧ k.rd0 Obj.EVENTS_LOST = (c.rd0 Obj.EVENTS_LOST + 1) % 2 ^ 32 ∧
      k.alsoRaise = (if x.lost = 0 then c.alsoRaise ++ [1570] else c.alsoRaise)) ∧
    (x.st ≠ 0 → x.events ≠ [] → c.running = true → x.evLane < 2 → 0 < x.lost →
      let y := (c.sendEvents h).session h
      y.events = x.events.drop ((x.maxMsg - 64) / 32) ++ [⟨0x00F1, x.lost, 0, c.ftNs⟩] ∧ y.lost = 0)

/-- The journal (R461, R463): its record takes every retained change that waits, and JOURNAL_SYNC and RESTORE_FACTORY end DONE; a record that cannot be
written raises RET_JOURNAL and is tried again 10 ms later. FOP over the ring (R392): a message put together from its frames is dealt with as a request from
its gateway. Choices of the model it rests on: log entries 1, 6, 7, 105 and 132. -/
def Obligations.JournalAndTunnelAct : Prop :=
  ∀ (s : State) (dt wear : Nat), let c := s.core.advance dt
    (c.dirty ≠ [] → c.journalFailing = false → c.running = true → wear = c.rd0 Obj.RET_WEAR →
      ∃ k, Does (.journalTimer dt false wear) s k ∧ k.journal = ⟨c.dirty.filterMap (fun a => (Tab.get? c.objs a).map (fun v => (a, v))), true, c.ftNs⟩ :: c.journal ∧ k.dirty = [] ∧
        k.dirtySince = none ∧ k.objs = c.objs ∧ (c.compO Obj.JOURNAL_SYNC 0 0 = 1 → k.compO Obj.JOURNAL_SYNC 0 0 = 2) ∧ (c.compO Obj.RESTORE_FACTORY 0 0 = 1 → k.compO Obj.RESTORE_FACTORY 0 0 = 2)) ∧
    (c.dirty ≠ [] → c.journalFailing = false → c.running = true →
      ∃ u : Core, Does (.journalTimer dt true wear) s (u.occur 1585 0) ∧ u.journal = c.journal ∧ u.dirty = c.dirty ∧ u.journalFailing = true ∧
        Tab.get? u.timers (timerKey .journal 0) = some (c.clk + ms 10) ∧ (c.compO Obj.JOURNAL_SYNC 0 0 = 1 → u.compO Obj.JOURNAL_SYNC 0 0 = 3)) ∧
    (c.journalFailing = true → c.running = true → c.due .journal 0 = true → wear = c.rd0 Obj.RET_WEAR →
      ∃ k, Does (.journalRetry dt false wear) s k ∧ k.dirty = [] ∧ k.journalFailing = false ∧ k.objs = c.objs) ∧
    (∀ p m head payload crc, let b := head ++ payload ++ crc; let u := c.rxFrame p 0x31 b (c.fopSerial b) id (fun t => (t.reassemble b).2); c.delivers p 0x31 b (c.fopSerial b) = true → (c.reassemble b).1 = some m →
      let r := u.fopMessage s.mem {} (frSrc b) m
      DoesBoth (.fopFrameReceived dt p head payload crc) s r.1 r.2) ∧
    (∀ p head payload crc, let b := head ++ payload ++ crc; (c.delivers p 0x31 b (c.fopSerial b) = false ∨ (c.reassemble b).1 = none) →
      Does (.fopFrameReceived dt p head payload crc) s (c.rxFrame p 0x31 b (c.fopSerial b) id (fun t => (t.reassemble b).2))) ∧
    (c.dirty = [] → ∀ fail, Does (.journalTimer dt fail wear) s c) ∧ (c.journalFailing = false → ∀ fail, Does (.journalRetry dt fail wear) s c)

/-! ### Modes, stops and PARK (ch. 18) -/

/-- The controller's own steps between modes (R163, R479, R483): with START_MODE READY it goes to READY by itself once no port comes up or waits; the end of a
stop enters READY, after the cap sequence where CAP_ON_READY asks for one; the head stop goes on to step 3 when the axes rest and the seam is done, to step 4
when the caps are on or CAP_TIMEOUT has passed, to step 5 when every port is OFF, and ends when none of its sources is raised. Choices of the model it rests
on: log entries 1, 7, 26, 74, 109 and 172. -/
def Obligations.StopsGoThroughTheirSteps : Prop :=
  ∀ (s : State) (dt : Nat), let c := s.core.advance dt
    (c.quiet → c.wantReady = true → c.mode = .config → c.phase = .steady → allPorts.any c.comingUp = false →
      allPorts.any (fun p => c.rdB Obj.port_PORT_ENABLE p 0 && decide (c.link p = lkOff)) = false →
      ∃ k, Does (.autoReadyRequest dt) s k ∧ k.mode = .ready ∧ k.phase = .steady ∧ k.wantReady = false ∧ k.rd0 Obj.MODE_REQ = 3 ∧ k.rd0 Obj.ENTRY_FAIL = 0xFFFF0000 ∧ k.timers = c.timers ∧ k.ports = c.ports) ∧
    (c.quiet → c.phase = .stopping → c.mode = .service → (List.range 12).all c.atRest = true → c.stopCap = false → (c.rdB Obj.CAP_ON_READY 0 0 && c.hasCaps) = false →
      ∃ k, Does (.stopComplete dt) s k ∧ k.mode = .ready ∧ k.phase = .steady ∧ k.stop = none ∧ (c.compO Obj.MODE_REQ 0 0 = 1 → k.compO Obj.MODE_REQ 0 0 = 2)) ∧
    (c.phase = .stopping → c.inPrint = true → c.printGroups.all c.groupAtRest = true → c.stopSeamDone = true → c.stopCap = false →
      Does (.stopComplete dt) s (if (c.rdB Obj.CAP_ON_READY 0 0 && c.hasCaps) = true then { c.capStart with stopCap := true } else c.toReady)) ∧
    (c.phase = .stopping → c.stopCap = true → (if c.mode = .service then (List.range 12).all c.atRest else c.printGroups.all c.groupAtRest && c.stopSeamDone) = true →
      Does (.stopComplete dt) s (if c.mot.capPhase ≠ 0 then c else (if c.mot.capDone then c else c.occur 1268 0).toReady)) ∧
    (c.headStep = 2 → c.printGroups.all c.groupAtRest = true → c.stopSeamDone = true →
      Does (.headStopStepAdvance dt) s ({ c with headStep := 3, timers := Tab.set c.timers (timerKey .capWait 0) (c.clk + ms (c.rd0 Obj.CAP_TIMEOUT)) }).capStart) ∧
    (c.headStep = 3 → c.mot.capPhase = 0 → c.mot.capDone = true → Does (.headStopStepAdvance dt) s c.headPortsOff) ∧
    (c.quiet → c.headStep = 4 → c.allOff = true → c.inPrint = false →
      ∃ k, Does (.headStopStepAdvance dt) s k ∧ k.mode = .config ∧ k.phase = .steady ∧ k.headStep = 5 ∧ k.stop = none) ∧
    (c.headStep = 5 → c.headSources.all (fun n => !c.isRaised n) = true →
      Does (.headStopStepAdvance dt) s
        { c with headStep := 0, headSources := [], wantReady := if c.mode = .config then decide (c.rd0 Obj.START_MODE = 3) else c.wantReady }) ∧
    (c.headStep ≠ 3 ∨ c.due .capWait 0 = false → Does (.capTimeout dt) s c) ∧ (c.phase ≠ .stopping → Does (.stopComplete dt) s c) ∧ (c.wantReady = false → Does (.autoReadyRequest dt) s c) ∧
    (c.headStep = 3 → c.due .capWait 0 = true →
      Does (.capTimeout dt) s ((({ c with mot := { c.mot with capPhase := 0, capAxes := [] } }).occur 1268 0).headPortsOff))

/-- PARK (R486 to R488): a step whose end has come gives way to the next that applies; one whose bound has passed is abandoned, noted in PARK_FAILED and
raised as PARK_STEP; from DONE, once nothing waits for the journal, RETAIN is entered where PARK_TARGET says so: no session's CONFIG, no deadline but
WAKE_AFTER's, and of memory nothing changes but DRAM's last 64 bytes. Choices of the model it rests on: log entries 1, 7 and 109. -/
def Obligations.ParkGoesThroughItsSteps : Prop :=
  ∀ (s : State) (dt : Nat), let c := s.core.advance dt; let n := c.rd0 Obj.PARK_STEP
    (c.mode = .park → c.phase = .parking → c.parkOver n = true →
      let r := (Core.parkFrom 11 (n + 1) (c.disarm .parkStep 0)).parkEnd s.mem
      DoesBoth (.parkStepComplete dt) s r.1 r.2) ∧
    (c.mode = .park → c.phase = .steady → n = 10 → c.rd0 Obj.PARK_TARGET = 1 → c.dirty = [] →
      ∃ k m, DoesBoth (.parkStepComplete dt) s k m ∧ k.mode = .retain ∧ k.phase = .steady ∧ k.configReached = false ∧ k.rd0 Obj.DRAM_STATE = 4 ∧
        (c.rd0 Obj.WAKE_AFTER = 0 → k.timers = []) ∧ (c.rd0 Obj.WAKE_AFTER ≠ 0 → k.timers = [(timerKey .wakeAfter 0, c.clk + sec (c.rd0 Obj.WAKE_AFTER))]) ∧
        (∀ a, (a + 64 < c.rd0 Obj.DRAM_SIZE ∨ c.rd0 Obj.DRAM_SIZE ≤ a) → Memory.get m a = Memory.get s.mem a)) ∧
    (c.mode = .park → c.phase = .parking → c.due .parkStep 0 = true → c.parkOver n = false →
      let u := (c.disarm .parkStep 0).wr0 Obj.PARK_FAILED (putBit (c.rd0 Obj.PARK_FAILED) n true)
      let t := (if n = 9 then u.bistAbort else u).occur 1600 0
      Does (.parkStepBoundExpiry dt) s (if t.mode = .park then Core.parkFrom 11 (n + 1) t else t)) ∧
    (c.mode ≠ .park ∨ c.phase ≠ .parking ∨ c.due .parkStep 0 = false ∨ c.parkOver n = true → Does (.parkStepBoundExpiry dt) s c) ∧
    (c.mode ≠ .park → DoesBoth (.parkStepComplete dt) s c s.mem)

/-! ### Selvedge and Hem (ch. 19) -/

/-- An occurrence (R498, R499, R506, Table 19-4), the first of its source in its cycle: a masked source is counted and timed, and nothing else; the first
raises the source in its CLASS, with its instant, no repeats and a RAISE entry at the head of the log; one of a raised source adds a repeat, and where ESC is
set and EFF_CLASS is C raises EFF_CLASS to U with an ESCALATE entry; one that reaches class F puts the device in SAFE. Sources whose REACTION is NONE stop
nothing. A second one in the cycle is the same occurrence: it counts nothing and raises nothing. The Hem safe state (R449, R490, R503): MODE is SAFE and
steady, no stop is in progress, every locked sequence and partial write of a session is gone; keys and the journal stay. Acknowledgement (R500, Table 19-4):
RAISED and the forced mark clear, EFF_CLASS becomes CLASS, the log gains an ACK entry; other sources, the mode and the retained log stay. Choices of the model
it rests on: log entries 13, 15, 115, 188 and 190. -/
def Obligations.OccurrencesEscalateAndAreAcknowledged : Prop :=
  (∀ (c : Core) (n info : Nat), srcAssigned n = true → c.running = true → info < 2 ^ 32 →
    (c.occurredNow n = true → c.occurOne n info false = c.occurAgain n info false ∧ (c.occurAgain n info false).rd Obj.src_COUNT n 0 = c.rd Obj.src_COUNT n 0 ∧
      (c.occurAgain n info false).log = c.log ∧ (c.occurAgain n info false).mode = c.mode) ∧
    (c.occurredNow n = false →
    let k := c.occurOne n info false; let x := c.srcRec n; let q := (c.rd0 Obj.LOG_SEQ + 1) % 2 ^ 32; let counted := k.rd Obj.src_COUNT n 0 = (c.rd Obj.src_COUNT n 0 + 1) % 2 ^ 32
    (c.rdB Obj.src_MASK n 0 = true → counted ∧ k.rd Obj.src_LAST_T_NS n 0 = c.ftNs ∧ k = { c with objs := k.objs, bumps := k.bumps, bumpAt := k.bumpAt, hwAt := k.hwAt }) ∧
    (c.rdB Obj.src_MASK n 0 = false → x.raised = false → c.rd Obj.src_CLASS n 0 = 0 →
      counted ∧ k.srcRec n = { x with raised := true, eff := 0, forced := false } ∧ k.rd Obj.src_RAISE_T_NS n 0 = c.ftNs ∧ k.rd Obj.src_REPEATS n 0 = 0 ∧ k.rd Obj.src_INFO n 0 = info ∧
        k.log.head? = some ⟨c.ftNs, c.ftFrac, n, 1, 0, c.rd Obj.src_REACTION n 0, c.mode.code, info, q, 0, 2 * b2n x.active⟩ ∧ k.logRet = c.logRet ∧ k.mode = c.mode ∧ k.stop = c.stop) ∧
    (c.rdB Obj.src_MASK n 0 = false → x.raised = true → (x.eff = 2 ∨ c.rdB Obj.src_ESC n 0 = false) →
      counted ∧ k.srcRec n = x ∧ k.rd Obj.src_REPEATS n 0 = Nat.min 65535 (c.rd Obj.src_REPEATS n 0 + 1) ∧ k.log = c.log ∧ k.mode = c.mode) ∧
    (c.rdB Obj.src_MASK n 0 = false → x.raised = true → x.eff = 0 → c.rdB Obj.src_ESC n 0 = true → c.rd Obj.src_REACTION n 0 = 0 →
      counted ∧ (k.srcRec n).eff = 1 ∧ k.mode = c.mode ∧
        k.log.head? = some ⟨c.ftNs, c.ftFrac, n, 3, 1, 0, c.mode.code, info, q, Nat.min 65535 (c.rd Obj.src_REPEATS n 0 + 1), 2 * b2n x.active⟩) ∧
    (c.rdB Obj.src_MASK n 0 = false → x.raised = false → c.rd Obj.src_CLASS n 0 = 2 → k.mode = .safe))) ∧
  (∀ c : Core, c.running = true → c.mode ≠ .safe →
    let k := c.hemSafe
    k.mode = .safe ∧ k.phase = .steady ∧ k.stop = none ∧ k.safeSince = some c.clk ∧ (∀ p ∈ k.sess, p.2.txn = none ∧ p.2.part = none) ∧
      k.roleKeys = c.roleKeys ∧ k.journal = c.journal ∧ k.clk = c.clk) ∧
  (∀ (c : Core) (n : Nat), let k := c.ackSource n; let x := c.srcRec n
    k.srcRec n = { x with raised := false, forced := false, eff := c.rd Obj.src_CLASS n 0 } ∧ (∀ j, j ≠ n → k.srcRec j = c.srcRec j) ∧ k.isRaised n = false ∧
      k.log.head? = some ⟨c.ftNs, c.ftFrac, n, 2, c.rd Obj.src_CLASS n 0, 255, c.mode.code, 0, (c.rd0 Obj.LOG_SEQ + 1) % 2 ^ 32, c.rd Obj.src_REPEATS n 0, b2n x.forced⟩ ∧
      k.mode = c.mode ∧ k.logRet = c.logRet ∧ k.timers = c.timers ∧ k.ports = c.ports)

/-- Selvedge's own inputs (R504, R505, R507, R508, R511): the host lock lapses and HOST_LOST is raised; a fault input's level is published and its source
follows it; the watchdog makes Hem drive the device safe, even without Selvedge, and arms the reset 10 ms later; a failed readback made in the present mode, a
differing copy and a lockstep mismatch raise their sources. Choices of the model it rests on: log entries 1, 6, 7, 119 and 190. -/
def Obligations.SelvedgeInputsAct : Prop :=
  ∀ (s : State) (dt n : Nat), let c := s.core.advance dt
    (c.due .hostLock 0 = true → c.rd0 Obj.HOST_LOCK_OWNER ≠ 0 → (c.session (c.rd0 Obj.HOST_LOCK_OWNER)).txn = none →
      Does (.hostTimeoutExpiry dt) s (((c.wr0 Obj.HOST_LOCK_OWNER 0).disarm .hostLock 0).occur 6 0)) ∧
    (c.running = true → n < 16 → Does (.faultInput dt n) s
      ((c.wr0 Obj.FAULT_IN_LEVEL (putBit (c.rd0 Obj.FAULT_IN_LEVEL) n (bit (c.rd0 Obj.FAULT_IN_POL) n))).level (9 + n) 0 true)) ∧
    (c.running = true → n < 16 → (c.srcRec (9 + n)).active = true →
      ∃ k, Does (.faultInputInactive dt n) s k ∧ k.srcRec (9 + n) = { c.srcRec (9 + n) with active := false } ∧
        k.rd0 Obj.FAULT_IN_LEVEL = putBit (c.rd0 Obj.FAULT_IN_LEVEL) n (!bit (c.rd0 Obj.FAULT_IN_POL) n) % 65536 ∧ k = { c with objs := k.objs, src := k.src }) ∧
    (let t : Core := { c with wdogExpired := true, timers := Tab.set c.timers (timerKey .wdogReset 0) (c.clk + ms 10) };
      c.running = true → c.wdogExpired = false → Does (.safetyWdogExpiry dt false) s t.hemSafe.settle ∧ Does (.safetyWdogExpiry dt true) s (t.occur 4 0).hemSafe.settle) ∧
    (c.running = true → n < 64 → Does (.hemReadbackFail dt 1 n) s (c.occur (64 + n) 0)) ∧
    (c.mode = .safe → n < 64 → Does (.hemReadbackFail dt 2 n) s (c.occur (128 + n) 0) ∧ Does (.hemReadbackFail dt 0 n) s (c.occur 5 0)) ∧
    (c.running = true → n < 8 → (c.mode = .safe ∨ c.axSt (4 + n) = axFaulted) → Does (.hemReadbackFail dt 3 n) s (c.occur (192 + n) 0)) ∧
    (c.mode = .safe → n < 4 → Does (.hemReadbackFail dt 4 n) s (c.occur (200 + n) 0)) ∧
    (c.running = true → Does (.hemArmCheck dt true) s ((c.each ((List.range 12).filter (fun a => bit (c.rd Obj.ax_AX_FLAGS a 0) 1)) Core.armAxis).occur 3 0)) ∧
    Does (.hemArmCheck dt false) s c ∧ (c.due .hostLock 0 = false → Does (.hostTimeoutExpiry dt) s c) ∧
    (c.wdogExpired = true → ∀ sel, Does (.safetyWdogExpiry dt sel) s c) ∧
    (c.running = true → n < 3 → Does (.selvedgeLockstepMismatch dt n) s (c.occur n 0))

/-! ### Power, clocks and reset (ch. 20) -/

/-- Rails, RESET_N and wakes (R489, R505, R514 to R517, R525, R529): when all ten rails are good a device in OFF starts with the causes gathered, and so does
one that waits to leave RETAIN; a supply below its off threshold, main rails that do not rise in time, and RESET_N low put the device in OFF with the cause
noted, retaining keys and journal; RESET_N high, WAKE_N, WAKE_AFTER, the watchdog's delay and SAFE_AUTO_RESET reset the device with their own cause; a device
reset clears both memories (DRAM not on a wake); where its condition does not hold none does anything. STARTUP_COMPLETE (R309 to R313, R530, R532): once no
test runs, DRAM takes its size from what is fitted and trained, or FAILS, and CONFIG is entered unless a fatal fault came first; DRAM is cleared, or kept
through RETAIN and scrubbed already; before that nothing happens. Choices of the model it rests on: log entries 1, 6, 7, 10, 120, 121, 123, 126 and 142. -/
def Obligations.ResetsStartTheDevice : Prop :=
  (∀ (s : State) (dt r bad straps : Nat), let c := s.core.advance dt; let cleared := Memory.clear (Memory.clear s.mem spoolBase (spoolBase + spoolSize)) 0 spoolBase
    (let t := c.wr0 Obj.RAIL_STATE 0x3FF; c.mode = .off → c.phase = .steady → c.resetLow = false → c.causes ≠ 0 → let u := t.startUp s.mem (c.causes % 512) bad straps; DoesBoth (.railGood dt bad straps) s u.1 u.2) ∧
    (let t := c.wr0 Obj.RAIL_STATE 0x3FF; c.mode = .retain → c.railWait = true → let u := t.startUp s.mem (c.causes % 512) bad straps; DoesBoth (.railGood dt bad straps) s u.1 u.2) ∧
    (c.running = true → Does (.railGood dt bad straps) s (((c.wr0 Obj.RAIL_STATE 0x3FF).each (List.range 20) (fun t r => t.level (256 + r) 0 false)).level 1488 0 false)) ∧
    (9 ≤ r → Does (.railOff dt r) s c) ∧
    (let t := c.wr0 Obj.RAIL_STATE (putBit (c.rd0 Obj.RAIL_STATE) r false);
      r < 9 → (c.mode = .retain → r ≠ 4 → r ≠ 5 → r ≠ 7 → Does (.railOff dt r) s t) ∧ (c.mode = .off → c.phase = .steady → Does (.railOff dt r) s (if r = 7 then { t with causes := 2 } else t)) ∧
      (¬(c.mode = .off ∧ c.phase = .steady) → (c.mode = .retain → r = 4 ∨ r = 5 ∨ r = 7) →
        ∃ k, Does (.railOff dt r) s k ∧ k.mode = .off ∧ k.phase = .steady ∧ bit k.causes (if r = 7 then 1 else 2) = true ∧ k.sess = [] ∧ k.timers = [] ∧ k.roleKeys = c.roleKeys ∧
          k.journal = c.journal ∧ k.logRet = c.logRet ∧ k.thimJ = c.thimJ ∧ k.out = ⟨.safeOutputs, 1, [], []⟩ :: c.out)) ∧
    (c.mode = .retain → c.railWait = true → c.due .mainRail 0 = true → ∃ k, Does (.mainRailTimeout dt) s k ∧ k.mode = .off ∧ k.phase = .steady ∧ bit k.causes 2 = true ∧ k.journal = c.journal) ∧
    (¬(c.mode = .retain ∧ c.railWait = true ∧ c.due .mainRail 0 = true) → Does (.mainRailTimeout dt) s c) ∧
    (c.mode ≠ .retain → ¬(c.mode = .off ∧ c.phase = .steady) → ∃ k, Does (.resetNLow dt) s k ∧ k.mode = .off ∧ k.resetLow = true ∧ bit k.causes 4 = true ∧ k.roleKeys = c.roleKeys ∧ k.journal = c.journal) ∧
    ((c.mode = .retain ∨ (c.mode = .off ∧ c.phase = .steady)) → Does (.resetNLow dt) s { c with resetLow := true }) ∧
    (c.resetLow = false → Does (.resetNRise dt bad straps) s c) ∧
    (c.mode ≠ .retain → c.resetLow = true → c.railsGood = true → let u := ({ c with resetLow := false }).startUp s.mem 16 bad straps; DoesBoth (.resetNRise dt bad straps) s u.1 u.2) ∧
    (c.mode ≠ .retain → c.resetLow = true → c.railsGood = false → Does (.resetNRise dt bad straps) s { c with resetLow := false, causes := putBit c.causes 4 true }) ∧
    (c.mode = .retain → c.resetLow = true → let u := ({ c with resetLow := false }).wake s.mem 4 bad straps; DoesBoth (.resetNRise dt bad straps) s u.1 u.2) ∧
    (c.mode = .retain → c.railWait = false → c.resetLow = false → let u := c.wake s.mem 7 bad straps; DoesBoth (.wakeNFall dt bad straps) s u.1 u.2) ∧
    (¬(c.mode = .retain ∧ c.railWait = false ∧ c.resetLow = false) → Does (.wakeNFall dt bad straps) s c) ∧
    (c.mode = .retain → c.railWait = false → c.due .wakeAfter 0 = true → let u := c.wake s.mem 7 bad straps; DoesBoth (.wakeAfterExpiry dt bad straps) s u.1 u.2) ∧
    (¬(c.mode = .retain ∧ c.railWait = false ∧ c.due .wakeAfter 0 = true) → Does (.wakeAfterExpiry dt bad straps) s c) ∧
    (∀ kind, (c.railsGood = true → c.wake s.mem kind bad straps = c.startUp s.mem (2 ^ kind) bad straps) ∧
      (c.railsGood = false → let u := c.wake s.mem kind bad straps
        u.2 = s.mem ∧ u.1.mode = c.mode ∧ u.1.phase = .waking ∧ u.1.railWait = true ∧ bit u.1.causes kind = true ∧ Tab.get? u.1.timers (timerKey .mainRail 0) = some (c.clk + ms 100) ∧ u.1.out = ⟨.mainEn, 0, [1], []⟩ :: c.out)) ∧
    (c.wdogExpired = true → c.due .wdogReset 0 = true → let u := c.startUp s.mem 8 bad straps; DoesBoth (.wdogResetDelay dt bad straps) s u.1 u.2) ∧
    (¬(c.wdogExpired = true ∧ c.due .wdogReset 0 = true) → Does (.wdogResetDelay dt bad straps) s c) ∧
    (c.safeAutoDue = true → let u := c.startUp s.mem 64 bad straps; DoesBoth (.safeAutoResetExpiry dt bad straps) s u.1 u.2) ∧
    (c.safeAutoDue = false → Does (.safeAutoResetExpiry dt bad straps) s c) ∧
    (∀ kinds, let u := c.startUp s.mem kinds bad straps; let test := if bit (c.causes ||| kinds) 1 then bit straps 3 else c.testEn;
      (test = true → u.2 = s.mem) ∧ (test = false → u.2 = if c.mode = .retain then Memory.clear s.mem spoolBase (spoolBase + spoolSize) else cleared))) ∧
  (∀ (s : State) (dt a b : Nat) (trained kept : Bool), let c := s.core.advance dt; let f := (c.wr Obj.DRAM_FITTED 0 0 a).wr Obj.DRAM_FITTED 0 1 b
    (∀ bad, c.startReady = false → Does (.startupComplete dt a b trained kept bad) s c) ∧
    (let t := f.wr0 Obj.DRAM_SIZE (if c.dramEcc then (a + b) / 8 * 7 else a + b);
      c.startReady = true → trained = true → 0 < a → (b = 0 ∨ b = a) →
      (c.fromRetain = false → ∃ k, DoesBoth (.startupComplete dt a b trained kept false) s k (Memory.clear s.mem 0 spoolBase) ∧ k = (t.wr0 Obj.DRAM_STATE 2).enterConfig) ∧
      (c.fromRetain = true → kept = false → let v := (t.wr0 Obj.DRAM_STATE 2).occur 1432 0
        DoesBoth (.startupComplete dt a b trained kept false) s (if v.mode = .off then v.enterConfig else v) (if v.rd0 Obj.DRAM_STATE = 2 then Memory.clear s.mem 0 spoolBase else s.mem)) ∧
      (c.fromRetain = true → kept = true → Does (.startupComplete dt a b trained kept false) s ((t.wr0 Obj.DRAM_STATE 3).wr0 Obj.DRAM_SCRUB_POS (t.rd0 Obj.DRAM_SIZE)).enterConfig)) ∧
    (let t := (f.wr0 Obj.DRAM_STATE 5).occur 1431 0;
      c.startReady = true → (trained = false ∨ a = 0 ∨ (b ≠ 0 ∧ b ≠ a)) → DoesBoth (.startupComplete dt a b trained kept false) s (if t.mode = .off then t.enterConfig else t) (if t.rd0 Obj.DRAM_STATE = 2 then Memory.clear s.mem 0 spoolBase else s.mem)))

/-- What a device reset keeps (R188, R460, R462, R529): the retention store, programmed keys and what was sent; sessions, axes, decoders, queued pages,
deadlines, open sources and the unretained log are gone, of a port only the journaled update in flight stays, and with no journaled value, no Thimble entry
and no partition of its own an object reads its reset value; a port's Thimble objects read what its journal entry holds. Choices of the model it rests on: log
entries 105, 126 and 127. -/
def Obligations.ResetKeepsTheRetentionStore : Prop :=
  ∀ (c : Core) (o : Ob) (i j p : Nat) (e : ThimEntry), let k := c.cleared 0
    k.journal = c.journal ∧ k.logRet = c.logRet ∧ k.thimJ = c.thimJ ∧ k.roleKeys = c.roleKeys ∧ k.slotKeys = c.slotKeys ∧ k.bist.repairs = c.bist.repairs ∧ k.clk = c.clk ∧ k.out = c.out ∧
    k.sess = [] ∧ k.timers = [] ∧ k.src = [] ∧ k.log = [] ∧ k.pages = [] ∧ k.tacks = [] ∧ k.comp = [] ∧ k.mode = .off ∧ k.phase = .steady ∧
    (c.thimJ = [] → k.ports = []) ∧
    (c.journal = [] → c.thimJ = [] → (Obj.KEY_SLOT :: dictionary.filter Ob.ownPartition).all (fun q => !q.hasKey (o.key i j)) = true → k.rd o i j = o.resetValue i j) ∧
    (c.thimJ = [(p, e)] → p < 64 → e.carrier < 2 ^ 64 → e.base < 2 ^ 64 → e.cseq < 2 ^ 32 → e.acc < 2 ^ 64 →
      k.rd Obj.CARRIER_ID 0 p = e.carrier ∧ k.rd Obj.COUNT 0 p = e.base ∧ k.rd Obj.CSEQ 0 p = e.cseq ∧ k.rd Obj.PENDING_PL 0 p = e.acc ∧ k.ports = [(p, { thim := { flight := e.flight } })])

/-- Rails, clocks and islands (R516, R520, R522 to R524, R526): a warning and an overvoltage clear the rail's bit and raise their sources; VDRV's warning
ends; the monitor publishes OSC_STATE and raises OSC_FAIL (for SDREF by the model's reading, log entry 185); an island whose clock fails is marked and its
lane lost, and one of a lane is reset when it returns; islands raise XING and REG_PAR; an island's reset ends after 10 µs; what names no rail or island does
nothing. Choices of the model it rests on: log entries 1, 6, 7, 120, 122, 185 and 186. -/
def Obligations.MonitorsReport : Prop :=
  ∀ (s : State) (dt n : Nat) (x z : Bool), let c := s.core.advance dt; c.running = true →
    (n < 10 → Does (.railWarning dt n) s ((c.wr0 Obj.RAIL_STATE (putBit (c.rd0 Obj.RAIL_STATE) n false)).level (256 + n) 0 true)) ∧
    (n < 10 → Does (.railOvervoltage dt n) s ((c.wr0 Obj.RAIL_STATE (putBit (c.rd0 Obj.RAIL_STATE) n false)).level (266 + n) 0 true)) ∧
    (10 ≤ n → Does (.railWarning dt n) s c ∧ Does (.railOvervoltage dt n) s c) ∧
    (∃ k, Does (.railWarningEnd dt) s k ∧ bit (k.rd0 Obj.RAIL_STATE) 9 = true ∧ (k.srcRec 265).active = false ∧ (k.srcRec 1488).active = false ∧ (∀ m, (k.srcRec m).raised = (c.srcRec m).raised) ∧
      k = { c with objs := k.objs, src := k.src }) ∧
    (let st := if x then 1 else if z then 2 else 0
      let t := (c.wr0 Obj.OSC_STATE st).level 528 0 x
      let t := if st = 2 ∧ c.rd0 Obj.OSC_STATE ≠ 2 then t.occur 528 0 else t
      let far := decide (257698 < (t.rdI Obj.FT_TRIM 0 0).natAbs)
      Does (.clockMonitorCheck dt x z) s
        (if t.ftLocked = false then { t with driftRaised := false } else if far = true ∧ t.driftRaised = false then ({ t with driftRaised := true }).occur 529 0 else t)) ∧
    (n < 84 → c.rd Obj.ISLAND_STATE 0 n = 2 → Does (.islandClockAbsent dt n) s (((c.wr Obj.ISLAND_STATE 0 n 3).laneLost n).level (276 + n) 0 true)) ∧
    (n < 84 → c.rd Obj.ISLAND_STATE 0 n = 2 → c.rd0 Obj.OSC_STATE ≠ 1 → Does (.islandClockWindow dt n true) s (((c.wr Obj.ISLAND_STATE 0 n 3).laneLost n).level (276 + n) 0 true)) ∧
    (c.rd0 Obj.OSC_STATE = 1 → Does (.islandClockWindow dt n true) s c) ∧ Does (.islandClockWindow dt n false) s c ∧
    ((84 ≤ n ∨ c.rd Obj.ISLAND_STATE 0 n ≠ 2) → Does (.islandClockAbsent dt n) s c ∧ Does (.islandClockWindow dt n true) s c) ∧
    (n < 68 → c.rd Obj.ISLAND_STATE 0 n = 3 →
      ∃ k, Does (.islandClockReturn dt n) s k ∧ k.rd Obj.ISLAND_STATE 0 n = 1 ∧ Tab.get? k.timers (timerKey .islandReset n) = some (c.clk + us 10) ∧ n ∈ k.islandsDown ∧ (k.srcRec (276 + n)).active = false) ∧
    (¬(n < 68 ∧ c.rd Obj.ISLAND_STATE 0 n = 3) → Does (.islandClockReturn dt n) s c) ∧
    (n < 84 → Does (.regParityPass dt [⟨n, false⟩]) s (c.occur (444 + n) 0) ∧ Does (.regParityPass dt [⟨n, true⟩]) s (c.occur (360 + n) 0)) ∧
    (∀ fails : List ParityFail, ∃ k, Does (.regParityPass dt fails) s k ∧ ((∀ i ∈ fails, 84 ≤ i.island) → k = c)) ∧
    Does (.referenceCompare dt x) s (c.level 531 0 x) ∧
    (let t := ({ c with islandsDown := c.islandsDown.filter (· ≠ n) }.disarm .islandReset n).wr Obj.ISLAND_STATE 0 n 2
      let u := if n = 66 ∨ n = 67 then t.ringDown (n - 66) else if n < 64 ∧ t.link n = lkFault then (t.level (768 + n) 0 false).portOff n else t;
      if c.islandsDown.contains n = true ∧ c.due .islandReset n = true then Does (.islandResetDone dt n) s (if u.rd0 Obj.ISLAND_RESET = n then u.endComp Obj.ISLAND_RESET 0 0 true else u)
      else Does (.islandResetDone dt n) s c) ∧
    (c.islandsDown.contains n = true → c.due .islandReset n = true → 68 ≤ n →
      ∃ k, Does (.islandResetDone dt n) s k ∧ k.rd Obj.ISLAND_STATE 0 n = 2 ∧ n ∉ k.islandsDown ∧ (c.rd0 Obj.ISLAND_RESET = n → c.compO Obj.ISLAND_RESET 0 0 = 1 → k.compO Obj.ISLAND_RESET 0 0 = 2))

/-! ### Self-test, host ports and balls (ch. 10, 16, 21, 22) -/

/-- The schedule (R537, R539, R548): the first group not yet run whose power fits the cap starts, and no other, noting whether a ring port is UP and which
lanes have block lock; the power in use never passes the cap by it; a group past its bound ends with outcome 3, no mark follows, and BIST_TIMEOUT is raised; a
group that is not running changes nothing, and with none that fits or no run none starts. The end of a group of checks that all pass (R543, R545): groups 5 to
8, their supplies good, record PASS with its limit for each check made and for the group; the last group of a run ends it: BIST_STATE 3, one run more, and the
mark unless something spoiled it; before the last the run goes on. Choices of the model it rests on: log entries 1, 6, 7, 112 and 113. -/
def Obligations.SelfTestGroupsAreScheduled : Prop :=
  (∀ (s : State) (dt g : Nat), let c := s.core.advance dt
    (c.bist.kind ≠ 0 → c.bist.todo.find? (fun h => decide (c.bistLoad + bistPower h ≤ c.rd0 Obj.BIST_POWER_CAP)) = some g →
      ∃ k r, Does (.bistGroupStart dt) s k ∧ k.bist.running = c.bist.running ++ [r] ∧ r.group = g ∧ r.since = c.clk ∧ (r.ringUp = true ↔ c.upPorts ≠ []) ∧ r.lanes = c.lockedLanes ∧ k.bist.todo = c.bist.todo.filter (· ≠ g) ∧
        k.bistLoad = c.bistLoad + bistPower g ∧ k.bistLoad ≤ c.rd0 Obj.BIST_POWER_CAP ∧ k = { c with bist := k.bist }) ∧
    ((c.bist.kind = 0 ∨ ∀ h ∈ c.bist.todo, c.rd0 Obj.BIST_POWER_CAP < c.bistLoad + bistPower h) → Does (.bistGroupStart dt) s c) ∧
    (∀ fails bad sigs checks, c.bist.running.find? (fun r => decide (r.group = g)) = none → DoesBoth (.bistGroupEnd dt g fails bad sigs checks) s c s.mem) ∧
    (∀ r, c.bist.running.find? (fun r => decide (r.group = g) && decide (r.since + ms (bistBound g) ≤ c.clk)) = some r →
      let t := c.bistGroupResult r 3 0
      let u := ({ t with bist := { t.bist with spoiled := true } }).bistReinit s.mem c.bist.kind r
      DoesBoth (.bistGroupTimeout dt g) s ((u.1.bistLeave g).occur 2002 0) u.2) ∧
    (c.bist.running.find? (fun r => decide (r.group = g) && decide (r.since + ms (bistBound g) ≤ c.clk)) = none → Does (.bistGroupTimeout dt g) s c)) ∧
  (∀ (s : State) (dt : Nat) (r : BistRun), let c := s.core.advance dt; let passed := fun i : Nat => ofLe (leBytes 4 1 ++ leBytes 4 0 ++ leBytes 4 (checkLimit i) ++ leBytes 4 0)
    c.bist.kind ≠ 0 → c.bist.running.find? (fun q => decide (q.group = r.group)) = some r → 5 ≤ r.group → r.group ≤ 8 → bit (c.rd0 Obj.RAIL_STATE) 8 = true → bit (c.rd0 Obj.RAIL_STATE) 9 = true →
    ∃ k, Does (.bistGroupEnd dt r.group [] [] [] []) s k ∧ (∀ i ∈ bistChecks r.group, r.checkOut c.bist.kind i = false → k.rd Obj.ANALOG_RESULT 0 i = passed i) ∧
      k.rd Obj.GROUP_RESULT 0 (r.group - 1) % 256 = 1 ∧ k.bist.running = c.bist.running.filter (fun q => decide (q.group ≠ r.group)) ∧ k.bist.todo = c.bist.todo ∧ k.mode = c.mode ∧ k.src = c.src ∧
      (if c.bist.todo = [] ∧ (∀ q ∈ c.bist.running, q.group = r.group) then
        k.rd0 Obj.BIST_STATE = 3 ∧ k.rd0 Obj.BIST_VALID = b2n (!c.bist.spoiled) ∧ k.rd0 Obj.BIST_RUNS = (c.rd0 Obj.BIST_RUNS + 1) % 2 ^ 32 ∧ k.bist.kind = 0
      else k.rd0 Obj.BIST_STATE = c.rd0 Obj.BIST_STATE ∧ k.rd0 Obj.BIST_VALID = c.rd0 Obj.BIST_VALID ∧ k.bist.kind = c.bist.kind))

/-- Host ports (R255, R256, R452): block lock raises and loses PORT_LINK while the lane's island runs; an ARP request for the port's own address, tagged or
not, is answered to its sender with the port's MAC address; a UDP datagram to STREAM_PORT joins the stream receiver; a frame of an unknown type is counted;
one too long, a MAC control frame and one with two tags are dropped; before CONFIG nothing is taken. The test access port (R563): with TEST_EN low every
instruction but IDCODE is BYPASS, and an unknown one always is; IDCODE answers JTAG_IDCODE; SAMPLE/PRELOAD answers what is sampled (a free value) and takes
the boundary register; EXTEST drives what was preloaded; nothing but the TAP's own registers changes; without power it answers nothing. Choices of the model
it rests on: log entries 1, 4, 129, 130, 145 and 171. -/
def Obligations.HostPortsAndTapAnswer : Prop :=
  (∀ (s : State) (dt lane : Nat) (b : List Byte), let c := s.core.advance dt
    ((c.running = false ∨ c.configReached = false ∨ 2 ≤ lane) → Does (.hostPortFrame dt lane b) s c ∧ Does (.hostPortBlockLock dt lane) s c ∧ Does (.hostPortLockLost dt lane) s c) ∧
    (c.rd Obj.ISLAND_STATE 0 (64 + lane) ≠ 2 → Does (.hostPortBlockLock dt lane) s c ∧ Does (.hostPortLockLost dt lane) s c) ∧
    (c.running = true → c.configReached = true → lane < 2 →
      (c.rd Obj.ISLAND_STATE 0 (64 + lane) = 2 →
        (∃ k, Does (.hostPortBlockLock dt lane) s k ∧ k.rd Obj.hp_PORT_LINK lane 0 = 1 ∧ k = { c with objs := k.objs }) ∧
        (∃ k, Does (.hostPortLockLost dt lane) s k ∧ k.rd Obj.hp_PORT_LINK lane 0 = 0 ∧ k = { c with objs := k.objs })) ∧
      (∀ src spa tpa tag, src.length = 6 → spa.length = 4 → tpa.length = 4 → (tag = [] ∨ ∃ v w : Byte, tag = [0x81, 0x00, v, w]) →
        b = List.replicate 6 0xFF ++ src ++ tag ++ [0x08, 0x06] ++ [0, 1, 8, 0, 6, 4, 0, 1] ++ src ++ spa ++ List.replicate 6 0 ++ tpa → c.ownV4 lane tpa = true →
        Does (.hostPortFrame dt lane b) s { c with out := ⟨.hostFrame, lane, [0x0806, (ofLe src : Int), (ofLe tpa : Int), (ofLe spa : Int)],
          [0, 1, 8, 0, 6, 4, 0, 2] ++ c.macOf lane ++ tpa ++ src ++ spa⟩ :: c.out }) ∧
      (∀ head ip udp : List Byte, head.length = 12 → ip.length = 20 → 8 ≤ udp.length → b.length ≤ 9014 → b = head ++ [0x08, 0x00] ++ ip ++ udp →
        nth 0 ip 0 = 0x45 → ofBe ((ip.drop 2).take 2) = 20 + udp.length → ofBe ((ip.drop 6).take 2) % 16384 = 0 → nth 0 ip 9 = 17 → foldSum (wordSum ip) = 65535 → c.ownV4 lane ((ip.drop 16).take 4) = true →
        (udp.drop 6).take 2 = [0, 0] → ofBe ((udp.drop 2).take 2) = c.netVal Obj.STREAM_PORT 0 →
        Does (.hostPortFrame dt lane b) s (c.dataDatagram lane (ofLe ([0, 0, 0, 0, 0, 0, 0, 0, 0, 0, 0xFF, 0xFF] ++ (ip.drop 12).take 4)) (ofBe (udp.take 2)) ((udp.drop 8).take (ofBe ((udp.drop 4).take 2) - 8)))) ∧
      (b.length ≤ 9014 → (let t := ofBe ((b.drop 12).take 2); t ≠ 0x8100 ∧ t ≠ 0x8808 ∧ t ≠ 0x0806 ∧ t ≠ 0x0800 ∧ t ≠ 0x86DD) → Does (.hostPortFrame dt lane b) s (c.inc Obj.DGRAM_DISCARDS 0 0 1)) ∧
      ((9014 < b.length ∨ ofBe ((b.drop 12).take 2) = 0x8808 ∨ (ofBe ((b.drop 12).take 2) = 0x8100 ∧ (ofBe ((b.drop 16).take 2) = 0x8100 ∨ ofBe ((b.drop 16).take 2) = 0x8808))) → Does (.hostPortFrame dt lane b) s c))) ∧
  (∀ (s : State) (dt ir boundary : Nat), let c := s.core.advance dt
    (c.tapOn = false → Does (.tapInstruction dt ir boundary) s c) ∧
    (c.tapOn = true →
      (ir = 1 → Does (.tapInstruction dt ir boundary) s { c with tapIr := 1, out := ⟨.tdo, 1, [(jtagIdcode : Int)], []⟩ :: c.out }) ∧
      (ir ≠ 1 → (c.testEn = false ∨ (ir ≠ 2 ∧ ir ≠ 3)) → Does (.tapInstruction dt ir boundary) s { c with tapIr := 0, out := ⟨.tdo, 0, [], []⟩ :: c.out }) ∧
      (c.testEn = true → ir = 2 → ∃ v : Nat, Does (.tapInstruction dt ir boundary) s
        { c with tapIr := 2, tapBoundary := boundary, freeCount := c.freeCount + 1, out := ⟨.tdo, 2, [(v : Int)], []⟩ :: c.out }) ∧
      (c.testEn = true → ir = 3 → Does (.tapInstruction dt ir boundary) s { c with tapIr := 3, tapBoundary := boundary, out := ⟨.tdo, 3, [(boundary : Int)], []⟩ :: c.out })))
end

