-- ==== Sys2Proof/Laws/Memory.lean ====
section
/-! SUPPORT. The addressed memory: every operation keeps its canonical form; a byte written reads back and leaves every other byte alone. -/

namespace Sys2Proof.Laws
open Sys2Proof.Machine

theorem memory_above_mono (m : List Host.Cell) (lo hi : Nat) (h : lo ≤ hi) (w : Memory.above hi m = true) : Memory.above lo m = true := by
  cases m with
  | nil => rfl
  | cons p t =>
    obtain ⟨a, v⟩ := p
    simp only [Memory.above, Bool.and_eq_true, decide_eq_true_eq] at w ⊢
    exact ⟨⟨by omega, w.1.2⟩, w.2⟩

/-- Below its first address a memory in canonical form reads as blank. -/
theorem memory_get_below (m : List Host.Cell) (lo a : Nat) (w : Memory.above lo m = true) (h : a < lo) : Memory.get m a = Memory.blank := by
  induction m generalizing lo with
  | nil => rfl
  | cons p t ih =>
    obtain ⟨b, v⟩ := p
    simp only [Memory.above, Bool.and_eq_true, decide_eq_true_eq] at w
    have hb : ¬ b = a := by omega
    simp only [Memory.get, hb, if_false]
    exact ih (b + 1) w.2 (by omega)

theorem memory_above_set (m : List Host.Cell) (lo a : Nat) (v : Byte) (w : Memory.above lo m = true) (h : lo ≤ a) : Memory.above lo (Memory.set m a v) = true := by
  induction m generalizing lo with
  | nil =>
    unfold Memory.set
    by_cases hv : v = Memory.blank
    · simp [hv, Memory.above]
    · simp [hv, Memory.above, h]
  | cons p t ih =>
    obtain ⟨b, u⟩ := p
    have w' := w
    simp only [Memory.above, Bool.and_eq_true, decide_eq_true_eq] at w
    unfold Memory.set
    by_cases h1 : a < b
    · simp only [h1, if_true]
      by_cases hv : v = Memory.blank
      · simp only [hv, if_true]; exact w'
      · simp only [hv, if_false, Memory.above, Bool.and_eq_true, decide_eq_true_eq]
        exact ⟨⟨h, hv⟩, ⟨by omega, w.1.2⟩, w.2⟩
    · simp only [h1, if_false]
      by_cases h2 : a = b
      · simp only [h2, if_true]
        by_cases hv : v = Memory.blank
        · simp only [hv, if_true]; exact memory_above_mono t lo (b + 1) (by omega) w.2
        · simp only [hv, if_false, Memory.above, Bool.and_eq_true, decide_eq_true_eq]
          exact ⟨⟨by omega, hv⟩, w.2⟩
      · simp only [h2, if_false, Memory.above, Bool.and_eq_true, decide_eq_true_eq]
        exact ⟨w.1, ih (b + 1) w.2 (by omega)⟩

/-- Writing a byte keeps the canonical form. -/
theorem memory_wf_set (m : List Host.Cell) (a : Nat) (v : Byte) (w : Memory.wf m = true) : Memory.wf (Memory.set m a v) = true :=
  memory_above_set m 0 a v w (Nat.zero_le a)

/-- Writing bytes keeps the canonical form. -/
theorem memory_wf_write (l : List Byte) (m : List Host.Cell) (a : Nat) (w : Memory.wf m = true) : Memory.wf (Memory.write m a l) = true := by
  induction l generalizing m a with
  | nil => exact w
  | cons b t ih => exact ih (Memory.set m a b) (a + 1) (memory_wf_set m a b w)

theorem memory_above_clear (m : List Host.Cell) (lo a b : Nat) (w : Memory.above lo m = true) : Memory.above lo (Memory.clear m a b) = true := by
  induction m generalizing lo with
  | nil => rfl
  | cons p t ih =>
    obtain ⟨c, v⟩ := p
    simp only [Memory.above, Bool.and_eq_true, decide_eq_true_eq] at w
    unfold Memory.clear
    rw [List.filter_cons]
    split
    · simp only [Memory.above, Bool.and_eq_true, decide_eq_true_eq]
      exact ⟨w.1, ih (c + 1) w.2⟩
    · exact memory_above_mono _ lo (c + 1) (by omega) (ih (c + 1) w.2)

/-- Clearing a range keeps the canonical form. -/
theorem memory_wf_clear (m : List Host.Cell) (a b : Nat) (w : Memory.wf m = true) : Memory.wf (Memory.clear m a b) = true :=
  memory_above_clear m 0 a b w

/-- Storing bytes through any view keeps the canonical form. -/
theorem memory_wf_storeAt (s : Core) (m : List Host.Cell) (a : Nat) (l : List Byte) (w : Memory.wf m = true) : Memory.wf (s.storeAt m a l) = true := by
  unfold Core.storeAt
  dsimp only
  split
  · exact w
  · exact memory_wf_write _ m _ w
  · exact memory_wf_write _ m _ w
  · exact memory_wf_write _ m _ w

/-- A byte written reads back. -/
theorem memory_get_set_of_above (m : List Host.Cell) (lo a : Nat) (v : Byte) (w : Memory.above lo m = true) : Memory.get (Memory.set m a v) a = v := by
  induction m generalizing lo with
  | nil =>
    unfold Memory.set
    by_cases hv : v = Memory.blank
    · simp [hv, Memory.get]
    · simp [hv, Memory.get]
  | cons p t ih =>
    obtain ⟨b, u⟩ := p
    simp only [Memory.above, Bool.and_eq_true, decide_eq_true_eq] at w
    unfold Memory.set
    by_cases h1 : a < b
    · have hb : ¬ b = a := by omega
      by_cases hv : v = Memory.blank
      · simp only [h1, hv, if_true, Memory.get, hb, if_false]
        exact memory_get_below t (b + 1) a w.2 (by omega)
      · simp [h1, hv, Memory.get]
    · by_cases h2 : a = b
      · subst h2
        by_cases hv : v = Memory.blank
        · simp only [h1, hv, if_true, if_false]
          exact memory_get_below t (a + 1) a w.2 (by omega)
        · simp [hv, Memory.get]
      · have hb : ¬ b = a := fun e => h2 e.symm
        simp only [h1, h2, if_false, Memory.get, hb]
        exact ih (b + 1) w.2

theorem memory_get_set (m : List Host.Cell) (a : Nat) (v : Byte) (w : Memory.wf m = true) : Memory.get (Memory.set m a v) a = v :=
  memory_get_set_of_above m 0 a v w

/-- A byte written leaves every other byte as it was. -/
theorem memory_get_set_ne (m : List Host.Cell) (a b : Nat) (v : Byte) (h : b ≠ a) : Memory.get (Memory.set m a v) b = Memory.get m b := by
  have ha : ¬ a = b := fun e => h e.symm
  induction m with
  | nil =>
    unfold Memory.set
    by_cases hv : v = Memory.blank
    · simp [hv]
    · simp [hv, Memory.get, ha]
  | cons p t ih =>
    obtain ⟨c, u⟩ := p
    unfold Memory.set
    by_cases h1 : a < c
    · by_cases hv : v = Memory.blank
      · simp [h1, hv]
      · simp [h1, hv, Memory.get, ha]
    · by_cases h2 : a = c
      · subst h2
        by_cases hv : v = Memory.blank
        · simp [hv, Memory.get, ha]
        · simp [hv, Memory.get, ha]
      · simp [h1, h2, Memory.get, ih]

/-- Bytes written leave every byte outside them as it was. -/
theorem memory_get_write_outside (l : List Byte) (m : List Host.Cell) (a b : Nat) (h : b < a ∨ a + l.length ≤ b) :
    Memory.get (Memory.write m a l) b = Memory.get m b := by
  induction l generalizing m a with
  | nil => rfl
  | cons x t ih =>
    simp only [List.length_cons] at h
    have e : Memory.write m a (x :: t) = Memory.write (Memory.set m a x) (a + 1) t := rfl
    rw [e, ih (Memory.set m a x) (a + 1) (by omega), memory_get_set_ne m a b x (by omega)]

/-- A cleared range reads as blank. -/
theorem memory_get_clear_inside (m : List Host.Cell) (a b i : Nat) (h1 : a ≤ i) (h2 : i < b) : Memory.get (Memory.clear m a b) i = Memory.blank := by
  induction m with
  | nil => rfl
  | cons p t ih =>
    obtain ⟨c, v⟩ := p
    unfold Memory.clear
    rw [List.filter_cons]
    split
    · rename_i h
      simp only [decide_eq_true_eq] at h
      have hc : ¬ c = i := by omega
      simp only [Memory.get, hc, if_false]
      exact ih
    · exact ih

/-- Clearing leaves every byte outside the range as it was. -/
theorem memory_get_clear_outside (m : List Host.Cell) (a b i : Nat) (h : i < a ∨ b ≤ i) : Memory.get (Memory.clear m a b) i = Memory.get m i := by
  induction m with
  | nil => rfl
  | cons p t ih =>
    obtain ⟨c, v⟩ := p
    unfold Memory.clear
    rw [List.filter_cons]
    split
    · simp only [Memory.get]
      split
      · rfl
      · exact ih
    · rename_i h'
      simp only [decide_eq_true_eq] at h'
      have hc : ¬ c = i := by omega
      simp only [Memory.get, hc, if_false]
      exact ih

end Sys2Proof.Laws
end

