-- ==== Sys2Proof/Laws/State.lean ====
section
/-! SUPPORT. What each update of the block does to each field of Core: one rewriting lemma per field, so that no later proof unfolds an update. -/

namespace Sys2Proof.Laws
open Sys2Proof.Machine

variable (s : Core)

/-- Storing a value changes the objects, and of the rest only what is noted for the journal. -/
theorem wr_frame (o : Ob) (i j v : Nat) :
    s.wr o i j v = { s with objs := Tab.set s.objs (o.key i j) (o.fit v), dirty := (s.wr o i j v).dirty, dirtySince := (s.wr o i j v).dirtySince } := by
  unfold Core.wr Core.markDirty
  dsimp only
  split <;> rfl

/-! ### Core.advance -/

@[simp] theorem advance_clk (dt : Nat) : (s.advance dt).clk = s.clk + dt := rfl
@[simp] theorem advance_ftAcc (dt : Nat) : (s.advance dt).ftAcc = s.ftAcc + dt * (4294967296 + s.rdI Obj.FT_TRIM 0 0).toNat := rfl
@[simp] theorem advance_mode (dt : Nat) : (s.advance dt).mode = s.mode := rfl
@[simp] theorem advance_phase (dt : Nat) : (s.advance dt).phase = s.phase := rfl
@[simp] theorem advance_configReached (dt : Nat) : (s.advance dt).configReached = s.configReached := rfl
@[simp] theorem advance_objs (dt : Nat) : (s.advance dt).objs = s.objs := rfl
@[simp] theorem advance_comp (dt : Nat) : (s.advance dt).comp = s.comp := rfl
@[simp] theorem advance_dirty (dt : Nat) : (s.advance dt).dirty = s.dirty := rfl
@[simp] theorem advance_dirtySince (dt : Nat) : (s.advance dt).dirtySince = s.dirtySince := rfl
@[simp] theorem advance_journal (dt : Nat) : (s.advance dt).journal = s.journal := rfl
@[simp] theorem advance_journalFailing (dt : Nat) : (s.advance dt).journalFailing = s.journalFailing := rfl
@[simp] theorem advance_src (dt : Nat) : (s.advance dt).src = s.src := rfl
@[simp] theorem advance_log (dt : Nat) : (s.advance dt).log = s.log := rfl
@[simp] theorem advance_logRet (dt : Nat) : (s.advance dt).logRet = s.logRet := rfl
@[simp] theorem advance_alsoRaise (dt : Nat) : (s.advance dt).alsoRaise = s.alsoRaise := rfl
@[simp] theorem advance_safeSince (dt : Nat) : (s.advance dt).safeSince = s.safeSince := rfl
@[simp] theorem advance_wdogExpired (dt : Nat) : (s.advance dt).wdogExpired = s.wdogExpired := rfl
@[simp] theorem advance_sess (dt : Nat) : (s.advance dt).sess = s.sess := rfl
@[simp] theorem advance_txnId (dt : Nat) : (s.advance dt).txnId = s.txnId := rfl
@[simp] theorem advance_noSess (dt : Nat) : (s.advance dt).noSess = s.noSess := rfl
@[simp] theorem advance_stop (dt : Nat) : (s.advance dt).stop = s.stop := rfl
@[simp] theorem advance_out (dt : Nat) : (s.advance dt).out = s.out := rfl
@[simp] theorem advance_lastStatus (dt : Nat) : (s.advance dt).lastStatus = s.lastStatus := rfl
@[simp] theorem advance_timers (dt : Nat) : (s.advance dt).timers = s.timers := rfl
@[simp] theorem advance_freeCount (dt : Nat) : (s.advance dt).freeCount = s.freeCount := rfl
@[simp] theorem advance_chans (dt : Nat) : (s.advance dt).chans = s.chans := rfl
@[simp] theorem advance_tacks (dt : Nat) : (s.advance dt).tacks = s.tacks := rfl
@[simp] theorem advance_pred (dt : Nat) : (s.advance dt).pred = s.pred := rfl
@[simp] theorem advance_ports (dt : Nat) : (s.advance dt).ports = s.ports := rfl
@[simp] theorem advance_pages (dt : Nat) : (s.advance dt).pages = s.pages := rfl
@[simp] theorem advance_job (dt : Nat) : (s.advance dt).job = s.job := rfl
@[simp] theorem advance_staged (dt : Nat) : (s.advance dt).staged = s.staged := rfl
@[simp] theorem advance_decided (dt : Nat) : (s.advance dt).decided = s.decided := rfl
@[simp] theorem advance_hold (dt : Nat) : (s.advance dt).hold = s.hold := rfl
@[simp] theorem advance_spit (dt : Nat) : (s.advance dt).spit = s.spit := rfl
@[simp] theorem advance_colTop (dt : Nat) : (s.advance dt).colTop = s.colTop := rfl
@[simp] theorem advance_bobCycles (dt : Nat) : (s.advance dt).bobCycles = s.bobCycles := rfl
@[simp] theorem advance_lanes (dt : Nat) : (s.advance dt).lanes = s.lanes := rfl
@[simp] theorem advance_comet (dt : Nat) : (s.advance dt).comet = s.comet := rfl
@[simp] theorem advance_headStep (dt : Nat) : (s.advance dt).headStep = s.headStep := rfl
@[simp] theorem advance_fseq (dt : Nat) : (s.advance dt).fseq = s.fseq := rfl
@[simp] theorem advance_ringTx (dt : Nat) : (s.advance dt).ringTx = s.ringTx := rfl
@[simp] theorem advance_stage (dt : Nat) : (s.advance dt).stage = s.stage := rfl
@[simp] theorem advance_thimJ (dt : Nat) : (s.advance dt).thimJ = s.thimJ := rfl
@[simp] theorem advance_orphanAge (dt : Nat) : (s.advance dt).orphanAge = s.orphanAge := rfl
@[simp] theorem advance_measPending (dt : Nat) : (s.advance dt).measPending = s.measPending := rfl
@[simp] theorem advance_jsPending (dt : Nat) : (s.advance dt).jsPending = s.jsPending := rfl
@[simp] theorem advance_jsRunning (dt : Nat) : (s.advance dt).jsRunning = s.jsRunning := rfl
@[simp] theorem advance_jsStart (dt : Nat) : (s.advance dt).jsStart = s.jsStart := rfl
@[simp] theorem advance_afe (dt : Nat) : (s.advance dt).afe = s.afe := rfl
@[simp] theorem advance_afeRef (dt : Nat) : (s.advance dt).afeRef = s.afeRef := rfl
@[simp] theorem advance_meas (dt : Nat) : (s.advance dt).meas = s.meas := rfl
@[simp] theorem advance_prevTemp (dt : Nat) : (s.advance dt).prevTemp = s.prevTemp := rfl
@[simp] theorem advance_hsRuns (dt : Nat) : (s.advance dt).hsRuns = s.hsRuns := rfl
@[simp] theorem advance_slotKeys (dt : Nat) : (s.advance dt).slotKeys = s.slotKeys := rfl
@[simp] theorem advance_roleKeys (dt : Nat) : (s.advance dt).roleKeys = s.roleKeys := rfl
@[simp] theorem advance_sweepDead (dt : Nat) : (s.advance dt).sweepDead = s.sweepDead := rfl
@[simp] theorem advance_sweepOk (dt : Nat) : (s.advance dt).sweepOk = s.sweepOk := rfl
@[simp] theorem advance_ringSweep (dt : Nat) : (s.advance dt).ringSweep = s.ringSweep := rfl
@[simp] theorem advance_ringSweepLast (dt : Nat) : (s.advance dt).ringSweepLast = s.ringSweepLast := rfl
@[simp] theorem advance_doneTop (dt : Nat) : (s.advance dt).doneTop = s.doneTop := rfl
@[simp] theorem advance_decs (dt : Nat) : (s.advance dt).decs = s.decs := rfl
@[simp] theorem advance_stream (dt : Nat) : (s.advance dt).stream = s.stream := rfl
@[simp] theorem advance_measDue (dt : Nat) : (s.advance dt).measDue = s.measDue := rfl
@[simp] theorem advance_dma (dt : Nat) : (s.advance dt).dma = s.dma := rfl
@[simp] theorem advance_dmaLast (dt : Nat) : (s.advance dt).dmaLast = s.dmaLast := rfl
@[simp] theorem advance_dmaTop (dt : Nat) : (s.advance dt).dmaTop = s.dmaTop := rfl
@[simp] theorem advance_badWords (dt : Nat) : (s.advance dt).badWords = s.badWords := rfl
@[simp] theorem advance_handing (dt : Nat) : (s.advance dt).handing = s.handing := rfl
@[simp] theorem advance_dramEcc (dt : Nat) : (s.advance dt).dramEcc = s.dramEcc := rfl
@[simp] theorem advance_basteNext (dt : Nat) : (s.advance dt).basteNext = s.basteNext := rfl
@[simp] theorem advance_basteTries (dt : Nat) : (s.advance dt).basteTries = s.basteTries := rfl
@[simp] theorem advance_basteAt (dt : Nat) : (s.advance dt).basteAt = s.basteAt := rfl
@[simp] theorem advance_basteDone (dt : Nat) : (s.advance dt).basteDone = s.basteDone := rfl
@[simp] theorem advance_mot (dt : Nat) : (s.advance dt).mot = s.mot := rfl
@[simp] theorem advance_ring (dt : Nat) : (s.advance dt).ring = s.ring := rfl
@[simp] theorem advance_ptp (dt : Nat) : (s.advance dt).ptp = s.ptp := rfl
@[simp] theorem advance_pair (dt : Nat) : (s.advance dt).pair = s.pair := rfl
@[simp] theorem advance_netUsed (dt : Nat) : (s.advance dt).netUsed = s.netUsed := rfl
@[simp] theorem advance_hwAt (dt : Nat) : (s.advance dt).hwAt = s.hwAt := rfl
@[simp] theorem advance_bumps (dt : Nat) : (s.advance dt).bumps = s.bumps := rfl
@[simp] theorem advance_bumpAt (dt : Nat) : (s.advance dt).bumpAt = s.bumpAt := rfl
@[simp] theorem advance_rawRegs (dt : Nat) : (s.advance dt).rawRegs = s.rawRegs := rfl
@[simp] theorem advance_bist (dt : Nat) : (s.advance dt).bist = s.bist := rfl
@[simp] theorem advance_wantReady (dt : Nat) : (s.advance dt).wantReady = s.wantReady := rfl
@[simp] theorem advance_stopCap (dt : Nat) : (s.advance dt).stopCap = s.stopCap := rfl
@[simp] theorem advance_headSources (dt : Nat) : (s.advance dt).headSources = s.headSources := rfl
@[simp] theorem advance_railWait (dt : Nat) : (s.advance dt).railWait = s.railWait := rfl
@[simp] theorem advance_causes (dt : Nat) : (s.advance dt).causes = s.causes := rfl
@[simp] theorem advance_resetLow (dt : Nat) : (s.advance dt).resetLow = s.resetLow := rfl
@[simp] theorem advance_fromRetain (dt : Nat) : (s.advance dt).fromRetain = s.fromRetain := rfl
@[simp] theorem advance_islandsDown (dt : Nat) : (s.advance dt).islandsDown = s.islandsDown := rfl
@[simp] theorem advance_driftRaised (dt : Nat) : (s.advance dt).driftRaised = s.driftRaised := rfl
@[simp] theorem advance_bistWasCut (dt : Nat) : (s.advance dt).bistWasCut = s.bistWasCut := rfl
@[simp] theorem advance_testEn (dt : Nat) : (s.advance dt).testEn = s.testEn := rfl
@[simp] theorem advance_tapIr (dt : Nat) : (s.advance dt).tapIr = s.tapIr := rfl
@[simp] theorem advance_tapBoundary (dt : Nat) : (s.advance dt).tapBoundary = s.tapBoundary := rfl
@[simp] theorem advance_strapPorts (dt : Nat) : (s.advance dt).strapPorts = s.strapPorts := rfl

/-! ### Core.arm -/

@[simp] theorem arm_clk (x : Timer) (i d : Nat) : (s.arm x i d).clk = s.clk := rfl
@[simp] theorem arm_ftAcc (x : Timer) (i d : Nat) : (s.arm x i d).ftAcc = s.ftAcc := rfl
@[simp] theorem arm_mode (x : Timer) (i d : Nat) : (s.arm x i d).mode = s.mode := rfl
@[simp] theorem arm_phase (x : Timer) (i d : Nat) : (s.arm x i d).phase = s.phase := rfl
@[simp] theorem arm_configReached (x : Timer) (i d : Nat) : (s.arm x i d).configReached = s.configReached := rfl
@[simp] theorem arm_objs (x : Timer) (i d : Nat) : (s.arm x i d).objs = s.objs := rfl
@[simp] theorem arm_comp (x : Timer) (i d : Nat) : (s.arm x i d).comp = s.comp := rfl
@[simp] theorem arm_dirty (x : Timer) (i d : Nat) : (s.arm x i d).dirty = s.dirty := rfl
@[simp] theorem arm_dirtySince (x : Timer) (i d : Nat) : (s.arm x i d).dirtySince = s.dirtySince := rfl
@[simp] theorem arm_journal (x : Timer) (i d : Nat) : (s.arm x i d).journal = s.journal := rfl
@[simp] theorem arm_journalFailing (x : Timer) (i d : Nat) : (s.arm x i d).journalFailing = s.journalFailing := rfl
@[simp] theorem arm_src (x : Timer) (i d : Nat) : (s.arm x i d).src = s.src := rfl
@[simp] theorem arm_log (x : Timer) (i d : Nat) : (s.arm x i d).log = s.log := rfl
@[simp] theorem arm_logRet (x : Timer) (i d : Nat) : (s.arm x i d).logRet = s.logRet := rfl
@[simp] theorem arm_alsoRaise (x : Timer) (i d : Nat) : (s.arm x i d).alsoRaise = s.alsoRaise := rfl
@[simp] theorem arm_safeSince (x : Timer) (i d : Nat) : (s.arm x i d).safeSince = s.safeSince := rfl
@[simp] theorem arm_wdogExpired (x : Timer) (i d : Nat) : (s.arm x i d).wdogExpired = s.wdogExpired := rfl
@[simp] theorem arm_sess (x : Timer) (i d : Nat) : (s.arm x i d).sess = s.sess := rfl
@[simp] theorem arm_txnId (x : Timer) (i d : Nat) : (s.arm x i d).txnId = s.txnId := rfl
@[simp] theorem arm_noSess (x : Timer) (i d : Nat) : (s.arm x i d).noSess = s.noSess := rfl
@[simp] theorem arm_stop (x : Timer) (i d : Nat) : (s.arm x i d).stop = s.stop := rfl
@[simp] theorem arm_out (x : Timer) (i d : Nat) : (s.arm x i d).out = s.out := rfl
@[simp] theorem arm_lastStatus (x : Timer) (i d : Nat) : (s.arm x i d).lastStatus = s.lastStatus := rfl
@[simp] theorem arm_timers (x : Timer) (i d : Nat) : (s.arm x i d).timers = Tab.set s.timers (timerKey x i) (s.clk + d) := rfl
@[simp] theorem arm_freeCount (x : Timer) (i d : Nat) : (s.arm x i d).freeCount = s.freeCount := rfl
@[simp] theorem arm_chans (x : Timer) (i d : Nat) : (s.arm x i d).chans = s.chans := rfl
@[simp] theorem arm_tacks (x : Timer) (i d : Nat) : (s.arm x i d).tacks = s.tacks := rfl
@[simp] theorem arm_pred (x : Timer) (i d : Nat) : (s.arm x i d).pred = s.pred := rfl
@[simp] theorem arm_ports (x : Timer) (i d : Nat) : (s.arm x i d).ports = s.ports := rfl
@[simp] theorem arm_pages (x : Timer) (i d : Nat) : (s.arm x i d).pages = s.pages := rfl
@[simp] theorem arm_job (x : Timer) (i d : Nat) : (s.arm x i d).job = s.job := rfl
@[simp] theorem arm_staged (x : Timer) (i d : Nat) : (s.arm x i d).staged = s.staged := rfl
@[simp] theorem arm_decided (x : Timer) (i d : Nat) : (s.arm x i d).decided = s.decided := rfl
@[simp] theorem arm_hold (x : Timer) (i d : Nat) : (s.arm x i d).hold = s.hold := rfl
@[simp] theorem arm_spit (x : Timer) (i d : Nat) : (s.arm x i d).spit = s.spit := rfl
@[simp] theorem arm_colTop (x : Timer) (i d : Nat) : (s.arm x i d).colTop = s.colTop := rfl
@[simp] theorem arm_bobCycles (x : Timer) (i d : Nat) : (s.arm x i d).bobCycles = s.bobCycles := rfl
@[simp] theorem arm_lanes (x : Timer) (i d : Nat) : (s.arm x i d).lanes = s.lanes := rfl
@[simp] theorem arm_comet (x : Timer) (i d : Nat) : (s.arm x i d).comet = s.comet := rfl
@[simp] theorem arm_headStep (x : Timer) (i d : Nat) : (s.arm x i d).headStep = s.headStep := rfl
@[simp] theorem arm_fseq (x : Timer) (i d : Nat) : (s.arm x i d).fseq = s.fseq := rfl
@[simp] theorem arm_ringTx (x : Timer) (i d : Nat) : (s.arm x i d).ringTx = s.ringTx := rfl
@[simp] theorem arm_stage (x : Timer) (i d : Nat) : (s.arm x i d).stage = s.stage := rfl
@[simp] theorem arm_thimJ (x : Timer) (i d : Nat) : (s.arm x i d).thimJ = s.thimJ := rfl
@[simp] theorem arm_orphanAge (x : Timer) (i d : Nat) : (s.arm x i d).orphanAge = s.orphanAge := rfl
@[simp] theorem arm_measPending (x : Timer) (i d : Nat) : (s.arm x i d).measPending = s.measPending := rfl
@[simp] theorem arm_jsPending (x : Timer) (i d : Nat) : (s.arm x i d).jsPending = s.jsPending := rfl
@[simp] theorem arm_jsRunning (x : Timer) (i d : Nat) : (s.arm x i d).jsRunning = s.jsRunning := rfl
@[simp] theorem arm_jsStart (x : Timer) (i d : Nat) : (s.arm x i d).jsStart = s.jsStart := rfl
@[simp] theorem arm_afe (x : Timer) (i d : Nat) : (s.arm x i d).afe = s.afe := rfl
@[simp] theorem arm_afeRef (x : Timer) (i d : Nat) : (s.arm x i d).afeRef = s.afeRef := rfl
@[simp] theorem arm_meas (x : Timer) (i d : Nat) : (s.arm x i d).meas = s.meas := rfl
@[simp] theorem arm_prevTemp (x : Timer) (i d : Nat) : (s.arm x i d).prevTemp = s.prevTemp := rfl
@[simp] theorem arm_hsRuns (x : Timer) (i d : Nat) : (s.arm x i d).hsRuns = s.hsRuns := rfl
@[simp] theorem arm_slotKeys (x : Timer) (i d : Nat) : (s.arm x i d).slotKeys = s.slotKeys := rfl
@[simp] theorem arm_roleKeys (x : Timer) (i d : Nat) : (s.arm x i d).roleKeys = s.roleKeys := rfl
@[simp] theorem arm_sweepDead (x : Timer) (i d : Nat) : (s.arm x i d).sweepDead = s.sweepDead := rfl
@[simp] theorem arm_sweepOk (x : Timer) (i d : Nat) : (s.arm x i d).sweepOk = s.sweepOk := rfl
@[simp] theorem arm_ringSweep (x : Timer) (i d : Nat) : (s.arm x i d).ringSweep = s.ringSweep := rfl
@[simp] theorem arm_ringSweepLast (x : Timer) (i d : Nat) : (s.arm x i d).ringSweepLast = s.ringSweepLast := rfl
@[simp] theorem arm_doneTop (x : Timer) (i d : Nat) : (s.arm x i d).doneTop = s.doneTop := rfl
@[simp] theorem arm_decs (x : Timer) (i d : Nat) : (s.arm x i d).decs = s.decs := rfl
@[simp] theorem arm_stream (x : Timer) (i d : Nat) : (s.arm x i d).stream = s.stream := rfl
@[simp] theorem arm_measDue (x : Timer) (i d : Nat) : (s.arm x i d).measDue = s.measDue := rfl
@[simp] theorem arm_dma (x : Timer) (i d : Nat) : (s.arm x i d).dma = s.dma := rfl
@[simp] theorem arm_dmaLast (x : Timer) (i d : Nat) : (s.arm x i d).dmaLast = s.dmaLast := rfl
@[simp] theorem arm_dmaTop (x : Timer) (i d : Nat) : (s.arm x i d).dmaTop = s.dmaTop := rfl
@[simp] theorem arm_badWords (x : Timer) (i d : Nat) : (s.arm x i d).badWords = s.badWords := rfl
@[simp] theorem arm_handing (x : Timer) (i d : Nat) : (s.arm x i d).handing = s.handing := rfl
@[simp] theorem arm_dramEcc (x : Timer) (i d : Nat) : (s.arm x i d).dramEcc = s.dramEcc := rfl
@[simp] theorem arm_basteNext (x : Timer) (i d : Nat) : (s.arm x i d).basteNext = s.basteNext := rfl
@[simp] theorem arm_basteTries (x : Timer) (i d : Nat) : (s.arm x i d).basteTries = s.basteTries := rfl
@[simp] theorem arm_basteAt (x : Timer) (i d : Nat) : (s.arm x i d).basteAt = s.basteAt := rfl
@[simp] theorem arm_basteDone (x : Timer) (i d : Nat) : (s.arm x i d).basteDone = s.basteDone := rfl
@[simp] theorem arm_mot (x : Timer) (i d : Nat) : (s.arm x i d).mot = s.mot := rfl
@[simp] theorem arm_ring (x : Timer) (i d : Nat) : (s.arm x i d).ring = s.ring := rfl
@[simp] theorem arm_ptp (x : Timer) (i d : Nat) : (s.arm x i d).ptp = s.ptp := rfl
@[simp] theorem arm_pair (x : Timer) (i d : Nat) : (s.arm x i d).pair = s.pair := rfl
@[simp] theorem arm_netUsed (x : Timer) (i d : Nat) : (s.arm x i d).netUsed = s.netUsed := rfl
@[simp] theorem arm_hwAt (x : Timer) (i d : Nat) : (s.arm x i d).hwAt = s.hwAt := rfl
@[simp] theorem arm_bumps (x : Timer) (i d : Nat) : (s.arm x i d).bumps = s.bumps := rfl
@[simp] theorem arm_bumpAt (x : Timer) (i d : Nat) : (s.arm x i d).bumpAt = s.bumpAt := rfl
@[simp] theorem arm_rawRegs (x : Timer) (i d : Nat) : (s.arm x i d).rawRegs = s.rawRegs := rfl
@[simp] theorem arm_bist (x : Timer) (i d : Nat) : (s.arm x i d).bist = s.bist := rfl
@[simp] theorem arm_wantReady (x : Timer) (i d : Nat) : (s.arm x i d).wantReady = s.wantReady := rfl
@[simp] theorem arm_stopCap (x : Timer) (i d : Nat) : (s.arm x i d).stopCap = s.stopCap := rfl
@[simp] theorem arm_headSources (x : Timer) (i d : Nat) : (s.arm x i d).headSources = s.headSources := rfl
@[simp] theorem arm_railWait (x : Timer) (i d : Nat) : (s.arm x i d).railWait = s.railWait := rfl
@[simp] theorem arm_causes (x : Timer) (i d : Nat) : (s.arm x i d).causes = s.causes := rfl
@[simp] theorem arm_resetLow (x : Timer) (i d : Nat) : (s.arm x i d).resetLow = s.resetLow := rfl
@[simp] theorem arm_fromRetain (x : Timer) (i d : Nat) : (s.arm x i d).fromRetain = s.fromRetain := rfl
@[simp] theorem arm_islandsDown (x : Timer) (i d : Nat) : (s.arm x i d).islandsDown = s.islandsDown := rfl
@[simp] theorem arm_driftRaised (x : Timer) (i d : Nat) : (s.arm x i d).driftRaised = s.driftRaised := rfl
@[simp] theorem arm_bistWasCut (x : Timer) (i d : Nat) : (s.arm x i d).bistWasCut = s.bistWasCut := rfl
@[simp] theorem arm_testEn (x : Timer) (i d : Nat) : (s.arm x i d).testEn = s.testEn := rfl
@[simp] theorem arm_tapIr (x : Timer) (i d : Nat) : (s.arm x i d).tapIr = s.tapIr := rfl
@[simp] theorem arm_tapBoundary (x : Timer) (i d : Nat) : (s.arm x i d).tapBoundary = s.tapBoundary := rfl
@[simp] theorem arm_strapPorts (x : Timer) (i d : Nat) : (s.arm x i d).strapPorts = s.strapPorts := rfl

/-! ### Core.disarm -/

@[simp] theorem disarm_clk (x : Timer) (i : Nat) : (s.disarm x i).clk = s.clk := rfl
@[simp] theorem disarm_ftAcc (x : Timer) (i : Nat) : (s.disarm x i).ftAcc = s.ftAcc := rfl
@[simp] theorem disarm_mode (x : Timer) (i : Nat) : (s.disarm x i).mode = s.mode := rfl
@[simp] theorem disarm_phase (x : Timer) (i : Nat) : (s.disarm x i).phase = s.phase := rfl
@[simp] theorem disarm_configReached (x : Timer) (i : Nat) : (s.disarm x i).configReached = s.configReached := rfl
@[simp] theorem disarm_objs (x : Timer) (i : Nat) : (s.disarm x i).objs = s.objs := rfl
@[simp] theorem disarm_comp (x : Timer) (i : Nat) : (s.disarm x i).comp = s.comp := rfl
@[simp] theorem disarm_dirty (x : Timer) (i : Nat) : (s.disarm x i).dirty = s.dirty := rfl
@[simp] theorem disarm_dirtySince (x : Timer) (i : Nat) : (s.disarm x i).dirtySince = s.dirtySince := rfl
@[simp] theorem disarm_journal (x : Timer) (i : Nat) : (s.disarm x i).journal = s.journal := rfl
@[simp] theorem disarm_journalFailing (x : Timer) (i : Nat) : (s.disarm x i).journalFailing = s.journalFailing := rfl
@[simp] theorem disarm_src (x : Timer) (i : Nat) : (s.disarm x i).src = s.src := rfl
@[simp] theorem disarm_log (x : Timer) (i : Nat) : (s.disarm x i).log = s.log := rfl
@[simp] theorem disarm_logRet (x : Timer) (i : Nat) : (s.disarm x i).logRet = s.logRet := rfl
@[simp] theorem disarm_alsoRaise (x : Timer) (i : Nat) : (s.disarm x i).alsoRaise = s.alsoRaise := rfl
@[simp] theorem disarm_safeSince (x : Timer) (i : Nat) : (s.disarm x i).safeSince = s.safeSince := rfl
@[simp] theorem disarm_wdogExpired (x : Timer) (i : Nat) : (s.disarm x i).wdogExpired = s.wdogExpired := rfl
@[simp] theorem disarm_sess (x : Timer) (i : Nat) : (s.disarm x i).sess = s.sess := rfl
@[simp] theorem disarm_txnId (x : Timer) (i : Nat) : (s.disarm x i).txnId = s.txnId := rfl
@[simp] theorem disarm_noSess (x : Timer) (i : Nat) : (s.disarm x i).noSess = s.noSess := rfl
@[simp] theorem disarm_stop (x : Timer) (i : Nat) : (s.disarm x i).stop = s.stop := rfl
@[simp] theorem disarm_out (x : Timer) (i : Nat) : (s.disarm x i).out = s.out := rfl
@[simp] theorem disarm_lastStatus (x : Timer) (i : Nat) : (s.disarm x i).lastStatus = s.lastStatus := rfl
@[simp] theorem disarm_timers (x : Timer) (i : Nat) : (s.disarm x i).timers = Tab.erase s.timers (timerKey x i) := rfl
@[simp] theorem disarm_freeCount (x : Timer) (i : Nat) : (s.disarm x i).freeCount = s.freeCount := rfl
@[simp] theorem disarm_chans (x : Timer) (i : Nat) : (s.disarm x i).chans = s.chans := rfl
@[simp] theorem disarm_tacks (x : Timer) (i : Nat) : (s.disarm x i).tacks = s.tacks := rfl
@[simp] theorem disarm_pred (x : Timer) (i : Nat) : (s.disarm x i).pred = s.pred := rfl
@[simp] theorem disarm_ports (x : Timer) (i : Nat) : (s.disarm x i).ports = s.ports := rfl
@[simp] theorem disarm_pages (x : Timer) (i : Nat) : (s.disarm x i).pages = s.pages := rfl
@[simp] theorem disarm_job (x : Timer) (i : Nat) : (s.disarm x i).job = s.job := rfl
@[simp] theorem disarm_staged (x : Timer) (i : Nat) : (s.disarm x i).staged = s.staged := rfl
@[simp] theorem disarm_decided (x : Timer) (i : Nat) : (s.disarm x i).decided = s.decided := rfl
@[simp] theorem disarm_hold (x : Timer) (i : Nat) : (s.disarm x i).hold = s.hold := rfl
@[simp] theorem disarm_spit (x : Timer) (i : Nat) : (s.disarm x i).spit = s.spit := rfl
@[simp] theorem disarm_colTop (x : Timer) (i : Nat) : (s.disarm x i).colTop = s.colTop := rfl
@[simp] theorem disarm_bobCycles (x : Timer) (i : Nat) : (s.disarm x i).bobCycles = s.bobCycles := rfl
@[simp] theorem disarm_lanes (x : Timer) (i : Nat) : (s.disarm x i).lanes = s.lanes := rfl
@[simp] theorem disarm_comet (x : Timer) (i : Nat) : (s.disarm x i).comet = s.comet := rfl
@[simp] theorem disarm_headStep (x : Timer) (i : Nat) : (s.disarm x i).headStep = s.headStep := rfl
@[simp] theorem disarm_fseq (x : Timer) (i : Nat) : (s.disarm x i).fseq = s.fseq := rfl
@[simp] theorem disarm_ringTx (x : Timer) (i : Nat) : (s.disarm x i).ringTx = s.ringTx := rfl
@[simp] theorem disarm_stage (x : Timer) (i : Nat) : (s.disarm x i).stage = s.stage := rfl
@[simp] theorem disarm_thimJ (x : Timer) (i : Nat) : (s.disarm x i).thimJ = s.thimJ := rfl
@[simp] theorem disarm_orphanAge (x : Timer) (i : Nat) : (s.disarm x i).orphanAge = s.orphanAge := rfl
@[simp] theorem disarm_measPending (x : Timer) (i : Nat) : (s.disarm x i).measPending = s.measPending := rfl
@[simp] theorem disarm_jsPending (x : Timer) (i : Nat) : (s.disarm x i).jsPending = s.jsPending := rfl
@[simp] theorem disarm_jsRunning (x : Timer) (i : Nat) : (s.disarm x i).jsRunning = s.jsRunning := rfl
@[simp] theorem disarm_jsStart (x : Timer) (i : Nat) : (s.disarm x i).jsStart = s.jsStart := rfl
@[simp] theorem disarm_afe (x : Timer) (i : Nat) : (s.disarm x i).afe = s.afe := rfl
@[simp] theorem disarm_afeRef (x : Timer) (i : Nat) : (s.disarm x i).afeRef = s.afeRef := rfl
@[simp] theorem disarm_meas (x : Timer) (i : Nat) : (s.disarm x i).meas = s.meas := rfl
@[simp] theorem disarm_prevTemp (x : Timer) (i : Nat) : (s.disarm x i).prevTemp = s.prevTemp := rfl
@[simp] theorem disarm_hsRuns (x : Timer) (i : Nat) : (s.disarm x i).hsRuns = s.hsRuns := rfl
@[simp] theorem disarm_slotKeys (x : Timer) (i : Nat) : (s.disarm x i).slotKeys = s.slotKeys := rfl
@[simp] theorem disarm_roleKeys (x : Timer) (i : Nat) : (s.disarm x i).roleKeys = s.roleKeys := rfl
@[simp] theorem disarm_sweepDead (x : Timer) (i : Nat) : (s.disarm x i).sweepDead = s.sweepDead := rfl
@[simp] theorem disarm_sweepOk (x : Timer) (i : Nat) : (s.disarm x i).sweepOk = s.sweepOk := rfl
@[simp] theorem disarm_ringSweep (x : Timer) (i : Nat) : (s.disarm x i).ringSweep = s.ringSweep := rfl
@[simp] theorem disarm_ringSweepLast (x : Timer) (i : Nat) : (s.disarm x i).ringSweepLast = s.ringSweepLast := rfl
@[simp] theorem disarm_doneTop (x : Timer) (i : Nat) : (s.disarm x i).doneTop = s.doneTop := rfl
@[simp] theorem disarm_decs (x : Timer) (i : Nat) : (s.disarm x i).decs = s.decs := rfl
@[simp] theorem disarm_stream (x : Timer) (i : Nat) : (s.disarm x i).stream = s.stream := rfl
@[simp] theorem disarm_measDue (x : Timer) (i : Nat) : (s.disarm x i).measDue = s.measDue := rfl
@[simp] theorem disarm_dma (x : Timer) (i : Nat) : (s.disarm x i).dma = s.dma := rfl
@[simp] theorem disarm_dmaLast (x : Timer) (i : Nat) : (s.disarm x i).dmaLast = s.dmaLast := rfl
@[simp] theorem disarm_dmaTop (x : Timer) (i : Nat) : (s.disarm x i).dmaTop = s.dmaTop := rfl
@[simp] theorem disarm_badWords (x : Timer) (i : Nat) : (s.disarm x i).badWords = s.badWords := rfl
@[simp] theorem disarm_handing (x : Timer) (i : Nat) : (s.disarm x i).handing = s.handing := rfl
@[simp] theorem disarm_dramEcc (x : Timer) (i : Nat) : (s.disarm x i).dramEcc = s.dramEcc := rfl
@[simp] theorem disarm_basteNext (x : Timer) (i : Nat) : (s.disarm x i).basteNext = s.basteNext := rfl
@[simp] theorem disarm_basteTries (x : Timer) (i : Nat) : (s.disarm x i).basteTries = s.basteTries := rfl
@[simp] theorem disarm_basteAt (x : Timer) (i : Nat) : (s.disarm x i).basteAt = s.basteAt := rfl
@[simp] theorem disarm_basteDone (x : Timer) (i : Nat) : (s.disarm x i).basteDone = s.basteDone := rfl
@[simp] theorem disarm_mot (x : Timer) (i : Nat) : (s.disarm x i).mot = s.mot := rfl
@[simp] theorem disarm_ring (x : Timer) (i : Nat) : (s.disarm x i).ring = s.ring := rfl
@[simp] theorem disarm_ptp (x : Timer) (i : Nat) : (s.disarm x i).ptp = s.ptp := rfl
@[simp] theorem disarm_pair (x : Timer) (i : Nat) : (s.disarm x i).pair = s.pair := rfl
@[simp] theorem disarm_netUsed (x : Timer) (i : Nat) : (s.disarm x i).netUsed = s.netUsed := rfl
@[simp] theorem disarm_hwAt (x : Timer) (i : Nat) : (s.disarm x i).hwAt = s.hwAt := rfl
@[simp] theorem disarm_bumps (x : Timer) (i : Nat) : (s.disarm x i).bumps = s.bumps := rfl
@[simp] theorem disarm_bumpAt (x : Timer) (i : Nat) : (s.disarm x i).bumpAt = s.bumpAt := rfl
@[simp] theorem disarm_rawRegs (x : Timer) (i : Nat) : (s.disarm x i).rawRegs = s.rawRegs := rfl
@[simp] theorem disarm_bist (x : Timer) (i : Nat) : (s.disarm x i).bist = s.bist := rfl
@[simp] theorem disarm_wantReady (x : Timer) (i : Nat) : (s.disarm x i).wantReady = s.wantReady := rfl
@[simp] theorem disarm_stopCap (x : Timer) (i : Nat) : (s.disarm x i).stopCap = s.stopCap := rfl
@[simp] theorem disarm_headSources (x : Timer) (i : Nat) : (s.disarm x i).headSources = s.headSources := rfl
@[simp] theorem disarm_railWait (x : Timer) (i : Nat) : (s.disarm x i).railWait = s.railWait := rfl
@[simp] theorem disarm_causes (x : Timer) (i : Nat) : (s.disarm x i).causes = s.causes := rfl
@[simp] theorem disarm_resetLow (x : Timer) (i : Nat) : (s.disarm x i).resetLow = s.resetLow := rfl
@[simp] theorem disarm_fromRetain (x : Timer) (i : Nat) : (s.disarm x i).fromRetain = s.fromRetain := rfl
@[simp] theorem disarm_islandsDown (x : Timer) (i : Nat) : (s.disarm x i).islandsDown = s.islandsDown := rfl
@[simp] theorem disarm_driftRaised (x : Timer) (i : Nat) : (s.disarm x i).driftRaised = s.driftRaised := rfl
@[simp] theorem disarm_bistWasCut (x : Timer) (i : Nat) : (s.disarm x i).bistWasCut = s.bistWasCut := rfl
@[simp] theorem disarm_testEn (x : Timer) (i : Nat) : (s.disarm x i).testEn = s.testEn := rfl
@[simp] theorem disarm_tapIr (x : Timer) (i : Nat) : (s.disarm x i).tapIr = s.tapIr := rfl
@[simp] theorem disarm_tapBoundary (x : Timer) (i : Nat) : (s.disarm x i).tapBoundary = s.tapBoundary := rfl
@[simp] theorem disarm_strapPorts (x : Timer) (i : Nat) : (s.disarm x i).strapPorts = s.strapPorts := rfl

/-! ### Core.emit -/

@[simp] theorem emit_clk (k : OutKind) (p : Nat) (a : List Int) (b : List Byte) : (s.emit k p a b).clk = s.clk := rfl
@[simp] theorem emit_ftAcc (k : OutKind) (p : Nat) (a : List Int) (b : List Byte) : (s.emit k p a b).ftAcc = s.ftAcc := rfl
@[simp] theorem emit_mode (k : OutKind) (p : Nat) (a : List Int) (b : List Byte) : (s.emit k p a b).mode = s.mode := rfl
@[simp] theorem emit_phase (k : OutKind) (p : Nat) (a : List Int) (b : List Byte) : (s.emit k p a b).phase = s.phase := rfl
@[simp] theorem emit_configReached (k : OutKind) (p : Nat) (a : List Int) (b : List Byte) : (s.emit k p a b).configReached = s.configReached := rfl
@[simp] theorem emit_objs (k : OutKind) (p : Nat) (a : List Int) (b : List Byte) : (s.emit k p a b).objs = s.objs := rfl
@[simp] theorem emit_comp (k : OutKind) (p : Nat) (a : List Int) (b : List Byte) : (s.emit k p a b).comp = s.comp := rfl
@[simp] theorem emit_dirty (k : OutKind) (p : Nat) (a : List Int) (b : List Byte) : (s.emit k p a b).dirty = s.dirty := rfl
@[simp] theorem emit_dirtySince (k : OutKind) (p : Nat) (a : List Int) (b : List Byte) : (s.emit k p a b).dirtySince = s.dirtySince := rfl
@[simp] theorem emit_journal (k : OutKind) (p : Nat) (a : List Int) (b : List Byte) : (s.emit k p a b).journal = s.journal := rfl
@[simp] theorem emit_journalFailing (k : OutKind) (p : Nat) (a : List Int) (b : List Byte) : (s.emit k p a b).journalFailing = s.journalFailing := rfl
@[simp] theorem emit_src (k : OutKind) (p : Nat) (a : List Int) (b : List Byte) : (s.emit k p a b).src = s.src := rfl
@[simp] theorem emit_log (k : OutKind) (p : Nat) (a : List Int) (b : List Byte) : (s.emit k p a b).log = s.log := rfl
@[simp] theorem emit_logRet (k : OutKind) (p : Nat) (a : List Int) (b : List Byte) : (s.emit k p a b).logRet = s.logRet := rfl
@[simp] theorem emit_alsoRaise (k : OutKind) (p : Nat) (a : List Int) (b : List Byte) : (s.emit k p a b).alsoRaise = s.alsoRaise := rfl
@[simp] theorem emit_safeSince (k : OutKind) (p : Nat) (a : List Int) (b : List Byte) : (s.emit k p a b).safeSince = s.safeSince := rfl
@[simp] theorem emit_wdogExpired (k : OutKind) (p : Nat) (a : List Int) (b : List Byte) : (s.emit k p a b).wdogExpired = s.wdogExpired := rfl
@[simp] theorem emit_sess (k : OutKind) (p : Nat) (a : List Int) (b : List Byte) : (s.emit k p a b).sess = s.sess := rfl
@[simp] theorem emit_txnId (k : OutKind) (p : Nat) (a : List Int) (b : List Byte) : (s.emit k p a b).txnId = s.txnId := rfl
@[simp] theorem emit_noSess (k : OutKind) (p : Nat) (a : List Int) (b : List Byte) : (s.emit k p a b).noSess = s.noSess := rfl
@[simp] theorem emit_stop (k : OutKind) (p : Nat) (a : List Int) (b : List Byte) : (s.emit k p a b).stop = s.stop := rfl
@[simp] theorem emit_out (k : OutKind) (p : Nat) (a : List Int) (b : List Byte) : (s.emit k p a b).out = ⟨k, p, a, b⟩ :: s.out := rfl
@[simp] theorem emit_lastStatus (k : OutKind) (p : Nat) (a : List Int) (b : List Byte) : (s.emit k p a b).lastStatus = s.lastStatus := rfl
@[simp] theorem emit_timers (k : OutKind) (p : Nat) (a : List Int) (b : List Byte) : (s.emit k p a b).timers = s.timers := rfl
@[simp] theorem emit_freeCount (k : OutKind) (p : Nat) (a : List Int) (b : List Byte) : (s.emit k p a b).freeCount = s.freeCount := rfl
@[simp] theorem emit_chans (k : OutKind) (p : Nat) (a : List Int) (b : List Byte) : (s.emit k p a b).chans = s.chans := rfl
@[simp] theorem emit_tacks (k : OutKind) (p : Nat) (a : List Int) (b : List Byte) : (s.emit k p a b).tacks = s.tacks := rfl
@[simp] theorem emit_pred (k : OutKind) (p : Nat) (a : List Int) (b : List Byte) : (s.emit k p a b).pred = s.pred := rfl
@[simp] theorem emit_ports (k : OutKind) (p : Nat) (a : List Int) (b : List Byte) : (s.emit k p a b).ports = s.ports := rfl
@[simp] theorem emit_pages (k : OutKind) (p : Nat) (a : List Int) (b : List Byte) : (s.emit k p a b).pages = s.pages := rfl
@[simp] theorem emit_job (k : OutKind) (p : Nat) (a : List Int) (b : List Byte) : (s.emit k p a b).job = s.job := rfl
@[simp] theorem emit_staged (k : OutKind) (p : Nat) (a : List Int) (b : List Byte) : (s.emit k p a b).staged = s.staged := rfl
@[simp] theorem emit_decided (k : OutKind) (p : Nat) (a : List Int) (b : List Byte) : (s.emit k p a b).decided = s.decided := rfl
@[simp] theorem emit_hold (k : OutKind) (p : Nat) (a : List Int) (b : List Byte) : (s.emit k p a b).hold = s.hold := rfl
@[simp] theorem emit_spit (k : OutKind) (p : Nat) (a : List Int) (b : List Byte) : (s.emit k p a b).spit = s.spit := rfl
@[simp] theorem emit_colTop (k : OutKind) (p : Nat) (a : List Int) (b : List Byte) : (s.emit k p a b).colTop = s.colTop := rfl
@[simp] theorem emit_bobCycles (k : OutKind) (p : Nat) (a : List Int) (b : List Byte) : (s.emit k p a b).bobCycles = s.bobCycles := rfl
@[simp] theorem emit_lanes (k : OutKind) (p : Nat) (a : List Int) (b : List Byte) : (s.emit k p a b).lanes = s.lanes := rfl
@[simp] theorem emit_comet (k : OutKind) (p : Nat) (a : List Int) (b : List Byte) : (s.emit k p a b).comet = s.comet := rfl
@[simp] theorem emit_headStep (k : OutKind) (p : Nat) (a : List Int) (b : List Byte) : (s.emit k p a b).headStep = s.headStep := rfl
@[simp] theorem emit_fseq (k : OutKind) (p : Nat) (a : List Int) (b : List Byte) : (s.emit k p a b).fseq = s.fseq := rfl
@[simp] theorem emit_ringTx (k : OutKind) (p : Nat) (a : List Int) (b : List Byte) : (s.emit k p a b).ringTx = s.ringTx := rfl
@[simp] theorem emit_stage (k : OutKind) (p : Nat) (a : List Int) (b : List Byte) : (s.emit k p a b).stage = s.stage := rfl
@[simp] theorem emit_thimJ (k : OutKind) (p : Nat) (a : List Int) (b : List Byte) : (s.emit k p a b).thimJ = s.thimJ := rfl
@[simp] theorem emit_orphanAge (k : OutKind) (p : Nat) (a : List Int) (b : List Byte) : (s.emit k p a b).orphanAge = s.orphanAge := rfl
@[simp] theorem emit_measPending (k : OutKind) (p : Nat) (a : List Int) (b : List Byte) : (s.emit k p a b).measPending = s.measPending := rfl
@[simp] theorem emit_jsPending (k : OutKind) (p : Nat) (a : List Int) (b : List Byte) : (s.emit k p a b).jsPending = s.jsPending := rfl
@[simp] theorem emit_jsRunning (k : OutKind) (p : Nat) (a : List Int) (b : List Byte) : (s.emit k p a b).jsRunning = s.jsRunning := rfl
@[simp] theorem emit_jsStart (k : OutKind) (p : Nat) (a : List Int) (b : List Byte) : (s.emit k p a b).jsStart = s.jsStart := rfl
@[simp] theorem emit_afe (k : OutKind) (p : Nat) (a : List Int) (b : List Byte) : (s.emit k p a b).afe = s.afe := rfl
@[simp] theorem emit_afeRef (k : OutKind) (p : Nat) (a : List Int) (b : List Byte) : (s.emit k p a b).afeRef = s.afeRef := rfl
@[simp] theorem emit_meas (k : OutKind) (p : Nat) (a : List Int) (b : List Byte) : (s.emit k p a b).meas = s.meas := rfl
@[simp] theorem emit_prevTemp (k : OutKind) (p : Nat) (a : List Int) (b : List Byte) : (s.emit k p a b).prevTemp = s.prevTemp := rfl
@[simp] theorem emit_hsRuns (k : OutKind) (p : Nat) (a : List Int) (b : List Byte) : (s.emit k p a b).hsRuns = s.hsRuns := rfl
@[simp] theorem emit_slotKeys (k : OutKind) (p : Nat) (a : List Int) (b : List Byte) : (s.emit k p a b).slotKeys = s.slotKeys := rfl
@[simp] theorem emit_roleKeys (k : OutKind) (p : Nat) (a : List Int) (b : List Byte) : (s.emit k p a b).roleKeys = s.roleKeys := rfl
@[simp] theorem emit_sweepDead (k : OutKind) (p : Nat) (a : List Int) (b : List Byte) : (s.emit k p a b).sweepDead = s.sweepDead := rfl
@[simp] theorem emit_sweepOk (k : OutKind) (p : Nat) (a : List Int) (b : List Byte) : (s.emit k p a b).sweepOk = s.sweepOk := rfl
@[simp] theorem emit_ringSweep (k : OutKind) (p : Nat) (a : List Int) (b : List Byte) : (s.emit k p a b).ringSweep = s.ringSweep := rfl
@[simp] theorem emit_ringSweepLast (k : OutKind) (p : Nat) (a : List Int) (b : List Byte) : (s.emit k p a b).ringSweepLast = s.ringSweepLast := rfl
@[simp] theorem emit_doneTop (k : OutKind) (p : Nat) (a : List Int) (b : List Byte) : (s.emit k p a b).doneTop = s.doneTop := rfl
@[simp] theorem emit_decs (k : OutKind) (p : Nat) (a : List Int) (b : List Byte) : (s.emit k p a b).decs = s.decs := rfl
@[simp] theorem emit_stream (k : OutKind) (p : Nat) (a : List Int) (b : List Byte) : (s.emit k p a b).stream = s.stream := rfl
@[simp] theorem emit_measDue (k : OutKind) (p : Nat) (a : List Int) (b : List Byte) : (s.emit k p a b).measDue = s.measDue := rfl
@[simp] theorem emit_dma (k : OutKind) (p : Nat) (a : List Int) (b : List Byte) : (s.emit k p a b).dma = s.dma := rfl
@[simp] theorem emit_dmaLast (k : OutKind) (p : Nat) (a : List Int) (b : List Byte) : (s.emit k p a b).dmaLast = s.dmaLast := rfl
@[simp] theorem emit_dmaTop (k : OutKind) (p : Nat) (a : List Int) (b : List Byte) : (s.emit k p a b).dmaTop = s.dmaTop := rfl
@[simp] theorem emit_badWords (k : OutKind) (p : Nat) (a : List Int) (b : List Byte) : (s.emit k p a b).badWords = s.badWords := rfl
@[simp] theorem emit_handing (k : OutKind) (p : Nat) (a : List Int) (b : List Byte) : (s.emit k p a b).handing = s.handing := rfl
@[simp] theorem emit_dramEcc (k : OutKind) (p : Nat) (a : List Int) (b : List Byte) : (s.emit k p a b).dramEcc = s.dramEcc := rfl
@[simp] theorem emit_basteNext (k : OutKind) (p : Nat) (a : List Int) (b : List Byte) : (s.emit k p a b).basteNext = s.basteNext := rfl
@[simp] theorem emit_basteTries (k : OutKind) (p : Nat) (a : List Int) (b : List Byte) : (s.emit k p a b).basteTries = s.basteTries := rfl
@[simp] theorem emit_basteAt (k : OutKind) (p : Nat) (a : List Int) (b : List Byte) : (s.emit k p a b).basteAt = s.basteAt := rfl
@[simp] theorem emit_basteDone (k : OutKind) (p : Nat) (a : List Int) (b : List Byte) : (s.emit k p a b).basteDone = s.basteDone := rfl
@[simp] theorem emit_mot (k : OutKind) (p : Nat) (a : List Int) (b : List Byte) : (s.emit k p a b).mot = s.mot := rfl
@[simp] theorem emit_ring (k : OutKind) (p : Nat) (a : List Int) (b : List Byte) : (s.emit k p a b).ring = s.ring := rfl
@[simp] theorem emit_ptp (k : OutKind) (p : Nat) (a : List Int) (b : List Byte) : (s.emit k p a b).ptp = s.ptp := rfl
@[simp] theorem emit_pair (k : OutKind) (p : Nat) (a : List Int) (b : List Byte) : (s.emit k p a b).pair = s.pair := rfl
@[simp] theorem emit_netUsed (k : OutKind) (p : Nat) (a : List Int) (b : List Byte) : (s.emit k p a b).netUsed = s.netUsed := rfl
@[simp] theorem emit_hwAt (k : OutKind) (p : Nat) (a : List Int) (b : List Byte) : (s.emit k p a b).hwAt = s.hwAt := rfl
@[simp] theorem emit_bumps (k : OutKind) (p : Nat) (a : List Int) (b : List Byte) : (s.emit k p a b).bumps = s.bumps := rfl
@[simp] theorem emit_bumpAt (k : OutKind) (p : Nat) (a : List Int) (b : List Byte) : (s.emit k p a b).bumpAt = s.bumpAt := rfl
@[simp] theorem emit_rawRegs (k : OutKind) (p : Nat) (a : List Int) (b : List Byte) : (s.emit k p a b).rawRegs = s.rawRegs := rfl
@[simp] theorem emit_bist (k : OutKind) (p : Nat) (a : List Int) (b : List Byte) : (s.emit k p a b).bist = s.bist := rfl
@[simp] theorem emit_wantReady (k : OutKind) (p : Nat) (a : List Int) (b : List Byte) : (s.emit k p a b).wantReady = s.wantReady := rfl
@[simp] theorem emit_stopCap (k : OutKind) (p : Nat) (a : List Int) (b : List Byte) : (s.emit k p a b).stopCap = s.stopCap := rfl
@[simp] theorem emit_headSources (k : OutKind) (p : Nat) (a : List Int) (b : List Byte) : (s.emit k p a b).headSources = s.headSources := rfl
@[simp] theorem emit_railWait (k : OutKind) (p : Nat) (a : List Int) (b : List Byte) : (s.emit k p a b).railWait = s.railWait := rfl
@[simp] theorem emit_causes (k : OutKind) (p : Nat) (a : List Int) (b : List Byte) : (s.emit k p a b).causes = s.causes := rfl
@[simp] theorem emit_resetLow (k : OutKind) (p : Nat) (a : List Int) (b : List Byte) : (s.emit k p a b).resetLow = s.resetLow := rfl
@[simp] theorem emit_fromRetain (k : OutKind) (p : Nat) (a : List Int) (b : List Byte) : (s.emit k p a b).fromRetain = s.fromRetain := rfl
@[simp] theorem emit_islandsDown (k : OutKind) (p : Nat) (a : List Int) (b : List Byte) : (s.emit k p a b).islandsDown = s.islandsDown := rfl
@[simp] theorem emit_driftRaised (k : OutKind) (p : Nat) (a : List Int) (b : List Byte) : (s.emit k p a b).driftRaised = s.driftRaised := rfl
@[simp] theorem emit_bistWasCut (k : OutKind) (p : Nat) (a : List Int) (b : List Byte) : (s.emit k p a b).bistWasCut = s.bistWasCut := rfl
@[simp] theorem emit_testEn (k : OutKind) (p : Nat) (a : List Int) (b : List Byte) : (s.emit k p a b).testEn = s.testEn := rfl
@[simp] theorem emit_tapIr (k : OutKind) (p : Nat) (a : List Int) (b : List Byte) : (s.emit k p a b).tapIr = s.tapIr := rfl
@[simp] theorem emit_tapBoundary (k : OutKind) (p : Nat) (a : List Int) (b : List Byte) : (s.emit k p a b).tapBoundary = s.tapBoundary := rfl
@[simp] theorem emit_strapPorts (k : OutKind) (p : Nat) (a : List Int) (b : List Byte) : (s.emit k p a b).strapPorts = s.strapPorts := rfl

/-! ### Core.hwUpdate -/

@[simp] theorem hwUpdate_clk (o : Ob) (i j : Nat) : (s.hwUpdate o i j).clk = s.clk := rfl
@[simp] theorem hwUpdate_ftAcc (o : Ob) (i j : Nat) : (s.hwUpdate o i j).ftAcc = s.ftAcc := rfl
@[simp] theorem hwUpdate_mode (o : Ob) (i j : Nat) : (s.hwUpdate o i j).mode = s.mode := rfl
@[simp] theorem hwUpdate_phase (o : Ob) (i j : Nat) : (s.hwUpdate o i j).phase = s.phase := rfl
@[simp] theorem hwUpdate_configReached (o : Ob) (i j : Nat) : (s.hwUpdate o i j).configReached = s.configReached := rfl
@[simp] theorem hwUpdate_objs (o : Ob) (i j : Nat) : (s.hwUpdate o i j).objs = s.objs := rfl
@[simp] theorem hwUpdate_comp (o : Ob) (i j : Nat) : (s.hwUpdate o i j).comp = s.comp := rfl
@[simp] theorem hwUpdate_dirty (o : Ob) (i j : Nat) : (s.hwUpdate o i j).dirty = s.dirty := rfl
@[simp] theorem hwUpdate_dirtySince (o : Ob) (i j : Nat) : (s.hwUpdate o i j).dirtySince = s.dirtySince := rfl
@[simp] theorem hwUpdate_journal (o : Ob) (i j : Nat) : (s.hwUpdate o i j).journal = s.journal := rfl
@[simp] theorem hwUpdate_journalFailing (o : Ob) (i j : Nat) : (s.hwUpdate o i j).journalFailing = s.journalFailing := rfl
@[simp] theorem hwUpdate_src (o : Ob) (i j : Nat) : (s.hwUpdate o i j).src = s.src := rfl
@[simp] theorem hwUpdate_log (o : Ob) (i j : Nat) : (s.hwUpdate o i j).log = s.log := rfl
@[simp] theorem hwUpdate_logRet (o : Ob) (i j : Nat) : (s.hwUpdate o i j).logRet = s.logRet := rfl
@[simp] theorem hwUpdate_alsoRaise (o : Ob) (i j : Nat) : (s.hwUpdate o i j).alsoRaise = s.alsoRaise := rfl
@[simp] theorem hwUpdate_safeSince (o : Ob) (i j : Nat) : (s.hwUpdate o i j).safeSince = s.safeSince := rfl
@[simp] theorem hwUpdate_wdogExpired (o : Ob) (i j : Nat) : (s.hwUpdate o i j).wdogExpired = s.wdogExpired := rfl
@[simp] theorem hwUpdate_sess (o : Ob) (i j : Nat) : (s.hwUpdate o i j).sess = s.sess := rfl
@[simp] theorem hwUpdate_txnId (o : Ob) (i j : Nat) : (s.hwUpdate o i j).txnId = s.txnId := rfl
@[simp] theorem hwUpdate_noSess (o : Ob) (i j : Nat) : (s.hwUpdate o i j).noSess = s.noSess := rfl
@[simp] theorem hwUpdate_stop (o : Ob) (i j : Nat) : (s.hwUpdate o i j).stop = s.stop := rfl
@[simp] theorem hwUpdate_out (o : Ob) (i j : Nat) : (s.hwUpdate o i j).out = s.out := rfl
@[simp] theorem hwUpdate_lastStatus (o : Ob) (i j : Nat) : (s.hwUpdate o i j).lastStatus = s.lastStatus := rfl
@[simp] theorem hwUpdate_timers (o : Ob) (i j : Nat) : (s.hwUpdate o i j).timers = s.timers := rfl
@[simp] theorem hwUpdate_freeCount (o : Ob) (i j : Nat) : (s.hwUpdate o i j).freeCount = s.freeCount := rfl
@[simp] theorem hwUpdate_chans (o : Ob) (i j : Nat) : (s.hwUpdate o i j).chans = s.chans := rfl
@[simp] theorem hwUpdate_tacks (o : Ob) (i j : Nat) : (s.hwUpdate o i j).tacks = s.tacks := rfl
@[simp] theorem hwUpdate_pred (o : Ob) (i j : Nat) : (s.hwUpdate o i j).pred = s.pred := rfl
@[simp] theorem hwUpdate_ports (o : Ob) (i j : Nat) : (s.hwUpdate o i j).ports = s.ports := rfl
@[simp] theorem hwUpdate_pages (o : Ob) (i j : Nat) : (s.hwUpdate o i j).pages = s.pages := rfl
@[simp] theorem hwUpdate_job (o : Ob) (i j : Nat) : (s.hwUpdate o i j).job = s.job := rfl
@[simp] theorem hwUpdate_staged (o : Ob) (i j : Nat) : (s.hwUpdate o i j).staged = s.staged := rfl
@[simp] theorem hwUpdate_decided (o : Ob) (i j : Nat) : (s.hwUpdate o i j).decided = s.decided := rfl
@[simp] theorem hwUpdate_hold (o : Ob) (i j : Nat) : (s.hwUpdate o i j).hold = s.hold := rfl
@[simp] theorem hwUpdate_spit (o : Ob) (i j : Nat) : (s.hwUpdate o i j).spit = s.spit := rfl
@[simp] theorem hwUpdate_colTop (o : Ob) (i j : Nat) : (s.hwUpdate o i j).colTop = s.colTop := rfl
@[simp] theorem hwUpdate_bobCycles (o : Ob) (i j : Nat) : (s.hwUpdate o i j).bobCycles = s.bobCycles := rfl
@[simp] theorem hwUpdate_lanes (o : Ob) (i j : Nat) : (s.hwUpdate o i j).lanes = s.lanes := rfl
@[simp] theorem hwUpdate_comet (o : Ob) (i j : Nat) : (s.hwUpdate o i j).comet = s.comet := rfl
@[simp] theorem hwUpdate_headStep (o : Ob) (i j : Nat) : (s.hwUpdate o i j).headStep = s.headStep := rfl
@[simp] theorem hwUpdate_fseq (o : Ob) (i j : Nat) : (s.hwUpdate o i j).fseq = s.fseq := rfl
@[simp] theorem hwUpdate_ringTx (o : Ob) (i j : Nat) : (s.hwUpdate o i j).ringTx = s.ringTx := rfl
@[simp] theorem hwUpdate_stage (o : Ob) (i j : Nat) : (s.hwUpdate o i j).stage = s.stage := rfl
@[simp] theorem hwUpdate_thimJ (o : Ob) (i j : Nat) : (s.hwUpdate o i j).thimJ = s.thimJ := rfl
@[simp] theorem hwUpdate_orphanAge (o : Ob) (i j : Nat) : (s.hwUpdate o i j).orphanAge = s.orphanAge := rfl
@[simp] theorem hwUpdate_measPending (o : Ob) (i j : Nat) : (s.hwUpdate o i j).measPending = s.measPending := rfl
@[simp] theorem hwUpdate_jsPending (o : Ob) (i j : Nat) : (s.hwUpdate o i j).jsPending = s.jsPending := rfl
@[simp] theorem hwUpdate_jsRunning (o : Ob) (i j : Nat) : (s.hwUpdate o i j).jsRunning = s.jsRunning := rfl
@[simp] theorem hwUpdate_jsStart (o : Ob) (i j : Nat) : (s.hwUpdate o i j).jsStart = s.jsStart := rfl
@[simp] theorem hwUpdate_afe (o : Ob) (i j : Nat) : (s.hwUpdate o i j).afe = s.afe := rfl
@[simp] theorem hwUpdate_afeRef (o : Ob) (i j : Nat) : (s.hwUpdate o i j).afeRef = s.afeRef := rfl
@[simp] theorem hwUpdate_meas (o : Ob) (i j : Nat) : (s.hwUpdate o i j).meas = s.meas := rfl
@[simp] theorem hwUpdate_prevTemp (o : Ob) (i j : Nat) : (s.hwUpdate o i j).prevTemp = s.prevTemp := rfl
@[simp] theorem hwUpdate_hsRuns (o : Ob) (i j : Nat) : (s.hwUpdate o i j).hsRuns = s.hsRuns := rfl
@[simp] theorem hwUpdate_slotKeys (o : Ob) (i j : Nat) : (s.hwUpdate o i j).slotKeys = s.slotKeys := rfl
@[simp] theorem hwUpdate_roleKeys (o : Ob) (i j : Nat) : (s.hwUpdate o i j).roleKeys = s.roleKeys := rfl
@[simp] theorem hwUpdate_sweepDead (o : Ob) (i j : Nat) : (s.hwUpdate o i j).sweepDead = s.sweepDead := rfl
@[simp] theorem hwUpdate_sweepOk (o : Ob) (i j : Nat) : (s.hwUpdate o i j).sweepOk = s.sweepOk := rfl
@[simp] theorem hwUpdate_ringSweep (o : Ob) (i j : Nat) : (s.hwUpdate o i j).ringSweep = s.ringSweep := rfl
@[simp] theorem hwUpdate_ringSweepLast (o : Ob) (i j : Nat) : (s.hwUpdate o i j).ringSweepLast = s.ringSweepLast := rfl
@[simp] theorem hwUpdate_doneTop (o : Ob) (i j : Nat) : (s.hwUpdate o i j).doneTop = s.doneTop := rfl
@[simp] theorem hwUpdate_decs (o : Ob) (i j : Nat) : (s.hwUpdate o i j).decs = s.decs := rfl
@[simp] theorem hwUpdate_stream (o : Ob) (i j : Nat) : (s.hwUpdate o i j).stream = s.stream := rfl
@[simp] theorem hwUpdate_measDue (o : Ob) (i j : Nat) : (s.hwUpdate o i j).measDue = s.measDue := rfl
@[simp] theorem hwUpdate_dma (o : Ob) (i j : Nat) : (s.hwUpdate o i j).dma = s.dma := rfl
@[simp] theorem hwUpdate_dmaLast (o : Ob) (i j : Nat) : (s.hwUpdate o i j).dmaLast = s.dmaLast := rfl
@[simp] theorem hwUpdate_dmaTop (o : Ob) (i j : Nat) : (s.hwUpdate o i j).dmaTop = s.dmaTop := rfl
@[simp] theorem hwUpdate_badWords (o : Ob) (i j : Nat) : (s.hwUpdate o i j).badWords = s.badWords := rfl
@[simp] theorem hwUpdate_handing (o : Ob) (i j : Nat) : (s.hwUpdate o i j).handing = s.handing := rfl
@[simp] theorem hwUpdate_dramEcc (o : Ob) (i j : Nat) : (s.hwUpdate o i j).dramEcc = s.dramEcc := rfl
@[simp] theorem hwUpdate_basteNext (o : Ob) (i j : Nat) : (s.hwUpdate o i j).basteNext = s.basteNext := rfl
@[simp] theorem hwUpdate_basteTries (o : Ob) (i j : Nat) : (s.hwUpdate o i j).basteTries = s.basteTries := rfl
@[simp] theorem hwUpdate_basteAt (o : Ob) (i j : Nat) : (s.hwUpdate o i j).basteAt = s.basteAt := rfl
@[simp] theorem hwUpdate_basteDone (o : Ob) (i j : Nat) : (s.hwUpdate o i j).basteDone = s.basteDone := rfl
@[simp] theorem hwUpdate_mot (o : Ob) (i j : Nat) : (s.hwUpdate o i j).mot = s.mot := rfl
@[simp] theorem hwUpdate_ring (o : Ob) (i j : Nat) : (s.hwUpdate o i j).ring = s.ring := rfl
@[simp] theorem hwUpdate_ptp (o : Ob) (i j : Nat) : (s.hwUpdate o i j).ptp = s.ptp := rfl
@[simp] theorem hwUpdate_pair (o : Ob) (i j : Nat) : (s.hwUpdate o i j).pair = s.pair := rfl
@[simp] theorem hwUpdate_netUsed (o : Ob) (i j : Nat) : (s.hwUpdate o i j).netUsed = s.netUsed := rfl
@[simp] theorem hwUpdate_hwAt (o : Ob) (i j : Nat) : (s.hwUpdate o i j).hwAt = Tab.set s.hwAt (o.key i j) s.clk := rfl
@[simp] theorem hwUpdate_bumps (o : Ob) (i j : Nat) : (s.hwUpdate o i j).bumps = s.bumps := rfl
@[simp] theorem hwUpdate_bumpAt (o : Ob) (i j : Nat) : (s.hwUpdate o i j).bumpAt = s.bumpAt := rfl
@[simp] theorem hwUpdate_rawRegs (o : Ob) (i j : Nat) : (s.hwUpdate o i j).rawRegs = s.rawRegs := rfl
@[simp] theorem hwUpdate_bist (o : Ob) (i j : Nat) : (s.hwUpdate o i j).bist = s.bist := rfl
@[simp] theorem hwUpdate_wantReady (o : Ob) (i j : Nat) : (s.hwUpdate o i j).wantReady = s.wantReady := rfl
@[simp] theorem hwUpdate_stopCap (o : Ob) (i j : Nat) : (s.hwUpdate o i j).stopCap = s.stopCap := rfl
@[simp] theorem hwUpdate_headSources (o : Ob) (i j : Nat) : (s.hwUpdate o i j).headSources = s.headSources := rfl
@[simp] theorem hwUpdate_railWait (o : Ob) (i j : Nat) : (s.hwUpdate o i j).railWait = s.railWait := rfl
@[simp] theorem hwUpdate_causes (o : Ob) (i j : Nat) : (s.hwUpdate o i j).causes = s.causes := rfl
@[simp] theorem hwUpdate_resetLow (o : Ob) (i j : Nat) : (s.hwUpdate o i j).resetLow = s.resetLow := rfl
@[simp] theorem hwUpdate_fromRetain (o : Ob) (i j : Nat) : (s.hwUpdate o i j).fromRetain = s.fromRetain := rfl
@[simp] theorem hwUpdate_islandsDown (o : Ob) (i j : Nat) : (s.hwUpdate o i j).islandsDown = s.islandsDown := rfl
@[simp] theorem hwUpdate_driftRaised (o : Ob) (i j : Nat) : (s.hwUpdate o i j).driftRaised = s.driftRaised := rfl
@[simp] theorem hwUpdate_bistWasCut (o : Ob) (i j : Nat) : (s.hwUpdate o i j).bistWasCut = s.bistWasCut := rfl
@[simp] theorem hwUpdate_testEn (o : Ob) (i j : Nat) : (s.hwUpdate o i j).testEn = s.testEn := rfl
@[simp] theorem hwUpdate_tapIr (o : Ob) (i j : Nat) : (s.hwUpdate o i j).tapIr = s.tapIr := rfl
@[simp] theorem hwUpdate_tapBoundary (o : Ob) (i j : Nat) : (s.hwUpdate o i j).tapBoundary = s.tapBoundary := rfl
@[simp] theorem hwUpdate_strapPorts (o : Ob) (i j : Nat) : (s.hwUpdate o i j).strapPorts = s.strapPorts := rfl

/-! ### Core.setComp -/

@[simp] theorem setComp_clk (i j v : Nat) : (s.setComp i j v).clk = s.clk := rfl
@[simp] theorem setComp_ftAcc (i j v : Nat) : (s.setComp i j v).ftAcc = s.ftAcc := rfl
@[simp] theorem setComp_mode (i j v : Nat) : (s.setComp i j v).mode = s.mode := rfl
@[simp] theorem setComp_phase (i j v : Nat) : (s.setComp i j v).phase = s.phase := rfl
@[simp] theorem setComp_configReached (i j v : Nat) : (s.setComp i j v).configReached = s.configReached := rfl
@[simp] theorem setComp_objs (i j v : Nat) : (s.setComp i j v).objs = s.objs := rfl
@[simp] theorem setComp_comp (i j v : Nat) : (s.setComp i j v).comp = Tab.set s.comp (i * 65536 + j) v := rfl
@[simp] theorem setComp_dirty (i j v : Nat) : (s.setComp i j v).dirty = s.dirty := rfl
@[simp] theorem setComp_dirtySince (i j v : Nat) : (s.setComp i j v).dirtySince = s.dirtySince := rfl
@[simp] theorem setComp_journal (i j v : Nat) : (s.setComp i j v).journal = s.journal := rfl
@[simp] theorem setComp_journalFailing (i j v : Nat) : (s.setComp i j v).journalFailing = s.journalFailing := rfl
@[simp] theorem setComp_src (i j v : Nat) : (s.setComp i j v).src = s.src := rfl
@[simp] theorem setComp_log (i j v : Nat) : (s.setComp i j v).log = s.log := rfl
@[simp] theorem setComp_logRet (i j v : Nat) : (s.setComp i j v).logRet = s.logRet := rfl
@[simp] theorem setComp_alsoRaise (i j v : Nat) : (s.setComp i j v).alsoRaise = s.alsoRaise := rfl
@[simp] theorem setComp_safeSince (i j v : Nat) : (s.setComp i j v).safeSince = s.safeSince := rfl
@[simp] theorem setComp_wdogExpired (i j v : Nat) : (s.setComp i j v).wdogExpired = s.wdogExpired := rfl
@[simp] theorem setComp_sess (i j v : Nat) : (s.setComp i j v).sess = s.sess := rfl
@[simp] theorem setComp_txnId (i j v : Nat) : (s.setComp i j v).txnId = s.txnId := rfl
@[simp] theorem setComp_noSess (i j v : Nat) : (s.setComp i j v).noSess = s.noSess := rfl
@[simp] theorem setComp_stop (i j v : Nat) : (s.setComp i j v).stop = s.stop := rfl
@[simp] theorem setComp_out (i j v : Nat) : (s.setComp i j v).out = s.out := rfl
@[simp] theorem setComp_lastStatus (i j v : Nat) : (s.setComp i j v).lastStatus = s.lastStatus := rfl
@[simp] theorem setComp_timers (i j v : Nat) : (s.setComp i j v).timers = s.timers := rfl
@[simp] theorem setComp_freeCount (i j v : Nat) : (s.setComp i j v).freeCount = s.freeCount := rfl
@[simp] theorem setComp_chans (i j v : Nat) : (s.setComp i j v).chans = s.chans := rfl
@[simp] theorem setComp_tacks (i j v : Nat) : (s.setComp i j v).tacks = s.tacks := rfl
@[simp] theorem setComp_pred (i j v : Nat) : (s.setComp i j v).pred = s.pred := rfl
@[simp] theorem setComp_ports (i j v : Nat) : (s.setComp i j v).ports = s.ports := rfl
@[simp] theorem setComp_pages (i j v : Nat) : (s.setComp i j v).pages = s.pages := rfl
@[simp] theorem setComp_job (i j v : Nat) : (s.setComp i j v).job = s.job := rfl
@[simp] theorem setComp_staged (i j v : Nat) : (s.setComp i j v).staged = s.staged := rfl
@[simp] theorem setComp_decided (i j v : Nat) : (s.setComp i j v).decided = s.decided := rfl
@[simp] theorem setComp_hold (i j v : Nat) : (s.setComp i j v).hold = s.hold := rfl
@[simp] theorem setComp_spit (i j v : Nat) : (s.setComp i j v).spit = s.spit := rfl
@[simp] theorem setComp_colTop (i j v : Nat) : (s.setComp i j v).colTop = s.colTop := rfl
@[simp] theorem setComp_bobCycles (i j v : Nat) : (s.setComp i j v).bobCycles = s.bobCycles := rfl
@[simp] theorem setComp_lanes (i j v : Nat) : (s.setComp i j v).lanes = s.lanes := rfl
@[simp] theorem setComp_comet (i j v : Nat) : (s.setComp i j v).comet = s.comet := rfl
@[simp] theorem setComp_headStep (i j v : Nat) : (s.setComp i j v).headStep = s.headStep := rfl
@[simp] theorem setComp_fseq (i j v : Nat) : (s.setComp i j v).fseq = s.fseq := rfl
@[simp] theorem setComp_ringTx (i j v : Nat) : (s.setComp i j v).ringTx = s.ringTx := rfl
@[simp] theorem setComp_stage (i j v : Nat) : (s.setComp i j v).stage = s.stage := rfl
@[simp] theorem setComp_thimJ (i j v : Nat) : (s.setComp i j v).thimJ = s.thimJ := rfl
@[simp] theorem setComp_orphanAge (i j v : Nat) : (s.setComp i j v).orphanAge = s.orphanAge := rfl
@[simp] theorem setComp_measPending (i j v : Nat) : (s.setComp i j v).measPending = s.measPending := rfl
@[simp] theorem setComp_jsPending (i j v : Nat) : (s.setComp i j v).jsPending = s.jsPending := rfl
@[simp] theorem setComp_jsRunning (i j v : Nat) : (s.setComp i j v).jsRunning = s.jsRunning := rfl
@[simp] theorem setComp_jsStart (i j v : Nat) : (s.setComp i j v).jsStart = s.jsStart := rfl
@[simp] theorem setComp_afe (i j v : Nat) : (s.setComp i j v).afe = s.afe := rfl
@[simp] theorem setComp_afeRef (i j v : Nat) : (s.setComp i j v).afeRef = s.afeRef := rfl
@[simp] theorem setComp_meas (i j v : Nat) : (s.setComp i j v).meas = s.meas := rfl
@[simp] theorem setComp_prevTemp (i j v : Nat) : (s.setComp i j v).prevTemp = s.prevTemp := rfl
@[simp] theorem setComp_hsRuns (i j v : Nat) : (s.setComp i j v).hsRuns = s.hsRuns := rfl
@[simp] theorem setComp_slotKeys (i j v : Nat) : (s.setComp i j v).slotKeys = s.slotKeys := rfl
@[simp] theorem setComp_roleKeys (i j v : Nat) : (s.setComp i j v).roleKeys = s.roleKeys := rfl
@[simp] theorem setComp_sweepDead (i j v : Nat) : (s.setComp i j v).sweepDead = s.sweepDead := rfl
@[simp] theorem setComp_sweepOk (i j v : Nat) : (s.setComp i j v).sweepOk = s.sweepOk := rfl
@[simp] theorem setComp_ringSweep (i j v : Nat) : (s.setComp i j v).ringSweep = s.ringSweep := rfl
@[simp] theorem setComp_ringSweepLast (i j v : Nat) : (s.setComp i j v).ringSweepLast = s.ringSweepLast := rfl
@[simp] theorem setComp_doneTop (i j v : Nat) : (s.setComp i j v).doneTop = s.doneTop := rfl
@[simp] theorem setComp_decs (i j v : Nat) : (s.setComp i j v).decs = s.decs := rfl
@[simp] theorem setComp_stream (i j v : Nat) : (s.setComp i j v).stream = s.stream := rfl
@[simp] theorem setComp_measDue (i j v : Nat) : (s.setComp i j v).measDue = s.measDue := rfl
@[simp] theorem setComp_dma (i j v : Nat) : (s.setComp i j v).dma = s.dma := rfl
@[simp] theorem setComp_dmaLast (i j v : Nat) : (s.setComp i j v).dmaLast = s.dmaLast := rfl
@[simp] theorem setComp_dmaTop (i j v : Nat) : (s.setComp i j v).dmaTop = s.dmaTop := rfl
@[simp] theorem setComp_badWords (i j v : Nat) : (s.setComp i j v).badWords = s.badWords := rfl
@[simp] theorem setComp_handing (i j v : Nat) : (s.setComp i j v).handing = s.handing := rfl
@[simp] theorem setComp_dramEcc (i j v : Nat) : (s.setComp i j v).dramEcc = s.dramEcc := rfl
@[simp] theorem setComp_basteNext (i j v : Nat) : (s.setComp i j v).basteNext = s.basteNext := rfl
@[simp] theorem setComp_basteTries (i j v : Nat) : (s.setComp i j v).basteTries = s.basteTries := rfl
@[simp] theorem setComp_basteAt (i j v : Nat) : (s.setComp i j v).basteAt = s.basteAt := rfl
@[simp] theorem setComp_basteDone (i j v : Nat) : (s.setComp i j v).basteDone = s.basteDone := rfl
@[simp] theorem setComp_mot (i j v : Nat) : (s.setComp i j v).mot = s.mot := rfl
@[simp] theorem setComp_ring (i j v : Nat) : (s.setComp i j v).ring = s.ring := rfl
@[simp] theorem setComp_ptp (i j v : Nat) : (s.setComp i j v).ptp = s.ptp := rfl
@[simp] theorem setComp_pair (i j v : Nat) : (s.setComp i j v).pair = s.pair := rfl
@[simp] theorem setComp_netUsed (i j v : Nat) : (s.setComp i j v).netUsed = s.netUsed := rfl
@[simp] theorem setComp_hwAt (i j v : Nat) : (s.setComp i j v).hwAt = s.hwAt := rfl
@[simp] theorem setComp_bumps (i j v : Nat) : (s.setComp i j v).bumps = s.bumps := rfl
@[simp] theorem setComp_bumpAt (i j v : Nat) : (s.setComp i j v).bumpAt = s.bumpAt := rfl
@[simp] theorem setComp_rawRegs (i j v : Nat) : (s.setComp i j v).rawRegs = s.rawRegs := rfl
@[simp] theorem setComp_bist (i j v : Nat) : (s.setComp i j v).bist = s.bist := rfl
@[simp] theorem setComp_wantReady (i j v : Nat) : (s.setComp i j v).wantReady = s.wantReady := rfl
@[simp] theorem setComp_stopCap (i j v : Nat) : (s.setComp i j v).stopCap = s.stopCap := rfl
@[simp] theorem setComp_headSources (i j v : Nat) : (s.setComp i j v).headSources = s.headSources := rfl
@[simp] theorem setComp_railWait (i j v : Nat) : (s.setComp i j v).railWait = s.railWait := rfl
@[simp] theorem setComp_causes (i j v : Nat) : (s.setComp i j v).causes = s.causes := rfl
@[simp] theorem setComp_resetLow (i j v : Nat) : (s.setComp i j v).resetLow = s.resetLow := rfl
@[simp] theorem setComp_fromRetain (i j v : Nat) : (s.setComp i j v).fromRetain = s.fromRetain := rfl
@[simp] theorem setComp_islandsDown (i j v : Nat) : (s.setComp i j v).islandsDown = s.islandsDown := rfl
@[simp] theorem setComp_driftRaised (i j v : Nat) : (s.setComp i j v).driftRaised = s.driftRaised := rfl
@[simp] theorem setComp_bistWasCut (i j v : Nat) : (s.setComp i j v).bistWasCut = s.bistWasCut := rfl
@[simp] theorem setComp_testEn (i j v : Nat) : (s.setComp i j v).testEn = s.testEn := rfl
@[simp] theorem setComp_tapIr (i j v : Nat) : (s.setComp i j v).tapIr = s.tapIr := rfl
@[simp] theorem setComp_tapBoundary (i j v : Nat) : (s.setComp i j v).tapBoundary = s.tapBoundary := rfl
@[simp] theorem setComp_strapPorts (i j v : Nat) : (s.setComp i j v).strapPorts = s.strapPorts := rfl

/-! ### Core.setCompO -/

@[simp] theorem setCompO_clk (o : Ob) (i j v : Nat) : (s.setCompO o i j v).clk = s.clk := rfl
@[simp] theorem setCompO_ftAcc (o : Ob) (i j v : Nat) : (s.setCompO o i j v).ftAcc = s.ftAcc := rfl
@[simp] theorem setCompO_mode (o : Ob) (i j v : Nat) : (s.setCompO o i j v).mode = s.mode := rfl
@[simp] theorem setCompO_phase (o : Ob) (i j v : Nat) : (s.setCompO o i j v).phase = s.phase := rfl
@[simp] theorem setCompO_configReached (o : Ob) (i j v : Nat) : (s.setCompO o i j v).configReached = s.configReached := rfl
@[simp] theorem setCompO_objs (o : Ob) (i j v : Nat) : (s.setCompO o i j v).objs = s.objs := rfl
@[simp] theorem setCompO_dirty (o : Ob) (i j v : Nat) : (s.setCompO o i j v).dirty = s.dirty := rfl
@[simp] theorem setCompO_dirtySince (o : Ob) (i j v : Nat) : (s.setCompO o i j v).dirtySince = s.dirtySince := rfl
@[simp] theorem setCompO_journal (o : Ob) (i j v : Nat) : (s.setCompO o i j v).journal = s.journal := rfl
@[simp] theorem setCompO_journalFailing (o : Ob) (i j v : Nat) : (s.setCompO o i j v).journalFailing = s.journalFailing := rfl
@[simp] theorem setCompO_src (o : Ob) (i j v : Nat) : (s.setCompO o i j v).src = s.src := rfl
@[simp] theorem setCompO_log (o : Ob) (i j v : Nat) : (s.setCompO o i j v).log = s.log := rfl
@[simp] theorem setCompO_logRet (o : Ob) (i j v : Nat) : (s.setCompO o i j v).logRet = s.logRet := rfl
@[simp] theorem setCompO_alsoRaise (o : Ob) (i j v : Nat) : (s.setCompO o i j v).alsoRaise = s.alsoRaise := rfl
@[simp] theorem setCompO_safeSince (o : Ob) (i j v : Nat) : (s.setCompO o i j v).safeSince = s.safeSince := rfl
@[simp] theorem setCompO_wdogExpired (o : Ob) (i j v : Nat) : (s.setCompO o i j v).wdogExpired = s.wdogExpired := rfl
@[simp] theorem setCompO_sess (o : Ob) (i j v : Nat) : (s.setCompO o i j v).sess = s.sess := rfl
@[simp] theorem setCompO_txnId (o : Ob) (i j v : Nat) : (s.setCompO o i j v).txnId = s.txnId := rfl
@[simp] theorem setCompO_noSess (o : Ob) (i j v : Nat) : (s.setCompO o i j v).noSess = s.noSess := rfl
@[simp] theorem setCompO_stop (o : Ob) (i j v : Nat) : (s.setCompO o i j v).stop = s.stop := rfl
@[simp] theorem setCompO_out (o : Ob) (i j v : Nat) : (s.setCompO o i j v).out = s.out := rfl
@[simp] theorem setCompO_lastStatus (o : Ob) (i j v : Nat) : (s.setCompO o i j v).lastStatus = s.lastStatus := rfl
@[simp] theorem setCompO_timers (o : Ob) (i j v : Nat) : (s.setCompO o i j v).timers = s.timers := rfl
@[simp] theorem setCompO_freeCount (o : Ob) (i j v : Nat) : (s.setCompO o i j v).freeCount = s.freeCount := rfl
@[simp] theorem setCompO_chans (o : Ob) (i j v : Nat) : (s.setCompO o i j v).chans = s.chans := rfl
@[simp] theorem setCompO_tacks (o : Ob) (i j v : Nat) : (s.setCompO o i j v).tacks = s.tacks := rfl
@[simp] theorem setCompO_pred (o : Ob) (i j v : Nat) : (s.setCompO o i j v).pred = s.pred := rfl
@[simp] theorem setCompO_ports (o : Ob) (i j v : Nat) : (s.setCompO o i j v).ports = s.ports := rfl
@[simp] theorem setCompO_pages (o : Ob) (i j v : Nat) : (s.setCompO o i j v).pages = s.pages := rfl
@[simp] theorem setCompO_job (o : Ob) (i j v : Nat) : (s.setCompO o i j v).job = s.job := rfl
@[simp] theorem setCompO_staged (o : Ob) (i j v : Nat) : (s.setCompO o i j v).staged = s.staged := rfl
@[simp] theorem setCompO_decided (o : Ob) (i j v : Nat) : (s.setCompO o i j v).decided = s.decided := rfl
@[simp] theorem setCompO_hold (o : Ob) (i j v : Nat) : (s.setCompO o i j v).hold = s.hold := rfl
@[simp] theorem setCompO_spit (o : Ob) (i j v : Nat) : (s.setCompO o i j v).spit = s.spit := rfl
@[simp] theorem setCompO_colTop (o : Ob) (i j v : Nat) : (s.setCompO o i j v).colTop = s.colTop := rfl
@[simp] theorem setCompO_bobCycles (o : Ob) (i j v : Nat) : (s.setCompO o i j v).bobCycles = s.bobCycles := rfl
@[simp] theorem setCompO_lanes (o : Ob) (i j v : Nat) : (s.setCompO o i j v).lanes = s.lanes := rfl
@[simp] theorem setCompO_comet (o : Ob) (i j v : Nat) : (s.setCompO o i j v).comet = s.comet := rfl
@[simp] theorem setCompO_headStep (o : Ob) (i j v : Nat) : (s.setCompO o i j v).headStep = s.headStep := rfl
@[simp] theorem setCompO_fseq (o : Ob) (i j v : Nat) : (s.setCompO o i j v).fseq = s.fseq := rfl
@[simp] theorem setCompO_ringTx (o : Ob) (i j v : Nat) : (s.setCompO o i j v).ringTx = s.ringTx := rfl
@[simp] theorem setCompO_stage (o : Ob) (i j v : Nat) : (s.setCompO o i j v).stage = s.stage := rfl
@[simp] theorem setCompO_thimJ (o : Ob) (i j v : Nat) : (s.setCompO o i j v).thimJ = s.thimJ := rfl
@[simp] theorem setCompO_orphanAge (o : Ob) (i j v : Nat) : (s.setCompO o i j v).orphanAge = s.orphanAge := rfl
@[simp] theorem setCompO_measPending (o : Ob) (i j v : Nat) : (s.setCompO o i j v).measPending = s.measPending := rfl
@[simp] theorem setCompO_jsPending (o : Ob) (i j v : Nat) : (s.setCompO o i j v).jsPending = s.jsPending := rfl
@[simp] theorem setCompO_jsRunning (o : Ob) (i j v : Nat) : (s.setCompO o i j v).jsRunning = s.jsRunning := rfl
@[simp] theorem setCompO_jsStart (o : Ob) (i j v : Nat) : (s.setCompO o i j v).jsStart = s.jsStart := rfl
@[simp] theorem setCompO_afe (o : Ob) (i j v : Nat) : (s.setCompO o i j v).afe = s.afe := rfl
@[simp] theorem setCompO_afeRef (o : Ob) (i j v : Nat) : (s.setCompO o i j v).afeRef = s.afeRef := rfl
@[simp] theorem setCompO_meas (o : Ob) (i j v : Nat) : (s.setCompO o i j v).meas = s.meas := rfl
@[simp] theorem setCompO_prevTemp (o : Ob) (i j v : Nat) : (s.setCompO o i j v).prevTemp = s.prevTemp := rfl
@[simp] theorem setCompO_hsRuns (o : Ob) (i j v : Nat) : (s.setCompO o i j v).hsRuns = s.hsRuns := rfl
@[simp] theorem setCompO_slotKeys (o : Ob) (i j v : Nat) : (s.setCompO o i j v).slotKeys = s.slotKeys := rfl
@[simp] theorem setCompO_roleKeys (o : Ob) (i j v : Nat) : (s.setCompO o i j v).roleKeys = s.roleKeys := rfl
@[simp] theorem setCompO_sweepDead (o : Ob) (i j v : Nat) : (s.setCompO o i j v).sweepDead = s.sweepDead := rfl
@[simp] theorem setCompO_sweepOk (o : Ob) (i j v : Nat) : (s.setCompO o i j v).sweepOk = s.sweepOk := rfl
@[simp] theorem setCompO_ringSweep (o : Ob) (i j v : Nat) : (s.setCompO o i j v).ringSweep = s.ringSweep := rfl
@[simp] theorem setCompO_ringSweepLast (o : Ob) (i j v : Nat) : (s.setCompO o i j v).ringSweepLast = s.ringSweepLast := rfl
@[simp] theorem setCompO_doneTop (o : Ob) (i j v : Nat) : (s.setCompO o i j v).doneTop = s.doneTop := rfl
@[simp] theorem setCompO_decs (o : Ob) (i j v : Nat) : (s.setCompO o i j v).decs = s.decs := rfl
@[simp] theorem setCompO_stream (o : Ob) (i j v : Nat) : (s.setCompO o i j v).stream = s.stream := rfl
@[simp] theorem setCompO_measDue (o : Ob) (i j v : Nat) : (s.setCompO o i j v).measDue = s.measDue := rfl
@[simp] theorem setCompO_dma (o : Ob) (i j v : Nat) : (s.setCompO o i j v).dma = s.dma := rfl
@[simp] theorem setCompO_dmaLast (o : Ob) (i j v : Nat) : (s.setCompO o i j v).dmaLast = s.dmaLast := rfl
@[simp] theorem setCompO_dmaTop (o : Ob) (i j v : Nat) : (s.setCompO o i j v).dmaTop = s.dmaTop := rfl
@[simp] theorem setCompO_badWords (o : Ob) (i j v : Nat) : (s.setCompO o i j v).badWords = s.badWords := rfl
@[simp] theorem setCompO_handing (o : Ob) (i j v : Nat) : (s.setCompO o i j v).handing = s.handing := rfl
@[simp] theorem setCompO_dramEcc (o : Ob) (i j v : Nat) : (s.setCompO o i j v).dramEcc = s.dramEcc := rfl
@[simp] theorem setCompO_basteNext (o : Ob) (i j v : Nat) : (s.setCompO o i j v).basteNext = s.basteNext := rfl
@[simp] theorem setCompO_basteTries (o : Ob) (i j v : Nat) : (s.setCompO o i j v).basteTries = s.basteTries := rfl
@[simp] theorem setCompO_basteAt (o : Ob) (i j v : Nat) : (s.setCompO o i j v).basteAt = s.basteAt := rfl
@[simp] theorem setCompO_basteDone (o : Ob) (i j v : Nat) : (s.setCompO o i j v).basteDone = s.basteDone := rfl
@[simp] theorem setCompO_mot (o : Ob) (i j v : Nat) : (s.setCompO o i j v).mot = s.mot := rfl
@[simp] theorem setCompO_ring (o : Ob) (i j v : Nat) : (s.setCompO o i j v).ring = s.ring := rfl
@[simp] theorem setCompO_ptp (o : Ob) (i j v : Nat) : (s.setCompO o i j v).ptp = s.ptp := rfl
@[simp] theorem setCompO_pair (o : Ob) (i j v : Nat) : (s.setCompO o i j v).pair = s.pair := rfl
@[simp] theorem setCompO_netUsed (o : Ob) (i j v : Nat) : (s.setCompO o i j v).netUsed = s.netUsed := rfl
@[simp] theorem setCompO_hwAt (o : Ob) (i j v : Nat) : (s.setCompO o i j v).hwAt = s.hwAt := rfl
@[simp] theorem setCompO_bumps (o : Ob) (i j v : Nat) : (s.setCompO o i j v).bumps = s.bumps := rfl
@[simp] theorem setCompO_bumpAt (o : Ob) (i j v : Nat) : (s.setCompO o i j v).bumpAt = s.bumpAt := rfl
@[simp] theorem setCompO_rawRegs (o : Ob) (i j v : Nat) : (s.setCompO o i j v).rawRegs = s.rawRegs := rfl
@[simp] theorem setCompO_bist (o : Ob) (i j v : Nat) : (s.setCompO o i j v).bist = s.bist := rfl
@[simp] theorem setCompO_wantReady (o : Ob) (i j v : Nat) : (s.setCompO o i j v).wantReady = s.wantReady := rfl
@[simp] theorem setCompO_stopCap (o : Ob) (i j v : Nat) : (s.setCompO o i j v).stopCap = s.stopCap := rfl
@[simp] theorem setCompO_headSources (o : Ob) (i j v : Nat) : (s.setCompO o i j v).headSources = s.headSources := rfl
@[simp] theorem setCompO_railWait (o : Ob) (i j v : Nat) : (s.setCompO o i j v).railWait = s.railWait := rfl
@[simp] theorem setCompO_causes (o : Ob) (i j v : Nat) : (s.setCompO o i j v).causes = s.causes := rfl
@[simp] theorem setCompO_resetLow (o : Ob) (i j v : Nat) : (s.setCompO o i j v).resetLow = s.resetLow := rfl
@[simp] theorem setCompO_fromRetain (o : Ob) (i j v : Nat) : (s.setCompO o i j v).fromRetain = s.fromRetain := rfl
@[simp] theorem setCompO_islandsDown (o : Ob) (i j v : Nat) : (s.setCompO o i j v).islandsDown = s.islandsDown := rfl
@[simp] theorem setCompO_driftRaised (o : Ob) (i j v : Nat) : (s.setCompO o i j v).driftRaised = s.driftRaised := rfl
@[simp] theorem setCompO_bistWasCut (o : Ob) (i j v : Nat) : (s.setCompO o i j v).bistWasCut = s.bistWasCut := rfl
@[simp] theorem setCompO_testEn (o : Ob) (i j v : Nat) : (s.setCompO o i j v).testEn = s.testEn := rfl
@[simp] theorem setCompO_tapIr (o : Ob) (i j v : Nat) : (s.setCompO o i j v).tapIr = s.tapIr := rfl
@[simp] theorem setCompO_tapBoundary (o : Ob) (i j v : Nat) : (s.setCompO o i j v).tapBoundary = s.tapBoundary := rfl
@[simp] theorem setCompO_strapPorts (o : Ob) (i j v : Nat) : (s.setCompO o i j v).strapPorts = s.strapPorts := rfl

/-! ### Core.markDirty -/

@[simp] theorem markDirty_clk (k : Nat) : (s.markDirty k).clk = s.clk := rfl
@[simp] theorem markDirty_ftAcc (k : Nat) : (s.markDirty k).ftAcc = s.ftAcc := rfl
@[simp] theorem markDirty_mode (k : Nat) : (s.markDirty k).mode = s.mode := rfl
@[simp] theorem markDirty_phase (k : Nat) : (s.markDirty k).phase = s.phase := rfl
@[simp] theorem markDirty_configReached (k : Nat) : (s.markDirty k).configReached = s.configReached := rfl
@[simp] theorem markDirty_objs (k : Nat) : (s.markDirty k).objs = s.objs := rfl
@[simp] theorem markDirty_comp (k : Nat) : (s.markDirty k).comp = s.comp := rfl
@[simp] theorem markDirty_journal (k : Nat) : (s.markDirty k).journal = s.journal := rfl
@[simp] theorem markDirty_journalFailing (k : Nat) : (s.markDirty k).journalFailing = s.journalFailing := rfl
@[simp] theorem markDirty_src (k : Nat) : (s.markDirty k).src = s.src := rfl
@[simp] theorem markDirty_log (k : Nat) : (s.markDirty k).log = s.log := rfl
@[simp] theorem markDirty_logRet (k : Nat) : (s.markDirty k).logRet = s.logRet := rfl
@[simp] theorem markDirty_alsoRaise (k : Nat) : (s.markDirty k).alsoRaise = s.alsoRaise := rfl
@[simp] theorem markDirty_safeSince (k : Nat) : (s.markDirty k).safeSince = s.safeSince := rfl
@[simp] theorem markDirty_wdogExpired (k : Nat) : (s.markDirty k).wdogExpired = s.wdogExpired := rfl
@[simp] theorem markDirty_sess (k : Nat) : (s.markDirty k).sess = s.sess := rfl
@[simp] theorem markDirty_txnId (k : Nat) : (s.markDirty k).txnId = s.txnId := rfl
@[simp] theorem markDirty_noSess (k : Nat) : (s.markDirty k).noSess = s.noSess := rfl
@[simp] theorem markDirty_stop (k : Nat) : (s.markDirty k).stop = s.stop := rfl
@[simp] theorem markDirty_out (k : Nat) : (s.markDirty k).out = s.out := rfl
@[simp] theorem markDirty_lastStatus (k : Nat) : (s.markDirty k).lastStatus = s.lastStatus := rfl
@[simp] theorem markDirty_timers (k : Nat) : (s.markDirty k).timers = s.timers := rfl
@[simp] theorem markDirty_freeCount (k : Nat) : (s.markDirty k).freeCount = s.freeCount := rfl
@[simp] theorem markDirty_chans (k : Nat) : (s.markDirty k).chans = s.chans := rfl
@[simp] theorem markDirty_tacks (k : Nat) : (s.markDirty k).tacks = s.tacks := rfl
@[simp] theorem markDirty_pred (k : Nat) : (s.markDirty k).pred = s.pred := rfl
@[simp] theorem markDirty_ports (k : Nat) : (s.markDirty k).ports = s.ports := rfl
@[simp] theorem markDirty_pages (k : Nat) : (s.markDirty k).pages = s.pages := rfl
@[simp] theorem markDirty_job (k : Nat) : (s.markDirty k).job = s.job := rfl
@[simp] theorem markDirty_staged (k : Nat) : (s.markDirty k).staged = s.staged := rfl
@[simp] theorem markDirty_decided (k : Nat) : (s.markDirty k).decided = s.decided := rfl
@[simp] theorem markDirty_hold (k : Nat) : (s.markDirty k).hold = s.hold := rfl
@[simp] theorem markDirty_spit (k : Nat) : (s.markDirty k).spit = s.spit := rfl
@[simp] theorem markDirty_colTop (k : Nat) : (s.markDirty k).colTop = s.colTop := rfl
@[simp] theorem markDirty_bobCycles (k : Nat) : (s.markDirty k).bobCycles = s.bobCycles := rfl
@[simp] theorem markDirty_lanes (k : Nat) : (s.markDirty k).lanes = s.lanes := rfl
@[simp] theorem markDirty_comet (k : Nat) : (s.markDirty k).comet = s.comet := rfl
@[simp] theorem markDirty_headStep (k : Nat) : (s.markDirty k).headStep = s.headStep := rfl
@[simp] theorem markDirty_fseq (k : Nat) : (s.markDirty k).fseq = s.fseq := rfl
@[simp] theorem markDirty_ringTx (k : Nat) : (s.markDirty k).ringTx = s.ringTx := rfl
@[simp] theorem markDirty_stage (k : Nat) : (s.markDirty k).stage = s.stage := rfl
@[simp] theorem markDirty_thimJ (k : Nat) : (s.markDirty k).thimJ = s.thimJ := rfl
@[simp] theorem markDirty_orphanAge (k : Nat) : (s.markDirty k).orphanAge = s.orphanAge := rfl
@[simp] theorem markDirty_measPending (k : Nat) : (s.markDirty k).measPending = s.measPending := rfl
@[simp] theorem markDirty_jsPending (k : Nat) : (s.markDirty k).jsPending = s.jsPending := rfl
@[simp] theorem markDirty_jsRunning (k : Nat) : (s.markDirty k).jsRunning = s.jsRunning := rfl
@[simp] theorem markDirty_jsStart (k : Nat) : (s.markDirty k).jsStart = s.jsStart := rfl
@[simp] theorem markDirty_afe (k : Nat) : (s.markDirty k).afe = s.afe := rfl
@[simp] theorem markDirty_afeRef (k : Nat) : (s.markDirty k).afeRef = s.afeRef := rfl
@[simp] theorem markDirty_meas (k : Nat) : (s.markDirty k).meas = s.meas := rfl
@[simp] theorem markDirty_prevTemp (k : Nat) : (s.markDirty k).prevTemp = s.prevTemp := rfl
@[simp] theorem markDirty_hsRuns (k : Nat) : (s.markDirty k).hsRuns = s.hsRuns := rfl
@[simp] theorem markDirty_slotKeys (k : Nat) : (s.markDirty k).slotKeys = s.slotKeys := rfl
@[simp] theorem markDirty_roleKeys (k : Nat) : (s.markDirty k).roleKeys = s.roleKeys := rfl
@[simp] theorem markDirty_sweepDead (k : Nat) : (s.markDirty k).sweepDead = s.sweepDead := rfl
@[simp] theorem markDirty_sweepOk (k : Nat) : (s.markDirty k).sweepOk = s.sweepOk := rfl
@[simp] theorem markDirty_ringSweep (k : Nat) : (s.markDirty k).ringSweep = s.ringSweep := rfl
@[simp] theorem markDirty_ringSweepLast (k : Nat) : (s.markDirty k).ringSweepLast = s.ringSweepLast := rfl
@[simp] theorem markDirty_doneTop (k : Nat) : (s.markDirty k).doneTop = s.doneTop := rfl
@[simp] theorem markDirty_decs (k : Nat) : (s.markDirty k).decs = s.decs := rfl
@[simp] theorem markDirty_stream (k : Nat) : (s.markDirty k).stream = s.stream := rfl
@[simp] theorem markDirty_measDue (k : Nat) : (s.markDirty k).measDue = s.measDue := rfl
@[simp] theorem markDirty_dma (k : Nat) : (s.markDirty k).dma = s.dma := rfl
@[simp] theorem markDirty_dmaLast (k : Nat) : (s.markDirty k).dmaLast = s.dmaLast := rfl
@[simp] theorem markDirty_dmaTop (k : Nat) : (s.markDirty k).dmaTop = s.dmaTop := rfl
@[simp] theorem markDirty_badWords (k : Nat) : (s.markDirty k).badWords = s.badWords := rfl
@[simp] theorem markDirty_handing (k : Nat) : (s.markDirty k).handing = s.handing := rfl
@[simp] theorem markDirty_dramEcc (k : Nat) : (s.markDirty k).dramEcc = s.dramEcc := rfl
@[simp] theorem markDirty_basteNext (k : Nat) : (s.markDirty k).basteNext = s.basteNext := rfl
@[simp] theorem markDirty_basteTries (k : Nat) : (s.markDirty k).basteTries = s.basteTries := rfl
@[simp] theorem markDirty_basteAt (k : Nat) : (s.markDirty k).basteAt = s.basteAt := rfl
@[simp] theorem markDirty_basteDone (k : Nat) : (s.markDirty k).basteDone = s.basteDone := rfl
@[simp] theorem markDirty_mot (k : Nat) : (s.markDirty k).mot = s.mot := rfl
@[simp] theorem markDirty_ring (k : Nat) : (s.markDirty k).ring = s.ring := rfl
@[simp] theorem markDirty_ptp (k : Nat) : (s.markDirty k).ptp = s.ptp := rfl
@[simp] theorem markDirty_pair (k : Nat) : (s.markDirty k).pair = s.pair := rfl
@[simp] theorem markDirty_netUsed (k : Nat) : (s.markDirty k).netUsed = s.netUsed := rfl
@[simp] theorem markDirty_hwAt (k : Nat) : (s.markDirty k).hwAt = s.hwAt := rfl
@[simp] theorem markDirty_bumps (k : Nat) : (s.markDirty k).bumps = s.bumps := rfl
@[simp] theorem markDirty_bumpAt (k : Nat) : (s.markDirty k).bumpAt = s.bumpAt := rfl
@[simp] theorem markDirty_rawRegs (k : Nat) : (s.markDirty k).rawRegs = s.rawRegs := rfl
@[simp] theorem markDirty_bist (k : Nat) : (s.markDirty k).bist = s.bist := rfl
@[simp] theorem markDirty_wantReady (k : Nat) : (s.markDirty k).wantReady = s.wantReady := rfl
@[simp] theorem markDirty_stopCap (k : Nat) : (s.markDirty k).stopCap = s.stopCap := rfl
@[simp] theorem markDirty_headSources (k : Nat) : (s.markDirty k).headSources = s.headSources := rfl
@[simp] theorem markDirty_railWait (k : Nat) : (s.markDirty k).railWait = s.railWait := rfl
@[simp] theorem markDirty_causes (k : Nat) : (s.markDirty k).causes = s.causes := rfl
@[simp] theorem markDirty_resetLow (k : Nat) : (s.markDirty k).resetLow = s.resetLow := rfl
@[simp] theorem markDirty_fromRetain (k : Nat) : (s.markDirty k).fromRetain = s.fromRetain := rfl
@[simp] theorem markDirty_islandsDown (k : Nat) : (s.markDirty k).islandsDown = s.islandsDown := rfl
@[simp] theorem markDirty_driftRaised (k : Nat) : (s.markDirty k).driftRaised = s.driftRaised := rfl
@[simp] theorem markDirty_bistWasCut (k : Nat) : (s.markDirty k).bistWasCut = s.bistWasCut := rfl
@[simp] theorem markDirty_testEn (k : Nat) : (s.markDirty k).testEn = s.testEn := rfl
@[simp] theorem markDirty_tapIr (k : Nat) : (s.markDirty k).tapIr = s.tapIr := rfl
@[simp] theorem markDirty_tapBoundary (k : Nat) : (s.markDirty k).tapBoundary = s.tapBoundary := rfl
@[simp] theorem markDirty_strapPorts (k : Nat) : (s.markDirty k).strapPorts = s.strapPorts := rfl

/-! ### Core.wr -/

@[simp] theorem wr_clk (o : Ob) (i j v : Nat) : (s.wr o i j v).clk = s.clk := (congrArg Core.clk (wr_frame s o i j v) :)
@[simp] theorem wr_ftAcc (o : Ob) (i j v : Nat) : (s.wr o i j v).ftAcc = s.ftAcc := (congrArg Core.ftAcc (wr_frame s o i j v) :)
@[simp] theorem wr_mode (o : Ob) (i j v : Nat) : (s.wr o i j v).mode = s.mode := (congrArg Core.mode (wr_frame s o i j v) :)
@[simp] theorem wr_phase (o : Ob) (i j v : Nat) : (s.wr o i j v).phase = s.phase := (congrArg Core.phase (wr_frame s o i j v) :)
@[simp] theorem wr_configReached (o : Ob) (i j v : Nat) : (s.wr o i j v).configReached = s.configReached := (congrArg Core.configReached (wr_frame s o i j v) :)
@[simp] theorem wr_objs (o : Ob) (i j v : Nat) : (s.wr o i j v).objs = Tab.set s.objs (o.key i j) (o.fit v) := (congrArg Core.objs (wr_frame s o i j v) :)
@[simp] theorem wr_comp (o : Ob) (i j v : Nat) : (s.wr o i j v).comp = s.comp := (congrArg Core.comp (wr_frame s o i j v) :)
@[simp] theorem wr_journal (o : Ob) (i j v : Nat) : (s.wr o i j v).journal = s.journal := (congrArg Core.journal (wr_frame s o i j v) :)
@[simp] theorem wr_journalFailing (o : Ob) (i j v : Nat) : (s.wr o i j v).journalFailing = s.journalFailing := (congrArg Core.journalFailing (wr_frame s o i j v) :)
@[simp] theorem wr_src (o : Ob) (i j v : Nat) : (s.wr o i j v).src = s.src := (congrArg Core.src (wr_frame s o i j v) :)
@[simp] theorem wr_log (o : Ob) (i j v : Nat) : (s.wr o i j v).log = s.log := (congrArg Core.log (wr_frame s o i j v) :)
@[simp] theorem wr_logRet (o : Ob) (i j v : Nat) : (s.wr o i j v).logRet = s.logRet := (congrArg Core.logRet (wr_frame s o i j v) :)
@[simp] theorem wr_alsoRaise (o : Ob) (i j v : Nat) : (s.wr o i j v).alsoRaise = s.alsoRaise := (congrArg Core.alsoRaise (wr_frame s o i j v) :)
@[simp] theorem wr_safeSince (o : Ob) (i j v : Nat) : (s.wr o i j v).safeSince = s.safeSince := (congrArg Core.safeSince (wr_frame s o i j v) :)
@[simp] theorem wr_wdogExpired (o : Ob) (i j v : Nat) : (s.wr o i j v).wdogExpired = s.wdogExpired := (congrArg Core.wdogExpired (wr_frame s o i j v) :)
@[simp] theorem wr_sess (o : Ob) (i j v : Nat) : (s.wr o i j v).sess = s.sess := (congrArg Core.sess (wr_frame s o i j v) :)
@[simp] theorem wr_txnId (o : Ob) (i j v : Nat) : (s.wr o i j v).txnId = s.txnId := (congrArg Core.txnId (wr_frame s o i j v) :)
@[simp] theorem wr_noSess (o : Ob) (i j v : Nat) : (s.wr o i j v).noSess = s.noSess := (congrArg Core.noSess (wr_frame s o i j v) :)
@[simp] theorem wr_stop (o : Ob) (i j v : Nat) : (s.wr o i j v).stop = s.stop := (congrArg Core.stop (wr_frame s o i j v) :)
@[simp] theorem wr_out (o : Ob) (i j v : Nat) : (s.wr o i j v).out = s.out := (congrArg Core.out (wr_frame s o i j v) :)
@[simp] theorem wr_lastStatus (o : Ob) (i j v : Nat) : (s.wr o i j v).lastStatus = s.lastStatus := (congrArg Core.lastStatus (wr_frame s o i j v) :)
@[simp] theorem wr_timers (o : Ob) (i j v : Nat) : (s.wr o i j v).timers = s.timers := (congrArg Core.timers (wr_frame s o i j v) :)
@[simp] theorem wr_freeCount (o : Ob) (i j v : Nat) : (s.wr o i j v).freeCount = s.freeCount := (congrArg Core.freeCount (wr_frame s o i j v) :)
@[simp] theorem wr_chans (o : Ob) (i j v : Nat) : (s.wr o i j v).chans = s.chans := (congrArg Core.chans (wr_frame s o i j v) :)
@[simp] theorem wr_tacks (o : Ob) (i j v : Nat) : (s.wr o i j v).tacks = s.tacks := (congrArg Core.tacks (wr_frame s o i j v) :)
@[simp] theorem wr_pred (o : Ob) (i j v : Nat) : (s.wr o i j v).pred = s.pred := (congrArg Core.pred (wr_frame s o i j v) :)
@[simp] theorem wr_ports (o : Ob) (i j v : Nat) : (s.wr o i j v).ports = s.ports := (congrArg Core.ports (wr_frame s o i j v) :)
@[simp] theorem wr_pages (o : Ob) (i j v : Nat) : (s.wr o i j v).pages = s.pages := (congrArg Core.pages (wr_frame s o i j v) :)
@[simp] theorem wr_job (o : Ob) (i j v : Nat) : (s.wr o i j v).job = s.job := (congrArg Core.job (wr_frame s o i j v) :)
@[simp] theorem wr_staged (o : Ob) (i j v : Nat) : (s.wr o i j v).staged = s.staged := (congrArg Core.staged (wr_frame s o i j v) :)
@[simp] theorem wr_decided (o : Ob) (i j v : Nat) : (s.wr o i j v).decided = s.decided := (congrArg Core.decided (wr_frame s o i j v) :)
@[simp] theorem wr_hold (o : Ob) (i j v : Nat) : (s.wr o i j v).hold = s.hold := (congrArg Core.hold (wr_frame s o i j v) :)
@[simp] theorem wr_spit (o : Ob) (i j v : Nat) : (s.wr o i j v).spit = s.spit := (congrArg Core.spit (wr_frame s o i j v) :)
@[simp] theorem wr_colTop (o : Ob) (i j v : Nat) : (s.wr o i j v).colTop = s.colTop := (congrArg Core.colTop (wr_frame s o i j v) :)
@[simp] theorem wr_bobCycles (o : Ob) (i j v : Nat) : (s.wr o i j v).bobCycles = s.bobCycles := (congrArg Core.bobCycles (wr_frame s o i j v) :)
@[simp] theorem wr_lanes (o : Ob) (i j v : Nat) : (s.wr o i j v).lanes = s.lanes := (congrArg Core.lanes (wr_frame s o i j v) :)
@[simp] theorem wr_comet (o : Ob) (i j v : Nat) : (s.wr o i j v).comet = s.comet := (congrArg Core.comet (wr_frame s o i j v) :)
@[simp] theorem wr_headStep (o : Ob) (i j v : Nat) : (s.wr o i j v).headStep = s.headStep := (congrArg Core.headStep (wr_frame s o i j v) :)
@[simp] theorem wr_fseq (o : Ob) (i j v : Nat) : (s.wr o i j v).fseq = s.fseq := (congrArg Core.fseq (wr_frame s o i j v) :)
@[simp] theorem wr_ringTx (o : Ob) (i j v : Nat) : (s.wr o i j v).ringTx = s.ringTx := (congrArg Core.ringTx (wr_frame s o i j v) :)
@[simp] theorem wr_stage (o : Ob) (i j v : Nat) : (s.wr o i j v).stage = s.stage := (congrArg Core.stage (wr_frame s o i j v) :)
@[simp] theorem wr_thimJ (o : Ob) (i j v : Nat) : (s.wr o i j v).thimJ = s.thimJ := (congrArg Core.thimJ (wr_frame s o i j v) :)
@[simp] theorem wr_orphanAge (o : Ob) (i j v : Nat) : (s.wr o i j v).orphanAge = s.orphanAge := (congrArg Core.orphanAge (wr_frame s o i j v) :)
@[simp] theorem wr_measPending (o : Ob) (i j v : Nat) : (s.wr o i j v).measPending = s.measPending := (congrArg Core.measPending (wr_frame s o i j v) :)
@[simp] theorem wr_jsPending (o : Ob) (i j v : Nat) : (s.wr o i j v).jsPending = s.jsPending := (congrArg Core.jsPending (wr_frame s o i j v) :)
@[simp] theorem wr_jsRunning (o : Ob) (i j v : Nat) : (s.wr o i j v).jsRunning = s.jsRunning := (congrArg Core.jsRunning (wr_frame s o i j v) :)
@[simp] theorem wr_jsStart (o : Ob) (i j v : Nat) : (s.wr o i j v).jsStart = s.jsStart := (congrArg Core.jsStart (wr_frame s o i j v) :)
@[simp] theorem wr_afe (o : Ob) (i j v : Nat) : (s.wr o i j v).afe = s.afe := (congrArg Core.afe (wr_frame s o i j v) :)
@[simp] theorem wr_afeRef (o : Ob) (i j v : Nat) : (s.wr o i j v).afeRef = s.afeRef := (congrArg Core.afeRef (wr_frame s o i j v) :)
@[simp] theorem wr_meas (o : Ob) (i j v : Nat) : (s.wr o i j v).meas = s.meas := (congrArg Core.meas (wr_frame s o i j v) :)
@[simp] theorem wr_prevTemp (o : Ob) (i j v : Nat) : (s.wr o i j v).prevTemp = s.prevTemp := (congrArg Core.prevTemp (wr_frame s o i j v) :)
@[simp] theorem wr_hsRuns (o : Ob) (i j v : Nat) : (s.wr o i j v).hsRuns = s.hsRuns := (congrArg Core.hsRuns (wr_frame s o i j v) :)
@[simp] theorem wr_slotKeys (o : Ob) (i j v : Nat) : (s.wr o i j v).slotKeys = s.slotKeys := (congrArg Core.slotKeys (wr_frame s o i j v) :)
@[simp] theorem wr_roleKeys (o : Ob) (i j v : Nat) : (s.wr o i j v).roleKeys = s.roleKeys := (congrArg Core.roleKeys (wr_frame s o i j v) :)
@[simp] theorem wr_sweepDead (o : Ob) (i j v : Nat) : (s.wr o i j v).sweepDead = s.sweepDead := (congrArg Core.sweepDead (wr_frame s o i j v) :)
@[simp] theorem wr_sweepOk (o : Ob) (i j v : Nat) : (s.wr o i j v).sweepOk = s.sweepOk := (congrArg Core.sweepOk (wr_frame s o i j v) :)
@[simp] theorem wr_ringSweep (o : Ob) (i j v : Nat) : (s.wr o i j v).ringSweep = s.ringSweep := (congrArg Core.ringSweep (wr_frame s o i j v) :)
@[simp] theorem wr_ringSweepLast (o : Ob) (i j v : Nat) : (s.wr o i j v).ringSweepLast = s.ringSweepLast := (congrArg Core.ringSweepLast (wr_frame s o i j v) :)
@[simp] theorem wr_doneTop (o : Ob) (i j v : Nat) : (s.wr o i j v).doneTop = s.doneTop := (congrArg Core.doneTop (wr_frame s o i j v) :)
@[simp] theorem wr_decs (o : Ob) (i j v : Nat) : (s.wr o i j v).decs = s.decs := (congrArg Core.decs (wr_frame s o i j v) :)
@[simp] theorem wr_stream (o : Ob) (i j v : Nat) : (s.wr o i j v).stream = s.stream := (congrArg Core.stream (wr_frame s o i j v) :)
@[simp] theorem wr_measDue (o : Ob) (i j v : Nat) : (s.wr o i j v).measDue = s.measDue := (congrArg Core.measDue (wr_frame s o i j v) :)
@[simp] theorem wr_dma (o : Ob) (i j v : Nat) : (s.wr o i j v).dma = s.dma := (congrArg Core.dma (wr_frame s o i j v) :)
@[simp] theorem wr_dmaLast (o : Ob) (i j v : Nat) : (s.wr o i j v).dmaLast = s.dmaLast := (congrArg Core.dmaLast (wr_frame s o i j v) :)
@[simp] theorem wr_dmaTop (o : Ob) (i j v : Nat) : (s.wr o i j v).dmaTop = s.dmaTop := (congrArg Core.dmaTop (wr_frame s o i j v) :)
@[simp] theorem wr_badWords (o : Ob) (i j v : Nat) : (s.wr o i j v).badWords = s.badWords := (congrArg Core.badWords (wr_frame s o i j v) :)
@[simp] theorem wr_handing (o : Ob) (i j v : Nat) : (s.wr o i j v).handing = s.handing := (congrArg Core.handing (wr_frame s o i j v) :)
@[simp] theorem wr_dramEcc (o : Ob) (i j v : Nat) : (s.wr o i j v).dramEcc = s.dramEcc := (congrArg Core.dramEcc (wr_frame s o i j v) :)
@[simp] theorem wr_basteNext (o : Ob) (i j v : Nat) : (s.wr o i j v).basteNext = s.basteNext := (congrArg Core.basteNext (wr_frame s o i j v) :)
@[simp] theorem wr_basteTries (o : Ob) (i j v : Nat) : (s.wr o i j v).basteTries = s.basteTries := (congrArg Core.basteTries (wr_frame s o i j v) :)
@[simp] theorem wr_basteAt (o : Ob) (i j v : Nat) : (s.wr o i j v).basteAt = s.basteAt := (congrArg Core.basteAt (wr_frame s o i j v) :)
@[simp] theorem wr_basteDone (o : Ob) (i j v : Nat) : (s.wr o i j v).basteDone = s.basteDone := (congrArg Core.basteDone (wr_frame s o i j v) :)
@[simp] theorem wr_mot (o : Ob) (i j v : Nat) : (s.wr o i j v).mot = s.mot := (congrArg Core.mot (wr_frame s o i j v) :)
@[simp] theorem wr_ring (o : Ob) (i j v : Nat) : (s.wr o i j v).ring = s.ring := (congrArg Core.ring (wr_frame s o i j v) :)
@[simp] theorem wr_ptp (o : Ob) (i j v : Nat) : (s.wr o i j v).ptp = s.ptp := (congrArg Core.ptp (wr_frame s o i j v) :)
@[simp] theorem wr_pair (o : Ob) (i j v : Nat) : (s.wr o i j v).pair = s.pair := (congrArg Core.pair (wr_frame s o i j v) :)
@[simp] theorem wr_netUsed (o : Ob) (i j v : Nat) : (s.wr o i j v).netUsed = s.netUsed := (congrArg Core.netUsed (wr_frame s o i j v) :)
@[simp] theorem wr_hwAt (o : Ob) (i j v : Nat) : (s.wr o i j v).hwAt = s.hwAt := (congrArg Core.hwAt (wr_frame s o i j v) :)
@[simp] theorem wr_bumps (o : Ob) (i j v : Nat) : (s.wr o i j v).bumps = s.bumps := (congrArg Core.bumps (wr_frame s o i j v) :)
@[simp] theorem wr_bumpAt (o : Ob) (i j v : Nat) : (s.wr o i j v).bumpAt = s.bumpAt := (congrArg Core.bumpAt (wr_frame s o i j v) :)
@[simp] theorem wr_rawRegs (o : Ob) (i j v : Nat) : (s.wr o i j v).rawRegs = s.rawRegs := (congrArg Core.rawRegs (wr_frame s o i j v) :)
@[simp] theorem wr_bist (o : Ob) (i j v : Nat) : (s.wr o i j v).bist = s.bist := (congrArg Core.bist (wr_frame s o i j v) :)
@[simp] theorem wr_wantReady (o : Ob) (i j v : Nat) : (s.wr o i j v).wantReady = s.wantReady := (congrArg Core.wantReady (wr_frame s o i j v) :)
@[simp] theorem wr_stopCap (o : Ob) (i j v : Nat) : (s.wr o i j v).stopCap = s.stopCap := (congrArg Core.stopCap (wr_frame s o i j v) :)
@[simp] theorem wr_headSources (o : Ob) (i j v : Nat) : (s.wr o i j v).headSources = s.headSources := (congrArg Core.headSources (wr_frame s o i j v) :)
@[simp] theorem wr_railWait (o : Ob) (i j v : Nat) : (s.wr o i j v).railWait = s.railWait := (congrArg Core.railWait (wr_frame s o i j v) :)
@[simp] theorem wr_causes (o : Ob) (i j v : Nat) : (s.wr o i j v).causes = s.causes := (congrArg Core.causes (wr_frame s o i j v) :)
@[simp] theorem wr_resetLow (o : Ob) (i j v : Nat) : (s.wr o i j v).resetLow = s.resetLow := (congrArg Core.resetLow (wr_frame s o i j v) :)
@[simp] theorem wr_fromRetain (o : Ob) (i j v : Nat) : (s.wr o i j v).fromRetain = s.fromRetain := (congrArg Core.fromRetain (wr_frame s o i j v) :)
@[simp] theorem wr_islandsDown (o : Ob) (i j v : Nat) : (s.wr o i j v).islandsDown = s.islandsDown := (congrArg Core.islandsDown (wr_frame s o i j v) :)
@[simp] theorem wr_driftRaised (o : Ob) (i j v : Nat) : (s.wr o i j v).driftRaised = s.driftRaised := (congrArg Core.driftRaised (wr_frame s o i j v) :)
@[simp] theorem wr_bistWasCut (o : Ob) (i j v : Nat) : (s.wr o i j v).bistWasCut = s.bistWasCut := (congrArg Core.bistWasCut (wr_frame s o i j v) :)
@[simp] theorem wr_testEn (o : Ob) (i j v : Nat) : (s.wr o i j v).testEn = s.testEn := (congrArg Core.testEn (wr_frame s o i j v) :)
@[simp] theorem wr_tapIr (o : Ob) (i j v : Nat) : (s.wr o i j v).tapIr = s.tapIr := (congrArg Core.tapIr (wr_frame s o i j v) :)
@[simp] theorem wr_tapBoundary (o : Ob) (i j v : Nat) : (s.wr o i j v).tapBoundary = s.tapBoundary := (congrArg Core.tapBoundary (wr_frame s o i j v) :)
@[simp] theorem wr_strapPorts (o : Ob) (i j v : Nat) : (s.wr o i j v).strapPorts = s.strapPorts := (congrArg Core.strapPorts (wr_frame s o i j v) :)

/-! ### Core.wr0 -/

@[simp] theorem wr0_clk (o : Ob) (v : Nat) : (s.wr0 o v).clk = s.clk := (congrArg Core.clk (wr_frame s o 0 0 v) :)
@[simp] theorem wr0_ftAcc (o : Ob) (v : Nat) : (s.wr0 o v).ftAcc = s.ftAcc := (congrArg Core.ftAcc (wr_frame s o 0 0 v) :)
@[simp] theorem wr0_mode (o : Ob) (v : Nat) : (s.wr0 o v).mode = s.mode := (congrArg Core.mode (wr_frame s o 0 0 v) :)
@[simp] theorem wr0_phase (o : Ob) (v : Nat) : (s.wr0 o v).phase = s.phase := (congrArg Core.phase (wr_frame s o 0 0 v) :)
@[simp] theorem wr0_configReached (o : Ob) (v : Nat) : (s.wr0 o v).configReached = s.configReached := (congrArg Core.configReached (wr_frame s o 0 0 v) :)
@[simp] theorem wr0_objs (o : Ob) (v : Nat) : (s.wr0 o v).objs = Tab.set s.objs (o.key 0 0) (o.fit v) := (congrArg Core.objs (wr_frame s o 0 0 v) :)
@[simp] theorem wr0_comp (o : Ob) (v : Nat) : (s.wr0 o v).comp = s.comp := (congrArg Core.comp (wr_frame s o 0 0 v) :)
@[simp] theorem wr0_journal (o : Ob) (v : Nat) : (s.wr0 o v).journal = s.journal := (congrArg Core.journal (wr_frame s o 0 0 v) :)
@[simp] theorem wr0_journalFailing (o : Ob) (v : Nat) : (s.wr0 o v).journalFailing = s.journalFailing := (congrArg Core.journalFailing (wr_frame s o 0 0 v) :)
@[simp] theorem wr0_src (o : Ob) (v : Nat) : (s.wr0 o v).src = s.src := (congrArg Core.src (wr_frame s o 0 0 v) :)
@[simp] theorem wr0_log (o : Ob) (v : Nat) : (s.wr0 o v).log = s.log := (congrArg Core.log (wr_frame s o 0 0 v) :)
@[simp] theorem wr0_logRet (o : Ob) (v : Nat) : (s.wr0 o v).logRet = s.logRet := (congrArg Core.logRet (wr_frame s o 0 0 v) :)
@[simp] theorem wr0_alsoRaise (o : Ob) (v : Nat) : (s.wr0 o v).alsoRaise = s.alsoRaise := (congrArg Core.alsoRaise (wr_frame s o 0 0 v) :)
@[simp] theorem wr0_safeSince (o : Ob) (v : Nat) : (s.wr0 o v).safeSince = s.safeSince := (congrArg Core.safeSince (wr_frame s o 0 0 v) :)
@[simp] theorem wr0_wdogExpired (o : Ob) (v : Nat) : (s.wr0 o v).wdogExpired = s.wdogExpired := (congrArg Core.wdogExpired (wr_frame s o 0 0 v) :)
@[simp] theorem wr0_sess (o : Ob) (v : Nat) : (s.wr0 o v).sess = s.sess := (congrArg Core.sess (wr_frame s o 0 0 v) :)
@[simp] theorem wr0_txnId (o : Ob) (v : Nat) : (s.wr0 o v).txnId = s.txnId := (congrArg Core.txnId (wr_frame s o 0 0 v) :)
@[simp] theorem wr0_noSess (o : Ob) (v : Nat) : (s.wr0 o v).noSess = s.noSess := (congrArg Core.noSess (wr_frame s o 0 0 v) :)
@[simp] theorem wr0_stop (o : Ob) (v : Nat) : (s.wr0 o v).stop = s.stop := (congrArg Core.stop (wr_frame s o 0 0 v) :)
@[simp] theorem wr0_out (o : Ob) (v : Nat) : (s.wr0 o v).out = s.out := (congrArg Core.out (wr_frame s o 0 0 v) :)
@[simp] theorem wr0_lastStatus (o : Ob) (v : Nat) : (s.wr0 o v).lastStatus = s.lastStatus := (congrArg Core.lastStatus (wr_frame s o 0 0 v) :)
@[simp] theorem wr0_timers (o : Ob) (v : Nat) : (s.wr0 o v).timers = s.timers := (congrArg Core.timers (wr_frame s o 0 0 v) :)
@[simp] theorem wr0_freeCount (o : Ob) (v : Nat) : (s.wr0 o v).freeCount = s.freeCount := (congrArg Core.freeCount (wr_frame s o 0 0 v) :)
@[simp] theorem wr0_chans (o : Ob) (v : Nat) : (s.wr0 o v).chans = s.chans := (congrArg Core.chans (wr_frame s o 0 0 v) :)
@[simp] theorem wr0_tacks (o : Ob) (v : Nat) : (s.wr0 o v).tacks = s.tacks := (congrArg Core.tacks (wr_frame s o 0 0 v) :)
@[simp] theorem wr0_pred (o : Ob) (v : Nat) : (s.wr0 o v).pred = s.pred := (congrArg Core.pred (wr_frame s o 0 0 v) :)
@[simp] theorem wr0_ports (o : Ob) (v : Nat) : (s.wr0 o v).ports = s.ports := (congrArg Core.ports (wr_frame s o 0 0 v) :)
@[simp] theorem wr0_pages (o : Ob) (v : Nat) : (s.wr0 o v).pages = s.pages := (congrArg Core.pages (wr_frame s o 0 0 v) :)
@[simp] theorem wr0_job (o : Ob) (v : Nat) : (s.wr0 o v).job = s.job := (congrArg Core.job (wr_frame s o 0 0 v) :)
@[simp] theorem wr0_staged (o : Ob) (v : Nat) : (s.wr0 o v).staged = s.staged := (congrArg Core.staged (wr_frame s o 0 0 v) :)
@[simp] theorem wr0_decided (o : Ob) (v : Nat) : (s.wr0 o v).decided = s.decided := (congrArg Core.decided (wr_frame s o 0 0 v) :)
@[simp] theorem wr0_hold (o : Ob) (v : Nat) : (s.wr0 o v).hold = s.hold := (congrArg Core.hold (wr_frame s o 0 0 v) :)
@[simp] theorem wr0_spit (o : Ob) (v : Nat) : (s.wr0 o v).spit = s.spit := (congrArg Core.spit (wr_frame s o 0 0 v) :)
@[simp] theorem wr0_colTop (o : Ob) (v : Nat) : (s.wr0 o v).colTop = s.colTop := (congrArg Core.colTop (wr_frame s o 0 0 v) :)
@[simp] theorem wr0_bobCycles (o : Ob) (v : Nat) : (s.wr0 o v).bobCycles = s.bobCycles := (congrArg Core.bobCycles (wr_frame s o 0 0 v) :)
@[simp] theorem wr0_lanes (o : Ob) (v : Nat) : (s.wr0 o v).lanes = s.lanes := (congrArg Core.lanes (wr_frame s o 0 0 v) :)
@[simp] theorem wr0_comet (o : Ob) (v : Nat) : (s.wr0 o v).comet = s.comet := (congrArg Core.comet (wr_frame s o 0 0 v) :)
@[simp] theorem wr0_headStep (o : Ob) (v : Nat) : (s.wr0 o v).headStep = s.headStep := (congrArg Core.headStep (wr_frame s o 0 0 v) :)
@[simp] theorem wr0_fseq (o : Ob) (v : Nat) : (s.wr0 o v).fseq = s.fseq := (congrArg Core.fseq (wr_frame s o 0 0 v) :)
@[simp] theorem wr0_ringTx (o : Ob) (v : Nat) : (s.wr0 o v).ringTx = s.ringTx := (congrArg Core.ringTx (wr_frame s o 0 0 v) :)
@[simp] theorem wr0_stage (o : Ob) (v : Nat) : (s.wr0 o v).stage = s.stage := (congrArg Core.stage (wr_frame s o 0 0 v) :)
@[simp] theorem wr0_thimJ (o : Ob) (v : Nat) : (s.wr0 o v).thimJ = s.thimJ := (congrArg Core.thimJ (wr_frame s o 0 0 v) :)
@[simp] theorem wr0_orphanAge (o : Ob) (v : Nat) : (s.wr0 o v).orphanAge = s.orphanAge := (congrArg Core.orphanAge (wr_frame s o 0 0 v) :)
@[simp] theorem wr0_measPending (o : Ob) (v : Nat) : (s.wr0 o v).measPending = s.measPending := (congrArg Core.measPending (wr_frame s o 0 0 v) :)
@[simp] theorem wr0_jsPending (o : Ob) (v : Nat) : (s.wr0 o v).jsPending = s.jsPending := (congrArg Core.jsPending (wr_frame s o 0 0 v) :)
@[simp] theorem wr0_jsRunning (o : Ob) (v : Nat) : (s.wr0 o v).jsRunning = s.jsRunning := (congrArg Core.jsRunning (wr_frame s o 0 0 v) :)
@[simp] theorem wr0_jsStart (o : Ob) (v : Nat) : (s.wr0 o v).jsStart = s.jsStart := (congrArg Core.jsStart (wr_frame s o 0 0 v) :)
@[simp] theorem wr0_afe (o : Ob) (v : Nat) : (s.wr0 o v).afe = s.afe := (congrArg Core.afe (wr_frame s o 0 0 v) :)
@[simp] theorem wr0_afeRef (o : Ob) (v : Nat) : (s.wr0 o v).afeRef = s.afeRef := (congrArg Core.afeRef (wr_frame s o 0 0 v) :)
@[simp] theorem wr0_meas (o : Ob) (v : Nat) : (s.wr0 o v).meas = s.meas := (congrArg Core.meas (wr_frame s o 0 0 v) :)
@[simp] theorem wr0_prevTemp (o : Ob) (v : Nat) : (s.wr0 o v).prevTemp = s.prevTemp := (congrArg Core.prevTemp (wr_frame s o 0 0 v) :)
@[simp] theorem wr0_hsRuns (o : Ob) (v : Nat) : (s.wr0 o v).hsRuns = s.hsRuns := (congrArg Core.hsRuns (wr_frame s o 0 0 v) :)
@[simp] theorem wr0_slotKeys (o : Ob) (v : Nat) : (s.wr0 o v).slotKeys = s.slotKeys := (congrArg Core.slotKeys (wr_frame s o 0 0 v) :)
@[simp] theorem wr0_roleKeys (o : Ob) (v : Nat) : (s.wr0 o v).roleKeys = s.roleKeys := (congrArg Core.roleKeys (wr_frame s o 0 0 v) :)
@[simp] theorem wr0_sweepDead (o : Ob) (v : Nat) : (s.wr0 o v).sweepDead = s.sweepDead := (congrArg Core.sweepDead (wr_frame s o 0 0 v) :)
@[simp] theorem wr0_sweepOk (o : Ob) (v : Nat) : (s.wr0 o v).sweepOk = s.sweepOk := (congrArg Core.sweepOk (wr_frame s o 0 0 v) :)
@[simp] theorem wr0_ringSweep (o : Ob) (v : Nat) : (s.wr0 o v).ringSweep = s.ringSweep := (congrArg Core.ringSweep (wr_frame s o 0 0 v) :)
@[simp] theorem wr0_ringSweepLast (o : Ob) (v : Nat) : (s.wr0 o v).ringSweepLast = s.ringSweepLast := (congrArg Core.ringSweepLast (wr_frame s o 0 0 v) :)
@[simp] theorem wr0_doneTop (o : Ob) (v : Nat) : (s.wr0 o v).doneTop = s.doneTop := (congrArg Core.doneTop (wr_frame s o 0 0 v) :)
@[simp] theorem wr0_decs (o : Ob) (v : Nat) : (s.wr0 o v).decs = s.decs := (congrArg Core.decs (wr_frame s o 0 0 v) :)
@[simp] theorem wr0_stream (o : Ob) (v : Nat) : (s.wr0 o v).stream = s.stream := (congrArg Core.stream (wr_frame s o 0 0 v) :)
@[simp] theorem wr0_measDue (o : Ob) (v : Nat) : (s.wr0 o v).measDue = s.measDue := (congrArg Core.measDue (wr_frame s o 0 0 v) :)
@[simp] theorem wr0_dma (o : Ob) (v : Nat) : (s.wr0 o v).dma = s.dma := (congrArg Core.dma (wr_frame s o 0 0 v) :)
@[simp] theorem wr0_dmaLast (o : Ob) (v : Nat) : (s.wr0 o v).dmaLast = s.dmaLast := (congrArg Core.dmaLast (wr_frame s o 0 0 v) :)
@[simp] theorem wr0_dmaTop (o : Ob) (v : Nat) : (s.wr0 o v).dmaTop = s.dmaTop := (congrArg Core.dmaTop (wr_frame s o 0 0 v) :)
@[simp] theorem wr0_badWords (o : Ob) (v : Nat) : (s.wr0 o v).badWords = s.badWords := (congrArg Core.badWords (wr_frame s o 0 0 v) :)
@[simp] theorem wr0_handing (o : Ob) (v : Nat) : (s.wr0 o v).handing = s.handing := (congrArg Core.handing (wr_frame s o 0 0 v) :)
@[simp] theorem wr0_dramEcc (o : Ob) (v : Nat) : (s.wr0 o v).dramEcc = s.dramEcc := (congrArg Core.dramEcc (wr_frame s o 0 0 v) :)
@[simp] theorem wr0_basteNext (o : Ob) (v : Nat) : (s.wr0 o v).basteNext = s.basteNext := (congrArg Core.basteNext (wr_frame s o 0 0 v) :)
@[simp] theorem wr0_basteTries (o : Ob) (v : Nat) : (s.wr0 o v).basteTries = s.basteTries := (congrArg Core.basteTries (wr_frame s o 0 0 v) :)
@[simp] theorem wr0_basteAt (o : Ob) (v : Nat) : (s.wr0 o v).basteAt = s.basteAt := (congrArg Core.basteAt (wr_frame s o 0 0 v) :)
@[simp] theorem wr0_basteDone (o : Ob) (v : Nat) : (s.wr0 o v).basteDone = s.basteDone := (congrArg Core.basteDone (wr_frame s o 0 0 v) :)
@[simp] theorem wr0_mot (o : Ob) (v : Nat) : (s.wr0 o v).mot = s.mot := (congrArg Core.mot (wr_frame s o 0 0 v) :)
@[simp] theorem wr0_ring (o : Ob) (v : Nat) : (s.wr0 o v).ring = s.ring := (congrArg Core.ring (wr_frame s o 0 0 v) :)
@[simp] theorem wr0_ptp (o : Ob) (v : Nat) : (s.wr0 o v).ptp = s.ptp := (congrArg Core.ptp (wr_frame s o 0 0 v) :)
@[simp] theorem wr0_pair (o : Ob) (v : Nat) : (s.wr0 o v).pair = s.pair := (congrArg Core.pair (wr_frame s o 0 0 v) :)
@[simp] theorem wr0_netUsed (o : Ob) (v : Nat) : (s.wr0 o v).netUsed = s.netUsed := (congrArg Core.netUsed (wr_frame s o 0 0 v) :)
@[simp] theorem wr0_hwAt (o : Ob) (v : Nat) : (s.wr0 o v).hwAt = s.hwAt := (congrArg Core.hwAt (wr_frame s o 0 0 v) :)
@[simp] theorem wr0_bumps (o : Ob) (v : Nat) : (s.wr0 o v).bumps = s.bumps := (congrArg Core.bumps (wr_frame s o 0 0 v) :)
@[simp] theorem wr0_bumpAt (o : Ob) (v : Nat) : (s.wr0 o v).bumpAt = s.bumpAt := (congrArg Core.bumpAt (wr_frame s o 0 0 v) :)
@[simp] theorem wr0_rawRegs (o : Ob) (v : Nat) : (s.wr0 o v).rawRegs = s.rawRegs := (congrArg Core.rawRegs (wr_frame s o 0 0 v) :)
@[simp] theorem wr0_bist (o : Ob) (v : Nat) : (s.wr0 o v).bist = s.bist := (congrArg Core.bist (wr_frame s o 0 0 v) :)
@[simp] theorem wr0_wantReady (o : Ob) (v : Nat) : (s.wr0 o v).wantReady = s.wantReady := (congrArg Core.wantReady (wr_frame s o 0 0 v) :)
@[simp] theorem wr0_stopCap (o : Ob) (v : Nat) : (s.wr0 o v).stopCap = s.stopCap := (congrArg Core.stopCap (wr_frame s o 0 0 v) :)
@[simp] theorem wr0_headSources (o : Ob) (v : Nat) : (s.wr0 o v).headSources = s.headSources := (congrArg Core.headSources (wr_frame s o 0 0 v) :)
@[simp] theorem wr0_railWait (o : Ob) (v : Nat) : (s.wr0 o v).railWait = s.railWait := (congrArg Core.railWait (wr_frame s o 0 0 v) :)
@[simp] theorem wr0_causes (o : Ob) (v : Nat) : (s.wr0 o v).causes = s.causes := (congrArg Core.causes (wr_frame s o 0 0 v) :)
@[simp] theorem wr0_resetLow (o : Ob) (v : Nat) : (s.wr0 o v).resetLow = s.resetLow := (congrArg Core.resetLow (wr_frame s o 0 0 v) :)
@[simp] theorem wr0_fromRetain (o : Ob) (v : Nat) : (s.wr0 o v).fromRetain = s.fromRetain := (congrArg Core.fromRetain (wr_frame s o 0 0 v) :)
@[simp] theorem wr0_islandsDown (o : Ob) (v : Nat) : (s.wr0 o v).islandsDown = s.islandsDown := (congrArg Core.islandsDown (wr_frame s o 0 0 v) :)
@[simp] theorem wr0_driftRaised (o : Ob) (v : Nat) : (s.wr0 o v).driftRaised = s.driftRaised := (congrArg Core.driftRaised (wr_frame s o 0 0 v) :)
@[simp] theorem wr0_bistWasCut (o : Ob) (v : Nat) : (s.wr0 o v).bistWasCut = s.bistWasCut := (congrArg Core.bistWasCut (wr_frame s o 0 0 v) :)
@[simp] theorem wr0_testEn (o : Ob) (v : Nat) : (s.wr0 o v).testEn = s.testEn := (congrArg Core.testEn (wr_frame s o 0 0 v) :)
@[simp] theorem wr0_tapIr (o : Ob) (v : Nat) : (s.wr0 o v).tapIr = s.tapIr := (congrArg Core.tapIr (wr_frame s o 0 0 v) :)
@[simp] theorem wr0_tapBoundary (o : Ob) (v : Nat) : (s.wr0 o v).tapBoundary = s.tapBoundary := (congrArg Core.tapBoundary (wr_frame s o 0 0 v) :)
@[simp] theorem wr0_strapPorts (o : Ob) (v : Nat) : (s.wr0 o v).strapPorts = s.strapPorts := (congrArg Core.strapPorts (wr_frame s o 0 0 v) :)

/-! ### Core.wrI -/

@[simp] theorem wrI_clk (o : Ob) (i j : Nat) (v : Int) : (s.wrI o i j v).clk = s.clk := (congrArg Core.clk (wr_frame s o i j (rawOf (8 * o.size) (satS (8 * o.size) v))) :)
@[simp] theorem wrI_ftAcc (o : Ob) (i j : Nat) (v : Int) : (s.wrI o i j v).ftAcc = s.ftAcc := (congrArg Core.ftAcc (wr_frame s o i j (rawOf (8 * o.size) (satS (8 * o.size) v))) :)
@[simp] theorem wrI_mode (o : Ob) (i j : Nat) (v : Int) : (s.wrI o i j v).mode = s.mode := (congrArg Core.mode (wr_frame s o i j (rawOf (8 * o.size) (satS (8 * o.size) v))) :)
@[simp] theorem wrI_phase (o : Ob) (i j : Nat) (v : Int) : (s.wrI o i j v).phase = s.phase := (congrArg Core.phase (wr_frame s o i j (rawOf (8 * o.size) (satS (8 * o.size) v))) :)
@[simp] theorem wrI_configReached (o : Ob) (i j : Nat) (v : Int) : (s.wrI o i j v).configReached = s.configReached := (congrArg Core.configReached (wr_frame s o i j (rawOf (8 * o.size) (satS (8 * o.size) v))) :)
@[simp] theorem wrI_objs (o : Ob) (i j : Nat) (v : Int) : (s.wrI o i j v).objs = Tab.set s.objs (o.key i j) (o.fit (rawOf (8 * o.size) (satS (8 * o.size) v))) := (congrArg Core.objs (wr_frame s o i j (rawOf (8 * o.size) (satS (8 * o.size) v))) :)
@[simp] theorem wrI_comp (o : Ob) (i j : Nat) (v : Int) : (s.wrI o i j v).comp = s.comp := (congrArg Core.comp (wr_frame s o i j (rawOf (8 * o.size) (satS (8 * o.size) v))) :)
@[simp] theorem wrI_journal (o : Ob) (i j : Nat) (v : Int) : (s.wrI o i j v).journal = s.journal := (congrArg Core.journal (wr_frame s o i j (rawOf (8 * o.size) (satS (8 * o.size) v))) :)
@[simp] theorem wrI_journalFailing (o : Ob) (i j : Nat) (v : Int) : (s.wrI o i j v).journalFailing = s.journalFailing := (congrArg Core.journalFailing (wr_frame s o i j (rawOf (8 * o.size) (satS (8 * o.size) v))) :)
@[simp] theorem wrI_src (o : Ob) (i j : Nat) (v : Int) : (s.wrI o i j v).src = s.src := (congrArg Core.src (wr_frame s o i j (rawOf (8 * o.size) (satS (8 * o.size) v))) :)
@[simp] theorem wrI_log (o : Ob) (i j : Nat) (v : Int) : (s.wrI o i j v).log = s.log := (congrArg Core.log (wr_frame s o i j (rawOf (8 * o.size) (satS (8 * o.size) v))) :)
@[simp] theorem wrI_logRet (o : Ob) (i j : Nat) (v : Int) : (s.wrI o i j v).logRet = s.logRet := (congrArg Core.logRet (wr_frame s o i j (rawOf (8 * o.size) (satS (8 * o.size) v))) :)
@[simp] theorem wrI_alsoRaise (o : Ob) (i j : Nat) (v : Int) : (s.wrI o i j v).alsoRaise = s.alsoRaise := (congrArg Core.alsoRaise (wr_frame s o i j (rawOf (8 * o.size) (satS (8 * o.size) v))) :)
@[simp] theorem wrI_safeSince (o : Ob) (i j : Nat) (v : Int) : (s.wrI o i j v).safeSince = s.safeSince := (congrArg Core.safeSince (wr_frame s o i j (rawOf (8 * o.size) (satS (8 * o.size) v))) :)
@[simp] theorem wrI_wdogExpired (o : Ob) (i j : Nat) (v : Int) : (s.wrI o i j v).wdogExpired = s.wdogExpired := (congrArg Core.wdogExpired (wr_frame s o i j (rawOf (8 * o.size) (satS (8 * o.size) v))) :)
@[simp] theorem wrI_sess (o : Ob) (i j : Nat) (v : Int) : (s.wrI o i j v).sess = s.sess := (congrArg Core.sess (wr_frame s o i j (rawOf (8 * o.size) (satS (8 * o.size) v))) :)
@[simp] theorem wrI_txnId (o : Ob) (i j : Nat) (v : Int) : (s.wrI o i j v).txnId = s.txnId := (congrArg Core.txnId (wr_frame s o i j (rawOf (8 * o.size) (satS (8 * o.size) v))) :)
@[simp] theorem wrI_noSess (o : Ob) (i j : Nat) (v : Int) : (s.wrI o i j v).noSess = s.noSess := (congrArg Core.noSess (wr_frame s o i j (rawOf (8 * o.size) (satS (8 * o.size) v))) :)
@[simp] theorem wrI_stop (o : Ob) (i j : Nat) (v : Int) : (s.wrI o i j v).stop = s.stop := (congrArg Core.stop (wr_frame s o i j (rawOf (8 * o.size) (satS (8 * o.size) v))) :)
@[simp] theorem wrI_out (o : Ob) (i j : Nat) (v : Int) : (s.wrI o i j v).out = s.out := (congrArg Core.out (wr_frame s o i j (rawOf (8 * o.size) (satS (8 * o.size) v))) :)
@[simp] theorem wrI_lastStatus (o : Ob) (i j : Nat) (v : Int) : (s.wrI o i j v).lastStatus = s.lastStatus := (congrArg Core.lastStatus (wr_frame s o i j (rawOf (8 * o.size) (satS (8 * o.size) v))) :)
@[simp] theorem wrI_timers (o : Ob) (i j : Nat) (v : Int) : (s.wrI o i j v).timers = s.timers := (congrArg Core.timers (wr_frame s o i j (rawOf (8 * o.size) (satS (8 * o.size) v))) :)
@[simp] theorem wrI_freeCount (o : Ob) (i j : Nat) (v : Int) : (s.wrI o i j v).freeCount = s.freeCount := (congrArg Core.freeCount (wr_frame s o i j (rawOf (8 * o.size) (satS (8 * o.size) v))) :)
@[simp] theorem wrI_chans (o : Ob) (i j : Nat) (v : Int) : (s.wrI o i j v).chans = s.chans := (congrArg Core.chans (wr_frame s o i j (rawOf (8 * o.size) (satS (8 * o.size) v))) :)
@[simp] theorem wrI_tacks (o : Ob) (i j : Nat) (v : Int) : (s.wrI o i j v).tacks = s.tacks := (congrArg Core.tacks (wr_frame s o i j (rawOf (8 * o.size) (satS (8 * o.size) v))) :)
@[simp] theorem wrI_pred (o : Ob) (i j : Nat) (v : Int) : (s.wrI o i j v).pred = s.pred := (congrArg Core.pred (wr_frame s o i j (rawOf (8 * o.size) (satS (8 * o.size) v))) :)
@[simp] theorem wrI_ports (o : Ob) (i j : Nat) (v : Int) : (s.wrI o i j v).ports = s.ports := (congrArg Core.ports (wr_frame s o i j (rawOf (8 * o.size) (satS (8 * o.size) v))) :)
@[simp] theorem wrI_pages (o : Ob) (i j : Nat) (v : Int) : (s.wrI o i j v).pages = s.pages := (congrArg Core.pages (wr_frame s o i j (rawOf (8 * o.size) (satS (8 * o.size) v))) :)
@[simp] theorem wrI_job (o : Ob) (i j : Nat) (v : Int) : (s.wrI o i j v).job = s.job := (congrArg Core.job (wr_frame s o i j (rawOf (8 * o.size) (satS (8 * o.size) v))) :)
@[simp] theorem wrI_staged (o : Ob) (i j : Nat) (v : Int) : (s.wrI o i j v).staged = s.staged := (congrArg Core.staged (wr_frame s o i j (rawOf (8 * o.size) (satS (8 * o.size) v))) :)
@[simp] theorem wrI_decided (o : Ob) (i j : Nat) (v : Int) : (s.wrI o i j v).decided = s.decided := (congrArg Core.decided (wr_frame s o i j (rawOf (8 * o.size) (satS (8 * o.size) v))) :)
@[simp] theorem wrI_hold (o : Ob) (i j : Nat) (v : Int) : (s.wrI o i j v).hold = s.hold := (congrArg Core.hold (wr_frame s o i j (rawOf (8 * o.size) (satS (8 * o.size) v))) :)
@[simp] theorem wrI_spit (o : Ob) (i j : Nat) (v : Int) : (s.wrI o i j v).spit = s.spit := (congrArg Core.spit (wr_frame s o i j (rawOf (8 * o.size) (satS (8 * o.size) v))) :)
@[simp] theorem wrI_colTop (o : Ob) (i j : Nat) (v : Int) : (s.wrI o i j v).colTop = s.colTop := (congrArg Core.colTop (wr_frame s o i j (rawOf (8 * o.size) (satS (8 * o.size) v))) :)
@[simp] theorem wrI_bobCycles (o : Ob) (i j : Nat) (v : Int) : (s.wrI o i j v).bobCycles = s.bobCycles := (congrArg Core.bobCycles (wr_frame s o i j (rawOf (8 * o.size) (satS (8 * o.size) v))) :)
@[simp] theorem wrI_lanes (o : Ob) (i j : Nat) (v : Int) : (s.wrI o i j v).lanes = s.lanes := (congrArg Core.lanes (wr_frame s o i j (rawOf (8 * o.size) (satS (8 * o.size) v))) :)
@[simp] theorem wrI_comet (o : Ob) (i j : Nat) (v : Int) : (s.wrI o i j v).comet = s.comet := (congrArg Core.comet (wr_frame s o i j (rawOf (8 * o.size) (satS (8 * o.size) v))) :)
@[simp] theorem wrI_headStep (o : Ob) (i j : Nat) (v : Int) : (s.wrI o i j v).headStep = s.headStep := (congrArg Core.headStep (wr_frame s o i j (rawOf (8 * o.size) (satS (8 * o.size) v))) :)
@[simp] theorem wrI_fseq (o : Ob) (i j : Nat) (v : Int) : (s.wrI o i j v).fseq = s.fseq := (congrArg Core.fseq (wr_frame s o i j (rawOf (8 * o.size) (satS (8 * o.size) v))) :)
@[simp] theorem wrI_ringTx (o : Ob) (i j : Nat) (v : Int) : (s.wrI o i j v).ringTx = s.ringTx := (congrArg Core.ringTx (wr_frame s o i j (rawOf (8 * o.size) (satS (8 * o.size) v))) :)
@[simp] theorem wrI_stage (o : Ob) (i j : Nat) (v : Int) : (s.wrI o i j v).stage = s.stage := (congrArg Core.stage (wr_frame s o i j (rawOf (8 * o.size) (satS (8 * o.size) v))) :)
@[simp] theorem wrI_thimJ (o : Ob) (i j : Nat) (v : Int) : (s.wrI o i j v).thimJ = s.thimJ := (congrArg Core.thimJ (wr_frame s o i j (rawOf (8 * o.size) (satS (8 * o.size) v))) :)
@[simp] theorem wrI_orphanAge (o : Ob) (i j : Nat) (v : Int) : (s.wrI o i j v).orphanAge = s.orphanAge := (congrArg Core.orphanAge (wr_frame s o i j (rawOf (8 * o.size) (satS (8 * o.size) v))) :)
@[simp] theorem wrI_measPending (o : Ob) (i j : Nat) (v : Int) : (s.wrI o i j v).measPending = s.measPending := (congrArg Core.measPending (wr_frame s o i j (rawOf (8 * o.size) (satS (8 * o.size) v))) :)
@[simp] theorem wrI_jsPending (o : Ob) (i j : Nat) (v : Int) : (s.wrI o i j v).jsPending = s.jsPending := (congrArg Core.jsPending (wr_frame s o i j (rawOf (8 * o.size) (satS (8 * o.size) v))) :)
@[simp] theorem wrI_jsRunning (o : Ob) (i j : Nat) (v : Int) : (s.wrI o i j v).jsRunning = s.jsRunning := (congrArg Core.jsRunning (wr_frame s o i j (rawOf (8 * o.size) (satS (8 * o.size) v))) :)
@[simp] theorem wrI_jsStart (o : Ob) (i j : Nat) (v : Int) : (s.wrI o i j v).jsStart = s.jsStart := (congrArg Core.jsStart (wr_frame s o i j (rawOf (8 * o.size) (satS (8 * o.size) v))) :)
@[simp] theorem wrI_afe (o : Ob) (i j : Nat) (v : Int) : (s.wrI o i j v).afe = s.afe := (congrArg Core.afe (wr_frame s o i j (rawOf (8 * o.size) (satS (8 * o.size) v))) :)
@[simp] theorem wrI_afeRef (o : Ob) (i j : Nat) (v : Int) : (s.wrI o i j v).afeRef = s.afeRef := (congrArg Core.afeRef (wr_frame s o i j (rawOf (8 * o.size) (satS (8 * o.size) v))) :)
@[simp] theorem wrI_meas (o : Ob) (i j : Nat) (v : Int) : (s.wrI o i j v).meas = s.meas := (congrArg Core.meas (wr_frame s o i j (rawOf (8 * o.size) (satS (8 * o.size) v))) :)
@[simp] theorem wrI_prevTemp (o : Ob) (i j : Nat) (v : Int) : (s.wrI o i j v).prevTemp = s.prevTemp := (congrArg Core.prevTemp (wr_frame s o i j (rawOf (8 * o.size) (satS (8 * o.size) v))) :)
@[simp] theorem wrI_hsRuns (o : Ob) (i j : Nat) (v : Int) : (s.wrI o i j v).hsRuns = s.hsRuns := (congrArg Core.hsRuns (wr_frame s o i j (rawOf (8 * o.size) (satS (8 * o.size) v))) :)
@[simp] theorem wrI_slotKeys (o : Ob) (i j : Nat) (v : Int) : (s.wrI o i j v).slotKeys = s.slotKeys := (congrArg Core.slotKeys (wr_frame s o i j (rawOf (8 * o.size) (satS (8 * o.size) v))) :)
@[simp] theorem wrI_roleKeys (o : Ob) (i j : Nat) (v : Int) : (s.wrI o i j v).roleKeys = s.roleKeys := (congrArg Core.roleKeys (wr_frame s o i j (rawOf (8 * o.size) (satS (8 * o.size) v))) :)
@[simp] theorem wrI_sweepDead (o : Ob) (i j : Nat) (v : Int) : (s.wrI o i j v).sweepDead = s.sweepDead := (congrArg Core.sweepDead (wr_frame s o i j (rawOf (8 * o.size) (satS (8 * o.size) v))) :)
@[simp] theorem wrI_sweepOk (o : Ob) (i j : Nat) (v : Int) : (s.wrI o i j v).sweepOk = s.sweepOk := (congrArg Core.sweepOk (wr_frame s o i j (rawOf (8 * o.size) (satS (8 * o.size) v))) :)
@[simp] theorem wrI_ringSweep (o : Ob) (i j : Nat) (v : Int) : (s.wrI o i j v).ringSweep = s.ringSweep := (congrArg Core.ringSweep (wr_frame s o i j (rawOf (8 * o.size) (satS (8 * o.size) v))) :)
@[simp] theorem wrI_ringSweepLast (o : Ob) (i j : Nat) (v : Int) : (s.wrI o i j v).ringSweepLast = s.ringSweepLast := (congrArg Core.ringSweepLast (wr_frame s o i j (rawOf (8 * o.size) (satS (8 * o.size) v))) :)
@[simp] theorem wrI_doneTop (o : Ob) (i j : Nat) (v : Int) : (s.wrI o i j v).doneTop = s.doneTop := (congrArg Core.doneTop (wr_frame s o i j (rawOf (8 * o.size) (satS (8 * o.size) v))) :)
@[simp] theorem wrI_decs (o : Ob) (i j : Nat) (v : Int) : (s.wrI o i j v).decs = s.decs := (congrArg Core.decs (wr_frame s o i j (rawOf (8 * o.size) (satS (8 * o.size) v))) :)
@[simp] theorem wrI_stream (o : Ob) (i j : Nat) (v : Int) : (s.wrI o i j v).stream = s.stream := (congrArg Core.stream (wr_frame s o i j (rawOf (8 * o.size) (satS (8 * o.size) v))) :)
@[simp] theorem wrI_measDue (o : Ob) (i j : Nat) (v : Int) : (s.wrI o i j v).measDue = s.measDue := (congrArg Core.measDue (wr_frame s o i j (rawOf (8 * o.size) (satS (8 * o.size) v))) :)
@[simp] theorem wrI_dma (o : Ob) (i j : Nat) (v : Int) : (s.wrI o i j v).dma = s.dma := (congrArg Core.dma (wr_frame s o i j (rawOf (8 * o.size) (satS (8 * o.size) v))) :)
@[simp] theorem wrI_dmaLast (o : Ob) (i j : Nat) (v : Int) : (s.wrI o i j v).dmaLast = s.dmaLast := (congrArg Core.dmaLast (wr_frame s o i j (rawOf (8 * o.size) (satS (8 * o.size) v))) :)
@[simp] theorem wrI_dmaTop (o : Ob) (i j : Nat) (v : Int) : (s.wrI o i j v).dmaTop = s.dmaTop := (congrArg Core.dmaTop (wr_frame s o i j (rawOf (8 * o.size) (satS (8 * o.size) v))) :)
@[simp] theorem wrI_badWords (o : Ob) (i j : Nat) (v : Int) : (s.wrI o i j v).badWords = s.badWords := (congrArg Core.badWords (wr_frame s o i j (rawOf (8 * o.size) (satS (8 * o.size) v))) :)
@[simp] theorem wrI_handing (o : Ob) (i j : Nat) (v : Int) : (s.wrI o i j v).handing = s.handing := (congrArg Core.handing (wr_frame s o i j (rawOf (8 * o.size) (satS (8 * o.size) v))) :)
@[simp] theorem wrI_dramEcc (o : Ob) (i j : Nat) (v : Int) : (s.wrI o i j v).dramEcc = s.dramEcc := (congrArg Core.dramEcc (wr_frame s o i j (rawOf (8 * o.size) (satS (8 * o.size) v))) :)
@[simp] theorem wrI_basteNext (o : Ob) (i j : Nat) (v : Int) : (s.wrI o i j v).basteNext = s.basteNext := (congrArg Core.basteNext (wr_frame s o i j (rawOf (8 * o.size) (satS (8 * o.size) v))) :)
@[simp] theorem wrI_basteTries (o : Ob) (i j : Nat) (v : Int) : (s.wrI o i j v).basteTries = s.basteTries := (congrArg Core.basteTries (wr_frame s o i j (rawOf (8 * o.size) (satS (8 * o.size) v))) :)
@[simp] theorem wrI_basteAt (o : Ob) (i j : Nat) (v : Int) : (s.wrI o i j v).basteAt = s.basteAt := (congrArg Core.basteAt (wr_frame s o i j (rawOf (8 * o.size) (satS (8 * o.size) v))) :)
@[simp] theorem wrI_basteDone (o : Ob) (i j : Nat) (v : Int) : (s.wrI o i j v).basteDone = s.basteDone := (congrArg Core.basteDone (wr_frame s o i j (rawOf (8 * o.size) (satS (8 * o.size) v))) :)
@[simp] theorem wrI_mot (o : Ob) (i j : Nat) (v : Int) : (s.wrI o i j v).mot = s.mot := (congrArg Core.mot (wr_frame s o i j (rawOf (8 * o.size) (satS (8 * o.size) v))) :)
@[simp] theorem wrI_ring (o : Ob) (i j : Nat) (v : Int) : (s.wrI o i j v).ring = s.ring := (congrArg Core.ring (wr_frame s o i j (rawOf (8 * o.size) (satS (8 * o.size) v))) :)
@[simp] theorem wrI_ptp (o : Ob) (i j : Nat) (v : Int) : (s.wrI o i j v).ptp = s.ptp := (congrArg Core.ptp (wr_frame s o i j (rawOf (8 * o.size) (satS (8 * o.size) v))) :)
@[simp] theorem wrI_pair (o : Ob) (i j : Nat) (v : Int) : (s.wrI o i j v).pair = s.pair := (congrArg Core.pair (wr_frame s o i j (rawOf (8 * o.size) (satS (8 * o.size) v))) :)
@[simp] theorem wrI_netUsed (o : Ob) (i j : Nat) (v : Int) : (s.wrI o i j v).netUsed = s.netUsed := (congrArg Core.netUsed (wr_frame s o i j (rawOf (8 * o.size) (satS (8 * o.size) v))) :)
@[simp] theorem wrI_hwAt (o : Ob) (i j : Nat) (v : Int) : (s.wrI o i j v).hwAt = s.hwAt := (congrArg Core.hwAt (wr_frame s o i j (rawOf (8 * o.size) (satS (8 * o.size) v))) :)
@[simp] theorem wrI_bumps (o : Ob) (i j : Nat) (v : Int) : (s.wrI o i j v).bumps = s.bumps := (congrArg Core.bumps (wr_frame s o i j (rawOf (8 * o.size) (satS (8 * o.size) v))) :)
@[simp] theorem wrI_bumpAt (o : Ob) (i j : Nat) (v : Int) : (s.wrI o i j v).bumpAt = s.bumpAt := (congrArg Core.bumpAt (wr_frame s o i j (rawOf (8 * o.size) (satS (8 * o.size) v))) :)
@[simp] theorem wrI_rawRegs (o : Ob) (i j : Nat) (v : Int) : (s.wrI o i j v).rawRegs = s.rawRegs := (congrArg Core.rawRegs (wr_frame s o i j (rawOf (8 * o.size) (satS (8 * o.size) v))) :)
@[simp] theorem wrI_bist (o : Ob) (i j : Nat) (v : Int) : (s.wrI o i j v).bist = s.bist := (congrArg Core.bist (wr_frame s o i j (rawOf (8 * o.size) (satS (8 * o.size) v))) :)
@[simp] theorem wrI_wantReady (o : Ob) (i j : Nat) (v : Int) : (s.wrI o i j v).wantReady = s.wantReady := (congrArg Core.wantReady (wr_frame s o i j (rawOf (8 * o.size) (satS (8 * o.size) v))) :)
@[simp] theorem wrI_stopCap (o : Ob) (i j : Nat) (v : Int) : (s.wrI o i j v).stopCap = s.stopCap := (congrArg Core.stopCap (wr_frame s o i j (rawOf (8 * o.size) (satS (8 * o.size) v))) :)
@[simp] theorem wrI_headSources (o : Ob) (i j : Nat) (v : Int) : (s.wrI o i j v).headSources = s.headSources := (congrArg Core.headSources (wr_frame s o i j (rawOf (8 * o.size) (satS (8 * o.size) v))) :)
@[simp] theorem wrI_railWait (o : Ob) (i j : Nat) (v : Int) : (s.wrI o i j v).railWait = s.railWait := (congrArg Core.railWait (wr_frame s o i j (rawOf (8 * o.size) (satS (8 * o.size) v))) :)
@[simp] theorem wrI_causes (o : Ob) (i j : Nat) (v : Int) : (s.wrI o i j v).causes = s.causes := (congrArg Core.causes (wr_frame s o i j (rawOf (8 * o.size) (satS (8 * o.size) v))) :)
@[simp] theorem wrI_resetLow (o : Ob) (i j : Nat) (v : Int) : (s.wrI o i j v).resetLow = s.resetLow := (congrArg Core.resetLow (wr_frame s o i j (rawOf (8 * o.size) (satS (8 * o.size) v))) :)
@[simp] theorem wrI_fromRetain (o : Ob) (i j : Nat) (v : Int) : (s.wrI o i j v).fromRetain = s.fromRetain := (congrArg Core.fromRetain (wr_frame s o i j (rawOf (8 * o.size) (satS (8 * o.size) v))) :)
@[simp] theorem wrI_islandsDown (o : Ob) (i j : Nat) (v : Int) : (s.wrI o i j v).islandsDown = s.islandsDown := (congrArg Core.islandsDown (wr_frame s o i j (rawOf (8 * o.size) (satS (8 * o.size) v))) :)
@[simp] theorem wrI_driftRaised (o : Ob) (i j : Nat) (v : Int) : (s.wrI o i j v).driftRaised = s.driftRaised := (congrArg Core.driftRaised (wr_frame s o i j (rawOf (8 * o.size) (satS (8 * o.size) v))) :)
@[simp] theorem wrI_bistWasCut (o : Ob) (i j : Nat) (v : Int) : (s.wrI o i j v).bistWasCut = s.bistWasCut := (congrArg Core.bistWasCut (wr_frame s o i j (rawOf (8 * o.size) (satS (8 * o.size) v))) :)
@[simp] theorem wrI_testEn (o : Ob) (i j : Nat) (v : Int) : (s.wrI o i j v).testEn = s.testEn := (congrArg Core.testEn (wr_frame s o i j (rawOf (8 * o.size) (satS (8 * o.size) v))) :)
@[simp] theorem wrI_tapIr (o : Ob) (i j : Nat) (v : Int) : (s.wrI o i j v).tapIr = s.tapIr := (congrArg Core.tapIr (wr_frame s o i j (rawOf (8 * o.size) (satS (8 * o.size) v))) :)
@[simp] theorem wrI_tapBoundary (o : Ob) (i j : Nat) (v : Int) : (s.wrI o i j v).tapBoundary = s.tapBoundary := (congrArg Core.tapBoundary (wr_frame s o i j (rawOf (8 * o.size) (satS (8 * o.size) v))) :)
@[simp] theorem wrI_strapPorts (o : Ob) (i j : Nat) (v : Int) : (s.wrI o i j v).strapPorts = s.strapPorts := (congrArg Core.strapPorts (wr_frame s o i j (rawOf (8 * o.size) (satS (8 * o.size) v))) :)

/-! ### Core.bump -/

@[simp] theorem bump_clk (key k : Nat) : (s.bump key k).clk = s.clk := rfl
@[simp] theorem bump_ftAcc (key k : Nat) : (s.bump key k).ftAcc = s.ftAcc := rfl
@[simp] theorem bump_mode (key k : Nat) : (s.bump key k).mode = s.mode := rfl
@[simp] theorem bump_phase (key k : Nat) : (s.bump key k).phase = s.phase := rfl
@[simp] theorem bump_configReached (key k : Nat) : (s.bump key k).configReached = s.configReached := rfl
@[simp] theorem bump_objs (key k : Nat) : (s.bump key k).objs = s.objs := rfl
@[simp] theorem bump_comp (key k : Nat) : (s.bump key k).comp = s.comp := rfl
@[simp] theorem bump_dirty (key k : Nat) : (s.bump key k).dirty = s.dirty := rfl
@[simp] theorem bump_dirtySince (key k : Nat) : (s.bump key k).dirtySince = s.dirtySince := rfl
@[simp] theorem bump_journal (key k : Nat) : (s.bump key k).journal = s.journal := rfl
@[simp] theorem bump_journalFailing (key k : Nat) : (s.bump key k).journalFailing = s.journalFailing := rfl
@[simp] theorem bump_src (key k : Nat) : (s.bump key k).src = s.src := rfl
@[simp] theorem bump_log (key k : Nat) : (s.bump key k).log = s.log := rfl
@[simp] theorem bump_logRet (key k : Nat) : (s.bump key k).logRet = s.logRet := rfl
@[simp] theorem bump_alsoRaise (key k : Nat) : (s.bump key k).alsoRaise = s.alsoRaise := rfl
@[simp] theorem bump_safeSince (key k : Nat) : (s.bump key k).safeSince = s.safeSince := rfl
@[simp] theorem bump_wdogExpired (key k : Nat) : (s.bump key k).wdogExpired = s.wdogExpired := rfl
@[simp] theorem bump_sess (key k : Nat) : (s.bump key k).sess = s.sess := rfl
@[simp] theorem bump_txnId (key k : Nat) : (s.bump key k).txnId = s.txnId := rfl
@[simp] theorem bump_noSess (key k : Nat) : (s.bump key k).noSess = s.noSess := rfl
@[simp] theorem bump_stop (key k : Nat) : (s.bump key k).stop = s.stop := rfl
@[simp] theorem bump_out (key k : Nat) : (s.bump key k).out = s.out := rfl
@[simp] theorem bump_lastStatus (key k : Nat) : (s.bump key k).lastStatus = s.lastStatus := rfl
@[simp] theorem bump_timers (key k : Nat) : (s.bump key k).timers = s.timers := rfl
@[simp] theorem bump_freeCount (key k : Nat) : (s.bump key k).freeCount = s.freeCount := rfl
@[simp] theorem bump_chans (key k : Nat) : (s.bump key k).chans = s.chans := rfl
@[simp] theorem bump_tacks (key k : Nat) : (s.bump key k).tacks = s.tacks := rfl
@[simp] theorem bump_pred (key k : Nat) : (s.bump key k).pred = s.pred := rfl
@[simp] theorem bump_ports (key k : Nat) : (s.bump key k).ports = s.ports := rfl
@[simp] theorem bump_pages (key k : Nat) : (s.bump key k).pages = s.pages := rfl
@[simp] theorem bump_job (key k : Nat) : (s.bump key k).job = s.job := rfl
@[simp] theorem bump_staged (key k : Nat) : (s.bump key k).staged = s.staged := rfl
@[simp] theorem bump_decided (key k : Nat) : (s.bump key k).decided = s.decided := rfl
@[simp] theorem bump_hold (key k : Nat) : (s.bump key k).hold = s.hold := rfl
@[simp] theorem bump_spit (key k : Nat) : (s.bump key k).spit = s.spit := rfl
@[simp] theorem bump_colTop (key k : Nat) : (s.bump key k).colTop = s.colTop := rfl
@[simp] theorem bump_bobCycles (key k : Nat) : (s.bump key k).bobCycles = s.bobCycles := rfl
@[simp] theorem bump_lanes (key k : Nat) : (s.bump key k).lanes = s.lanes := rfl
@[simp] theorem bump_comet (key k : Nat) : (s.bump key k).comet = s.comet := rfl
@[simp] theorem bump_headStep (key k : Nat) : (s.bump key k).headStep = s.headStep := rfl
@[simp] theorem bump_fseq (key k : Nat) : (s.bump key k).fseq = s.fseq := rfl
@[simp] theorem bump_ringTx (key k : Nat) : (s.bump key k).ringTx = s.ringTx := rfl
@[simp] theorem bump_stage (key k : Nat) : (s.bump key k).stage = s.stage := rfl
@[simp] theorem bump_thimJ (key k : Nat) : (s.bump key k).thimJ = s.thimJ := rfl
@[simp] theorem bump_orphanAge (key k : Nat) : (s.bump key k).orphanAge = s.orphanAge := rfl
@[simp] theorem bump_measPending (key k : Nat) : (s.bump key k).measPending = s.measPending := rfl
@[simp] theorem bump_jsPending (key k : Nat) : (s.bump key k).jsPending = s.jsPending := rfl
@[simp] theorem bump_jsRunning (key k : Nat) : (s.bump key k).jsRunning = s.jsRunning := rfl
@[simp] theorem bump_jsStart (key k : Nat) : (s.bump key k).jsStart = s.jsStart := rfl
@[simp] theorem bump_afe (key k : Nat) : (s.bump key k).afe = s.afe := rfl
@[simp] theorem bump_afeRef (key k : Nat) : (s.bump key k).afeRef = s.afeRef := rfl
@[simp] theorem bump_meas (key k : Nat) : (s.bump key k).meas = s.meas := rfl
@[simp] theorem bump_prevTemp (key k : Nat) : (s.bump key k).prevTemp = s.prevTemp := rfl
@[simp] theorem bump_hsRuns (key k : Nat) : (s.bump key k).hsRuns = s.hsRuns := rfl
@[simp] theorem bump_slotKeys (key k : Nat) : (s.bump key k).slotKeys = s.slotKeys := rfl
@[simp] theorem bump_roleKeys (key k : Nat) : (s.bump key k).roleKeys = s.roleKeys := rfl
@[simp] theorem bump_sweepDead (key k : Nat) : (s.bump key k).sweepDead = s.sweepDead := rfl
@[simp] theorem bump_sweepOk (key k : Nat) : (s.bump key k).sweepOk = s.sweepOk := rfl
@[simp] theorem bump_ringSweep (key k : Nat) : (s.bump key k).ringSweep = s.ringSweep := rfl
@[simp] theorem bump_ringSweepLast (key k : Nat) : (s.bump key k).ringSweepLast = s.ringSweepLast := rfl
@[simp] theorem bump_doneTop (key k : Nat) : (s.bump key k).doneTop = s.doneTop := rfl
@[simp] theorem bump_decs (key k : Nat) : (s.bump key k).decs = s.decs := rfl
@[simp] theorem bump_stream (key k : Nat) : (s.bump key k).stream = s.stream := rfl
@[simp] theorem bump_measDue (key k : Nat) : (s.bump key k).measDue = s.measDue := rfl
@[simp] theorem bump_dma (key k : Nat) : (s.bump key k).dma = s.dma := rfl
@[simp] theorem bump_dmaLast (key k : Nat) : (s.bump key k).dmaLast = s.dmaLast := rfl
@[simp] theorem bump_dmaTop (key k : Nat) : (s.bump key k).dmaTop = s.dmaTop := rfl
@[simp] theorem bump_badWords (key k : Nat) : (s.bump key k).badWords = s.badWords := rfl
@[simp] theorem bump_handing (key k : Nat) : (s.bump key k).handing = s.handing := rfl
@[simp] theorem bump_dramEcc (key k : Nat) : (s.bump key k).dramEcc = s.dramEcc := rfl
@[simp] theorem bump_basteNext (key k : Nat) : (s.bump key k).basteNext = s.basteNext := rfl
@[simp] theorem bump_basteTries (key k : Nat) : (s.bump key k).basteTries = s.basteTries := rfl
@[simp] theorem bump_basteAt (key k : Nat) : (s.bump key k).basteAt = s.basteAt := rfl
@[simp] theorem bump_basteDone (key k : Nat) : (s.bump key k).basteDone = s.basteDone := rfl
@[simp] theorem bump_mot (key k : Nat) : (s.bump key k).mot = s.mot := rfl
@[simp] theorem bump_ring (key k : Nat) : (s.bump key k).ring = s.ring := rfl
@[simp] theorem bump_ptp (key k : Nat) : (s.bump key k).ptp = s.ptp := rfl
@[simp] theorem bump_pair (key k : Nat) : (s.bump key k).pair = s.pair := rfl
@[simp] theorem bump_netUsed (key k : Nat) : (s.bump key k).netUsed = s.netUsed := rfl
@[simp] theorem bump_hwAt (key k : Nat) : (s.bump key k).hwAt = s.hwAt := rfl
@[simp] theorem bump_bumpAt (key k : Nat) : (s.bump key k).bumpAt = s.clk := rfl
@[simp] theorem bump_rawRegs (key k : Nat) : (s.bump key k).rawRegs = s.rawRegs := rfl
@[simp] theorem bump_bist (key k : Nat) : (s.bump key k).bist = s.bist := rfl
@[simp] theorem bump_wantReady (key k : Nat) : (s.bump key k).wantReady = s.wantReady := rfl
@[simp] theorem bump_stopCap (key k : Nat) : (s.bump key k).stopCap = s.stopCap := rfl
@[simp] theorem bump_headSources (key k : Nat) : (s.bump key k).headSources = s.headSources := rfl
@[simp] theorem bump_railWait (key k : Nat) : (s.bump key k).railWait = s.railWait := rfl
@[simp] theorem bump_causes (key k : Nat) : (s.bump key k).causes = s.causes := rfl
@[simp] theorem bump_resetLow (key k : Nat) : (s.bump key k).resetLow = s.resetLow := rfl
@[simp] theorem bump_fromRetain (key k : Nat) : (s.bump key k).fromRetain = s.fromRetain := rfl
@[simp] theorem bump_islandsDown (key k : Nat) : (s.bump key k).islandsDown = s.islandsDown := rfl
@[simp] theorem bump_driftRaised (key k : Nat) : (s.bump key k).driftRaised = s.driftRaised := rfl
@[simp] theorem bump_bistWasCut (key k : Nat) : (s.bump key k).bistWasCut = s.bistWasCut := rfl
@[simp] theorem bump_testEn (key k : Nat) : (s.bump key k).testEn = s.testEn := rfl
@[simp] theorem bump_tapIr (key k : Nat) : (s.bump key k).tapIr = s.tapIr := rfl
@[simp] theorem bump_tapBoundary (key k : Nat) : (s.bump key k).tapBoundary = s.tapBoundary := rfl
@[simp] theorem bump_strapPorts (key k : Nat) : (s.bump key k).strapPorts = s.strapPorts := rfl

/-! ### Core.inc -/

@[simp] theorem inc_clk (o : Ob) (i j k : Nat) : (s.inc o i j k).clk = s.clk := (congrArg Core.clk (wr_frame (s.bump (o.key i j) k) o i j (s.rd o i j + k)) :)
@[simp] theorem inc_ftAcc (o : Ob) (i j k : Nat) : (s.inc o i j k).ftAcc = s.ftAcc := (congrArg Core.ftAcc (wr_frame (s.bump (o.key i j) k) o i j (s.rd o i j + k)) :)
@[simp] theorem inc_mode (o : Ob) (i j k : Nat) : (s.inc o i j k).mode = s.mode := (congrArg Core.mode (wr_frame (s.bump (o.key i j) k) o i j (s.rd o i j + k)) :)
@[simp] theorem inc_phase (o : Ob) (i j k : Nat) : (s.inc o i j k).phase = s.phase := (congrArg Core.phase (wr_frame (s.bump (o.key i j) k) o i j (s.rd o i j + k)) :)
@[simp] theorem inc_configReached (o : Ob) (i j k : Nat) : (s.inc o i j k).configReached = s.configReached := (congrArg Core.configReached (wr_frame (s.bump (o.key i j) k) o i j (s.rd o i j + k)) :)
@[simp] theorem inc_objs (o : Ob) (i j k : Nat) : (s.inc o i j k).objs = Tab.set s.objs (o.key i j) (o.fit (s.rd o i j + k)) := (congrArg Core.objs (wr_frame (s.bump (o.key i j) k) o i j (s.rd o i j + k)) :)
@[simp] theorem inc_comp (o : Ob) (i j k : Nat) : (s.inc o i j k).comp = s.comp := (congrArg Core.comp (wr_frame (s.bump (o.key i j) k) o i j (s.rd o i j + k)) :)
@[simp] theorem inc_journal (o : Ob) (i j k : Nat) : (s.inc o i j k).journal = s.journal := (congrArg Core.journal (wr_frame (s.bump (o.key i j) k) o i j (s.rd o i j + k)) :)
@[simp] theorem inc_journalFailing (o : Ob) (i j k : Nat) : (s.inc o i j k).journalFailing = s.journalFailing := (congrArg Core.journalFailing (wr_frame (s.bump (o.key i j) k) o i j (s.rd o i j + k)) :)
@[simp] theorem inc_src (o : Ob) (i j k : Nat) : (s.inc o i j k).src = s.src := (congrArg Core.src (wr_frame (s.bump (o.key i j) k) o i j (s.rd o i j + k)) :)
@[simp] theorem inc_log (o : Ob) (i j k : Nat) : (s.inc o i j k).log = s.log := (congrArg Core.log (wr_frame (s.bump (o.key i j) k) o i j (s.rd o i j + k)) :)
@[simp] theorem inc_logRet (o : Ob) (i j k : Nat) : (s.inc o i j k).logRet = s.logRet := (congrArg Core.logRet (wr_frame (s.bump (o.key i j) k) o i j (s.rd o i j + k)) :)
@[simp] theorem inc_alsoRaise (o : Ob) (i j k : Nat) : (s.inc o i j k).alsoRaise = s.alsoRaise := (congrArg Core.alsoRaise (wr_frame (s.bump (o.key i j) k) o i j (s.rd o i j + k)) :)
@[simp] theorem inc_safeSince (o : Ob) (i j k : Nat) : (s.inc o i j k).safeSince = s.safeSince := (congrArg Core.safeSince (wr_frame (s.bump (o.key i j) k) o i j (s.rd o i j + k)) :)
@[simp] theorem inc_wdogExpired (o : Ob) (i j k : Nat) : (s.inc o i j k).wdogExpired = s.wdogExpired := (congrArg Core.wdogExpired (wr_frame (s.bump (o.key i j) k) o i j (s.rd o i j + k)) :)
@[simp] theorem inc_sess (o : Ob) (i j k : Nat) : (s.inc o i j k).sess = s.sess := (congrArg Core.sess (wr_frame (s.bump (o.key i j) k) o i j (s.rd o i j + k)) :)
@[simp] theorem inc_txnId (o : Ob) (i j k : Nat) : (s.inc o i j k).txnId = s.txnId := (congrArg Core.txnId (wr_frame (s.bump (o.key i j) k) o i j (s.rd o i j + k)) :)
@[simp] theorem inc_noSess (o : Ob) (i j k : Nat) : (s.inc o i j k).noSess = s.noSess := (congrArg Core.noSess (wr_frame (s.bump (o.key i j) k) o i j (s.rd o i j + k)) :)
@[simp] theorem inc_stop (o : Ob) (i j k : Nat) : (s.inc o i j k).stop = s.stop := (congrArg Core.stop (wr_frame (s.bump (o.key i j) k) o i j (s.rd o i j + k)) :)
@[simp] theorem inc_out (o : Ob) (i j k : Nat) : (s.inc o i j k).out = s.out := (congrArg Core.out (wr_frame (s.bump (o.key i j) k) o i j (s.rd o i j + k)) :)
@[simp] theorem inc_lastStatus (o : Ob) (i j k : Nat) : (s.inc o i j k).lastStatus = s.lastStatus := (congrArg Core.lastStatus (wr_frame (s.bump (o.key i j) k) o i j (s.rd o i j + k)) :)
@[simp] theorem inc_timers (o : Ob) (i j k : Nat) : (s.inc o i j k).timers = s.timers := (congrArg Core.timers (wr_frame (s.bump (o.key i j) k) o i j (s.rd o i j + k)) :)
@[simp] theorem inc_freeCount (o : Ob) (i j k : Nat) : (s.inc o i j k).freeCount = s.freeCount := (congrArg Core.freeCount (wr_frame (s.bump (o.key i j) k) o i j (s.rd o i j + k)) :)
@[simp] theorem inc_chans (o : Ob) (i j k : Nat) : (s.inc o i j k).chans = s.chans := (congrArg Core.chans (wr_frame (s.bump (o.key i j) k) o i j (s.rd o i j + k)) :)
@[simp] theorem inc_tacks (o : Ob) (i j k : Nat) : (s.inc o i j k).tacks = s.tacks := (congrArg Core.tacks (wr_frame (s.bump (o.key i j) k) o i j (s.rd o i j + k)) :)
@[simp] theorem inc_pred (o : Ob) (i j k : Nat) : (s.inc o i j k).pred = s.pred := (congrArg Core.pred (wr_frame (s.bump (o.key i j) k) o i j (s.rd o i j + k)) :)
@[simp] theorem inc_ports (o : Ob) (i j k : Nat) : (s.inc o i j k).ports = s.ports := (congrArg Core.ports (wr_frame (s.bump (o.key i j) k) o i j (s.rd o i j + k)) :)
@[simp] theorem inc_pages (o : Ob) (i j k : Nat) : (s.inc o i j k).pages = s.pages := (congrArg Core.pages (wr_frame (s.bump (o.key i j) k) o i j (s.rd o i j + k)) :)
@[simp] theorem inc_job (o : Ob) (i j k : Nat) : (s.inc o i j k).job = s.job := (congrArg Core.job (wr_frame (s.bump (o.key i j) k) o i j (s.rd o i j + k)) :)
@[simp] theorem inc_staged (o : Ob) (i j k : Nat) : (s.inc o i j k).staged = s.staged := (congrArg Core.staged (wr_frame (s.bump (o.key i j) k) o i j (s.rd o i j + k)) :)
@[simp] theorem inc_decided (o : Ob) (i j k : Nat) : (s.inc o i j k).decided = s.decided := (congrArg Core.decided (wr_frame (s.bump (o.key i j) k) o i j (s.rd o i j + k)) :)
@[simp] theorem inc_hold (o : Ob) (i j k : Nat) : (s.inc o i j k).hold = s.hold := (congrArg Core.hold (wr_frame (s.bump (o.key i j) k) o i j (s.rd o i j + k)) :)
@[simp] theorem inc_spit (o : Ob) (i j k : Nat) : (s.inc o i j k).spit = s.spit := (congrArg Core.spit (wr_frame (s.bump (o.key i j) k) o i j (s.rd o i j + k)) :)
@[simp] theorem inc_colTop (o : Ob) (i j k : Nat) : (s.inc o i j k).colTop = s.colTop := (congrArg Core.colTop (wr_frame (s.bump (o.key i j) k) o i j (s.rd o i j + k)) :)
@[simp] theorem inc_bobCycles (o : Ob) (i j k : Nat) : (s.inc o i j k).bobCycles = s.bobCycles := (congrArg Core.bobCycles (wr_frame (s.bump (o.key i j) k) o i j (s.rd o i j + k)) :)
@[simp] theorem inc_lanes (o : Ob) (i j k : Nat) : (s.inc o i j k).lanes = s.lanes := (congrArg Core.lanes (wr_frame (s.bump (o.key i j) k) o i j (s.rd o i j + k)) :)
@[simp] theorem inc_comet (o : Ob) (i j k : Nat) : (s.inc o i j k).comet = s.comet := (congrArg Core.comet (wr_frame (s.bump (o.key i j) k) o i j (s.rd o i j + k)) :)
@[simp] theorem inc_headStep (o : Ob) (i j k : Nat) : (s.inc o i j k).headStep = s.headStep := (congrArg Core.headStep (wr_frame (s.bump (o.key i j) k) o i j (s.rd o i j + k)) :)
@[simp] theorem inc_fseq (o : Ob) (i j k : Nat) : (s.inc o i j k).fseq = s.fseq := (congrArg Core.fseq (wr_frame (s.bump (o.key i j) k) o i j (s.rd o i j + k)) :)
@[simp] theorem inc_ringTx (o : Ob) (i j k : Nat) : (s.inc o i j k).ringTx = s.ringTx := (congrArg Core.ringTx (wr_frame (s.bump (o.key i j) k) o i j (s.rd o i j + k)) :)
@[simp] theorem inc_stage (o : Ob) (i j k : Nat) : (s.inc o i j k).stage = s.stage := (congrArg Core.stage (wr_frame (s.bump (o.key i j) k) o i j (s.rd o i j + k)) :)
@[simp] theorem inc_thimJ (o : Ob) (i j k : Nat) : (s.inc o i j k).thimJ = s.thimJ := (congrArg Core.thimJ (wr_frame (s.bump (o.key i j) k) o i j (s.rd o i j + k)) :)
@[simp] theorem inc_orphanAge (o : Ob) (i j k : Nat) : (s.inc o i j k).orphanAge = s.orphanAge := (congrArg Core.orphanAge (wr_frame (s.bump (o.key i j) k) o i j (s.rd o i j + k)) :)
@[simp] theorem inc_measPending (o : Ob) (i j k : Nat) : (s.inc o i j k).measPending = s.measPending := (congrArg Core.measPending (wr_frame (s.bump (o.key i j) k) o i j (s.rd o i j + k)) :)
@[simp] theorem inc_jsPending (o : Ob) (i j k : Nat) : (s.inc o i j k).jsPending = s.jsPending := (congrArg Core.jsPending (wr_frame (s.bump (o.key i j) k) o i j (s.rd o i j + k)) :)
@[simp] theorem inc_jsRunning (o : Ob) (i j k : Nat) : (s.inc o i j k).jsRunning = s.jsRunning := (congrArg Core.jsRunning (wr_frame (s.bump (o.key i j) k) o i j (s.rd o i j + k)) :)
@[simp] theorem inc_jsStart (o : Ob) (i j k : Nat) : (s.inc o i j k).jsStart = s.jsStart := (congrArg Core.jsStart (wr_frame (s.bump (o.key i j) k) o i j (s.rd o i j + k)) :)
@[simp] theorem inc_afe (o : Ob) (i j k : Nat) : (s.inc o i j k).afe = s.afe := (congrArg Core.afe (wr_frame (s.bump (o.key i j) k) o i j (s.rd o i j + k)) :)
@[simp] theorem inc_afeRef (o : Ob) (i j k : Nat) : (s.inc o i j k).afeRef = s.afeRef := (congrArg Core.afeRef (wr_frame (s.bump (o.key i j) k) o i j (s.rd o i j + k)) :)
@[simp] theorem inc_meas (o : Ob) (i j k : Nat) : (s.inc o i j k).meas = s.meas := (congrArg Core.meas (wr_frame (s.bump (o.key i j) k) o i j (s.rd o i j + k)) :)
@[simp] theorem inc_prevTemp (o : Ob) (i j k : Nat) : (s.inc o i j k).prevTemp = s.prevTemp := (congrArg Core.prevTemp (wr_frame (s.bump (o.key i j) k) o i j (s.rd o i j + k)) :)
@[simp] theorem inc_hsRuns (o : Ob) (i j k : Nat) : (s.inc o i j k).hsRuns = s.hsRuns := (congrArg Core.hsRuns (wr_frame (s.bump (o.key i j) k) o i j (s.rd o i j + k)) :)
@[simp] theorem inc_slotKeys (o : Ob) (i j k : Nat) : (s.inc o i j k).slotKeys = s.slotKeys := (congrArg Core.slotKeys (wr_frame (s.bump (o.key i j) k) o i j (s.rd o i j + k)) :)
@[simp] theorem inc_roleKeys (o : Ob) (i j k : Nat) : (s.inc o i j k).roleKeys = s.roleKeys := (congrArg Core.roleKeys (wr_frame (s.bump (o.key i j) k) o i j (s.rd o i j + k)) :)
@[simp] theorem inc_sweepDead (o : Ob) (i j k : Nat) : (s.inc o i j k).sweepDead = s.sweepDead := (congrArg Core.sweepDead (wr_frame (s.bump (o.key i j) k) o i j (s.rd o i j + k)) :)
@[simp] theorem inc_sweepOk (o : Ob) (i j k : Nat) : (s.inc o i j k).sweepOk = s.sweepOk := (congrArg Core.sweepOk (wr_frame (s.bump (o.key i j) k) o i j (s.rd o i j + k)) :)
@[simp] theorem inc_ringSweep (o : Ob) (i j k : Nat) : (s.inc o i j k).ringSweep = s.ringSweep := (congrArg Core.ringSweep (wr_frame (s.bump (o.key i j) k) o i j (s.rd o i j + k)) :)
@[simp] theorem inc_ringSweepLast (o : Ob) (i j k : Nat) : (s.inc o i j k).ringSweepLast = s.ringSweepLast := (congrArg Core.ringSweepLast (wr_frame (s.bump (o.key i j) k) o i j (s.rd o i j + k)) :)
@[simp] theorem inc_doneTop (o : Ob) (i j k : Nat) : (s.inc o i j k).doneTop = s.doneTop := (congrArg Core.doneTop (wr_frame (s.bump (o.key i j) k) o i j (s.rd o i j + k)) :)
@[simp] theorem inc_decs (o : Ob) (i j k : Nat) : (s.inc o i j k).decs = s.decs := (congrArg Core.decs (wr_frame (s.bump (o.key i j) k) o i j (s.rd o i j + k)) :)
@[simp] theorem inc_stream (o : Ob) (i j k : Nat) : (s.inc o i j k).stream = s.stream := (congrArg Core.stream (wr_frame (s.bump (o.key i j) k) o i j (s.rd o i j + k)) :)
@[simp] theorem inc_measDue (o : Ob) (i j k : Nat) : (s.inc o i j k).measDue = s.measDue := (congrArg Core.measDue (wr_frame (s.bump (o.key i j) k) o i j (s.rd o i j + k)) :)
@[simp] theorem inc_dma (o : Ob) (i j k : Nat) : (s.inc o i j k).dma = s.dma := (congrArg Core.dma (wr_frame (s.bump (o.key i j) k) o i j (s.rd o i j + k)) :)
@[simp] theorem inc_dmaLast (o : Ob) (i j k : Nat) : (s.inc o i j k).dmaLast = s.dmaLast := (congrArg Core.dmaLast (wr_frame (s.bump (o.key i j) k) o i j (s.rd o i j + k)) :)
@[simp] theorem inc_dmaTop (o : Ob) (i j k : Nat) : (s.inc o i j k).dmaTop = s.dmaTop := (congrArg Core.dmaTop (wr_frame (s.bump (o.key i j) k) o i j (s.rd o i j + k)) :)
@[simp] theorem inc_badWords (o : Ob) (i j k : Nat) : (s.inc o i j k).badWords = s.badWords := (congrArg Core.badWords (wr_frame (s.bump (o.key i j) k) o i j (s.rd o i j + k)) :)
@[simp] theorem inc_handing (o : Ob) (i j k : Nat) : (s.inc o i j k).handing = s.handing := (congrArg Core.handing (wr_frame (s.bump (o.key i j) k) o i j (s.rd o i j + k)) :)
@[simp] theorem inc_dramEcc (o : Ob) (i j k : Nat) : (s.inc o i j k).dramEcc = s.dramEcc := (congrArg Core.dramEcc (wr_frame (s.bump (o.key i j) k) o i j (s.rd o i j + k)) :)
@[simp] theorem inc_basteNext (o : Ob) (i j k : Nat) : (s.inc o i j k).basteNext = s.basteNext := (congrArg Core.basteNext (wr_frame (s.bump (o.key i j) k) o i j (s.rd o i j + k)) :)
@[simp] theorem inc_basteTries (o : Ob) (i j k : Nat) : (s.inc o i j k).basteTries = s.basteTries := (congrArg Core.basteTries (wr_frame (s.bump (o.key i j) k) o i j (s.rd o i j + k)) :)
@[simp] theorem inc_basteAt (o : Ob) (i j k : Nat) : (s.inc o i j k).basteAt = s.basteAt := (congrArg Core.basteAt (wr_frame (s.bump (o.key i j) k) o i j (s.rd o i j + k)) :)
@[simp] theorem inc_basteDone (o : Ob) (i j k : Nat) : (s.inc o i j k).basteDone = s.basteDone := (congrArg Core.basteDone (wr_frame (s.bump (o.key i j) k) o i j (s.rd o i j + k)) :)
@[simp] theorem inc_mot (o : Ob) (i j k : Nat) : (s.inc o i j k).mot = s.mot := (congrArg Core.mot (wr_frame (s.bump (o.key i j) k) o i j (s.rd o i j + k)) :)
@[simp] theorem inc_ring (o : Ob) (i j k : Nat) : (s.inc o i j k).ring = s.ring := (congrArg Core.ring (wr_frame (s.bump (o.key i j) k) o i j (s.rd o i j + k)) :)
@[simp] theorem inc_ptp (o : Ob) (i j k : Nat) : (s.inc o i j k).ptp = s.ptp := (congrArg Core.ptp (wr_frame (s.bump (o.key i j) k) o i j (s.rd o i j + k)) :)
@[simp] theorem inc_pair (o : Ob) (i j k : Nat) : (s.inc o i j k).pair = s.pair := (congrArg Core.pair (wr_frame (s.bump (o.key i j) k) o i j (s.rd o i j + k)) :)
@[simp] theorem inc_netUsed (o : Ob) (i j k : Nat) : (s.inc o i j k).netUsed = s.netUsed := (congrArg Core.netUsed (wr_frame (s.bump (o.key i j) k) o i j (s.rd o i j + k)) :)
@[simp] theorem inc_hwAt (o : Ob) (i j k : Nat) : (s.inc o i j k).hwAt = s.hwAt := (congrArg Core.hwAt (wr_frame (s.bump (o.key i j) k) o i j (s.rd o i j + k)) :)
@[simp] theorem inc_rawRegs (o : Ob) (i j k : Nat) : (s.inc o i j k).rawRegs = s.rawRegs := (congrArg Core.rawRegs (wr_frame (s.bump (o.key i j) k) o i j (s.rd o i j + k)) :)
@[simp] theorem inc_bist (o : Ob) (i j k : Nat) : (s.inc o i j k).bist = s.bist := (congrArg Core.bist (wr_frame (s.bump (o.key i j) k) o i j (s.rd o i j + k)) :)
@[simp] theorem inc_wantReady (o : Ob) (i j k : Nat) : (s.inc o i j k).wantReady = s.wantReady := (congrArg Core.wantReady (wr_frame (s.bump (o.key i j) k) o i j (s.rd o i j + k)) :)
@[simp] theorem inc_stopCap (o : Ob) (i j k : Nat) : (s.inc o i j k).stopCap = s.stopCap := (congrArg Core.stopCap (wr_frame (s.bump (o.key i j) k) o i j (s.rd o i j + k)) :)
@[simp] theorem inc_headSources (o : Ob) (i j k : Nat) : (s.inc o i j k).headSources = s.headSources := (congrArg Core.headSources (wr_frame (s.bump (o.key i j) k) o i j (s.rd o i j + k)) :)
@[simp] theorem inc_railWait (o : Ob) (i j k : Nat) : (s.inc o i j k).railWait = s.railWait := (congrArg Core.railWait (wr_frame (s.bump (o.key i j) k) o i j (s.rd o i j + k)) :)
@[simp] theorem inc_causes (o : Ob) (i j k : Nat) : (s.inc o i j k).causes = s.causes := (congrArg Core.causes (wr_frame (s.bump (o.key i j) k) o i j (s.rd o i j + k)) :)
@[simp] theorem inc_resetLow (o : Ob) (i j k : Nat) : (s.inc o i j k).resetLow = s.resetLow := (congrArg Core.resetLow (wr_frame (s.bump (o.key i j) k) o i j (s.rd o i j + k)) :)
@[simp] theorem inc_fromRetain (o : Ob) (i j k : Nat) : (s.inc o i j k).fromRetain = s.fromRetain := (congrArg Core.fromRetain (wr_frame (s.bump (o.key i j) k) o i j (s.rd o i j + k)) :)
@[simp] theorem inc_islandsDown (o : Ob) (i j k : Nat) : (s.inc o i j k).islandsDown = s.islandsDown := (congrArg Core.islandsDown (wr_frame (s.bump (o.key i j) k) o i j (s.rd o i j + k)) :)
@[simp] theorem inc_driftRaised (o : Ob) (i j k : Nat) : (s.inc o i j k).driftRaised = s.driftRaised := (congrArg Core.driftRaised (wr_frame (s.bump (o.key i j) k) o i j (s.rd o i j + k)) :)
@[simp] theorem inc_bistWasCut (o : Ob) (i j k : Nat) : (s.inc o i j k).bistWasCut = s.bistWasCut := (congrArg Core.bistWasCut (wr_frame (s.bump (o.key i j) k) o i j (s.rd o i j + k)) :)
@[simp] theorem inc_testEn (o : Ob) (i j k : Nat) : (s.inc o i j k).testEn = s.testEn := (congrArg Core.testEn (wr_frame (s.bump (o.key i j) k) o i j (s.rd o i j + k)) :)
@[simp] theorem inc_tapIr (o : Ob) (i j k : Nat) : (s.inc o i j k).tapIr = s.tapIr := (congrArg Core.tapIr (wr_frame (s.bump (o.key i j) k) o i j (s.rd o i j + k)) :)
@[simp] theorem inc_tapBoundary (o : Ob) (i j k : Nat) : (s.inc o i j k).tapBoundary = s.tapBoundary := (congrArg Core.tapBoundary (wr_frame (s.bump (o.key i j) k) o i j (s.rd o i j + k)) :)
@[simp] theorem inc_strapPorts (o : Ob) (i j k : Nat) : (s.inc o i j k).strapPorts = s.strapPorts := (congrArg Core.strapPorts (wr_frame (s.bump (o.key i j) k) o i j (s.rd o i j + k)) :)

/-! ### Core.inc0 -/

@[simp] theorem inc0_clk (o : Ob) : (s.inc0 o).clk = s.clk := (congrArg Core.clk (wr_frame (s.bump (o.key 0 0) 1) o 0 0 (s.rd o 0 0 + 1)) :)
@[simp] theorem inc0_ftAcc (o : Ob) : (s.inc0 o).ftAcc = s.ftAcc := (congrArg Core.ftAcc (wr_frame (s.bump (o.key 0 0) 1) o 0 0 (s.rd o 0 0 + 1)) :)
@[simp] theorem inc0_mode (o : Ob) : (s.inc0 o).mode = s.mode := (congrArg Core.mode (wr_frame (s.bump (o.key 0 0) 1) o 0 0 (s.rd o 0 0 + 1)) :)
@[simp] theorem inc0_phase (o : Ob) : (s.inc0 o).phase = s.phase := (congrArg Core.phase (wr_frame (s.bump (o.key 0 0) 1) o 0 0 (s.rd o 0 0 + 1)) :)
@[simp] theorem inc0_configReached (o : Ob) : (s.inc0 o).configReached = s.configReached := (congrArg Core.configReached (wr_frame (s.bump (o.key 0 0) 1) o 0 0 (s.rd o 0 0 + 1)) :)
@[simp] theorem inc0_comp (o : Ob) : (s.inc0 o).comp = s.comp := (congrArg Core.comp (wr_frame (s.bump (o.key 0 0) 1) o 0 0 (s.rd o 0 0 + 1)) :)
@[simp] theorem inc0_journal (o : Ob) : (s.inc0 o).journal = s.journal := (congrArg Core.journal (wr_frame (s.bump (o.key 0 0) 1) o 0 0 (s.rd o 0 0 + 1)) :)
@[simp] theorem inc0_journalFailing (o : Ob) : (s.inc0 o).journalFailing = s.journalFailing := (congrArg Core.journalFailing (wr_frame (s.bump (o.key 0 0) 1) o 0 0 (s.rd o 0 0 + 1)) :)
@[simp] theorem inc0_src (o : Ob) : (s.inc0 o).src = s.src := (congrArg Core.src (wr_frame (s.bump (o.key 0 0) 1) o 0 0 (s.rd o 0 0 + 1)) :)
@[simp] theorem inc0_log (o : Ob) : (s.inc0 o).log = s.log := (congrArg Core.log (wr_frame (s.bump (o.key 0 0) 1) o 0 0 (s.rd o 0 0 + 1)) :)
@[simp] theorem inc0_logRet (o : Ob) : (s.inc0 o).logRet = s.logRet := (congrArg Core.logRet (wr_frame (s.bump (o.key 0 0) 1) o 0 0 (s.rd o 0 0 + 1)) :)
@[simp] theorem inc0_alsoRaise (o : Ob) : (s.inc0 o).alsoRaise = s.alsoRaise := (congrArg Core.alsoRaise (wr_frame (s.bump (o.key 0 0) 1) o 0 0 (s.rd o 0 0 + 1)) :)
@[simp] theorem inc0_safeSince (o : Ob) : (s.inc0 o).safeSince = s.safeSince := (congrArg Core.safeSince (wr_frame (s.bump (o.key 0 0) 1) o 0 0 (s.rd o 0 0 + 1)) :)
@[simp] theorem inc0_wdogExpired (o : Ob) : (s.inc0 o).wdogExpired = s.wdogExpired := (congrArg Core.wdogExpired (wr_frame (s.bump (o.key 0 0) 1) o 0 0 (s.rd o 0 0 + 1)) :)
@[simp] theorem inc0_sess (o : Ob) : (s.inc0 o).sess = s.sess := (congrArg Core.sess (wr_frame (s.bump (o.key 0 0) 1) o 0 0 (s.rd o 0 0 + 1)) :)
@[simp] theorem inc0_txnId (o : Ob) : (s.inc0 o).txnId = s.txnId := (congrArg Core.txnId (wr_frame (s.bump (o.key 0 0) 1) o 0 0 (s.rd o 0 0 + 1)) :)
@[simp] theorem inc0_noSess (o : Ob) : (s.inc0 o).noSess = s.noSess := (congrArg Core.noSess (wr_frame (s.bump (o.key 0 0) 1) o 0 0 (s.rd o 0 0 + 1)) :)
@[simp] theorem inc0_stop (o : Ob) : (s.inc0 o).stop = s.stop := (congrArg Core.stop (wr_frame (s.bump (o.key 0 0) 1) o 0 0 (s.rd o 0 0 + 1)) :)
@[simp] theorem inc0_out (o : Ob) : (s.inc0 o).out = s.out := (congrArg Core.out (wr_frame (s.bump (o.key 0 0) 1) o 0 0 (s.rd o 0 0 + 1)) :)
@[simp] theorem inc0_lastStatus (o : Ob) : (s.inc0 o).lastStatus = s.lastStatus := (congrArg Core.lastStatus (wr_frame (s.bump (o.key 0 0) 1) o 0 0 (s.rd o 0 0 + 1)) :)
@[simp] theorem inc0_timers (o : Ob) : (s.inc0 o).timers = s.timers := (congrArg Core.timers (wr_frame (s.bump (o.key 0 0) 1) o 0 0 (s.rd o 0 0 + 1)) :)
@[simp] theorem inc0_freeCount (o : Ob) : (s.inc0 o).freeCount = s.freeCount := (congrArg Core.freeCount (wr_frame (s.bump (o.key 0 0) 1) o 0 0 (s.rd o 0 0 + 1)) :)
@[simp] theorem inc0_chans (o : Ob) : (s.inc0 o).chans = s.chans := (congrArg Core.chans (wr_frame (s.bump (o.key 0 0) 1) o 0 0 (s.rd o 0 0 + 1)) :)
@[simp] theorem inc0_tacks (o : Ob) : (s.inc0 o).tacks = s.tacks := (congrArg Core.tacks (wr_frame (s.bump (o.key 0 0) 1) o 0 0 (s.rd o 0 0 + 1)) :)
@[simp] theorem inc0_pred (o : Ob) : (s.inc0 o).pred = s.pred := (congrArg Core.pred (wr_frame (s.bump (o.key 0 0) 1) o 0 0 (s.rd o 0 0 + 1)) :)
@[simp] theorem inc0_ports (o : Ob) : (s.inc0 o).ports = s.ports := (congrArg Core.ports (wr_frame (s.bump (o.key 0 0) 1) o 0 0 (s.rd o 0 0 + 1)) :)
@[simp] theorem inc0_pages (o : Ob) : (s.inc0 o).pages = s.pages := (congrArg Core.pages (wr_frame (s.bump (o.key 0 0) 1) o 0 0 (s.rd o 0 0 + 1)) :)
@[simp] theorem inc0_job (o : Ob) : (s.inc0 o).job = s.job := (congrArg Core.job (wr_frame (s.bump (o.key 0 0) 1) o 0 0 (s.rd o 0 0 + 1)) :)
@[simp] theorem inc0_staged (o : Ob) : (s.inc0 o).staged = s.staged := (congrArg Core.staged (wr_frame (s.bump (o.key 0 0) 1) o 0 0 (s.rd o 0 0 + 1)) :)
@[simp] theorem inc0_decided (o : Ob) : (s.inc0 o).decided = s.decided := (congrArg Core.decided (wr_frame (s.bump (o.key 0 0) 1) o 0 0 (s.rd o 0 0 + 1)) :)
@[simp] theorem inc0_hold (o : Ob) : (s.inc0 o).hold = s.hold := (congrArg Core.hold (wr_frame (s.bump (o.key 0 0) 1) o 0 0 (s.rd o 0 0 + 1)) :)
@[simp] theorem inc0_spit (o : Ob) : (s.inc0 o).spit = s.spit := (congrArg Core.spit (wr_frame (s.bump (o.key 0 0) 1) o 0 0 (s.rd o 0 0 + 1)) :)
@[simp] theorem inc0_colTop (o : Ob) : (s.inc0 o).colTop = s.colTop := (congrArg Core.colTop (wr_frame (s.bump (o.key 0 0) 1) o 0 0 (s.rd o 0 0 + 1)) :)
@[simp] theorem inc0_bobCycles (o : Ob) : (s.inc0 o).bobCycles = s.bobCycles := (congrArg Core.bobCycles (wr_frame (s.bump (o.key 0 0) 1) o 0 0 (s.rd o 0 0 + 1)) :)
@[simp] theorem inc0_lanes (o : Ob) : (s.inc0 o).lanes = s.lanes := (congrArg Core.lanes (wr_frame (s.bump (o.key 0 0) 1) o 0 0 (s.rd o 0 0 + 1)) :)
@[simp] theorem inc0_comet (o : Ob) : (s.inc0 o).comet = s.comet := (congrArg Core.comet (wr_frame (s.bump (o.key 0 0) 1) o 0 0 (s.rd o 0 0 + 1)) :)
@[simp] theorem inc0_headStep (o : Ob) : (s.inc0 o).headStep = s.headStep := (congrArg Core.headStep (wr_frame (s.bump (o.key 0 0) 1) o 0 0 (s.rd o 0 0 + 1)) :)
@[simp] theorem inc0_fseq (o : Ob) : (s.inc0 o).fseq = s.fseq := (congrArg Core.fseq (wr_frame (s.bump (o.key 0 0) 1) o 0 0 (s.rd o 0 0 + 1)) :)
@[simp] theorem inc0_ringTx (o : Ob) : (s.inc0 o).ringTx = s.ringTx := (congrArg Core.ringTx (wr_frame (s.bump (o.key 0 0) 1) o 0 0 (s.rd o 0 0 + 1)) :)
@[simp] theorem inc0_stage (o : Ob) : (s.inc0 o).stage = s.stage := (congrArg Core.stage (wr_frame (s.bump (o.key 0 0) 1) o 0 0 (s.rd o 0 0 + 1)) :)
@[simp] theorem inc0_thimJ (o : Ob) : (s.inc0 o).thimJ = s.thimJ := (congrArg Core.thimJ (wr_frame (s.bump (o.key 0 0) 1) o 0 0 (s.rd o 0 0 + 1)) :)
@[simp] theorem inc0_orphanAge (o : Ob) : (s.inc0 o).orphanAge = s.orphanAge := (congrArg Core.orphanAge (wr_frame (s.bump (o.key 0 0) 1) o 0 0 (s.rd o 0 0 + 1)) :)
@[simp] theorem inc0_measPending (o : Ob) : (s.inc0 o).measPending = s.measPending := (congrArg Core.measPending (wr_frame (s.bump (o.key 0 0) 1) o 0 0 (s.rd o 0 0 + 1)) :)
@[simp] theorem inc0_jsPending (o : Ob) : (s.inc0 o).jsPending = s.jsPending := (congrArg Core.jsPending (wr_frame (s.bump (o.key 0 0) 1) o 0 0 (s.rd o 0 0 + 1)) :)
@[simp] theorem inc0_jsRunning (o : Ob) : (s.inc0 o).jsRunning = s.jsRunning := (congrArg Core.jsRunning (wr_frame (s.bump (o.key 0 0) 1) o 0 0 (s.rd o 0 0 + 1)) :)
@[simp] theorem inc0_jsStart (o : Ob) : (s.inc0 o).jsStart = s.jsStart := (congrArg Core.jsStart (wr_frame (s.bump (o.key 0 0) 1) o 0 0 (s.rd o 0 0 + 1)) :)
@[simp] theorem inc0_afe (o : Ob) : (s.inc0 o).afe = s.afe := (congrArg Core.afe (wr_frame (s.bump (o.key 0 0) 1) o 0 0 (s.rd o 0 0 + 1)) :)
@[simp] theorem inc0_afeRef (o : Ob) : (s.inc0 o).afeRef = s.afeRef := (congrArg Core.afeRef (wr_frame (s.bump (o.key 0 0) 1) o 0 0 (s.rd o 0 0 + 1)) :)
@[simp] theorem inc0_meas (o : Ob) : (s.inc0 o).meas = s.meas := (congrArg Core.meas (wr_frame (s.bump (o.key 0 0) 1) o 0 0 (s.rd o 0 0 + 1)) :)
@[simp] theorem inc0_prevTemp (o : Ob) : (s.inc0 o).prevTemp = s.prevTemp := (congrArg Core.prevTemp (wr_frame (s.bump (o.key 0 0) 1) o 0 0 (s.rd o 0 0 + 1)) :)
@[simp] theorem inc0_hsRuns (o : Ob) : (s.inc0 o).hsRuns = s.hsRuns := (congrArg Core.hsRuns (wr_frame (s.bump (o.key 0 0) 1) o 0 0 (s.rd o 0 0 + 1)) :)
@[simp] theorem inc0_slotKeys (o : Ob) : (s.inc0 o).slotKeys = s.slotKeys := (congrArg Core.slotKeys (wr_frame (s.bump (o.key 0 0) 1) o 0 0 (s.rd o 0 0 + 1)) :)
@[simp] theorem inc0_roleKeys (o : Ob) : (s.inc0 o).roleKeys = s.roleKeys := (congrArg Core.roleKeys (wr_frame (s.bump (o.key 0 0) 1) o 0 0 (s.rd o 0 0 + 1)) :)
@[simp] theorem inc0_sweepDead (o : Ob) : (s.inc0 o).sweepDead = s.sweepDead := (congrArg Core.sweepDead (wr_frame (s.bump (o.key 0 0) 1) o 0 0 (s.rd o 0 0 + 1)) :)
@[simp] theorem inc0_sweepOk (o : Ob) : (s.inc0 o).sweepOk = s.sweepOk := (congrArg Core.sweepOk (wr_frame (s.bump (o.key 0 0) 1) o 0 0 (s.rd o 0 0 + 1)) :)
@[simp] theorem inc0_ringSweep (o : Ob) : (s.inc0 o).ringSweep = s.ringSweep := (congrArg Core.ringSweep (wr_frame (s.bump (o.key 0 0) 1) o 0 0 (s.rd o 0 0 + 1)) :)
@[simp] theorem inc0_ringSweepLast (o : Ob) : (s.inc0 o).ringSweepLast = s.ringSweepLast := (congrArg Core.ringSweepLast (wr_frame (s.bump (o.key 0 0) 1) o 0 0 (s.rd o 0 0 + 1)) :)
@[simp] theorem inc0_doneTop (o : Ob) : (s.inc0 o).doneTop = s.doneTop := (congrArg Core.doneTop (wr_frame (s.bump (o.key 0 0) 1) o 0 0 (s.rd o 0 0 + 1)) :)
@[simp] theorem inc0_decs (o : Ob) : (s.inc0 o).decs = s.decs := (congrArg Core.decs (wr_frame (s.bump (o.key 0 0) 1) o 0 0 (s.rd o 0 0 + 1)) :)
@[simp] theorem inc0_stream (o : Ob) : (s.inc0 o).stream = s.stream := (congrArg Core.stream (wr_frame (s.bump (o.key 0 0) 1) o 0 0 (s.rd o 0 0 + 1)) :)
@[simp] theorem inc0_measDue (o : Ob) : (s.inc0 o).measDue = s.measDue := (congrArg Core.measDue (wr_frame (s.bump (o.key 0 0) 1) o 0 0 (s.rd o 0 0 + 1)) :)
@[simp] theorem inc0_dma (o : Ob) : (s.inc0 o).dma = s.dma := (congrArg Core.dma (wr_frame (s.bump (o.key 0 0) 1) o 0 0 (s.rd o 0 0 + 1)) :)
@[simp] theorem inc0_dmaLast (o : Ob) : (s.inc0 o).dmaLast = s.dmaLast := (congrArg Core.dmaLast (wr_frame (s.bump (o.key 0 0) 1) o 0 0 (s.rd o 0 0 + 1)) :)
@[simp] theorem inc0_dmaTop (o : Ob) : (s.inc0 o).dmaTop = s.dmaTop := (congrArg Core.dmaTop (wr_frame (s.bump (o.key 0 0) 1) o 0 0 (s.rd o 0 0 + 1)) :)
@[simp] theorem inc0_badWords (o : Ob) : (s.inc0 o).badWords = s.badWords := (congrArg Core.badWords (wr_frame (s.bump (o.key 0 0) 1) o 0 0 (s.rd o 0 0 + 1)) :)
@[simp] theorem inc0_handing (o : Ob) : (s.inc0 o).handing = s.handing := (congrArg Core.handing (wr_frame (s.bump (o.key 0 0) 1) o 0 0 (s.rd o 0 0 + 1)) :)
@[simp] theorem inc0_dramEcc (o : Ob) : (s.inc0 o).dramEcc = s.dramEcc := (congrArg Core.dramEcc (wr_frame (s.bump (o.key 0 0) 1) o 0 0 (s.rd o 0 0 + 1)) :)
@[simp] theorem inc0_basteNext (o : Ob) : (s.inc0 o).basteNext = s.basteNext := (congrArg Core.basteNext (wr_frame (s.bump (o.key 0 0) 1) o 0 0 (s.rd o 0 0 + 1)) :)
@[simp] theorem inc0_basteTries (o : Ob) : (s.inc0 o).basteTries = s.basteTries := (congrArg Core.basteTries (wr_frame (s.bump (o.key 0 0) 1) o 0 0 (s.rd o 0 0 + 1)) :)
@[simp] theorem inc0_basteAt (o : Ob) : (s.inc0 o).basteAt = s.basteAt := (congrArg Core.basteAt (wr_frame (s.bump (o.key 0 0) 1) o 0 0 (s.rd o 0 0 + 1)) :)
@[simp] theorem inc0_basteDone (o : Ob) : (s.inc0 o).basteDone = s.basteDone := (congrArg Core.basteDone (wr_frame (s.bump (o.key 0 0) 1) o 0 0 (s.rd o 0 0 + 1)) :)
@[simp] theorem inc0_mot (o : Ob) : (s.inc0 o).mot = s.mot := (congrArg Core.mot (wr_frame (s.bump (o.key 0 0) 1) o 0 0 (s.rd o 0 0 + 1)) :)
@[simp] theorem inc0_ring (o : Ob) : (s.inc0 o).ring = s.ring := (congrArg Core.ring (wr_frame (s.bump (o.key 0 0) 1) o 0 0 (s.rd o 0 0 + 1)) :)
@[simp] theorem inc0_ptp (o : Ob) : (s.inc0 o).ptp = s.ptp := (congrArg Core.ptp (wr_frame (s.bump (o.key 0 0) 1) o 0 0 (s.rd o 0 0 + 1)) :)
@[simp] theorem inc0_pair (o : Ob) : (s.inc0 o).pair = s.pair := (congrArg Core.pair (wr_frame (s.bump (o.key 0 0) 1) o 0 0 (s.rd o 0 0 + 1)) :)
@[simp] theorem inc0_netUsed (o : Ob) : (s.inc0 o).netUsed = s.netUsed := (congrArg Core.netUsed (wr_frame (s.bump (o.key 0 0) 1) o 0 0 (s.rd o 0 0 + 1)) :)
@[simp] theorem inc0_hwAt (o : Ob) : (s.inc0 o).hwAt = s.hwAt := (congrArg Core.hwAt (wr_frame (s.bump (o.key 0 0) 1) o 0 0 (s.rd o 0 0 + 1)) :)
@[simp] theorem inc0_rawRegs (o : Ob) : (s.inc0 o).rawRegs = s.rawRegs := (congrArg Core.rawRegs (wr_frame (s.bump (o.key 0 0) 1) o 0 0 (s.rd o 0 0 + 1)) :)
@[simp] theorem inc0_bist (o : Ob) : (s.inc0 o).bist = s.bist := (congrArg Core.bist (wr_frame (s.bump (o.key 0 0) 1) o 0 0 (s.rd o 0 0 + 1)) :)
@[simp] theorem inc0_wantReady (o : Ob) : (s.inc0 o).wantReady = s.wantReady := (congrArg Core.wantReady (wr_frame (s.bump (o.key 0 0) 1) o 0 0 (s.rd o 0 0 + 1)) :)
@[simp] theorem inc0_stopCap (o : Ob) : (s.inc0 o).stopCap = s.stopCap := (congrArg Core.stopCap (wr_frame (s.bump (o.key 0 0) 1) o 0 0 (s.rd o 0 0 + 1)) :)
@[simp] theorem inc0_headSources (o : Ob) : (s.inc0 o).headSources = s.headSources := (congrArg Core.headSources (wr_frame (s.bump (o.key 0 0) 1) o 0 0 (s.rd o 0 0 + 1)) :)
@[simp] theorem inc0_railWait (o : Ob) : (s.inc0 o).railWait = s.railWait := (congrArg Core.railWait (wr_frame (s.bump (o.key 0 0) 1) o 0 0 (s.rd o 0 0 + 1)) :)
@[simp] theorem inc0_causes (o : Ob) : (s.inc0 o).causes = s.causes := (congrArg Core.causes (wr_frame (s.bump (o.key 0 0) 1) o 0 0 (s.rd o 0 0 + 1)) :)
@[simp] theorem inc0_resetLow (o : Ob) : (s.inc0 o).resetLow = s.resetLow := (congrArg Core.resetLow (wr_frame (s.bump (o.key 0 0) 1) o 0 0 (s.rd o 0 0 + 1)) :)
@[simp] theorem inc0_fromRetain (o : Ob) : (s.inc0 o).fromRetain = s.fromRetain := (congrArg Core.fromRetain (wr_frame (s.bump (o.key 0 0) 1) o 0 0 (s.rd o 0 0 + 1)) :)
@[simp] theorem inc0_islandsDown (o : Ob) : (s.inc0 o).islandsDown = s.islandsDown := (congrArg Core.islandsDown (wr_frame (s.bump (o.key 0 0) 1) o 0 0 (s.rd o 0 0 + 1)) :)
@[simp] theorem inc0_driftRaised (o : Ob) : (s.inc0 o).driftRaised = s.driftRaised := (congrArg Core.driftRaised (wr_frame (s.bump (o.key 0 0) 1) o 0 0 (s.rd o 0 0 + 1)) :)
@[simp] theorem inc0_bistWasCut (o : Ob) : (s.inc0 o).bistWasCut = s.bistWasCut := (congrArg Core.bistWasCut (wr_frame (s.bump (o.key 0 0) 1) o 0 0 (s.rd o 0 0 + 1)) :)
@[simp] theorem inc0_testEn (o : Ob) : (s.inc0 o).testEn = s.testEn := (congrArg Core.testEn (wr_frame (s.bump (o.key 0 0) 1) o 0 0 (s.rd o 0 0 + 1)) :)
@[simp] theorem inc0_tapIr (o : Ob) : (s.inc0 o).tapIr = s.tapIr := (congrArg Core.tapIr (wr_frame (s.bump (o.key 0 0) 1) o 0 0 (s.rd o 0 0 + 1)) :)
@[simp] theorem inc0_tapBoundary (o : Ob) : (s.inc0 o).tapBoundary = s.tapBoundary := (congrArg Core.tapBoundary (wr_frame (s.bump (o.key 0 0) 1) o 0 0 (s.rd o 0 0 + 1)) :)
@[simp] theorem inc0_strapPorts (o : Ob) : (s.inc0 o).strapPorts = s.strapPorts := (congrArg Core.strapPorts (wr_frame (s.bump (o.key 0 0) 1) o 0 0 (s.rd o 0 0 + 1)) :)

/-! ### Core.setSrc -/

@[simp] theorem setSrc_clk (n : Nat) (x : Src) : (s.setSrc n x).clk = s.clk := rfl
@[simp] theorem setSrc_ftAcc (n : Nat) (x : Src) : (s.setSrc n x).ftAcc = s.ftAcc := rfl
@[simp] theorem setSrc_mode (n : Nat) (x : Src) : (s.setSrc n x).mode = s.mode := rfl
@[simp] theorem setSrc_phase (n : Nat) (x : Src) : (s.setSrc n x).phase = s.phase := rfl
@[simp] theorem setSrc_configReached (n : Nat) (x : Src) : (s.setSrc n x).configReached = s.configReached := rfl
@[simp] theorem setSrc_objs (n : Nat) (x : Src) : (s.setSrc n x).objs = s.objs := rfl
@[simp] theorem setSrc_comp (n : Nat) (x : Src) : (s.setSrc n x).comp = s.comp := rfl
@[simp] theorem setSrc_dirty (n : Nat) (x : Src) : (s.setSrc n x).dirty = s.dirty := rfl
@[simp] theorem setSrc_dirtySince (n : Nat) (x : Src) : (s.setSrc n x).dirtySince = s.dirtySince := rfl
@[simp] theorem setSrc_journal (n : Nat) (x : Src) : (s.setSrc n x).journal = s.journal := rfl
@[simp] theorem setSrc_journalFailing (n : Nat) (x : Src) : (s.setSrc n x).journalFailing = s.journalFailing := rfl
@[simp] theorem setSrc_src (n : Nat) (x : Src) : (s.setSrc n x).src = Tab.set s.src n x := rfl
@[simp] theorem setSrc_log (n : Nat) (x : Src) : (s.setSrc n x).log = s.log := rfl
@[simp] theorem setSrc_logRet (n : Nat) (x : Src) : (s.setSrc n x).logRet = s.logRet := rfl
@[simp] theorem setSrc_alsoRaise (n : Nat) (x : Src) : (s.setSrc n x).alsoRaise = s.alsoRaise := rfl
@[simp] theorem setSrc_safeSince (n : Nat) (x : Src) : (s.setSrc n x).safeSince = s.safeSince := rfl
@[simp] theorem setSrc_wdogExpired (n : Nat) (x : Src) : (s.setSrc n x).wdogExpired = s.wdogExpired := rfl
@[simp] theorem setSrc_sess (n : Nat) (x : Src) : (s.setSrc n x).sess = s.sess := rfl
@[simp] theorem setSrc_txnId (n : Nat) (x : Src) : (s.setSrc n x).txnId = s.txnId := rfl
@[simp] theorem setSrc_noSess (n : Nat) (x : Src) : (s.setSrc n x).noSess = s.noSess := rfl
@[simp] theorem setSrc_stop (n : Nat) (x : Src) : (s.setSrc n x).stop = s.stop := rfl
@[simp] theorem setSrc_out (n : Nat) (x : Src) : (s.setSrc n x).out = s.out := rfl
@[simp] theorem setSrc_lastStatus (n : Nat) (x : Src) : (s.setSrc n x).lastStatus = s.lastStatus := rfl
@[simp] theorem setSrc_timers (n : Nat) (x : Src) : (s.setSrc n x).timers = s.timers := rfl
@[simp] theorem setSrc_freeCount (n : Nat) (x : Src) : (s.setSrc n x).freeCount = s.freeCount := rfl
@[simp] theorem setSrc_chans (n : Nat) (x : Src) : (s.setSrc n x).chans = s.chans := rfl
@[simp] theorem setSrc_tacks (n : Nat) (x : Src) : (s.setSrc n x).tacks = s.tacks := rfl
@[simp] theorem setSrc_pred (n : Nat) (x : Src) : (s.setSrc n x).pred = s.pred := rfl
@[simp] theorem setSrc_ports (n : Nat) (x : Src) : (s.setSrc n x).ports = s.ports := rfl
@[simp] theorem setSrc_pages (n : Nat) (x : Src) : (s.setSrc n x).pages = s.pages := rfl
@[simp] theorem setSrc_job (n : Nat) (x : Src) : (s.setSrc n x).job = s.job := rfl
@[simp] theorem setSrc_staged (n : Nat) (x : Src) : (s.setSrc n x).staged = s.staged := rfl
@[simp] theorem setSrc_decided (n : Nat) (x : Src) : (s.setSrc n x).decided = s.decided := rfl
@[simp] theorem setSrc_hold (n : Nat) (x : Src) : (s.setSrc n x).hold = s.hold := rfl
@[simp] theorem setSrc_spit (n : Nat) (x : Src) : (s.setSrc n x).spit = s.spit := rfl
@[simp] theorem setSrc_colTop (n : Nat) (x : Src) : (s.setSrc n x).colTop = s.colTop := rfl
@[simp] theorem setSrc_bobCycles (n : Nat) (x : Src) : (s.setSrc n x).bobCycles = s.bobCycles := rfl
@[simp] theorem setSrc_lanes (n : Nat) (x : Src) : (s.setSrc n x).lanes = s.lanes := rfl
@[simp] theorem setSrc_comet (n : Nat) (x : Src) : (s.setSrc n x).comet = s.comet := rfl
@[simp] theorem setSrc_headStep (n : Nat) (x : Src) : (s.setSrc n x).headStep = s.headStep := rfl
@[simp] theorem setSrc_fseq (n : Nat) (x : Src) : (s.setSrc n x).fseq = s.fseq := rfl
@[simp] theorem setSrc_ringTx (n : Nat) (x : Src) : (s.setSrc n x).ringTx = s.ringTx := rfl
@[simp] theorem setSrc_stage (n : Nat) (x : Src) : (s.setSrc n x).stage = s.stage := rfl
@[simp] theorem setSrc_thimJ (n : Nat) (x : Src) : (s.setSrc n x).thimJ = s.thimJ := rfl
@[simp] theorem setSrc_orphanAge (n : Nat) (x : Src) : (s.setSrc n x).orphanAge = s.orphanAge := rfl
@[simp] theorem setSrc_measPending (n : Nat) (x : Src) : (s.setSrc n x).measPending = s.measPending := rfl
@[simp] theorem setSrc_jsPending (n : Nat) (x : Src) : (s.setSrc n x).jsPending = s.jsPending := rfl
@[simp] theorem setSrc_jsRunning (n : Nat) (x : Src) : (s.setSrc n x).jsRunning = s.jsRunning := rfl
@[simp] theorem setSrc_jsStart (n : Nat) (x : Src) : (s.setSrc n x).jsStart = s.jsStart := rfl
@[simp] theorem setSrc_afe (n : Nat) (x : Src) : (s.setSrc n x).afe = s.afe := rfl
@[simp] theorem setSrc_afeRef (n : Nat) (x : Src) : (s.setSrc n x).afeRef = s.afeRef := rfl
@[simp] theorem setSrc_meas (n : Nat) (x : Src) : (s.setSrc n x).meas = s.meas := rfl
@[simp] theorem setSrc_prevTemp (n : Nat) (x : Src) : (s.setSrc n x).prevTemp = s.prevTemp := rfl
@[simp] theorem setSrc_hsRuns (n : Nat) (x : Src) : (s.setSrc n x).hsRuns = s.hsRuns := rfl
@[simp] theorem setSrc_slotKeys (n : Nat) (x : Src) : (s.setSrc n x).slotKeys = s.slotKeys := rfl
@[simp] theorem setSrc_roleKeys (n : Nat) (x : Src) : (s.setSrc n x).roleKeys = s.roleKeys := rfl
@[simp] theorem setSrc_sweepDead (n : Nat) (x : Src) : (s.setSrc n x).sweepDead = s.sweepDead := rfl
@[simp] theorem setSrc_sweepOk (n : Nat) (x : Src) : (s.setSrc n x).sweepOk = s.sweepOk := rfl
@[simp] theorem setSrc_ringSweep (n : Nat) (x : Src) : (s.setSrc n x).ringSweep = s.ringSweep := rfl
@[simp] theorem setSrc_ringSweepLast (n : Nat) (x : Src) : (s.setSrc n x).ringSweepLast = s.ringSweepLast := rfl
@[simp] theorem setSrc_doneTop (n : Nat) (x : Src) : (s.setSrc n x).doneTop = s.doneTop := rfl
@[simp] theorem setSrc_decs (n : Nat) (x : Src) : (s.setSrc n x).decs = s.decs := rfl
@[simp] theorem setSrc_stream (n : Nat) (x : Src) : (s.setSrc n x).stream = s.stream := rfl
@[simp] theorem setSrc_measDue (n : Nat) (x : Src) : (s.setSrc n x).measDue = s.measDue := rfl
@[simp] theorem setSrc_dma (n : Nat) (x : Src) : (s.setSrc n x).dma = s.dma := rfl
@[simp] theorem setSrc_dmaLast (n : Nat) (x : Src) : (s.setSrc n x).dmaLast = s.dmaLast := rfl
@[simp] theorem setSrc_dmaTop (n : Nat) (x : Src) : (s.setSrc n x).dmaTop = s.dmaTop := rfl
@[simp] theorem setSrc_badWords (n : Nat) (x : Src) : (s.setSrc n x).badWords = s.badWords := rfl
@[simp] theorem setSrc_handing (n : Nat) (x : Src) : (s.setSrc n x).handing = s.handing := rfl
@[simp] theorem setSrc_dramEcc (n : Nat) (x : Src) : (s.setSrc n x).dramEcc = s.dramEcc := rfl
@[simp] theorem setSrc_basteNext (n : Nat) (x : Src) : (s.setSrc n x).basteNext = s.basteNext := rfl
@[simp] theorem setSrc_basteTries (n : Nat) (x : Src) : (s.setSrc n x).basteTries = s.basteTries := rfl
@[simp] theorem setSrc_basteAt (n : Nat) (x : Src) : (s.setSrc n x).basteAt = s.basteAt := rfl
@[simp] theorem setSrc_basteDone (n : Nat) (x : Src) : (s.setSrc n x).basteDone = s.basteDone := rfl
@[simp] theorem setSrc_mot (n : Nat) (x : Src) : (s.setSrc n x).mot = s.mot := rfl
@[simp] theorem setSrc_ring (n : Nat) (x : Src) : (s.setSrc n x).ring = s.ring := rfl
@[simp] theorem setSrc_ptp (n : Nat) (x : Src) : (s.setSrc n x).ptp = s.ptp := rfl
@[simp] theorem setSrc_pair (n : Nat) (x : Src) : (s.setSrc n x).pair = s.pair := rfl
@[simp] theorem setSrc_netUsed (n : Nat) (x : Src) : (s.setSrc n x).netUsed = s.netUsed := rfl
@[simp] theorem setSrc_hwAt (n : Nat) (x : Src) : (s.setSrc n x).hwAt = s.hwAt := rfl
@[simp] theorem setSrc_bumps (n : Nat) (x : Src) : (s.setSrc n x).bumps = s.bumps := rfl
@[simp] theorem setSrc_bumpAt (n : Nat) (x : Src) : (s.setSrc n x).bumpAt = s.bumpAt := rfl
@[simp] theorem setSrc_rawRegs (n : Nat) (x : Src) : (s.setSrc n x).rawRegs = s.rawRegs := rfl
@[simp] theorem setSrc_bist (n : Nat) (x : Src) : (s.setSrc n x).bist = s.bist := rfl
@[simp] theorem setSrc_wantReady (n : Nat) (x : Src) : (s.setSrc n x).wantReady = s.wantReady := rfl
@[simp] theorem setSrc_stopCap (n : Nat) (x : Src) : (s.setSrc n x).stopCap = s.stopCap := rfl
@[simp] theorem setSrc_headSources (n : Nat) (x : Src) : (s.setSrc n x).headSources = s.headSources := rfl
@[simp] theorem setSrc_railWait (n : Nat) (x : Src) : (s.setSrc n x).railWait = s.railWait := rfl
@[simp] theorem setSrc_causes (n : Nat) (x : Src) : (s.setSrc n x).causes = s.causes := rfl
@[simp] theorem setSrc_resetLow (n : Nat) (x : Src) : (s.setSrc n x).resetLow = s.resetLow := rfl
@[simp] theorem setSrc_fromRetain (n : Nat) (x : Src) : (s.setSrc n x).fromRetain = s.fromRetain := rfl
@[simp] theorem setSrc_islandsDown (n : Nat) (x : Src) : (s.setSrc n x).islandsDown = s.islandsDown := rfl
@[simp] theorem setSrc_driftRaised (n : Nat) (x : Src) : (s.setSrc n x).driftRaised = s.driftRaised := rfl
@[simp] theorem setSrc_bistWasCut (n : Nat) (x : Src) : (s.setSrc n x).bistWasCut = s.bistWasCut := rfl
@[simp] theorem setSrc_testEn (n : Nat) (x : Src) : (s.setSrc n x).testEn = s.testEn := rfl
@[simp] theorem setSrc_tapIr (n : Nat) (x : Src) : (s.setSrc n x).tapIr = s.tapIr := rfl
@[simp] theorem setSrc_tapBoundary (n : Nat) (x : Src) : (s.setSrc n x).tapBoundary = s.tapBoundary := rfl
@[simp] theorem setSrc_strapPorts (n : Nat) (x : Src) : (s.setSrc n x).strapPorts = s.strapPorts := rfl

/-! ### Core.setSession -/

@[simp] theorem setSession_clk (h : Nat) (x : Session) : (s.setSession h x).clk = s.clk := rfl
@[simp] theorem setSession_ftAcc (h : Nat) (x : Session) : (s.setSession h x).ftAcc = s.ftAcc := rfl
@[simp] theorem setSession_mode (h : Nat) (x : Session) : (s.setSession h x).mode = s.mode := rfl
@[simp] theorem setSession_phase (h : Nat) (x : Session) : (s.setSession h x).phase = s.phase := rfl
@[simp] theorem setSession_configReached (h : Nat) (x : Session) : (s.setSession h x).configReached = s.configReached := rfl
@[simp] theorem setSession_objs (h : Nat) (x : Session) : (s.setSession h x).objs = s.objs := rfl
@[simp] theorem setSession_comp (h : Nat) (x : Session) : (s.setSession h x).comp = s.comp := rfl
@[simp] theorem setSession_dirty (h : Nat) (x : Session) : (s.setSession h x).dirty = s.dirty := rfl
@[simp] theorem setSession_dirtySince (h : Nat) (x : Session) : (s.setSession h x).dirtySince = s.dirtySince := rfl
@[simp] theorem setSession_journal (h : Nat) (x : Session) : (s.setSession h x).journal = s.journal := rfl
@[simp] theorem setSession_journalFailing (h : Nat) (x : Session) : (s.setSession h x).journalFailing = s.journalFailing := rfl
@[simp] theorem setSession_src (h : Nat) (x : Session) : (s.setSession h x).src = s.src := rfl
@[simp] theorem setSession_log (h : Nat) (x : Session) : (s.setSession h x).log = s.log := rfl
@[simp] theorem setSession_logRet (h : Nat) (x : Session) : (s.setSession h x).logRet = s.logRet := rfl
@[simp] theorem setSession_alsoRaise (h : Nat) (x : Session) : (s.setSession h x).alsoRaise = s.alsoRaise := rfl
@[simp] theorem setSession_safeSince (h : Nat) (x : Session) : (s.setSession h x).safeSince = s.safeSince := rfl
@[simp] theorem setSession_wdogExpired (h : Nat) (x : Session) : (s.setSession h x).wdogExpired = s.wdogExpired := rfl
@[simp] theorem setSession_sess (h : Nat) (x : Session) : (s.setSession h x).sess = Tab.set s.sess h x := rfl
@[simp] theorem setSession_txnId (h : Nat) (x : Session) : (s.setSession h x).txnId = s.txnId := rfl
@[simp] theorem setSession_noSess (h : Nat) (x : Session) : (s.setSession h x).noSess = s.noSess := rfl
@[simp] theorem setSession_stop (h : Nat) (x : Session) : (s.setSession h x).stop = s.stop := rfl
@[simp] theorem setSession_out (h : Nat) (x : Session) : (s.setSession h x).out = s.out := rfl
@[simp] theorem setSession_lastStatus (h : Nat) (x : Session) : (s.setSession h x).lastStatus = s.lastStatus := rfl
@[simp] theorem setSession_timers (h : Nat) (x : Session) : (s.setSession h x).timers = s.timers := rfl
@[simp] theorem setSession_freeCount (h : Nat) (x : Session) : (s.setSession h x).freeCount = s.freeCount := rfl
@[simp] theorem setSession_chans (h : Nat) (x : Session) : (s.setSession h x).chans = s.chans := rfl
@[simp] theorem setSession_tacks (h : Nat) (x : Session) : (s.setSession h x).tacks = s.tacks := rfl
@[simp] theorem setSession_pred (h : Nat) (x : Session) : (s.setSession h x).pred = s.pred := rfl
@[simp] theorem setSession_ports (h : Nat) (x : Session) : (s.setSession h x).ports = s.ports := rfl
@[simp] theorem setSession_pages (h : Nat) (x : Session) : (s.setSession h x).pages = s.pages := rfl
@[simp] theorem setSession_job (h : Nat) (x : Session) : (s.setSession h x).job = s.job := rfl
@[simp] theorem setSession_staged (h : Nat) (x : Session) : (s.setSession h x).staged = s.staged := rfl
@[simp] theorem setSession_decided (h : Nat) (x : Session) : (s.setSession h x).decided = s.decided := rfl
@[simp] theorem setSession_hold (h : Nat) (x : Session) : (s.setSession h x).hold = s.hold := rfl
@[simp] theorem setSession_spit (h : Nat) (x : Session) : (s.setSession h x).spit = s.spit := rfl
@[simp] theorem setSession_colTop (h : Nat) (x : Session) : (s.setSession h x).colTop = s.colTop := rfl
@[simp] theorem setSession_bobCycles (h : Nat) (x : Session) : (s.setSession h x).bobCycles = s.bobCycles := rfl
@[simp] theorem setSession_lanes (h : Nat) (x : Session) : (s.setSession h x).lanes = s.lanes := rfl
@[simp] theorem setSession_comet (h : Nat) (x : Session) : (s.setSession h x).comet = s.comet := rfl
@[simp] theorem setSession_headStep (h : Nat) (x : Session) : (s.setSession h x).headStep = s.headStep := rfl
@[simp] theorem setSession_fseq (h : Nat) (x : Session) : (s.setSession h x).fseq = s.fseq := rfl
@[simp] theorem setSession_ringTx (h : Nat) (x : Session) : (s.setSession h x).ringTx = s.ringTx := rfl
@[simp] theorem setSession_stage (h : Nat) (x : Session) : (s.setSession h x).stage = s.stage := rfl
@[simp] theorem setSession_thimJ (h : Nat) (x : Session) : (s.setSession h x).thimJ = s.thimJ := rfl
@[simp] theorem setSession_orphanAge (h : Nat) (x : Session) : (s.setSession h x).orphanAge = s.orphanAge := rfl
@[simp] theorem setSession_measPending (h : Nat) (x : Session) : (s.setSession h x).measPending = s.measPending := rfl
@[simp] theorem setSession_jsPending (h : Nat) (x : Session) : (s.setSession h x).jsPending = s.jsPending := rfl
@[simp] theorem setSession_jsRunning (h : Nat) (x : Session) : (s.setSession h x).jsRunning = s.jsRunning := rfl
@[simp] theorem setSession_jsStart (h : Nat) (x : Session) : (s.setSession h x).jsStart = s.jsStart := rfl
@[simp] theorem setSession_afe (h : Nat) (x : Session) : (s.setSession h x).afe = s.afe := rfl
@[simp] theorem setSession_afeRef (h : Nat) (x : Session) : (s.setSession h x).afeRef = s.afeRef := rfl
@[simp] theorem setSession_meas (h : Nat) (x : Session) : (s.setSession h x).meas = s.meas := rfl
@[simp] theorem setSession_prevTemp (h : Nat) (x : Session) : (s.setSession h x).prevTemp = s.prevTemp := rfl
@[simp] theorem setSession_hsRuns (h : Nat) (x : Session) : (s.setSession h x).hsRuns = s.hsRuns := rfl
@[simp] theorem setSession_slotKeys (h : Nat) (x : Session) : (s.setSession h x).slotKeys = s.slotKeys := rfl
@[simp] theorem setSession_roleKeys (h : Nat) (x : Session) : (s.setSession h x).roleKeys = s.roleKeys := rfl
@[simp] theorem setSession_sweepDead (h : Nat) (x : Session) : (s.setSession h x).sweepDead = s.sweepDead := rfl
@[simp] theorem setSession_sweepOk (h : Nat) (x : Session) : (s.setSession h x).sweepOk = s.sweepOk := rfl
@[simp] theorem setSession_ringSweep (h : Nat) (x : Session) : (s.setSession h x).ringSweep = s.ringSweep := rfl
@[simp] theorem setSession_ringSweepLast (h : Nat) (x : Session) : (s.setSession h x).ringSweepLast = s.ringSweepLast := rfl
@[simp] theorem setSession_doneTop (h : Nat) (x : Session) : (s.setSession h x).doneTop = s.doneTop := rfl
@[simp] theorem setSession_decs (h : Nat) (x : Session) : (s.setSession h x).decs = s.decs := rfl
@[simp] theorem setSession_stream (h : Nat) (x : Session) : (s.setSession h x).stream = s.stream := rfl
@[simp] theorem setSession_measDue (h : Nat) (x : Session) : (s.setSession h x).measDue = s.measDue := rfl
@[simp] theorem setSession_dma (h : Nat) (x : Session) : (s.setSession h x).dma = s.dma := rfl
@[simp] theorem setSession_dmaLast (h : Nat) (x : Session) : (s.setSession h x).dmaLast = s.dmaLast := rfl
@[simp] theorem setSession_dmaTop (h : Nat) (x : Session) : (s.setSession h x).dmaTop = s.dmaTop := rfl
@[simp] theorem setSession_badWords (h : Nat) (x : Session) : (s.setSession h x).badWords = s.badWords := rfl
@[simp] theorem setSession_handing (h : Nat) (x : Session) : (s.setSession h x).handing = s.handing := rfl
@[simp] theorem setSession_dramEcc (h : Nat) (x : Session) : (s.setSession h x).dramEcc = s.dramEcc := rfl
@[simp] theorem setSession_basteNext (h : Nat) (x : Session) : (s.setSession h x).basteNext = s.basteNext := rfl
@[simp] theorem setSession_basteTries (h : Nat) (x : Session) : (s.setSession h x).basteTries = s.basteTries := rfl
@[simp] theorem setSession_basteAt (h : Nat) (x : Session) : (s.setSession h x).basteAt = s.basteAt := rfl
@[simp] theorem setSession_basteDone (h : Nat) (x : Session) : (s.setSession h x).basteDone = s.basteDone := rfl
@[simp] theorem setSession_mot (h : Nat) (x : Session) : (s.setSession h x).mot = s.mot := rfl
@[simp] theorem setSession_ring (h : Nat) (x : Session) : (s.setSession h x).ring = s.ring := rfl
@[simp] theorem setSession_ptp (h : Nat) (x : Session) : (s.setSession h x).ptp = s.ptp := rfl
@[simp] theorem setSession_pair (h : Nat) (x : Session) : (s.setSession h x).pair = s.pair := rfl
@[simp] theorem setSession_netUsed (h : Nat) (x : Session) : (s.setSession h x).netUsed = s.netUsed := rfl
@[simp] theorem setSession_hwAt (h : Nat) (x : Session) : (s.setSession h x).hwAt = s.hwAt := rfl
@[simp] theorem setSession_bumps (h : Nat) (x : Session) : (s.setSession h x).bumps = s.bumps := rfl
@[simp] theorem setSession_bumpAt (h : Nat) (x : Session) : (s.setSession h x).bumpAt = s.bumpAt := rfl
@[simp] theorem setSession_rawRegs (h : Nat) (x : Session) : (s.setSession h x).rawRegs = s.rawRegs := rfl
@[simp] theorem setSession_bist (h : Nat) (x : Session) : (s.setSession h x).bist = s.bist := rfl
@[simp] theorem setSession_wantReady (h : Nat) (x : Session) : (s.setSession h x).wantReady = s.wantReady := rfl
@[simp] theorem setSession_stopCap (h : Nat) (x : Session) : (s.setSession h x).stopCap = s.stopCap := rfl
@[simp] theorem setSession_headSources (h : Nat) (x : Session) : (s.setSession h x).headSources = s.headSources := rfl
@[simp] theorem setSession_railWait (h : Nat) (x : Session) : (s.setSession h x).railWait = s.railWait := rfl
@[simp] theorem setSession_causes (h : Nat) (x : Session) : (s.setSession h x).causes = s.causes := rfl
@[simp] theorem setSession_resetLow (h : Nat) (x : Session) : (s.setSession h x).resetLow = s.resetLow := rfl
@[simp] theorem setSession_fromRetain (h : Nat) (x : Session) : (s.setSession h x).fromRetain = s.fromRetain := rfl
@[simp] theorem setSession_islandsDown (h : Nat) (x : Session) : (s.setSession h x).islandsDown = s.islandsDown := rfl
@[simp] theorem setSession_driftRaised (h : Nat) (x : Session) : (s.setSession h x).driftRaised = s.driftRaised := rfl
@[simp] theorem setSession_bistWasCut (h : Nat) (x : Session) : (s.setSession h x).bistWasCut = s.bistWasCut := rfl
@[simp] theorem setSession_testEn (h : Nat) (x : Session) : (s.setSession h x).testEn = s.testEn := rfl
@[simp] theorem setSession_tapIr (h : Nat) (x : Session) : (s.setSession h x).tapIr = s.tapIr := rfl
@[simp] theorem setSession_tapBoundary (h : Nat) (x : Session) : (s.setSession h x).tapBoundary = s.tapBoundary := rfl
@[simp] theorem setSession_strapPorts (h : Nat) (x : Session) : (s.setSession h x).strapPorts = s.strapPorts := rfl

/-! ### Core.setPort -/

@[simp] theorem setPort_clk (p : Nat) (x : Port) : (s.setPort p x).clk = s.clk := rfl
@[simp] theorem setPort_ftAcc (p : Nat) (x : Port) : (s.setPort p x).ftAcc = s.ftAcc := rfl
@[simp] theorem setPort_mode (p : Nat) (x : Port) : (s.setPort p x).mode = s.mode := rfl
@[simp] theorem setPort_phase (p : Nat) (x : Port) : (s.setPort p x).phase = s.phase := rfl
@[simp] theorem setPort_configReached (p : Nat) (x : Port) : (s.setPort p x).configReached = s.configReached := rfl
@[simp] theorem setPort_objs (p : Nat) (x : Port) : (s.setPort p x).objs = s.objs := rfl
@[simp] theorem setPort_comp (p : Nat) (x : Port) : (s.setPort p x).comp = s.comp := rfl
@[simp] theorem setPort_dirty (p : Nat) (x : Port) : (s.setPort p x).dirty = s.dirty := rfl
@[simp] theorem setPort_dirtySince (p : Nat) (x : Port) : (s.setPort p x).dirtySince = s.dirtySince := rfl
@[simp] theorem setPort_journal (p : Nat) (x : Port) : (s.setPort p x).journal = s.journal := rfl
@[simp] theorem setPort_journalFailing (p : Nat) (x : Port) : (s.setPort p x).journalFailing = s.journalFailing := rfl
@[simp] theorem setPort_src (p : Nat) (x : Port) : (s.setPort p x).src = s.src := rfl
@[simp] theorem setPort_log (p : Nat) (x : Port) : (s.setPort p x).log = s.log := rfl
@[simp] theorem setPort_logRet (p : Nat) (x : Port) : (s.setPort p x).logRet = s.logRet := rfl
@[simp] theorem setPort_alsoRaise (p : Nat) (x : Port) : (s.setPort p x).alsoRaise = s.alsoRaise := rfl
@[simp] theorem setPort_safeSince (p : Nat) (x : Port) : (s.setPort p x).safeSince = s.safeSince := rfl
@[simp] theorem setPort_wdogExpired (p : Nat) (x : Port) : (s.setPort p x).wdogExpired = s.wdogExpired := rfl
@[simp] theorem setPort_sess (p : Nat) (x : Port) : (s.setPort p x).sess = s.sess := rfl
@[simp] theorem setPort_txnId (p : Nat) (x : Port) : (s.setPort p x).txnId = s.txnId := rfl
@[simp] theorem setPort_noSess (p : Nat) (x : Port) : (s.setPort p x).noSess = s.noSess := rfl
@[simp] theorem setPort_stop (p : Nat) (x : Port) : (s.setPort p x).stop = s.stop := rfl
@[simp] theorem setPort_out (p : Nat) (x : Port) : (s.setPort p x).out = s.out := rfl
@[simp] theorem setPort_lastStatus (p : Nat) (x : Port) : (s.setPort p x).lastStatus = s.lastStatus := rfl
@[simp] theorem setPort_timers (p : Nat) (x : Port) : (s.setPort p x).timers = s.timers := rfl
@[simp] theorem setPort_freeCount (p : Nat) (x : Port) : (s.setPort p x).freeCount = s.freeCount := rfl
@[simp] theorem setPort_chans (p : Nat) (x : Port) : (s.setPort p x).chans = s.chans := rfl
@[simp] theorem setPort_tacks (p : Nat) (x : Port) : (s.setPort p x).tacks = s.tacks := rfl
@[simp] theorem setPort_pred (p : Nat) (x : Port) : (s.setPort p x).pred = s.pred := rfl
@[simp] theorem setPort_ports (p : Nat) (x : Port) : (s.setPort p x).ports = Tab.set s.ports p x := rfl
@[simp] theorem setPort_pages (p : Nat) (x : Port) : (s.setPort p x).pages = s.pages := rfl
@[simp] theorem setPort_job (p : Nat) (x : Port) : (s.setPort p x).job = s.job := rfl
@[simp] theorem setPort_staged (p : Nat) (x : Port) : (s.setPort p x).staged = s.staged := rfl
@[simp] theorem setPort_decided (p : Nat) (x : Port) : (s.setPort p x).decided = s.decided := rfl
@[simp] theorem setPort_hold (p : Nat) (x : Port) : (s.setPort p x).hold = s.hold := rfl
@[simp] theorem setPort_spit (p : Nat) (x : Port) : (s.setPort p x).spit = s.spit := rfl
@[simp] theorem setPort_colTop (p : Nat) (x : Port) : (s.setPort p x).colTop = s.colTop := rfl
@[simp] theorem setPort_bobCycles (p : Nat) (x : Port) : (s.setPort p x).bobCycles = s.bobCycles := rfl
@[simp] theorem setPort_lanes (p : Nat) (x : Port) : (s.setPort p x).lanes = s.lanes := rfl
@[simp] theorem setPort_comet (p : Nat) (x : Port) : (s.setPort p x).comet = s.comet := rfl
@[simp] theorem setPort_headStep (p : Nat) (x : Port) : (s.setPort p x).headStep = s.headStep := rfl
@[simp] theorem setPort_fseq (p : Nat) (x : Port) : (s.setPort p x).fseq = s.fseq := rfl
@[simp] theorem setPort_ringTx (p : Nat) (x : Port) : (s.setPort p x).ringTx = s.ringTx := rfl
@[simp] theorem setPort_stage (p : Nat) (x : Port) : (s.setPort p x).stage = s.stage := rfl
@[simp] theorem setPort_thimJ (p : Nat) (x : Port) : (s.setPort p x).thimJ = s.thimJ := rfl
@[simp] theorem setPort_orphanAge (p : Nat) (x : Port) : (s.setPort p x).orphanAge = s.orphanAge := rfl
@[simp] theorem setPort_measPending (p : Nat) (x : Port) : (s.setPort p x).measPending = s.measPending := rfl
@[simp] theorem setPort_jsPending (p : Nat) (x : Port) : (s.setPort p x).jsPending = s.jsPending := rfl
@[simp] theorem setPort_jsRunning (p : Nat) (x : Port) : (s.setPort p x).jsRunning = s.jsRunning := rfl
@[simp] theorem setPort_jsStart (p : Nat) (x : Port) : (s.setPort p x).jsStart = s.jsStart := rfl
@[simp] theorem setPort_afe (p : Nat) (x : Port) : (s.setPort p x).afe = s.afe := rfl
@[simp] theorem setPort_afeRef (p : Nat) (x : Port) : (s.setPort p x).afeRef = s.afeRef := rfl
@[simp] theorem setPort_meas (p : Nat) (x : Port) : (s.setPort p x).meas = s.meas := rfl
@[simp] theorem setPort_prevTemp (p : Nat) (x : Port) : (s.setPort p x).prevTemp = s.prevTemp := rfl
@[simp] theorem setPort_hsRuns (p : Nat) (x : Port) : (s.setPort p x).hsRuns = s.hsRuns := rfl
@[simp] theorem setPort_slotKeys (p : Nat) (x : Port) : (s.setPort p x).slotKeys = s.slotKeys := rfl
@[simp] theorem setPort_roleKeys (p : Nat) (x : Port) : (s.setPort p x).roleKeys = s.roleKeys := rfl
@[simp] theorem setPort_sweepDead (p : Nat) (x : Port) : (s.setPort p x).sweepDead = s.sweepDead := rfl
@[simp] theorem setPort_sweepOk (p : Nat) (x : Port) : (s.setPort p x).sweepOk = s.sweepOk := rfl
@[simp] theorem setPort_ringSweep (p : Nat) (x : Port) : (s.setPort p x).ringSweep = s.ringSweep := rfl
@[simp] theorem setPort_ringSweepLast (p : Nat) (x : Port) : (s.setPort p x).ringSweepLast = s.ringSweepLast := rfl
@[simp] theorem setPort_doneTop (p : Nat) (x : Port) : (s.setPort p x).doneTop = s.doneTop := rfl
@[simp] theorem setPort_decs (p : Nat) (x : Port) : (s.setPort p x).decs = s.decs := rfl
@[simp] theorem setPort_stream (p : Nat) (x : Port) : (s.setPort p x).stream = s.stream := rfl
@[simp] theorem setPort_measDue (p : Nat) (x : Port) : (s.setPort p x).measDue = s.measDue := rfl
@[simp] theorem setPort_dma (p : Nat) (x : Port) : (s.setPort p x).dma = s.dma := rfl
@[simp] theorem setPort_dmaLast (p : Nat) (x : Port) : (s.setPort p x).dmaLast = s.dmaLast := rfl
@[simp] theorem setPort_dmaTop (p : Nat) (x : Port) : (s.setPort p x).dmaTop = s.dmaTop := rfl
@[simp] theorem setPort_badWords (p : Nat) (x : Port) : (s.setPort p x).badWords = s.badWords := rfl
@[simp] theorem setPort_handing (p : Nat) (x : Port) : (s.setPort p x).handing = s.handing := rfl
@[simp] theorem setPort_dramEcc (p : Nat) (x : Port) : (s.setPort p x).dramEcc = s.dramEcc := rfl
@[simp] theorem setPort_basteNext (p : Nat) (x : Port) : (s.setPort p x).basteNext = s.basteNext := rfl
@[simp] theorem setPort_basteTries (p : Nat) (x : Port) : (s.setPort p x).basteTries = s.basteTries := rfl
@[simp] theorem setPort_basteAt (p : Nat) (x : Port) : (s.setPort p x).basteAt = s.basteAt := rfl
@[simp] theorem setPort_basteDone (p : Nat) (x : Port) : (s.setPort p x).basteDone = s.basteDone := rfl
@[simp] theorem setPort_mot (p : Nat) (x : Port) : (s.setPort p x).mot = s.mot := rfl
@[simp] theorem setPort_ring (p : Nat) (x : Port) : (s.setPort p x).ring = s.ring := rfl
@[simp] theorem setPort_ptp (p : Nat) (x : Port) : (s.setPort p x).ptp = s.ptp := rfl
@[simp] theorem setPort_pair (p : Nat) (x : Port) : (s.setPort p x).pair = s.pair := rfl
@[simp] theorem setPort_netUsed (p : Nat) (x : Port) : (s.setPort p x).netUsed = s.netUsed := rfl
@[simp] theorem setPort_hwAt (p : Nat) (x : Port) : (s.setPort p x).hwAt = s.hwAt := rfl
@[simp] theorem setPort_bumps (p : Nat) (x : Port) : (s.setPort p x).bumps = s.bumps := rfl
@[simp] theorem setPort_bumpAt (p : Nat) (x : Port) : (s.setPort p x).bumpAt = s.bumpAt := rfl
@[simp] theorem setPort_rawRegs (p : Nat) (x : Port) : (s.setPort p x).rawRegs = s.rawRegs := rfl
@[simp] theorem setPort_bist (p : Nat) (x : Port) : (s.setPort p x).bist = s.bist := rfl
@[simp] theorem setPort_wantReady (p : Nat) (x : Port) : (s.setPort p x).wantReady = s.wantReady := rfl
@[simp] theorem setPort_stopCap (p : Nat) (x : Port) : (s.setPort p x).stopCap = s.stopCap := rfl
@[simp] theorem setPort_headSources (p : Nat) (x : Port) : (s.setPort p x).headSources = s.headSources := rfl
@[simp] theorem setPort_railWait (p : Nat) (x : Port) : (s.setPort p x).railWait = s.railWait := rfl
@[simp] theorem setPort_causes (p : Nat) (x : Port) : (s.setPort p x).causes = s.causes := rfl
@[simp] theorem setPort_resetLow (p : Nat) (x : Port) : (s.setPort p x).resetLow = s.resetLow := rfl
@[simp] theorem setPort_fromRetain (p : Nat) (x : Port) : (s.setPort p x).fromRetain = s.fromRetain := rfl
@[simp] theorem setPort_islandsDown (p : Nat) (x : Port) : (s.setPort p x).islandsDown = s.islandsDown := rfl
@[simp] theorem setPort_driftRaised (p : Nat) (x : Port) : (s.setPort p x).driftRaised = s.driftRaised := rfl
@[simp] theorem setPort_bistWasCut (p : Nat) (x : Port) : (s.setPort p x).bistWasCut = s.bistWasCut := rfl
@[simp] theorem setPort_testEn (p : Nat) (x : Port) : (s.setPort p x).testEn = s.testEn := rfl
@[simp] theorem setPort_tapIr (p : Nat) (x : Port) : (s.setPort p x).tapIr = s.tapIr := rfl
@[simp] theorem setPort_tapBoundary (p : Nat) (x : Port) : (s.setPort p x).tapBoundary = s.tapBoundary := rfl
@[simp] theorem setPort_strapPorts (p : Nat) (x : Port) : (s.setPort p x).strapPorts = s.strapPorts := rfl

/-! ### Core.setChan -/

@[simp] theorem setChan_clk (n : Nat) (x : Chan) : (s.setChan n x).clk = s.clk := rfl
@[simp] theorem setChan_ftAcc (n : Nat) (x : Chan) : (s.setChan n x).ftAcc = s.ftAcc := rfl
@[simp] theorem setChan_mode (n : Nat) (x : Chan) : (s.setChan n x).mode = s.mode := rfl
@[simp] theorem setChan_phase (n : Nat) (x : Chan) : (s.setChan n x).phase = s.phase := rfl
@[simp] theorem setChan_configReached (n : Nat) (x : Chan) : (s.setChan n x).configReached = s.configReached := rfl
@[simp] theorem setChan_objs (n : Nat) (x : Chan) : (s.setChan n x).objs = s.objs := rfl
@[simp] theorem setChan_comp (n : Nat) (x : Chan) : (s.setChan n x).comp = s.comp := rfl
@[simp] theorem setChan_dirty (n : Nat) (x : Chan) : (s.setChan n x).dirty = s.dirty := rfl
@[simp] theorem setChan_dirtySince (n : Nat) (x : Chan) : (s.setChan n x).dirtySince = s.dirtySince := rfl
@[simp] theorem setChan_journal (n : Nat) (x : Chan) : (s.setChan n x).journal = s.journal := rfl
@[simp] theorem setChan_journalFailing (n : Nat) (x : Chan) : (s.setChan n x).journalFailing = s.journalFailing := rfl
@[simp] theorem setChan_src (n : Nat) (x : Chan) : (s.setChan n x).src = s.src := rfl
@[simp] theorem setChan_log (n : Nat) (x : Chan) : (s.setChan n x).log = s.log := rfl
@[simp] theorem setChan_logRet (n : Nat) (x : Chan) : (s.setChan n x).logRet = s.logRet := rfl
@[simp] theorem setChan_alsoRaise (n : Nat) (x : Chan) : (s.setChan n x).alsoRaise = s.alsoRaise := rfl
@[simp] theorem setChan_safeSince (n : Nat) (x : Chan) : (s.setChan n x).safeSince = s.safeSince := rfl
@[simp] theorem setChan_wdogExpired (n : Nat) (x : Chan) : (s.setChan n x).wdogExpired = s.wdogExpired := rfl
@[simp] theorem setChan_sess (n : Nat) (x : Chan) : (s.setChan n x).sess = s.sess := rfl
@[simp] theorem setChan_txnId (n : Nat) (x : Chan) : (s.setChan n x).txnId = s.txnId := rfl
@[simp] theorem setChan_noSess (n : Nat) (x : Chan) : (s.setChan n x).noSess = s.noSess := rfl
@[simp] theorem setChan_stop (n : Nat) (x : Chan) : (s.setChan n x).stop = s.stop := rfl
@[simp] theorem setChan_out (n : Nat) (x : Chan) : (s.setChan n x).out = s.out := rfl
@[simp] theorem setChan_lastStatus (n : Nat) (x : Chan) : (s.setChan n x).lastStatus = s.lastStatus := rfl
@[simp] theorem setChan_timers (n : Nat) (x : Chan) : (s.setChan n x).timers = s.timers := rfl
@[simp] theorem setChan_freeCount (n : Nat) (x : Chan) : (s.setChan n x).freeCount = s.freeCount := rfl
@[simp] theorem setChan_chans (n : Nat) (x : Chan) : (s.setChan n x).chans = Tab.set s.chans n x := rfl
@[simp] theorem setChan_tacks (n : Nat) (x : Chan) : (s.setChan n x).tacks = s.tacks := rfl
@[simp] theorem setChan_pred (n : Nat) (x : Chan) : (s.setChan n x).pred = s.pred := rfl
@[simp] theorem setChan_ports (n : Nat) (x : Chan) : (s.setChan n x).ports = s.ports := rfl
@[simp] theorem setChan_pages (n : Nat) (x : Chan) : (s.setChan n x).pages = s.pages := rfl
@[simp] theorem setChan_job (n : Nat) (x : Chan) : (s.setChan n x).job = s.job := rfl
@[simp] theorem setChan_staged (n : Nat) (x : Chan) : (s.setChan n x).staged = s.staged := rfl
@[simp] theorem setChan_decided (n : Nat) (x : Chan) : (s.setChan n x).decided = s.decided := rfl
@[simp] theorem setChan_hold (n : Nat) (x : Chan) : (s.setChan n x).hold = s.hold := rfl
@[simp] theorem setChan_spit (n : Nat) (x : Chan) : (s.setChan n x).spit = s.spit := rfl
@[simp] theorem setChan_colTop (n : Nat) (x : Chan) : (s.setChan n x).colTop = s.colTop := rfl
@[simp] theorem setChan_bobCycles (n : Nat) (x : Chan) : (s.setChan n x).bobCycles = s.bobCycles := rfl
@[simp] theorem setChan_lanes (n : Nat) (x : Chan) : (s.setChan n x).lanes = s.lanes := rfl
@[simp] theorem setChan_comet (n : Nat) (x : Chan) : (s.setChan n x).comet = s.comet := rfl
@[simp] theorem setChan_headStep (n : Nat) (x : Chan) : (s.setChan n x).headStep = s.headStep := rfl
@[simp] theorem setChan_fseq (n : Nat) (x : Chan) : (s.setChan n x).fseq = s.fseq := rfl
@[simp] theorem setChan_ringTx (n : Nat) (x : Chan) : (s.setChan n x).ringTx = s.ringTx := rfl
@[simp] theorem setChan_stage (n : Nat) (x : Chan) : (s.setChan n x).stage = s.stage := rfl
@[simp] theorem setChan_thimJ (n : Nat) (x : Chan) : (s.setChan n x).thimJ = s.thimJ := rfl
@[simp] theorem setChan_orphanAge (n : Nat) (x : Chan) : (s.setChan n x).orphanAge = s.orphanAge := rfl
@[simp] theorem setChan_measPending (n : Nat) (x : Chan) : (s.setChan n x).measPending = s.measPending := rfl
@[simp] theorem setChan_jsPending (n : Nat) (x : Chan) : (s.setChan n x).jsPending = s.jsPending := rfl
@[simp] theorem setChan_jsRunning (n : Nat) (x : Chan) : (s.setChan n x).jsRunning = s.jsRunning := rfl
@[simp] theorem setChan_jsStart (n : Nat) (x : Chan) : (s.setChan n x).jsStart = s.jsStart := rfl
@[simp] theorem setChan_afe (n : Nat) (x : Chan) : (s.setChan n x).afe = s.afe := rfl
@[simp] theorem setChan_afeRef (n : Nat) (x : Chan) : (s.setChan n x).afeRef = s.afeRef := rfl
@[simp] theorem setChan_meas (n : Nat) (x : Chan) : (s.setChan n x).meas = s.meas := rfl
@[simp] theorem setChan_prevTemp (n : Nat) (x : Chan) : (s.setChan n x).prevTemp = s.prevTemp := rfl
@[simp] theorem setChan_hsRuns (n : Nat) (x : Chan) : (s.setChan n x).hsRuns = s.hsRuns := rfl
@[simp] theorem setChan_slotKeys (n : Nat) (x : Chan) : (s.setChan n x).slotKeys = s.slotKeys := rfl
@[simp] theorem setChan_roleKeys (n : Nat) (x : Chan) : (s.setChan n x).roleKeys = s.roleKeys := rfl
@[simp] theorem setChan_sweepDead (n : Nat) (x : Chan) : (s.setChan n x).sweepDead = s.sweepDead := rfl
@[simp] theorem setChan_sweepOk (n : Nat) (x : Chan) : (s.setChan n x).sweepOk = s.sweepOk := rfl
@[simp] theorem setChan_ringSweep (n : Nat) (x : Chan) : (s.setChan n x).ringSweep = s.ringSweep := rfl
@[simp] theorem setChan_ringSweepLast (n : Nat) (x : Chan) : (s.setChan n x).ringSweepLast = s.ringSweepLast := rfl
@[simp] theorem setChan_doneTop (n : Nat) (x : Chan) : (s.setChan n x).doneTop = s.doneTop := rfl
@[simp] theorem setChan_decs (n : Nat) (x : Chan) : (s.setChan n x).decs = s.decs := rfl
@[simp] theorem setChan_stream (n : Nat) (x : Chan) : (s.setChan n x).stream = s.stream := rfl
@[simp] theorem setChan_measDue (n : Nat) (x : Chan) : (s.setChan n x).measDue = s.measDue := rfl
@[simp] theorem setChan_dma (n : Nat) (x : Chan) : (s.setChan n x).dma = s.dma := rfl
@[simp] theorem setChan_dmaLast (n : Nat) (x : Chan) : (s.setChan n x).dmaLast = s.dmaLast := rfl
@[simp] theorem setChan_dmaTop (n : Nat) (x : Chan) : (s.setChan n x).dmaTop = s.dmaTop := rfl
@[simp] theorem setChan_badWords (n : Nat) (x : Chan) : (s.setChan n x).badWords = s.badWords := rfl
@[simp] theorem setChan_handing (n : Nat) (x : Chan) : (s.setChan n x).handing = s.handing := rfl
@[simp] theorem setChan_dramEcc (n : Nat) (x : Chan) : (s.setChan n x).dramEcc = s.dramEcc := rfl
@[simp] theorem setChan_basteNext (n : Nat) (x : Chan) : (s.setChan n x).basteNext = s.basteNext := rfl
@[simp] theorem setChan_basteTries (n : Nat) (x : Chan) : (s.setChan n x).basteTries = s.basteTries := rfl
@[simp] theorem setChan_basteAt (n : Nat) (x : Chan) : (s.setChan n x).basteAt = s.basteAt := rfl
@[simp] theorem setChan_basteDone (n : Nat) (x : Chan) : (s.setChan n x).basteDone = s.basteDone := rfl
@[simp] theorem setChan_mot (n : Nat) (x : Chan) : (s.setChan n x).mot = s.mot := rfl
@[simp] theorem setChan_ring (n : Nat) (x : Chan) : (s.setChan n x).ring = s.ring := rfl
@[simp] theorem setChan_ptp (n : Nat) (x : Chan) : (s.setChan n x).ptp = s.ptp := rfl
@[simp] theorem setChan_pair (n : Nat) (x : Chan) : (s.setChan n x).pair = s.pair := rfl
@[simp] theorem setChan_netUsed (n : Nat) (x : Chan) : (s.setChan n x).netUsed = s.netUsed := rfl
@[simp] theorem setChan_hwAt (n : Nat) (x : Chan) : (s.setChan n x).hwAt = s.hwAt := rfl
@[simp] theorem setChan_bumps (n : Nat) (x : Chan) : (s.setChan n x).bumps = s.bumps := rfl
@[simp] theorem setChan_bumpAt (n : Nat) (x : Chan) : (s.setChan n x).bumpAt = s.bumpAt := rfl
@[simp] theorem setChan_rawRegs (n : Nat) (x : Chan) : (s.setChan n x).rawRegs = s.rawRegs := rfl
@[simp] theorem setChan_bist (n : Nat) (x : Chan) : (s.setChan n x).bist = s.bist := rfl
@[simp] theorem setChan_wantReady (n : Nat) (x : Chan) : (s.setChan n x).wantReady = s.wantReady := rfl
@[simp] theorem setChan_stopCap (n : Nat) (x : Chan) : (s.setChan n x).stopCap = s.stopCap := rfl
@[simp] theorem setChan_headSources (n : Nat) (x : Chan) : (s.setChan n x).headSources = s.headSources := rfl
@[simp] theorem setChan_railWait (n : Nat) (x : Chan) : (s.setChan n x).railWait = s.railWait := rfl
@[simp] theorem setChan_causes (n : Nat) (x : Chan) : (s.setChan n x).causes = s.causes := rfl
@[simp] theorem setChan_resetLow (n : Nat) (x : Chan) : (s.setChan n x).resetLow = s.resetLow := rfl
@[simp] theorem setChan_fromRetain (n : Nat) (x : Chan) : (s.setChan n x).fromRetain = s.fromRetain := rfl
@[simp] theorem setChan_islandsDown (n : Nat) (x : Chan) : (s.setChan n x).islandsDown = s.islandsDown := rfl
@[simp] theorem setChan_driftRaised (n : Nat) (x : Chan) : (s.setChan n x).driftRaised = s.driftRaised := rfl
@[simp] theorem setChan_bistWasCut (n : Nat) (x : Chan) : (s.setChan n x).bistWasCut = s.bistWasCut := rfl
@[simp] theorem setChan_testEn (n : Nat) (x : Chan) : (s.setChan n x).testEn = s.testEn := rfl
@[simp] theorem setChan_tapIr (n : Nat) (x : Chan) : (s.setChan n x).tapIr = s.tapIr := rfl
@[simp] theorem setChan_tapBoundary (n : Nat) (x : Chan) : (s.setChan n x).tapBoundary = s.tapBoundary := rfl
@[simp] theorem setChan_strapPorts (n : Nat) (x : Chan) : (s.setChan n x).strapPorts = s.strapPorts := rfl

/-! ### Core.setDecoder -/

@[simp] theorem setDecoder_clk (d : Nat) (x : Decoder) : (s.setDecoder d x).clk = s.clk := rfl
@[simp] theorem setDecoder_ftAcc (d : Nat) (x : Decoder) : (s.setDecoder d x).ftAcc = s.ftAcc := rfl
@[simp] theorem setDecoder_mode (d : Nat) (x : Decoder) : (s.setDecoder d x).mode = s.mode := rfl
@[simp] theorem setDecoder_phase (d : Nat) (x : Decoder) : (s.setDecoder d x).phase = s.phase := rfl
@[simp] theorem setDecoder_configReached (d : Nat) (x : Decoder) : (s.setDecoder d x).configReached = s.configReached := rfl
@[simp] theorem setDecoder_objs (d : Nat) (x : Decoder) : (s.setDecoder d x).objs = s.objs := rfl
@[simp] theorem setDecoder_comp (d : Nat) (x : Decoder) : (s.setDecoder d x).comp = s.comp := rfl
@[simp] theorem setDecoder_dirty (d : Nat) (x : Decoder) : (s.setDecoder d x).dirty = s.dirty := rfl
@[simp] theorem setDecoder_dirtySince (d : Nat) (x : Decoder) : (s.setDecoder d x).dirtySince = s.dirtySince := rfl
@[simp] theorem setDecoder_journal (d : Nat) (x : Decoder) : (s.setDecoder d x).journal = s.journal := rfl
@[simp] theorem setDecoder_journalFailing (d : Nat) (x : Decoder) : (s.setDecoder d x).journalFailing = s.journalFailing := rfl
@[simp] theorem setDecoder_src (d : Nat) (x : Decoder) : (s.setDecoder d x).src = s.src := rfl
@[simp] theorem setDecoder_log (d : Nat) (x : Decoder) : (s.setDecoder d x).log = s.log := rfl
@[simp] theorem setDecoder_logRet (d : Nat) (x : Decoder) : (s.setDecoder d x).logRet = s.logRet := rfl
@[simp] theorem setDecoder_alsoRaise (d : Nat) (x : Decoder) : (s.setDecoder d x).alsoRaise = s.alsoRaise := rfl
@[simp] theorem setDecoder_safeSince (d : Nat) (x : Decoder) : (s.setDecoder d x).safeSince = s.safeSince := rfl
@[simp] theorem setDecoder_wdogExpired (d : Nat) (x : Decoder) : (s.setDecoder d x).wdogExpired = s.wdogExpired := rfl
@[simp] theorem setDecoder_sess (d : Nat) (x : Decoder) : (s.setDecoder d x).sess = s.sess := rfl
@[simp] theorem setDecoder_txnId (d : Nat) (x : Decoder) : (s.setDecoder d x).txnId = s.txnId := rfl
@[simp] theorem setDecoder_noSess (d : Nat) (x : Decoder) : (s.setDecoder d x).noSess = s.noSess := rfl
@[simp] theorem setDecoder_stop (d : Nat) (x : Decoder) : (s.setDecoder d x).stop = s.stop := rfl
@[simp] theorem setDecoder_out (d : Nat) (x : Decoder) : (s.setDecoder d x).out = s.out := rfl
@[simp] theorem setDecoder_lastStatus (d : Nat) (x : Decoder) : (s.setDecoder d x).lastStatus = s.lastStatus := rfl
@[simp] theorem setDecoder_timers (d : Nat) (x : Decoder) : (s.setDecoder d x).timers = s.timers := rfl
@[simp] theorem setDecoder_freeCount (d : Nat) (x : Decoder) : (s.setDecoder d x).freeCount = s.freeCount := rfl
@[simp] theorem setDecoder_chans (d : Nat) (x : Decoder) : (s.setDecoder d x).chans = s.chans := rfl
@[simp] theorem setDecoder_tacks (d : Nat) (x : Decoder) : (s.setDecoder d x).tacks = s.tacks := rfl
@[simp] theorem setDecoder_pred (d : Nat) (x : Decoder) : (s.setDecoder d x).pred = s.pred := rfl
@[simp] theorem setDecoder_ports (d : Nat) (x : Decoder) : (s.setDecoder d x).ports = s.ports := rfl
@[simp] theorem setDecoder_pages (d : Nat) (x : Decoder) : (s.setDecoder d x).pages = s.pages := rfl
@[simp] theorem setDecoder_job (d : Nat) (x : Decoder) : (s.setDecoder d x).job = s.job := rfl
@[simp] theorem setDecoder_staged (d : Nat) (x : Decoder) : (s.setDecoder d x).staged = s.staged := rfl
@[simp] theorem setDecoder_decided (d : Nat) (x : Decoder) : (s.setDecoder d x).decided = s.decided := rfl
@[simp] theorem setDecoder_hold (d : Nat) (x : Decoder) : (s.setDecoder d x).hold = s.hold := rfl
@[simp] theorem setDecoder_spit (d : Nat) (x : Decoder) : (s.setDecoder d x).spit = s.spit := rfl
@[simp] theorem setDecoder_colTop (d : Nat) (x : Decoder) : (s.setDecoder d x).colTop = s.colTop := rfl
@[simp] theorem setDecoder_bobCycles (d : Nat) (x : Decoder) : (s.setDecoder d x).bobCycles = s.bobCycles := rfl
@[simp] theorem setDecoder_lanes (d : Nat) (x : Decoder) : (s.setDecoder d x).lanes = s.lanes := rfl
@[simp] theorem setDecoder_comet (d : Nat) (x : Decoder) : (s.setDecoder d x).comet = s.comet := rfl
@[simp] theorem setDecoder_headStep (d : Nat) (x : Decoder) : (s.setDecoder d x).headStep = s.headStep := rfl
@[simp] theorem setDecoder_fseq (d : Nat) (x : Decoder) : (s.setDecoder d x).fseq = s.fseq := rfl
@[simp] theorem setDecoder_ringTx (d : Nat) (x : Decoder) : (s.setDecoder d x).ringTx = s.ringTx := rfl
@[simp] theorem setDecoder_stage (d : Nat) (x : Decoder) : (s.setDecoder d x).stage = s.stage := rfl
@[simp] theorem setDecoder_thimJ (d : Nat) (x : Decoder) : (s.setDecoder d x).thimJ = s.thimJ := rfl
@[simp] theorem setDecoder_orphanAge (d : Nat) (x : Decoder) : (s.setDecoder d x).orphanAge = s.orphanAge := rfl
@[simp] theorem setDecoder_measPending (d : Nat) (x : Decoder) : (s.setDecoder d x).measPending = s.measPending := rfl
@[simp] theorem setDecoder_jsPending (d : Nat) (x : Decoder) : (s.setDecoder d x).jsPending = s.jsPending := rfl
@[simp] theorem setDecoder_jsRunning (d : Nat) (x : Decoder) : (s.setDecoder d x).jsRunning = s.jsRunning := rfl
@[simp] theorem setDecoder_jsStart (d : Nat) (x : Decoder) : (s.setDecoder d x).jsStart = s.jsStart := rfl
@[simp] theorem setDecoder_afe (d : Nat) (x : Decoder) : (s.setDecoder d x).afe = s.afe := rfl
@[simp] theorem setDecoder_afeRef (d : Nat) (x : Decoder) : (s.setDecoder d x).afeRef = s.afeRef := rfl
@[simp] theorem setDecoder_meas (d : Nat) (x : Decoder) : (s.setDecoder d x).meas = s.meas := rfl
@[simp] theorem setDecoder_prevTemp (d : Nat) (x : Decoder) : (s.setDecoder d x).prevTemp = s.prevTemp := rfl
@[simp] theorem setDecoder_hsRuns (d : Nat) (x : Decoder) : (s.setDecoder d x).hsRuns = s.hsRuns := rfl
@[simp] theorem setDecoder_slotKeys (d : Nat) (x : Decoder) : (s.setDecoder d x).slotKeys = s.slotKeys := rfl
@[simp] theorem setDecoder_roleKeys (d : Nat) (x : Decoder) : (s.setDecoder d x).roleKeys = s.roleKeys := rfl
@[simp] theorem setDecoder_sweepDead (d : Nat) (x : Decoder) : (s.setDecoder d x).sweepDead = s.sweepDead := rfl
@[simp] theorem setDecoder_sweepOk (d : Nat) (x : Decoder) : (s.setDecoder d x).sweepOk = s.sweepOk := rfl
@[simp] theorem setDecoder_ringSweep (d : Nat) (x : Decoder) : (s.setDecoder d x).ringSweep = s.ringSweep := rfl
@[simp] theorem setDecoder_ringSweepLast (d : Nat) (x : Decoder) : (s.setDecoder d x).ringSweepLast = s.ringSweepLast := rfl
@[simp] theorem setDecoder_doneTop (d : Nat) (x : Decoder) : (s.setDecoder d x).doneTop = s.doneTop := rfl
@[simp] theorem setDecoder_decs (d : Nat) (x : Decoder) : (s.setDecoder d x).decs = Tab.set s.decs d x := rfl
@[simp] theorem setDecoder_stream (d : Nat) (x : Decoder) : (s.setDecoder d x).stream = s.stream := rfl
@[simp] theorem setDecoder_measDue (d : Nat) (x : Decoder) : (s.setDecoder d x).measDue = s.measDue := rfl
@[simp] theorem setDecoder_dma (d : Nat) (x : Decoder) : (s.setDecoder d x).dma = s.dma := rfl
@[simp] theorem setDecoder_dmaLast (d : Nat) (x : Decoder) : (s.setDecoder d x).dmaLast = s.dmaLast := rfl
@[simp] theorem setDecoder_dmaTop (d : Nat) (x : Decoder) : (s.setDecoder d x).dmaTop = s.dmaTop := rfl
@[simp] theorem setDecoder_badWords (d : Nat) (x : Decoder) : (s.setDecoder d x).badWords = s.badWords := rfl
@[simp] theorem setDecoder_handing (d : Nat) (x : Decoder) : (s.setDecoder d x).handing = s.handing := rfl
@[simp] theorem setDecoder_dramEcc (d : Nat) (x : Decoder) : (s.setDecoder d x).dramEcc = s.dramEcc := rfl
@[simp] theorem setDecoder_basteNext (d : Nat) (x : Decoder) : (s.setDecoder d x).basteNext = s.basteNext := rfl
@[simp] theorem setDecoder_basteTries (d : Nat) (x : Decoder) : (s.setDecoder d x).basteTries = s.basteTries := rfl
@[simp] theorem setDecoder_basteAt (d : Nat) (x : Decoder) : (s.setDecoder d x).basteAt = s.basteAt := rfl
@[simp] theorem setDecoder_basteDone (d : Nat) (x : Decoder) : (s.setDecoder d x).basteDone = s.basteDone := rfl
@[simp] theorem setDecoder_mot (d : Nat) (x : Decoder) : (s.setDecoder d x).mot = s.mot := rfl
@[simp] theorem setDecoder_ring (d : Nat) (x : Decoder) : (s.setDecoder d x).ring = s.ring := rfl
@[simp] theorem setDecoder_ptp (d : Nat) (x : Decoder) : (s.setDecoder d x).ptp = s.ptp := rfl
@[simp] theorem setDecoder_pair (d : Nat) (x : Decoder) : (s.setDecoder d x).pair = s.pair := rfl
@[simp] theorem setDecoder_netUsed (d : Nat) (x : Decoder) : (s.setDecoder d x).netUsed = s.netUsed := rfl
@[simp] theorem setDecoder_hwAt (d : Nat) (x : Decoder) : (s.setDecoder d x).hwAt = s.hwAt := rfl
@[simp] theorem setDecoder_bumps (d : Nat) (x : Decoder) : (s.setDecoder d x).bumps = s.bumps := rfl
@[simp] theorem setDecoder_bumpAt (d : Nat) (x : Decoder) : (s.setDecoder d x).bumpAt = s.bumpAt := rfl
@[simp] theorem setDecoder_rawRegs (d : Nat) (x : Decoder) : (s.setDecoder d x).rawRegs = s.rawRegs := rfl
@[simp] theorem setDecoder_bist (d : Nat) (x : Decoder) : (s.setDecoder d x).bist = s.bist := rfl
@[simp] theorem setDecoder_wantReady (d : Nat) (x : Decoder) : (s.setDecoder d x).wantReady = s.wantReady := rfl
@[simp] theorem setDecoder_stopCap (d : Nat) (x : Decoder) : (s.setDecoder d x).stopCap = s.stopCap := rfl
@[simp] theorem setDecoder_headSources (d : Nat) (x : Decoder) : (s.setDecoder d x).headSources = s.headSources := rfl
@[simp] theorem setDecoder_railWait (d : Nat) (x : Decoder) : (s.setDecoder d x).railWait = s.railWait := rfl
@[simp] theorem setDecoder_causes (d : Nat) (x : Decoder) : (s.setDecoder d x).causes = s.causes := rfl
@[simp] theorem setDecoder_resetLow (d : Nat) (x : Decoder) : (s.setDecoder d x).resetLow = s.resetLow := rfl
@[simp] theorem setDecoder_fromRetain (d : Nat) (x : Decoder) : (s.setDecoder d x).fromRetain = s.fromRetain := rfl
@[simp] theorem setDecoder_islandsDown (d : Nat) (x : Decoder) : (s.setDecoder d x).islandsDown = s.islandsDown := rfl
@[simp] theorem setDecoder_driftRaised (d : Nat) (x : Decoder) : (s.setDecoder d x).driftRaised = s.driftRaised := rfl
@[simp] theorem setDecoder_bistWasCut (d : Nat) (x : Decoder) : (s.setDecoder d x).bistWasCut = s.bistWasCut := rfl
@[simp] theorem setDecoder_testEn (d : Nat) (x : Decoder) : (s.setDecoder d x).testEn = s.testEn := rfl
@[simp] theorem setDecoder_tapIr (d : Nat) (x : Decoder) : (s.setDecoder d x).tapIr = s.tapIr := rfl
@[simp] theorem setDecoder_tapBoundary (d : Nat) (x : Decoder) : (s.setDecoder d x).tapBoundary = s.tapBoundary := rfl
@[simp] theorem setDecoder_strapPorts (d : Nat) (x : Decoder) : (s.setDecoder d x).strapPorts = s.strapPorts := rfl

/-! ### Core.setDma -/

@[simp] theorem setDma_clk (k : Nat) (x : DmaCh) : (s.setDma k x).clk = s.clk := rfl
@[simp] theorem setDma_ftAcc (k : Nat) (x : DmaCh) : (s.setDma k x).ftAcc = s.ftAcc := rfl
@[simp] theorem setDma_mode (k : Nat) (x : DmaCh) : (s.setDma k x).mode = s.mode := rfl
@[simp] theorem setDma_phase (k : Nat) (x : DmaCh) : (s.setDma k x).phase = s.phase := rfl
@[simp] theorem setDma_configReached (k : Nat) (x : DmaCh) : (s.setDma k x).configReached = s.configReached := rfl
@[simp] theorem setDma_objs (k : Nat) (x : DmaCh) : (s.setDma k x).objs = s.objs := rfl
@[simp] theorem setDma_comp (k : Nat) (x : DmaCh) : (s.setDma k x).comp = s.comp := rfl
@[simp] theorem setDma_dirty (k : Nat) (x : DmaCh) : (s.setDma k x).dirty = s.dirty := rfl
@[simp] theorem setDma_dirtySince (k : Nat) (x : DmaCh) : (s.setDma k x).dirtySince = s.dirtySince := rfl
@[simp] theorem setDma_journal (k : Nat) (x : DmaCh) : (s.setDma k x).journal = s.journal := rfl
@[simp] theorem setDma_journalFailing (k : Nat) (x : DmaCh) : (s.setDma k x).journalFailing = s.journalFailing := rfl
@[simp] theorem setDma_src (k : Nat) (x : DmaCh) : (s.setDma k x).src = s.src := rfl
@[simp] theorem setDma_log (k : Nat) (x : DmaCh) : (s.setDma k x).log = s.log := rfl
@[simp] theorem setDma_logRet (k : Nat) (x : DmaCh) : (s.setDma k x).logRet = s.logRet := rfl
@[simp] theorem setDma_alsoRaise (k : Nat) (x : DmaCh) : (s.setDma k x).alsoRaise = s.alsoRaise := rfl
@[simp] theorem setDma_safeSince (k : Nat) (x : DmaCh) : (s.setDma k x).safeSince = s.safeSince := rfl
@[simp] theorem setDma_wdogExpired (k : Nat) (x : DmaCh) : (s.setDma k x).wdogExpired = s.wdogExpired := rfl
@[simp] theorem setDma_sess (k : Nat) (x : DmaCh) : (s.setDma k x).sess = s.sess := rfl
@[simp] theorem setDma_txnId (k : Nat) (x : DmaCh) : (s.setDma k x).txnId = s.txnId := rfl
@[simp] theorem setDma_noSess (k : Nat) (x : DmaCh) : (s.setDma k x).noSess = s.noSess := rfl
@[simp] theorem setDma_stop (k : Nat) (x : DmaCh) : (s.setDma k x).stop = s.stop := rfl
@[simp] theorem setDma_out (k : Nat) (x : DmaCh) : (s.setDma k x).out = s.out := rfl
@[simp] theorem setDma_lastStatus (k : Nat) (x : DmaCh) : (s.setDma k x).lastStatus = s.lastStatus := rfl
@[simp] theorem setDma_timers (k : Nat) (x : DmaCh) : (s.setDma k x).timers = s.timers := rfl
@[simp] theorem setDma_freeCount (k : Nat) (x : DmaCh) : (s.setDma k x).freeCount = s.freeCount := rfl
@[simp] theorem setDma_chans (k : Nat) (x : DmaCh) : (s.setDma k x).chans = s.chans := rfl
@[simp] theorem setDma_tacks (k : Nat) (x : DmaCh) : (s.setDma k x).tacks = s.tacks := rfl
@[simp] theorem setDma_pred (k : Nat) (x : DmaCh) : (s.setDma k x).pred = s.pred := rfl
@[simp] theorem setDma_ports (k : Nat) (x : DmaCh) : (s.setDma k x).ports = s.ports := rfl
@[simp] theorem setDma_pages (k : Nat) (x : DmaCh) : (s.setDma k x).pages = s.pages := rfl
@[simp] theorem setDma_job (k : Nat) (x : DmaCh) : (s.setDma k x).job = s.job := rfl
@[simp] theorem setDma_staged (k : Nat) (x : DmaCh) : (s.setDma k x).staged = s.staged := rfl
@[simp] theorem setDma_decided (k : Nat) (x : DmaCh) : (s.setDma k x).decided = s.decided := rfl
@[simp] theorem setDma_hold (k : Nat) (x : DmaCh) : (s.setDma k x).hold = s.hold := rfl
@[simp] theorem setDma_spit (k : Nat) (x : DmaCh) : (s.setDma k x).spit = s.spit := rfl
@[simp] theorem setDma_colTop (k : Nat) (x : DmaCh) : (s.setDma k x).colTop = s.colTop := rfl
@[simp] theorem setDma_bobCycles (k : Nat) (x : DmaCh) : (s.setDma k x).bobCycles = s.bobCycles := rfl
@[simp] theorem setDma_lanes (k : Nat) (x : DmaCh) : (s.setDma k x).lanes = s.lanes := rfl
@[simp] theorem setDma_comet (k : Nat) (x : DmaCh) : (s.setDma k x).comet = s.comet := rfl
@[simp] theorem setDma_headStep (k : Nat) (x : DmaCh) : (s.setDma k x).headStep = s.headStep := rfl
@[simp] theorem setDma_fseq (k : Nat) (x : DmaCh) : (s.setDma k x).fseq = s.fseq := rfl
@[simp] theorem setDma_ringTx (k : Nat) (x : DmaCh) : (s.setDma k x).ringTx = s.ringTx := rfl
@[simp] theorem setDma_stage (k : Nat) (x : DmaCh) : (s.setDma k x).stage = s.stage := rfl
@[simp] theorem setDma_thimJ (k : Nat) (x : DmaCh) : (s.setDma k x).thimJ = s.thimJ := rfl
@[simp] theorem setDma_orphanAge (k : Nat) (x : DmaCh) : (s.setDma k x).orphanAge = s.orphanAge := rfl
@[simp] theorem setDma_measPending (k : Nat) (x : DmaCh) : (s.setDma k x).measPending = s.measPending := rfl
@[simp] theorem setDma_jsPending (k : Nat) (x : DmaCh) : (s.setDma k x).jsPending = s.jsPending := rfl
@[simp] theorem setDma_jsRunning (k : Nat) (x : DmaCh) : (s.setDma k x).jsRunning = s.jsRunning := rfl
@[simp] theorem setDma_jsStart (k : Nat) (x : DmaCh) : (s.setDma k x).jsStart = s.jsStart := rfl
@[simp] theorem setDma_afe (k : Nat) (x : DmaCh) : (s.setDma k x).afe = s.afe := rfl
@[simp] theorem setDma_afeRef (k : Nat) (x : DmaCh) : (s.setDma k x).afeRef = s.afeRef := rfl
@[simp] theorem setDma_meas (k : Nat) (x : DmaCh) : (s.setDma k x).meas = s.meas := rfl
@[simp] theorem setDma_prevTemp (k : Nat) (x : DmaCh) : (s.setDma k x).prevTemp = s.prevTemp := rfl
@[simp] theorem setDma_hsRuns (k : Nat) (x : DmaCh) : (s.setDma k x).hsRuns = s.hsRuns := rfl
@[simp] theorem setDma_slotKeys (k : Nat) (x : DmaCh) : (s.setDma k x).slotKeys = s.slotKeys := rfl
@[simp] theorem setDma_roleKeys (k : Nat) (x : DmaCh) : (s.setDma k x).roleKeys = s.roleKeys := rfl
@[simp] theorem setDma_sweepDead (k : Nat) (x : DmaCh) : (s.setDma k x).sweepDead = s.sweepDead := rfl
@[simp] theorem setDma_sweepOk (k : Nat) (x : DmaCh) : (s.setDma k x).sweepOk = s.sweepOk := rfl
@[simp] theorem setDma_ringSweep (k : Nat) (x : DmaCh) : (s.setDma k x).ringSweep = s.ringSweep := rfl
@[simp] theorem setDma_ringSweepLast (k : Nat) (x : DmaCh) : (s.setDma k x).ringSweepLast = s.ringSweepLast := rfl
@[simp] theorem setDma_doneTop (k : Nat) (x : DmaCh) : (s.setDma k x).doneTop = s.doneTop := rfl
@[simp] theorem setDma_decs (k : Nat) (x : DmaCh) : (s.setDma k x).decs = s.decs := rfl
@[simp] theorem setDma_stream (k : Nat) (x : DmaCh) : (s.setDma k x).stream = s.stream := rfl
@[simp] theorem setDma_measDue (k : Nat) (x : DmaCh) : (s.setDma k x).measDue = s.measDue := rfl
@[simp] theorem setDma_dma (k : Nat) (x : DmaCh) : (s.setDma k x).dma = Tab.set s.dma k x := rfl
@[simp] theorem setDma_dmaLast (k : Nat) (x : DmaCh) : (s.setDma k x).dmaLast = s.dmaLast := rfl
@[simp] theorem setDma_dmaTop (k : Nat) (x : DmaCh) : (s.setDma k x).dmaTop = s.dmaTop := rfl
@[simp] theorem setDma_badWords (k : Nat) (x : DmaCh) : (s.setDma k x).badWords = s.badWords := rfl
@[simp] theorem setDma_handing (k : Nat) (x : DmaCh) : (s.setDma k x).handing = s.handing := rfl
@[simp] theorem setDma_dramEcc (k : Nat) (x : DmaCh) : (s.setDma k x).dramEcc = s.dramEcc := rfl
@[simp] theorem setDma_basteNext (k : Nat) (x : DmaCh) : (s.setDma k x).basteNext = s.basteNext := rfl
@[simp] theorem setDma_basteTries (k : Nat) (x : DmaCh) : (s.setDma k x).basteTries = s.basteTries := rfl
@[simp] theorem setDma_basteAt (k : Nat) (x : DmaCh) : (s.setDma k x).basteAt = s.basteAt := rfl
@[simp] theorem setDma_basteDone (k : Nat) (x : DmaCh) : (s.setDma k x).basteDone = s.basteDone := rfl
@[simp] theorem setDma_mot (k : Nat) (x : DmaCh) : (s.setDma k x).mot = s.mot := rfl
@[simp] theorem setDma_ring (k : Nat) (x : DmaCh) : (s.setDma k x).ring = s.ring := rfl
@[simp] theorem setDma_ptp (k : Nat) (x : DmaCh) : (s.setDma k x).ptp = s.ptp := rfl
@[simp] theorem setDma_pair (k : Nat) (x : DmaCh) : (s.setDma k x).pair = s.pair := rfl
@[simp] theorem setDma_netUsed (k : Nat) (x : DmaCh) : (s.setDma k x).netUsed = s.netUsed := rfl
@[simp] theorem setDma_hwAt (k : Nat) (x : DmaCh) : (s.setDma k x).hwAt = s.hwAt := rfl
@[simp] theorem setDma_bumps (k : Nat) (x : DmaCh) : (s.setDma k x).bumps = s.bumps := rfl
@[simp] theorem setDma_bumpAt (k : Nat) (x : DmaCh) : (s.setDma k x).bumpAt = s.bumpAt := rfl
@[simp] theorem setDma_rawRegs (k : Nat) (x : DmaCh) : (s.setDma k x).rawRegs = s.rawRegs := rfl
@[simp] theorem setDma_bist (k : Nat) (x : DmaCh) : (s.setDma k x).bist = s.bist := rfl
@[simp] theorem setDma_wantReady (k : Nat) (x : DmaCh) : (s.setDma k x).wantReady = s.wantReady := rfl
@[simp] theorem setDma_stopCap (k : Nat) (x : DmaCh) : (s.setDma k x).stopCap = s.stopCap := rfl
@[simp] theorem setDma_headSources (k : Nat) (x : DmaCh) : (s.setDma k x).headSources = s.headSources := rfl
@[simp] theorem setDma_railWait (k : Nat) (x : DmaCh) : (s.setDma k x).railWait = s.railWait := rfl
@[simp] theorem setDma_causes (k : Nat) (x : DmaCh) : (s.setDma k x).causes = s.causes := rfl
@[simp] theorem setDma_resetLow (k : Nat) (x : DmaCh) : (s.setDma k x).resetLow = s.resetLow := rfl
@[simp] theorem setDma_fromRetain (k : Nat) (x : DmaCh) : (s.setDma k x).fromRetain = s.fromRetain := rfl
@[simp] theorem setDma_islandsDown (k : Nat) (x : DmaCh) : (s.setDma k x).islandsDown = s.islandsDown := rfl
@[simp] theorem setDma_driftRaised (k : Nat) (x : DmaCh) : (s.setDma k x).driftRaised = s.driftRaised := rfl
@[simp] theorem setDma_bistWasCut (k : Nat) (x : DmaCh) : (s.setDma k x).bistWasCut = s.bistWasCut := rfl
@[simp] theorem setDma_testEn (k : Nat) (x : DmaCh) : (s.setDma k x).testEn = s.testEn := rfl
@[simp] theorem setDma_tapIr (k : Nat) (x : DmaCh) : (s.setDma k x).tapIr = s.tapIr := rfl
@[simp] theorem setDma_tapBoundary (k : Nat) (x : DmaCh) : (s.setDma k x).tapBoundary = s.tapBoundary := rfl
@[simp] theorem setDma_strapPorts (k : Nat) (x : DmaCh) : (s.setDma k x).strapPorts = s.strapPorts := rfl

/-! ### Core.setAfe -/

@[simp] theorem setAfe_clk (k : Nat) (x : Afe) : (s.setAfe k x).clk = s.clk := rfl
@[simp] theorem setAfe_ftAcc (k : Nat) (x : Afe) : (s.setAfe k x).ftAcc = s.ftAcc := rfl
@[simp] theorem setAfe_mode (k : Nat) (x : Afe) : (s.setAfe k x).mode = s.mode := rfl
@[simp] theorem setAfe_phase (k : Nat) (x : Afe) : (s.setAfe k x).phase = s.phase := rfl
@[simp] theorem setAfe_configReached (k : Nat) (x : Afe) : (s.setAfe k x).configReached = s.configReached := rfl
@[simp] theorem setAfe_objs (k : Nat) (x : Afe) : (s.setAfe k x).objs = s.objs := rfl
@[simp] theorem setAfe_comp (k : Nat) (x : Afe) : (s.setAfe k x).comp = s.comp := rfl
@[simp] theorem setAfe_dirty (k : Nat) (x : Afe) : (s.setAfe k x).dirty = s.dirty := rfl
@[simp] theorem setAfe_dirtySince (k : Nat) (x : Afe) : (s.setAfe k x).dirtySince = s.dirtySince := rfl
@[simp] theorem setAfe_journal (k : Nat) (x : Afe) : (s.setAfe k x).journal = s.journal := rfl
@[simp] theorem setAfe_journalFailing (k : Nat) (x : Afe) : (s.setAfe k x).journalFailing = s.journalFailing := rfl
@[simp] theorem setAfe_src (k : Nat) (x : Afe) : (s.setAfe k x).src = s.src := rfl
@[simp] theorem setAfe_log (k : Nat) (x : Afe) : (s.setAfe k x).log = s.log := rfl
@[simp] theorem setAfe_logRet (k : Nat) (x : Afe) : (s.setAfe k x).logRet = s.logRet := rfl
@[simp] theorem setAfe_alsoRaise (k : Nat) (x : Afe) : (s.setAfe k x).alsoRaise = s.alsoRaise := rfl
@[simp] theorem setAfe_safeSince (k : Nat) (x : Afe) : (s.setAfe k x).safeSince = s.safeSince := rfl
@[simp] theorem setAfe_wdogExpired (k : Nat) (x : Afe) : (s.setAfe k x).wdogExpired = s.wdogExpired := rfl
@[simp] theorem setAfe_sess (k : Nat) (x : Afe) : (s.setAfe k x).sess = s.sess := rfl
@[simp] theorem setAfe_txnId (k : Nat) (x : Afe) : (s.setAfe k x).txnId = s.txnId := rfl
@[simp] theorem setAfe_noSess (k : Nat) (x : Afe) : (s.setAfe k x).noSess = s.noSess := rfl
@[simp] theorem setAfe_stop (k : Nat) (x : Afe) : (s.setAfe k x).stop = s.stop := rfl
@[simp] theorem setAfe_out (k : Nat) (x : Afe) : (s.setAfe k x).out = s.out := rfl
@[simp] theorem setAfe_lastStatus (k : Nat) (x : Afe) : (s.setAfe k x).lastStatus = s.lastStatus := rfl
@[simp] theorem setAfe_timers (k : Nat) (x : Afe) : (s.setAfe k x).timers = s.timers := rfl
@[simp] theorem setAfe_freeCount (k : Nat) (x : Afe) : (s.setAfe k x).freeCount = s.freeCount := rfl
@[simp] theorem setAfe_chans (k : Nat) (x : Afe) : (s.setAfe k x).chans = s.chans := rfl
@[simp] theorem setAfe_tacks (k : Nat) (x : Afe) : (s.setAfe k x).tacks = s.tacks := rfl
@[simp] theorem setAfe_pred (k : Nat) (x : Afe) : (s.setAfe k x).pred = s.pred := rfl
@[simp] theorem setAfe_ports (k : Nat) (x : Afe) : (s.setAfe k x).ports = s.ports := rfl
@[simp] theorem setAfe_pages (k : Nat) (x : Afe) : (s.setAfe k x).pages = s.pages := rfl
@[simp] theorem setAfe_job (k : Nat) (x : Afe) : (s.setAfe k x).job = s.job := rfl
@[simp] theorem setAfe_staged (k : Nat) (x : Afe) : (s.setAfe k x).staged = s.staged := rfl
@[simp] theorem setAfe_decided (k : Nat) (x : Afe) : (s.setAfe k x).decided = s.decided := rfl
@[simp] theorem setAfe_hold (k : Nat) (x : Afe) : (s.setAfe k x).hold = s.hold := rfl
@[simp] theorem setAfe_spit (k : Nat) (x : Afe) : (s.setAfe k x).spit = s.spit := rfl
@[simp] theorem setAfe_colTop (k : Nat) (x : Afe) : (s.setAfe k x).colTop = s.colTop := rfl
@[simp] theorem setAfe_bobCycles (k : Nat) (x : Afe) : (s.setAfe k x).bobCycles = s.bobCycles := rfl
@[simp] theorem setAfe_lanes (k : Nat) (x : Afe) : (s.setAfe k x).lanes = s.lanes := rfl
@[simp] theorem setAfe_comet (k : Nat) (x : Afe) : (s.setAfe k x).comet = s.comet := rfl
@[simp] theorem setAfe_headStep (k : Nat) (x : Afe) : (s.setAfe k x).headStep = s.headStep := rfl
@[simp] theorem setAfe_fseq (k : Nat) (x : Afe) : (s.setAfe k x).fseq = s.fseq := rfl
@[simp] theorem setAfe_ringTx (k : Nat) (x : Afe) : (s.setAfe k x).ringTx = s.ringTx := rfl
@[simp] theorem setAfe_stage (k : Nat) (x : Afe) : (s.setAfe k x).stage = s.stage := rfl
@[simp] theorem setAfe_thimJ (k : Nat) (x : Afe) : (s.setAfe k x).thimJ = s.thimJ := rfl
@[simp] theorem setAfe_orphanAge (k : Nat) (x : Afe) : (s.setAfe k x).orphanAge = s.orphanAge := rfl
@[simp] theorem setAfe_measPending (k : Nat) (x : Afe) : (s.setAfe k x).measPending = s.measPending := rfl
@[simp] theorem setAfe_jsPending (k : Nat) (x : Afe) : (s.setAfe k x).jsPending = s.jsPending := rfl
@[simp] theorem setAfe_jsRunning (k : Nat) (x : Afe) : (s.setAfe k x).jsRunning = s.jsRunning := rfl
@[simp] theorem setAfe_jsStart (k : Nat) (x : Afe) : (s.setAfe k x).jsStart = s.jsStart := rfl
@[simp] theorem setAfe_afe (k : Nat) (x : Afe) : (s.setAfe k x).afe = Tab.set s.afe k x := rfl
@[simp] theorem setAfe_afeRef (k : Nat) (x : Afe) : (s.setAfe k x).afeRef = s.afeRef := rfl
@[simp] theorem setAfe_meas (k : Nat) (x : Afe) : (s.setAfe k x).meas = s.meas := rfl
@[simp] theorem setAfe_prevTemp (k : Nat) (x : Afe) : (s.setAfe k x).prevTemp = s.prevTemp := rfl
@[simp] theorem setAfe_hsRuns (k : Nat) (x : Afe) : (s.setAfe k x).hsRuns = s.hsRuns := rfl
@[simp] theorem setAfe_slotKeys (k : Nat) (x : Afe) : (s.setAfe k x).slotKeys = s.slotKeys := rfl
@[simp] theorem setAfe_roleKeys (k : Nat) (x : Afe) : (s.setAfe k x).roleKeys = s.roleKeys := rfl
@[simp] theorem setAfe_sweepDead (k : Nat) (x : Afe) : (s.setAfe k x).sweepDead = s.sweepDead := rfl
@[simp] theorem setAfe_sweepOk (k : Nat) (x : Afe) : (s.setAfe k x).sweepOk = s.sweepOk := rfl
@[simp] theorem setAfe_ringSweep (k : Nat) (x : Afe) : (s.setAfe k x).ringSweep = s.ringSweep := rfl
@[simp] theorem setAfe_ringSweepLast (k : Nat) (x : Afe) : (s.setAfe k x).ringSweepLast = s.ringSweepLast := rfl
@[simp] theorem setAfe_doneTop (k : Nat) (x : Afe) : (s.setAfe k x).doneTop = s.doneTop := rfl
@[simp] theorem setAfe_decs (k : Nat) (x : Afe) : (s.setAfe k x).decs = s.decs := rfl
@[simp] theorem setAfe_stream (k : Nat) (x : Afe) : (s.setAfe k x).stream = s.stream := rfl
@[simp] theorem setAfe_measDue (k : Nat) (x : Afe) : (s.setAfe k x).measDue = s.measDue := rfl
@[simp] theorem setAfe_dma (k : Nat) (x : Afe) : (s.setAfe k x).dma = s.dma := rfl
@[simp] theorem setAfe_dmaLast (k : Nat) (x : Afe) : (s.setAfe k x).dmaLast = s.dmaLast := rfl
@[simp] theorem setAfe_dmaTop (k : Nat) (x : Afe) : (s.setAfe k x).dmaTop = s.dmaTop := rfl
@[simp] theorem setAfe_badWords (k : Nat) (x : Afe) : (s.setAfe k x).badWords = s.badWords := rfl
@[simp] theorem setAfe_handing (k : Nat) (x : Afe) : (s.setAfe k x).handing = s.handing := rfl
@[simp] theorem setAfe_dramEcc (k : Nat) (x : Afe) : (s.setAfe k x).dramEcc = s.dramEcc := rfl
@[simp] theorem setAfe_basteNext (k : Nat) (x : Afe) : (s.setAfe k x).basteNext = s.basteNext := rfl
@[simp] theorem setAfe_basteTries (k : Nat) (x : Afe) : (s.setAfe k x).basteTries = s.basteTries := rfl
@[simp] theorem setAfe_basteAt (k : Nat) (x : Afe) : (s.setAfe k x).basteAt = s.basteAt := rfl
@[simp] theorem setAfe_basteDone (k : Nat) (x : Afe) : (s.setAfe k x).basteDone = s.basteDone := rfl
@[simp] theorem setAfe_mot (k : Nat) (x : Afe) : (s.setAfe k x).mot = s.mot := rfl
@[simp] theorem setAfe_ring (k : Nat) (x : Afe) : (s.setAfe k x).ring = s.ring := rfl
@[simp] theorem setAfe_ptp (k : Nat) (x : Afe) : (s.setAfe k x).ptp = s.ptp := rfl
@[simp] theorem setAfe_pair (k : Nat) (x : Afe) : (s.setAfe k x).pair = s.pair := rfl
@[simp] theorem setAfe_netUsed (k : Nat) (x : Afe) : (s.setAfe k x).netUsed = s.netUsed := rfl
@[simp] theorem setAfe_hwAt (k : Nat) (x : Afe) : (s.setAfe k x).hwAt = s.hwAt := rfl
@[simp] theorem setAfe_bumps (k : Nat) (x : Afe) : (s.setAfe k x).bumps = s.bumps := rfl
@[simp] theorem setAfe_bumpAt (k : Nat) (x : Afe) : (s.setAfe k x).bumpAt = s.bumpAt := rfl
@[simp] theorem setAfe_rawRegs (k : Nat) (x : Afe) : (s.setAfe k x).rawRegs = s.rawRegs := rfl
@[simp] theorem setAfe_bist (k : Nat) (x : Afe) : (s.setAfe k x).bist = s.bist := rfl
@[simp] theorem setAfe_wantReady (k : Nat) (x : Afe) : (s.setAfe k x).wantReady = s.wantReady := rfl
@[simp] theorem setAfe_stopCap (k : Nat) (x : Afe) : (s.setAfe k x).stopCap = s.stopCap := rfl
@[simp] theorem setAfe_headSources (k : Nat) (x : Afe) : (s.setAfe k x).headSources = s.headSources := rfl
@[simp] theorem setAfe_railWait (k : Nat) (x : Afe) : (s.setAfe k x).railWait = s.railWait := rfl
@[simp] theorem setAfe_causes (k : Nat) (x : Afe) : (s.setAfe k x).causes = s.causes := rfl
@[simp] theorem setAfe_resetLow (k : Nat) (x : Afe) : (s.setAfe k x).resetLow = s.resetLow := rfl
@[simp] theorem setAfe_fromRetain (k : Nat) (x : Afe) : (s.setAfe k x).fromRetain = s.fromRetain := rfl
@[simp] theorem setAfe_islandsDown (k : Nat) (x : Afe) : (s.setAfe k x).islandsDown = s.islandsDown := rfl
@[simp] theorem setAfe_driftRaised (k : Nat) (x : Afe) : (s.setAfe k x).driftRaised = s.driftRaised := rfl
@[simp] theorem setAfe_bistWasCut (k : Nat) (x : Afe) : (s.setAfe k x).bistWasCut = s.bistWasCut := rfl
@[simp] theorem setAfe_testEn (k : Nat) (x : Afe) : (s.setAfe k x).testEn = s.testEn := rfl
@[simp] theorem setAfe_tapIr (k : Nat) (x : Afe) : (s.setAfe k x).tapIr = s.tapIr := rfl
@[simp] theorem setAfe_tapBoundary (k : Nat) (x : Afe) : (s.setAfe k x).tapBoundary = s.tapBoundary := rfl
@[simp] theorem setAfe_strapPorts (k : Nat) (x : Afe) : (s.setAfe k x).strapPorts = s.strapPorts := rfl

/-! ### Core.setAxis -/

@[simp] theorem setAxis_clk (a : Nat) (x : Axis) : (s.setAxis a x).clk = s.clk := rfl
@[simp] theorem setAxis_ftAcc (a : Nat) (x : Axis) : (s.setAxis a x).ftAcc = s.ftAcc := rfl
@[simp] theorem setAxis_mode (a : Nat) (x : Axis) : (s.setAxis a x).mode = s.mode := rfl
@[simp] theorem setAxis_phase (a : Nat) (x : Axis) : (s.setAxis a x).phase = s.phase := rfl
@[simp] theorem setAxis_configReached (a : Nat) (x : Axis) : (s.setAxis a x).configReached = s.configReached := rfl
@[simp] theorem setAxis_objs (a : Nat) (x : Axis) : (s.setAxis a x).objs = s.objs := rfl
@[simp] theorem setAxis_comp (a : Nat) (x : Axis) : (s.setAxis a x).comp = s.comp := rfl
@[simp] theorem setAxis_dirty (a : Nat) (x : Axis) : (s.setAxis a x).dirty = s.dirty := rfl
@[simp] theorem setAxis_dirtySince (a : Nat) (x : Axis) : (s.setAxis a x).dirtySince = s.dirtySince := rfl
@[simp] theorem setAxis_journal (a : Nat) (x : Axis) : (s.setAxis a x).journal = s.journal := rfl
@[simp] theorem setAxis_journalFailing (a : Nat) (x : Axis) : (s.setAxis a x).journalFailing = s.journalFailing := rfl
@[simp] theorem setAxis_src (a : Nat) (x : Axis) : (s.setAxis a x).src = s.src := rfl
@[simp] theorem setAxis_log (a : Nat) (x : Axis) : (s.setAxis a x).log = s.log := rfl
@[simp] theorem setAxis_logRet (a : Nat) (x : Axis) : (s.setAxis a x).logRet = s.logRet := rfl
@[simp] theorem setAxis_alsoRaise (a : Nat) (x : Axis) : (s.setAxis a x).alsoRaise = s.alsoRaise := rfl
@[simp] theorem setAxis_safeSince (a : Nat) (x : Axis) : (s.setAxis a x).safeSince = s.safeSince := rfl
@[simp] theorem setAxis_wdogExpired (a : Nat) (x : Axis) : (s.setAxis a x).wdogExpired = s.wdogExpired := rfl
@[simp] theorem setAxis_sess (a : Nat) (x : Axis) : (s.setAxis a x).sess = s.sess := rfl
@[simp] theorem setAxis_txnId (a : Nat) (x : Axis) : (s.setAxis a x).txnId = s.txnId := rfl
@[simp] theorem setAxis_noSess (a : Nat) (x : Axis) : (s.setAxis a x).noSess = s.noSess := rfl
@[simp] theorem setAxis_stop (a : Nat) (x : Axis) : (s.setAxis a x).stop = s.stop := rfl
@[simp] theorem setAxis_out (a : Nat) (x : Axis) : (s.setAxis a x).out = s.out := rfl
@[simp] theorem setAxis_lastStatus (a : Nat) (x : Axis) : (s.setAxis a x).lastStatus = s.lastStatus := rfl
@[simp] theorem setAxis_timers (a : Nat) (x : Axis) : (s.setAxis a x).timers = s.timers := rfl
@[simp] theorem setAxis_freeCount (a : Nat) (x : Axis) : (s.setAxis a x).freeCount = s.freeCount := rfl
@[simp] theorem setAxis_chans (a : Nat) (x : Axis) : (s.setAxis a x).chans = s.chans := rfl
@[simp] theorem setAxis_tacks (a : Nat) (x : Axis) : (s.setAxis a x).tacks = s.tacks := rfl
@[simp] theorem setAxis_pred (a : Nat) (x : Axis) : (s.setAxis a x).pred = s.pred := rfl
@[simp] theorem setAxis_ports (a : Nat) (x : Axis) : (s.setAxis a x).ports = s.ports := rfl
@[simp] theorem setAxis_pages (a : Nat) (x : Axis) : (s.setAxis a x).pages = s.pages := rfl
@[simp] theorem setAxis_job (a : Nat) (x : Axis) : (s.setAxis a x).job = s.job := rfl
@[simp] theorem setAxis_staged (a : Nat) (x : Axis) : (s.setAxis a x).staged = s.staged := rfl
@[simp] theorem setAxis_decided (a : Nat) (x : Axis) : (s.setAxis a x).decided = s.decided := rfl
@[simp] theorem setAxis_hold (a : Nat) (x : Axis) : (s.setAxis a x).hold = s.hold := rfl
@[simp] theorem setAxis_spit (a : Nat) (x : Axis) : (s.setAxis a x).spit = s.spit := rfl
@[simp] theorem setAxis_colTop (a : Nat) (x : Axis) : (s.setAxis a x).colTop = s.colTop := rfl
@[simp] theorem setAxis_bobCycles (a : Nat) (x : Axis) : (s.setAxis a x).bobCycles = s.bobCycles := rfl
@[simp] theorem setAxis_lanes (a : Nat) (x : Axis) : (s.setAxis a x).lanes = s.lanes := rfl
@[simp] theorem setAxis_comet (a : Nat) (x : Axis) : (s.setAxis a x).comet = s.comet := rfl
@[simp] theorem setAxis_headStep (a : Nat) (x : Axis) : (s.setAxis a x).headStep = s.headStep := rfl
@[simp] theorem setAxis_fseq (a : Nat) (x : Axis) : (s.setAxis a x).fseq = s.fseq := rfl
@[simp] theorem setAxis_ringTx (a : Nat) (x : Axis) : (s.setAxis a x).ringTx = s.ringTx := rfl
@[simp] theorem setAxis_stage (a : Nat) (x : Axis) : (s.setAxis a x).stage = s.stage := rfl
@[simp] theorem setAxis_thimJ (a : Nat) (x : Axis) : (s.setAxis a x).thimJ = s.thimJ := rfl
@[simp] theorem setAxis_orphanAge (a : Nat) (x : Axis) : (s.setAxis a x).orphanAge = s.orphanAge := rfl
@[simp] theorem setAxis_measPending (a : Nat) (x : Axis) : (s.setAxis a x).measPending = s.measPending := rfl
@[simp] theorem setAxis_jsPending (a : Nat) (x : Axis) : (s.setAxis a x).jsPending = s.jsPending := rfl
@[simp] theorem setAxis_jsRunning (a : Nat) (x : Axis) : (s.setAxis a x).jsRunning = s.jsRunning := rfl
@[simp] theorem setAxis_jsStart (a : Nat) (x : Axis) : (s.setAxis a x).jsStart = s.jsStart := rfl
@[simp] theorem setAxis_afe (a : Nat) (x : Axis) : (s.setAxis a x).afe = s.afe := rfl
@[simp] theorem setAxis_afeRef (a : Nat) (x : Axis) : (s.setAxis a x).afeRef = s.afeRef := rfl
@[simp] theorem setAxis_meas (a : Nat) (x : Axis) : (s.setAxis a x).meas = s.meas := rfl
@[simp] theorem setAxis_prevTemp (a : Nat) (x : Axis) : (s.setAxis a x).prevTemp = s.prevTemp := rfl
@[simp] theorem setAxis_hsRuns (a : Nat) (x : Axis) : (s.setAxis a x).hsRuns = s.hsRuns := rfl
@[simp] theorem setAxis_slotKeys (a : Nat) (x : Axis) : (s.setAxis a x).slotKeys = s.slotKeys := rfl
@[simp] theorem setAxis_roleKeys (a : Nat) (x : Axis) : (s.setAxis a x).roleKeys = s.roleKeys := rfl
@[simp] theorem setAxis_sweepDead (a : Nat) (x : Axis) : (s.setAxis a x).sweepDead = s.sweepDead := rfl
@[simp] theorem setAxis_sweepOk (a : Nat) (x : Axis) : (s.setAxis a x).sweepOk = s.sweepOk := rfl
@[simp] theorem setAxis_ringSweep (a : Nat) (x : Axis) : (s.setAxis a x).ringSweep = s.ringSweep := rfl
@[simp] theorem setAxis_ringSweepLast (a : Nat) (x : Axis) : (s.setAxis a x).ringSweepLast = s.ringSweepLast := rfl
@[simp] theorem setAxis_doneTop (a : Nat) (x : Axis) : (s.setAxis a x).doneTop = s.doneTop := rfl
@[simp] theorem setAxis_decs (a : Nat) (x : Axis) : (s.setAxis a x).decs = s.decs := rfl
@[simp] theorem setAxis_stream (a : Nat) (x : Axis) : (s.setAxis a x).stream = s.stream := rfl
@[simp] theorem setAxis_measDue (a : Nat) (x : Axis) : (s.setAxis a x).measDue = s.measDue := rfl
@[simp] theorem setAxis_dma (a : Nat) (x : Axis) : (s.setAxis a x).dma = s.dma := rfl
@[simp] theorem setAxis_dmaLast (a : Nat) (x : Axis) : (s.setAxis a x).dmaLast = s.dmaLast := rfl
@[simp] theorem setAxis_dmaTop (a : Nat) (x : Axis) : (s.setAxis a x).dmaTop = s.dmaTop := rfl
@[simp] theorem setAxis_badWords (a : Nat) (x : Axis) : (s.setAxis a x).badWords = s.badWords := rfl
@[simp] theorem setAxis_handing (a : Nat) (x : Axis) : (s.setAxis a x).handing = s.handing := rfl
@[simp] theorem setAxis_dramEcc (a : Nat) (x : Axis) : (s.setAxis a x).dramEcc = s.dramEcc := rfl
@[simp] theorem setAxis_basteNext (a : Nat) (x : Axis) : (s.setAxis a x).basteNext = s.basteNext := rfl
@[simp] theorem setAxis_basteTries (a : Nat) (x : Axis) : (s.setAxis a x).basteTries = s.basteTries := rfl
@[simp] theorem setAxis_basteAt (a : Nat) (x : Axis) : (s.setAxis a x).basteAt = s.basteAt := rfl
@[simp] theorem setAxis_basteDone (a : Nat) (x : Axis) : (s.setAxis a x).basteDone = s.basteDone := rfl
@[simp] theorem setAxis_ring (a : Nat) (x : Axis) : (s.setAxis a x).ring = s.ring := rfl
@[simp] theorem setAxis_ptp (a : Nat) (x : Axis) : (s.setAxis a x).ptp = s.ptp := rfl
@[simp] theorem setAxis_pair (a : Nat) (x : Axis) : (s.setAxis a x).pair = s.pair := rfl
@[simp] theorem setAxis_netUsed (a : Nat) (x : Axis) : (s.setAxis a x).netUsed = s.netUsed := rfl
@[simp] theorem setAxis_hwAt (a : Nat) (x : Axis) : (s.setAxis a x).hwAt = s.hwAt := rfl
@[simp] theorem setAxis_bumps (a : Nat) (x : Axis) : (s.setAxis a x).bumps = s.bumps := rfl
@[simp] theorem setAxis_bumpAt (a : Nat) (x : Axis) : (s.setAxis a x).bumpAt = s.bumpAt := rfl
@[simp] theorem setAxis_rawRegs (a : Nat) (x : Axis) : (s.setAxis a x).rawRegs = s.rawRegs := rfl
@[simp] theorem setAxis_bist (a : Nat) (x : Axis) : (s.setAxis a x).bist = s.bist := rfl
@[simp] theorem setAxis_wantReady (a : Nat) (x : Axis) : (s.setAxis a x).wantReady = s.wantReady := rfl
@[simp] theorem setAxis_stopCap (a : Nat) (x : Axis) : (s.setAxis a x).stopCap = s.stopCap := rfl
@[simp] theorem setAxis_headSources (a : Nat) (x : Axis) : (s.setAxis a x).headSources = s.headSources := rfl
@[simp] theorem setAxis_railWait (a : Nat) (x : Axis) : (s.setAxis a x).railWait = s.railWait := rfl
@[simp] theorem setAxis_causes (a : Nat) (x : Axis) : (s.setAxis a x).causes = s.causes := rfl
@[simp] theorem setAxis_resetLow (a : Nat) (x : Axis) : (s.setAxis a x).resetLow = s.resetLow := rfl
@[simp] theorem setAxis_fromRetain (a : Nat) (x : Axis) : (s.setAxis a x).fromRetain = s.fromRetain := rfl
@[simp] theorem setAxis_islandsDown (a : Nat) (x : Axis) : (s.setAxis a x).islandsDown = s.islandsDown := rfl
@[simp] theorem setAxis_driftRaised (a : Nat) (x : Axis) : (s.setAxis a x).driftRaised = s.driftRaised := rfl
@[simp] theorem setAxis_bistWasCut (a : Nat) (x : Axis) : (s.setAxis a x).bistWasCut = s.bistWasCut := rfl
@[simp] theorem setAxis_testEn (a : Nat) (x : Axis) : (s.setAxis a x).testEn = s.testEn := rfl
@[simp] theorem setAxis_tapIr (a : Nat) (x : Axis) : (s.setAxis a x).tapIr = s.tapIr := rfl
@[simp] theorem setAxis_tapBoundary (a : Nat) (x : Axis) : (s.setAxis a x).tapBoundary = s.tapBoundary := rfl
@[simp] theorem setAxis_strapPorts (a : Nat) (x : Axis) : (s.setAxis a x).strapPorts = s.strapPorts := rfl

/-! ### Core.updRing -/

@[simp] theorem updRing_clk (f : Ring → Ring) : (s.updRing f).clk = s.clk := rfl
@[simp] theorem updRing_ftAcc (f : Ring → Ring) : (s.updRing f).ftAcc = s.ftAcc := rfl
@[simp] theorem updRing_mode (f : Ring → Ring) : (s.updRing f).mode = s.mode := rfl
@[simp] theorem updRing_phase (f : Ring → Ring) : (s.updRing f).phase = s.phase := rfl
@[simp] theorem updRing_configReached (f : Ring → Ring) : (s.updRing f).configReached = s.configReached := rfl
@[simp] theorem updRing_objs (f : Ring → Ring) : (s.updRing f).objs = s.objs := rfl
@[simp] theorem updRing_comp (f : Ring → Ring) : (s.updRing f).comp = s.comp := rfl
@[simp] theorem updRing_dirty (f : Ring → Ring) : (s.updRing f).dirty = s.dirty := rfl
@[simp] theorem updRing_dirtySince (f : Ring → Ring) : (s.updRing f).dirtySince = s.dirtySince := rfl
@[simp] theorem updRing_journal (f : Ring → Ring) : (s.updRing f).journal = s.journal := rfl
@[simp] theorem updRing_journalFailing (f : Ring → Ring) : (s.updRing f).journalFailing = s.journalFailing := rfl
@[simp] theorem updRing_src (f : Ring → Ring) : (s.updRing f).src = s.src := rfl
@[simp] theorem updRing_log (f : Ring → Ring) : (s.updRing f).log = s.log := rfl
@[simp] theorem updRing_logRet (f : Ring → Ring) : (s.updRing f).logRet = s.logRet := rfl
@[simp] theorem updRing_alsoRaise (f : Ring → Ring) : (s.updRing f).alsoRaise = s.alsoRaise := rfl
@[simp] theorem updRing_safeSince (f : Ring → Ring) : (s.updRing f).safeSince = s.safeSince := rfl
@[simp] theorem updRing_wdogExpired (f : Ring → Ring) : (s.updRing f).wdogExpired = s.wdogExpired := rfl
@[simp] theorem updRing_sess (f : Ring → Ring) : (s.updRing f).sess = s.sess := rfl
@[simp] theorem updRing_txnId (f : Ring → Ring) : (s.updRing f).txnId = s.txnId := rfl
@[simp] theorem updRing_noSess (f : Ring → Ring) : (s.updRing f).noSess = s.noSess := rfl
@[simp] theorem updRing_stop (f : Ring → Ring) : (s.updRing f).stop = s.stop := rfl
@[simp] theorem updRing_out (f : Ring → Ring) : (s.updRing f).out = s.out := rfl
@[simp] theorem updRing_lastStatus (f : Ring → Ring) : (s.updRing f).lastStatus = s.lastStatus := rfl
@[simp] theorem updRing_timers (f : Ring → Ring) : (s.updRing f).timers = s.timers := rfl
@[simp] theorem updRing_freeCount (f : Ring → Ring) : (s.updRing f).freeCount = s.freeCount := rfl
@[simp] theorem updRing_chans (f : Ring → Ring) : (s.updRing f).chans = s.chans := rfl
@[simp] theorem updRing_tacks (f : Ring → Ring) : (s.updRing f).tacks = s.tacks := rfl
@[simp] theorem updRing_pred (f : Ring → Ring) : (s.updRing f).pred = s.pred := rfl
@[simp] theorem updRing_ports (f : Ring → Ring) : (s.updRing f).ports = s.ports := rfl
@[simp] theorem updRing_pages (f : Ring → Ring) : (s.updRing f).pages = s.pages := rfl
@[simp] theorem updRing_job (f : Ring → Ring) : (s.updRing f).job = s.job := rfl
@[simp] theorem updRing_staged (f : Ring → Ring) : (s.updRing f).staged = s.staged := rfl
@[simp] theorem updRing_decided (f : Ring → Ring) : (s.updRing f).decided = s.decided := rfl
@[simp] theorem updRing_hold (f : Ring → Ring) : (s.updRing f).hold = s.hold := rfl
@[simp] theorem updRing_spit (f : Ring → Ring) : (s.updRing f).spit = s.spit := rfl
@[simp] theorem updRing_colTop (f : Ring → Ring) : (s.updRing f).colTop = s.colTop := rfl
@[simp] theorem updRing_bobCycles (f : Ring → Ring) : (s.updRing f).bobCycles = s.bobCycles := rfl
@[simp] theorem updRing_lanes (f : Ring → Ring) : (s.updRing f).lanes = s.lanes := rfl
@[simp] theorem updRing_comet (f : Ring → Ring) : (s.updRing f).comet = s.comet := rfl
@[simp] theorem updRing_headStep (f : Ring → Ring) : (s.updRing f).headStep = s.headStep := rfl
@[simp] theorem updRing_fseq (f : Ring → Ring) : (s.updRing f).fseq = s.fseq := rfl
@[simp] theorem updRing_ringTx (f : Ring → Ring) : (s.updRing f).ringTx = s.ringTx := rfl
@[simp] theorem updRing_stage (f : Ring → Ring) : (s.updRing f).stage = s.stage := rfl
@[simp] theorem updRing_thimJ (f : Ring → Ring) : (s.updRing f).thimJ = s.thimJ := rfl
@[simp] theorem updRing_orphanAge (f : Ring → Ring) : (s.updRing f).orphanAge = s.orphanAge := rfl
@[simp] theorem updRing_measPending (f : Ring → Ring) : (s.updRing f).measPending = s.measPending := rfl
@[simp] theorem updRing_jsPending (f : Ring → Ring) : (s.updRing f).jsPending = s.jsPending := rfl
@[simp] theorem updRing_jsRunning (f : Ring → Ring) : (s.updRing f).jsRunning = s.jsRunning := rfl
@[simp] theorem updRing_jsStart (f : Ring → Ring) : (s.updRing f).jsStart = s.jsStart := rfl
@[simp] theorem updRing_afe (f : Ring → Ring) : (s.updRing f).afe = s.afe := rfl
@[simp] theorem updRing_afeRef (f : Ring → Ring) : (s.updRing f).afeRef = s.afeRef := rfl
@[simp] theorem updRing_meas (f : Ring → Ring) : (s.updRing f).meas = s.meas := rfl
@[simp] theorem updRing_prevTemp (f : Ring → Ring) : (s.updRing f).prevTemp = s.prevTemp := rfl
@[simp] theorem updRing_hsRuns (f : Ring → Ring) : (s.updRing f).hsRuns = s.hsRuns := rfl
@[simp] theorem updRing_slotKeys (f : Ring → Ring) : (s.updRing f).slotKeys = s.slotKeys := rfl
@[simp] theorem updRing_roleKeys (f : Ring → Ring) : (s.updRing f).roleKeys = s.roleKeys := rfl
@[simp] theorem updRing_sweepDead (f : Ring → Ring) : (s.updRing f).sweepDead = s.sweepDead := rfl
@[simp] theorem updRing_sweepOk (f : Ring → Ring) : (s.updRing f).sweepOk = s.sweepOk := rfl
@[simp] theorem updRing_ringSweep (f : Ring → Ring) : (s.updRing f).ringSweep = s.ringSweep := rfl
@[simp] theorem updRing_ringSweepLast (f : Ring → Ring) : (s.updRing f).ringSweepLast = s.ringSweepLast := rfl
@[simp] theorem updRing_doneTop (f : Ring → Ring) : (s.updRing f).doneTop = s.doneTop := rfl
@[simp] theorem updRing_decs (f : Ring → Ring) : (s.updRing f).decs = s.decs := rfl
@[simp] theorem updRing_stream (f : Ring → Ring) : (s.updRing f).stream = s.stream := rfl
@[simp] theorem updRing_measDue (f : Ring → Ring) : (s.updRing f).measDue = s.measDue := rfl
@[simp] theorem updRing_dma (f : Ring → Ring) : (s.updRing f).dma = s.dma := rfl
@[simp] theorem updRing_dmaLast (f : Ring → Ring) : (s.updRing f).dmaLast = s.dmaLast := rfl
@[simp] theorem updRing_dmaTop (f : Ring → Ring) : (s.updRing f).dmaTop = s.dmaTop := rfl
@[simp] theorem updRing_badWords (f : Ring → Ring) : (s.updRing f).badWords = s.badWords := rfl
@[simp] theorem updRing_handing (f : Ring → Ring) : (s.updRing f).handing = s.handing := rfl
@[simp] theorem updRing_dramEcc (f : Ring → Ring) : (s.updRing f).dramEcc = s.dramEcc := rfl
@[simp] theorem updRing_basteNext (f : Ring → Ring) : (s.updRing f).basteNext = s.basteNext := rfl
@[simp] theorem updRing_basteTries (f : Ring → Ring) : (s.updRing f).basteTries = s.basteTries := rfl
@[simp] theorem updRing_basteAt (f : Ring → Ring) : (s.updRing f).basteAt = s.basteAt := rfl
@[simp] theorem updRing_basteDone (f : Ring → Ring) : (s.updRing f).basteDone = s.basteDone := rfl
@[simp] theorem updRing_mot (f : Ring → Ring) : (s.updRing f).mot = s.mot := rfl
@[simp] theorem updRing_ring (f : Ring → Ring) : (s.updRing f).ring = f s.ring := rfl
@[simp] theorem updRing_ptp (f : Ring → Ring) : (s.updRing f).ptp = s.ptp := rfl
@[simp] theorem updRing_pair (f : Ring → Ring) : (s.updRing f).pair = s.pair := rfl
@[simp] theorem updRing_netUsed (f : Ring → Ring) : (s.updRing f).netUsed = s.netUsed := rfl
@[simp] theorem updRing_hwAt (f : Ring → Ring) : (s.updRing f).hwAt = s.hwAt := rfl
@[simp] theorem updRing_bumps (f : Ring → Ring) : (s.updRing f).bumps = s.bumps := rfl
@[simp] theorem updRing_bumpAt (f : Ring → Ring) : (s.updRing f).bumpAt = s.bumpAt := rfl
@[simp] theorem updRing_rawRegs (f : Ring → Ring) : (s.updRing f).rawRegs = s.rawRegs := rfl
@[simp] theorem updRing_bist (f : Ring → Ring) : (s.updRing f).bist = s.bist := rfl
@[simp] theorem updRing_wantReady (f : Ring → Ring) : (s.updRing f).wantReady = s.wantReady := rfl
@[simp] theorem updRing_stopCap (f : Ring → Ring) : (s.updRing f).stopCap = s.stopCap := rfl
@[simp] theorem updRing_headSources (f : Ring → Ring) : (s.updRing f).headSources = s.headSources := rfl
@[simp] theorem updRing_railWait (f : Ring → Ring) : (s.updRing f).railWait = s.railWait := rfl
@[simp] theorem updRing_causes (f : Ring → Ring) : (s.updRing f).causes = s.causes := rfl
@[simp] theorem updRing_resetLow (f : Ring → Ring) : (s.updRing f).resetLow = s.resetLow := rfl
@[simp] theorem updRing_fromRetain (f : Ring → Ring) : (s.updRing f).fromRetain = s.fromRetain := rfl
@[simp] theorem updRing_islandsDown (f : Ring → Ring) : (s.updRing f).islandsDown = s.islandsDown := rfl
@[simp] theorem updRing_driftRaised (f : Ring → Ring) : (s.updRing f).driftRaised = s.driftRaised := rfl
@[simp] theorem updRing_bistWasCut (f : Ring → Ring) : (s.updRing f).bistWasCut = s.bistWasCut := rfl
@[simp] theorem updRing_testEn (f : Ring → Ring) : (s.updRing f).testEn = s.testEn := rfl
@[simp] theorem updRing_tapIr (f : Ring → Ring) : (s.updRing f).tapIr = s.tapIr := rfl
@[simp] theorem updRing_tapBoundary (f : Ring → Ring) : (s.updRing f).tapBoundary = s.tapBoundary := rfl
@[simp] theorem updRing_strapPorts (f : Ring → Ring) : (s.updRing f).strapPorts = s.strapPorts := rfl

/-! ### Core.updStream -/

@[simp] theorem updStream_clk (f : Stream → Stream) : (s.updStream f).clk = s.clk := rfl
@[simp] theorem updStream_ftAcc (f : Stream → Stream) : (s.updStream f).ftAcc = s.ftAcc := rfl
@[simp] theorem updStream_mode (f : Stream → Stream) : (s.updStream f).mode = s.mode := rfl
@[simp] theorem updStream_phase (f : Stream → Stream) : (s.updStream f).phase = s.phase := rfl
@[simp] theorem updStream_configReached (f : Stream → Stream) : (s.updStream f).configReached = s.configReached := rfl
@[simp] theorem updStream_objs (f : Stream → Stream) : (s.updStream f).objs = s.objs := rfl
@[simp] theorem updStream_comp (f : Stream → Stream) : (s.updStream f).comp = s.comp := rfl
@[simp] theorem updStream_dirty (f : Stream → Stream) : (s.updStream f).dirty = s.dirty := rfl
@[simp] theorem updStream_dirtySince (f : Stream → Stream) : (s.updStream f).dirtySince = s.dirtySince := rfl
@[simp] theorem updStream_journal (f : Stream → Stream) : (s.updStream f).journal = s.journal := rfl
@[simp] theorem updStream_journalFailing (f : Stream → Stream) : (s.updStream f).journalFailing = s.journalFailing := rfl
@[simp] theorem updStream_src (f : Stream → Stream) : (s.updStream f).src = s.src := rfl
@[simp] theorem updStream_log (f : Stream → Stream) : (s.updStream f).log = s.log := rfl
@[simp] theorem updStream_logRet (f : Stream → Stream) : (s.updStream f).logRet = s.logRet := rfl
@[simp] theorem updStream_alsoRaise (f : Stream → Stream) : (s.updStream f).alsoRaise = s.alsoRaise := rfl
@[simp] theorem updStream_safeSince (f : Stream → Stream) : (s.updStream f).safeSince = s.safeSince := rfl
@[simp] theorem updStream_wdogExpired (f : Stream → Stream) : (s.updStream f).wdogExpired = s.wdogExpired := rfl
@[simp] theorem updStream_sess (f : Stream → Stream) : (s.updStream f).sess = s.sess := rfl
@[simp] theorem updStream_txnId (f : Stream → Stream) : (s.updStream f).txnId = s.txnId := rfl
@[simp] theorem updStream_noSess (f : Stream → Stream) : (s.updStream f).noSess = s.noSess := rfl
@[simp] theorem updStream_stop (f : Stream → Stream) : (s.updStream f).stop = s.stop := rfl
@[simp] theorem updStream_out (f : Stream → Stream) : (s.updStream f).out = s.out := rfl
@[simp] theorem updStream_lastStatus (f : Stream → Stream) : (s.updStream f).lastStatus = s.lastStatus := rfl
@[simp] theorem updStream_timers (f : Stream → Stream) : (s.updStream f).timers = s.timers := rfl
@[simp] theorem updStream_freeCount (f : Stream → Stream) : (s.updStream f).freeCount = s.freeCount := rfl
@[simp] theorem updStream_chans (f : Stream → Stream) : (s.updStream f).chans = s.chans := rfl
@[simp] theorem updStream_tacks (f : Stream → Stream) : (s.updStream f).tacks = s.tacks := rfl
@[simp] theorem updStream_pred (f : Stream → Stream) : (s.updStream f).pred = s.pred := rfl
@[simp] theorem updStream_ports (f : Stream → Stream) : (s.updStream f).ports = s.ports := rfl
@[simp] theorem updStream_pages (f : Stream → Stream) : (s.updStream f).pages = s.pages := rfl
@[simp] theorem updStream_job (f : Stream → Stream) : (s.updStream f).job = s.job := rfl
@[simp] theorem updStream_staged (f : Stream → Stream) : (s.updStream f).staged = s.staged := rfl
@[simp] theorem updStream_decided (f : Stream → Stream) : (s.updStream f).decided = s.decided := rfl
@[simp] theorem updStream_hold (f : Stream → Stream) : (s.updStream f).hold = s.hold := rfl
@[simp] theorem updStream_spit (f : Stream → Stream) : (s.updStream f).spit = s.spit := rfl
@[simp] theorem updStream_colTop (f : Stream → Stream) : (s.updStream f).colTop = s.colTop := rfl
@[simp] theorem updStream_bobCycles (f : Stream → Stream) : (s.updStream f).bobCycles = s.bobCycles := rfl
@[simp] theorem updStream_lanes (f : Stream → Stream) : (s.updStream f).lanes = s.lanes := rfl
@[simp] theorem updStream_comet (f : Stream → Stream) : (s.updStream f).comet = s.comet := rfl
@[simp] theorem updStream_headStep (f : Stream → Stream) : (s.updStream f).headStep = s.headStep := rfl
@[simp] theorem updStream_fseq (f : Stream → Stream) : (s.updStream f).fseq = s.fseq := rfl
@[simp] theorem updStream_ringTx (f : Stream → Stream) : (s.updStream f).ringTx = s.ringTx := rfl
@[simp] theorem updStream_stage (f : Stream → Stream) : (s.updStream f).stage = s.stage := rfl
@[simp] theorem updStream_thimJ (f : Stream → Stream) : (s.updStream f).thimJ = s.thimJ := rfl
@[simp] theorem updStream_orphanAge (f : Stream → Stream) : (s.updStream f).orphanAge = s.orphanAge := rfl
@[simp] theorem updStream_measPending (f : Stream → Stream) : (s.updStream f).measPending = s.measPending := rfl
@[simp] theorem updStream_jsPending (f : Stream → Stream) : (s.updStream f).jsPending = s.jsPending := rfl
@[simp] theorem updStream_jsRunning (f : Stream → Stream) : (s.updStream f).jsRunning = s.jsRunning := rfl
@[simp] theorem updStream_jsStart (f : Stream → Stream) : (s.updStream f).jsStart = s.jsStart := rfl
@[simp] theorem updStream_afe (f : Stream → Stream) : (s.updStream f).afe = s.afe := rfl
@[simp] theorem updStream_afeRef (f : Stream → Stream) : (s.updStream f).afeRef = s.afeRef := rfl
@[simp] theorem updStream_meas (f : Stream → Stream) : (s.updStream f).meas = s.meas := rfl
@[simp] theorem updStream_prevTemp (f : Stream → Stream) : (s.updStream f).prevTemp = s.prevTemp := rfl
@[simp] theorem updStream_hsRuns (f : Stream → Stream) : (s.updStream f).hsRuns = s.hsRuns := rfl
@[simp] theorem updStream_slotKeys (f : Stream → Stream) : (s.updStream f).slotKeys = s.slotKeys := rfl
@[simp] theorem updStream_roleKeys (f : Stream → Stream) : (s.updStream f).roleKeys = s.roleKeys := rfl
@[simp] theorem updStream_sweepDead (f : Stream → Stream) : (s.updStream f).sweepDead = s.sweepDead := rfl
@[simp] theorem updStream_sweepOk (f : Stream → Stream) : (s.updStream f).sweepOk = s.sweepOk := rfl
@[simp] theorem updStream_ringSweep (f : Stream → Stream) : (s.updStream f).ringSweep = s.ringSweep := rfl
@[simp] theorem updStream_ringSweepLast (f : Stream → Stream) : (s.updStream f).ringSweepLast = s.ringSweepLast := rfl
@[simp] theorem updStream_doneTop (f : Stream → Stream) : (s.updStream f).doneTop = s.doneTop := rfl
@[simp] theorem updStream_decs (f : Stream → Stream) : (s.updStream f).decs = s.decs := rfl
@[simp] theorem updStream_stream (f : Stream → Stream) : (s.updStream f).stream = f s.stream := rfl
@[simp] theorem updStream_measDue (f : Stream → Stream) : (s.updStream f).measDue = s.measDue := rfl
@[simp] theorem updStream_dma (f : Stream → Stream) : (s.updStream f).dma = s.dma := rfl
@[simp] theorem updStream_dmaLast (f : Stream → Stream) : (s.updStream f).dmaLast = s.dmaLast := rfl
@[simp] theorem updStream_dmaTop (f : Stream → Stream) : (s.updStream f).dmaTop = s.dmaTop := rfl
@[simp] theorem updStream_badWords (f : Stream → Stream) : (s.updStream f).badWords = s.badWords := rfl
@[simp] theorem updStream_handing (f : Stream → Stream) : (s.updStream f).handing = s.handing := rfl
@[simp] theorem updStream_dramEcc (f : Stream → Stream) : (s.updStream f).dramEcc = s.dramEcc := rfl
@[simp] theorem updStream_basteNext (f : Stream → Stream) : (s.updStream f).basteNext = s.basteNext := rfl
@[simp] theorem updStream_basteTries (f : Stream → Stream) : (s.updStream f).basteTries = s.basteTries := rfl
@[simp] theorem updStream_basteAt (f : Stream → Stream) : (s.updStream f).basteAt = s.basteAt := rfl
@[simp] theorem updStream_basteDone (f : Stream → Stream) : (s.updStream f).basteDone = s.basteDone := rfl
@[simp] theorem updStream_mot (f : Stream → Stream) : (s.updStream f).mot = s.mot := rfl
@[simp] theorem updStream_ring (f : Stream → Stream) : (s.updStream f).ring = s.ring := rfl
@[simp] theorem updStream_ptp (f : Stream → Stream) : (s.updStream f).ptp = s.ptp := rfl
@[simp] theorem updStream_pair (f : Stream → Stream) : (s.updStream f).pair = s.pair := rfl
@[simp] theorem updStream_netUsed (f : Stream → Stream) : (s.updStream f).netUsed = s.netUsed := rfl
@[simp] theorem updStream_hwAt (f : Stream → Stream) : (s.updStream f).hwAt = s.hwAt := rfl
@[simp] theorem updStream_bumps (f : Stream → Stream) : (s.updStream f).bumps = s.bumps := rfl
@[simp] theorem updStream_bumpAt (f : Stream → Stream) : (s.updStream f).bumpAt = s.bumpAt := rfl
@[simp] theorem updStream_rawRegs (f : Stream → Stream) : (s.updStream f).rawRegs = s.rawRegs := rfl
@[simp] theorem updStream_bist (f : Stream → Stream) : (s.updStream f).bist = s.bist := rfl
@[simp] theorem updStream_wantReady (f : Stream → Stream) : (s.updStream f).wantReady = s.wantReady := rfl
@[simp] theorem updStream_stopCap (f : Stream → Stream) : (s.updStream f).stopCap = s.stopCap := rfl
@[simp] theorem updStream_headSources (f : Stream → Stream) : (s.updStream f).headSources = s.headSources := rfl
@[simp] theorem updStream_railWait (f : Stream → Stream) : (s.updStream f).railWait = s.railWait := rfl
@[simp] theorem updStream_causes (f : Stream → Stream) : (s.updStream f).causes = s.causes := rfl
@[simp] theorem updStream_resetLow (f : Stream → Stream) : (s.updStream f).resetLow = s.resetLow := rfl
@[simp] theorem updStream_fromRetain (f : Stream → Stream) : (s.updStream f).fromRetain = s.fromRetain := rfl
@[simp] theorem updStream_islandsDown (f : Stream → Stream) : (s.updStream f).islandsDown = s.islandsDown := rfl
@[simp] theorem updStream_driftRaised (f : Stream → Stream) : (s.updStream f).driftRaised = s.driftRaised := rfl
@[simp] theorem updStream_bistWasCut (f : Stream → Stream) : (s.updStream f).bistWasCut = s.bistWasCut := rfl
@[simp] theorem updStream_testEn (f : Stream → Stream) : (s.updStream f).testEn = s.testEn := rfl
@[simp] theorem updStream_tapIr (f : Stream → Stream) : (s.updStream f).tapIr = s.tapIr := rfl
@[simp] theorem updStream_tapBoundary (f : Stream → Stream) : (s.updStream f).tapBoundary = s.tapBoundary := rfl
@[simp] theorem updStream_strapPorts (f : Stream → Stream) : (s.updStream f).strapPorts = s.strapPorts := rfl

/-! ### Core.draw -/

@[simp] theorem draw_clk : s.draw.2.clk = s.clk := rfl
@[simp] theorem draw_ftAcc : s.draw.2.ftAcc = s.ftAcc := rfl
@[simp] theorem draw_mode : s.draw.2.mode = s.mode := rfl
@[simp] theorem draw_phase : s.draw.2.phase = s.phase := rfl
@[simp] theorem draw_configReached : s.draw.2.configReached = s.configReached := rfl
@[simp] theorem draw_objs : s.draw.2.objs = s.objs := rfl
@[simp] theorem draw_comp : s.draw.2.comp = s.comp := rfl
@[simp] theorem draw_dirty : s.draw.2.dirty = s.dirty := rfl
@[simp] theorem draw_dirtySince : s.draw.2.dirtySince = s.dirtySince := rfl
@[simp] theorem draw_journal : s.draw.2.journal = s.journal := rfl
@[simp] theorem draw_journalFailing : s.draw.2.journalFailing = s.journalFailing := rfl
@[simp] theorem draw_src : s.draw.2.src = s.src := rfl
@[simp] theorem draw_log : s.draw.2.log = s.log := rfl
@[simp] theorem draw_logRet : s.draw.2.logRet = s.logRet := rfl
@[simp] theorem draw_alsoRaise : s.draw.2.alsoRaise = s.alsoRaise := rfl
@[simp] theorem draw_safeSince : s.draw.2.safeSince = s.safeSince := rfl
@[simp] theorem draw_wdogExpired : s.draw.2.wdogExpired = s.wdogExpired := rfl
@[simp] theorem draw_sess : s.draw.2.sess = s.sess := rfl
@[simp] theorem draw_txnId : s.draw.2.txnId = s.txnId := rfl
@[simp] theorem draw_noSess : s.draw.2.noSess = s.noSess := rfl
@[simp] theorem draw_stop : s.draw.2.stop = s.stop := rfl
@[simp] theorem draw_out : s.draw.2.out = s.out := rfl
@[simp] theorem draw_lastStatus : s.draw.2.lastStatus = s.lastStatus := rfl
@[simp] theorem draw_timers : s.draw.2.timers = s.timers := rfl
@[simp] theorem draw_freeCount : s.draw.2.freeCount = s.freeCount + 1 := rfl
@[simp] theorem draw_chans : s.draw.2.chans = s.chans := rfl
@[simp] theorem draw_tacks : s.draw.2.tacks = s.tacks := rfl
@[simp] theorem draw_pred : s.draw.2.pred = s.pred := rfl
@[simp] theorem draw_ports : s.draw.2.ports = s.ports := rfl
@[simp] theorem draw_pages : s.draw.2.pages = s.pages := rfl
@[simp] theorem draw_job : s.draw.2.job = s.job := rfl
@[simp] theorem draw_staged : s.draw.2.staged = s.staged := rfl
@[simp] theorem draw_decided : s.draw.2.decided = s.decided := rfl
@[simp] theorem draw_hold : s.draw.2.hold = s.hold := rfl
@[simp] theorem draw_spit : s.draw.2.spit = s.spit := rfl
@[simp] theorem draw_colTop : s.draw.2.colTop = s.colTop := rfl
@[simp] theorem draw_bobCycles : s.draw.2.bobCycles = s.bobCycles := rfl
@[simp] theorem draw_lanes : s.draw.2.lanes = s.lanes := rfl
@[simp] theorem draw_comet : s.draw.2.comet = s.comet := rfl
@[simp] theorem draw_headStep : s.draw.2.headStep = s.headStep := rfl
@[simp] theorem draw_fseq : s.draw.2.fseq = s.fseq := rfl
@[simp] theorem draw_ringTx : s.draw.2.ringTx = s.ringTx := rfl
@[simp] theorem draw_stage : s.draw.2.stage = s.stage := rfl
@[simp] theorem draw_thimJ : s.draw.2.thimJ = s.thimJ := rfl
@[simp] theorem draw_orphanAge : s.draw.2.orphanAge = s.orphanAge := rfl
@[simp] theorem draw_measPending : s.draw.2.measPending = s.measPending := rfl
@[simp] theorem draw_jsPending : s.draw.2.jsPending = s.jsPending := rfl
@[simp] theorem draw_jsRunning : s.draw.2.jsRunning = s.jsRunning := rfl
@[simp] theorem draw_jsStart : s.draw.2.jsStart = s.jsStart := rfl
@[simp] theorem draw_afe : s.draw.2.afe = s.afe := rfl
@[simp] theorem draw_afeRef : s.draw.2.afeRef = s.afeRef := rfl
@[simp] theorem draw_meas : s.draw.2.meas = s.meas := rfl
@[simp] theorem draw_prevTemp : s.draw.2.prevTemp = s.prevTemp := rfl
@[simp] theorem draw_hsRuns : s.draw.2.hsRuns = s.hsRuns := rfl
@[simp] theorem draw_slotKeys : s.draw.2.slotKeys = s.slotKeys := rfl
@[simp] theorem draw_roleKeys : s.draw.2.roleKeys = s.roleKeys := rfl
@[simp] theorem draw_sweepDead : s.draw.2.sweepDead = s.sweepDead := rfl
@[simp] theorem draw_sweepOk : s.draw.2.sweepOk = s.sweepOk := rfl
@[simp] theorem draw_ringSweep : s.draw.2.ringSweep = s.ringSweep := rfl
@[simp] theorem draw_ringSweepLast : s.draw.2.ringSweepLast = s.ringSweepLast := rfl
@[simp] theorem draw_doneTop : s.draw.2.doneTop = s.doneTop := rfl
@[simp] theorem draw_decs : s.draw.2.decs = s.decs := rfl
@[simp] theorem draw_stream : s.draw.2.stream = s.stream := rfl
@[simp] theorem draw_measDue : s.draw.2.measDue = s.measDue := rfl
@[simp] theorem draw_dma : s.draw.2.dma = s.dma := rfl
@[simp] theorem draw_dmaLast : s.draw.2.dmaLast = s.dmaLast := rfl
@[simp] theorem draw_dmaTop : s.draw.2.dmaTop = s.dmaTop := rfl
@[simp] theorem draw_badWords : s.draw.2.badWords = s.badWords := rfl
@[simp] theorem draw_handing : s.draw.2.handing = s.handing := rfl
@[simp] theorem draw_dramEcc : s.draw.2.dramEcc = s.dramEcc := rfl
@[simp] theorem draw_basteNext : s.draw.2.basteNext = s.basteNext := rfl
@[simp] theorem draw_basteTries : s.draw.2.basteTries = s.basteTries := rfl
@[simp] theorem draw_basteAt : s.draw.2.basteAt = s.basteAt := rfl
@[simp] theorem draw_basteDone : s.draw.2.basteDone = s.basteDone := rfl
@[simp] theorem draw_mot : s.draw.2.mot = s.mot := rfl
@[simp] theorem draw_ring : s.draw.2.ring = s.ring := rfl
@[simp] theorem draw_ptp : s.draw.2.ptp = s.ptp := rfl
@[simp] theorem draw_pair : s.draw.2.pair = s.pair := rfl
@[simp] theorem draw_netUsed : s.draw.2.netUsed = s.netUsed := rfl
@[simp] theorem draw_hwAt : s.draw.2.hwAt = s.hwAt := rfl
@[simp] theorem draw_bumps : s.draw.2.bumps = s.bumps := rfl
@[simp] theorem draw_bumpAt : s.draw.2.bumpAt = s.bumpAt := rfl
@[simp] theorem draw_rawRegs : s.draw.2.rawRegs = s.rawRegs := rfl
@[simp] theorem draw_bist : s.draw.2.bist = s.bist := rfl
@[simp] theorem draw_wantReady : s.draw.2.wantReady = s.wantReady := rfl
@[simp] theorem draw_stopCap : s.draw.2.stopCap = s.stopCap := rfl
@[simp] theorem draw_headSources : s.draw.2.headSources = s.headSources := rfl
@[simp] theorem draw_railWait : s.draw.2.railWait = s.railWait := rfl
@[simp] theorem draw_causes : s.draw.2.causes = s.causes := rfl
@[simp] theorem draw_resetLow : s.draw.2.resetLow = s.resetLow := rfl
@[simp] theorem draw_fromRetain : s.draw.2.fromRetain = s.fromRetain := rfl
@[simp] theorem draw_islandsDown : s.draw.2.islandsDown = s.islandsDown := rfl
@[simp] theorem draw_driftRaised : s.draw.2.driftRaised = s.driftRaised := rfl
@[simp] theorem draw_bistWasCut : s.draw.2.bistWasCut = s.bistWasCut := rfl
@[simp] theorem draw_testEn : s.draw.2.testEn = s.testEn := rfl
@[simp] theorem draw_tapIr : s.draw.2.tapIr = s.tapIr := rfl
@[simp] theorem draw_tapBoundary : s.draw.2.tapBoundary = s.tapBoundary := rfl
@[simp] theorem draw_strapPorts : s.draw.2.strapPorts = s.strapPorts := rfl

/-! ### Core.drawOpen -/

@[simp] theorem drawOpen_clk : s.drawOpen.2.clk = s.clk := rfl
@[simp] theorem drawOpen_ftAcc : s.drawOpen.2.ftAcc = s.ftAcc := rfl
@[simp] theorem drawOpen_mode : s.drawOpen.2.mode = s.mode := rfl
@[simp] theorem drawOpen_phase : s.drawOpen.2.phase = s.phase := rfl
@[simp] theorem drawOpen_configReached : s.drawOpen.2.configReached = s.configReached := rfl
@[simp] theorem drawOpen_objs : s.drawOpen.2.objs = s.objs := rfl
@[simp] theorem drawOpen_comp : s.drawOpen.2.comp = s.comp := rfl
@[simp] theorem drawOpen_dirty : s.drawOpen.2.dirty = s.dirty := rfl
@[simp] theorem drawOpen_dirtySince : s.drawOpen.2.dirtySince = s.dirtySince := rfl
@[simp] theorem drawOpen_journal : s.drawOpen.2.journal = s.journal := rfl
@[simp] theorem drawOpen_journalFailing : s.drawOpen.2.journalFailing = s.journalFailing := rfl
@[simp] theorem drawOpen_src : s.drawOpen.2.src = s.src := rfl
@[simp] theorem drawOpen_log : s.drawOpen.2.log = s.log := rfl
@[simp] theorem drawOpen_logRet : s.drawOpen.2.logRet = s.logRet := rfl
@[simp] theorem drawOpen_alsoRaise : s.drawOpen.2.alsoRaise = s.alsoRaise := rfl
@[simp] theorem drawOpen_safeSince : s.drawOpen.2.safeSince = s.safeSince := rfl
@[simp] theorem drawOpen_wdogExpired : s.drawOpen.2.wdogExpired = s.wdogExpired := rfl
@[simp] theorem drawOpen_sess : s.drawOpen.2.sess = s.sess := rfl
@[simp] theorem drawOpen_txnId : s.drawOpen.2.txnId = s.txnId := rfl
@[simp] theorem drawOpen_noSess : s.drawOpen.2.noSess = s.noSess := rfl
@[simp] theorem drawOpen_stop : s.drawOpen.2.stop = s.stop := rfl
@[simp] theorem drawOpen_out : s.drawOpen.2.out = s.out := rfl
@[simp] theorem drawOpen_lastStatus : s.drawOpen.2.lastStatus = s.lastStatus := rfl
@[simp] theorem drawOpen_timers : s.drawOpen.2.timers = s.timers := rfl
@[simp] theorem drawOpen_freeCount : s.drawOpen.2.freeCount = s.freeCount + 1 := rfl
@[simp] theorem drawOpen_chans : s.drawOpen.2.chans = s.chans := rfl
@[simp] theorem drawOpen_tacks : s.drawOpen.2.tacks = s.tacks := rfl
@[simp] theorem drawOpen_pred : s.drawOpen.2.pred = s.pred := rfl
@[simp] theorem drawOpen_ports : s.drawOpen.2.ports = s.ports := rfl
@[simp] theorem drawOpen_pages : s.drawOpen.2.pages = s.pages := rfl
@[simp] theorem drawOpen_job : s.drawOpen.2.job = s.job := rfl
@[simp] theorem drawOpen_staged : s.drawOpen.2.staged = s.staged := rfl
@[simp] theorem drawOpen_decided : s.drawOpen.2.decided = s.decided := rfl
@[simp] theorem drawOpen_hold : s.drawOpen.2.hold = s.hold := rfl
@[simp] theorem drawOpen_spit : s.drawOpen.2.spit = s.spit := rfl
@[simp] theorem drawOpen_colTop : s.drawOpen.2.colTop = s.colTop := rfl
@[simp] theorem drawOpen_bobCycles : s.drawOpen.2.bobCycles = s.bobCycles := rfl
@[simp] theorem drawOpen_lanes : s.drawOpen.2.lanes = s.lanes := rfl
@[simp] theorem drawOpen_comet : s.drawOpen.2.comet = s.comet := rfl
@[simp] theorem drawOpen_headStep : s.drawOpen.2.headStep = s.headStep := rfl
@[simp] theorem drawOpen_fseq : s.drawOpen.2.fseq = s.fseq := rfl
@[simp] theorem drawOpen_ringTx : s.drawOpen.2.ringTx = s.ringTx := rfl
@[simp] theorem drawOpen_stage : s.drawOpen.2.stage = s.stage := rfl
@[simp] theorem drawOpen_thimJ : s.drawOpen.2.thimJ = s.thimJ := rfl
@[simp] theorem drawOpen_orphanAge : s.drawOpen.2.orphanAge = s.orphanAge := rfl
@[simp] theorem drawOpen_measPending : s.drawOpen.2.measPending = s.measPending := rfl
@[simp] theorem drawOpen_jsPending : s.drawOpen.2.jsPending = s.jsPending := rfl
@[simp] theorem drawOpen_jsRunning : s.drawOpen.2.jsRunning = s.jsRunning := rfl
@[simp] theorem drawOpen_jsStart : s.drawOpen.2.jsStart = s.jsStart := rfl
@[simp] theorem drawOpen_afe : s.drawOpen.2.afe = s.afe := rfl
@[simp] theorem drawOpen_afeRef : s.drawOpen.2.afeRef = s.afeRef := rfl
@[simp] theorem drawOpen_meas : s.drawOpen.2.meas = s.meas := rfl
@[simp] theorem drawOpen_prevTemp : s.drawOpen.2.prevTemp = s.prevTemp := rfl
@[simp] theorem drawOpen_hsRuns : s.drawOpen.2.hsRuns = s.hsRuns := rfl
@[simp] theorem drawOpen_slotKeys : s.drawOpen.2.slotKeys = s.slotKeys := rfl
@[simp] theorem drawOpen_roleKeys : s.drawOpen.2.roleKeys = s.roleKeys := rfl
@[simp] theorem drawOpen_sweepDead : s.drawOpen.2.sweepDead = s.sweepDead := rfl
@[simp] theorem drawOpen_sweepOk : s.drawOpen.2.sweepOk = s.sweepOk := rfl
@[simp] theorem drawOpen_ringSweep : s.drawOpen.2.ringSweep = s.ringSweep := rfl
@[simp] theorem drawOpen_ringSweepLast : s.drawOpen.2.ringSweepLast = s.ringSweepLast := rfl
@[simp] theorem drawOpen_doneTop : s.drawOpen.2.doneTop = s.doneTop := rfl
@[simp] theorem drawOpen_decs : s.drawOpen.2.decs = s.decs := rfl
@[simp] theorem drawOpen_stream : s.drawOpen.2.stream = s.stream := rfl
@[simp] theorem drawOpen_measDue : s.drawOpen.2.measDue = s.measDue := rfl
@[simp] theorem drawOpen_dma : s.drawOpen.2.dma = s.dma := rfl
@[simp] theorem drawOpen_dmaLast : s.drawOpen.2.dmaLast = s.dmaLast := rfl
@[simp] theorem drawOpen_dmaTop : s.drawOpen.2.dmaTop = s.dmaTop := rfl
@[simp] theorem drawOpen_badWords : s.drawOpen.2.badWords = s.badWords := rfl
@[simp] theorem drawOpen_handing : s.drawOpen.2.handing = s.handing := rfl
@[simp] theorem drawOpen_dramEcc : s.drawOpen.2.dramEcc = s.dramEcc := rfl
@[simp] theorem drawOpen_basteNext : s.drawOpen.2.basteNext = s.basteNext := rfl
@[simp] theorem drawOpen_basteTries : s.drawOpen.2.basteTries = s.basteTries := rfl
@[simp] theorem drawOpen_basteAt : s.drawOpen.2.basteAt = s.basteAt := rfl
@[simp] theorem drawOpen_basteDone : s.drawOpen.2.basteDone = s.basteDone := rfl
@[simp] theorem drawOpen_mot : s.drawOpen.2.mot = s.mot := rfl
@[simp] theorem drawOpen_ring : s.drawOpen.2.ring = s.ring := rfl
@[simp] theorem drawOpen_ptp : s.drawOpen.2.ptp = s.ptp := rfl
@[simp] theorem drawOpen_pair : s.drawOpen.2.pair = s.pair := rfl
@[simp] theorem drawOpen_netUsed : s.drawOpen.2.netUsed = s.netUsed := rfl
@[simp] theorem drawOpen_hwAt : s.drawOpen.2.hwAt = s.hwAt := rfl
@[simp] theorem drawOpen_bumps : s.drawOpen.2.bumps = s.bumps := rfl
@[simp] theorem drawOpen_bumpAt : s.drawOpen.2.bumpAt = s.bumpAt := rfl
@[simp] theorem drawOpen_rawRegs : s.drawOpen.2.rawRegs = s.rawRegs := rfl
@[simp] theorem drawOpen_bist : s.drawOpen.2.bist = s.bist := rfl
@[simp] theorem drawOpen_wantReady : s.drawOpen.2.wantReady = s.wantReady := rfl
@[simp] theorem drawOpen_stopCap : s.drawOpen.2.stopCap = s.stopCap := rfl
@[simp] theorem drawOpen_headSources : s.drawOpen.2.headSources = s.headSources := rfl
@[simp] theorem drawOpen_railWait : s.drawOpen.2.railWait = s.railWait := rfl
@[simp] theorem drawOpen_causes : s.drawOpen.2.causes = s.causes := rfl
@[simp] theorem drawOpen_resetLow : s.drawOpen.2.resetLow = s.resetLow := rfl
@[simp] theorem drawOpen_fromRetain : s.drawOpen.2.fromRetain = s.fromRetain := rfl
@[simp] theorem drawOpen_islandsDown : s.drawOpen.2.islandsDown = s.islandsDown := rfl
@[simp] theorem drawOpen_driftRaised : s.drawOpen.2.driftRaised = s.driftRaised := rfl
@[simp] theorem drawOpen_bistWasCut : s.drawOpen.2.bistWasCut = s.bistWasCut := rfl
@[simp] theorem drawOpen_testEn : s.drawOpen.2.testEn = s.testEn := rfl
@[simp] theorem drawOpen_tapIr : s.drawOpen.2.tapIr = s.tapIr := rfl
@[simp] theorem drawOpen_tapBoundary : s.drawOpen.2.tapBoundary = s.tapBoundary := rfl
@[simp] theorem drawOpen_strapPorts : s.drawOpen.2.strapPorts = s.strapPorts := rfl

end Sys2Proof.Laws
end

