-- ==== Sys2Proof/Laws/Tables.lean ====
section
/-! SUPPORT. Sparse tables: what a table gives after an entry is written or removed. -/

namespace Sys2Proof.Laws

variable {α : Type}

@[simp] theorem tab_get_set (d : α) (t : Tab α) (k : Nat) (v : α) : Tab.get d (Tab.set t k v) k = v := by
  induction t with
  | nil => simp [Tab.set, Tab.get]
  | cons p t ih =>
    obtain ⟨j, u⟩ := p
    unfold Tab.set
    by_cases h1 : k < j
    · simp [h1, Tab.get]
    · by_cases h2 : k = j
      · simp [h2, Tab.get]
      · have h3 : j ≠ k := fun h => h2 h.symm
        simp [h1, h2, h3, Tab.get, ih]

theorem tab_get_set_ne (d : α) (t : Tab α) (k i : Nat) (v : α) (h : i ≠ k) : Tab.get d (Tab.set t k v) i = Tab.get d t i := by
  have hk : k ≠ i := fun e => h e.symm
  induction t with
  | nil => simp [Tab.set, Tab.get, hk]
  | cons p t ih =>
    obtain ⟨j, u⟩ := p
    unfold Tab.set
    by_cases h1 : k < j
    · simp [h1, Tab.get, hk]
    · by_cases h2 : k = j
      · subst h2; simp [Tab.get, hk]
      · simp [h1, h2, Tab.get, ih]

@[simp] theorem tab_find_set (t : Tab α) (k : Nat) (v : α) : Tab.get? (Tab.set t k v) k = some v := by
  induction t with
  | nil => simp [Tab.set, Tab.get?]
  | cons p t ih =>
    obtain ⟨j, u⟩ := p
    unfold Tab.set
    by_cases h1 : k < j
    · simp [h1, Tab.get?]
    · by_cases h2 : k = j
      · simp [h2, Tab.get?]
      · have h3 : j ≠ k := fun h => h2 h.symm
        simp [h1, h2, h3, Tab.get?, ih]

theorem tab_find_set_ne (t : Tab α) (k i : Nat) (v : α) (h : i ≠ k) : Tab.get? (Tab.set t k v) i = Tab.get? t i := by
  have hk : k ≠ i := fun e => h e.symm
  induction t with
  | nil => simp [Tab.set, Tab.get?, hk]
  | cons p t ih =>
    obtain ⟨j, u⟩ := p
    unfold Tab.set
    by_cases h1 : k < j
    · simp [h1, Tab.get?, hk]
    · by_cases h2 : k = j
      · subst h2; simp [Tab.get?, hk]
      · simp [h1, h2, Tab.get?, ih]

/-- The later of two writes under one key stands. -/
@[simp] theorem tab_set_set (t : Tab α) (k : Nat) (u v : α) : Tab.set (Tab.set t k u) k v = Tab.set t k v := by
  induction t with
  | nil => simp [Tab.set]
  | cons p t ih =>
    obtain ⟨j, w⟩ := p
    by_cases h1 : k < j
    · simp [Tab.set, h1]
    · by_cases h2 : k = j <;> simp [Tab.set, h1, h2, ih]

/-- A removed entry leaves every other as it was. -/
theorem tab_get_erase_ne (d : α) (t : Tab α) (k i : Nat) (h : i ≠ k) : Tab.get d (Tab.erase t k) i = Tab.get d t i := by
  have hk : k ≠ i := fun e => h e.symm
  induction t with
  | nil => rfl
  | cons p t ih =>
    obtain ⟨j, u⟩ := p
    unfold Tab.erase
    by_cases h2 : j = k
    · subst h2; simp [Tab.get, hk]
    · simp [h2, Tab.get, ih]

theorem tab_find_erase_ne (t : Tab α) (k i : Nat) (h : i ≠ k) : Tab.get? (Tab.erase t k) i = Tab.get? t i := by
  have hk : k ≠ i := fun e => h e.symm
  induction t with
  | nil => rfl
  | cons p t ih =>
    obtain ⟨j, u⟩ := p
    unfold Tab.erase
    by_cases h2 : j = k
    · subst h2; simp [Tab.get?, hk]
    · simp [h2, Tab.get?, ih]

end Sys2Proof.Laws
end

