-- ==== Sys2Proof/Laws/Operations.lean ====
section
/-! SUPPORT. What the shared operations can do: objects, deadlines, completion status, events, occurrences, the lifting of a meaning to the whole block. -/

namespace Sys2Proof.Laws
open Sys2Proof.Machine

/-! ### Lifting -/

/-- A meaning on the core answers a next state; memory and the queue stay. -/
theorem onCore_next (f : Core → Core) (s : State) : onCore f s = .next { s with core := f s.core } := rfl

/-- A meaning on core and memory answers a next state; the queue stays. -/
theorem onBoth_next (f : Core → List Host.Cell → Core × List Host.Cell) (s : State) :
    onBoth f s = .next { s with core := (f s.core s.mem).1, mem := (f s.core s.mem).2 } := rfl

/-! ### Objects -/

/-- A value stored reads back, cut to the object's width. -/
@[simp] theorem rd_wr (s : Core) (o : Ob) (i j v : Nat) : (s.wr o i j v).rd o i j = o.fit v := by
  unfold Core.rd; rw [wr_objs]; exact tab_get_set _ _ _ _

/-- A value stored leaves every element under another key as it was. -/
theorem rd_wr_ne (s : Core) (o p : Ob) (i j a b v : Nat) (h : p.key a b ≠ o.key i j) : (s.wr o i j v).rd p a b = s.rd p a b := by
  unfold Core.rd; rw [wr_objs]; exact tab_get_set_ne _ _ _ _ _ h

@[simp] theorem rd0_wr0 (s : Core) (o : Ob) (v : Nat) : (s.wr0 o v).rd0 o = o.fit v := rd_wr s o 0 0 v

theorem rd0_wr0_ne (s : Core) (o p : Ob) (v : Nat) (h : p.key 0 0 ≠ o.key 0 0) : (s.wr0 o v).rd0 p = s.rd0 p := rd_wr_ne s o p 0 0 0 0 v h

/-- Reading an object looks at nothing but the objects. -/
theorem rd_congr (s t : Core) (o : Ob) (i j : Nat) (h : s.objs = t.objs) : s.rd o i j = t.rd o i j := by unfold Core.rd; rw [h]

@[simp] theorem rd_advance (s : Core) (o : Ob) (i j dt : Nat) : (s.advance dt).rd o i j = s.rd o i j := rfl
@[simp] theorem rd_arm (s : Core) (o : Ob) (i j : Nat) (x : Timer) (k d : Nat) : (s.arm x k d).rd o i j = s.rd o i j := rfl
@[simp] theorem rd_disarm (s : Core) (o : Ob) (i j : Nat) (x : Timer) (k : Nat) : (s.disarm x k).rd o i j = s.rd o i j := rfl
@[simp] theorem rd_setComp (s : Core) (o : Ob) (i j a b v : Nat) : (s.setComp a b v).rd o i j = s.rd o i j := rfl

/-! ### Feedback channels -/

@[simp] theorem chan_setChan (s : Core) (n : Nat) (x : Chan) : (s.setChan n x).chan n = x := by
  unfold Core.chan; rw [setChan_chans]; exact tab_get_set _ _ _ _

theorem chan_setChan_ne (s : Core) (n m : Nat) (x : Chan) (h : m ≠ n) : (s.setChan n x).chan m = s.chan m := by
  unfold Core.chan; rw [setChan_chans]; exact tab_get_set_ne _ _ _ _ _ h

@[simp] theorem setChan_setChan (s : Core) (n : Nat) (x y : Chan) : (s.setChan n x).setChan n y = s.setChan n y := by
  unfold Core.setChan; simp

@[simp] theorem rd_setChan (s : Core) (n : Nat) (x : Chan) (o : Ob) (i j : Nat) : (s.setChan n x).rd o i j = s.rd o i j := rfl

/-! ### Deadlines -/

@[simp] theorem armed_arm (s : Core) (x : Timer) (i d : Nat) : (s.arm x i d).armed x i = true := by unfold Core.armed; rw [arm_timers]; simp

/-- A deadline armed is due once its time has passed. -/
theorem due_arm_advance (s : Core) (x : Timer) (i d dt : Nat) : ((s.arm x i d).advance dt).due x i = decide (d ≤ dt) := by
  unfold Core.due
  rw [advance_timers, arm_timers, tab_find_set, advance_clk, arm_clk]
  simp

theorem armed_arm_ne (s : Core) (x y : Timer) (i k d : Nat) (h : timerKey y k ≠ timerKey x i) : (s.arm x i d).armed y k = s.armed y k := by
  unfold Core.armed; rw [arm_timers, tab_find_set_ne _ _ _ _ h]

theorem armed_disarm_ne (s : Core) (x y : Timer) (i k : Nat) (h : timerKey y k ≠ timerKey x i) : (s.disarm x i).armed y k = s.armed y k := by
  unfold Core.armed; rw [disarm_timers, tab_find_erase_ne _ _ _ h]

/-! ### Completion status -/

/-- The end of an action changes a PENDING status and nothing else. -/
theorem endComp_cases (s : Core) (o : Ob) (i j : Nat) (ok : Bool) :
    s.endComp o i j ok = s ∨ (s.compO o i j = 1 ∧ s.endComp o i j ok = s.setCompO o i j (if ok then 2 else 3)) := by
  unfold Core.endComp
  split
  · exact .inr ⟨‹_›, rfl⟩
  · exact .inl rfl

/-! ### Events -/

/-- A session's queue takes an event unless 256 wait; then the loss is counted. -/
theorem push_cases (x : Session) (e : EventRec) :
    (x.events.length < 256 ∧ x.push e = ({ x with events := x.events ++ [e] }, false)) ∨ (256 ≤ x.events.length ∧ x.push e = ({ x with lost := x.lost + 1 }, true)) := by
  unfold Session.push
  split
  · exact .inl ⟨‹_›, rfl⟩
  · exact .inr ⟨by omega, rfl⟩

/-- Queueing an event changes the session, and at a loss EVENTS_LOST and what is due to be raised. -/
theorem pushEvent_frame (s : Core) (h : Nat) (e : EventRec) :
    s.pushEvent h e = { s with
      sess := Tab.set s.sess h ((Tab.get freeSession s.sess h).push e).1
      objs := (s.pushEvent h e).objs, bumps := (s.pushEvent h e).bumps, bumpAt := (s.pushEvent h e).bumpAt
      dirty := (s.pushEvent h e).dirty, dirtySince := (s.pushEvent h e).dirtySince, alsoRaise := (s.pushEvent h e).alsoRaise } := by
  unfold Core.pushEvent
  dsimp only
  split
  · split <;> (unfold Core.inc0 Core.inc Core.bump Core.wr Core.markDirty; dsimp only; split <;> rfl)
  · rfl

/-! ### Occurrences -/

/-- No source occurs in OFF outside a wake, nor in RETAIN, and an unassigned number names none. -/
theorem occurOne_none (s : Core) (n info : Nat) (f : Bool) (h : srcAssigned n = false ∨ (s.mode = .off ∧ s.phase ≠ .waking) ∨ s.mode = .retain) : s.occurOne n info f = s := by
  unfold Core.occurOne
  rw [if_pos]
  obtain h | h := h
  · exact .inl (by simp [h])
  · exact .inr h

/-- A masked source counts its occurrence and notes the time, and does no more. -/
theorem occurOne_masked (s : Core) (n info : Nat) (f : Bool) (h : srcAssigned n = true) (ho : ¬ (s.mode = .off ∧ s.phase ≠ .waking)) (hr : s.mode ≠ .retain)
    (hn : s.occurredNow n = false) (hm : s.rdB Obj.src_MASK n 0 = true) :
    s.occurOne n info f = ((s.inc Obj.src_COUNT n 0 1).wr Obj.src_LAST_T_NS n 0 s.ftNs).hwUpdate Obj.src_COUNT n 0 := by
  unfold Core.occurOne
  rw [if_neg (by simp [h, ho, hr])]
  simp only [hn, hm, if_true, Bool.false_eq_true, if_false]

/-- A second occurrence of a masked source in the same cycle does nothing (R498). -/
theorem occurAgain_masked (s : Core) (n info : Nat) (f : Bool) (hm : s.rdB Obj.src_MASK n 0 = true) : s.occurAgain n info f = s := by
  unfold Core.occurAgain
  rw [if_pos (.inr (.inl hm))]

/-- With nothing waiting to be raised, settling changes nothing. -/
@[simp] theorem settle_of_empty (s : Core) (h : s.alsoRaise = []) : s.settle = s := by
  unfold Core.settle Core.drainRaise
  rw [h]

/-! ### The ring's ports -/

/-- Letting waiting frames leave changes the port's own bookkeeping and what has left, and nothing else (R373). -/
theorem ringDrain_frame (k : Nat) : ∀ (n : Nat) (s : Core),
    ∃ q f o, s.ringDrain k n = { s with ring := { s.ring with queue := q, freeAt := f }, out := o }
  | 0, s => ⟨s.ring.queue, s.ring.freeAt, s.out, rfl⟩
  | n + 1, s => by
    unfold Core.ringDrain
    split
    · exact ⟨s.ring.queue, s.ring.freeAt, s.out, rfl⟩
    · rename_i x _
      by_cases h : s.ringNow < s.ringFree k
      · rw [if_pos h]; exact ⟨s.ring.queue, s.ring.freeAt, s.out, rfl⟩
      · rw [if_neg h]
        obtain ⟨q, f, o, e⟩ := ringDrain_frame k n
          (({ s with ring := { s.ring with queue := s.ring.queue.erase x } }).ringStart k (s.ringFree k) .ringFrame x.bytes)
        exact ⟨q, f, o, e.trans rfl⟩

/-- The same of the waiting frames of a port, up to now. -/
theorem ringFlush_frame (s : Core) (k : Nat) :
    ∃ q f o, s.ringFlush k = { s with ring := { s.ring with queue := q, freeAt := f }, out := o } := ringDrain_frame k _ s

@[simp] theorem rd_ringFlush (s : Core) (k : Nat) (o : Ob) (i j : Nat) : (s.ringFlush k).rd o i j = s.rd o i j := by
  obtain ⟨q, f, x, e⟩ := ringFlush_frame s k
  rw [e]; rfl

/-- A frame sent changes the ports' bookkeeping and what has left, and nothing else. -/
theorem ringSend_frame (s : Core) (k : Nat) (kind : OutKind) (b : List Byte) :
    ∃ q f o, s.ringSend k kind b = { s with ring := { s.ring with queue := q, freeAt := f }, out := o } := by
  obtain ⟨q, f, o, e⟩ := ringFlush_frame s k
  unfold Core.ringSend
  rw [e]
  exact ⟨_, _, _, rfl⟩

end Sys2Proof.Laws
end

