-- ==== Sys2Proof/Tests/Slice0.lean ====
section
/-! SUPPORT. The model's own tests: for each statement a witness of its hypotheses, clause by clause in the statement's order; ill-formed commands refused; worked examples
of the spec on fixed values. -/

namespace Sys2Proof.Tests
open Sys2Proof.Machine

set_option linter.unusedVariables false
set_option Elab.async false

/-! ### Small states -/

/-- A block in CONFIG with nothing going on. -/
def base : Core := { mode := .config, phase := .steady, configReached := true }

/-- The block with values in elements of objects: object, instance, element, value. -/
def ob (c : Core) (l : List (Ob × Nat × Nat × Nat)) : Core := l.foldl (fun c x => { c with objs := Tab.set c.objs (x.1.key x.2.1 x.2.2.1) x.2.2.2 }) c

/-- A block with memory empty and no command waiting. -/
def st (c : Core) : State := { core := c }

/-- The block with deadlines that have just passed: timer, instance. -/
def due (c : Core) (l : List (Timer × Nat)) : Core := l.foldl (fun c x => c.arm x.1 x.2 0) c

/-- The page of the printing block: sixteen columns from job column 0, its first ten pixels from the datum. -/
def page0 : Page := { no := 1, pass := 0, dir := 1, mask := 0, final := true, lines := 16, xshift := 0, origin := 10 * 2 ^ 24, cols := 16, started := true }

/-- A block in PRINT WEB with one port of two primitives READY, at `t` ns of FT, the web at 1,000 px/s from FT 0: column 0 lands at 10 ms. -/
def pr (t : Nat) : Core :=
  ob { base with mode := .printWeb, ports := [(0, { enumerated := true })], pages := [page0], job := { active := true },
                 pred := { ref := some ⟨0, 0, 1, 256000, 1, 0, 0⟩ }, ftAcc := t * 2 ^ 33 }
    [(Obj.port_LINK_STATE, 0, 0, 5), (Obj.port_DIE_GEOM, 0, 0, 0x0102), (Obj.RG_MAP, 0, 0, 2 ^ 40)]

/-- A frame with its CRC. -/
def crcd (b : List Byte) : List Byte := b ++ leBytes 4 (Crypto.crc32 b)

/-- Session 1 OPEN for a FACTORY host at 77:5000, next SEQ 5. -/
def ses : Session := { st := 2, role := 3, maxMsg := 1400, n := 5, ip := 77, port := 5000, evIp := 77, evPort := 5000, key := [1, 2, 3] }
/-- A block with a session 1. -/
def fc (x : Session) : Core := { base with sess := [(1, x)] }
/-- What surrounds a request of that host. -/
def env0 : FopEnv := ⟨0, 77, 5000, 0, 0, 1, 5, 0⟩

/-- The surroundings of a request with the TAG that its bytes have under the session's key. -/
def tgOf (b : ReqBody) : FopEnv := { env0 with tag := ofLe (Crypto.hmac [1, 2, 3] (requestBytes env0 b)) }

/-- The turn of a request has come, but for its TAG. -/
def TakesBut (s : Core) (e : FopEnv) : Bool :=
  s.running && s.configReached && decide (e.node < 4095) && s.targetsMe e && decide (1 ≤ e.session) && decide (e.session ≤ 16) && decide ((s.session e.session).st = 2)
  && decide ((s.session e.session).ip = e.ip) && decide ((s.session e.session).port = e.port) && decide ((s.session e.session).key = [1, 2, 3])
  && decide (e.seq = (s.session e.session).n) && decide ((s.sess.map (fun p => p.2.held.length)).sum < 64)

theorem takes_tag (s : Core) (b : ReqBody) (h : TakesBut s env0 = true) : s.Takes (tgOf b) b := by
  simp only [TakesBut, Bool.and_eq_true, decide_eq_true_eq] at h
  obtain ⟨⟨⟨⟨⟨⟨⟨⟨⟨⟨⟨h1, h2⟩, h3⟩, h4⟩, h5⟩, h6⟩, h7⟩, h8⟩, h9⟩, h10⟩, h11⟩, h12⟩ := h
  refine ⟨h1, h2, h3, h4, h5, h6, h7, h8, h9, ?_, h11, h12⟩
  show decide (ofLe (Crypto.hmac (s.session 1).key (requestBytes (tgOf b) b)) = (tgOf b).tag) = true
  rw [show (s.session 1).key = [1, 2, 3] from h10]
  exact decide_eq_true rfl


/-! ### Ephemeris and fire sequencing -/

namespace Heads

/-- Column 0 of the printing block, ready to be sent. -/
def col0 : Col := { col := 0, asm := true, gated := true, ticks := [4000000, 0, 0, 0], complete := true }

/-- The hypotheses of FeedbackEdgesCount can be met. -/
theorem witness_FeedbackEdgesCount :
    (let s : State := st ({ ob base [(Obj.fb_MODE, 2, 0, 1), (Obj.fb_SCALE, 2, 0, 0x1000000)] with chans := [(2, {})] }); let dt : Nat := 0; let ch : Nat := 2; let c := s.core.advance dt; let x := c.chan ch; (c.chanOn ch = true) ∧ (x.lost = false) ∧ let before : Nat := 0; let a : Nat := 1; let b : Nat := 0; (before < 4) ∧ (a < 2) ∧ (b < 2) ∧ (c.rd Obj.fb_MODE ch 0 = 1) ∧ let old := x.lev.getD before; (old < 4)) ∧
    (let s : State := st ({ ob base [(Obj.fb_MODE, 2, 0, 2), (Obj.fb_SCALE, 2, 0, 0x1000000)] with chans := [(2, { lev := some 1 })] }); let dt : Nat := 0; let ch : Nat := 2; let c := s.core.advance dt; let x := c.chan ch; (c.chanOn ch = true) ∧ (x.lost = false) ∧ let before : Nat := 0; let u : Nat := 3; (before < 8) ∧ (u < 8) ∧ (c.rd Obj.fb_MODE ch 0 = 2) ∧ let old := x.lev.getD before; (old < 8)) ∧
    (let s : State := st ({ ob base [(Obj.fb_MODE, 2, 0, 3), (Obj.fb_SCALE, 2, 0, 0x1000000),(Obj.fb_SSI_BITS,2,0,12),(Obj.fb_SSI_OPTS,2,0,7),(Obj.fb_SSI_MAX_STEP,2,0,10),(Obj.fb_SSI_PERIOD,2,0,1000)] with chans := [(2, { raw := some 5, sampleAt := some 10000 })] }); let dt : Nat := 12000; let ch : Nat := 2; let c := s.core.advance dt; let x := c.chan ch; (c.chanOn ch = true) ∧ (x.lost = false) ∧ (c.rd Obj.fb_MODE ch 0 = 3) ∧ (x.sampleAt.all (fun t => decide (t + ns (c.rd Obj.fb_SSI_PERIOD ch 0) ≤ c.clk)) = true)) ∧
    (let s : State := st ({ ob base [(Obj.fb_MODE, 2, 0, 1), (Obj.fb_SCALE, 2, 0, 0x1000000)] with chans := [(2, { lev := some 0 })] }); let dt : Nat := 0; let ch : Nat := 2; let before : Nat := 0; let a : Nat := 1; let b : Nat := 0; let c := s.core.advance dt; let x := c.chan ch; let old := x.lev.getD before; (c.chanOn ch = true) ∧ (a < 2) ∧ (b < 2) ∧ (before < 4) ∧ (c.rd Obj.fb_MODE ch 0 = 1) ∧ (x.lost = false) ∧ (old < 4) ∧ (2 * a + b ≠ old) ∧ (2 * a + b + old ≠ 3) ∧ (c.rd Obj.fb_EST_STATE ch 0 = 0) ∧ (bit (c.rd Obj.fb_TACK_TRIG ch 0) 1 = false)) := by and_intros <;> decide +kernel

/-- The hypotheses of FeedbackSignalsTakeEffect can be met. -/
theorem witness_FeedbackSignalsTakeEffect :
    (let s : State := st ({ ob base [(Obj.fb_MODE, 2, 0, 1), (Obj.fb_SCALE, 2, 0, 0x1000000)] with chans := [(2, {})] }); let dt : Nat := 0; let ch : Nat := 2; let c := s.core.advance dt; let x := c.chan ch; (c.chanOn ch = true) ∧ (x.lost = false)) ∧
    (let s : State := st ({ ob base [(Obj.fb_MODE, 2, 0, 1), (Obj.fb_SCALE, 2, 0, 0x1000000)] with chans := [(2, { lost := true })] }); let dt : Nat := 0; let ch : Nat := 2; let c := s.core.advance dt; let x := c.chan ch; (c.chanOn ch = true) ∧ (x.lost = true)) ∧
    (let s : State := st ({ ob base [(Obj.fb_MODE, 2, 0, 1), (Obj.fb_SCALE, 2, 0, 0x1000000),(Obj.fb_Z_MODE,2,0,2),(Obj.fb_COUNT,2,0,77),(Obj.fb_TACK_TRIG,2,0,4)] with chans := [(2, {})] }); let dt : Nat := 0; let ch : Nat := 2; let c := s.core.advance dt; let x := c.chan ch; (c.chanOn ch = true) ∧ (c.rd Obj.fb_MODE ch 0 = 1) ∧ (x.lost = false) ∧ (c.rd Obj.fb_Z_MODE ch 0 = 1 ∨ c.rd Obj.fb_Z_MODE ch 0 = 2)) ∧
    (let s : State := st ({ ob base [(Obj.fb_MODE, 2, 0, 1), (Obj.fb_SCALE, 2, 0, 0x1000000),(Obj.fb_EST_STATE,2,0,1),(Obj.fb_T_ZERO,2,0,100)] with chans := [(2, {})] }); let dt : Nat := 300000; let ch : Nat := 2; let c := s.core.advance dt; let x := c.chan ch; (c.chanOn ch = true) ∧ (c.rd Obj.fb_EST_STATE ch 0 ≠ 0) ∧ (x.edgeAt + us (c.rd Obj.fb_T_ZERO ch 0) ≤ c.clk)) := by and_intros <;> decide +kernel

/-- The hypotheses of TacksAreLatchedOnTime can be met. -/
theorem witness_TacksAreLatchedOnTime :
    (let s : State := st ({ ob base [(Obj.fb_MODE, 2, 0, 1), (Obj.fb_TACK_TRIG,2,0,1), (Obj.TACK_PERIOD,0,0,10000)] with chans := [(2, {lastTack := none, waiting := false})], ftAcc := 10000000*2^33 }); let dt : Nat := 0; let ch : Nat := 2; let c := s.core.advance dt; (c.tackDue ch = true) ∧ ((c.chan ch).lastTack.all (fun t => decide (t + 1000 * 65536 ≤ c.periodMark)) = true)) ∧
    (let s : State := st ({ ob base [(Obj.fb_MODE, 2, 0, 1), (Obj.fb_TACK_TRIG,2,0,1), (Obj.TACK_PERIOD,0,0,10000)] with chans := [(2, {lastTack := some (9999999*65536), waiting := false})], ftAcc := 10000000*2^33 }); let dt : Nat := 0; let ch : Nat := 2; let c := s.core.advance dt; let t := 9999999*65536; (c.tackDue ch = true) ∧ ((c.chan ch).lastTack = some t) ∧ (c.periodMark < t + 1000 * 65536)) ∧
    (let s : State := st ({ ob base [(Obj.fb_MODE, 2, 0, 1), (Obj.fb_TACK_TRIG,2,0,1), (Obj.TACK_PERIOD,0,0,10000)] with chans := [(2, {lastTack := some (9999000*65536), waiting := true})], ftAcc := 10000000*2^33 }); let dt : Nat := 0; let ch : Nat := 2; let c := s.core.advance dt; let t := 9999000*65536; (c.chanOn ch = true) ∧ ((c.chan ch).waiting = true) ∧ ((c.chan ch).lastTack = some t) ∧ (t + 1000 * 65536 ≤ c.ftQ)) ∧
    (let s : State := st ({ ob base [(Obj.fb_MODE, 2, 0, 1), (Obj.fb_TACK_TRIG,2,0,1), (Obj.TACK_PERIOD,0,0,10000)] with chans := [(2, {lastTack := none, waiting := true})], ftAcc := 10000000*2^33 }); let dt : Nat := 0; let ch : Nat := 2; let c := s.core.advance dt; (c.chanOn ch = true) ∧ ((c.chan ch).waiting = true) ∧ ((c.chan ch).lastTack = none)) ∧
    (let s : State := st ({ ob base [(Obj.PACE_SRC,0,0,9),(Obj.TACK_PERIOD,0,0,10000)] with ftAcc := 10000000*2^33 }); let dt : Nat := 0; let c := s.core.advance dt; (c.running = true) ∧ (c.rd0 Obj.PACE_SRC = 9) ∧ (c.pred.cmdLatched.all (fun t => decide (t < c.periodMark)) = true)) ∧
    (let s : State := st ({ ob base [(Obj.PACE_SRC,0,0,10)] with ftAcc := 10000000*2^33 }); let dt : Nat := 0; let c := s.core.advance dt; (c.running = true) ∧ (c.rd0 Obj.PACE_SRC = 10) ∧ (c.pred.newest.all (fun t => decide (t + c.rd0 Obj.TACK_AGE_MAX * 65536 < c.ftQ)) = true) ∧ (c.pred.staleRaised = false)) ∧
    (let s : State := st ({ ob base [(Obj.fb_MODE, 2, 0, 1), (Obj.fb_TACK_TRIG,2,0,1), (Obj.TACK_PERIOD,0,0,10000)] with chans := [(2, {lastTack := none, waiting := false})], ftAcc := 10000000*2^33 }); let dt : Nat := 0; let ch : Nat := 2; let c := s.core.advance dt; let x := c.chan ch; (c.tackDue ch = true) ∧ (x.lastTack.all (fun t => decide (t + 1000 * 65536 ≤ c.periodMark)) = true) ∧ (c.rd0 Obj.PACE_SRC ≠ ch + 1)) := by and_intros <;> decide +kernel

/-- The hypotheses of PredictionAndRounding can be met. -/
theorem witness_PredictionAndRounding :
    (let h : Rat := 1; let tau : Rat := 1; (tau ≤ h)) ∧
    (let h : Rat := 1; let tau : Rat := 2; (h < tau)) ∧
    (let t : Int := 81920; (0 ≤ t)) := by and_intros <;> decide +kernel

/-- The hypotheses of ColumnsAreGatedAndSent can be met. -/
theorem witness_ColumnsAreGatedAndSent :
    (let s : State := st ({ ob (pr 9999000) [(Obj.PACE_SRC,0,0,1)] with chans := [(0, { lost := true })] }); let dt : Nat := 0; let p : Nat := 0; let c := s.core.advance dt; (p < 64) ∧ let pg := page0; let g := ((pr 9999000).gateAt 0 0).getD 0; (c.spit = none) ∧ (c.inPrint = true) ∧ (c.activePort p = true) ∧ (c.pageOf (c.gateCol p) = some pg) ∧ (c.gateAt p (c.gateCol p) = some g) ∧ (c.belowSeam (c.gateCol p) = true) ∧ (g ≤ (c.ftQ : Int)) ∧ ((c.mode = .printScan → c.feedMoving = false)) ∧ (c.pacingLost = true)) ∧
    (let s : State := st (pr 9990000); let dt : Nat := 0; let p : Nat := 0; let c := s.core.advance dt; (p < 64) ∧ let pg := page0; let g := ((pr 9990000).gateAt 0 0).getD 0; (c.spit = none) ∧ (c.inPrint = true) ∧ (c.activePort p = true) ∧ (c.pageOf (c.gateCol p) = some pg) ∧ (c.gateAt p (c.gateCol p) = some g) ∧ (c.belowSeam (c.gateCol p) = true) ∧ (g ≤ (c.ftQ : Int)) ∧ ((c.mode = .printScan → c.feedMoving = false)) ∧ let ticks := [4000000,0,0,0]; (c.pacingLost = false) ∧ (c.solveTicks pg (pg.own c) p (c.gateCol p - pg.base) = some ticks)) ∧
    (let s : State := st ({ pr 9998000 with spit := some ⟨1,0,0,0,0⟩, ports := [(0, { enumerated := true, cols := [{ col := 0, run := true, ticks := [4000000,0,0,0] }] })] }); let dt : Nat := 0; let p : Nat := 0; let c := s.core.advance dt; (p < 64) ∧ let r := { col := 0, run := true, ticks := [4000000,0,0,0] }; let g := (({ pr 9998000 with spit := some ⟨1,0,0,0,0⟩, ports := [(0, { enumerated := true, cols := [{ col := 0, run := true, ticks := [4000000,0,0,0] }] })] } : Core).gateAt 0 0).getD 0; (c.spit.isSome = true) ∧ (c.link p = lkReady) ∧ ((c.port p).cols.find? (fun r => r.run && !r.gated && !r.settled) = some r) ∧ (c.gateAt p r.col = some g) ∧ (g ≤ (c.ftQ : Int))) ∧
    (let s : State := st ({ pr 9972000 with ports := [(0, { enumerated := true, cols := [col0] })] }); let dt : Nat := 0; let p : Nat := 0; let c := s.core.advance dt; (p < 64) ∧ let r := col0; (c.link p = lkReady) ∧ ((c.inPrint = true ∨ c.spit.isSome = true)) ∧ (c.nextFrame p = some r) ∧ ((c.port p).roomFor r.col = true) ∧ (c.armed .ackWait p = false) ∧ ((c.port p).cfgWait = false) ∧ ((r.run = true ∨ c.belowSeam r.col = true)) ∧ (c.inTime p r = false)) ∧
    (let s : State := st ({ pr 9950000 with ports := [(0, { enumerated := true, cols := [col0] })] }); let dt : Nat := 0; let p : Nat := 0; let c := s.core.advance dt; (p < 64) ∧ let r := col0; (c.link p = lkReady) ∧ ((c.inPrint = true ∨ c.spit.isSome = true)) ∧ (c.nextFrame p = some r) ∧ ((c.port p).roomFor r.col = true) ∧ (c.armed .ackWait p = false) ∧ ((c.port p).cfgWait = false) ∧ ((r.run = true ∨ c.belowSeam r.col = true)) ∧ (c.inTime p r = true)) := by and_intros <;> decide +kernel

/-- The hypotheses of FireDeadlinesAndClocks can be met. -/
theorem witness_FireDeadlinesAndClocks :
    (let s : State := st (pr 9999000); let dt : Nat := 0; let p : Nat := 0; let j : Nat := 0; let c := s.core.advance dt; (p < 64) ∧ ((c.isStandby && c.sharedPort p) = false) ∧ ((c.port p).away = false) ∧ (c.inPrint = true) ∧ (c.activePort p = true) ∧ ((c.colOf p j).run = false) ∧ ((c.port p).floor ≤ j) ∧ ((c.pageOf j).isSome = true) ∧ (c.belowSeam j = true) ∧ (c.isDropped j = false) ∧ ((c.colOf p j).settled = false) ∧ (c.rasterLate p j = true)) ∧
    (let s : State := st ({ pr 9999000 with ports := [(0, { enumerated := true, cols := [{ col0 with complete := false }] })] }); let dt : Nat := 0; let p : Nat := 0; let j : Nat := 0; let c := s.core.advance dt; (p < 64) ∧ ((c.isStandby && c.sharedPort p) = false) ∧ ((c.port p).away = false) ∧ (c.inPrint = true) ∧ (c.activePort p = true) ∧ ((c.colOf p j).run = false) ∧ ((c.port p).floor ≤ j) ∧ ((c.pageOf j).isSome = true) ∧ (c.belowSeam j = true) ∧ (c.isDropped j = false) ∧ ((c.colOf p j).settled = false) ∧ (c.rasterLate p j = false) ∧ ((c.colOf p j).sent = false) ∧ (c.inTime p (c.colOf p j) = false)) ∧
    (let s : State := st ({ pr 9999000 with ports := [(0, { enumerated := true, away := true })] }); let dt : Nat := 0; let p : Nat := 0; let j : Nat := 0; let c := s.core.advance dt; (p < 64) ∧ ((c.port p).away = true) ∧ (c.inPrint = true) ∧ ((c.pageOf j).isSome = true) ∧ (c.belowSeam j = true) ∧ (c.rasterLate p j = true)) ∧
    (let s : State := st (due base [(.validation,3)]); let dt : Nat := 0; let p : Nat := 3; let c := s.core.advance dt; (c.due .validation p = true)) ∧
    (let s : State := st ({ ob base [(Obj.spat_COLUMNS,1,0,8)] with ftAcc := 10000000*2^33, spit := some ⟨1,0,0,0,0⟩ }); let dt : Nat := 0; let c := s.core.advance dt; let x := ⟨1,0,0,0,0⟩; (c.spit = some x) ∧ (ofTick (x.startTick + x.next * x.step) ≤ (c.ftQ : Int))) ∧
    (let s : State := st (ob (pr 0) [(Obj.OS_COLS,0,0,4),(Obj.OS_RUN,0,0,5)]); let dt : Nat := 0; let c := s.core.advance dt; (c.inPrint = true) ∧ (c.rd0 Obj.OS_COLS < c.rd0 Obj.OS_RUN)) := by and_intros <;> decide +kernel

/-- The hypotheses of BobbinUnitsAndLoad can be met. -/
theorem witness_BobbinUnitsAndLoad :
    (let s : State := st ({ pr 9900000 with ports := [(0, { enumerated := true, cols := [{ col := 0, asm := true, fire := [1,2] }] })]  }); let dt : Nat := 0; let c := s.core.advance dt; let p := 0; let j := 0; let q := 0; (c.running = true) ∧ (c.mode ≠ .safe) ∧ (c.lanes.length < 8) ∧ (c.nextUnit = some (p, j, q))) ∧
    (let s : State := st ({ pr 9900000 with ports := [(0, { enumerated := true, cols := [{ col := 0, asm := true, fire := [1,2] }] })]  }); let dt : Nat := 0; let c := s.core.advance dt; let p := 0; let j := 0; let q := 0; (c.running = true) ∧ (c.mode ≠ .safe) ∧ (c.lanes.length < 8) ∧ (c.nextUnit = some (p, j, q))) ∧
    (let s : State := st ({ base with lanes := [(0,7,1)] }); let dt : Nat := 0; let c := s.core.advance dt; let p := 0; let j := 7; let q := 1; let rest := []; (c.lanes = (p, j, q) :: rest) ∧ (((c.port p).colAt j).all (fun r => r.lost || r.dropped) = true)) ∧
    (let s : State := st ({ pr 9900000 with ports := [(0, { enumerated := true, cols := [{ col := 0, asm := true, fire := [1,2], units := 3, unitsDone := 1 }] })] , lanes := [(0,0,1)] }); let dt : Nat := 0; let c := s.core.advance dt; let p := 0; let j := 0; let q := 1; let rest := []; let r := { col := 0, asm := true, fire := [1,2], units := 3, unitsDone := 1 }; (c.lanes = (p, j, q) :: rest) ∧ ((c.port p).colAt j = some r) ∧ (r.lost = false) ∧ (r.dropped = false)) ∧
    (let s : State := st ({ pr 9999000 with ports := [(0, { enumerated := true, cols := [{ col := 0, asm := true, fire := [1,2] }] })]  }); let dt : Nat := 0; let c := s.core.advance dt; let p := 0; let j := 0; (c.isLate p j = true)) ∧
    (let s : State := st ({ due base [(.loadWindow,0)] with bobCycles := 1000 }); let dt : Nat := 0; let c := s.core.advance dt; (c.due .loadWindow 0 = true) ∧ (c.rd0 Obj.LOAD_WARN ≥ roundDivNat (c.bobCycles * 327680) (96 * 1048576))) ∧
    (let sink : Int := -5; (-((2 : Int) ^ 31) ≤ sink) ∧ (sink < (2 : Int) ^ 31)) ∧
    (let t : Int := 1000; let sink : Int := -5; let aDecay : Nat := 4294967295; (sink ≤ t) ∧ (t < (2 : Int) ^ 31) ∧ (-((2 : Int) ^ 31) ≤ sink) ∧ (aDecay < 2 ^ 32)) := by and_intros <;> decide +kernel

/-- The hypotheses of EnergyScalingRoundsToNearest can be met. -/
theorem witness_EnergyScalingRoundsToNearest :
    (let x : Nat := 0xFFFFFFFF; let f : Nat := 0xFFFF; (x < 2 ^ 32) ∧ (f < 2 ^ 16)) ∧
    (let x : Nat := 0xFFFFFFFF; let f : Nat := 0xFFFF; (x < 2 ^ 32) ∧ (f < 2 ^ 16)) ∧
    (let x : Nat := 1000001; let f : Nat := 0x3FFF; (x < 2 ^ 32) ∧ (f < 2 ^ 16) ∧ let m := scaleE x f; (m < 0xFFFFFFFF)) ∧
    (let x : Nat := 1000001; let f : Nat := 0x3FFF; (x < 2 ^ 32) ∧ (f < 2 ^ 16)) := by and_intros <;> decide +kernel

end Heads

/-! ### Bobbin, Thread and Thimble -/

namespace Thimbles

/-- The hypotheses of BringUpStepsFollow can be met. -/
theorem witness_BringUpStepsFollow :
    (let s : State := st (ob base [(Obj.port_PORT_ENABLE,3,0,1)]); let dt : Nat := 0; let p : Nat := 3; let c := s.core.advance dt; (allPorts.find? (fun p => c.rdB Obj.port_PORT_ENABLE p 0 && decide (c.link p = lkOff) && c.strapAllows p) = some p) ∧ (c.mayBringUp = true) ∧ ((allPorts.filter c.inBringup).length < c.rd0 Obj.ENUM_PARALLEL) ∧ (p < 64)) ∧
    (let s : State := st (due (ob base [(Obj.port_LINK_STATE,3,0,1)]) [(.hpSettle,3)]); let dt : Nat := 0; let p : Nat := 3; let c := s.core.advance dt; (p < 64) ∧ (c.link p = lkPower) ∧ (c.due .hpSettle p = true)) ∧
    (let s : State := st (ob base [(Obj.port_LINK_STATE,3,0,2)]); let dt : Nat := 0; let p : Nat := 3; let c := s.core.advance dt; (p < 64) ∧ (c.link p = lkTrain)) ∧
    (let s : State := st (ob base [(Obj.port_LINK_STATE,3,0,7)]); let dt : Nat := 0; let p : Nat := 3; let c := s.core.advance dt; (p < 64) ∧ (c.link p = lkRetrain)) ∧
    (let s : State := st (due (ob base [(Obj.port_LINK_STATE,3,0,2)]) [(.linkState,3)]); let dt : Nat := 0; let p : Nat := 3; let c := s.core.advance dt; (p < 64) ∧ (c.link p = lkTrain) ∧ (c.due .linkState p = true) ∧ ((c.port p).trainFails < 2)) ∧
    (let s : State := st ({ due (ob base [(Obj.port_LINK_STATE,3,0,2)]) [(.linkState,3)] with ports := [(3,{trainFails := 2})] }); let dt : Nat := 0; let p : Nat := 3; let c := s.core.advance dt; (c.link p = lkTrain) ∧ (c.due .linkState p = true) ∧ (2 ≤ (c.port p).trainFails)) ∧
    (let s : State := st (due (ob base [(Obj.port_LINK_STATE,3,0,7)]) [(.linkState,3)]); let dt : Nat := 0; let p : Nat := 3; let c := s.core.advance dt; (c.link p = lkRetrain) ∧ (c.due .linkState p = true)) := by and_intros <;> decide +kernel

/-- The hypotheses of LinkIsMeasuredAndWatched can be met. -/
theorem witness_LinkIsMeasuredAndWatched :
    (let s : State := st (ob base [(Obj.port_LINK_STATE,3,0,3)]); let dt : Nat := 0; let p : Nat := 3; let c := s.core.advance dt; let b := crcd ([0x83] ++ leBytes 3 0 ++ leBytes 4 640 ++ leBytes 4 0); (p < 64) ∧ ((c.link p = lkAlign ∨ c.link p = lkRetrain)) ∧ ((c.port p).echoes.length < 7) ∧ (goodFrame 0x83 16 b = true)) ∧
    (let s : State := st ({ ob base [(Obj.port_LINK_STATE,3,0,3)] with ports := [(3,{echoes := [1,2,3,4,5,6,7]})] }); let dt : Nat := 0; let p : Nat := 3; let c := s.core.advance dt; let b := crcd ([0x83] ++ leBytes 3 0 ++ leBytes 4 640 ++ leBytes 4 0); (p < 64) ∧ ((c.link p = lkAlign ∨ c.link p = lkRetrain)) ∧ ((c.port p).echoes.length = 7) ∧ (goodFrame 0x83 16 b = true)) ∧
    (let s : State := st (ob base [(Obj.port_LINK_STATE,3,0,5)]); let dt : Nat := 0; let p : Nat := 3; let c := s.core.advance dt; let b := [1,2]; (p < 64) ∧ (c.running = true) ∧ (c.link p = lkReady) ∧ (goodFrame 0x81 32 b = false)) ∧
    (let s : State := st (ob base [(Obj.port_LINK_STATE,3,0,3)]); let dt : Nat := 0; let p : Nat := 3; let c := s.core.advance dt; let b := crcd ([0x81, 0] ++ leBytes 26 0); let f := leAt b 1 1; (p < 64) ∧ (c.running = true) ∧ (c.link p = lkAlign) ∧ ((c.port p).finalTime = false) ∧ (goodFrame 0x81 32 b = true) ∧ (bit f 1 = false) ∧ (bit f 3 = false) ∧ (bit f 5 = false)) ∧
    (let s : State := st ({ due (ob base [(Obj.port_LINK_STATE,3,0,5)]) [(.ackWait,3)] with ports := [(3,{cols := [{col := 5, sent := true}]})] }); let dt : Nat := 0; let p : Nat := 3; let c := s.core.advance dt; (c.due .ackWait p = true) ∧ let r := {col := 5, sent := true}; ((c.port p).outstanding = some r)) ∧
    (let s : State := st (due (ob base [(Obj.port_LINK_STATE,3,0,5)]) [(.statusWait,3)]); let dt : Nat := 0; let p : Nat := 3; let c := s.core.advance dt; (c.due .statusWait p = true) ∧ ((c.link p = lkAlign ∨ c.sbUp p = true))) ∧
    (let s : State := st ({ ob base [(Obj.port_LINK_STATE,3,0,5)] with ports := [(3,{rxErr := 127})] }); let dt : Nat := 0; let p : Nat := 3; let c := s.core.advance dt; (p < 64) ∧ (c.link p = lkAlign ∨ c.sbUp p = true)) ∧
    (let s : State := st (due (ob base [(Obj.port_LINK_STATE,3,0,5)]) [(.timePeriod,3)]); let dt : Nat := 0; let p : Nat := 3; let c := s.core.advance dt; (c.due .timePeriod p = true) ∧ (c.sbUp p = true)) := by and_intros <;> decide +kernel

/-- The hypotheses of SidebandAnswersAndTimeouts can be met. -/
theorem witness_SidebandAnswersAndTimeouts :
    (let s : State := st ({ ob base [(Obj.port_LINK_STATE,3,0,5)] with ports := [(3,{req := some ⟨7,3,1,1,0,[],0⟩, conv := some {conv := 3}})] }); let dt : Nat := 0; let p : Nat := 3; let c := s.core.advance dt; let b := crcd ([0x82,7,3,1] ++ leBytes 2 1 ++ leBytes 2 0 ++ leBytes 4 1); let r := ⟨7,3,1,1,0,[],0⟩; let v := {conv := 3}; (p < 64) ∧ (c.sbUp p = true) ∧ (leAt b 6 2 ≤ 256) ∧ (goodFrame 0x82 (16 + leAt b 6 2) b = true) ∧ ((c.port p).req = some r) ∧ ((c.port p).conv = some v) ∧ (r.op ≠ opSync) ∧ ((leAt b 1 1 = r.seq ∧ leAt b 2 1 = r.conv ∧ leAt b 3 1 = r.op ∧ leAt b 4 2 = r.step))) ∧
    (let s : State := st ({ ob base [(Obj.port_LINK_STATE,3,0,5)] with ports := [(3,{req := some ⟨8,3,1,1,0,[],0⟩, conv := some {conv := 3}})] }); let dt : Nat := 0; let p : Nat := 3; let c := s.core.advance dt; let b := crcd ([0x82,7,3,1] ++ leBytes 2 1 ++ leBytes 2 0 ++ leBytes 4 1); let r := ⟨8,3,1,1,0,[],0⟩; (p < 64) ∧ (c.sbUp p = true) ∧ (leAt b 6 2 ≤ 256) ∧ (goodFrame 0x82 (16 + leAt b 6 2) b = true) ∧ ((c.port p).req = some r) ∧ (leAt b 1 1 ≠ r.seq)) ∧
    (let s : State := st ({ due (ob base [(Obj.port_LINK_STATE,3,0,5)]) [(.sbWait,3)] with ports := [(3,{req := some ⟨8,3,1,1,0,[],2⟩, conv := some {conv := 3}})] }); let dt : Nat := 0; let p : Nat := 3; let c := s.core.advance dt; let r := ⟨8,3,1,1,0,[],2⟩; ((c.port p).req = some r) ∧ (c.due .sbWait p = true)) ∧
    (let s : State := st ({ due (ob base [(Obj.port_LINK_STATE,3,0,5)]) [(.sbPending,3)] with ports := [(3,{req := some ⟨7,3,1,1,0,[],0⟩, conv := some {conv := 3}})] }); let dt : Nat := 0; let p : Nat := 3; let c := s.core.advance dt; (c.due .sbPending p = true)) ∧
    (let s : State := st ({ due (ob base [(Obj.PAIR_STATE,0,0,4)]) [(.takeRetry,3)] with ports := [(3,{takes := 1})] }); let dt : Nat := 0; let p : Nat := 3; let c := s.core.advance dt; (c.due .takeRetry p = true) ∧ ((c.port p).takes ≠ 0) ∧ (c.rd0 Obj.PAIR_STATE = 4) ∧ (c.link p ≠ lkAborted)) := by and_intros <;> decide +kernel

/-- The hypotheses of MeasurementsAndSweepsRun can be met. -/
theorem witness_MeasurementsAndSweepsRun :
    (let s : State := st ({ ob base [(Obj.port_LINK_STATE,2,0,5)] with measPending := 4 }); let dt : Nat := 0; let k : Nat := 1; let c := s.core.advance dt; let a := c.afeOf k; let p := 2; (c.mode ≠ .safe) ∧ (c.running = true) ∧ (k < 32) ∧ (chanPort c.measPending k = some p) ∧ (a.kind = 2 ∨ c.chanFree k = true)) ∧
    (let s : State := st ({ due (base) [(.tsrSettle,1)] with afe := [(1,{kind := 1, port := 2})] }); let dt : Nat := 0; let k : Nat := 1; let c := s.core.advance dt; let a := c.afeOf k; (c.due .tsrSettle k = true) ∧ (a.kind = 1)) ∧
    (let s : State := st ({ due (ob base [(Obj.TSR_NOM,0,2,6553600),(Obj.TSR_ALPHA,0,2,8000000)]) [(.tsrIntegrate,1)] with afe := [(1,{kind := 1, port := 2, force := 100})] }); let dt : Nat := 0; let k : Nat := 1; let c := s.core.advance dt; let a := c.afeOf k; (c.due .tsrIntegrate k = true) ∧ (a.kind = 1)) ∧
    (let s : State := st ({ ob base [(Obj.SWEEP_PENDING,0,0,4),(Obj.port_LINK_STATE,2,0,5)] with mode := .ready }); let dt : Nat := 0; let k : Nat := 1; let c := s.core.advance dt; let p := 2; (c.chanFree k = true) ∧ (k < 32) ∧ (chanPort c.measPending k = none) ∧ ([2 * k, 2 * k + 1].find? c.sweepable = some p)) ∧
    (let s : State := st ({ ob base [(Obj.port_DIE_GEOM,2,0,0x120),(Obj.R_OPEN,0,0,1000),(Obj.R_SHORT,0,0,100),(Obj.port_LINK_STATE,2,0,5)] with ports := [(2,{enumerated := true})], afe := [(1,{kind := 2, port := 2, armed := true, force := 1000})], ftAcc := 10000000*2^33 }); let dt : Nat := 0; let k : Nat := 1; let c := s.core.advance dt; let a := c.afeOf k; let p := a.port; let i := c.rd Obj.SWEEP_NEXT 0 p; (a.kind = 2) ∧ (a.armed = true) ∧ (ofTick (a.start + (i + 1 - a.base) * 640) ≤ (c.ftQ : Int)) ∧ (i < 16 * c.nPrim p) ∧ (c.link p = lkReady)) ∧
    (let r : Nat := 0xFFFF; let open_ : Nat := 0xFFFF; let weak : Nat := 1; let dead : Nat := 1; (weak ≤ dead) ∧ (r = 0xFFFF ∨ open_ < r)) ∧
    (let r : Nat := 9; let open_ : Nat := 0xFFFF; let short_ : Nat := 10; let weak : Nat := 1; let dead : Nat := 1; (weak ≤ dead) ∧ (r ≠ 0xFFFF) ∧ (r ≤ open_) ∧ (r < short_)) ∧
    (let r : Nat := 10; let open_ : Nat := 10; let short_ : Nat := 10; let base : Nat := 0; let weak : Nat := 1; let dead : Nat := 1; (weak ≤ dead) ∧ (r ≠ 0xFFFF) ∧ (r ≤ open_) ∧ (short_ ≤ r) ∧ (base = 0)) ∧
    (let r : Nat := 15; let open_ : Nat := 20; let short_ : Nat := 10; let base : Nat := 10; let weak : Nat := 16384; let dead : Nat := 16384; (weak ≤ dead) ∧ (r ≠ 0xFFFF) ∧ (r ≤ open_) ∧ (short_ ≤ r) ∧ (base ≠ 0)) := by and_intros <;> decide +kernel

/-- The hypotheses of JunctionModelAndSupplies can be met. -/
theorem witness_JunctionModelAndSupplies :
    (let s : State := st ({ base with jsRunning := 8 }); let dt : Nat := 0; let c := s.core.advance dt; (c.jsRunning ≠ 0)) ∧
    (let s : State := st ({ base with ports := [(3,{})], ftAcc := 8192*2^33 }); let dt : Nat := 0; let c := s.core.advance dt; let p := 3; (c.running = true) ∧ (p ∈ c.ports.map Prod.fst) ∧ ((c.ports.map Prod.fst).Nodup) ∧ ((∀ q ∈ c.ports.map Prod.fst, (c.port q).therm.waiting = [])) ∧ ((c.port p).therm.step + 1 = c.ftNs / 8192)) ∧
    (let s : State := st (ob base [(Obj.RAIL_STATE,0,0,0x3FF)]); let dt : Nat := 0; let c := s.core.advance dt; (c.running = true ∨ c.phase = .waking) ∧ (c.rd0 Obj.RAIL_STATE = 0x3FF)) ∧
    (let s : State := st (ob base [(Obj.hsv_HS_PORTS,15,0,8)]); let dt : Nat := 0; let c := s.core.advance dt; let i := 15; (c.running = true ∨ c.phase = .waking) ∧ (i < 16)) := by and_intros <;> decide +kernel

/-- The hypotheses of ThimbleCommitsAndJournal can be met. -/
theorem witness_ThimbleCommitsAndJournal :
    (let s : State := st ({ due (ob base [(Obj.port_LINK_STATE,3,0,5),(Obj.PENDING_PL,0,3,128)]) [(.commitPeriod,3)] with ports := [(3,{thim := { authed := true, nextStep := 65535 }})] }); let dt : Nat := 0; let p : Nat := 3; let c := s.core.advance dt; (c.due .commitPeriod p = true)) ∧
    (let s : State := st ({ ob base [(Obj.port_LINK_STATE,3,0,5),(Obj.DROPS_PENDING,0,3,2^24)] with ports := [(3,{thim := { sending := true }})] }); let dt : Nat := 0; let p : Nat := 3; let c := s.core.advance dt; (p < 64) ∧ (2 ^ 24 ≤ c.rd Obj.DROPS_PENDING 0 p)) ∧
    (let s : State := st ({ due (ob base [(Obj.port_LINK_STATE,3,0,5)]) [(.leaveCommit,3)] with ports := [(3,{closing := true})] }); let dt : Nat := 0; let p : Nat := 3; let c := s.core.advance dt; (c.due .leaveCommit p = true) ∧ ((c.port p).closing = true) ∧ (c.link p ≠ lkAborted)) ∧
    (let s : State := st ({ due (ob base [(Obj.port_LINK_STATE,3,0,5)]) [(.thimJournal,3)] with ports := [(3,{thim := { changed := true }})] }); let dt : Nat := 0; let p : Nat := 3; let c := s.core.advance dt; let x := (c.port p).thim; (c.due .thimJournal p = true) ∧ (x.changed = true)) ∧
    (let s : State := st ({ due (ob base [(Obj.port_LINK_STATE,3,0,5)]) [(.thimJournal,3)] with ports := [(3,{thim := { changed := true }})] }); let dt : Nat := 0; let p : Nat := 3; let c := s.core.advance dt; let x := (c.port p).thim; (c.due .thimJournal p = true) ∧ (x.changed = true)) ∧
    (let s : State := st ({ ob base [(Obj.THIM_GRACE,0,0,1)] with mode := .printWeb, clk := 2000001, ports := [(3,{thim := {first := some 0}})] }); let dt : Nat := 0; let p : Nat := 3; let c := s.core.advance dt; let x := (c.port p).thim; let t := c.disarm .commitPeriod p; let t := 0; (c.inPrint = true) ∧ (x.overdue = false) ∧ (x.first = some t) ∧ (t + ms (c.rd0 Obj.THIM_GRACE) < c.clk)) := by and_intros <;> decide +kernel

end Thimbles

/-! ### The raster path, Avone, the stream -/

namespace Rasters

/-- The printing block with its page's lines all marked done. -/
def prd (t : Nat) (pg : Page) : Core := { pr t with pages := [pg] }
/-- Its page. -/
def paged : Page := { page0 with done := [(0, 16)], mask := 255, blocks := [⟨0, 36, 0, 0, 1, 0, 16, 7, false, true, false, false, false, [255, 255, 255, 255]⟩] }
/-- Plane map with row-group 0 of port 0 printing. -/
def rgp : RowGroup := ⟨0, 0, 2 ^ 40, [0, 1], 0, 0⟩
/-- Nozzle n dead. -/
def dead (l : List Nat) : Core := ob (pr 0) (l.map (fun n => (Obj.NOZZLE_MAP, 0, n, 0x20)))
/-- An empty assembly. -/
def asm0 : Assembly := ⟨List.replicate 64 0, [], [0, 0, 0, 0, 0], []⟩
/-- Address of Spool bank 7, which Avone owns. -/
def av0 : Nat := spoolBase + 7 * 0x80000
/-- A block header. -/
def hd (coding tl body crc : Nat) : List Byte := [0x41, 0x56, 1, BitVec.ofNat 8 (4 * coding), 0, 1] ++ leBytes 2 tl ++ leBytes 4 0 ++ leBytes 4 0 ++ leBytes 4 16 ++ leBytes 4 4 ++ leBytes 4 body ++ leBytes 4 crc
/-- A block with decoder 3 at work. -/
def dc (st : Nat) (x : Decoder) : Core := { ob base [(Obj.dec_DEC_STATE, 3, 0, st), (Obj.ISLAND_STATE, 0, 0x49, 2)] with decs := [(3, x)] }

/-- A block not yet decoded. -/
def wb : Block := ⟨av0, 20, 0, 0, 1, 0, 16, 7, false, false, false, false, false, []⟩
/-- A page with it. -/
def wp : Page := { page0 with done := [(0, 16)], blocks := [wb] }

/-- A stream datagram for stream 5 with DSEQ n. -/
def dgm (id n : Nat) : List Byte := streamDgram 1 1 id n [1, 2, 3]
/-- A block with stream 5 OPEN. -/
def strm : Core := ob base [(Obj.STREAM_STATE, 0, 0, 1), (Obj.STREAM_HOST, 0, 0, 77), (Obj.STREAM_ID, 0, 0, 5), (Obj.NEXT_DSEQ, 0, 0, 10), (Obj.STAGE_SIZE, 0, 0, 2 ^ 20), (Obj.STAGE_BASE, 0, 0, spoolBase + 6 * 0x80000), (Obj.ISLAND_STATE, 0, 0x49, 2)]
/-- The block with a record at the front of the stream. -/
def recd (c : Core) (t : Nat) (body : List Byte) : Core := { c with stream := { c.stream with bytes := leBytes 1 t ++ [0, 0, 0] ++ leBytes 4 body.length ++ leBytes 4 c.stream.ssn ++ body } }
/-- A stream within page 1 of a job. -/
def inPage : Core := { strm with pages := [{ page0 with started := false, base := 0, cols := 0 }], job := { active := true }, stream := { place := 2, last := some (1, 0, true), ssn := 9 } }

/-- The printing block with its page still to start. -/
def pns : Core := { pr 0 with pages := [{ page0 with started := false, base := 0, cols := 0, mask := 255 }] }

/-- No bank of Spool is Avone's. -/
def pnsWide : Core := ob pns ((List.range 50).map (fun b => (Obj.SB_OWNER, 0, b, 0)))
/-- A block's staging in DRAM, the record at its front. -/
def stg : Core := (ob inPage [(Obj.DRAM_SIZE, 0, 0, 2 ^ 30), (Obj.STAGE_BASE, 0, 0, 2 ^ 20), (Obj.DRAM_STATE, 0, 0, 3), (Obj.ISLAND_STATE, 0, 0x44, 2), (Obj.dma_BUCKET, 0, 0, 1000)]).fixTokens 0 8000
/-- The same with tokens for some bytes only. -/
def stgShort : Core := (ob stg [(Obj.dma_BUCKET, 0, 0, 2)]).fixTokens 0 16
/-- The same with the DRAM out of use. -/
def stgLost : Core := ob stg [(Obj.DRAM_STATE, 0, 0, 0)]

/-- The hypotheses of ColumnsAreAssembled can be met. -/
theorem witness_ColumnsAreAssembled :
    (let s : State := st (prd 9999000 paged); let dt : Nat := 0; let p : Nat := 0; let pg : Page := paged; let c0 := s.core.advance dt; let c := if c0.pair.due.isEmpty then c0 else c0.applyDue (c0.nextAssembly p); let j := c.nextAssembly p; let shared := c.isStandby && c.sharedPort p; (p < 64) ∧ (c.inPrint = true) ∧ (c.activePort p = true) ∧ (c.pageOf j = some pg) ∧ (c.belowSeam j = true) ∧ (shared = false) ∧ (c.rasterLate p j = true)) ∧
    (let s : State := st (prd 9900000 paged); let dt : Nat := 0; let p : Nat := 0; let pg : Page := paged; let c0 := s.core.advance dt; let c := if c0.pair.due.isEmpty then c0 else c0.applyDue (c0.nextAssembly p); let j := c.nextAssembly p; let k := j - pg.base; let shared := c.isStandby && c.sharedPort p; (p < 64) ∧ (c.inPrint = true) ∧ (c.activePort p = true) ∧ (c.pageOf j = some pg) ∧ (c.belowSeam j = true) ∧ (shared = true ∨ c.rasterLate p j = false) ∧ (k < availCols pg (pg.own c)) ∧ (c.colResident pg (pg.own c) p k = true)) ∧
    (let s : Core := dead [0]; let pg : Page := paged; let m : PlaneMap := (pr 0).presentMap; let r : RowGroup := rgp; let q : Option RowGroup := some ⟨0,1,2*2^40,[1],0,0⟩; let c : Nat := 0; let k : Nat := 0; let a : Assembly := asm0; (a.counts.length = 5) ∧ (s.isDonor r k = true) ∧ (s.ownBit pg m r k c = true) ∧ (q.any (fun p => s.partnerOk pg m r p k c) = true)) ∧
    (let s : Core := dead [0]; let pg : Page := paged; let m : PlaneMap := (pr 0).presentMap; let r : RowGroup := rgp; let q : Option RowGroup := none; let c : Nat := 0; let k : Nat := 0; let a : Assembly := asm0; (a.counts.length = 5) ∧ (s.isDonor r k = true) ∧ (s.ownBit pg m r k c = true) ∧ (q.any (fun p => s.partnerOk pg m r p k c) = false) ∧ let a' := asm0.put 1; (s.pushTo r c a k = some a')) ∧
    (let s : Core := dead [0,1]; let pg : Page := paged; let m : PlaneMap := (pr 0).presentMap; let r : RowGroup := rgp; let q : Option RowGroup := none; let c : Nat := 0; let k : Nat := 0; let a : Assembly := asm0; (a.counts.length = 5) ∧ (s.isDonor r k = true) ∧ (s.ownBit pg m r k c = true) ∧ (q.any (fun p => s.partnerOk pg m r p k c) = false) ∧ (s.pushTo r c a k = none)) ∧
    (let s : Core := dead [0,1]; let pg : Page := paged; let m : PlaneMap := (pr 0).presentMap; let base : Nat → Nat := fun _ => 3; let r : RowGroup := rgp; let q : Option RowGroup := none; let c : Nat := 0; let k : Nat := 0; let a : Assembly := asm0; (a.counts.length = 5) ∧ (s.isDonor r k = true) ∧ (s.ownBit pg m r k c = true) ∧ let n := r.nozzleId k; (q.any (fun p => s.partnerOk pg m r p k c) = false) ∧ (s.pushTo r c a k = none) ∧ (a.carryOf base n < 15)) ∧
    (let s : Core := dead [0,1]; let pg : Page := paged; let m : PlaneMap := (pr 0).presentMap; let base : Nat → Nat := fun _ => 15; let r : RowGroup := rgp; let q : Option RowGroup := none; let c : Nat := 0; let k : Nat := 0; let a : Assembly := asm0; (a.counts.length = 5) ∧ (s.isDonor r k = true) ∧ (s.ownBit pg m r k c = true) ∧ let n := r.nozzleId k; (q.any (fun p => s.partnerOk pg m r p k c) = false) ∧ (s.pushTo r c a k = none) ∧ (15 ≤ a.carryOf base n)) ∧
    (let s : Core := dead [0,1]; let pg : Page := paged; let m : PlaneMap := (pr 0).presentMap; let r : RowGroup := rgp; let c : Nat := 0; let k : Nat := 0; let a : Assembly := asm0; (a.counts.length = 5) ∧ (s.isDonor r k = true) ∧ (s.ownBit pg m r k c = true) ∧ let n := r.nozzleId k; let n' := 1; (n' ≠ n)) ∧
    (let s : Core := dead [0]; let pg : Page := paged; let m : PlaneMap := (pr 0).presentMap; let r : RowGroup := rgp; let c : Nat := 0; let k : Nat := 0; let a : Assembly := asm0.put 5; (a.counts.length = 5) ∧ (s.isDonor r k = true) ∧ (s.ownBit pg m r k c = true) ∧ let x := 5; (a.get x = true)) := by and_intros <;> decide +kernel

/-- The hypotheses of DecodersFollowTheirSteps can be met. -/
theorem witness_DecodersFollowTheirSteps :
    (let s : State := st (ob base [(Obj.dec_REQ_TAIL,3,0,1),(Obj.REQ_RING,3,0,av0 + 40 * 2^64 + 9 * 2^96),(Obj.dec_OUT_LIMIT,3,0,100)]); let dt : Nat := 0; let d : Nat := 3; let c := s.core.advance dt; let rh := c.rd Obj.dec_REQ_HEAD d 0; (d < 4) ∧ (c.inModes [.config, .ready, .service] = true) ∧ (c.decState d = decIdle) ∧ (rh ≠ c.rd Obj.dec_REQ_TAIL d 0) ∧ ((c.rd Obj.dec_DONE_HEAD d 0 + 1) % 16 ≠ c.rd Obj.dec_DONE_TAIL d 0)) ∧
    (let s : State := st (dc 1 { hdr := hd 1 0 5 0, len := 37, limit := 100, src := av0 }); let dt : Nat := 0; let d : Nat := 3; let c := s.core.advance dt; (d < 4) ∧ (c.decState d = decHeader)) ∧
    (let s : State := st (dc 2 { hdr := hd 2 138 5 0, len := 175, limit := 100, src := av0 }); let dt : Nat := 0; let d : Nat := 3; let c := s.core.advance dt; (d < 4) ∧ (c.decState d = decTable)) ∧
    (let s : State := st (dc 5 { hdr := hd 1 0 5 0, len := 37, limit := 100, src := av0 }); let dt : Nat := 0; let d : Nat := 3; let c := s.core.advance dt; (d < 4) ∧ (c.decState d = decCheck)) ∧
    (let s : State := st (prd 0 wp); let dt : Nat := 0; let d : Nat := 0; let c := s.core.advance dt; (d < 4) ∧ let pg := (((prd 0 wp).nextBlock).getD (page0, 0, wb)).1; let col := (((prd 0 wp).nextBlock).getD (page0, 0, wb)).2.1; let b := (((prd 0 wp).nextBlock).getD (page0, 0, wb)).2.2; (c.inPrint = true) ∧ ([0, 1, 2, 3].find? (fun d => decide (c.decState d = decIdle)) = some d) ∧ (c.nextBlock = some (pg, col, b))) := by and_intros <;> decide +kernel

/-- The hypotheses of CodesAreDecoded can be met. -/
theorem witness_CodesAreDecoded :
    (let s : State := { core := dc 3 { hdr := hd 1 0 1 0, len := 37, limit := 100, src := av0 }, mem := [] }; let dt : Nat := 0; let d : Nat := 3; let c := s.core.advance dt; let x := c.decoder d; (d < 4) ∧ (c.decState d = decDecode ∨ (c.decState d = decOutWait ∧ x.win.isSome = true))) ∧
    (let s : State := { core := dc 3 { hdr := hd 1 0 1 0, len := 37, limit := 100, src := av0, pend := [1,2] }, mem := [] }; let dt : Nat := 0; let d : Nat := 3; let c := s.core.advance dt; let x := c.decoder d; (d < 4) ∧ (c.decState d = decDecode ∨ (c.decState d = decOutWait ∧ x.win.isSome = true)) ∧ (x.pend ≠ [])) ∧
    (let s : State := { core := dc 3 { hdr := hd 0 0 2 0, len := 37, limit := 100, src := av0 }, mem := [(av0+33,1)] }; let dt : Nat := 0; let d : Nat := 3; let c := s.core.advance dt; let x := c.decoder d; let o := 32 + hTableLen x.hdr; (d < 4) ∧ (c.decState d = decDecode ∨ (c.decState d = decOutWait ∧ x.win.isSome = true)) ∧ (x.pend = []) ∧ (hCoding x.hdr = 0) ∧ (c.decFault x o (hBody x.hdr) = 0)) ∧
    (let s : State := { core := dc 3 { hdr := hd 1 0 1 0, len := 37, limit := 100, src := av0 }, mem := [] }; let dt : Nat := 0; let d : Nat := 3; let c := s.core.advance dt; let x := c.decoder d; let o := 32 + hTableLen x.hdr; let from_ := x.bits / 8; let n := Nat.min 5 (hBody x.hdr - from_); let word := ofLe (c.decBytes s.mem x (o + from_) n); let strm : Nat → Bool := fun i => bit word (x.bits % 8 + i); (d < 4) ∧ (c.decState d = decDecode ∨ (c.decState d = decOutWait ∧ x.win.isSome = true)) ∧ (x.pend = []) ∧ (hCoding x.hdr ≠ 0) ∧ (c.decFault x (o + from_) n = 0) ∧ (x.readCode strm (8 * hBody x.hdr - x.bits) = .trunc)) ∧
    (let s : State := { core := dc 3 { hdr := hd 2 138 1 0, len := 37, limit := 100, src := av0, lens := [1] ++ List.replicate 258 0 ++ [1] }, mem := [(av0+170,255)] }; let dt : Nat := 0; let d : Nat := 3; let c := s.core.advance dt; let x := c.decoder d; let o := 32 + hTableLen x.hdr; let from_ := x.bits / 8; let n := Nat.min 5 (hBody x.hdr - from_); let word := ofLe (c.decBytes s.mem x (o + from_) n); let strm : Nat → Bool := fun i => bit word (x.bits % 8 + i); (d < 4) ∧ (c.decState d = decDecode ∨ (c.decState d = decOutWait ∧ x.win.isSome = true)) ∧ (x.pend = []) ∧ (hCoding x.hdr ≠ 0) ∧ (c.decFault x (o + from_) n = 0) ∧ let k := 1; (x.readCode strm (8 * hBody x.hdr - x.bits) = .bad k)) ∧
    (let s : State := { core := dc 3 { hdr := hd 1 0 2 0, len := 37, limit := 100, src := av0 }, mem := [(av0+33,1)] }; let dt : Nat := 0; let d : Nat := 3; let c := s.core.advance dt; let x := c.decoder d; let o := 32 + hTableLen x.hdr; let from_ := x.bits / 8; let n := Nat.min 5 (hBody x.hdr - from_); let word := ofLe (c.decBytes s.mem x (o + from_) n); let strm : Nat → Bool := fun i => bit word (x.bits % 8 + i); (d < 4) ∧ (c.decState d = decDecode ∨ (c.decState d = decOutWait ∧ x.win.isSome = true)) ∧ (x.pend = []) ∧ (hCoding x.hdr ≠ 0) ∧ (c.decFault x (o + from_) n = 0) ∧ let v := 256; let k := 9; (x.readCode strm (8 * hBody x.hdr - x.bits) = .code v k) ∧ (v = 256)) ∧
    (let s : State := { core := dc 3 { hdr := hd 1 0 2 0, len := 37, limit := 100, src := av0, out := [1,2,3,4] }, mem := [(av0+32,1),(av0+33,1)] }; let dt : Nat := 0; let d : Nat := 3; let c := s.core.advance dt; let x := c.decoder d; let o := 32 + hTableLen x.hdr; let from_ := x.bits / 8; let n := Nat.min 5 (hBody x.hdr - from_); let word := ofLe (c.decBytes s.mem x (o + from_) n); let strm : Nat → Bool := fun i => bit word (x.bits % 8 + i); (d < 4) ∧ (c.decState d = decDecode ∨ (c.decState d = decOutWait ∧ x.win.isSome = true)) ∧ (x.pend = []) ∧ (hCoding x.hdr ≠ 0) ∧ (c.decFault x (o + from_) n = 0) ∧ let v := 257; let k := 9; (x.readCode strm (8 * hBody x.hdr - x.bits) = .code v k) ∧ (v = 257)) ∧
    (let s : State := { core := dc 3 { hdr := hd 1 0 2 0, len := 37, limit := 100, src := av0 }, mem := [(av0+32,44),(av0+33,1)] }; let dt : Nat := 0; let d : Nat := 3; let c := s.core.advance dt; let x := c.decoder d; let o := 32 + hTableLen x.hdr; let from_ := x.bits / 8; let n := Nat.min 5 (hBody x.hdr - from_); let word := ofLe (c.decBytes s.mem x (o + from_) n); let strm : Nat → Bool := fun i => bit word (x.bits % 8 + i); (d < 4) ∧ (c.decState d = decDecode ∨ (c.decState d = decOutWait ∧ x.win.isSome = true)) ∧ (x.pend = []) ∧ (hCoding x.hdr ≠ 0) ∧ (c.decFault x (o + from_) n = 0) ∧ let v := 300; let k := 9; (x.readCode strm (8 * hBody x.hdr - x.bits) = .code v k) ∧ let y := { x with bits := x.bits + k, codes := x.codes + 1, inBytes := o + ceilDiv (x.bits + k) 8 }; (v ≠ 256) ∧ (v ≠ 257) ∧ (y.accept v = none)) ∧
    (let s : State := { core := dc 3 { hdr := hd 1 0 2 0, len := 37, limit := 100, src := av0, addr := av0 + 4096, room := 64 }, mem := [(av0+32,65)] }; let dt : Nat := 0; let d : Nat := 3; let c := s.core.advance dt; let x := c.decoder d; let o := 32 + hTableLen x.hdr; let from_ := x.bits / 8; let n := Nat.min 5 (hBody x.hdr - from_); let word := ofLe (c.decBytes s.mem x (o + from_) n); let strm : Nat → Bool := fun i => bit word (x.bits % 8 + i); (d < 4) ∧ (c.decState d = decDecode ∨ (c.decState d = decOutWait ∧ x.win.isSome = true)) ∧ (x.pend = []) ∧ (hCoding x.hdr ≠ 0) ∧ (c.decFault x (o + from_) n = 0) ∧ let v := 65; let k := 9; (x.readCode strm (8 * hBody x.hdr - x.bits) = .code v k) ∧ let y := { x with bits := x.bits + k, codes := x.codes + 1, inBytes := o + ceilDiv (x.bits + k) 8 }; let w := [65]; (v ≠ 256) ∧ (v ≠ 257) ∧ (y.accept v = some w)) ∧
    (let s : Core := dc 3 {}; let m : List Host.Cell := []; let d : Nat := 3; let k : Nat := 2; let x : Decoder := { pend := [1,2], room := 2, addr := av0 }; let r := s.flushRing m d k x; (r.2.2.2 = .all)) := by and_intros <;> decide +kernel

/-- The hypotheses of DatagramsJoinTheStream can be met. -/
theorem witness_DatagramsJoinTheStream :
    (let s : State := st (ob strm [(Obj.FWD_TABLE,0,0,2^63+7*2^32+5)]); let dt : Nat := 0; let b : List Byte := dgm 5 10; let c := s.core.advance dt; let pay := leAt b 6 2; let crcOk := leAt b (16 + pay) 4 = Crypto.crc32c (b.take (16 + pay)); let n := 7; (c.running = true) ∧ (20 ≤ b.length) ∧ (leAt b 0 4 = 0x01015346) ∧ (pay + 20 = b.length) ∧ (crcOk) ∧ (c.forwardNode (leAt b 8 4) = some n) ∧ (n ≠ c.rd0 Obj.NODE_ID)) ∧
    (let s : State := st ({ strm with mode := .safe }); let dt : Nat := 0; let b : List Byte := dgm 5 10; let c := s.core.advance dt; let ours := b.length < 20 ∨ c.running = false ∨ c.forwardNode (leAt b 8 4) = none; (ours) ∧ (c.streamRuns = false)) ∧
    (let s : State := st (strm); let dt : Nat := 0; let src : Nat := 76; let b : List Byte := dgm 5 10; let c := s.core.advance dt; let ours := b.length < 20 ∨ c.running = false ∨ c.forwardNode (leAt b 8 4) = none; (ours) ∧ (c.streamRuns = true) ∧ ((c.streamUp = false ∨ src ≠ c.rd0 Obj.STREAM_HOST))) ∧
    (let s : State := st (strm); let dt : Nat := 0; let src : Nat := 77; let b : List Byte := [1]; let c := s.core.advance dt; let pay := leAt b 6 2; let ours := b.length < 20 ∨ c.running = false ∨ c.forwardNode (leAt b 8 4) = none; let sound := 20 ≤ b.length ∧ leAt b 0 4 = 0x01015346 ∧ leAt b 4 2 < 4 ∧ pay + 20 = b.length ∧ 0 < pay ∧ pay ≤ 8932; (ours) ∧ (c.streamRuns = true) ∧ (c.streamUp = true) ∧ (src = c.rd0 Obj.STREAM_HOST) ∧ (¬sound)) ∧
    (let s : State := st (strm); let dt : Nat := 0; let src : Nat := 77; let b : List Byte := (dgm 5 10).take 20 ++ [0,0,0]; let c := s.core.advance dt; let pay := leAt b 6 2; let crcOk := leAt b (16 + pay) 4 = Crypto.crc32c (b.take (16 + pay)); let ours := b.length < 20 ∨ c.running = false ∨ c.forwardNode (leAt b 8 4) = none; let sound := 20 ≤ b.length ∧ leAt b 0 4 = 0x01015346 ∧ leAt b 4 2 < 4 ∧ pay + 20 = b.length ∧ 0 < pay ∧ pay ≤ 8932; (ours) ∧ (c.streamRuns = true) ∧ (c.streamUp = true) ∧ (src = c.rd0 Obj.STREAM_HOST) ∧ (sound) ∧ (¬crcOk)) ∧
    (let s : State := st (strm); let dt : Nat := 0; let src : Nat := 77; let b : List Byte := dgm 6 10; let c := s.core.advance dt; let pay := leAt b 6 2; let crcOk := leAt b (16 + pay) 4 = Crypto.crc32c (b.take (16 + pay)); let ours := b.length < 20 ∨ c.running = false ∨ c.forwardNode (leAt b 8 4) = none; let sound := 20 ≤ b.length ∧ leAt b 0 4 = 0x01015346 ∧ leAt b 4 2 < 4 ∧ pay + 20 = b.length ∧ 0 < pay ∧ pay ≤ 8932; (ours) ∧ (c.streamRuns = true) ∧ (c.streamUp = true) ∧ (src = c.rd0 Obj.STREAM_HOST) ∧ (sound) ∧ (crcOk) ∧ (leAt b 8 4 ≠ c.rd0 Obj.STREAM_ID)) ∧
    (let s : State := st (strm); let dt : Nat := 0; let src : Nat := 77; let b : List Byte := dgm 5 75; let c := s.core.advance dt; let pay := leAt b 6 2; let dseq := leAt b 12 4; let d := fwd32 dseq (c.rd0 Obj.NEXT_DSEQ); let crcOk := leAt b (16 + pay) 4 = Crypto.crc32c (b.take (16 + pay)); let ours := b.length < 20 ∨ c.running = false ∨ c.forwardNode (leAt b 8 4) = none; let sound := 20 ≤ b.length ∧ leAt b 0 4 = 0x01015346 ∧ leAt b 4 2 < 4 ∧ pay + 20 = b.length ∧ 0 < pay ∧ pay ≤ 8932; (ours) ∧ (c.streamRuns = true) ∧ (c.streamUp = true) ∧ (src = c.rd0 Obj.STREAM_HOST) ∧ (sound) ∧ (crcOk) ∧ (leAt b 8 4 = c.rd0 Obj.STREAM_ID) ∧ (64 < d) ∧ (d < 2 ^ 31)) ∧
    (let s : State := st (strm); let dt : Nat := 0; let src : Nat := 77; let b : List Byte := dgm 5 9; let c := s.core.advance dt; let pay := leAt b 6 2; let dseq := leAt b 12 4; let d := fwd32 dseq (c.rd0 Obj.NEXT_DSEQ); let crcOk := leAt b (16 + pay) 4 = Crypto.crc32c (b.take (16 + pay)); let ours := b.length < 20 ∨ c.running = false ∨ c.forwardNode (leAt b 8 4) = none; let sound := 20 ≤ b.length ∧ leAt b 0 4 = 0x01015346 ∧ leAt b 4 2 < 4 ∧ pay + 20 = b.length ∧ 0 < pay ∧ pay ≤ 8932; let held := 2 ^ 31 ≤ d ∨ c.stream.got.any (fun e => decide (e.1 = dseq)) = true; (ours) ∧ (c.streamRuns = true) ∧ (c.streamUp = true) ∧ (src = c.rd0 Obj.STREAM_HOST) ∧ (sound) ∧ (crcOk) ∧ (leAt b 8 4 = c.rd0 Obj.STREAM_ID) ∧ ((d ≤ 64 ∨ 2 ^ 31 ≤ d)) ∧ (held)) ∧
    (let s : State := st (ob strm [(Obj.STAGE_SIZE,0,0,2)]); let dt : Nat := 0; let src : Nat := 77; let b : List Byte := dgm 5 10; let c := s.core.advance dt; let pay := leAt b 6 2; let dseq := leAt b 12 4; let d := fwd32 dseq (c.rd0 Obj.NEXT_DSEQ); let crcOk := leAt b (16 + pay) 4 = Crypto.crc32c (b.take (16 + pay)); let ours := b.length < 20 ∨ c.running = false ∨ c.forwardNode (leAt b 8 4) = none; let sound := 20 ≤ b.length ∧ leAt b 0 4 = 0x01015346 ∧ leAt b 4 2 < 4 ∧ pay + 20 = b.length ∧ 0 < pay ∧ pay ≤ 8932; let held := 2 ^ 31 ≤ d ∨ c.stream.got.any (fun e => decide (e.1 = dseq)) = true; (ours) ∧ (c.streamRuns = true) ∧ (c.streamUp = true) ∧ (src = c.rd0 Obj.STREAM_HOST) ∧ (sound) ∧ (crcOk) ∧ (leAt b 8 4 = c.rd0 Obj.STREAM_ID) ∧ (d ≤ 64) ∧ (¬held) ∧ (c.stageFree < pay)) ∧
    (let s : State := st (strm); let dt : Nat := 0; let src : Nat := 77; let b : List Byte := dgm 5 74; let c := s.core.advance dt; let pay := leAt b 6 2; let dseq := leAt b 12 4; let d := fwd32 dseq (c.rd0 Obj.NEXT_DSEQ); let crcOk := leAt b (16 + pay) 4 = Crypto.crc32c (b.take (16 + pay)); let ours := b.length < 20 ∨ c.running = false ∨ c.forwardNode (leAt b 8 4) = none; let sound := 20 ≤ b.length ∧ leAt b 0 4 = 0x01015346 ∧ leAt b 4 2 < 4 ∧ pay + 20 = b.length ∧ 0 < pay ∧ pay ≤ 8932; let held := 2 ^ 31 ≤ d ∨ c.stream.got.any (fun e => decide (e.1 = dseq)) = true; (ours) ∧ (c.streamRuns = true) ∧ (c.streamUp = true) ∧ (src = c.rd0 Obj.STREAM_HOST) ∧ (sound) ∧ (crcOk) ∧ (leAt b 8 4 = c.rd0 Obj.STREAM_ID) ∧ (d ≤ 64) ∧ (¬held) ∧ (pay ≤ c.stageFree)) ∧
    (let k : Nat := 5; let next : Nat := 2^32-1; (k ≤ 2 ^ 31) ∧ (next < 2 ^ 32)) := by and_intros <;> decide +kernel

/-- The hypotheses of RecordsAreProcessedInTheirPlace can be met. -/
theorem witness_RecordsAreProcessedInTheirPlace :
    (let s : State := st (recd ({ strm with stream := { ssn := 9 } }) 0x01 (leBytes 4 77 ++ leBytes 4 5)); let dt : Nat := 0; let ssn : Nat := 9; let b : List Byte := leBytes 4 77 ++ leBytes 4 5; let c := s.core.advance dt; (c.recordReady 0x01 = some (b, ssn)) ∧ (leAt b 4 4 ≠ 0)) ∧
    (let s : State := st (recd ({ strm with stream := { ssn := 9, place := 1 } }) 0x01 (leBytes 4 77 ++ leBytes 4 0)); let dt : Nat := 0; let ssn : Nat := 9; let b : List Byte := leBytes 4 77 ++ leBytes 4 0; let c := s.core.advance dt; (c.recordReady 0x01 = some (b, ssn)) ∧ (leAt b 4 4 = 0) ∧ (c.stream.place ≠ 0)) ∧
    (let s : State := st (recd ({ strm with stream := { ssn := 9 } }) 0x01 (leBytes 4 77 ++ leBytes 4 0)); let dt : Nat := 0; let ssn : Nat := 9; let b : List Byte := leBytes 4 77 ++ leBytes 4 0; let c := s.core.advance dt; (c.recordReady 0x01 = some (b, ssn)) ∧ (leAt b 4 4 = 0) ∧ (c.stream.place = 0) ∧ (c.inPrint = false) ∧ (c.pages = []) ∧ (allPorts.filter c.hasHistory = []) ∧ (c.stillDown = []) ∧ (c.stream.bytes.length = 12 + c.frontRec.2.1)) ∧
    (let s : State := st (recd ({ inPage with pages := [], stream := { inPage.stream with place := 1 } }) 0x02 ([])); let dt : Nat := 0; let ssn : Nat := 9; let b : List Byte := []; let c := s.core.advance dt; (c.recordReady 0x02 = some (b, ssn))) ∧
    (let s : State := st (recd (inPage) 0x10 ([1,1,1,0] ++ List.replicate 2098 0)); let dt : Nat := 0; let ssn : Nat := 9; let b : List Byte := [1,1,1,0] ++ List.replicate 2098 0; let c := s.core.advance dt; (c.recordReady 0x10 = some (b, ssn)) ∧ (setupOk b = false)) ∧
    (let s : State := st (recd (inPage) 0x10 ([1,1] ++ List.replicate 2098 0)); let dt : Nat := 0; let ssn : Nat := 9; let b : List Byte := [1,1] ++ List.replicate 2098 0; let c := s.core.advance dt; (c.recordReady 0x10 = some (b, ssn)) ∧ (setupOk b = true) ∧ (c.stream.place ≠ 0)) ∧
    (let s : State := st (recd (inPage) 0x12 (leBytes 2 3 ++ leBytes 2 0 ++ leBytes 4 16)); let dt : Nat := 0; let ssn : Nat := 9; let b : List Byte := leBytes 2 3 ++ leBytes 2 0 ++ leBytes 4 16; let c := s.core.advance dt; (c.recordReady 0x12 = some (b, ssn)) ∧ (leAt b 2 2 = 0)) ∧
    (let s : State := st (recd (inPage) 0x13 (leBytes 4 1)); let dt : Nat := 0; let ssn : Nat := 9; let b : List Byte := leBytes 4 1; let c := s.core.advance dt; (c.recordReady 0x13 = some (b, ssn))) ∧
    (let s : State := st (recd (inPage) 0x30 (leBytes 4 1 ++ leBytes 2 1 ++ leBytes 2 0 ++ leBytes 8 1)); let dt : Nat := 0; let ssn : Nat := 9; let b : List Byte := leBytes 4 1 ++ leBytes 2 1 ++ leBytes 2 0 ++ leBytes 8 1; let c := s.core.advance dt; let pg := { page0 with started := false, base := 0, cols := 0 }; (c.recordReady 0x30 = some (b, ssn)) ∧ (leAt b 6 2 = 0) ∧ (c.stream.place = 2) ∧ (c.openPage = some pg) ∧ (pg.started = false) ∧ (c.queued < 4096)) ∧
    (let s : State := st (recd (inPage) 0x31 ([15,0,0,0] ++ leBytes 4 0 ++ leBytes 4 0)); let dt : Nat := 0; let ssn : Nat := 9; let b : List Byte := [15,0,0,0] ++ leBytes 4 0 ++ leBytes 4 0; let c := s.core.advance dt; let pg := { page0 with started := false, base := 0, cols := 0 }; let lay := (inPage.laidOut.headD page0); (c.recordReady 0x31 = some (b, ssn)) ∧ (leAt b 0 1 ≤ 15) ∧ (leAt b 1 3 = 0) ∧ (c.stream.place = 2) ∧ (c.openPage = some pg) ∧ (c.stream.ended = none) ∧ (c.laidOut.find? (fun q => decide (q.no = pg.no ∧ q.pass = pg.pass)) = some lay) ∧ (leAt b 4 4 + leAt b 8 4 ≤ lay.cols) ∧ (pg.bandTop ≤ leAt b 4 4) ∧ (pg.started = false) ∧ (c.queued < 4096)) ∧
    (let s : State := st (recd (inPage) 0x3F (leBytes 4 1)); let dt : Nat := 0; let ssn : Nat := 9; let b : List Byte := leBytes 4 1; let c := s.core.advance dt; (c.recordReady 0x3F = some (b, ssn))) := by and_intros <;> decide +kernel

/-- The hypotheses of PagesAndBlocksAreQueued can be met. -/
theorem witness_PagesAndBlocksAreQueued :
    (let s : State := st (recd ({ inPage with badWords := [(bankSpan 6).1 / 8], pages := [], stream := { place := 1, ssn := 9 } }) 0x11 (leBytes 4 1 ++ [0, 255, 255, 1] ++ leBytes 4 100 ++ leBytes 4 0 ++ leBytes 8 0 ++ leBytes 8 0)); let dt : Nat := 0; let ssn : Nat := 9; let b : List Byte := leBytes 4 1 ++ [0, 255, 255, 1] ++ leBytes 4 100 ++ leBytes 4 0 ++ leBytes 8 0 ++ leBytes 8 0; let c := s.core.advance dt; (c.recordReady 0x11 = some (b, ssn)) ∧ (pageBodyOk (decide (c.mode = .printWeb)) b = true) ∧ (leAt b 4 1 = 0) ∧ (c.stream.place = 1) ∧ (c.stream.last.all (fun x => x.2.2) = true) ∧ (c.stream.lastNo.all (fun k => decide (k < leAt b 0 4)) = true) ∧ (c.queued < 4096) ∧ (c.stream.bytes.length = 12 + c.frontRec.2.1) ∧ (c.queueBad = true)) ∧
    (let s : State := st (recd ({ inPage with pages := [], stream := { place := 1, ssn := 9 } }) 0x11 (leBytes 4 1 ++ [0, 255, 255, 1] ++ leBytes 4 100 ++ leBytes 4 0 ++ leBytes 8 0 ++ leBytes 8 0)); let dt : Nat := 0; let ssn : Nat := 9; let b : List Byte := leBytes 4 1 ++ [0, 255, 255, 1] ++ leBytes 4 100 ++ leBytes 4 0 ++ leBytes 8 0 ++ leBytes 8 0; let c := s.core.advance dt; (c.recordReady 0x11 = some (b, ssn)) ∧ (pageBodyOk (decide (c.mode = .printWeb)) b = true) ∧ (leAt b 4 1 = 0) ∧ (c.stream.place = 1) ∧ (c.stream.last.all (fun x => x.2.2) = true) ∧ (c.stream.lastNo.all (fun k => decide (k < leAt b 0 4)) = true) ∧ (c.queued < 4096) ∧ (c.stream.bytes.length = 12 + c.frontRec.2.1) ∧ (c.queueBad = false)) ∧
    (let s : State := st ({ inPage with mode := .printWeb }); let dt : Nat := 0; let c := s.core.advance dt; let pg := ({ inPage with mode := .printWeb } : Core).laidOut.headD page0; (c.inPrint = true) ∧ (c.laidOut.find? (fun pg => !pg.started) = some pg) ∧ (pg.failed = false) ∧ (c.startedPages.length ≤ 1) ∧ ((c.runPlaneTest (pg.own c) pg.mask pg.pass).2 = false)) ∧
    (let s : State := st (pnsWide); let dt : Nat := 0; let c := s.core.advance dt; let pg := pnsWide.laidOut.headD page0; (c.inPrint = true) ∧ (c.laidOut.find? (fun pg => !pg.started) = some pg) ∧ (pg.failed = false) ∧ (c.startedPages.length ≤ 1) ∧ let t := (c.runPlaneTest (pg.own c) pg.mask pg.pass).1; ((c.runPlaneTest (pg.own c) pg.mask pg.pass).2 = true) ∧ (t.windowsFit [(pg, 256)] = false)) ∧
    (let s : State := st (pns); let dt : Nat := 0; let c := s.core.advance dt; let pg := pns.laidOut.headD page0; (c.inPrint = true) ∧ (c.laidOut.find? (fun pg => !pg.started) = some pg) ∧ (pg.failed = false) ∧ (c.startedPages.length ≤ 1) ∧ let t := (c.runPlaneTest (pg.own c) pg.mask pg.pass).1; ((c.runPlaneTest (pg.own c) pg.mask pg.pass).2 = true) ∧ (t.windowsFit [(pg, 256)] = true)) ∧
    (let s : State := st (base); let dt : Nat := 0; let c := s.core.advance dt; ((c.inPrint = false ∨ c.laidOut.find? (fun pg => !pg.started) = none ∨ 1 < c.startedPages.length))) ∧
    (let s : State := st ({ base with measDue := [⟨1,2,4⟩] }); let dt : Nat := 0; let c := s.core.advance dt; let l := [⟨1,2,4⟩]; (c.measDue = l) ∧ (c.pages = [])) ∧
    (let s : State := st (recd (stg) 0x20 (hd 1 0 5 0 ++ [1,2,3,4,5])); let dt : Nat := 0; let ssn : Nat := 9; let b : List Byte := hd 1 0 5 0 ++ [1,2,3,4,5]; let pg : Page := { page0 with started := false, base := 0, cols := 0 }; let c := s.core.advance dt; let base := c.rd0 Obj.STAGE_BASE; let size := c.rd0 Obj.STAGE_SIZE; (Memory.wf s.mem = true) ∧ (c.recordReady 0x20 = some (b, ssn)) ∧ (c.withinPage = true) ∧ (c.openPage = some pg) ∧ (c.stream.ended = none) ∧ (base + size ≤ c.rd0 Obj.DRAM_SIZE) ∧ (b.length ≤ size) ∧ (c.stream.off < size) ∧ (c.stream.put < b.length) ∧ (hFirstCol b + hColCount b ≤ pg.lines) ∧ (Tab.get 0 pg.done (hPlane b) = 0)) ∧
    (let s : State := st (recd (stg) 0x20 (hd 1 0 5 0 ++ [1,2,3,4,5])); let dt : Nat := 0; let ssn : Nat := 9; let b : List Byte := hd 1 0 5 0 ++ [1,2,3,4,5]; let pg : Page := { page0 with started := false, base := 0, cols := 0 }; let c := s.core.advance dt; let base := c.rd0 Obj.STAGE_BASE; let size := c.rd0 Obj.STAGE_SIZE; (Memory.wf s.mem = true) ∧ (c.recordReady 0x20 = some (b, ssn)) ∧ (c.withinPage = true) ∧ (c.openPage = some pg) ∧ (c.stream.ended = none) ∧ (base + size ≤ c.rd0 Obj.DRAM_SIZE) ∧ (b.length ≤ size) ∧ (c.stream.off < size) ∧ (c.stream.put < b.length) ∧ (hFirstCol b + hColCount b ≤ pg.lines) ∧ (Tab.get 0 pg.done (hPlane b) = 0)) ∧
    (let s : State := st (recd (stgShort) 0x20 (hd 1 0 5 0 ++ [1,2,3,4,5])); let dt : Nat := 0; let ssn : Nat := 9; let b : List Byte := hd 1 0 5 0 ++ [1,2,3,4,5]; let pg : Page := { page0 with started := false, base := 0, cols := 0 }; let c := s.core.advance dt; let base := c.rd0 Obj.STAGE_BASE; let size := c.rd0 Obj.STAGE_SIZE; (Memory.wf s.mem = true) ∧ (c.recordReady 0x20 = some (b, ssn)) ∧ (c.withinPage = true) ∧ (c.openPage = some pg) ∧ (c.stream.ended = none) ∧ (base + size ≤ c.rd0 Obj.DRAM_SIZE) ∧ (b.length ≤ size) ∧ (c.stream.off < size) ∧ (c.stream.put < b.length) ∧ (hFirstCol b + hColCount b ≤ pg.lines) ∧ (Tab.get 0 pg.done (hPlane b) = 0) ∧ let r := Core.stageBursts b (b.length + 1) c s.mem; let n := r.1.stream.put; (r.2.2 = 0) ∧ (n < b.length)) ∧
    (let s : State := st (recd (stg) 0x20 (hd 1 0 5 0 ++ [1,2,3,4,5])); let dt : Nat := 0; let ssn : Nat := 9; let b : List Byte := hd 1 0 5 0 ++ [1,2,3,4,5]; let pg : Page := { page0 with started := false, base := 0, cols := 0 }; let c := s.core.advance dt; let base := c.rd0 Obj.STAGE_BASE; let size := c.rd0 Obj.STAGE_SIZE; (Memory.wf s.mem = true) ∧ (c.recordReady 0x20 = some (b, ssn)) ∧ (c.withinPage = true) ∧ (c.openPage = some pg) ∧ (c.stream.ended = none) ∧ (base + size ≤ c.rd0 Obj.DRAM_SIZE) ∧ (b.length ≤ size) ∧ (c.stream.off < size) ∧ (c.stream.put < b.length) ∧ (hFirstCol b + hColCount b ≤ pg.lines) ∧ (Tab.get 0 pg.done (hPlane b) = 0) ∧ let r := Core.stageBursts b (b.length + 1) c s.mem; let n := r.1.stream.put; (r.2.2 = 0) ∧ (n = b.length) ∧ (c.stream.bytes.length = 12 + c.frontRec.2.1)) ∧
    (let s : State := st (recd (stgLost) 0x20 (hd 1 0 5 0 ++ [1,2,3,4,5])); let dt : Nat := 0; let ssn : Nat := 9; let b : List Byte := hd 1 0 5 0 ++ [1,2,3,4,5]; let pg : Page := { page0 with started := false, base := 0, cols := 0 }; let c := s.core.advance dt; let base := c.rd0 Obj.STAGE_BASE; let size := c.rd0 Obj.STAGE_SIZE; (Memory.wf s.mem = true) ∧ (c.recordReady 0x20 = some (b, ssn)) ∧ (c.withinPage = true) ∧ (c.openPage = some pg) ∧ (c.stream.ended = none) ∧ (base + size ≤ c.rd0 Obj.DRAM_SIZE) ∧ (b.length ≤ size) ∧ (c.stream.off < size) ∧ (c.stream.put < b.length) ∧ (hFirstCol b + hColCount b ≤ pg.lines) ∧ (Tab.get 0 pg.done (hPlane b) = 0) ∧ let r := Core.stageBursts b (b.length + 1) c s.mem; (r.2.2 = 1)) ∧
    (let s : State := st (recd (stg) 0x20 (hd 1 0 5 0 ++ [1,2,3,4,5])); let dt : Nat := 0; let ssn : Nat := 9; let b : List Byte := hd 1 0 5 0 ++ [1,2,3,4,5]; let pg : Page := { page0 with started := false, base := 0, cols := 0 }; let c := s.core.advance dt; let base := c.rd0 Obj.STAGE_BASE; let size := c.rd0 Obj.STAGE_SIZE; (Memory.wf s.mem = true) ∧ (c.recordReady 0x20 = some (b, ssn)) ∧ (c.withinPage = true) ∧ (c.openPage = some pg) ∧ (c.stream.ended = none) ∧ (base + size ≤ c.rd0 Obj.DRAM_SIZE) ∧ (b.length ≤ size) ∧ (c.stream.off < size) ∧ (c.stream.put < b.length) ∧ (hFirstCol b + hColCount b ≤ pg.lines) ∧ (Tab.get 0 pg.done (hPlane b) = 0) ∧ let r := Core.stageBursts b (b.length + 1) c s.mem; let n := r.1.stream.put; let i := 3; (c.stream.put ≤ i) ∧ (i < n)) ∧
    (let s : State := st (recd (stg) 0x20 (hd 1 0 5 0 ++ [1,2,3,4,5])); let dt : Nat := 0; let ssn : Nat := 9; let b : List Byte := hd 1 0 5 0 ++ [1,2,3,4,5]; let pg : Page := { page0 with started := false, base := 0, cols := 0 }; let c := s.core.advance dt; let base := c.rd0 Obj.STAGE_BASE; let size := c.rd0 Obj.STAGE_SIZE; (Memory.wf s.mem = true) ∧ (c.recordReady 0x20 = some (b, ssn)) ∧ (c.withinPage = true) ∧ (c.openPage = some pg) ∧ (c.stream.ended = none) ∧ (base + size ≤ c.rd0 Obj.DRAM_SIZE) ∧ (b.length ≤ size) ∧ (c.stream.off < size) ∧ (c.stream.put < b.length) ∧ (hFirstCol b + hColCount b ≤ pg.lines) ∧ (Tab.get 0 pg.done (hPlane b) = 0) ∧ let r := Core.stageBursts b (b.length + 1) c s.mem; let n := r.1.stream.put; let z := 7; ((∀ i, i < n → c.stream.put ≤ i → z ≠ base + (c.stream.off + i) % size))) := by and_intros <;> decide +kernel

end Rasters

/-! ### DMA and memory -/

namespace Memories

/-- Engine 1 and its channel 1 (17 of all) with its record, Spool running, DMA owning bank 6. -/
def dmac (l : List (Ob × Nat × Nat × Nat)) (x : DmaCh) : Core :=
  { ob base ([(Obj.ISLAND_STATE, 0, 0x49, 2)] ++ l) with dma := [(17, x)] }
/-- The first address of bank 6. -/
def b6 : Nat := spoolBase + 6 * 0x80000
/-- A descriptor of one row. -/
def des (src dst n ctrl : Nat) : Nat := src + dst * 2 ^ 64 + n * 2 ^ 128 + 2 ^ 160 + ctrl * 2 ^ 176
/-- The channel is ACTIVE on its engine. -/
def actv : List (Ob × Nat × Nat × Nat) := [(Obj.dma_CH_STATE, 17, 0, 3), (Obj.eng_ENG_STATE, 1, 0, 1), (Obj.eng_ACTIVE_CH, 1, 0, 1), (Obj.dma_PACE_MODE, 17, 0, 1)]
/-- A bank of FOP: 12, and the dual-port bank 48. -/
def fopb : Core := ob base [(Obj.ISLAND_STATE, 0, 0x49, 2), (Obj.SB_STATE, 0, 12, 1), (Obj.SB_OWNER, 0, 12, 1), (Obj.SB_STATE, 0, 48, 1), (Obj.SB_OWNER, 0, 48, 1)]

/-- FOP's bank with Baste at work on it. -/
def baste : Core := ob fopb [(Obj.BASTE_EN, 0, 0, 1), (Obj.SB_FLAGS, 0, 12, 8), (Obj.BASTE_PERIOD, 0, 0, 1000)]
/-- A block for Avone, in header bytes and body. -/
def hd5 : List Byte := [0x41, 0x56, 1, 4, 0, 1] ++ List.replicate 31 0
/-- Staging with that block at the front. -/
def deBlk : Core :=
  { ob base [(Obj.STREAM_STATE, 0, 0, 1)] with
    pages := [{ page0 with started := false, base := 0, cols := 0 }], job := { active := true }
    stream := { place := 2, last := some (1, 0, true), ssn := 9, bytes := leBytes 1 0x20 ++ [0, 0, 0] ++ leBytes 4 37 ++ leBytes 4 9 ++ hd5 } }

/-- The hypotheses of DmaChannelsTakeAndEndDescriptors can be met. -/
theorem witness_DmaChannelsTakeAndEndDescriptors :
    (let s : State := st (ob (dmac [(Obj.dma_CH_STATE,17,0,2),(Obj.dma_TAIL,17,0,1),(Obj.DESC_RING,17,0,des b6 (b6+4096) 16 1)] {}) [(Obj.eng_ENG_STATE,1,0,0)]); let dt : Nat := 2; let g : Nat := 1; let k : Nat := 17; let c := s.core.advance dt; (1 ≤ g) ∧ (g < 8) ∧ (c.dmaGrants = true) ∧ (c.rd Obj.eng_ENG_STATE g 0 = 0) ∧ (c.pickCh g = some k)) ∧
    (let s : State := st (dmac actv { desc := des b6 (b6+4096) 16 1, row := 1 }); let dt : Nat := 2; let g : Nat := 1; let k : Nat := 17; let c := s.core.advance dt; let x := c.dmaCh k; (c.activeCh g = some k) ∧ (c.chState k = chActive) ∧ ((x.fail ≠ 0 ∨ x.finished = true))) ∧
    (let s : State := st (dmac actv { desc := des b6 (b6+4096) 16 1 }); let dt : Nat := 2; let g : Nat := 1; let k : Nat := 17; let c := s.core.advance dt; let x := c.dmaCh k; (c.activeCh g = some k) ∧ (c.chState k = chActive) ∧ (x.fail = 0) ∧ (x.finished = false)) ∧
    (let s : State := st (deBlk); let dt : Nat := 2; let c := s.core.advance dt; let b := hd5; let ssn := 9; (c.recordReady 0x20 = some (b, ssn)) ∧ (c.withinPage = true)) ∧
    (let s : State := st (base); let dt : Nat := 2; let g : Nat := 1; let c := s.core.advance dt; (c.pickCh g = none)) ∧
    (let s : State := st (base); let dt : Nat := 2; let g : Nat := 1; let c := s.core.advance dt; (c.activeCh g = none)) := by and_intros <;> decide +kernel

/-- The hypotheses of DmaBurstMovesItsBytes can be met. -/
theorem witness_DmaBurstMovesItsBytes :
    (let s : State := { core := ob (dmac actv { desc := des (b6+250) (b6+4096) 16 1 }) [(Obj.dma_PACE_MODE,17,0,0),(Obj.dma_BUCKET,17,0,1)], mem := [(b6+250,7)] }; let dt : Nat := 2; let g : Nat := 1; let k : Nat := 17; let c := s.core.advance dt; (Memory.wf s.mem = true) ∧ (c.activeCh g = some k) ∧ (c.dmaTurn ≠ some g)) ∧
    (let s : State := { core := dmac actv { desc := des (b6+250) (b6+4096) 16 1 }, mem := [(b6+250,7),(b6+252,9),(b6+4096,1),(b6+4102,3)] }; let dt : Nat := 2; let g : Nat := 1; let k : Nat := 17; let c := s.core.advance dt; let x := c.dmaCh k; let b := nextBurst x; let n := b.2.2.1; let u := ({ c with dmaTop := g }).collide b.2.1 0; (Memory.wf s.mem = true) ∧ (c.activeCh g = some k) ∧ (c.dmaTurn = some g) ∧ ((dFill x.desc = true ∨ u.readFault ownDma b.1 n = 0)) ∧ (u.writeFault ownDma b.2.1 n = 0)) ∧
    (let s : State := { core := dmac actv { desc := des 16 (b6+4096) 16 1 }, mem := [(b6+250,7)] }; let dt : Nat := 2; let g : Nat := 1; let k : Nat := 17; let c := s.core.advance dt; let x := c.dmaCh k; let b := nextBurst x; let n := b.2.2.1; let u := ({ c with dmaTop := g }).collide b.2.1 0; (Memory.wf s.mem = true) ∧ (c.activeCh g = some k) ∧ (c.dmaTurn = some g) ∧ (dFill x.desc = false) ∧ (u.readFault ownDma b.1 n = 1)) ∧
    (let s : State := { core := dmac actv { desc := des (b6+250) 16 16 1 }, mem := [(b6+250,7)] }; let dt : Nat := 2; let g : Nat := 1; let k : Nat := 17; let c := s.core.advance dt; let x := c.dmaCh k; let b := nextBurst x; let n := b.2.2.1; let u := ({ c with dmaTop := g }).collide b.2.1 0; (Memory.wf s.mem = true) ∧ (c.activeCh g = some k) ∧ (c.dmaTurn = some g) ∧ ((dFill x.desc = true ∨ u.readFault ownDma b.1 n = 0)) ∧ (u.writeFault ownDma b.2.1 n = 1)) ∧
    (let x : DmaCh := { desc := des (b6+250) (b6+254) 16 1, col := 0 }; (x.col < dRowBytes x.desc)) ∧
    (let x : DmaCh := { desc := des (b6+250) (b6+4090) 16 1, col := 4 }; (x.col < dRowBytes x.desc)) ∧
    (let x : DmaCh := { desc := des (b6+250) (b6+254) 16 1, col := 0 }; (x.col < dRowBytes x.desc)) ∧
    (let x : DmaCh := { desc := des (b6+250) (b6+4090) 16 1, col := 4 }; (x.col < dRowBytes x.desc) ∧ (dFill x.desc = false)) ∧
    (let x : DmaCh := { desc := des (b6+250) (b6+254) 16 1, col := 0 }; (x.col < dRowBytes x.desc)) ∧
    (let x : DmaCh := { desc := des (b6+250) (b6+4090) 16 1, col := 4 }; (x.col < dRowBytes x.desc)) := by and_intros <;> decide +kernel

/-- The hypotheses of BanksAndAliasesAct can be met. -/
theorem witness_BanksAndAliasesAct :
    (let s : State := st (fopb); let dt : Nat := 2; let b : Nat := 12; let c := s.core.advance dt; ((50 ≤ b ∨ c.bankState b ≠ bankQuarantined))) ∧
    (let s : State := { core := { ob fopb [(Obj.SB_STATE,0,13,2)] with badWords := [5, (bankSpan 13).1/8+1] }, mem := [(spoolBase,1),((bankSpan 13).1,2),((bankSpan 13).1+0x7ffff,3),((bankSpan 14).1,4)] }; let dt : Nat := 2; let b : Nat := 13; let c := s.core.advance dt; (b < 50) ∧ (c.bankState b = bankQuarantined) ∧ (Memory.wf s.mem = true)) ∧
    (let s : State := st (ob fopb [(Obj.BASTE_EN,0,0,0)]); let dt : Nat := 2; let b : Nat := 12; let c := s.core.advance dt; (c.basteRuns b = false)) ∧
    (let s : State := st ({ baste with basteAt := [(12, 1)] }); let dt : Nat := 2; let b : Nat := 12; let c := s.core.advance dt; let q := 1; (c.basteRuns b = true) ∧ (Tab.get? c.basteAt b = some q) ∧ (c.clk < q + ns (c.rd0 Obj.BASTE_PERIOD))) ∧
    (let s : State := st (baste); let dt : Nat := 2; let b : Nat := 12; let c := s.core.advance dt; (c.basteRuns b = true) ∧ ((Tab.get? c.basteAt b).all (fun q => decide (q + ns (c.rd0 Obj.BASTE_PERIOD) ≤ c.clk)) = true) ∧ (Tab.get 0 c.basteNext b + 1 < basteRegions b) ∧ ((∀ w ∈ c.badWords, 8 * w < (bankSpan b).1 + 64 * Tab.get 0 c.basteNext b ∨ (bankSpan b).1 + 64 * Tab.get 0 c.basteNext b + 64 ≤ 8 * w))) ∧
    (let s : State := st (baste); let dt : Nat := 2; let b : Nat := 12; let c := s.core.advance dt; (c.basteRuns b = true) ∧ ((Tab.get? c.basteAt b).all (fun q => decide (q + ns (c.rd0 Obj.BASTE_PERIOD) ≤ c.clk)) = true) ∧ (Tab.get 0 c.basteNext b + 1 < basteRegions b) ∧ (Tab.get 0 c.basteTries b < 15)) ∧
    (let s : State := st (ob base [(Obj.DRAM_STATE,0,0,2),(Obj.DRAM_SIZE,0,0,2^30)]); let dt : Nat := 2; let c := s.core.advance dt; (c.rd0 Obj.DRAM_STATE = 2)) ∧
    (let s : State := st (ob base [(Obj.DRAM_STATE,0,0,3)]); let dt : Nat := 2; let c := s.core.advance dt; (c.rd0 Obj.DRAM_STATE ≠ 2)) ∧
    (let s : State := { core := fopb, mem := [(spoolBase+12*0x80000,0x0f),(spoolBase+12*0x80000+3,0xf0),(spoolBase+12*0x80000+4,0xf0)] }; let dt : Nat := 2; let addr : Nat := spoolBase+0x4000000+12*0x80000; let width : Nat := 31; let clear : Bool := false; let k : View := if clear then .bitClear else .bitSet; let c := s.core.advance dt; let n := width / 8; ((c.running = false ∨ c.mode = .safe ∨ (c.locate addr).1 ≠ k ∨ [8, 16, 32, 64].contains width = false ∨ addr % n ≠ 0))) ∧
    (let s : State := { core := fopb, mem := [(spoolBase+12*0x80000,0x0f),(spoolBase+12*0x80000+3,0xf0),(spoolBase+12*0x80000+4,0xf0)] }; let dt : Nat := 2; let who : Nat := 5; let addr : Nat := spoolBase+0x4000000+12*0x80000; let width : Nat := 32; let coll : Nat := 0; let clear : Bool := false; let k : View := if clear then .bitClear else .bitSet; let c := s.core.advance dt; let n := width / 8; let p := (c.locate addr).2; let t := if bankDual (bankOf p) then c.inc Obj.SB_COLLISIONS 0 (bankOf p - 48) coll else c; (Memory.wf s.mem = true) ∧ (c.running = true) ∧ (c.mode ≠ .safe) ∧ ((c.locate addr).1 = k) ∧ ([8, 16, 32, 64].contains width = true) ∧ (addr % n = 0) ∧ (t.writeFault who addr n = 1)) ∧
    (let s : State := { core := { fopb with badWords := [(spoolBase+12*0x80000)/8] }, mem := [] }; let dt : Nat := 2; let who : Nat := 1; let addr : Nat := spoolBase+0x4000000+12*0x80000; let width : Nat := 32; let coll : Nat := 0; let clear : Bool := false; let k : View := if clear then .bitClear else .bitSet; let c := s.core.advance dt; let n := width / 8; let p := (c.locate addr).2; let t := if bankDual (bankOf p) then c.inc Obj.SB_COLLISIONS 0 (bankOf p - 48) coll else c; (Memory.wf s.mem = true) ∧ (c.running = true) ∧ (c.mode ≠ .safe) ∧ ((c.locate addr).1 = k) ∧ ([8, 16, 32, 64].contains width = true) ∧ (addr % n = 0) ∧ (t.writeFault who addr n = 2)) ∧
    (let s : State := { core := fopb, mem := [(spoolBase+12*0x80000,0x0f),(spoolBase+12*0x80000+3,0xf0),(spoolBase+12*0x80000+4,0xf0)] }; let dt : Nat := 2; let who : Nat := 1; let addr : Nat := spoolBase+0x4000000+48*0x80000; let width : Nat := 32; let coll : Nat := 16; let clear : Bool := false; let k : View := if clear then .bitClear else .bitSet; let c := s.core.advance dt; let n := width / 8; let p := (c.locate addr).2; let t := if bankDual (bankOf p) then c.inc Obj.SB_COLLISIONS 0 (bankOf p - 48) coll else c; (Memory.wf s.mem = true) ∧ (c.running = true) ∧ (c.mode ≠ .safe) ∧ ((c.locate addr).1 = k) ∧ ([8, 16, 32, 64].contains width = true) ∧ (addr % n = 0) ∧ (t.writeFault who addr n = 0) ∧ (16 ≤ coll)) ∧
    (let s : State := { core := fopb, mem := [(spoolBase+12*0x80000,0x0f),(spoolBase+12*0x80000+3,0xf0),(spoolBase+12*0x80000+4,0xf0)] }; let dt : Nat := 2; let who : Nat := 1; let addr : Nat := spoolBase+0x4000000+12*0x80000; let width : Nat := 32; let coll : Nat := 0; let clear : Bool := false; let k : View := if clear then .bitClear else .bitSet; let c := s.core.advance dt; let n := width / 8; let p := (c.locate addr).2; let t := if bankDual (bankOf p) then c.inc Obj.SB_COLLISIONS 0 (bankOf p - 48) coll else c; (Memory.wf s.mem = true) ∧ (c.running = true) ∧ (c.mode ≠ .safe) ∧ ((c.locate addr).1 = k) ∧ ([8, 16, 32, 64].contains width = true) ∧ (addr % n = 0) ∧ (t.writeFault who addr n = 0) ∧ (coll < 16)) := by and_intros <;> decide +kernel

end Memories

/-! ### Motion and the Comet -/

namespace Motions

/-- A block with axes and values of objects. -/
def mc (l : List (Ob × Nat × Nat × Nat)) (ax : Tab Axis) : Core := { ob base l with mot := { axes := ax } }
/-- The parameters of an axis. -/
def axp (a : Nat) : List (Ob × Nat × Nat × Nat) :=
  [(Obj.ax_V_MAX, a, 0, 10000), (Obj.ax_A_ACC, a, 0, 20000), (Obj.ax_A_DEC, a, 0, 20000), (Obj.ax_STOP_DEC, a, 0, 30000), (Obj.ax_SAFE_DEC, a, 0, 40000)]
/-- A STATUS frame of a drive. -/
def stf (flags seq : Nat) (pos : Int) (fault : Nat) : List Byte :=
  crcd (leBytes 1 0xA1 ++ leBytes 1 flags ++ leBytes 2 seq ++ leBytes 8 (rawOf 64 pos) ++ leBytes 4 0 ++ leBytes 2 fault ++ leBytes 2 0 ++ leBytes 8 0)
/-- A stepper axis 5 in a state. -/
def sc (st : Nat) (x : Axis) : Core := mc ([(Obj.ax_AX_STATE, 5, 0, st), (Obj.st_VBUS, 1, 0, 24000), (Obj.st_QUIET_VOLT, 1, 0, 3000)] ++ axp 5) [(5, x)]
/-- The Comet's owner in PRINT WEB: command pacing by axis 1, MASTER and FEED axis of group 0. -/
def cm (st : Nat) (l : List (Ob × Nat × Nat × Nat)) : Core :=
  ob (pr 0) ([(Obj.COMET_STATE, 0, 0, st), (Obj.PACE_SRC, 0, 0, 9), (Obj.CMD_SCALE, 0, 0, 2 ^ 48), (Obj.ax_GROUP, 1, 0, 0), (Obj.ax_ROLE, 1, 0, 1), (Obj.grp_MASTER, 0, 0, 1),
    (Obj.ax_AX_STATE, 1, 0, 1), (Obj.V_RES, 0, 0, 500)] ++ axp 1 ++ l)
/-- The ring around the Comet: this controller is node 1, the master, of two. -/
def rg : List (Ob × Nat × Nat × Nat) :=
  [(Obj.NODE_ID, 0, 0, 1), (Obj.MASTER_ID, 0, 0, 1), (Obj.RING_STATE, 0, 0, 2), (Obj.TOPO_COUNT, 0, 0, 2), (Obj.TOPOLOGY, 0, 0, 1), (Obj.TOPOLOGY, 0, 1, 2),
   (Obj.rp_LINK_STATE, 0, 0, 3), (Obj.rp_LINK_STATE, 1, 0, 3)]
/-- A COMET frame from node 2. -/
def cf (sub state id seam : Nat) (pos : Int) : List Byte := ringFrame 0x12 3 4095 2 0 9 0 (cometPayload sub state id seam pos 0)
/-- A controller that follows another's Comet. -/
def guest (st : Nat) (l : List (Ob × Nat × Nat × Nat)) : Core := ob (pr 0) ([(Obj.COMET_STATE, 0, 0, st), (Obj.PACE_SRC, 0, 0, 0), (Obj.MASTER_ID, 0, 0, 2)] ++ l)

/-- The hypotheses of AxesAreEvaluatedAtTheirMarks can be met. -/
theorem witness_AxesAreEvaluatedAtTheirMarks :
    (let s : State := st (mc ([(Obj.ax_AX_STATE,0,0,2)] ++ axp 0) [(0,{ v := 5, segs := [⟨0, 0, 10⟩] })]); let dt : Nat := 3000000; let c := s.core.advance dt; let P := c.rd0 Obj.SERVO_PERIOD; let mark := c.ftNs / (Nat.max 1 P) * P; (c.running = true) ∧ (c.mot.servo.all (fun m => decide (m < mark)) = true)) ∧
    (let s : State := st (sc 2 { v := 500, segs := [⟨0, 0, 1000⟩] }); let dt : Nat := 3000000; let f : Nat := base.rd Obj.st_PWM_FREQ 1 0; let c := s.core.advance dt; let k := c.pwmIndex f; (c.running = true) ∧ ((Tab.get? c.mot.pwm f).all (fun j => decide (j < k)) = true)) ∧
    (let s : State := st ({ mc [] [] with mot := { servo := some 0 } }); let dt : Nat := 0; let c := s.core.advance dt; let P := c.rd0 Obj.SERVO_PERIOD; let mark := c.ftNs / (Nat.max 1 P) * P; (c.running = true) ∧ (c.mot.servo = some mark)) ∧
    (let s : State := st ({ mc [] [] with mot := { pwm := [(20000,base.pwmIndex 20000)] } }); let dt : Nat := 0; let f : Nat := 20000; let c := s.core.advance dt; let k := c.pwmIndex f; (c.running = true) ∧ (Tab.get? c.mot.pwm f = some k)) ∧
    (let A : Rat := 2; (0 < A)) ∧
    (let l := velRamp 3 0 10 2 1; (0:Rat) < 2 ∧ (0:Rat) < 1 ∧ l.length = 3 ∧ ∀ g ∈ l, absRat g.a ≤ 2 ∧ absRat g.j ≤ 1) ∧
    (let v : Rat := 3; let vT : Rat := 10; let A : Rat := 2; let J : Rat := 1; (0 < A) ∧ (0 < J) ∧ (A * A ≤ J * absRat (vT - v))) := by and_intros <;> decide +kernel

/-- The hypotheses of DriveLinkIsWatched can be met. -/
theorem witness_DriveLinkIsWatched :
    (let s : State := st (base); let dt : Nat := 2; let d : Nat := 1; let c := s.core.advance dt; (c.running = true) ∧ (d < 4) ∧ (c.armed .drive d = false)) ∧
    (let s : State := st (base.arm .drive 1 100); let dt : Nat := 2; let d : Nat := 1; let b : List Byte := []; let e : Bool := false; let c := s.core.advance dt; (c.running = true) ∧ (d < 4) ∧ (c.armed .drive d = true) ∧ (c.statusValid d b e = false)) ∧
    (let s : State := st (due base [(.drive,1)]); let dt : Nat := 2; let d : Nat := 1; let c := s.core.advance dt; (c.running = true) ∧ (d < 4)) ∧
    (let c : Core := due base [(.drive,1)]; c.running = true ∧ (c.statusMissed 1).axis 1 ≠ c.axis 1 ∧ ((c.statusMissed 1).axis 1).missed = (c.axis 1).missed + 1 ∧ (c.statusMissed 1).rd Obj.dl_DL_MISSED 1 0 = (c.rd Obj.dl_DL_MISSED 1 0 + 1) % 2 ^ 32) ∧
    (let s : State := st (mc [(Obj.ax_AX_STATE,1,0,2)] [(1,{ missed := 3 })]); let dt : Nat := 2; let d : Nat := 1; let c := s.core.advance dt; (c.running = true) ∧ (d < 4) ∧ (3 ≤ (c.axis d).missed) ∧ ((c.srcRec (1476 + d)).active = false) ∧ (c.axSt d ≠ axDisabled) ∧ (c.axSt d ≠ axSafeHeld)) ∧
    (let s : State := st (mc [(Obj.ax_AX_STATE,1,0,0)] [(1,{ missed := 3 })]); let dt : Nat := 2; let d : Nat := 1; let c := s.core.advance dt; (c.running = true) ∧ (d < 4) ∧ (3 ≤ (c.axis d).missed) ∧ ((c.srcRec (1476 + d)).active = false) ∧ (c.axSt d = axDisabled ∨ c.axSt d = axSafeHeld)) ∧
    (let s : State := st (mc [(Obj.ax_AX_STATE,1,0,2)] [(1,{ missed := 2 })]); let dt : Nat := 2; let d : Nat := 1; let c := s.core.advance dt; (c.running = true) ∧ (d < 4) ∧ ((c.axis d).missed < 3 ∨ (c.srcRec (1476 + d)).active = true)) ∧
    (let s : State := st ((mc [(Obj.ax_AX_STATE,1,0,1)] [(1,{ setSeq := 7, missed := 1 })]).arm .drive 1 100); let dt : Nat := 2; let d : Nat := 1; let b : List Byte := stf 24 7 (-5) 3; let e : Bool := false; let c := s.core.advance dt; (c.running = true) ∧ (d < 4) ∧ (c.armed .drive d = true) ∧ (c.statusValid d b e = true) ∧ let pos := signedOf 64 (leAt b 4 8); let t := ((c.updAxis d (fun x => { x with missed := 0 })).disarm .drive d).level (1476 + d) 0 false; let u := ((t.wrI Obj.dl_ACT_POS d 0 pos).wr Obj.dl_DL_FLAGS d 0 (leAt b 1 1)).wr Obj.dl_FAULT_CODE d 0 (leAt b 16 2); let v := (u.homeInput d (bit (leAt b 1 1) 3)).limInput d (bit (leAt b 1 1) 4); let w := if bit (leAt b 1 1) 2 then v.occur (1480 + d) 0 else v; (w.rd Obj.dl_FOLLOW_MAX d 0 = 0 ∨ (w.axis d).sent.length ≠ 2)) ∧
    (let s : State := st ((mc [(Obj.ax_AX_STATE,1,0,1),(Obj.dl_FOLLOW_MAX,1,0,9)] [(1,{ setSeq := 7, missed := 1, sent := [1,2] })]).arm .drive 1 100); let dt : Nat := 2; let d : Nat := 1; let b : List Byte := stf 24 7 (-5) 3; let e : Bool := false; let c := s.core.advance dt; (c.running = true) ∧ (d < 4) ∧ (c.armed .drive d = true) ∧ (c.statusValid d b e = true) ∧ let pos := signedOf 64 (leAt b 4 8); let t := ((c.updAxis d (fun x => { x with missed := 0 })).disarm .drive d).level (1476 + d) 0 false; let u := ((t.wrI Obj.dl_ACT_POS d 0 pos).wr Obj.dl_DL_FLAGS d 0 (leAt b 1 1)).wr Obj.dl_FAULT_CODE d 0 (leAt b 16 2); let v := (u.homeInput d (bit (leAt b 1 1) 3)).limInput d (bit (leAt b 1 1) 4); let w := if bit (leAt b 1 1) 2 then v.occur (1480 + d) 0 else v; let p := 1; let q := 2; (0 < w.rd Obj.dl_FOLLOW_MAX d 0) ∧ ((w.axis d).sent = [p, q])) := by and_intros <;> decide +kernel

/-- The hypotheses of AxisInputsTakeEffect can be met. -/
theorem witness_AxisInputsTakeEffect :
    (let s : State := st (mc [(Obj.ax_AX_STATE,5,0,3),(Obj.ax_HOME_POS,5,0,77)] [(5,{ x := 1000, off := 3, v := 8, home := 1 })]); let dt : Nat := 2; let a : Nat := 5; let c := s.core.advance dt; let x := c.axis a; (c.running = true) ∧ (4 ≤ a) ∧ (a < 12) ∧ (bit (c.rd Obj.ax_AX_FLAGS a 0) 2 = false) ∧ (c.axSt a = axHoming) ∧ (x.home = 1)) ∧
    (let s : State := st (sc 2 {}); let dt : Nat := 2; let a : Nat := 5; let c := s.core.advance dt; let x := c.axis a; (c.running = true) ∧ (4 ≤ a) ∧ (a < 12) ∧ (bit (c.rd Obj.ax_AX_FLAGS a 0) 2 = true ∨ c.axSt a ≠ axHoming ∨ x.home ≠ 1)) ∧
    (let s : State := st (sc 2 {}); let dt : Nat := 2; let a : Nat := 5; let c := s.core.advance dt; (c.running = true) ∧ (4 ≤ a) ∧ (a < 12)) ∧
    (let s : State := st (sc 2 {}); let dt : Nat := 2; let a : Nat := 5; let c := s.core.advance dt; (c.running = true) ∧ (4 ≤ a) ∧ (a < 12)) ∧
    (let s : State := st ((sc 2 {}).level 1445 0 true); let dt : Nat := 2; let a : Nat := 5; let c := s.core.advance dt; (c.running = true) ∧ (4 ≤ a) ∧ (a < 12)) ∧
    (let s : State := st (due (sc 1 {}) [(.holdDelay,1)]); let dt : Nat := 2; let a : Nat := 5; let c := s.core.advance dt; (c.running = true) ∧ (4 ≤ a) ∧ (a < 12) ∧ (c.due .holdDelay (a - 4) = true) ∧ (c.axSt a = axIdle) ∧ (c.axisDone a = true)) ∧
    (let s : State := st (due (sc 2 {}) [(.holdDelay,1)]); let dt : Nat := 2; let a : Nat := 5; let c := s.core.advance dt; (c.running = true) ∧ (4 ≤ a) ∧ (a < 12) ∧ (c.due .holdDelay (a - 4) = true) ∧ (c.axSt a ≠ axIdle ∨ c.axisDone a = false)) ∧
    (let s : State := st (sc 2 {}); let dt : Nat := 2; let a : Nat := 5; let c := s.core.advance dt; (c.running = true) ∧ (4 ≤ a) ∧ (a < 12) ∧ (c.due .holdDelay (a - 4) = false)) := by and_intros <;> decide +kernel

/-- The hypotheses of StepperFaultsStopTheirAxis can be met. -/
theorem witness_StepperFaultsStopTheirAxis :
    (let s : State := st (sc 2 { openB := 8, v := 500 }); let dt : Nat := 2; let n : Nat := 1; let c := s.core.advance dt; (c.running = true) ∧ (n < 8) ∧ (c.axRuns (4 + n) = true) ∧ ((8 ≤ (c.axis (4 + n)).openA ∨ 8 ≤ (c.axis (4 + n)).openB))) ∧
    (let s : State := st (sc 2 { v := 500 }); let dt : Nat := 2; let n : Nat := 1; let c := s.core.advance dt; (c.running = true) ∧ (n < 8) ∧ ((Tab.get? c.mot.sense n).all (fun t => decide (t + us (c.rd Obj.st_SENSE_TEST_PERIOD n 0) ≤ c.clk)) = true)) ∧
    (let s : State := st (sc 2 { implA := 4, v := 500 }); let dt : Nat := 2; let n : Nat := 1; let c := s.core.advance dt; (c.running = true) ∧ (n < 8) ∧ (c.axRuns (4 + n) = true) ∧ ((4 ≤ (c.axis (4 + n)).implA ∨ 4 ≤ (c.axis (4 + n)).implB))) ∧
    (let s : State := st (sc 2 { v := 500 }); let dt : Nat := 2; let n : Nat := 1; let c := s.core.advance dt; (c.running = true) ∧ (n < 8) ∧ let g := 3; (g < 8) ∧ (c.axSt (4 + n) ≠ axDisabled)) ∧
    (let s : State := st (sc 2 { v := 500 }); let dt : Nat := 2; let n : Nat := 1; let c := s.core.advance dt; (c.running = true) ∧ (n < 8)) ∧
    (let s : State := st (sc 2 { ovRun := 3 }); let dt : Nat := 2; let n : Nat := 1; let c := s.core.advance dt; (c.running = true) ∧ (n < 8) ∧ (3 ≤ (c.axis (4 + n)).ovRun)) ∧
    (let s : State := st (sc 2 { uvRun := 3 }); let dt : Nat := 2; let n : Nat := 1; let c := s.core.advance dt; (c.running = true) ∧ (n < 8) ∧ (3 ≤ (c.axis (4 + n)).uvRun)) ∧
    (let s : State := st (sc 2 {}); let dt : Nat := 2; let n : Nat := 1; let c := s.core.advance dt; (c.running = true) ∧ (n < 8) ∧ ((c.axis (4 + n)).openA < 8) ∧ ((c.axis (4 + n)).openB < 8)) ∧
    (let s : State := st (sc 2 {}); let dt : Nat := 2; let n : Nat := 1; let c := s.core.advance dt; (c.running = true) ∧ (n < 8) ∧ ((c.axis (4 + n)).implA < 4) ∧ ((c.axis (4 + n)).implB < 4)) ∧
    (let s : State := st (sc 2 {}); let dt : Nat := 2; let n : Nat := 1; let c := s.core.advance dt; (c.running = true) ∧ (n < 8) ∧ ((c.axis (4 + n)).ovRun < 3)) ∧
    (let s : State := st (sc 2 {}); let dt : Nat := 2; let n : Nat := 1; let c := s.core.advance dt; (c.running = true) ∧ (n < 8) ∧ ((c.axis (4 + n)).uvRun < 3)) ∧
    (let s : State := st (sc 0 {}); let dt : Nat := 2; let n : Nat := 1; let c := s.core.advance dt; (c.running = true) ∧ (n < 8) ∧ (c.axSt (4 + n) = axDisabled)) := by and_intros <;> decide +kernel

/-- The hypotheses of CometFollowsItsCourse can be met. -/
theorem witness_CometFollowsItsCourse :
    (let s : State := st (base); let dt : Nat := 2; let c := s.core.advance dt; (c.inPrint = false ∨ c.stop ≠ none)) ∧
    (let s : State := st (base); let dt : Nat := 2; let c := s.core.advance dt; (c.inPrint = false ∨ c.stop ≠ none)) ∧
    (let s : State := st (base); let dt : Nat := 2; let c := s.core.advance dt; (c.inPrint = false ∨ c.stop ≠ none)) ∧
    (let s : State := st (base); let dt : Nat := 2; let c := s.core.advance dt; (c.inPrint = false ∨ c.stop ≠ none)) ∧
    (let s : State := st (due { cm 1 [] with comet := { reaches := [5*2^24, 9*2^24] } } [(.cometCollect,0)]); let dt : Nat := 2; let c := s.core.advance dt; (c.inPrint = true) ∧ (c.stop = none)) ∧
    (let s : State := st (cm 3 []); let dt : Nat := 2; let c := s.core.advance dt; (c.inPrint = true) ∧ (c.stop = none) ∧ (c.rd0 Obj.COMET_STATE ≠ 2 ∨ c.seamComplete = false)) ∧
    (let s : State := st ({ guest 2 rg with hold := some 3, comet := { guest := true, seamDone := true }, ports := [(0, { enumerated := true, floor := 9 })] }); let dt : Nat := 2; let c := s.core.advance dt; (c.inPrint = true) ∧ (c.stop = none) ∧ (c.rd0 Obj.COMET_STATE = 2) ∧ (c.seamComplete = true) ∧ (c.comet.guest = true) ∧ (c.comet.seamDone = true)) ∧
    (let s : State := st ({ guest 2 rg with hold := some 3, comet := { guest := true }, ports := [(0, { enumerated := true, floor := 9 })] }); let dt : Nat := 2; let c := s.core.advance dt; (c.inPrint = true) ∧ (c.stop = none) ∧ (c.rd0 Obj.COMET_STATE = 2) ∧ (c.seamComplete = true) ∧ (c.comet.guest = true) ∧ (c.comet.seamDone = false)) ∧
    (let s : State := st ({ cm 2 (rg ++ [(Obj.COMET_PARTICIPANTS,0,0,2)]) with hold := some 3, ports := [(0, { enumerated := true, floor := 9 })] }); let dt : Nat := 2; let c := s.core.advance dt; (c.inPrint = true) ∧ (c.stop = none) ∧ (c.rd0 Obj.COMET_STATE = 2) ∧ (c.seamComplete = true) ∧ (c.comet.guest = false) ∧ ((c.cometAtRest = false ∨ c.cometMissing 0 ≠ []))) ∧
    (let s : State := st ({ cm 2 [] with hold := some 3, ports := [(0, { enumerated := true, floor := 9 })] }); let dt : Nat := 2; let c := s.core.advance dt; (c.inPrint = true) ∧ (c.stop = none) ∧ (c.rd0 Obj.COMET_STATE = 2) ∧ (c.seamComplete = true) ∧ (c.comet.guest = false) ∧ (c.cometAtRest = true) ∧ (c.cometMissing 0 = [])) ∧
    (let s : State := st (cm 3 []); let dt : Nat := 2; let c := s.core.advance dt; (c.inPrint = true) ∧ (c.stop = none) ∧ (c.rd0 Obj.COMET_STATE ≠ 4 ∨ c.resumeReady = false)) ∧
    (let s : State := st ({ guest 4 (rg ++ [(Obj.RESUME_LA,0,0,0)]) with comet := { guest := true, readySent := true } }); let dt : Nat := 2; let c := s.core.advance dt; (c.inPrint = true) ∧ (c.stop = none) ∧ (c.rd0 Obj.COMET_STATE = 4) ∧ (c.resumeReady = true) ∧ (c.comet.guest = true) ∧ (c.comet.readySent = true)) ∧
    (let s : State := st ({ guest 4 (rg ++ [(Obj.RESUME_LA,0,0,0)]) with comet := { guest := true } }); let dt : Nat := 2; let c := s.core.advance dt; (c.inPrint = true) ∧ (c.stop = none) ∧ (c.rd0 Obj.COMET_STATE = 4) ∧ (c.resumeReady = true) ∧ (c.comet.guest = true) ∧ (c.comet.readySent = false)) ∧
    (let s : State := st ({ cm 4 (rg ++ [(Obj.RESUME_LA,0,0,0),(Obj.COMET_PARTICIPANTS,0,0,2)]) with hold := some 3 }); let dt : Nat := 2; let c := s.core.advance dt; (c.inPrint = true) ∧ (c.stop = none) ∧ (c.rd0 Obj.COMET_STATE = 4) ∧ (c.resumeReady = true) ∧ (c.comet.guest = false) ∧ (c.cometMissing 1 ≠ [])) ∧
    (let s : State := st ({ ob (pr 0) [(Obj.COMET_STATE,0,0,4),(Obj.PACE_SRC,0,0,9),(Obj.RESUME_LA,0,0,0)] with hold := some 3 }); let dt : Nat := 2; let c := s.core.advance dt; (c.inPrint = true) ∧ (c.stop = none) ∧ (c.rd0 Obj.COMET_STATE = 4) ∧ (c.resumeReady = true) ∧ (c.comet.guest = false) ∧ (c.cometMissing 1 = []) ∧ (c.cometAxis = none)) ∧
    (let s : State := st ({ cm 4 [(Obj.RESUME_LA,0,0,0)] with hold := some 3 }); let dt : Nat := 2; let c := s.core.advance dt; (c.inPrint = true) ∧ (c.stop = none) ∧ (c.rd0 Obj.COMET_STATE = 4) ∧ (c.resumeReady = true) ∧ let a := 1; (c.comet.guest = false) ∧ (c.cometMissing 1 = []) ∧ (c.cometAxis = some a)) ∧
    (let s : State := st ({ guest 4 rg with comet := { guest := true } }); let dt : Nat := 2; let c := s.core.advance dt; (c.inPrint = true) ∧ (c.stop = none) ∧ (c.comet.guest = true)) ∧
    (let s : State := st (due (cm 2 (rg ++ [(Obj.COMET_PARTICIPANTS,0,0,2)])) [(.participant,0)]); let dt : Nat := 2; let c := s.core.advance dt; (c.inPrint = true) ∧ (c.stop = none) ∧ (c.comet.guest = false) ∧ (c.due .participant 0 = true) ∧ (c.cometMissing 0 ≠ [])) ∧
    (let s : State := st (due (cm 4 (rg ++ [(Obj.COMET_PARTICIPANTS,0,0,2)])) [(.participant,1)]); let dt : Nat := 2; let c := s.core.advance dt; (c.inPrint = true) ∧ (c.stop = none) ∧ (c.comet.guest = false) ∧ ((c.due .participant 0 = false ∨ c.cometMissing 0 = [])) ∧ (c.due .participant 1 = true) ∧ (c.cometMissing 1 ≠ [])) ∧
    (let s : State := st (cm 0 rg); let dt : Nat := 2; let k : Nat := 0; let b : List Byte := cf 1 0 0 0 (5*2^24); let c := s.core.advance dt; let p := frPayload b; (c.Delivers k 0x12 b) ∧ (leAt p 0 1 = 1) ∧ (p.length = 32)) ∧
    (let s : State := st (guest 0 rg); let dt : Nat := 2; let k : Nat := 0; let b : List Byte := cf 2 0 4 0 (50*2^24); let c := s.core.advance dt; let p := frPayload b; (c.Delivers k 0x12 b) ∧ (leAt p 0 1 = 2) ∧ (p.length = 32)) ∧
    (let s : State := st (cm 4 rg); let dt : Nat := 2; let k : Nat := 0; let b : List Byte := cf 3 0 4 0 0; let c := s.core.advance dt; let p := frPayload b; (c.Delivers k 0x12 b) ∧ (leAt p 0 1 = 3) ∧ (p.length = 32)) ∧
    (let s : State := st (cm 2 rg); let dt : Nat := 2; let k : Nat := 0; let b : List Byte := cf 5 0 4 0 0; let c := s.core.advance dt; let p := frPayload b; (c.Delivers k 0x12 b) ∧ (leAt p 0 1 = 5) ∧ (p.length = 32)) ∧
    (let s : State := st (cm 0 rg); let dt : Nat := 2; let k : Nat := 0; let b : List Byte := cf 6 0 4 0 0; let c := s.core.advance dt; let t := c.delivered k 0x12 b; let p := frPayload b; (c.Delivers k 0x12 b) ∧ (leAt p 0 1 = 6) ∧ (p.length = 32) ∧ (t.cometOwner = true) ∧ (frSrc b ≠ 0)) ∧
    (let s : State := st (guest 0 rg); let dt : Nat := 2; let k : Nat := 0; let b : List Byte := cf 6 0 4 0 0; let c := s.core.advance dt; let t := c.delivered k 0x12 b; let p := frPayload b; (c.Delivers k 0x12 b) ∧ (leAt p 0 1 = 6) ∧ (p.length = 32) ∧ (t.cometOwner = false ∨ frSrc b = 0)) ∧
    (let s : State := st (cm 0 (rg ++ [(Obj.COMET_PARTICIPANTS,0,0,2)])); let dt : Nat := 2; let k : Nat := 0; let b : List Byte := cf 7 0 4 0 0; let c := s.core.advance dt; let p := frPayload b; (c.Delivers k 0x12 b) ∧ (leAt p 0 1 = 7) ∧ (p.length = 32)) ∧
    (let s : State := st (guest 2 rg); let dt : Nat := 2; let k : Nat := 0; let b : List Byte := cf 4 3 4 0 0; let c := s.core.advance dt; let t := c.delivered k 0x12 b; let p := frPayload b; (c.Delivers k 0x12 b) ∧ (leAt p 0 1 = 4) ∧ (p.length = 32) ∧ (t.cometOwner = false) ∧ (t.inPrint = true) ∧ (leAt p 1 1 ≤ 5) ∧ (leAt p 1 1 ≠ 1)) ∧
    (let s : State := st (cm 2 rg); let dt : Nat := 2; let k : Nat := 0; let b : List Byte := cf 4 3 4 0 0; let c := s.core.advance dt; let t := c.delivered k 0x12 b; let p := frPayload b; (c.Delivers k 0x12 b) ∧ (leAt p 0 1 = 4) ∧ (p.length = 32) ∧ (t.cometOwner = true ∨ t.inPrint = false)) ∧
    (let c : Core := cm 2 rg; let b := ringFrame 0x12 3 4095 2 0 9 0 [4, 3]; c.Delivers 0 0x12 b ∧ (frPayload b).length ≠ 32) := by and_intros <;> decide +kernel

end Motions

/-! ### The ring, time, PTP -/

namespace Rings

/-- The ring of two: node 1 the master, node 2 the other; both ports UP. -/
def rng (me : Nat) (l : List (Ob × Nat × Nat × Nat)) : Core :=
  ob base ([(Obj.NODE_ID, 0, 0, me), (Obj.RING_ROLE, 0, 0, if me = 1 then 1 else 0), (Obj.MASTER_ID, 0, 0, 1), (Obj.RING_STATE, 0, 0, 2), (Obj.TOPO_COUNT, 0, 0, 2),
    (Obj.TOPOLOGY, 0, 0, 1), (Obj.TOPOLOGY, 0, 1, 2), (Obj.RING_EN, 0, 0, 3), (Obj.rp_LINK_STATE, 0, 0, 3), (Obj.rp_LINK_STATE, 1, 0, 3),
    (Obj.rp_NEIGHBOUR, 0, 0, 3 - me), (Obj.rp_NEIGHBOUR, 1, 0, 3 - me)] ++ l)
/-- A frame to all from a node. -/
def fr (typ src : Nat) (p : List Byte) : List Byte := ringFrame typ 3 4095 src 0 9 0 p
/-- A HELLO of the neighbour's port. -/
def hello (port : Nat) : List Byte := ringFrame 1 2 0 2 0 9 0 (leBytes 2 2 ++ leBytes 1 port ++ leBytes 1 0 ++ leBytes 8 77 ++ leBytes 4 0 ++ leBytes 4 0 ++ leBytes 4 0)
/-- A fault block of node 5. -/
def fblk : List Byte := let b := leBytes 5 (5 + 4096 + 7 * 65536); b ++ leBytes 2 (Crypto.crc16 0x1021 b 0xFFFF)
/-- The Tacks of commanded motion once one is latched. -/
def tkl : List Tack := let c := (rng 1 [(Obj.PACE_SRC,0,0,9)]).advance 2; Tab.get [] ((c.updRing (fun r => { r with tackAt := some c.clk })).latchCommanded c.ftQ).tacks 8

/-- The hypotheses of RingPortsGoThroughTheirStates can be met. -/
theorem witness_RingPortsGoThroughTheirStates :
    (let s : State := st (rng 1 [(Obj.rp_LINK_STATE,1,0,1)]); let dt : Nat := 2; let k : Nat := 1; let c := s.core.advance dt; (c.running = true) ∧ (k < 2) ∧ (c.rpState k = 1)) ∧
    (let s : State := st (rng 1 []); let dt : Nat := 2; let k : Nat := 0; let c := s.core.advance dt; (c.running = true) ∧ (k < 2) ∧ (c.rpState k ≠ 1)) ∧
    (let s : State := st (rng 1 []); let dt : Nat := 2; let k : Nat := 0; let c := s.core.advance dt; (c.running = true) ∧ (k < 2)) ∧
    (let s : State := st (due (rng 1 []) [(.helloWait,1)]); let dt : Nat := 2; let k : Nat := 1; let c := s.core.advance dt; (c.running = true) ∧ (k < 2)) ∧
    (let s : State := st (rng 1 []); let dt : Nat := 2; let k : Nat := 0; let c := s.core.advance dt; (c.running = true) ∧ (k < 2) ∧ (c.ringEn k = true) ∧ (1 ≤ c.rpState k) ∧ ((Tab.get? c.ring.helloAt k).all (fun t => decide (t + us 2 ≤ c.clk)) = true)) ∧
    (let s : State := st (rng 1 [(Obj.RING_EN,0,0,0)]); let dt : Nat := 2; let k : Nat := 0; let c := s.core.advance dt; (c.running = true) ∧ (k < 2) ∧ (c.ringEn k = false ∨ c.rpState k = 0)) ∧
    (let s : State := st (rng 1 [(Obj.rp_LINK_STATE,0,0,1)]); let dt : Nat := 2; let k : Nat := 0; let c := s.core.advance dt; (c.running = true) ∧ (k < 2) ∧ (c.rpState k < 2)) ∧
    (let s : State := st (rng 1 []); let dt : Nat := 2; let k : Nat := 0; let b : List Byte := [1,2]; let c := s.core.advance dt; (c.running = true) ∧ (k < 2) ∧ (2 ≤ c.rpState k) ∧ (frOk b = false)) ∧
    (let s : State := st (rng 1 []); let dt : Nat := 2; let k : Nat := 0; let b : List Byte := fr 2 2 [1]; let c := s.core.advance dt; (c.running = true) ∧ (k < 2) ∧ (2 ≤ c.rpState k) ∧ (frOk b = true) ∧ (helloOk b = false)) ∧
    (let s : State := st ({ rng 1 [(Obj.rp_NEIGHBOUR_SERIAL,0,0,5)] with ring := { heard := [(0,1)] } }); let dt : Nat := 2; let k : Nat := 0; let b : List Byte := hello 1; let c := s.core.advance dt; let p := frPayload b; (c.running = true) ∧ (k < 2) ∧ (2 ≤ c.rpState k) ∧ (helloOk b = true) ∧ let other := bit (Tab.get 0 c.ring.heard k) 0 = true ∧ leAt p 4 8 ≠ c.rd Obj.rp_NEIGHBOUR_SERIAL k 0; (other)) ∧
    (let s : State := st (rng 1 [(Obj.rp_LINK_STATE,0,0,2)]); let dt : Nat := 2; let k : Nat := 0; let b : List Byte := hello 0; let c := s.core.advance dt; let p := frPayload b; (c.running = true) ∧ (k < 2) ∧ (2 ≤ c.rpState k) ∧ (helloOk b = true) ∧ let other := bit (Tab.get 0 c.ring.heard k) 0 = true ∧ leAt p 4 8 ≠ c.rd Obj.rp_NEIGHBOUR_SERIAL k 0; (¬other) ∧ (leAt p 2 1 = k)) ∧
    (let s : State := st ({ rng 1 [(Obj.rp_LINK_STATE,0,0,2)] with ring := { run := [(0,2)] } }); let dt : Nat := 2; let k : Nat := 0; let b : List Byte := hello 1; let c := s.core.advance dt; let p := frPayload b; (c.running = true) ∧ (k < 2) ∧ (2 ≤ c.rpState k) ∧ (helloOk b = true) ∧ let other := bit (Tab.get 0 c.ring.heard k) 0 = true ∧ leAt p 4 8 ≠ c.rd Obj.rp_NEIGHBOUR_SERIAL k 0; (¬other) ∧ (leAt p 2 1 = 1 - k)) := by and_intros <;> decide +kernel

/-- The hypotheses of RingFramesAreCheckedAndForwarded can be met. -/
theorem witness_RingFramesAreCheckedAndForwarded :
    (let s : State := st (rng 2 []); let dt : Nat := 2; let k : Nat := 0; let b : List Byte := [1,2,3]; let c := s.core.advance dt; (c.running = true) ∧ (k < 2) ∧ (c.rd Obj.rp_LINK_STATE k 0 = 3) ∧ (frOk b = false)) ∧
    (let s : State := st (rng 2 []); let dt : Nat := 2; let k : Nat := 0; let b : List Byte := ringFrame 0x12 2 9 1 0 9 0 (leBytes 8 500 ++ leBytes 8 1000000 ++ leBytes 2 0 ++ leBytes 2 0 ++ leBytes 4 4000 ++ leBytes 4 3 ++ leBytes 4 0); let c := s.core.advance dt; (c.running = true) ∧ (k < 2) ∧ (c.rd Obj.rp_LINK_STATE k 0 = 3) ∧ (frOk b = true) ∧ (frType b ≠ 0x11)) ∧
    (let s : State := st (rng 2 []); let dt : Nat := 2; let k : Nat := 0; let b : List Byte := ringFrame 0x11 2 9 2 1 9 0 (leBytes 8 500 ++ leBytes 8 1000000 ++ leBytes 2 0 ++ leBytes 2 0 ++ leBytes 4 4000 ++ leBytes 4 3 ++ leBytes 4 0); let c := s.core.advance dt; (c.running = true) ∧ (k < 2) ∧ (c.rd Obj.rp_LINK_STATE k 0 = 3) ∧ (frOk b = true) ∧ (frType b = 0x11) ∧ ((c.frMine b none = false ∨ c.firstCopy b = false ∨ frSrc b = c.rd0 Obj.NODE_ID))) ∧
    (let s : State := st (rng 2 [(Obj.PACE_SRC,0,0,10)]); let dt : Nat := 2; let k : Nat := 0; let b : List Byte := fr 0x11 1 (leBytes 8 500 ++ leBytes 8 1000000 ++ leBytes 2 0 ++ leBytes 2 0 ++ leBytes 4 4000 ++ leBytes 4 3 ++ leBytes 4 0); let c := s.core.advance dt; (c.running = true) ∧ (k < 2) ∧ (c.rd Obj.rp_LINK_STATE k 0 = 3) ∧ (c.Delivers k 0x11 b)) ∧
    (let s : State := st (rng 2 []); let dt : Nat := 2; let k : Nat := 0; let c := s.core.advance dt; (c.running = true) ∧ (k < 2) ∧ (c.rd Obj.rp_LINK_STATE k 0 = 3)) ∧
    (let b : List Byte := ringFrame 0x11 3 4095 1 258 9 5 [1,2,3]; (frOk b = true) ∧ (frHops b < 65535)) := by and_intros <;> decide +kernel

/-- The hypotheses of RingMessagesTakeEffect can be met. -/
theorem witness_RingMessagesTakeEffect :
    (let s : State := st (rng 1 []); let dt : Nat := 2; let k : Nat := 0; let b : List Byte := fr 0x13 2 (leBytes 2 1 ++ leBytes 1 0 ++ leBytes 1 0 ++ leBytes 4 0); let c := s.core.advance dt; (c.Delivers k 0x13 b)) ∧
    (let s : State := st (rng 1 []); let dt : Nat := 2; let k : Nat := 0; let b : List Byte := ringFrame 0x20 2 1 2 0 9 0 (leBytes 8 77 ++ leBytes 2 1 ++ leBytes 2 1 ++ leBytes 1 0 ++ leBytes 3 0 ++ leBytes 8 0); let c := s.core.advance dt; (c.Delivers k 0x20 b)) ∧
    (let s : State := st (rng 2 []); let dt : Nat := 2; let k : Nat := 0; let b : List Byte := fr 0x21 1 (leBytes 4 5 ++ leBytes 2 2 ++ leBytes 2 0 ++ leBytes 2 1 ++ leBytes 2 2); let c := s.core.advance dt; (c.Delivers k 0x21 b)) ∧
    (let s : State := st (rng 2 []); let dt : Nat := 2; let k : Nat := 0; let b : List Byte := fr 0x22 1 (calPayload 1 0 0 4 0); let c := s.core.advance dt; (c.Delivers k 0x22 b)) ∧
    (let s : State := st ({ rng 1 [(Obj.CAL_STATE,0,0,1)] with ring := { calId := 4, calLeft := [1,2] } }); let dt : Nat := 2; let k : Nat := 0; let b : List Byte := ringFrame 0x22 2 1 2 0 9 0 (calPayload 2 0 1 4 300); let c := s.core.advance dt; (c.Delivers k 0x22 b)) ∧
    (let s : State := st (rng 2 []); let dt : Nat := 2; let k : Nat := 0; let b : List Byte := fr 0x23 1 (sweepPayload 1 0 4 3); let c := s.core.advance dt; (c.Delivers k 0x23 b)) ∧
    (let s : State := st (rng 1 [(Obj.RING_SWEEP_ID,0,0,4),(Obj.RING_SWEEP_STATUS,0,1,1)]); let dt : Nat := 2; let k : Nat := 0; let b : List Byte := ringFrame 0x23 2 1 2 0 9 0 (sweepPayload 2 0 4 3); let c := s.core.advance dt; let p := frPayload b; (c.Delivers k 0x23 b) ∧ let t := c.delivered k 0x23 b; let j := 1; (p.length = 16) ∧ (leAt p 0 1 = 2) ∧ (t.isMaster = true) ∧ (leAt p 4 4 = t.rd0 Obj.RING_SWEEP_ID) ∧ (t.placeOf (frSrc b) = some j)) ∧
    (let s : State := st (rng 2 []); let dt : Nat := 2; let k : Nat := 0; let b : List Byte := fr 0x23 1 (sweepPayload 1 0 4 3); let c := s.core.advance dt; let p := frPayload b; (c.Delivers k 0x23 b) ∧ let t := c.delivered k 0x23 b; (p.length ≠ 16 ∨ leAt p 0 1 ≠ 2 ∨ t.isMaster = false)) ∧
    (let s : State := st (rng 1 []); let dt : Nat := 2; let k : Nat := 0; let b : List Byte := ringFrame 0x32 2 1 2 0 9 0 (leBytes 24 0 ++ [1,0,0,2,0,0,0,0]); let c := s.core.advance dt; let head : List Byte := []; let payload : List Byte := ringFrame 0x32 2 1 2 0 9 0 (leBytes 24 0 ++ [1,0,0,2,0,0,0,0]); let crc : List Byte := []; (b = head ++ payload ++ crc) ∧ (c.Delivers k 0x32 b) ∧ let r := (c.delivered k 0x32 b).reassemble b; let m := leBytes 24 0 ++ [1,0,0,2,0,0,0,0]; (r.1 = some m)) ∧
    (let s : State := st (rng 1 []); let dt : Nat := 2; let k : Nat := 0; let b : List Byte := ringFrame 0x32 2 1 2 0 9 0x8000 (leBytes 24 0 ++ [1,0,0,2,0,0,0,0]); let c := s.core.advance dt; let head : List Byte := []; let payload : List Byte := ringFrame 0x32 2 1 2 0 9 0x8000 (leBytes 24 0 ++ [1,0,0,2,0,0,0,0]); let crc : List Byte := []; (b = head ++ payload ++ crc) ∧ (c.Delivers k 0x32 b) ∧ let r := (c.delivered k 0x32 b).reassemble b; (r.1 = none)) := by and_intros <;> decide +kernel

/-- The hypotheses of LinkDelayIsMeasured can be met. -/
theorem witness_LinkDelayIsMeasured :
    (let s : State := st ({ rng 1 [] with clk := 100000, ring := { reqNext := 3, reqAt := 10, calOf := 4 } }); let dt : Nat := 2; let c := s.core.advance dt; (c.running = true) ∧ (c.originates = true) ∧ (c.rpState 0 = 3) ∧ (c.ring.reqNext < 16) ∧ ((c.ring.reqNext = 0 ∨ c.ring.reqAt + us 10 ≤ c.clk))) ∧
    (let s : State := st (rng 1 [(Obj.rp_LINK_STATE,0,0,2)]); let dt : Nat := 2; let c := s.core.advance dt; (c.running = true) ∧ (c.originates = false ∨ c.rpState 0 ≠ 3 ∨ 16 ≤ c.ring.reqNext)) ∧
    (let s : State := st (rng 1 [(Obj.rp_LINK_STATE,1,0,2)]); let dt : Nat := 2; let c := s.core.advance dt; (c.running = true) ∧ (c.rpState 1 ≠ 3)) ∧
    (let s : State := st (rng 1 []); let dt : Nat := 2; let b : List Byte := []; let c := s.core.advance dt; (c.running = true) ∧ (c.rpState 1 = 3) ∧ (frOk b = false)) ∧
    (let s : State := st ({ rng 1 [] with ftAcc := 5000 * 2^33 }); let dt : Nat := 2; let b : List Byte := ringFrame 2 2 0 2 0 9 0 (leBytes 2 6 ++ leBytes 2 0 ++ leBytes 4 8 ++ leBytes 8 0); let c := s.core.advance dt; (c.running = true) ∧ (c.rpState 1 = 3) ∧ (frOk b = true) ∧ (frType b = 2) ∧ (frLen b = 16) ∧ (c.originates = true)) ∧
    (let s : State := st ({ rng 1 [] with ftAcc := 5000 * 2^33, ring := { calOf := 8, t1 := [(6, 3000 * 65536)] } }); let dt : Nat := 2; let b : List Byte := ringFrame 3 2 0 2 0 9 0 (leBytes 2 6 ++ leBytes 2 0 ++ leBytes 4 8 ++ leBytes 8 3500 ++ leBytes 4 0 ++ leBytes 8 3600 ++ leBytes 4 0); let c := s.core.advance dt; let p := frPayload b; (c.running = true) ∧ let t1 := 3000 * 65536; (c.rpState 0 = 3) ∧ (frOk b = true) ∧ (frType b = 3) ∧ (frLen b = 32) ∧ (leAt p 4 4 = c.ring.calOf) ∧ (Tab.get? c.ring.t1 (leAt p 0 2) = some t1)) ∧
    (let s : State := st (rng 1 []); let dt : Nat := 2; let b : List Byte := []; let c := s.core.advance dt; (c.running = true) ∧ (c.rpState 0 = 3) ∧ (frOk b = false)) := by and_intros <;> decide +kernel

/-- The hypotheses of RingTimeAndTimers can be met. -/
theorem witness_RingTimeAndTimers :
    (let s : State := st (rng 1 []); let dt : Nat := 2; let c := s.core.advance dt; (c.leads = true) ∧ (c.ring.syncAt.all (fun t => decide (t + ns (c.rd0 Obj.SYNC_PERIOD) ≤ c.clk)) = true)) ∧
    (let s : State := st ({ rng 2 [(Obj.rp_LINK_DELAY,0,0,300)] with ftAcc := 900500 * 2^33 }); let dt : Nat := 2; let c := s.core.advance dt; let k : Nat := 0; let b : List Byte := fr 0x10 1 (syncPayload (900000 * 65536) 0 0 1); let resid : Nat := 7; (c.running = true) ∧ (k < 2) ∧ (c.rpState k = 3) ∧ (frOk b = true) ∧ (frType b = 0x10) ∧ ((frPayload b).length = 32) ∧ (frSrc b ≠ c.rd0 Obj.NODE_ID) ∧ let p := frPayload b; let dIn := c.rd Obj.rp_LINK_DELAY k 0; let t := (c.rxFrame k 0x10 b none (fun p => p.take 12 ++ leBytes 8 (rawOf 64 (signedOf 64 (leAt p 12 8) + resid + dIn * 256)) ++ p.drop 20) id).learnMaster k (frSrc b) (frHops b) (leAt p 20 4); let fresh := t.ring.used.all (fun u => decide (u.1 ≠ frSrc b) || decide (0 < seqDist 32 (frSeq b) u.2)); (t.isMaster = false) ∧ (t.rd0 Obj.RING_STATE ≠ 4) ∧ (dIn ≠ 0) ∧ (fresh = true)) ∧
    (let s : State := st (rng 2 []); let dt : Nat := 2; let c := s.core.advance dt; let k : Nat := 0; let b : List Byte := fr 0x10 1 (syncPayload (900000 * 65536) 0 0 1); let resid : Nat := 7; (c.running = true) ∧ (k < 2) ∧ (c.rpState k = 3) ∧ (frOk b = true) ∧ (frType b = 0x10) ∧ ((frPayload b).length = 32) ∧ (frSrc b ≠ c.rd0 Obj.NODE_ID) ∧ let p := frPayload b; let dIn := c.rd Obj.rp_LINK_DELAY k 0; let t := (c.rxFrame k 0x10 b none (fun p => p.take 12 ++ leBytes 8 (rawOf 64 (signedOf 64 (leAt p 12 8) + resid + dIn * 256)) ++ p.drop 20) id).learnMaster k (frSrc b) (frHops b) (leAt p 20 4); let fresh := t.ring.used.all (fun u => decide (u.1 ≠ frSrc b) || decide (0 < seqDist 32 (frSeq b) u.2)); (t.isMaster = true ∨ t.rd0 Obj.RING_STATE = 4 ∨ dIn = 0 ∨ fresh = false)) ∧
    (let s : State := st (due (rng 2 [(Obj.FT_STATE,0,0,1)]) [(.syncWait,0)]); let dt : Nat := 2; let c := s.core.advance dt; (c.running = true) ∧ (c.due .syncWait 0 = true)) ∧
    (let s : State := st (rng 2 []); let dt : Nat := 2; let c := s.core.advance dt; (c.running = false ∨ c.due .syncWait 0 = false)) ∧
    (let s : State := st ({ rng 1 [(Obj.PACE_SRC,0,0,1)] with chans := [(0,{ lastTack := some 0 })] }); let dt : Nat := 2; let c := s.core.advance dt; let src := 1; (c.leads = true) ∧ (c.onRing = true) ∧ (c.rd0 Obj.PACE_SRC = src) ∧ (1 ≤ src) ∧ (src ≤ 9) ∧ (c.ring.tackAt.all (fun t => decide (t + ns (c.rd0 Obj.RING_TACK_PERIOD) ≤ c.clk)) = true) ∧ let t := c.updRing (fun r => { r with tackAt := some c.clk }); let u := if src = 9 then t.latchCommanded t.ftQ else if (t.chan (src - 1)).lastTack.any (fun l => decide (t.ftQ < l + 1000 * 65536)) then t else t.latchTack (src - 1) t.ftQ; (Tab.get [] u.tacks (src - 1) = [])) ∧
    (let s : State := st (rng 1 [(Obj.PACE_SRC,0,0,9)]); let dt : Nat := 2; let c := s.core.advance dt; let src := 9; (c.leads = true) ∧ (c.onRing = true) ∧ (c.rd0 Obj.PACE_SRC = src) ∧ (1 ≤ src) ∧ (src ≤ 9) ∧ (c.ring.tackAt.all (fun t => decide (t + ns (c.rd0 Obj.RING_TACK_PERIOD) ≤ c.clk)) = true) ∧ let t := c.updRing (fun r => { r with tackAt := some c.clk }); let u := if src = 9 then t.latchCommanded t.ftQ else if (t.chan (src - 1)).lastTack.any (fun l => decide (t.ftQ < l + 1000 * 65536)) then t else t.latchTack (src - 1) t.ftQ; let tk := tkl.head?.getD ⟨0,0,0,0,0,0,0⟩; let l := tkl.tail; (Tab.get [] u.tacks (src - 1) = tk :: l)) ∧
    (let s : State := st (rng 2 []); let dt : Nat := 2; let c := s.core.advance dt; (c.leads = false)) ∧
    (let s : State := st (rng 2 []); let dt : Nat := 2; let c := s.core.advance dt; (c.leads = false)) ∧
    (let s : State := st ({ rng 9 [] with clk := 50000000, ring := { joinAt := some 3 } }); let dt : Nat := 2; let c := s.core.advance dt; let x := 3; (c.ring.joinAt = some x)) ∧
    (let s : State := st (rng 2 []); let dt : Nat := 2; let c := s.core.advance dt; (c.ring.joinAt = none)) ∧
    (let s : State := st ({ rng 1 [] with clk := 500000000, ring := { topoAt := some 3 } }); let dt : Nat := 2; let c := s.core.advance dt; let x := 3; (c.ring.topoAt = some x)) ∧
    (let s : State := st (rng 2 []); let dt : Nat := 2; let c := s.core.advance dt; (c.ring.topoAt = none)) ∧
    (let s : State := st (due (rng 1 [(Obj.CAL_STATE,0,0,1)]) [(.calReport,0)]); let dt : Nat := 2; let c := s.core.advance dt; (c.running = true) ∧ (c.due .calReport 0 = true)) ∧
    (let s : State := st (rng 2 []); let dt : Nat := 2; let c := s.core.advance dt; (c.running = false ∨ c.due .calReport 0 = false)) := by and_intros <;> decide +kernel

/-- The hypotheses of FaultBlocksStopOnce can be met. -/
theorem witness_FaultBlocksStopOnce :
    (let s : State := st (rng 2 []); let dt : Nat := 2; let k : Nat := 0; let b : List Byte := [1,2,3,4,5,6,7]; let c := s.core.advance dt; (c.running = true) ∧ (k < 2) ∧ (c.rpState k = 3) ∧ (b.length ≠ 7 ∨ leAt b 5 2 ≠ Crypto.crc16 0x1021 (b.take 5) 0xFFFF)) ∧
    (let s : State := st (rng 5 []); let dt : Nat := 2; let k : Nat := 0; let b : List Byte := fblk; let c := s.core.advance dt; let w := leAt b 0 5; let org := w % 4096; (c.running = true) ∧ (k < 2) ∧ (c.rpState k = 3) ∧ (b.length = 7) ∧ (leAt b 5 2 = Crypto.crc16 0x1021 (b.take 5) 0xFFFF) ∧ ((w / 4096 % 16 ≠ 1 ∧ w / 4096 % 16 ≠ 2) ∨ w / 2 ^ 24 ≠ 0 ∨ (org = c.rd0 Obj.NODE_ID ∧ org ≠ 0))) ∧
    (let s : State := st (rng 2 []); let dt : Nat := 2; let k : Nat := 0; let b : List Byte := fblk; let c := s.core.advance dt; let w := leAt b 0 5; let org := w % 4096; let fseq := w / 65536 % 256; (c.running = true) ∧ (k < 2) ∧ (c.rpState k = 3) ∧ (b.length = 7) ∧ (leAt b 5 2 = Crypto.crc16 0x1021 (b.take 5) 0xFFFF) ∧ ((w / 4096 % 16 = 1 ∨ w / 4096 % 16 = 2)) ∧ (w / 2 ^ 24 = 0) ∧ ((org ≠ c.rd0 Obj.NODE_ID ∨ org = 0)) ∧ (c.ring.blocks.any (fun x => decide (x.1 = org ∧ x.2.1 = fseq)) = false)) ∧
    (let s : State := st ({ rng 2 [] with ring := { blocks := [(5,7,1,2)] } }); let dt : Nat := 2; let k : Nat := 0; let b : List Byte := fblk; let c := s.core.advance dt; let w := leAt b 0 5; let org := w % 4096; let fseq := w / 65536 % 256; (c.running = true) ∧ (k < 2) ∧ (c.rpState k = 3) ∧ (b.length = 7) ∧ (leAt b 5 2 = Crypto.crc16 0x1021 (b.take 5) 0xFFFF) ∧ ((w / 4096 % 16 = 1 ∨ w / 4096 % 16 = 2)) ∧ (w / 2 ^ 24 = 0) ∧ ((org ≠ c.rd0 Obj.NODE_ID ∨ org = 0)) ∧ let here := c.ring.blocks.find? (fun x => decide (x.1 = org ∧ x.2.1 = fseq ∧ x.2.2.1 = k)); (c.ring.blocks.any (fun x => decide (x.1 = org ∧ x.2.1 = fseq)) = true) ∧ (here = none)) ∧
    (let s : State := st ({ rng 2 [] with ring := { blocks := [(5,7,0,2)] } }); let dt : Nat := 2; let k : Nat := 0; let b : List Byte := fblk; let c := s.core.advance dt; let w := leAt b 0 5; let org := w % 4096; let fseq := w / 65536 % 256; (c.running = true) ∧ (k < 2) ∧ (c.rpState k = 3) ∧ (b.length = 7) ∧ (leAt b 5 2 = Crypto.crc16 0x1021 (b.take 5) 0xFFFF) ∧ ((w / 4096 % 16 = 1 ∨ w / 4096 % 16 = 2)) ∧ (w / 2 ^ 24 = 0) ∧ ((org ≠ c.rd0 Obj.NODE_ID ∨ org = 0)) ∧ let here := c.ring.blocks.find? (fun x => decide (x.1 = org ∧ x.2.1 = fseq ∧ x.2.2.1 = k)); let n := 2; (here = some (org, fseq, k, n))) := by and_intros <;> decide +kernel

/-- The hypotheses of PtpDisciplinesTime can be met. -/
theorem witness_PtpDisciplinesTime :
    (let s : State := st (ob base [(Obj.PTP_EN,0,0,1),(Obj.PTP_PORTS,0,0,1),(Obj.PTP_DOMAIN,0,0,3)]); let dt : Nat := 2; let lane : Nat := 0; let domain : Nat := 3; let c := s.core.advance dt; let rank := [1,2,3,4,5,6,7,8,9,10,11,12,13,14,15,16]; let gm := (rank.drop 6).take 8; let same := decide ((c.ptp.best.drop 6).take 8 = gm); (c.ptpOn lane domain = true) ∧ ((c.ptp.best = [] ∨ same = true ∨ bytesLess rank c.ptp.best = true))) ∧
    (let s : State := st (ob base [(Obj.PTP_EN,0,0,1),(Obj.PTP_PORTS,0,0,1),(Obj.PTP_DOMAIN,0,0,3)]); let dt : Nat := 2; let lane : Nat := 0; let domain : Nat := 4; let c := s.core.advance dt; let rank := [1,2,3,4,5,6,7,8,9,10,11,12,13,14,15,16]; let gm := (rank.drop 6).take 8; let same := decide ((c.ptp.best.drop 6).take 8 = gm); (c.ptpOn lane domain = false ∨ (c.ptp.best ≠ [] ∧ same = false ∧ bytesLess rank c.ptp.best = false))) ∧
    (let s : State := st (ob base [(Obj.PTP_EN,0,0,1),(Obj.PTP_PORTS,0,0,1),(Obj.PTP_DOMAIN,0,0,3)]); let dt : Nat := 2; let lane : Nat := 0; let domain : Nat := 3; let c := s.core.advance dt; (c.ptpOn lane domain = false ∨ c.ptp.best = [])) ∧
    (let s : State := st ({ ob base [(Obj.PTP_EN,0,0,1),(Obj.PTP_PORTS,0,0,1),(Obj.PTP_DOMAIN,0,0,3)] with ptp := { best := [1] } }); let dt : Nat := 2; let lane : Nat := 0; let domain : Nat := 3; let c := s.core.advance dt; let time := 5000 * 65536; let delay := 300 * 65536; let e : Int := (c.ftQ : Int) - ((time + delay) / 65536 + c.rdI Obj.PTP_OFFSET_NS 0 0) * 65536; let t := c.wrI Obj.PTP_ERR 0 0 (satS 32 (roundDiv e 65536)); (c.ptpOn lane domain = true) ∧ (c.ptp.best ≠ []) ∧ (c.ptp.adopted = false) ∧ (t.ringPrints = false)) ∧
    (let s : State := st ({ ob base [(Obj.PTP_EN,0,0,1),(Obj.PTP_PORTS,0,0,1),(Obj.PTP_DOMAIN,0,0,3)] with ptp := { best := [1], adopted := true, good := 15 } }); let dt : Nat := 2; let lane : Nat := 0; let domain : Nat := 3; let c := s.core.advance dt; let time := 5000 * 65536; let delay := 300 * 65536; let e : Int := (c.ftQ : Int) - ((time + delay) / 65536 + c.rdI Obj.PTP_OFFSET_NS 0 0) * 65536; let t := c.wrI Obj.PTP_ERR 0 0 (satS 32 (roundDiv e 65536)); (c.ptpOn lane domain = true) ∧ (c.ptp.best ≠ []) ∧ ((c.ptp.adopted = true ∨ t.ringPrints = true))) ∧
    (let s : State := st (due (ob base [(Obj.FT_STATE,0,0,2)]) [(.ptpAnnounce,0)]); let dt : Nat := 2; let c := s.core.advance dt; (c.running = true) ∧ (c.due .ptpAnnounce 0 = true)) ∧
    (let s : State := st (base); let dt : Nat := 2; let c := s.core.advance dt; (c.running = false ∨ c.due .ptpAnnounce 0 = false)) := by and_intros <;> decide +kernel

end Rings

/-! ### Pairs -/

namespace Pairs

/-- A member of a pair that shares port 0, in a pair state, printing. -/
def pm (stt : Nat) (l : List (Ob × Nat × Nat × Nat)) : Core :=
  ob (pr 0) ([(Obj.PAIR_STATE, 0, 0, stt), (Obj.PAIR_ROLE, 0, 0, if stt = 1 then 1 else 2), (Obj.PARTNER, 0, 0, 2), (Obj.PAIR_PORTS, 0, 0, 1), (Obj.NODE_ID, 0, 0, 1),
    (Obj.MASTER_ID, 0, 0, 1), (Obj.RING_STATE, 0, 0, 2), (Obj.TOPO_COUNT, 0, 0, 2), (Obj.TOPOLOGY, 0, 0, 1), (Obj.TOPOLOGY, 0, 1, 2), (Obj.rp_LINK_STATE, 0, 0, 3)] ++ l)
/-- The standby after record 8. -/
def sb : Core := { pm 3 [] with pair := { rxSeq := some 8 } }

/-- The hypotheses of MirrorRecordsActOnTheStandby can be met. -/
theorem witness_MirrorRecordsActOnTheStandby :
    (let s : State := st (base); let dt : Nat := 2; let c := s.core.advance dt; (c.isStandby = false ∨ c.running = false)) ∧
    (let s : State := st (base); let dt : Nat := 2; let c := s.core.advance dt; (c.isStandby = false ∨ c.running = false)) ∧
    (let s : State := st (base); let dt : Nat := 2; let c := s.core.advance dt; (c.isStandby = false ∨ c.running = false)) ∧
    (let s : State := st (sb); let dt : Nat := 2; let seq : Nat := 9; let c := s.core.advance dt; (c.isStandby = true) ∧ (c.running = true) ∧ ((c.pair.rxSeq = none ∨ c.pair.rxSeq.any (fun q => decide ((q + 1) % 2 ^ 32 = seq)) = true))) ∧
    (let s : State := st (sb); let dt : Nat := 2; let seq : Nat := 11; let c := s.core.advance dt; (c.isStandby = true) ∧ (c.running = true) ∧ let q := 8; (c.pair.rxSeq = some q) ∧ ((q + 1) % 2 ^ 32 ≠ seq)) ∧
    (let s : State := st (sb); let dt : Nat := 2; let c := s.core.advance dt; (c.isStandby = true) ∧ (c.running = true)) ∧
    (let s : State := st (sb); let dt : Nat := 2; let c := s.core.advance dt; (c.isStandby = true) ∧ (c.running = true)) ∧
    (let s : State := st (sb); let dt : Nat := 2; let c := s.core.advance dt; (c.isStandby = true) ∧ (c.running = true)) ∧
    (let s : State := st (sb); let dt : Nat := 2; let c := s.core.advance dt; (c.isStandby = true) ∧ (c.running = true)) ∧
    (let s : State := st (sb); let dt : Nat := 2; let c := s.core.advance dt; (c.isStandby = true) ∧ (c.running = true)) ∧
    (let s : State := st (sb); let dt : Nat := 2; let c := s.core.advance dt; (c.isStandby = true) ∧ (c.running = true)) ∧
    (let s : State := st (sb); let dt : Nat := 2; let c := s.core.advance dt; (c.isStandby = true) ∧ (c.running = true) ∧ let p := 0; (p < 64)) ∧
    (let s : State := st (sb); let dt : Nat := 2; let c := s.core.advance dt; (c.isStandby = true) ∧ (c.running = true) ∧ let p := 64; (64 ≤ p)) ∧
    (let s : State := st (sb); let dt : Nat := 2; let c := s.core.advance dt; (c.isStandby = true) ∧ (c.running = true)) ∧
    (let s : State := st (sb); let dt : Nat := 2; let c := s.core.advance dt; (c.isStandby = true) ∧ (c.running = true)) ∧
    (let s : State := st (sb); let dt : Nat := 2; let c := s.core.advance dt; (c.isStandby = true) ∧ (c.running = true)) := by and_intros <;> decide +kernel

/-- The hypotheses of ActiveMemberMirrorsAndListens can be met. -/
theorem witness_ActiveMemberMirrorsAndListens :
    (let s : State := st ({ pm 1 [] with ports := [(0,{ enumerated := true, thim := { mirrorWait := true, mirrorSeq := 4 } })] }); let dt : Nat := 2; let c := s.core.advance dt; (c.isPairActive = true) ∧ (c.running = true)) ∧
    (let s : State := st (pm 1 []); let dt : Nat := 2; let c := s.core.advance dt; (c.isPairActive = true) ∧ (c.running = true)) ∧
    (let s : State := st (pm 1 []); let dt : Nat := 2; let c := s.core.advance dt; (c.isPairActive = true) ∧ (c.running = true)) ∧
    (let s : State := st (pm 1 []); let dt : Nat := 2; let c := s.core.advance dt; (c.isPairActive = true) ∧ (c.running = true)) ∧
    (let s : State := st (pm 1 []); let dt : Nat := 2; let c := s.core.advance dt; (c.isPairActive = true) ∧ (c.running = true)) ∧
    (let s : State := st ({ pm 1 [] with clk := 20000000, pair := { standbyAt := some 5 } }); let dt : Nat := 2; let c := s.core.advance dt; (c.isPairActive = true) ∧ (c.running = true)) ∧
    (let s : State := st (base); let dt : Nat := 2; let c := s.core.advance dt; (c.isPairActive = false ∨ c.running = false)) ∧
    (let s : State := st (base); let dt : Nat := 2; let c := s.core.advance dt; (c.isPairActive = false ∨ c.running = false)) ∧
    (let s : State := st (base); let dt : Nat := 2; let c := s.core.advance dt; (c.isPairActive = false ∨ c.running = false)) ∧
    (let s : State := st (base); let dt : Nat := 2; let c := s.core.advance dt; (c.isPairActive = false ∨ c.running = false)) ∧
    (let s : State := st (base); let dt : Nat := 2; let c := s.core.advance dt; (c.isPairActive = false ∨ c.running = false)) ∧
    (let s : State := st (base); let dt : Nat := 2; let c := s.core.advance dt; (c.isPairActive = false ∨ c.running = false)) ∧
    (let s : State := st (sb); let dt : Nat := 2; let c := s.core.advance dt; (c.isStandby = true) ∧ (c.running = true)) := by and_intros <;> decide +kernel

end Pairs

/-! ### FOP -/

namespace Requests

/-- An open sequence with one staged element. -/
def tx : Txn := ({ id := 7 } : Txn).stage (writeForm Obj.COMET_MODE.idx Obj.COMET_MODE.sub 1 0 0 [1]).2
/-- Twenty-five hundred bytes of a read under way. -/
def snp : Snapshot := ⟨0x2000, 9, 1, List.replicate 2500 5⟩
/-- MEM_DATA's bytes can be reached: bank 12 is FOP's, MEM_ADDR its start. -/
def memc (x : Session) (n : Nat) : Core :=
  ob (fc x) [(Obj.ISLAND_STATE, 0, 0x49, 2), (Obj.SB_STATE, 0, 12, 1), (Obj.SB_OWNER, 0, 12, 1), (Obj.MEM_ADDR, 0, 0, spoolBase + 12 * 0x80000 + 0x80000 - n)]
/-- Session 1 with 256 events queued. -/
def full : Session := { ses with events := List.replicate 256 ⟨1, 2, 3, 4⟩ }
/-- The surroundings of an OPEN under the role key [9]. -/
def eo : FopEnv := let e : FopEnv := ⟨1, 88, 6000, 0, 0, 0, 0, 0⟩; { e with tag := ofLe (Crypto.hmac [9] (requestBytes e (.opn 2 1400 12345))) }
/-- A block under node ID 2 on the ring whose keys are set. -/
def rgf : Core := ob (fc ses) [(Obj.NODE_ID, 0, 0, 2), (Obj.rp_LINK_STATE, 0, 0, 3), (Obj.rp_LINK_STATE, 1, 0, 3)]
/-- A KEEPALIVE for node 2, and its frame. -/
def kal : List Byte := let e : FopEnv := { env0 with node := 2 }; tunnelled 77 5000 0 (requestBytes e .keepalive ++ leBytes 32 (ofLe (Crypto.hmac [1, 2, 3] (requestBytes e .keepalive))))
def kalf : List Byte := ringFrame 0x31 2 2 1 0 9 0 kal

/-- The hypotheses of SessionsAreOpened can be met. -/
theorem witness_SessionsAreOpened :
    (let s : State := { core := { fc ses with roleKeys := [(2,[9])] }, mem := [] }; let dt : Nat := 2; let role : Nat := 2; let maxMsg : Nat := 1400; let nonce : Nat := 12345; let h : Nat := 2; let e : FopEnv := eo; let key : List Byte := [9]; let c := s.core.advance dt; let b := ReqBody.opn role maxMsg nonce; (c.running = true) ∧ (c.configReached = true) ∧ (e.node < 4095) ∧ (c.targetsMe e = true) ∧ (role < 256) ∧ (maxMsg < 65536) ∧ (nonce < 2 ^ 128) ∧ (c.roleKey role = some key) ∧ (tagOk key e b = true) ∧ (e.session = 0) ∧ (e.seq = 0) ∧ (512 ≤ maxMsg) ∧ ((c.sess.filter (fun p => decide (p.2.st ≠ 0))).length < 16) ∧ ((c.sess.filter (fun p => decide (p.2.st = 1))).length < 4) ∧ (1 ≤ h) ∧ (h ≤ 16) ∧ ((c.session h).st = 0) ∧ ((∀ k < h, 1 ≤ k → (c.session k).st ≠ 0)) ∧ (c.armed .commandReset 0 = false) ∧ (e.lane < 2)) ∧
    (let s : State := { core := { fc ses with configReached := false }, mem := [] }; let dt : Nat := 2; let e : FopEnv := env0; let c := s.core.advance dt; (c.running = true) ∧ (e.node < 4095) ∧ (e.lane < 2) ∧ (c.armed .commandReset 0 = false) ∧ (c.configReached = false)) ∧
    (let s : State := { core := fc ses, mem := [] }; let dt : Nat := 2; let e : FopEnv := { env0 with session := 3 }; let c := s.core.advance dt; let q := c.session e.session; (c.running = true) ∧ (e.node < 4095) ∧ (e.lane < 2) ∧ (c.armed .commandReset 0 = false) ∧ (c.configReached = true) ∧ (c.targetsMe e = true) ∧ ((e.session = 0 ∨ 16 < e.session ∨ q.st = 0))) ∧
    (let s : State := { core := fc ses, mem := [] }; let dt : Nat := 2; let e : FopEnv := { env0 with port := 5001 }; let c := s.core.advance dt; let q := c.session e.session; (c.running = true) ∧ (e.node < 4095) ∧ (e.lane < 2) ∧ (c.armed .commandReset 0 = false) ∧ (c.configReached = true) ∧ (c.targetsMe e = true) ∧ (1 ≤ e.session) ∧ (e.session ≤ 16) ∧ (q.st ≠ 0) ∧ ((q.ip ≠ e.ip ∨ q.port ≠ e.port))) ∧
    (let s : State := { core := (fc ses).arm .fopAuth 0 100, mem := [] }; let dt : Nat := 2; let e : FopEnv := env0; let c := s.core.advance dt; let q := c.session e.session; (c.running = true) ∧ (e.node < 4095) ∧ (e.lane < 2) ∧ (c.armed .commandReset 0 = false) ∧ (c.configReached = true) ∧ (c.targetsMe e = true) ∧ (1 ≤ e.session) ∧ (e.session ≤ 16) ∧ (q.st ≠ 0) ∧ (q.ip = e.ip) ∧ (q.port = e.port) ∧ (tagOk q.key e .keepalive = false) ∧ (c.armed .fopAuth 0 = true) ∧ (c.due .fopAuth 0 = false)) := by and_intros <;> decide +kernel

/-- The hypotheses of SessionRequestsAreAnswered can be met. -/
theorem witness_SessionRequestsAreAnswered :
    (let s : State := { core := fc ses, mem := [] }; let dt : Nat := 2; let e : FopEnv := tgOf (.close); let t := s.core.advance dt; (t.Takes e .close)) ∧
    (let s : State := { core := fc ses, mem := [] }; let dt : Nat := 2; let e : FopEnv := tgOf (.keepalive); let t := s.core.advance dt; (t.Takes e .keepalive)) ∧
    (let s : State := { core := fc ses, mem := [] }; let dt : Nat := 2; let e : FopEnv := tgOf (.describe 0x1000 1); let t := s.core.advance dt; let c := s.core.atTurn dt e; let idx := 0x1000; let sub := 1; let d := ((fc ses).describe 0x1000 1).getD []; (t.Takes e (.describe idx sub)) ∧ (idx < 65536) ∧ (sub < 65536) ∧ (c.describe idx sub = some d)) ∧
    (let s : State := { core := fc ses, mem := [] }; let dt : Nat := 2; let e : FopEnv := tgOf (.subscribe 31); let t := s.core.advance dt; let mask := 31; (t.Takes e (.subscribe mask)) ∧ (mask < 32)) ∧
    (let s : State := { core := fc ses, mem := [] }; let dt : Nat := 2; let e : FopEnv := tgOf (.txnBegin); let t := s.core.advance dt; let c := s.core.atTurn dt e; let q := c.session e.session; (t.Takes e .txnBegin) ∧ (q.role ≠ 0) ∧ (c.mode ≠ .safe) ∧ (q.txn = none) ∧ ((c.sess.filter (fun p => p.2.txn.isSome)).length < 4)) ∧
    (let s : State := { core := fc { ses with txn := some tx }, mem := [] }; let dt : Nat := 2; let e : FopEnv := tgOf (.txnCommit); let t := s.core.advance dt; let c := s.core.atTurn dt e; let q := c.session e.session; let h := e.session; let x := tx; let r := commitAll {} ⟨h, q.role⟩ (c.dropTxn h) s.mem x.staged; (t.Takes e .txnCommit) ∧ (q.role ≠ 0) ∧ (c.mode ≠ .safe) ∧ (q.txn = some x) ∧ (r.code ≠ busyC)) ∧
    (let s : State := { core := { fc ses with mode := .safe }, mem := [] }; let dt : Nat := 2; let e : FopEnv := tgOf (.txnCommit); let t := s.core.advance dt; let c := s.core.atTurn dt e; let q := c.session e.session; (t.Takes e .txnCommit) ∧ (q.role ≠ 0) ∧ (c.mode = .safe)) ∧
    (let s : State := { core := fc { ses with txn := some tx }, mem := [] }; let dt : Nat := 2; let e : FopEnv := tgOf (.txnAbort); let t := s.core.advance dt; let c := s.core.atTurn dt e; let q := c.session e.session; let x := tx; (t.Takes e .txnAbort) ∧ (q.role ≠ 0) ∧ (q.txn = some x)) := by and_intros <;> decide +kernel

/-- The hypotheses of ReadsAnswerTheValue can be met. -/
theorem witness_ReadsAnswerTheValue :
    (let s : State := { core := fc ses, mem := [] }; let dt : Nat := 2; let e : FopEnv := tgOf (.read Obj.COMET_MODE.idx Obj.COMET_MODE.sub 1 0 0 0); let t := s.core.advance dt; let c := s.core.atTurn dt e; let q := c.session e.session; let idx := Obj.COMET_MODE.idx; let sub := Obj.COMET_MODE.sub; let count := 1; let o := Obj.COMET_MODE; let i := 0; let j := 0; let b := ReqBody.read idx sub count 0 0 0; let d := (List.range count).flatMap (fun k => c.valueBytes o i (j + k)); (t.Takes e b) ∧ (idx < 65536) ∧ (sub < 65536) ∧ (count < 65536) ∧ (0x1000 ≤ idx) ∧ (inWindow idx = false) ∧ (objectAt idx sub = some (o, i, j)) ∧ (1 ≤ count) ∧ ((count = 1 ∨ (o.isArray = true ∧ j + count ≤ o.nsub))) ∧ (o.same Obj.MEM_DATA = false) ∧ (o.readsFree = false) ∧ (d.length ≤ q.maxMsg - 80)) ∧
    (let s : State := { core := fc ses, mem := [] }; let dt : Nat := 2; let e : FopEnv := tgOf (.read Obj.K_CAL.idx Obj.K_CAL.sub 700 0 0 0); let t := s.core.advance dt; let c := s.core.atTurn dt e; let q := c.session e.session; let h := e.session; let idx := Obj.K_CAL.idx; let sub := Obj.K_CAL.sub; let count := 700; let o := Obj.K_CAL; let i := 0; let j := 0; let b := ReqBody.read idx sub count 0 0 0; let d := (List.range count).flatMap (fun k => c.valueBytes o i (j + k)); (t.Takes e b) ∧ (idx < 65536) ∧ (sub < 65536) ∧ (count < 65536) ∧ (0x1000 ≤ idx) ∧ (inWindow idx = false) ∧ (objectAt idx sub = some (o, i, j)) ∧ (1 ≤ count) ∧ ((count = 1 ∨ (o.isArray = true ∧ j + count ≤ o.nsub))) ∧ (o.same Obj.MEM_DATA = false) ∧ (o.readsFree = false) ∧ (q.maxMsg - 80 < d.length) ∧ (c.bufferBytes h true + d.length ≤ 2097152)) ∧
    (let s : State := { core := fc { ses with snap := some snp }, mem := [] }; let dt : Nat := 2; let e : FopEnv := tgOf (.read 0x2000 9 1 0 0 1320); let t := s.core.advance dt; let c := s.core.atTurn dt e; let q := c.session e.session; let idx := 0x2000; let sub := 9; let count := 1; let off := 1320; let z := snp; let b := ReqBody.read idx sub count 0 0 off; (t.Takes e b) ∧ (idx < 65536) ∧ (sub < 65536) ∧ (count < 65536) ∧ (off < 2 ^ 32) ∧ (0 < off) ∧ (q.snap = some z) ∧ (z.idx = idx) ∧ (z.sub = sub) ∧ (z.count = count) ∧ (off < z.data.length)) ∧
    (let s : State := { core := memc ses 64, mem := [(spoolBase + 12 * 0x80000 + 0x80000 - 64, 7)] }; let dt : Nat := 2; let e : FopEnv := tgOf (.read Obj.MEM_DATA.idx Obj.MEM_DATA.sub 1 0 0 0); let t := s.core.advance dt; let c := s.core.atTurn dt e; let q := c.session e.session; let a := c.rd0 Obj.MEM_ADDR; let b := ReqBody.read Obj.MEM_DATA.idx Obj.MEM_DATA.sub 1 0 0 0; let d := Memory.read s.mem (c.locate a).2 c.memSpan; (t.Takes e b) ∧ (c.memReadCode = 0) ∧ (d.length ≤ q.maxMsg - 80)) := by and_intros <;> decide +kernel

/-- The hypotheses of WritesStoreOrStage can be met. -/
theorem witness_WritesStoreOrStage :
    (let s : State := { core := fc ses, mem := [] }; let dt : Nat := 2; let e : FopEnv := tgOf (.write Obj.COMET_MODE.idx Obj.COMET_MODE.sub 1 0 0 0 1 [1]); let t := s.core.advance dt; let c := s.core.atTurn dt e; let q := c.session e.session; let h := e.session; let p := c.setPart h none; let idx := Obj.COMET_MODE.idx; let sub := Obj.COMET_MODE.sub; let count := 1; let width := 0; let lane := 0; let data : List Byte := [1]; let b := ReqBody.write idx sub count width lane 0 data.length data; let f := writeForm idx sub count width lane data; let r := commitAll {} ⟨h, q.role⟩ p s.mem f.2; (t.Takes e b) ∧ (idx < 65536) ∧ (sub < 65536) ∧ (count < 65536) ∧ (width < 256) ∧ (lane < 256) ∧ (data.length < 2 ^ 32) ∧ (1 ≤ q.role) ∧ (c.mode ≠ .safe) ∧ (f.1 = 0) ∧ (f.2.find? (p.lockedFor h) = none) ∧ (q.txn = none) ∧ (r.code = 0)) ∧
    (let s : State := { core := fc { ses with txn := some { id := 7 } }, mem := [] }; let dt : Nat := 2; let e : FopEnv := tgOf (.write Obj.COMET_MODE.idx Obj.COMET_MODE.sub 1 0 0 0 1 [1]); let t := s.core.advance dt; let c := s.core.atTurn dt e; let q := c.session e.session; let h := e.session; let p := c.setPart h none; let idx := Obj.COMET_MODE.idx; let sub := Obj.COMET_MODE.sub; let count := 1; let width := 0; let lane := 0; let data : List Byte := [1]; let b := ReqBody.write idx sub count width lane 0 data.length data; let f := writeForm idx sub count width lane data; (t.Takes e b) ∧ (idx < 65536) ∧ (sub < 65536) ∧ (count < 65536) ∧ (width < 256) ∧ (lane < 256) ∧ (data.length < 2 ^ 32) ∧ (1 ≤ q.role) ∧ (c.mode ≠ .safe) ∧ (f.1 = 0) ∧ (f.2.find? (p.lockedFor h) = none) ∧ let x := { id := 7 }; (q.txn = some x) ∧ (f.2.foldl (fun n w => worse n (p.stagedPre q.role w)) okC = 0) ∧ ((x.stage f.2).within = true)) ∧
    (let s : State := { core := fc ses, mem := [] }; let dt : Nat := 2; let e : FopEnv := tgOf (.write 0x3040 1 9 0 0 0 36 [1,2]); let t := s.core.advance dt; let c := s.core.atTurn dt e; let q := c.session e.session; let h := e.session; let idx := 0x3040; let sub := 1; let count := 9; let total := 36; let data : List Byte := [1,2]; let b := ReqBody.write idx sub count 0 0 0 total data; (t.Takes e b) ∧ (idx < 65536) ∧ (sub < 65536) ∧ (count < 65536) ∧ (total ≤ 1048576) ∧ (1 ≤ q.role) ∧ (c.mode ≠ .safe) ∧ (1 ≤ count) ∧ (data.length < total) ∧ (c.bufferBytes h false + total ≤ 2097152)) ∧
    (let s : State := { core := memc ses 64, mem := [] }; let dt : Nat := 2; let e : FopEnv := tgOf (.write Obj.MEM_DATA.idx Obj.MEM_DATA.sub 1 0 0 0 8 [1,2,3,4,5,6,7,8]); let t := s.core.advance dt; let c := s.core.atTurn dt e; let q := c.session e.session; let h := e.session; let p := c.setPart h none; let data : List Byte := [1,2,3,4,5,6,7,8]; let b := ReqBody.write Obj.MEM_DATA.idx Obj.MEM_DATA.sub 1 0 0 0 data.length data; let f := writeForm Obj.MEM_DATA.idx Obj.MEM_DATA.sub 1 0 0 data; let r := commitAll {} ⟨h, q.role⟩ p s.mem f.2; (t.Takes e b) ∧ (data.length < 2 ^ 32) ∧ (1 ≤ q.role) ∧ (c.mode ≠ .safe) ∧ (f.1 = 0) ∧ (f.2.find? (p.lockedFor h) = none) ∧ (q.txn = none) ∧ (r.code = 0)) ∧
    (let s : State := { core := memc ses 64, mem := [] }; let dt : Nat := 2; let e : FopEnv := tgOf (.write Obj.MEM_DATA.idx Obj.MEM_DATA.sub 1 0 0 0 8 [1,2,3,4,5,6,7,8]); let t := s.core.advance dt; let c := s.core.atTurn dt e; let q := c.session e.session; let h := e.session; let p := c.setPart h none; let data : List Byte := [1,2,3,4,5,6,7,8]; let b := ReqBody.write Obj.MEM_DATA.idx Obj.MEM_DATA.sub 1 0 0 0 data.length data; let f := writeForm Obj.MEM_DATA.idx Obj.MEM_DATA.sub 1 0 0 data; let r := commitAll {} ⟨h, q.role⟩ p s.mem f.2; (t.Takes e b) ∧ (data.length < 2 ^ 32) ∧ (1 ≤ q.role) ∧ (c.mode ≠ .safe) ∧ (f.1 = 0) ∧ (f.2.find? (p.lockedFor h) = none) ∧ (q.txn = none) ∧ (r.code = 0) ∧ let a := c.rd0 Obj.MEM_ADDR; (p.writeFault ownFop a data.length = 0) ∧ (((p.locate a).1 = .dram ∨ (p.locate a).1 = .plain))) := by and_intros <;> decide +kernel

/-- The hypotheses of SessionDeadlinesAct can be met. -/
theorem witness_SessionDeadlinesAct :
    (let s : State := { core := due (fc { ses with st := 1 }) [(.sessionPending,1)], mem := [] }; let dt : Nat := 2; let h : Nat := 1; let c := s.core.advance dt; let x := c.session h; (x.st = 1) ∧ (c.due .sessionPending h = true)) ∧
    (let s : State := { core := due (fc ses) [(.sessionIdle,1)], mem := [] }; let dt : Nat := 2; let h : Nat := 1; let c := s.core.advance dt; let x := c.session h; (x.st = 2) ∧ (c.due .sessionIdle h = true)) ∧
    (let s : State := { core := fc { ses with held := [⟨env0,.keepalive,0⟩,⟨env0,.close,500⟩] }, mem := [] }; let dt : Nat := 2; let h : Nat := 1; let c := s.core.advance dt; let x := c.session h; let late := x.held.filter (fun r => decide (r.due ≤ c.clk)); (late ≠ [])) ∧
    (let s : State := { core := due (fc { ses with snap := some snp }) [(.readSnapshot,1)], mem := [] }; let dt : Nat := 2; let h : Nat := 1; let c := s.core.advance dt; (c.due .readSnapshot h = true)) ∧
    (let s : State := { core := due (fc { ses with part := some ⟨0x3040,1,9,36,[1,2]⟩ }) [(.writePartial,1)], mem := [] }; let dt : Nat := 2; let h : Nat := 1; let c := s.core.advance dt; (c.due .writePartial h = true)) ∧
    (let s : State := { core := due (fc { ses with txn := some tx }) [(.txnLease,1)], mem := [] }; let dt : Nat := 2; let h : Nat := 1; let c := s.core.advance dt; let x := c.session h; let y := tx; (c.due .txnLease h = true) ∧ (x.txn = some y) ∧ (x.events.length < 256)) ∧
    (let s : State := { core := fc { ses with events := [⟨1,2,3,4⟩] }, mem := [] }; let dt : Nat := 2; let h : Nat := 1; let c := s.core.advance dt; let x := c.session h; (c.running = true) ∧ (x.st ≠ 0) ∧ (x.events ≠ []) ∧ (x.lost = 0) ∧ (x.evLane < 2)) := by and_intros <;> decide +kernel

/-- The hypotheses of EventQueuesAreBounded can be met. -/
theorem witness_EventQueuesAreBounded :
    (let c : Core := fc full; let h : Nat := 1; let x := c.session h; (x.events.length ≤ 256)) ∧
    (let c : Core := fc ses; let h : Nat := 1; let x := c.session h; (x.events.length < 256)) ∧
    (let c : Core := fc full; let h : Nat := 1; let x := c.session h; (256 ≤ x.events.length)) ∧
    (let c : Core := fc { full with lost := 3 }; let h : Nat := 1; let x := c.session h; (x.st ≠ 0) ∧ (x.events ≠ []) ∧ (c.running = true) ∧ (x.evLane < 2) ∧ (0 < x.lost)) := by and_intros <;> decide +kernel

/-- The hypotheses of JournalAndTunnelAct can be met. -/
theorem witness_JournalAndTunnelAct :
    (let s : State := { core := { ob (fc ses) [(Obj.COMET_MODE,0,0,1)] with dirty := [Obj.COMET_MODE.key 0 0], dirtySince := some 0 }, mem := [] }; let dt : Nat := 2; let wear : Nat := base.rd0 Obj.RET_WEAR; let c := s.core.advance dt; (c.dirty ≠ []) ∧ (c.journalFailing = false) ∧ (c.running = true) ∧ (wear = c.rd0 Obj.RET_WEAR)) ∧
    (let s : State := { core := { ob (fc ses) [(Obj.COMET_MODE,0,0,1)] with dirty := [Obj.COMET_MODE.key 0 0], dirtySince := some 0 }, mem := [] }; let dt : Nat := 2; let c := s.core.advance dt; (c.dirty ≠ []) ∧ (c.journalFailing = false) ∧ (c.running = true)) ∧
    (let s : State := { core := due { ob (fc ses) [(Obj.COMET_MODE,0,0,1)] with dirty := [Obj.COMET_MODE.key 0 0], dirtySince := some 0, journalFailing := true } [(.journal,0)], mem := [] }; let dt : Nat := 2; let wear : Nat := base.rd0 Obj.RET_WEAR; let c := s.core.advance dt; (c.journalFailing = true) ∧ (c.running = true) ∧ (c.due .journal 0 = true) ∧ (wear = c.rd0 Obj.RET_WEAR)) ∧
    (let s : State := { core := rgf, mem := [] }; let dt : Nat := 2; let c := s.core.advance dt; let p := 0; let m := kal; let head := kalf.take 16; let payload := (kalf.drop 16).take (kalf.length - 20); let crc := kalf.drop (kalf.length - 4); let b := head ++ payload ++ crc; (c.delivers p 0x31 b (c.fopSerial b) = true) ∧ ((c.reassemble b).1 = some m)) ∧
    (let s : State := { core := fc ses, mem := [] }; let dt : Nat := 2; let c := s.core.advance dt; let p := 0; let head := [1]; let payload := [2]; let crc := [3]; let b := head ++ payload ++ crc; ((c.delivers p 0x31 b (c.fopSerial b) = false ∨ (c.reassemble b).1 = none))) ∧
    (let s : State := { core := fc ses, mem := [] }; let dt : Nat := 2; let c := s.core.advance dt; (c.dirty = [])) ∧
    (let s : State := { core := fc ses, mem := [] }; let dt : Nat := 2; let c := s.core.advance dt; (c.journalFailing = false)) := by and_intros <;> decide +kernel

end Requests

/-! ### Modes and Selvedge -/

namespace Stops

/-- An axis with a role and a state. -/
def axs (a role stt : Nat) : List (Ob × Nat × Nat × Nat) := [(Obj.ax_ROLE, a, 0, role), (Obj.ax_AX_STATE, a, 0, stt)]
/-- Source 721 (BOB_LOAD, class C) raised with a class in effect. -/
def rai (eff : Nat) (l : List (Ob × Nat × Nat × Nat)) : Core := { ob base l with src := [(721, ⟨true, false, eff, false⟩)] }
/-- A block in SAFE. -/
def safe : Core := { base with mode := .safe }

/-- The hypotheses of StopsGoThroughTheirSteps can be met. -/
theorem witness_StopsGoThroughTheirSteps :
    (let s : State := { core := { base with wantReady := true }, mem := [] }; let dt : Nat := 2; let c := s.core.advance dt; (c.quiet) ∧ (c.wantReady = true) ∧ (c.mode = .config) ∧ (c.phase = .steady) ∧ (allPorts.any c.comingUp = false) ∧ (allPorts.any (fun p => c.rdB Obj.port_PORT_ENABLE p 0 && decide (c.link p = lkOff)) = false)) ∧
    (let s : State := { core := (({ base with mode := .service, phase := .stopping }).setCompO Obj.MODE_REQ 0 0 1), mem := [] }; let dt : Nat := 2; let c := s.core.advance dt; (c.quiet) ∧ (c.phase = .stopping) ∧ (c.mode = .service) ∧ ((List.range 12).all c.atRest = true) ∧ (c.stopCap = false) ∧ ((c.rdB Obj.CAP_ON_READY 0 0 && c.hasCaps) = false)) ∧
    (let s : State := { core := { pr 0 with phase := .stopping, stop := some ⟨none, false, 65535⟩ }, mem := [] }; let dt : Nat := 2; let c := s.core.advance dt; (c.phase = .stopping) ∧ (c.inPrint = true) ∧ (c.printGroups.all c.groupAtRest = true) ∧ (c.stopSeamDone = true) ∧ (c.stopCap = false)) ∧
    (let s : State := { core := { base with mode := .service, phase := .stopping, stopCap := true }, mem := [] }; let dt : Nat := 2; let c := s.core.advance dt; (c.phase = .stopping) ∧ (c.stopCap = true) ∧ ((if c.mode = .service then (List.range 12).all c.atRest else c.printGroups.all c.groupAtRest && c.stopSeamDone) = true)) ∧
    (let s : State := { core := { pr 0 with phase := .headStop, headStep := 2, stop := some ⟨none, true, 1000⟩ }, mem := [] }; let dt : Nat := 2; let c := s.core.advance dt; (c.headStep = 2) ∧ (c.printGroups.all c.groupAtRest = true) ∧ (c.stopSeamDone = true)) ∧
    (let s : State := { core := { pr 0 with phase := .headStop, headStep := 3, mot := { capDone := true } }, mem := [] }; let dt : Nat := 2; let c := s.core.advance dt; (c.headStep = 3) ∧ (c.mot.capPhase = 0) ∧ (c.mot.capDone = true)) ∧
    (let s : State := { core := { base with mode := .ready, phase := .headStop, headStep := 4, stop := some ⟨none, true, 1000⟩ }, mem := [] }; let dt : Nat := 2; let c := s.core.advance dt; (c.quiet) ∧ (c.headStep = 4) ∧ (c.allOff = true) ∧ (c.inPrint = false)) ∧
    (let s : State := { core := { base with headStep := 5, headSources := [721] }, mem := [] }; let dt : Nat := 2; let c := s.core.advance dt; (c.headStep = 5) ∧ (c.headSources.all (fun n => !c.isRaised n) = true)) ∧
    (let s : State := { core := base, mem := [] }; let dt : Nat := 2; let c := s.core.advance dt; (c.headStep ≠ 3 ∨ c.due .capWait 0 = false)) ∧
    (let s : State := { core := base, mem := [] }; let dt : Nat := 2; let c := s.core.advance dt; (c.phase ≠ .stopping)) ∧
    (let s : State := { core := base, mem := [] }; let dt : Nat := 2; let c := s.core.advance dt; (c.wantReady = false)) ∧
    (let s : State := { core := due { base with mode := .ready, phase := .headStop, headStep := 3, mot := { capPhase := 1, capAxes := [3] } } [(.capWait,0)], mem := [] }; let dt : Nat := 2; let c := s.core.advance dt; (c.headStep = 3) ∧ (c.due .capWait 0 = true)) := by and_intros <;> decide +kernel

/-- The hypotheses of ParkGoesThroughItsSteps can be met. -/
theorem witness_ParkGoesThroughItsSteps :
    (let s : State := { core := { ob base [(Obj.PARK_STEP,0,0,7)] with mode := .park, phase := .parking }, mem := [] }; let dt : Nat := 2; let c := s.core.advance dt; let n := c.rd0 Obj.PARK_STEP; (c.mode = .park) ∧ (c.phase = .parking) ∧ (c.parkOver n = true)) ∧
    (let s : State := { core := { ob base [(Obj.PARK_STEP,0,0,10),(Obj.PARK_TARGET,0,0,1)] with mode := .park }, mem := [] }; let dt : Nat := 2; let c := s.core.advance dt; let n := c.rd0 Obj.PARK_STEP; (c.mode = .park) ∧ (c.phase = .steady) ∧ (n = 10) ∧ (c.rd0 Obj.PARK_TARGET = 1) ∧ (c.dirty = [])) ∧
    (let s : State := { core := due { ob base [(Obj.PARK_STEP,0,0,2)] with mode := .park, phase := .parking } [(.parkStep,0)], mem := [] }; let dt : Nat := 2; let c := s.core.advance dt; let n := c.rd0 Obj.PARK_STEP; (c.mode = .park) ∧ (c.phase = .parking) ∧ (c.due .parkStep 0 = true) ∧ (c.parkOver n = false)) ∧
    (let s : State := { core := base, mem := [] }; let dt : Nat := 2; let c := s.core.advance dt; let n := c.rd0 Obj.PARK_STEP; (c.mode ≠ .park ∨ c.phase ≠ .parking ∨ c.due .parkStep 0 = false ∨ c.parkOver n = true)) ∧
    (let s : State := { core := base, mem := [] }; let dt : Nat := 2; let c := s.core.advance dt; (c.mode ≠ .park)) := by and_intros <;> decide +kernel

/-- The hypotheses of OccurrencesEscalateAndAreAcknowledged can be met. -/
theorem witness_OccurrencesEscalateAndAreAcknowledged :
    (let c : Core := base.occurOne 721 5 false; let n : Nat := 721; let info : Nat := 77; (srcAssigned n = true) ∧ (c.running = true) ∧ (info < 2 ^ 32) ∧ (c.occurredNow n = true)) ∧
    (let c : Core := ob base [(Obj.src_MASK,721,0,1)]; let n : Nat := 721; let info : Nat := 77; (srcAssigned n = true) ∧ (c.running = true) ∧ (info < 2 ^ 32) ∧ (c.occurredNow n = false) ∧ (c.rdB Obj.src_MASK n 0 = true)) ∧
    (let c : Core := base; let n : Nat := 721; let info : Nat := 77; (srcAssigned n = true) ∧ (c.running = true) ∧ (info < 2 ^ 32) ∧ (c.occurredNow n = false) ∧ let x := c.srcRec n; (c.rdB Obj.src_MASK n 0 = false) ∧ (x.raised = false) ∧ (c.rd Obj.src_CLASS n 0 = 0)) ∧
    (let c : Core := rai 0 []; let n : Nat := 721; let info : Nat := 77; (srcAssigned n = true) ∧ (c.running = true) ∧ (info < 2 ^ 32) ∧ (c.occurredNow n = false) ∧ let x := c.srcRec n; (c.rdB Obj.src_MASK n 0 = false) ∧ (x.raised = true) ∧ ((x.eff = 2 ∨ c.rdB Obj.src_ESC n 0 = false))) ∧
    (let c : Core := rai 0 [(Obj.src_ESC,721,0,1)]; let n : Nat := 721; let info : Nat := 77; (srcAssigned n = true) ∧ (c.running = true) ∧ (info < 2 ^ 32) ∧ (c.occurredNow n = false) ∧ let x := c.srcRec n; (c.rdB Obj.src_MASK n 0 = false) ∧ (x.raised = true) ∧ (x.eff = 0) ∧ (c.rdB Obj.src_ESC n 0 = true) ∧ (c.rd Obj.src_REACTION n 0 = 0)) ∧
    (let c : Core := base; let n : Nat := 7; let info : Nat := 77; (srcAssigned n = true) ∧ (c.running = true) ∧ (info < 2 ^ 32) ∧ (c.occurredNow n = false) ∧ let x := c.srcRec n; (c.rdB Obj.src_MASK n 0 = false) ∧ (x.raised = false) ∧ (c.rd Obj.src_CLASS n 0 = 2)) ∧
    (let c : Core := { pr 0 with sess := [(1,{ st := 2, role := 3, txn := some { id := 4 } })] }; (c.running = true) ∧ (c.mode ≠ .safe)) ∧
    (let n : Nat := 721; let j := 722; (j ≠ n)) := by and_intros <;> decide +kernel

/-- The hypotheses of SelvedgeInputsAct can be met. -/
theorem witness_SelvedgeInputsAct :
    (let s : State := { core := due { ob base [(Obj.HOST_LOCK_OWNER,0,0,1)] with sess := [(1,{ st := 2, role := 1 })] } [(.hostLock,0)], mem := [] }; let dt : Nat := 2; let c := s.core.advance dt; (c.due .hostLock 0 = true) ∧ (c.rd0 Obj.HOST_LOCK_OWNER ≠ 0) ∧ ((c.session (c.rd0 Obj.HOST_LOCK_OWNER)).txn = none)) ∧
    (let s : State := { core := base, mem := [] }; let dt : Nat := 2; let n : Nat := 3; let c := s.core.advance dt; (c.running = true) ∧ (n < 16)) ∧
    (let s : State := { core := base.faultInput 3 true, mem := [] }; let dt : Nat := 2; let n : Nat := 3; let c := s.core.advance dt; (c.running = true) ∧ (n < 16) ∧ ((c.srcRec (9 + n)).active = true)) ∧
    (let s : State := { core := base, mem := [] }; let dt : Nat := 2; let c := s.core.advance dt; (c.running = true) ∧ (c.wdogExpired = false)) ∧
    (let s : State := { core := base, mem := [] }; let dt : Nat := 2; let c := s.core.advance dt; (c.running = true) ∧ (c.wdogExpired = false)) ∧
    (let s : State := { core := base, mem := [] }; let dt : Nat := 2; let n : Nat := 3; let c := s.core.advance dt; (c.running = true) ∧ (n < 64)) ∧
    (let s : State := { core := safe, mem := [] }; let dt : Nat := 2; let n : Nat := 3; let c := s.core.advance dt; (c.mode = .safe) ∧ (n < 64)) ∧
    (let s : State := { core := safe, mem := [] }; let dt : Nat := 2; let n : Nat := 3; let c := s.core.advance dt; (c.mode = .safe) ∧ (n < 64)) ∧
    (let s : State := { core := ob base [(Obj.ax_AX_STATE,7,0,7)], mem := [] }; let dt : Nat := 2; let n : Nat := 3; let c := s.core.advance dt; (c.running = true) ∧ (n < 8) ∧ ((c.mode = .safe ∨ c.axSt (4 + n) = axFaulted))) ∧
    (let s : State := { core := safe, mem := [] }; let dt : Nat := 2; let n : Nat := 3; let c := s.core.advance dt; (c.mode = .safe) ∧ (n < 4)) ∧
    (let s : State := { core := ob base [(Obj.ax_AX_FLAGS,5,0,2),(Obj.ax_SAFE_DEC,5,0,9)], mem := [] }; let dt : Nat := 2; let c := s.core.advance dt; (c.running = true)) ∧
    (let s : State := { core := base, mem := [] }; let dt : Nat := 2; let c := s.core.advance dt; (c.due .hostLock 0 = false)) ∧
    (let s : State := { core := { base with wdogExpired := true }, mem := [] }; let dt : Nat := 2; let c := s.core.advance dt; (c.wdogExpired = true)) ∧
    (let s : State := { core := base, mem := [] }; let dt : Nat := 2; let n : Nat := 2; let c := s.core.advance dt; (c.running = true) ∧ (n < 3)) := by and_intros <;> decide +kernel

end Stops

/-! ### Power, monitors, self-test, host ports, TAP -/

namespace Powers

/-- Memory with a byte of DRAM and one of Spool. -/
def mm : List Host.Cell := [(5, 1), (spoolBase + 3, 2)]
/-- OFF, waiting for a cause. -/
def off : Core := { ({} : Core) with mode := .off, phase := .steady, causes := 4 }
/-- RETAIN. -/
def ret (l : List (Ob × Nat × Nat × Nat)) : Core := { ob {} l with mode := .retain, phase := .steady }
/-- Start-up on the fast path. -/
def up (r : Bool) : Core := { ob {} [(Obj.BIST_VALID, 0, 0, 1)] with mode := .off, phase := .waking, fromRetain := r }
/-- A block with a session, a port, a log, and things kept. -/
def fat : Core := { base with sess := [(1, { st := 2 })], ports := [(0, { enumerated := true })], journal := [], roleKeys := [(1, [5])], thimJ := [(0, ⟨1, 2, 3, 4, none⟩)], timers := [(7, 8)], log := [⟨1, 2, 3, 4, 5, 6, 7, 8, 9, 10, 11⟩], logRet := [⟨1, 2, 3, 4, 5, 6, 7, 8, 9, 10, 11⟩] }
/-- A BIST run at its last group. -/
def lastRun : BistRun := ⟨8, 0, false, 0⟩
def bst (running : List BistRun) (todo : List Nat) : Core := { ob base [(Obj.RAIL_STATE, 0, 0, 0x3FF)] with bist := { kind := 1, todo := todo, running := running } }

/-- A block whose host port 0 has the address 10.0.0.1. -/
def hb : Core := ob base [(Obj.ISLAND_STATE, 0, 64, 2), (Obj.hp_IPV4_ADDR, 0, 0, 0x0100000A), (Obj.hp_MAC_ADDR, 0, 0, 0x020304050600)]
/-- An IPv4 header of a UDP datagram to it from 10.0.0.9, and the datagram. -/
def ipu : List Byte := [0x45, 0, 0, 29, 0, 0, 0, 0, 64, 17, 0x66, 0xC7, 10, 0, 0, 9, 10, 0, 0, 1]
def udpu : List Byte := [0x13, 0x88] ++ beBytes 2 47761 ++ [0, 9, 0, 0, 5]

/-- The hypotheses of ResetsStartTheDevice can be met. -/
theorem witness_ResetsStartTheDevice :
    (let s : State := { core := off, mem := mm }; let dt : Nat := 2; let c := s.core.advance dt; (c.mode = .off) ∧ (c.phase = .steady) ∧ (c.resetLow = false) ∧ (c.causes ≠ 0)) ∧
    (let s : State := { core := { ret [] with railWait := true, causes := 128 }, mem := mm }; let dt : Nat := 2; let c := s.core.advance dt; (c.mode = .retain) ∧ (c.railWait = true)) ∧
    (let s : State := { core := base, mem := mm }; let dt : Nat := 2; let c := s.core.advance dt; (c.running = true)) ∧
    (let r : Nat := 9; (9 ≤ r)) ∧
    (let s : State := { core := ret [], mem := mm }; let dt : Nat := 2; let r : Nat := 3; let c := s.core.advance dt; (r < 9) ∧ (c.mode = .retain) ∧ (r ≠ 4) ∧ (r ≠ 5) ∧ (r ≠ 7)) ∧
    (let s : State := { core := off, mem := mm }; let dt : Nat := 2; let r : Nat := 7; let c := s.core.advance dt; (r < 9) ∧ (c.mode = .off) ∧ (c.phase = .steady)) ∧
    (let s : State := { core := fat, mem := mm }; let dt : Nat := 2; let r : Nat := 3; let c := s.core.advance dt; (r < 9) ∧ (¬(c.mode = .off ∧ c.phase = .steady)) ∧ ((c.mode = .retain → r = 4 ∨ r = 5 ∨ r = 7))) ∧
    (let s : State := { core := due { ret [] with railWait := true } [(.mainRail,0)], mem := mm }; let dt : Nat := 2; let c := s.core.advance dt; (c.mode = .retain) ∧ (c.railWait = true) ∧ (c.due .mainRail 0 = true)) ∧
    (let s : State := { core := base, mem := mm }; let dt : Nat := 2; let c := s.core.advance dt; (¬(c.mode = .retain ∧ c.railWait = true ∧ c.due .mainRail 0 = true))) ∧
    (let s : State := { core := fat, mem := mm }; let dt : Nat := 2; let c := s.core.advance dt; (c.mode ≠ .retain) ∧ (¬(c.mode = .off ∧ c.phase = .steady))) ∧
    (let s : State := { core := ret [], mem := mm }; let dt : Nat := 2; let c := s.core.advance dt; ((c.mode = .retain ∨ (c.mode = .off ∧ c.phase = .steady)))) ∧
    (let s : State := { core := base, mem := mm }; let dt : Nat := 2; let c := s.core.advance dt; (c.resetLow = false)) ∧
    (let s : State := { core := { ob off [(Obj.RAIL_STATE,0,0,0x3FF)] with resetLow := true }, mem := mm }; let dt : Nat := 2; let c := s.core.advance dt; (c.mode ≠ .retain) ∧ (c.resetLow = true) ∧ (c.railsGood = true)) ∧
    (let s : State := { core := { ob off [(Obj.RAIL_STATE,0,0,0x3FE)] with resetLow := true }, mem := mm }; let dt : Nat := 2; let c := s.core.advance dt; (c.mode ≠ .retain) ∧ (c.resetLow = true) ∧ (c.railsGood = false)) ∧
    (let s : State := { core := { ob (ret []) [(Obj.RAIL_STATE,0,0,0x3FF)] with resetLow := true }, mem := mm }; let dt : Nat := 2; let c := s.core.advance dt; (c.mode = .retain) ∧ (c.resetLow = true)) ∧
    (let s : State := { core := ret [(Obj.RAIL_STATE,0,0,0x3FF)], mem := mm }; let dt : Nat := 2; let c := s.core.advance dt; (c.mode = .retain) ∧ (c.railWait = false) ∧ (c.resetLow = false)) ∧
    (let s : State := { core := base, mem := mm }; let dt : Nat := 2; let c := s.core.advance dt; (¬(c.mode = .retain ∧ c.railWait = false ∧ c.resetLow = false))) ∧
    (let s : State := { core := due (ret [(Obj.RAIL_STATE,0,0,0x3FF)]) [(.wakeAfter,0)], mem := mm }; let dt : Nat := 2; let c := s.core.advance dt; (c.mode = .retain) ∧ (c.railWait = false) ∧ (c.due .wakeAfter 0 = true)) ∧
    (let s : State := { core := base, mem := mm }; let dt : Nat := 2; let c := s.core.advance dt; (¬(c.mode = .retain ∧ c.railWait = false ∧ c.due .wakeAfter 0 = true))) ∧
    (let s : State := { core := ret [(Obj.RAIL_STATE,0,0,0x3FF)], mem := mm }; let dt : Nat := 2; let c := s.core.advance dt; (c.railsGood = true)) ∧
    (let s : State := { core := ret [(Obj.RAIL_STATE,0,0,0x3FE)], mem := mm }; let dt : Nat := 2; let c := s.core.advance dt; (c.railsGood = false)) ∧
    (let s : State := { core := due { base with wdogExpired := true } [(.wdogReset,0)], mem := mm }; let dt : Nat := 2; let c := s.core.advance dt; (c.wdogExpired = true) ∧ (c.due .wdogReset 0 = true)) ∧
    (let s : State := { core := base, mem := mm }; let dt : Nat := 2; let c := s.core.advance dt; (¬(c.wdogExpired = true ∧ c.due .wdogReset 0 = true))) ∧
    (let s : State := { core := { ob base [(Obj.SAFE_AUTO_RESET,0,0,1),(Obj.SAFE_CAUSE,0,0,7*2^80)] with mode := .safe, clk := 9000000000, safeSince := some 5 }, mem := mm }; let dt : Nat := 2; let c := s.core.advance dt; (c.safeAutoDue = true)) ∧
    (let s : State := { core := base, mem := mm }; let dt : Nat := 2; let c := s.core.advance dt; (c.safeAutoDue = false)) ∧
    (let s : State := { core := { off with testEn := true }, mem := mm }; let dt : Nat := 2; let straps : Nat := 0; let c := s.core.advance dt; let kinds := 4; let test := if bit (c.causes ||| kinds) 1 then bit straps 3 else c.testEn; (test = true)) ∧
    (let s : State := { core := off, mem := mm }; let dt : Nat := 2; let straps : Nat := 0; let c := s.core.advance dt; let kinds := 4; let test := if bit (c.causes ||| kinds) 1 then bit straps 3 else c.testEn; (test = false)) ∧
    (let s : State := { core := base, mem := mm }; let dt : Nat := 2; let c := s.core.advance dt; (c.startReady = false)) ∧
    (let s : State := { core := up false, mem := mm }; let dt : Nat := 2; let a : Nat := 0x40000000; let b : Nat := 0; let trained : Bool := true; let c := s.core.advance dt; (c.startReady = true) ∧ (trained = true) ∧ (0 < a) ∧ ((b = 0 ∨ b = a)) ∧ (c.fromRetain = false)) ∧
    (let s : State := { core := up true, mem := mm }; let dt : Nat := 2; let a : Nat := 0x40000000; let b : Nat := 0; let trained : Bool := true; let kept : Bool := false; let c := s.core.advance dt; (c.startReady = true) ∧ (trained = true) ∧ (0 < a) ∧ ((b = 0 ∨ b = a)) ∧ (c.fromRetain = true) ∧ (kept = false)) ∧
    (let s : State := { core := up true, mem := mm }; let dt : Nat := 2; let a : Nat := 0x40000000; let b : Nat := 0; let trained : Bool := true; let kept : Bool := true; let c := s.core.advance dt; (c.startReady = true) ∧ (trained = true) ∧ (0 < a) ∧ ((b = 0 ∨ b = a)) ∧ (c.fromRetain = true) ∧ (kept = true)) ∧
    (let s : State := { core := up true, mem := mm }; let dt : Nat := 2; let a : Nat := 0x40000000; let b : Nat := 0; let trained : Bool := false; let c := s.core.advance dt; (c.startReady = true) ∧ ((trained = false ∨ a = 0 ∨ (b ≠ 0 ∧ b ≠ a)))) := by and_intros <;> decide +kernel

/-- The hypotheses of ResetKeepsTheRetentionStore can be met. -/
theorem witness_ResetKeepsTheRetentionStore :
    (let c : Core := { fat with thimJ := [] }; (c.thimJ = [])) ∧
    (let c : Core := { fat with thimJ := [] }; let o : Ob := Obj.MODE_REQ; let i : Nat := 0; let j : Nat := 0; (c.journal = []) ∧ (c.thimJ = []) ∧ ((Obj.KEY_SLOT :: dictionary.filter Ob.ownPartition).all (fun q => !q.hasKey (o.key i j)) = true)) ∧
    (let c : Core := fat; let p : Nat := 0; let e : ThimEntry := ⟨1,2,3,4,none⟩; (c.thimJ = [(p, e)]) ∧ (p < 64) ∧ (e.carrier < 2 ^ 64) ∧ (e.base < 2 ^ 64) ∧ (e.cseq < 2 ^ 32) ∧ (e.acc < 2 ^ 64)) := by and_intros <;> decide +kernel

/-- The hypotheses of MonitorsReport can be met. -/
theorem witness_MonitorsReport :
    (let s : State := { core := base, mem := [] }; let dt : Nat := 2; let n : Nat := 3; let c := s.core.advance dt; (c.running = true) ∧ (n < 10)) ∧
    (let s : State := { core := base, mem := [] }; let dt : Nat := 2; let n : Nat := 3; let c := s.core.advance dt; (c.running = true) ∧ (n < 10)) ∧
    (let s : State := { core := base, mem := [] }; let dt : Nat := 2; let n : Nat := 10; let c := s.core.advance dt; (c.running = true) ∧ (10 ≤ n)) ∧
    (let s : State := { core := base, mem := [] }; let dt : Nat := 2; let n : Nat := 10; let c := s.core.advance dt; (c.running = true) ∧ (10 ≤ n)) ∧
    (let s : State := { core := (base.level 265 0 true).level 1488 0 true, mem := [] }; let dt : Nat := 2; let c := s.core.advance dt; (c.running = true)) ∧
    (let s : State := { core := base, mem := [] }; let dt : Nat := 2; let c := s.core.advance dt; (c.running = true)) ∧
    (let s : State := { core := ob base [(Obj.ISLAND_STATE,0,3,2)], mem := [] }; let dt : Nat := 2; let n : Nat := 3; let c := s.core.advance dt; (c.running = true) ∧ (n < 84) ∧ (c.rd Obj.ISLAND_STATE 0 n = 2)) ∧
    (let s : State := { core := ob base [(Obj.ISLAND_STATE,0,3,2)], mem := [] }; let dt : Nat := 2; let n : Nat := 3; let c := s.core.advance dt; (c.running = true) ∧ (n < 84) ∧ (c.rd Obj.ISLAND_STATE 0 n = 2) ∧ (c.rd0 Obj.OSC_STATE ≠ 1)) ∧
    (let s : State := { core := ob base [(Obj.OSC_STATE,0,0,1)], mem := [] }; let dt : Nat := 2; let c := s.core.advance dt; (c.running = true) ∧ (c.rd0 Obj.OSC_STATE = 1)) ∧
    (let s : State := { core := base, mem := [] }; let dt : Nat := 2; let c := s.core.advance dt; (c.running = true)) ∧
    (let s : State := { core := base, mem := [] }; let dt : Nat := 2; let n : Nat := 84; let c := s.core.advance dt; (c.running = true) ∧ ((84 ≤ n ∨ c.rd Obj.ISLAND_STATE 0 n ≠ 2))) ∧
    (let s : State := { core := base, mem := [] }; let dt : Nat := 2; let n : Nat := 84; let c := s.core.advance dt; (c.running = true) ∧ ((84 ≤ n ∨ c.rd Obj.ISLAND_STATE 0 n ≠ 2))) ∧
    (let s : State := { core := ob base [(Obj.ISLAND_STATE,0,3,3)], mem := [] }; let dt : Nat := 2; let n : Nat := 3; let c := s.core.advance dt; (c.running = true) ∧ (n < 68) ∧ (c.rd Obj.ISLAND_STATE 0 n = 3)) ∧
    (let s : State := { core := base, mem := [] }; let dt : Nat := 2; let n : Nat := 68; let c := s.core.advance dt; (c.running = true) ∧ (¬(n < 68 ∧ c.rd Obj.ISLAND_STATE 0 n = 3))) ∧
    (let s : State := { core := base, mem := [] }; let dt : Nat := 2; let n : Nat := 75; let c := s.core.advance dt; (c.running = true) ∧ (n < 84)) ∧
    (let s : State := { core := base, mem := [] }; let dt : Nat := 2; let n : Nat := 75; let c := s.core.advance dt; (c.running = true) ∧ (n < 84)) ∧
    (let s : State := { core := base, mem := [] }; let dt : Nat := 2; let c := s.core.advance dt; (c.running = true)) ∧
    (let s : State := { core := base, mem := [] }; let dt : Nat := 2; let c := s.core.advance dt; (c.running = true)) ∧
    (let s : State := { core := due ((ob base [(Obj.ISLAND_RESET,0,0,0x48)]).islandDown 0x48) [(.islandReset,0x48)], mem := [] }; let dt : Nat := 2; let c := s.core.advance dt; (c.running = true)) ∧
    (let s : State := { core := due ((ob base [(Obj.ISLAND_RESET,0,0,0x48)]).islandDown 0x48) [(.islandReset,0x48)], mem := [] }; let dt : Nat := 2; let n : Nat := 0x48; let c := s.core.advance dt; (c.running = true) ∧ (c.islandsDown.contains n = true) ∧ (c.due .islandReset n = true) ∧ (68 ≤ n)) := by and_intros <;> decide +kernel

/-- The hypotheses of SelfTestGroupsAreScheduled can be met. -/
theorem witness_SelfTestGroupsAreScheduled :
    (let s : State := { core := bst [⟨4,0,false,0⟩] [1,5,7], mem := [] }; let dt : Nat := 2; let g : Nat := 1; let c := s.core.advance dt; (c.bist.kind ≠ 0) ∧ (c.bist.todo.find? (fun h => decide (c.bistLoad + bistPower h ≤ c.rd0 Obj.BIST_POWER_CAP)) = some g)) ∧
    (let s : State := { core := base, mem := [] }; let dt : Nat := 2; let c := s.core.advance dt; ((c.bist.kind = 0 ∨ ∀ h ∈ c.bist.todo, c.rd0 Obj.BIST_POWER_CAP < c.bistLoad + bistPower h))) ∧
    (let s : State := { core := bst [⟨4,0,false,0⟩] [1,5,7], mem := [] }; let dt : Nat := 2; let g : Nat := 3; let c := s.core.advance dt; (c.bist.running.find? (fun r => decide (r.group = g)) = none)) ∧
    (let s : State := { core := { bst [⟨4,0,false,0⟩] [1,5,7] with clk := 2000000000 }, mem := [] }; let dt : Nat := 2; let g : Nat := 4; let c := s.core.advance dt; let r := ⟨4,0,false,0⟩; (c.bist.running.find? (fun r => decide (r.group = g) && decide (r.since + ms (bistBound g) ≤ c.clk)) = some r)) ∧
    (let s : State := { core := bst [⟨4,0,false,0⟩] [1,5,7], mem := [] }; let dt : Nat := 2; let g : Nat := 4; let c := s.core.advance dt; (c.bist.running.find? (fun r => decide (r.group = g) && decide (r.since + ms (bistBound g) ≤ c.clk)) = none)) ∧
    (let s : State := { core := bst [lastRun] [], mem := [] }; let dt : Nat := 2; let r : BistRun := lastRun; let c := s.core.advance dt; (c.bist.kind ≠ 0) ∧ (c.bist.running.find? (fun q => decide (q.group = r.group)) = some r) ∧ (5 ≤ r.group) ∧ (r.group ≤ 8) ∧ (bit (c.rd0 Obj.RAIL_STATE) 8 = true) ∧ (bit (c.rd0 Obj.RAIL_STATE) 9 = true)) := by and_intros <;> decide +kernel

/-- The hypotheses of HostPortsAndTapAnswer can be met. -/
theorem witness_HostPortsAndTapAnswer :
    (let s : State := { core := hb, mem := [] }; let dt : Nat := 2; let lane : Nat := 2; let c := s.core.advance dt; ((c.running = false ∨ c.configReached = false ∨ 2 ≤ lane))) ∧
    (let s : State := { core := hb, mem := [] }; let dt : Nat := 2; let lane : Nat := 2; let c := s.core.advance dt; ((c.running = false ∨ c.configReached = false ∨ 2 ≤ lane))) ∧
    (let s : State := { core := hb, mem := [] }; let dt : Nat := 2; let lane : Nat := 2; let c := s.core.advance dt; ((c.running = false ∨ c.configReached = false ∨ 2 ≤ lane))) ∧
    (let s : State := { core := ob base [(Obj.ISLAND_STATE,0,64,3)], mem := [] }; let dt : Nat := 2; let lane : Nat := 0; let c := s.core.advance dt; (c.rd Obj.ISLAND_STATE 0 (64 + lane) ≠ 2)) ∧
    (let s : State := { core := ob base [(Obj.ISLAND_STATE,0,64,3)], mem := [] }; let dt : Nat := 2; let lane : Nat := 0; let c := s.core.advance dt; (c.rd Obj.ISLAND_STATE 0 (64 + lane) ≠ 2)) ∧
    (let s : State := { core := hb, mem := [] }; let dt : Nat := 2; let lane : Nat := 0; let c := s.core.advance dt; (c.running = true) ∧ (c.configReached = true) ∧ (lane < 2) ∧ (c.rd Obj.ISLAND_STATE 0 (64 + lane) = 2)) ∧
    (let s : State := { core := ob base [(Obj.ISLAND_STATE,0,64,2),(Obj.hp_PORT_LINK,0,0,1)], mem := [] }; let dt : Nat := 2; let lane : Nat := 0; let c := s.core.advance dt; (c.running = true) ∧ (c.configReached = true) ∧ (lane < 2) ∧ (c.rd Obj.ISLAND_STATE 0 (64 + lane) = 2)) ∧
    (let s : State := { core := hb, mem := [] }; let dt : Nat := 2; let lane : Nat := 0; let b : List Byte := List.replicate 6 0xFF ++ ([2,4,6,8,10,12] : List Byte) ++ [] ++ [0x08, 0x06] ++ [0, 1, 8, 0, 6, 4, 0, 1] ++ ([2,4,6,8,10,12] : List Byte) ++ ([10,0,0,9] : List Byte) ++ List.replicate 6 0 ++ ([10,0,0,1] : List Byte); let c := s.core.advance dt; (c.running = true) ∧ (c.configReached = true) ∧ (lane < 2) ∧ let src := ([2,4,6,8,10,12] : List Byte); let spa := ([10,0,0,9] : List Byte); let tpa := ([10,0,0,1] : List Byte); let tag := ([] : List Byte); (src.length = 6) ∧ (spa.length = 4) ∧ (tpa.length = 4) ∧ ((tag = [] ∨ ∃ v w : Byte, tag = [0x81, 0x00, v, w])) ∧ (b = List.replicate 6 0xFF ++ src ++ tag ++ [0x08, 0x06] ++ [0, 1, 8, 0, 6, 4, 0, 1] ++ src ++ spa ++ List.replicate 6 0 ++ tpa) ∧ (c.ownV4 lane tpa = true)) ∧
    (let s : State := { core := hb, mem := [] }; let dt : Nat := 2; let lane : Nat := 0; let b : List Byte := List.replicate 12 2 ++ [0x08,0x00] ++ ipu ++ udpu; let c := s.core.advance dt; (c.running = true) ∧ (c.configReached = true) ∧ (lane < 2) ∧ let head : List Byte := List.replicate 12 2; let ip : List Byte := ipu; let udp : List Byte := udpu; (head.length = 12) ∧ (ip.length = 20) ∧ (8 ≤ udp.length) ∧ (b.length ≤ 9014) ∧ (b = head ++ [0x08, 0x00] ++ ip ++ udp) ∧ (nth 0 ip 0 = 0x45) ∧ (ofBe ((ip.drop 2).take 2) = 20 + udp.length) ∧ (ofBe ((ip.drop 6).take 2) % 16384 = 0) ∧ (nth 0 ip 9 = 17) ∧ (foldSum (wordSum ip) = 65535) ∧ (c.ownV4 lane ((ip.drop 16).take 4) = true) ∧ ((udp.drop 6).take 2 = [0, 0]) ∧ (ofBe ((udp.drop 2).take 2) = c.netVal Obj.STREAM_PORT 0)) ∧
    (let s : State := { core := hb, mem := [] }; let dt : Nat := 2; let lane : Nat := 0; let b : List Byte := List.replicate 60 7; let c := s.core.advance dt; (c.running = true) ∧ (c.configReached = true) ∧ (lane < 2) ∧ (b.length ≤ 9014) ∧ ((let t := ofBe ((b.drop 12).take 2); t ≠ 0x8100 ∧ t ≠ 0x8808 ∧ t ≠ 0x0806 ∧ t ≠ 0x0800 ∧ t ≠ 0x86DD))) ∧
    (let s : State := { core := hb, mem := [] }; let dt : Nat := 2; let lane : Nat := 0; let b : List Byte := List.replicate 9015 7; let c := s.core.advance dt; (c.running = true) ∧ (c.configReached = true) ∧ (lane < 2) ∧ ((9014 < b.length ∨ ofBe ((b.drop 12).take 2) = 0x8808 ∨ (ofBe ((b.drop 12).take 2) = 0x8100 ∧ (ofBe ((b.drop 16).take 2) = 0x8100 ∨ ofBe ((b.drop 16).take 2) = 0x8808))))) ∧
    (let s : State := { core := { base with mode := .off, phase := .steady }, mem := [] }; let dt : Nat := 2; let c := s.core.advance dt; (c.tapOn = false)) ∧
    (let s : State := { core := base, mem := [] }; let dt : Nat := 2; let ir : Nat := 1; let c := s.core.advance dt; (c.tapOn = true) ∧ (ir = 1)) ∧
    (let s : State := { core := base, mem := [] }; let dt : Nat := 2; let ir : Nat := 3; let c := s.core.advance dt; (c.tapOn = true) ∧ (ir ≠ 1) ∧ ((c.testEn = false ∨ (ir ≠ 2 ∧ ir ≠ 3)))) ∧
    (let s : State := { core := { base with testEn := true }, mem := [] }; let dt : Nat := 2; let ir : Nat := 2; let c := s.core.advance dt; (c.tapOn = true) ∧ (c.testEn = true) ∧ (ir = 2)) ∧
    (let s : State := { core := { base with testEn := true }, mem := [] }; let dt : Nat := 2; let ir : Nat := 3; let c := s.core.advance dt; (c.tapOn = true) ∧ (c.testEn = true) ∧ (ir = 3)) := by and_intros <;> decide +kernel

end Powers

/-- The raw window, for a device whose register 4 is one readable and writable field of 32 bits that backs no object: the register map is a constant of the device without a
value in the model (log entry 5). -/
theorem witness_rawWindow (h : Config.regs 4 = some [⟨0, 32, 1, none⟩]) :
    (let s : State := { core := fc ses }; let b := ReqBody.read 0xA000 4 1 4 0 0; let e := tgOf b; let c := s.core.atTurn 2 e; let d := c.rawRead 0xA000 4 1 4 0
     (s.core.advance 2).Takes e b ∧ rawForm 0xA000 4 1 4 0 = 0 ∧ d.length ≤ (c.session e.session).maxMsg - 80 ∧ objectAt 0xA000 4 = none) ∧
    (let s : State := { core := fc ses }; let b := ReqBody.write 0xA000 4 1 4 0 0 4 [1, 0, 0, 0]; let e := tgOf b; let c := s.core.atTurn 2 e; let q := c.session e.session
     let p := c.setPart e.session none; let f := writeForm 0xA000 4 1 4 0 [1, 0, 0, 0]; let r := commitAll {} ⟨e.session, q.role⟩ p s.mem f.2
     (s.core.advance 2).Takes e b ∧ 2 ≤ q.role ∧ c.mode ≠ .safe ∧ f.1 = 0 ∧ f.2.find? (p.lockedFor e.session) = none ∧ q.txn = none ∧ r.code = 0) := by
  have hr : rawForm 0xA000 4 1 4 0 = 0 := by simp [rawForm, registerOf, registerExists, h, worse, okC]
  have hp : registerOf 0xA000 4 = 4 := rfl
  have hv : rawStaged 1 4 0 [1, 0, 0, 0] / 2 ^ 64 = 15 := by decide +kernel
  have hf : writeForm 0xA000 4 1 4 0 [1, 0, 0, 0] = (0, [⟨0, 0xA000, 4, rawStaged 1 4 0 [1, 0, 0, 0]⟩]) := by
    simp [writeForm, inWindow, hr, worse, okC]
  have hg : regFields 4 = [⟨0, 32, 1, none⟩] := by simp [regFields, h]
  have hl : rawFields 4 15 = [(0, ⟨0, 32, 1, none⟩)] := by simp [rawFields, hg]
  have hr' : rawReserved 4 (rawStaged 1 4 0 [1, 0, 0, 0]) = false := by simp only [rawReserved, hv, hl]; decide +kernel
  refine ⟨⟨takes_tag _ _ (by decide +kernel), hr, ?_, by decide +kernel⟩, takes_tag _ _ (by decide +kernel), by decide +kernel, by decide +kernel, ?_, ?_, by decide +kernel, ?_⟩
  · have : ∀ c : Core, (c.rawRead 0xA000 4 1 4 0).length = 4 := by intro c; simp [Core.rawRead, leBytes]
    rw [this]; decide +kernel
  · show (writeForm 0xA000 4 1 4 0 [1, 0, 0, 0]).1 = 0
    rw [hf]
  · show (writeForm 0xA000 4 1 4 0 [1, 0, 0, 0]).2.find? _ = none
    have : ∀ (s : Core) (x : Nat) (w : Staged), s.sess = [(x, s.session x)] → s.lockedFor x w = false := by intro s x w hs; simp [Core.lockedFor, hs]
    rw [hf]; simp only [List.find?]
    rw [this _ _ _ (by decide +kernel)]
  · show (commitAll {} _ _ _ (writeForm 0xA000 4 1 4 0 [1, 0, 0, 0]).2).code = 0
    rw [hf]
    have hs : ∀ s : Core, s.prims ⟨0, 0xA000, 4, rawStaged 1 4 0 [1, 0, 0, 0]⟩ = [.reg 4 1 (2 ^ 32 - 1)] := by
      intro s
      show s.rawPrims 4 (rawStaged 1 4 0 [1, 0, 0, 0]) = _
      simp only [Core.rawPrims, hv, hl, hg]
      simp only [List.filterMap, List.flatMap]
      rfl
    have : ∀ (s t : Core) (c : Caller), 2 ≤ c.role → s.stagedCode t c ⟨0, 0xA000, 4, rawStaged 1 4 0 [1, 0, 0, 0]⟩ = 0 := by
      intro s t c hc
      simp only [Core.stagedCode, Core.stagedPre, hs, hp, hv, rawReadOnly, rawSideEffect, hl, hg, hr', Core.primPre, Core.primCode]
      simp [worse, okC, Nat.not_lt.mpr hc]
    simp only [commitAll, List.find?]
    rw [this _ _ _ (by decide +kernel)]; rfl

/-! ### Ill-formed commands

Each list breaks one check of `Instr.wf` at a time: an operand at the first value outside its range. -/

/-- A request whose node does not fit its field. -/
def envBad : FopEnv := { env0 with node := 65536 }

theorem test_ill_formed_1 : ([
    .ftStep 0 envBad 0, .ftStep 0 env0 (2 ^ 64), .channelModeWrite 0 envBad 0 0, .channelModeWrite 0 env0 8 0, .channelModeWrite 0 env0 0 (2 ^ 8),
    .quadTransition 0 8 ⟨0, 0⟩ ⟨0, 0⟩, .hallTransition 0 8 ⟨0, 0⟩, .ssiSample 0 8 0 false false false, .ssiSample 0 0 (2 ^ 32) false false false, .signalLoss 0 8,
    .signalReturn 0 8, .zIndex 0 8, .estZeroTimeout 0 8, .tackPeriodic 0 8, .tackNow 0 envBad 0, .tackNow 0 env0 (2 ^ 8), .paceSrcWrite 0 envBad 0 0,
    .paceSrcWrite 0 env0 (2 ^ 16) 0, .paceSrcWrite 0 env0 0 (2 ^ 8), .columnGate 0 64, .frameTransmit 0 64, .stageDeadlineMiss 0 64 0, .rotationWrite 0 envBad 0 0 [],
    .rotationWrite 0 env0 64 0 [], .rotationWrite 0 env0 0 (2 ^ 16) [], .rotationWrite 0 env0 0 0 [2 ^ 64], .phaseGroupsWrite 0 envBad 0 0, .phaseGroupsWrite 0 env0 64 0,
    .phaseGroupsWrite 0 env0 0 (2 ^ 8), .fSetWrite 0 envBad 0 0, .fSetWrite 0 env0 64 0, .fSetWrite 0 env0 0 (2 ^ 32), .fSetAllWrite 0 envBad 0, .fSetAllWrite 0 env0 (2 ^ 32),
    .pulseValidationDone 0 64, .spitRun 0 envBad 0, .spitRun 0 env0 (2 ^ 8), .spitAbort 0 envBad 0, .spitAbort 0 env0 (2 ^ 64), .bobbinUnitStart 0 3, .bobbinLate 0 64 0,
    .statsClear 0 envBad 0, .statsClear 0 env0 (2 ^ 64), .bobbinTableWrite 0 envBad 0 0 0 [], .bobbinTableWrite 0 env0 0 (2 ^ 16) 0 [], .bobbinTableWrite 0 env0 0 0 (2 ^ 16) [],
    .bobbinTableWrite 0 env0 0 0 0 [2 ^ 64], .modelParamWrite 0 envBad false 0 0, .modelParamWrite 0 env0 false 64 0, .modelParamWrite 0 env0 false 0 (2 ^ 16),
    .portEnableSet 0 envBad 0, .portEnableSet 0 env0 64, .portDisable 0 envBad 0, .portDisable 0 env0 64, .hpSettleExpiry 0 64, .laneTrained 0 64, .trainTimeout 0 64,
    .echoReceived 0 64 0 [], .statusReceived 0 64 [], .ackTimeout 0 64, .statusTimeout 0 64, .retrainTimeout 0 64] : List Instr).any Instr.wf = false := by decide +kernel

theorem test_ill_formed_2 : ([
    .timePeriodExpiry 0 64, .sbResponse 0 64 [], .sbTimeout 0 64, .sbPendingRetry 0 64, .portReset 0 envBad 0 0, .portReset 0 env0 64 0, .portReset 0 env0 0 (2 ^ 8),
    .tableLoad 0 envBad 0 0, .tableLoad 0 env0 64 0, .tableLoad 0 env0 0 (2 ^ 8), .measReq 0 envBad 0, .measReq 0 env0 (2 ^ 64), .measReqJs 0 envBad 0, .measReqJs 0 env0 (2 ^ 64),
    .measService 0 32 0, .measService 0 0 (2 ^ 32), .tsrSettleDone 0 32, .tsrIntegrationDone 0 32 0, .tsrIntegrationDone 0 0 (2 ^ 48), .jsConversionDone 0 [2 ^ 15] [],
    .jsConversionDone 0 [] [2 ^ 16], .sweepReq 0 envBad 0, .sweepReq 0 env0 (2 ^ 64), .sweepStart 0 32 0, .sweepStart 0 0 (2 ^ 32), .sweepDwellEnd 0 32 0,
    .sweepDwellEnd 0 0 (2 ^ 48), .sweepCancel 0 envBad 0, .sweepCancel 0 env0 (2 ^ 64), .baseline 0 envBad 0, .baseline 0 env0 (2 ^ 64), .dryClear 0 envBad 0,
    .dryClear 0 env0 (2 ^ 64), .nozzleMapWrite 0 envBad 0 [], .nozzleMapWrite 0 env0 (2 ^ 16) [], .nozzleMapWrite 0 env0 0 [2 ^ 64], .hsvSample 0 16 0, .keyLoad 0 envBad [],
    .keyRevoke 0 envBad 0, .keyRevoke 0 env0 (2 ^ 8), .commitPeriodExpiry 0 64, .commitDropsReached 0 64, .commitNow 0 envBad 0, .commitNow 0 env0 (2 ^ 64),
    .leaveCommitTimeout 0 64, .thimbleJournalTimer 0 64 false, .thimRetry 0 envBad 0, .thimRetry 0 env0 (2 ^ 64), .orphanAck 0 envBad 0, .orphanAck 0 env0 (2 ^ 64),
    .verifyReq 0 envBad 0 (List.replicate 16 0), .verifyReq 0 env0 64 (List.replicate 16 0), .verifyReq 0 env0 0 [], .thimOverdue 0 64, .columnAssembly 0 64 0,
    .columnAssembly 0 0 3, .maskGeometryWrite 0 envBad 0 0 0, .maskGeometryWrite 0 env0 0 0 (2 ^ 16), .maskDataWrite 0 envBad 0 [], .reqTailWrite 0 envBad 0 0,
    .reqTailWrite 0 env0 4 0, .reqTailWrite 0 env0 0 (2 ^ 32)] : List Instr).any Instr.wf = false := by decide +kernel

theorem test_ill_formed_3 : ([
    .outTailWrite 0 envBad 0 0, .outTailWrite 0 env0 4 0, .outTailWrite 0 env0 0 (2 ^ 32), .doneTailWrite 0 envBad 0 0, .doneTailWrite 0 env0 4 0, .doneTailWrite 0 env0 0 (2 ^ 32),
    .decoderTakeRequest 0 4, .decoderHeaderDone 0 4 0 0, .decoderHeaderDone 0 0 3 0, .decoderHeaderDone 0 0 0 (2 ^ 64), .decoderTableDone 0 4 0 0, .decoderTableDone 0 0 3 0,
    .decoderTableDone 0 0 0 (2 ^ 64), .decodeCode 0 4 0 0, .decodeCode 0 0 3 0, .decodeCode 0 0 0 (2 ^ 64), .decoderBlockEnd 0 4, .decAbort 0 envBad 0 0, .decAbort 0 env0 4 0,
    .decAbort 0 env0 0 (2 ^ 64), .presetWrite 0 envBad 0 [], .presetWrite 0 env0 16 [], .streamOpen 0 envBad, .streamClose 0 envBad, .dataDatagram 0 2 0 0 [],
    .dataDatagram 0 0 (2 ^ 128) 0 [], .dataDatagram 0 0 0 (2 ^ 16) [], .recordBlock 0 3 0, .recordBlock 0 0 (2 ^ 64), .dmaEnable 0 envBad 0, .dmaEnable 0 env0 64,
    .dmaDisable 0 envBad 0, .dmaDisable 0 env0 64, .dmaTailWrite 0 envBad 0 0, .dmaTailWrite 0 env0 64 0, .dmaTailWrite 0 env0 0 (2 ^ 32), .dmaGrant 0 4, .dmaBurst 0 4 0 0 0,
    .dmaBurst 0 0 3 0 0, .dmaBurst 0 0 0 (2 ^ 64) 0, .dmaDescriptorEnd 0 4, .dmaBusError 0 4 false, .dmaResume 0 envBad 0 0, .dmaResume 0 env0 64 0, .dmaResume 0 env0 0 (2 ^ 64),
    .dmaAbort 0 envBad 0 0, .dmaAbort 0 env0 64 0, .dmaAbort 0 env0 0 (2 ^ 64), .dmaPriorityWrite 0 envBad 0 0, .dmaPriorityWrite 0 env0 64 0, .dmaPriorityWrite 0 env0 0 (2 ^ 64),
    .sbOwnerWrite 0 envBad false 0 0, .sbOwnerWrite 0 env0 false 52 0, .sbOwnerWrite 0 env0 false 0 (2 ^ 64), .bankHandoverDone 0 52, .quarantineCleared 0 52,
    .memDataRead 0 envBad 0 0 0, .memDataRead 0 env0 (2 ^ 32) 0 0, .memDataRead 0 env0 0 3 0, .memDataRead 0 env0 0 0 (2 ^ 64), .memDataWrite 0 envBad 0 0 [] 0 0 0,
    .memDataWrite 0 env0 (2 ^ 32) 0 [] 0 0 0] : List Instr).any Instr.wf = false := by decide +kernel

theorem test_ill_formed_4 : ([
    .memDataWrite 0 env0 0 (2 ^ 32) [] 0 0 0, .memDataWrite 0 env0 0 0 [] 3 0 0, .memDataWrite 0 env0 0 0 [] 0 (2 ^ 64) 0, .spoolBitSet 0 16 0 0 0 0,
    .spoolBitSet 0 0 (2 ^ 64) 0 0 0, .spoolBitSet 0 0 0 (2 ^ 8) 0 0, .spoolBitSet 0 0 0 0 (2 ^ 64) 0, .spoolBitClear 0 16 0 0 0 0, .spoolBitClear 0 0 (2 ^ 64) 0 0 0,
    .spoolBitClear 0 0 0 (2 ^ 8) 0 0, .spoolBitClear 0 0 0 0 (2 ^ 64) 0, .atomicAdd32 0 envBad 0 0 0 0, .atomicAdd32 0 env0 (2 ^ 64) 0 0 0, .atomicAdd32 0 env0 0 (2 ^ 64) 0 0,
    .atomicAdd32 0 env0 0 0 3 0, .atomicAdd64 0 envBad 0 0 0 0, .atomicAdd64 0 env0 (2 ^ 64) 0 0 0, .atomicAdd64 0 env0 0 (2 ^ 64) 0 0, .atomicAdd64 0 env0 0 0 3 0,
    .atomicSwap32 0 envBad 0 0 0 0, .atomicSwap32 0 env0 (2 ^ 64) 0 0 0, .atomicSwap32 0 env0 0 (2 ^ 64) 0 0, .atomicSwap32 0 env0 0 0 3 0, .atomicSwap64 0 envBad 0 0 0 0,
    .atomicSwap64 0 env0 (2 ^ 64) 0 0 0, .atomicSwap64 0 env0 0 (2 ^ 64) 0 0, .atomicSwap64 0 env0 0 0 3 0, .basteRegion 0 52 0 0 false none, .basteRegion 0 0 3 0 false none,
    .basteRegion 0 0 0 8 false none, .dramEccWrite 0 envBad 0, .dramEccWrite 0 env0 (2 ^ 64), .moveAbs 0 envBad 0 0 0, .moveAbs 0 env0 12 0 0, .moveAbs 0 env0 0 (2 ^ 63) 0,
    .moveAbs 0 env0 0 0 (2 ^ 31), .moveRel 0 envBad 0 0 0, .moveRel 0 env0 12 0 0, .moveRel 0 env0 0 (2 ^ 63) 0, .moveRel 0 env0 0 0 (2 ^ 31), .moveVel 0 envBad 0 0,
    .moveVel 0 env0 12 0, .moveVel 0 env0 0 (2 ^ 31), .moveStop 0 envBad 0, .moveStop 0 env0 12, .moveHome 0 envBad 0 0, .moveHome 0 env0 12 0, .moveHome 0 env0 0 (2 ^ 31),
    .moveCap 0 envBad 0, .moveCap 0 env0 12, .moveUncap 0 envBad 0, .moveUncap 0 env0 12, .axisEnable 0 envBad 0, .axisEnable 0 env0 12, .axisDisable 0 envBad 0,
    .axisDisable 0 env0 12, .gearEngage 0 envBad 0, .gearEngage 0 env0 8, .gearDisengage 0 envBad 0, .gearDisengage 0 env0 8, .groupStop 0 envBad 0 0, .groupStop 0 env0 8 0] : List Instr).any Instr.wf = false := by decide +kernel

theorem test_ill_formed_5 : ([
    .groupStop 0 env0 0 (2 ^ 64), .capSeq 0 envBad 0, .capSeq 0 env0 (2 ^ 64), .setPos 0 envBad 0 0, .setPos 0 env0 12 0, .setPos 0 env0 0 (2 ^ 63),
    .groupMasterWrite 0 envBad false 0 0, .groupMasterWrite 0 env0 false (2 ^ 16) 0, .groupMasterWrite 0 env0 false 0 (2 ^ 64), .pwmBoundary 0 (2 ^ 32) [],
    .driveStatus 0 4 [] false, .driveStatusMissing 0 4, .dlLink 0 4, .homeEdge 0 12 false, .limActive 0 12, .phaseOpen 0 8, .senseReferenceTest 0 8 0 0, .sensePlausibilityFail 0 8,
    .desaturation 0 8 0, .vbusFault 0 8 false, .holdDelayExpiry 0 8, .cometReqReceived 0 2 [], .cometReqReceived 0 0 (List.replicate 561 0), .cometGoReceived 0 2 [],
    .cometGoReceived 0 0 (List.replicate 561 0), .cometReadyReceived 0 2 [], .cometReadyReceived 0 0 (List.replicate 561 0), .cometSeamDoneReceived 0 2 [],
    .cometSeamDoneReceived 0 0 (List.replicate 561 0), .cometEnlistReceived 0 2 [], .cometEnlistReceived 0 0 (List.replicate 561 0), .cometDelistReceived 0 2 [],
    .cometDelistReceived 0 0 (List.replicate 561 0), .cometStateReceived 0 2 [], .cometStateReceived 0 0 (List.replicate 561 0), .ringBlockLock 0 2, .ringLockLost 0 2,
    .helloSendTimer 0 2, .helloReceived 0 2 [], .helloReceived 0 0 (List.replicate 561 0), .helloTimeout 0 2, .syncReceived 0 2 [] 0, .syncReceived 0 0 (List.replicate 561 0) 0,
    .tackFrameReceived 0 2 [], .tackFrameReceived 0 0 (List.replicate 561 0), .abortedFrameReceived 0 2, .foldReceived 0 2 [], .foldReceived 0 0 (List.replicate 561 0),
    .joinReceived 0 2 [], .joinReceived 0 0 (List.replicate 561 0), .topoReceived 0 2 [], .topoReceived 0 0 (List.replicate 561 0), .calReq 0 envBad 0, .calReq 0 env0 (2 ^ 64),
    .calCommandReceived 0 2 [], .calCommandReceived 0 0 (List.replicate 561 0), .calReportReceived 0 2 [], .calReportReceived 0 0 (List.replicate 561 0), .ringSweepReq 0 envBad 0,
    .ringSweepReq 0 env0 (2 ^ 64), .sweepCommandReceived 0 2 [], .sweepCommandReceived 0 0 (List.replicate 561 0)] : List Instr).any Instr.wf = false := by decide +kernel

theorem test_ill_formed_6 : ([
    .sweepReportReceived 0 2 [], .sweepReportReceived 0 0 (List.replicate 561 0), .faultBlockReceived 0 2 (List.replicate 6 0), .faultBlockReceived 0 0 [],
    .fopFrameReceived 0 2 [] [] [], .fopFrameReceived 0 0 (List.replicate 561 0) [] [], .fopFrameReceived 0 0 [] (List.replicate 561 0) [],
    .fopFrameReceived 0 0 [] [] (List.replicate 561 0), .streamFrameReceived 0 2 [] [] [], .streamFrameReceived 0 0 (List.replicate 561 0) [] [],
    .streamFrameReceived 0 0 [] (List.replicate 561 0) [], .streamFrameReceived 0 0 [] [] (List.replicate 561 0), .ringConfigWrite 0 envBad 0 0, .ringConfigWrite 0 env0 0 (2 ^ 64),
    .ptpSyncReceived 0 2 0 0 0, .ptpSyncReceived 0 0 (2 ^ 8) 0 0, .mirrorColumn 0 (2 ^ 32) 0 0 0 [], .mirrorColumn 0 0 (2 ^ 32) 0 0 [], .mirrorColumn 0 0 0 (2 ^ 32) 0 [],
    .mirrorColumn 0 0 0 0 (2 ^ 32) [], .mirrorColumn 0 0 0 0 0 [2 ^ 16], .mirrorThermal 0 (2 ^ 32) 0 (List.replicate 256 0), .mirrorThermal 0 0 (2 ^ 16) (List.replicate 256 0),
    .mirrorThermal 0 0 0 [], .mirrorEphem 0 (2 ^ 32) 0 0 0 0 0 0, .mirrorEphem 0 0 (2 ^ 32) 0 0 0 0 0, .mirrorEphem 0 0 0 (2 ^ 96) 0 0 0 0, .mirrorEphem 0 0 0 0 (2 ^ 8) 0 0 0,
    .mirrorEphem 0 0 0 0 0 (2 ^ 32) 0 0, .mirrorEphem 0 0 0 0 0 0 (2 ^ 32) 0, .mirrorEphem 0 0 0 0 0 0 0 (2 ^ 32), .mirrorStream 0 (2 ^ 32) 0 0 0 0 0,
    .mirrorStream 0 0 (2 ^ 32) 0 0 0 0, .mirrorStream 0 0 0 (2 ^ 32) 0 0 0, .mirrorStream 0 0 0 0 (2 ^ 32) 0 0, .mirrorStream 0 0 0 0 0 (2 ^ 32) 0,
    .mirrorStream 0 0 0 0 0 0 (2 ^ 32), .mirrorMap 0 (2 ^ 32) 0 [], .mirrorMap 0 0 (2 ^ 32) [], .mirrorDry 0 (2 ^ 32) 0 0, .mirrorDry 0 0 (2 ^ 32) 0, .mirrorDry 0 0 0 (2 ^ 64),
    .mirrorThimble 0 (2 ^ 32) 0 (List.replicate 48 0), .mirrorThimble 0 0 64 (List.replicate 48 0), .mirrorThimble 0 0 0 [], .mirrorMeas 0 (2 ^ 32) 0 (List.replicate 24 0),
    .mirrorMeas 0 0 80 (List.replicate 24 0), .mirrorMeas 0 0 0 [], .mirrorSnap 0 (2 ^ 32) 0 0 false 0 [], .mirrorSnap 0 0 (2 ^ 32) 0 false 0 [],
    .mirrorSnap 0 0 0 (2 ^ 8) false 0 [], .mirrorSnap 0 0 0 0 false (2 ^ 32) [], .mirrorSwitch 0 (2 ^ 32) 0, .mirrorSwitch 0 0 (2 ^ 32), .mirrorAck 0 (2 ^ 32),
    .mirrorSyncReq 0 (2 ^ 32), .mirrorStandby 0 (2 ^ 32), .thimbleAckWaitTimeout 0 64, .takeoverWrite 0 envBad 0, .takeoverWrite 0 env0 (2 ^ 64), .takeRetryTimeout 0 64,
    .pairSwitch 0 envBad 0] : List Instr).any Instr.wf = false := by decide +kernel

theorem test_ill_formed_7 : ([
    .pairSwitch 0 env0 (2 ^ 64), .fopOpen 0 envBad 0 0 0, .fopOpen 0 env0 (2 ^ 8) 0 0, .fopOpen 0 env0 0 (2 ^ 16) 0, .fopOpen 0 env0 0 0 (2 ^ 128), .fopClose 0 envBad,
    .fopKeepalive 0 envBad, .fopRead 0 envBad 0 0 0 0 0 0, .fopRead 0 env0 (2 ^ 16) 0 0 0 0 0, .fopRead 0 env0 0 (2 ^ 16) 0 0 0 0, .fopRead 0 env0 0 0 (2 ^ 16) 0 0 0,
    .fopRead 0 env0 0 0 0 (2 ^ 8) 0 0, .fopRead 0 env0 0 0 0 0 8 0, .fopRead 0 env0 0 0 0 0 0 (2 ^ 32), .fopDescribe 0 envBad 0 0, .fopDescribe 0 env0 (2 ^ 16) 0,
    .fopDescribe 0 env0 0 (2 ^ 16), .objectWrite 0 envBad 0 0 0 0 0 0 0 [], .objectWrite 0 env0 (2 ^ 16) 0 0 0 0 0 0 [], .objectWrite 0 env0 0 (2 ^ 16) 0 0 0 0 0 [],
    .objectWrite 0 env0 0 0 (2 ^ 16) 0 0 0 0 [], .objectWrite 0 env0 0 0 0 (2 ^ 8) 0 0 0 [], .objectWrite 0 env0 0 0 0 0 8 0 0 [], .objectWrite 0 env0 0 0 0 0 0 (2 ^ 32) 0 [],
    .objectWrite 0 env0 0 0 0 0 0 0 (2 ^ 32) [], .txnBegin 0 envBad, .txnCommit 0 envBad, .txnAbort 0 envBad, .fopSubscribe 0 envBad 0, .fopSubscribe 0 env0 (2 ^ 64),
    .eventSend 0 17, .sessionPendingTimeout 0 17, .sessionIdleTimeout 0 17, .heldRequestTimeout 0 17, .readSnapshotTimeout 0 17, .writeSegmentTimeout 0 17, .txnLeaseLapse 0 17,
    .roleKeyWrite 0 envBad 0 (List.replicate 40 0), .roleKeyWrite 0 env0 (2 ^ 8) (List.replicate 40 0), .roleKeyWrite 0 env0 0 [], .regLookup 0 envBad 0 0,
    .regLookup 0 env0 (2 ^ 16) 0, .regLookup 0 env0 0 (2 ^ 16), .rawWindowRead 0 envBad 0 0 0 0, .rawWindowRead 0 env0 (2 ^ 32) 0 0 0, .rawWindowRead 0 env0 0 (2 ^ 16) 0 0,
    .rawWindowRead 0 env0 0 0 (2 ^ 8) 0, .rawWindowRead 0 env0 0 0 0 8, .rawWindowWrite 0 envBad 0 0 0 0 [], .rawWindowWrite 0 env0 (2 ^ 32) 0 0 0 [],
    .rawWindowWrite 0 env0 0 (2 ^ 16) 0 0 [], .rawWindowWrite 0 env0 0 0 (2 ^ 8) 0 [], .rawWindowWrite 0 env0 0 0 0 8 [], .journalSync 0 envBad 0, .journalSync 0 env0 (2 ^ 64),
    .restoreFactory 0 envBad 0, .restoreFactory 0 env0 (2 ^ 64), .modeReqConfig 0 envBad, .modeReqReady 0 envBad, .modeReqPrintWeb 0 envBad, .modeReqPrintScan 0 envBad,
    .modeReqService 0 envBad] : List Instr).any Instr.wf = false := by decide +kernel

theorem test_ill_formed_8 : ([
    .modeReqPark 0 envBad, .wakeNFall 0 (2 ^ 8) 0, .wakeNFall 0 0 (2 ^ 8), .wakeAfterExpiry 0 (2 ^ 8) 0, .wakeAfterExpiry 0 0 (2 ^ 8), .resetCmd 0 envBad 0 0 0,
    .resetCmd 0 env0 (2 ^ 64) 0 0, .resetCmd 0 env0 0 (2 ^ 8) 0, .resetCmd 0 env0 0 0 (2 ^ 8), .sourceAck 0 envBad 0 0, .sourceAck 0 env0 (2 ^ 16) 0, .sourceAck 0 env0 0 (2 ^ 64),
    .ackAll 0 envBad 0, .ackAll 0 env0 (2 ^ 64), .sourceForce 0 envBad 0 0, .sourceForce 0 env0 (2 ^ 16) 0, .sourceForce 0 env0 0 (2 ^ 64), .sourceConfigWrite 0 envBad 0 0 0,
    .sourceConfigWrite 0 env0 (2 ^ 16) 0 0, .sourceConfigWrite 0 env0 0 (2 ^ 16) 0, .sourceConfigWrite 0 env0 0 0 (2 ^ 64), .hostLockTake 0 envBad, .hostLockRelease 0 envBad,
    .faultInput 0 16, .tripCmd 0 envBad 0, .tripCmd 0 env0 (2 ^ 64), .wdogResetDelay 0 (2 ^ 8) 0, .wdogResetDelay 0 0 (2 ^ 8), .safeAutoResetExpiry 0 (2 ^ 8) 0,
    .safeAutoResetExpiry 0 0 (2 ^ 8), .hemReadbackFail 0 0 (2 ^ 16), .railGood 0 (2 ^ 8) 0, .railGood 0 0 (2 ^ 8), .railWarning 0 10, .railOff 0 10, .railOvervoltage 0 10,
    .resetNRise 0 (2 ^ 8) 0, .resetNRise 0 0 (2 ^ 8), .islandClockWindow 0 (2 ^ 8) false, .islandClockAbsent 0 (2 ^ 8), .islandClockReturn 0 (2 ^ 8), .islandResetWrite 0 envBad 0,
    .islandResetWrite 0 env0 (2 ^ 64), .islandResetDone 0 (2 ^ 8), .bistGroupEnd 0 9 [] [] [] [], .bistGroupEnd 0 0 [] [] [2 ^ 32] [], .bistGroupTimeout 0 9,
    .bistInvalidate 0 envBad 0, .bistInvalidate 0 env0 (2 ^ 64), .hostPortFrame 0 2 [], .hostPortBlockLock 0 2, .hostPortLockLost 0 2, .ptpAnnounceReceived 0 2 0 [] 0,
    .ptpAnnounceReceived 0 0 (2 ^ 8) [] 0, .limInactive 0 12, .faultInputInactive 0 16, .deferredTackLatch 0 8, .quadTransition 0 0 ⟨2, 0⟩ ⟨0, 0⟩,
    .quadTransition 0 0 ⟨0, 0⟩ ⟨0, 2⟩, .hallTransition 0 0 ⟨8, 0⟩, .hallTransition 0 0 ⟨0, 8⟩, .linkCodeErrors 0 ⟨64, []⟩] : List Instr).any Instr.wf = false := by decide +kernel

theorem test_ill_formed_9 : ([
    .linkCodeErrors 0 ⟨0, [1024]⟩, .regParityPass 0 [⟨84, false⟩], .basteRegion 0 0 0 0 false (some 72), .pwmBoundary 0 0 [⟨8, 0, 0, 0, 0, 0, false, false⟩],
    .mirrorMap 0 0 0 [(24576, 0)], .mirrorMap 0 0 0 [(0, 256)], .bistGroupEnd 0 0 [⟨0, 0, 72, 0⟩] [] [] [], .bistGroupEnd 0 0 [] [(256, 0)] [] []] : List Instr).any Instr.wf = false := by decide +kernel

/-- One operand apart, the same commands are well formed. -/
theorem test_well_formed_1 : ([
    .ftStep 0 env0 0, .channelModeWrite 0 env0 0 0, .quadTransition 0 0 ⟨0, 0⟩ ⟨0, 0⟩, .hallTransition 0 0 ⟨0, 0⟩, .ssiSample 0 0 0 false false false, .signalLoss 0 0,
    .signalReturn 0 0, .zIndex 0 0, .estZeroTimeout 0 0, .tackPeriodic 0 0, .tackNow 0 env0 0, .paceSrcWrite 0 env0 0 0, .commandedTack 0, .tackStale 0, .columnGate 0 0,
    .frameTransmit 0 0, .stageDeadlineMiss 0 0 0, .rotationWrite 0 env0 0 0 [], .phaseGroupsWrite 0 env0 0 0, .fSetWrite 0 env0 0 0, .fSetAllWrite 0 env0 0,
    .pulseValidationDone 0 0, .spitRun 0 env0 0, .spitColumnClock 0, .spitAbort 0 env0 0, .bobbinUnitStart 0 0, .bobbinUnitDone 0, .bobbinLate 0 0 0, .bobbinLoadWindow 0,
    .statsClear 0 env0 0, .bobbinTableWrite 0 env0 0 0 0 [], .modelParamWrite 0 env0 false 0 0, .modelStep 0, .portEnableSet 0 env0 0, .portDisable 0 env0 0, .portBringupStart 0,
    .hpSettleExpiry 0 0, .laneTrained 0 0, .trainTimeout 0 0, .echoReceived 0 0 0 [], .statusReceived 0 0 [], .ackTimeout 0 0, .statusTimeout 0 0, .linkCodeErrors 0 ⟨0, []⟩,
    .retrainTimeout 0 0, .timePeriodExpiry 0 0, .sbResponse 0 0 [], .sbTimeout 0 0, .sbPendingRetry 0 0, .portReset 0 env0 0 0, .tableLoad 0 env0 0 0, .measReq 0 env0 0,
    .measReqJs 0 env0 0, .measService 0 0 0, .tsrSettleDone 0 0, .tsrIntegrationDone 0 0 0, .jsConversionDone 0 [] [], .sweepReq 0 env0 0, .sweepStart 0 0 0, .sweepDwellEnd 0 0 0,
    .sweepCancel 0 env0 0, .baseline 0 env0 0, .dryClear 0 env0 0, .nozzleMapWrite 0 env0 0 [], .junctionTrip 0, .hsvSample 0 0 0, .headStopStepAdvance 0, .capTimeout 0,
    .keyLoad 0 env0 [], .keyRevoke 0 env0 0, .commitPeriodExpiry 0 0, .commitDropsReached 0 0, .commitNow 0 env0 0, .leaveCommitTimeout 0 0, .thimbleJournalTimer 0 0 false,
    .thimRetry 0 env0 0, .orphanAck 0 env0 0, .verifyReq 0 env0 0 (List.replicate 16 0), .thimOverdue 0 0, .columnAssembly 0 0 0] : List Instr).all Instr.wf = true := by decide +kernel

theorem test_well_formed_2 : ([
    .maskGeometryWrite 0 env0 0 0 0, .maskDataWrite 0 env0 0 [], .pageStart 0, .reqTailWrite 0 env0 0 0, .outTailWrite 0 env0 0 0, .doneTailWrite 0 env0 0 0,
    .decoderTakeRequest 0 0, .decoderHeaderDone 0 0 0 0, .decoderTableDone 0 0 0 0, .decodeCode 0 0 0 0, .decoderBlockEnd 0 0, .decAbort 0 env0 0 0, .presetWrite 0 env0 0 [],
    .windowDispatch 0, .streamOpen 0 env0, .streamClose 0 env0, .dataDatagram 0 0 0 0 [], .ackPeriodExpiry 0, .recordJobStart 0, .recordJobEnd 0, .recordPlaneSetup 0,
    .recordPageStart 0, .recordLineMark 0, .recordPageEnd 0, .recordBlock 0 0 0, .recordMeasure 0, .recordSpitBand 0, .recordMark 0, .measureAtCol 0, .dmaEnable 0 env0 0,
    .dmaDisable 0 env0 0, .dmaTailWrite 0 env0 0 0, .dmaGrant 0 0, .dmaBurst 0 0 0 0 0, .dmaDescriptorEnd 0 0, .dmaBusError 0 0 false, .dmaResume 0 env0 0 0, .dmaAbort 0 env0 0 0,
    .dmaPriorityWrite 0 env0 0 0, .sbOwnerWrite 0 env0 false 0 0, .bankHandoverDone 0 0, .quarantineCleared 0 0, .memDataRead 0 env0 0 0 0, .memDataWrite 0 env0 0 0 [] 0 0 0,
    .spoolBitSet 0 0 0 0 0 0, .spoolBitClear 0 0 0 0 0 0, .atomicAdd32 0 env0 0 0 0 0, .atomicAdd64 0 env0 0 0 0 0, .atomicSwap32 0 env0 0 0 0 0, .atomicSwap64 0 env0 0 0 0 0,
    .basteRegion 0 0 0 0 false none, .dramScrubDone 0, .dramRefreshChange 0 0 false, .dramEccWrite 0 env0 0, .moveAbs 0 env0 0 0 0, .moveRel 0 env0 0 0 0, .moveVel 0 env0 0 0,
    .moveStop 0 env0 0, .moveHome 0 env0 0 0, .moveCap 0 env0 0, .moveUncap 0 env0 0, .axisEnable 0 env0 0, .axisDisable 0 env0 0, .gearEngage 0 env0 0, .gearDisengage 0 env0 0,
    .groupStop 0 env0 0 0, .capSeq 0 env0 0, .setPos 0 env0 0 0, .groupMasterWrite 0 env0 false 0 0, .servoTick 0, .pwmBoundary 0 0 [], .driveStatus 0 0 [] false,
    .driveStatusMissing 0 0, .dlLink 0 0, .homeEdge 0 0 false, .limActive 0 0, .phaseOpen 0 0, .senseReferenceTest 0 0 0 0, .sensePlausibilityFail 0 0, .desaturation 0 0 0] : List Instr).all Instr.wf = true := by decide +kernel

theorem test_well_formed_3 : ([
    .vdrvUndervoltage 0, .vbusFault 0 0 false, .holdDelayExpiry 0 0, .cometReqReceived 0 0 [], .cometCollectEnd 0, .cometGoReceived 0 0 [], .cometSeamComplete 0, .cometResume 0,
    .cometReadyReceived 0 0 [], .cometSeamDoneReceived 0 0 [], .cometEnlistReceived 0 0 [], .cometDelistReceived 0 0 [], .cometStateReceived 0 0 [], .cometParticipantTimeout 0,
    .osStop 0, .ringBlockLock 0 0, .ringLockLost 0 0, .helloSendTimer 0 0, .helloReceived 0 0 [], .helloTimeout 0 0, .delayReqTimer 0, .delayReqReceived 0 [] 0,
    .delayRspReceived 0 [], .syncSendTimer 0, .syncReceived 0 0 [] 0, .syncLossTimeout 0, .ringTackTimer 0, .tackFrameReceived 0 0 [], .abortedFrameReceived 0 0,
    .fragmentTimeout 0, .foldReceived 0 0 [], .joinReceived 0 0 [], .joinRepeatTimer 0, .topoReceived 0 0 [], .topoRepeatTimer 0, .noMasterTimeout 0, .calReq 0 env0 0,
    .calCommandReceived 0 0 [], .calReportReceived 0 0 [], .calReportTimeout 0, .ringSweepReq 0 env0 0, .sweepCommandReceived 0 0 [], .sweepReportReceived 0 0 [],
    .faultBlockReceived 0 0 (List.replicate 6 0), .fopFrameReceived 0 0 [] [] [], .streamFrameReceived 0 0 [] [] [], .ringConfigWrite 0 env0 0 0, .ptpSyncReceived 0 0 0 0 0,
    .ptpAnnounceTimeout 0, .mirrorColumn 0 0 0 0 0 [], .mirrorThermal 0 0 0 (List.replicate 256 0), .mirrorEphem 0 0 0 0 0 0 0 0, .mirrorStream 0 0 0 0 0 0 0, .mirrorMap 0 0 0 [],
    .mirrorDry 0 0 0 0, .mirrorThimble 0 0 0 (List.replicate 48 0), .mirrorMeas 0 0 0 (List.replicate 24 0), .mirrorSnap 0 0 0 0 false 0 [], .mirrorSwitch 0 0 0, .mirrorAck 0 0,
    .mirrorSyncReq 0 0, .mirrorStandby 0 0, .mirrorEphemTimer 0, .mirrorStreamTimer 0, .standbyRecordTimer 0 false, .standbyRecordTimeout 0, .thimbleAckWaitTimeout 0 0,
    .pairSilenceExpiry 0, .takeoverWrite 0 env0 0, .takeRetryTimeout 0 0, .pairSwitch 0 env0 0, .fopOpen 0 env0 0 0 0, .fopClose 0 env0, .fopKeepalive 0 env0,
    .fopRead 0 env0 0 0 0 0 0 0, .fopDescribe 0 env0 0 0, .objectWrite 0 env0 0 0 0 0 0 0 0 [], .txnBegin 0 env0, .txnCommit 0 env0, .txnAbort 0 env0] : List Instr).all Instr.wf = true := by decide +kernel

theorem test_well_formed_4 : ([
    .fopSubscribe 0 env0 0, .eventSend 0 0, .sessionPendingTimeout 0 0, .sessionIdleTimeout 0 0, .heldRequestTimeout 0 0, .readSnapshotTimeout 0 0, .writeSegmentTimeout 0 0,
    .txnLeaseLapse 0 0, .roleKeyWrite 0 env0 0 (List.replicate 40 0), .regLookup 0 env0 0 0, .rawWindowRead 0 env0 0 0 0 0, .rawWindowWrite 0 env0 0 0 0 0 [],
    .journalTimer 0 false 0, .journalRetry 0 false 0, .journalSync 0 env0 0, .restoreFactory 0 env0 0, .modeReqConfig 0 env0, .modeReqReady 0 env0, .modeReqPrintWeb 0 env0,
    .modeReqPrintScan 0 env0, .modeReqService 0 env0, .modeReqPark 0 env0, .autoReadyRequest 0, .stopComplete 0, .parkStepComplete 0, .parkStepBoundExpiry 0, .wakeNFall 0 0 0,
    .wakeAfterExpiry 0 0 0, .resetCmd 0 env0 0 0 0, .sourceAck 0 env0 0 0, .ackAll 0 env0 0, .sourceForce 0 env0 0 0, .sourceConfigWrite 0 env0 0 0 0, .hostLockTake 0 env0,
    .hostLockRelease 0 env0, .hostTimeoutExpiry 0, .faultInput 0 0, .tripCmd 0 env0 0, .safetyWdogExpiry 0 false, .wdogResetDelay 0 0 0, .safeAutoResetExpiry 0 0 0,
    .hemReadbackFail 0 0 0, .hemArmCheck 0 false, .railGood 0 0 0, .railWarning 0 0, .railOff 0 0, .railOvervoltage 0 0, .mainRailTimeout 0, .resetNLow 0, .resetNRise 0 0 0,
    .startupComplete 0 0 0 false false false, .clockMonitorCheck 0 false false, .islandClockWindow 0 0 false, .islandClockAbsent 0 0, .islandClockReturn 0 0, .regParityPass 0 [],
    .referenceCompare 0 false, .islandResetWrite 0 env0 0, .islandResetDone 0 0, .bistGroupStart 0, .bistGroupEnd 0 0 [] [] [] [], .bistGroupTimeout 0 0, .bistInvalidate 0 env0 0,
    .tapInstruction 0 0 0, .hostPortFrame 0 0 [], .hostPortBlockLock 0 0, .hostPortLockLost 0 0, .ptpAnnounceReceived 0 0 0 [] 0, .limInactive 0 0, .faultInputInactive 0 0,
    .railWarningEnd 0, .deferredTackLatch 0 0, .selvedgeLockstepMismatch 0 0] : List Instr).all Instr.wf = true := by decide +kernel

/-! ### Hosts' writes -/

namespace Hosts
/-- The body of a host's write. -/
def bodyOf (tab : Instr → Option HostWrite) (mk : FopEnv → Instr) : ReqBody := match tab (mk env0) with | some w => w.body | none => .close
/-- Some request of the row is accepted. -/
def Witnessed (tab : Instr → Option HostWrite) (mk : FopEnv → Instr) (s : State) : Prop := ∃ e w, tab (mk e) = some w ∧ w.Turn s ∧ w.Accepted s

theorem witnessed_of {tab : Instr → Option HostWrite} {mk : FopEnv → Instr} {s : State} {w : HostWrite} (h1 : tab (mk (tgOf (bodyOf tab mk))) = some w)
    (h2 : w.env = tgOf (bodyOf tab mk)) (h3 : w.body = bodyOf tab mk) (h4 : TakesBut (s.core.advance w.dt) env0 = true) (h5 : w.Accepted s) : Witnessed tab mk s :=
  ⟨_, w, h1, by rw [HostWrite.Turn, h2, h3]; exact takes_tag _ _ h4, h5⟩

/-- The block in a mode. -/
def m (x : Mode) : Core → Core := fun c => { c with mode := x }
/-- An enabled axis with its parameters set. -/
def en (a : Nat) : Core → Core := fun c => (c.wr Obj.ax_AX_STATE a 0 axIdle)
/-- The parameters of an axis. -/
def axp (a : Nat) : List (Ob × Nat × Nat × Nat) :=
  [(Obj.ax_V_MAX, a, 0, 10000), (Obj.ax_A_ACC, a, 0, 20000), (Obj.ax_A_DEC, a, 0, 20000), (Obj.ax_STOP_DEC, a, 0, 30000), (Obj.ax_SAFE_DEC, a, 0, 40000)]
/-- Axis `a` ready for a move. -/
def mv (a : Nat) (l : List (Ob × Nat × Nat × Nat)) (c : Core) : Core := ob (m .ready c) (axp a ++ [(Obj.ax_AX_STATE, a, 0, 1)] ++ l)
/-- Bank 12 works and is FOP's. -/
def bank12 (c : Core) : Core := ob c [(Obj.ISLAND_STATE, 0, 0x49, 2), (Obj.SB_STATE, 0, 12, 1), (Obj.SB_OWNER, 0, 12, 1)]
/-- All that PRINT asks for: one port of one row-group, a page, a pacing source. -/
def toPrint (c : Core) : Core :=
  ob { (m .ready c) with job := { active := true }, pages := [{ page0 with started := false, mask := 255 }], pred := { acceptedAt := some 0 }, ports := [(0, { enumerated := true })] }
    [(Obj.DRAM_STATE, 0, 0, 3), (Obj.PACE_SRC, 0, 0, 9), (Obj.COMET_MODE, 0, 0, 0), (Obj.port_LINK_STATE, 0, 0, 5), (Obj.port_DIE_GEOM, 0, 0, 0x0102), (Obj.RG_MAP, 0, 0, 2 ^ 40),
     (Obj.port_PORT_FLAGS, 0, 0, 3), (Obj.E_DIE, 0, 0, 1), (Obj.EPT, 0, 0, 1), (Obj.K_THERM_MAX, 0, 0, 2), (Obj.K_THERM_MIN, 0, 0, 1), (Obj.RESUME_LA, 0, 0, 0)]

/-- The hypotheses of HostWritesOfTheHeads can be met, row by row (keyLoad: below). -/
theorem witness_HostWritesOfTheHeads :
    Witnessed writes02 (fun e => .ftStep 4 e 1000) { core := fc ses } ∧
    Witnessed writes02 (fun e => .channelModeWrite 4 e 2 1) { core := fc ses } ∧
    Witnessed writes02 (fun e => .tackNow 4 e 1) { core := fc ses } ∧
    Witnessed writes02 (fun e => .paceSrcWrite 4 e 1 3) { core := fc ses } ∧
    Witnessed writes02 (fun e => .rotationWrite 4 e 1 0 ((List.range 16).reverse)) { core := fc ses } ∧
    Witnessed writes02 (fun e => .phaseGroupsWrite 4 e 1 2) { core := fc ses } ∧
    Witnessed writes02 (fun e => .fSetWrite 4 e 1 50000) { core := fc ses } ∧
    Witnessed writes02 (fun e => .fSetAllWrite 4 e 50000) { core := fc ses } ∧
    Witnessed writes02 (fun e => .spitRun 4 e 1) { core := ((fun c => (m .service c).wr Obj.spat_COLUMNS 0 0 10)) (fc ses) } ∧
    Witnessed writes02 (fun e => .spitAbort 4 e 1) { core := fc ses } ∧
    Witnessed writes02 (fun e => .statsClear 4 e 1) { core := fc ses } ∧
    Witnessed writes02 (fun e => .bobbinTableWrite 4 e 0 0 7 [0x4000,0x4001,0x4002]) { core := fc ses } ∧
    Witnessed writes02 (fun e => .modelParamWrite 4 e true 3 500) { core := fc ses } ∧
    Witnessed writes02 (fun e => .portEnableSet 4 e 3) { core := fc ses } ∧
    Witnessed writes02 (fun e => .portDisable 4 e 3) { core := fc ses } ∧
    Witnessed writes02 (fun e => .portReset 4 e 3 1) { core := ((fun c => c.wr Obj.port_LINK_STATE 3 0 lkFault)) (fc ses) } ∧
    Witnessed writes02 (fun e => .tableLoad 4 e 3 1) { core := fc ses } ∧
    Witnessed writes02 (fun e => .measReq 4 e 3) { core := (m .ready) (fc ses) } ∧
    Witnessed writes02 (fun e => .measReqJs 4 e 3) { core := (m .ready) (fc ses) } ∧
    Witnessed writes02 (fun e => .sweepReq 4 e 3) { core := (m .ready) (fc ses) } ∧
    Witnessed writes02 (fun e => .sweepCancel 4 e 1) { core := ((fun c => c.wr0 Obj.SWEEP_PENDING 6)) (fc ses) } ∧
    Witnessed writes02 (fun e => .baseline 4 e 3) { core := (m .ready) (fc ses) } ∧
    Witnessed writes02 (fun e => .dryClear 4 e 3) { core := fc ses } ∧
    Witnessed writes02 (fun e => .nozzleMapWrite 4 e 30 [1,2]) { core := fc ses } ∧
    Witnessed writes02 (fun e => .keyRevoke 4 e 3) { core := ((fun c => c.wr Obj.KEY_SLOT 0 3 1)) (fc ses) } ∧
    Witnessed writes02 (fun e => .commitNow 4 e 3) { core := fc ses } ∧
    Witnessed writes02 (fun e => .thimRetry 4 e 3) { core := fc ses } ∧
    Witnessed writes02 (fun e => .orphanAck 4 e 3) { core := fc ses } ∧
    Witnessed writes02 (fun e => .verifyReq 4 e 3 (List.replicate 16 7)) { core := (fun c => ob { c with ports := [(3, { thim := { authed := true } })] } [(Obj.port_LINK_STATE, 3, 0, lkReady)]) (fc ses) } := by
  and_intros <;> exact witnessed_of rfl rfl (by decide +kernel) (by decide +kernel) (by decide +kernel)

/-- The hypotheses of HostWritesOfRasterAndMotion can be met, row by row. -/
theorem witness_HostWritesOfRasterAndMotion :
    Witnessed writes08 (fun e => .maskGeometryWrite 4 e 0 2 16) { core := fc ses } ∧
    Witnessed writes08 (fun e => .maskDataWrite 4 e 2 (List.replicate 16 255)) { core := ((fun c => ((c.wr Obj.ms_PW 2 0 8).wr Obj.ms_PH 2 0 8).wr Obj.ms_PASSES 2 0 2)) (fc ses) } ∧
    Witnessed writes08 (fun e => .reqTailWrite 4 e 2 2) { core := fc ses } ∧
    Witnessed writes08 (fun e => .outTailWrite 4 e 2 2) { core := fc ses } ∧
    Witnessed writes08 (fun e => .doneTailWrite 4 e 2 2) { core := (fun c => ob c [(Obj.dec_DONE_HEAD, 2, 0, 5)]) (fc ses) } ∧
    Witnessed writes08 (fun e => .decAbort 4 e 2 1) { core := ((fun c => c.wr Obj.dec_DEC_STATE 2 0 2)) (fc ses) } ∧
    Witnessed writes08 (fun e => .presetWrite 4 e 2 [1, 0, 0, 0, 65, 0, 66, 0]) { core := fc ses } ∧
    Witnessed writes08 (fun e => .streamOpen 4 e) { core := (fun c => ob c [(Obj.DRAM_SIZE, 0, 0, 2 ^ 33)]) (fc ses) } ∧
    Witnessed writes08 (fun e => .streamClose 4 e) { core := (m .ready) (fc ses) } ∧
    Witnessed writes08 (fun e => .dmaEnable 4 e 17) { core := fc ses } ∧
    Witnessed writes08 (fun e => .dmaDisable 4 e 17) { core := ((fun c => c.setCh 17 chIdle)) (fc ses) } ∧
    Witnessed writes08 (fun e => .dmaTailWrite 4 e 17 2) { core := ((fun c => c.setCh 17 chIdle)) (fc ses) } ∧
    Witnessed writes08 (fun e => .dmaResume 4 e 17 1) { core := ((fun c => c.setCh 17 chHalted)) (fc ses) } ∧
    Witnessed writes08 (fun e => .dmaAbort 4 e 17 1) { core := ((fun c => c.setCh 17 chHalted)) (fc ses) } ∧
    Witnessed writes08 (fun e => .dmaPriorityWrite 4 e 17 1) { core := fc ses } ∧
    Witnessed writes08 (fun e => .sbOwnerWrite 4 e false 30 1) { core := fc ses } ∧
    Witnessed writes08 (fun e => .atomicAdd32 4 e (spoolBase + 12 * 0x80000) 5 0 0) { core := bank12 (fc ses) } ∧
    Witnessed writes08 (fun e => .atomicAdd64 4 e (spoolBase + 12 * 0x80000) 5 0 0) { core := bank12 (fc ses) } ∧
    Witnessed writes08 (fun e => .atomicSwap32 4 e (spoolBase + 12 * 0x80000) 5 0 0) { core := bank12 (fc ses) } ∧
    Witnessed writes08 (fun e => .atomicSwap64 4 e (spoolBase + 12 * 0x80000) 5 0 0) { core := bank12 (fc ses) } ∧
    Witnessed writes08 (fun e => .dramEccWrite 4 e 0) { core := fc ses } ∧
    Witnessed writes08 (fun e => .moveAbs 4 e 1 1000 500) { core := (mv 1 []) (fc ses) } ∧
    Witnessed writes08 (fun e => .moveRel 4 e 1 1000 500) { core := (mv 1 []) (fc ses) } ∧
    Witnessed writes08 (fun e => .moveVel 4 e 1 500) { core := (mv 1 []) (fc ses) } ∧
    Witnessed writes08 (fun e => .moveStop 4 e 1) { core := (mv 1 []) (fc ses) } ∧
    Witnessed writes08 (fun e => .moveHome 4 e 5 500) { core := (mv 5 [(Obj.ax_HOME_MODE, 5, 0, 1)]) (fc ses) } ∧
    Witnessed writes08 (fun e => .moveCap 4 e 1) { core := (mv 1 [(Obj.ax_ROLE, 1, 0, 4)]) (fc ses) } ∧
    Witnessed writes08 (fun e => .moveUncap 4 e 1) { core := (mv 1 [(Obj.ax_ROLE, 1, 0, 4)]) (fc ses) } ∧
    Witnessed writes08 (fun e => .axisEnable 4 e 1) { core := (fun c => ob (m .ready c) (axp 1)) (fc ses) } ∧
    Witnessed writes08 (fun e => .axisDisable 4 e 1) { core := ((fun c => en 1 (m .ready c))) (fc ses) } ∧
    Witnessed writes08 (fun e => .gearEngage 4 e 1) { core := ((fun c => ((c.wr Obj.grp_MASTER 1 0 1).wr Obj.ax_GROUP 1 0 1).wr Obj.ax_AX_STATE 1 0 axIdle)) (fc ses) } ∧
    Witnessed writes08 (fun e => .gearDisengage 4 e 1) { core := fc ses } ∧
    Witnessed writes08 (fun e => .groupStop 4 e 1 1) { core := fc ses } ∧
    Witnessed writes08 (fun e => .capSeq 4 e 1) { core := fc ses } ∧
    Witnessed writes08 (fun e => .setPos 4 e 1 (-500)) { core := ((fun c => en 1 (m .ready c))) (fc ses) } ∧
    Witnessed writes08 (fun e => .groupMasterWrite 4 e true 1 3) { core := ((fun c => c.wr Obj.ax_GROUP 3 0 1)) (fc ses) } := by
  and_intros <;> exact witnessed_of rfl rfl (by decide +kernel) (by decide +kernel) (by decide +kernel)

/-- The hypotheses of HostWritesOfTheDevice can be met, row by row (roleKeyWrite: below). -/
theorem witness_HostWritesOfTheDevice :
    Witnessed writes13 (fun e => .calReq 4 e 1) { core := (fun c => ob c [(Obj.RING_ROLE, 0, 0, 1), (Obj.NODE_ID, 0, 0, 1), (Obj.MASTER_ID, 0, 0, 1)]) (fc ses) } ∧
    Witnessed writes13 (fun e => .ringSweepReq 4 e 3) { core := (fun c => ob c [(Obj.RING_ROLE, 0, 0, 1), (Obj.NODE_ID, 0, 0, 1), (Obj.MASTER_ID, 0, 0, 1)]) (fc ses) } ∧
    Witnessed writes13 (fun e => .ringConfigWrite 4 e 0 3) { core := fc ses } ∧
    Witnessed writes13 (fun e => .takeoverWrite 4 e 1) { core := ((fun c => (((m .printWeb c).wr0 Obj.PAIR_STATE 2).wr0 Obj.PAIR_ROLE 2))) (fc ses) } ∧
    Witnessed writes13 (fun e => .pairSwitch 4 e 1) { core := ((fun c => (c.wr0 Obj.PAIR_STATE 1).wr0 Obj.PARTNER_READY 0)) (fc ses) } ∧
    Witnessed writes13 (fun e => .regLookup 4 e 0x2000 1) { core := fc ses } ∧
    Witnessed writes13 (fun e => .journalSync 4 e 1) { core := fc ses } ∧
    Witnessed writes13 (fun e => .restoreFactory 4 e 7) { core := fc ses } ∧
    Witnessed writes13 (fun e => .modeReqConfig 4 e) { core := (m .ready) (fc ses) } ∧
    Witnessed writes13 (fun e => .modeReqReady 4 e) { core := fc ses } ∧
    Witnessed writes13 (fun e => .modeReqPrintWeb 4 e) { core := toPrint (fc ses) } ∧
    Witnessed writes13 (fun e => .modeReqPrintScan 4 e) { core := toPrint (fc ses) } ∧
    Witnessed writes13 (fun e => .modeReqService 4 e) { core := (m .ready) (fc ses) } ∧
    Witnessed writes13 (fun e => .modeReqPark 4 e) { core := (m .ready) (fc ses) } ∧
    Witnessed writes13 (fun e => .resetCmd 4 e 1 0 0) { core := (m .safe) (fc ses) } ∧
    Witnessed writes13 (fun e => .sourceAck 4 e 700 1) { core := ((fun c => { c with src := [(700, { raised := true, eff := 1 })] })) (fc ses) } ∧
    Witnessed writes13 (fun e => .ackAll 4 e 1) { core := ((fun c => { c with src := [(700, { raised := true, eff := 1 })] })) (fc ses) } ∧
    Witnessed writes13 (fun e => .sourceForce 4 e 617 1) { core := fc ses } ∧
    Witnessed writes13 (fun e => .sourceConfigWrite 4 e 617 3 1) { core := fc ses } ∧
    Witnessed writes13 (fun e => .hostLockTake 4 e) { core := fc ses } ∧
    Witnessed writes13 (fun e => .hostLockRelease 4 e) { core := ((fun c => c.wr0 Obj.HOST_LOCK_OWNER 1)) (fc ses) } ∧
    Witnessed writes13 (fun e => .tripCmd 4 e 1) { core := (m .ready) (fc ses) } ∧
    Witnessed writes13 (fun e => .islandResetWrite 4 e 0x48) { core := fc ses } ∧
    Witnessed writes13 (fun e => .bistInvalidate 4 e 1) { core := fc ses } := by
  and_intros <;> exact witnessed_of rfl rfl (by decide +kernel) (by decide +kernel) (by decide +kernel)

/-- A write of one element that passes the one check given and the rest, all decidable. -/
theorem accepted_of {w : HostWrite} {s : State} {v : Nat} (hv : w.vals = [v])
    (hc : (ruleOf w.ob).chk (w.caller s) (w.before s) (w.stored s) w.inst (w.elem + 0) v = 0)
    (h : (w.before s).mode ≠ .safe ∧ (∀ p ∈ (w.before s).sess, p.2.txn = none) ∧ w.ob.nel = 1
      ∧ (if w.ob.size = 0 then w.vals = [packBytes w.data] ∧ w.data.length ≤ w.ob.max else w.data = w.vals.flatMap (leBytes w.ob.size))
      ∧ objectAt (w.ob.idx + w.ob.stride * w.inst) (w.ob.sub + (w.elem + 0)) = some (w.ob, w.inst, w.elem + 0) ∧ (w.before s).absentElem w.ob (w.elem + 0) = false
      ∧ w.ob.acc ≠ .ro ∧ w.ob.acc ≠ .konst ∧ 1 ≤ (w.caller s).role ∧ (w.before s).needRole w.ob w.inst v ≤ (w.caller s).role
      ∧ (w.ob.size = 0 ∨ v < 256 ^ w.ob.size) ∧ w.ob.inDom v = true ∧ (w.before s).loses w.ob w.inst (w.elem + 0) v = false) : w.Accepted s := by
  obtain ⟨h1, h2, h3, h4, h5, h6, h7, h8, h9, h10, h11, h12, h13⟩ := h
  have e : ∀ k < w.vals.length, k = 0 := by simp [hv]
  refine ⟨.inl h1, h2, by simp [hv], by simp [hv], .inl (by simp [hv]), h3, h4, ?_, ?_, h7, h8, h9, by simpa [hv] using h10, by simpa [hv] using h11, by simpa [hv] using h12, ?_, ?_⟩
    <;> intro k hk <;> rw [e k hk]
  · exact h5
  · exact h6
  · rw [hv]; exact hc
  · rw [hv]; exact h13

/-- The KEY_LOAD row, for a device whose transport key unwraps forty zeros: DTK is a constant of the device without a value in the model (log entry 5). -/
theorem witness_keyLoad (k : List Byte) (h : Crypto.kwUnwrap Config.dtk (List.replicate 40 0) = some k) :
    Witnessed writes02 (fun e => .keyLoad 4 e ([1, 0, 0, 0, 0, 0, 5, 0] ++ List.replicate 40 0)) { core := fc ses } := by
  have e1 : (leBytes 48 (ofLe ([1, 0, 0, 0, 0, 0, 5, 0] ++ List.replicate 40 0))).drop 8 = List.replicate 40 0 := by decide +kernel
  have hc : ∀ (c : Caller) (s t : Core) (i j : Nat), stateIf (decide (s.mode ≠ .config) || decide (s.slotState 1 ≠ 0) || (s.slotOf 5).isSome) = 0 →
      (ruleOf Obj.KEY_LOAD).chk c s t i j (ofLe ([1, 0, 0, 0, 0, 0, 5, 0] ++ List.replicate 40 0)) = 0 := by
    intro c s t i j hs
    rw [show (ruleOf Obj.KEY_LOAD).chk = fun _ => chkKeyLoad from rfl]
    show worse (stateIf (_ || (_ && _) || _ || _)) (valueIf (_ || _ || (Crypto.kwUnwrap Config.dtk ((leBytes 48 _).drop 8)).isNone)) = 0
    rw [e1, h, show leAt (leBytes 48 (ofLe ([1, 0, 0, 0, 0, 0, 5, 0] ++ List.replicate 40 0))) 0 1 = 1 by decide +kernel,
      show leAt (leBytes 48 (ofLe ([1, 0, 0, 0, 0, 0, 5, 0] ++ List.replicate 40 0))) 6 2 = 5 by decide +kernel,
      show leAt (leBytes 48 (ofLe ([1, 0, 0, 0, 0, 0, 5, 0] ++ List.replicate 40 0))) 1 5 = 0 by decide +kernel]
    simp at hs ⊢
    rw [hs]; rfl
  refine witnessed_of rfl rfl (by decide +kernel) (by decide +kernel) ?_
  refine accepted_of rfl (hc _ _ _ _ _ (by decide +kernel)) (by decide +kernel)

/-- The ROLE_KEY row, likewise. -/
theorem witness_roleKeyWrite (k : List Byte) (h : Crypto.kwUnwrap Config.dtk (List.replicate 40 0) = some k) :
    Witnessed writes13 (fun e => .roleKeyWrite 4 e 1 (List.replicate 40 0)) { core := fc ses } := by
  have e1 : leBytes 40 (ofLe (List.replicate 40 0)) = List.replicate 40 0 := by decide +kernel
  have hc : ∀ (c : Caller) (s t : Core) (i j : Nat), stateIf (decide (s.mode ≠ .config)) = 0 → (ruleOf Obj.ROLE_KEY).chk c s t i j (ofLe (List.replicate 40 0)) = 0 := by
    intro c s t i j hs
    rw [show (ruleOf Obj.ROLE_KEY).chk = fun _ => chkRoleKey from rfl]
    show worse (stateIf (decide (s.mode ≠ .config))) (valueIf (Crypto.kwUnwrap Config.dtk (leBytes 40 _)).isNone) = 0
    rw [e1, h, hs]; rfl
  refine witnessed_of rfl rfl (by decide +kernel) (by decide +kernel) ?_
  refine accepted_of rfl (hc _ _ _ _ _ (by decide +kernel)) (by decide +kernel)

end Hosts

/-! ### Statements about every state -/

/-- A state that waits for a command, and one that does not. -/
theorem witness_StepRunsTheFrontCommand : (st base).pending = [] ∧ (.tackStale 0 :: (st base).pending) ≠ [] := by decide +kernel

/-- A sound state and its next. -/
theorem witness_StepsKeepMemoryCanonical : State.reset.Sound ∧ step State.reset = .next State.reset := ⟨by decide +kernel, rfl⟩

/-! ### Worked examples of the spec

Each expected value is the spec's own, from the example of the chapter named. -/

/-- The Tack of chapter 2: bytes of its record. -/
theorem test_tack_bytes :
    Tack.bytes ⟨10000 * 2 ^ 24, 5000000000 * 65536, 9, 0xEA6000, 100000, 0x2005, 0⟩ =
      [0, 0, 0, 0x10, 0x27, 0, 0, 0, 0, 0xF2, 0x05, 0x2A, 1, 0, 0, 0, 0, 0, 9, 0, 0, 0x60, 0xEA, 0, 0xA0, 0x86, 1, 0, 5, 0x20, 0, 0] := by decide +kernel

/-- Chapter 2, steady speed: 11 and 12 pixel pitches at 60,000 px/s take 183,333.333 ns (fraction 0x5555) and exactly the horizon. -/
theorem test_solve_steady :
    solveLand 11 60000 0 (1 / 5000) = some (183333 * 65536 + 0x5555) ∧ solveLand 12 60000 0 (1 / 5000) = some (200000 * 65536) := by decide +kernel

/-- Chapter 2, decelerating: 166,694.45 ns by step 1, 200,040.02 ns by step 2, to 0.005 ns. -/
theorem test_solve_decelerating :
    (solveLand 5 30000 (-60000) (1 / 5000)).any (fun q => decide ((q * 100 - 16669445 * 65536).natAbs ≤ 65536 / 2)) = true ∧
    (solveLand 6 30000 (-60000) (1 / 5000)).any (fun q => decide ((q * 100 - 20004002 * 65536).natAbs ≤ 65536 / 2)) = true := by decide +kernel

/-- Table 3-3: P1, Td, P2 and the adjustments of its five entries at both spans. -/
theorem test_pulse_validation :
    ([(4, 40, 30), (16, 32, 60), (20, 10, 60), (30, 24, 70), (0, 0, 150)] : List (Nat × Nat × Nat)).map (fun w => pulseEff (w.1 + w.2.1 * 2 ^ 16 + w.2.2 * 2 ^ 32) 114) =
      [((0, 0, 40), 5), ((16, 32, 60), 0), ((0, 0, 80), 2), ((0, 0, 100), 24), ((0, 0, 114), 32)] ∧
    ([(30, 24, 70), (0, 0, 150)] : List (Nat × Nat × Nat)).map (fun w => pulseEff (w.1 + w.2.1 * 2 ^ 16 + w.2.2 * 2 ^ 32) 504) =
      [((30, 24, 70), 0), ((0, 0, 150), 0)] := by decide +kernel

/-- Chapter 5: the TIME frame whose type symbol leaves at 1,000,000,040 ns over a delay of 15.5 ns. -/
theorem test_time_frame :
    (timeFrame 0 (tickQ8 (1000000040 * 65536 + 31 * 32768))).take 12 = [3, 0, 0, 0, 0x16, 0x84, 0xD7, 0x17, 0, 0x33, 0, 0] := by decide +kernel

/-- Chapter 5: the header of HP05's frame for column 500. -/
theorem test_column_header :
    (({ ob base [(Obj.port_CFG_ID, 5, 0, 7), (Obj.port_DIE_GEOM, 5, 0, 0x0F40)] with ports := [(5, { enumerated := true })] } : Core).columnFrame 5
        { col := 500, nslot := 520, nspan := 114, ticks := [2000033333, 2000040000, 2000033333, 2000040000] }).take 32 =
      [1, 0xF0, 0xF4, 1, 0, 0, 8, 2, 0x72, 0, 7, 0, 0x35, 0x16, 0x36, 0x77, 0, 0x40, 0x30, 0x36, 0x77, 0, 0x35, 0x16, 0x36, 0x77, 0, 0x40, 0x30, 0x36, 0x77, 0] := by decide +kernel

/-- Chapter 5: index 31 in slot 5 of a primitive's field. -/
theorem test_index_field :
    ((leBytes 12 (indexField [(325, 31)] 320 0 [0, 1, 2, 3, 4, 5, 6, 7])).drop 3).take 2 = [0xC0, 7] := by decide +kernel

/-- Chapter 6: 1,066.69 ohms on a sensor of 1,000 is 10,778. -/
theorem test_temperature : tempOf 0x042AB0A4 65536000 8375186 = 10778 := by decide +kernel

/-- Chapter 7: the request payload of the worked commit. -/
theorem test_commit_payload :
    countBytes (612000000000 + 1234567890 / 64) 30001 = [0x0B, 0x40, 0x31, 0x7F, 0x8E, 0, 0, 0, 0x31, 0x75, 0, 0] := by decide +kernel

/-- The CRC-16 of chapter 2 and the CRC-32C of chapter 9 over "123456789"; code 268 read when N is 274 is symbol 261 with two extra bits 0, 1; code 266 read when N is 266 is symbol 258; in Table 9-9 that code
stands for 08 08. -/
theorem test_avone :
    Crypto.crc16 0x1021 [0x31, 0x32, 0x33, 0x34, 0x35, 0x36, 0x37, 0x38, 0x39] 0xFFFF = 0x29B1 ∧ Crypto.crc32c [0x31, 0x32, 0x33, 0x34, 0x35, 0x36, 0x37, 0x38, 0x39] = 0xE3069283 ∧
    (let x (k n : Nat) : Decoder := { hdr := [0x41, 0x56, 1, 8], n := n, lens := List.replicate k 0 ++ [1] }
     (x 261 274).readCode (fun i => decide (i = 2)) 40 = .code 268 3 ∧ (x 258 266).readCode (fun _ => false) 40 = .code 266 1) ∧
    ({ n := 266, prev := some [8] } : Decoder).accept 266 = some [8, 8] := by decide +kernel

/-- Chapter 10: the COPY whose strides differ ends with OVERLAP; with equal strides it runs from the last row down and from the top byte down. -/
theorem test_dma_overlap :
    let d (stride : Nat) : Nat := 0x10000000 + 0x10000200 * 2 ^ 64 + 1024 * 2 ^ 128 + 4 * 2 ^ 160 + 1 * 2 ^ 176 + 4096 * 2 ^ 192 + stride * 2 ^ 224
    descStatus (d 4096) = 0 ∧ copyOrder (d 4096) = (true, true) ∧ descStatus (d 2048) = 3 := by decide +kernel

/-- Chapter 11: the word at offset 0x100 of SB30, and its set and clear aliases. -/
theorem test_spool_aliases :
    bankSpan 30 = (0x1000F00000, 0x80000) ∧ base.locate 0x1000F00100 = (.plain, 0x1000F00100) ∧ base.locate 0x1004F00100 = (.bitSet, 0x1000F00100) ∧
    base.locate 0x1008F00100 = (.bitClear, 0x1000F00100) := by decide +kernel

/-- Chapter 12: the stop of the label web takes 768,000 microsteps. -/
theorem test_stop_distance : segsDist 1280000 (velRamp 1280000 0 0 1280000 6400000) = 768000 := by decide +kernel

/-- Chapter 14: the servo's trim for an offset of +3.5 ns is -7,986. -/
theorem test_ring_servo : ((ob base [(Obj.SYNC_PERIOD, 0, 0, 125000)]).servo (7 / 2)).rdI Obj.FT_TRIM 0 0 = -7986 := by decide +kernel

/-- Chapter 19: the bytes of the ESCALATE entry. -/
theorem test_log_entry :
    LogEntry.bytes ⟨6001315000, 0, 0x03D5, 3, 2, 0xFE, 4, 0, 0x0412, 1, 0⟩ =
      [0xB8, 0xCC, 0xB4, 0x65, 1, 0, 0, 0, 0, 0, 0xD5, 3, 3, 2, 0xFE, 4, 0, 0, 0, 0, 0x12, 4, 0, 0, 1, 0, 0, 0, 0, 0, 0, 0] := by decide +kernel

/-- What State.reset holds is what a power-on leaves (R490). -/
theorem test_reset_is_power_on : (({ phase := .steady, causes := 2 } : Core).railGood [] 0 0) = (State.reset.core, []) := by decide +kernel

/-- The first command of the queue runs and leaves it; an empty queue idles. -/
theorem test_step :
    (match step { core := base, pending := [.tackStale 6, .modelStep 0] } with | .next t => decide (t.pending = [.modelStep 0] ∧ t.core.clk = 6) | _ => false) = true := by decide +kernel

/-- Chapter 4: the energy chain of HP05.P20.A10 in column 500 (nozzle 0x154A, history 0x05, NBR code 1, T_EST 41.5) ends at 393,201. -/
theorem test_energy_chain :
    let c : Core := ob { base with ports := [(5, { enumerated := true })] }
      [(Obj.port_DIE_GEOM, 5, 0, 0x0F40 + 2 ^ 104), (Obj.E_DIE, 0, 5, 394240), (Obj.K_ROW, 1, 5, 0x4000), (Obj.K_CAL, 0, 0x154A, 0x423D), (Obj.THERM_COEF, 0, 5, 0xFF7D),
       (Obj.T_REF, 0, 5, 0x2300), (Obj.K_THERM_MIN, 0, 5, 0x2000), (Obj.K_THERM_MAX, 0, 5, 0x6000), (Obj.HIST, 5, 5, 0x3E14), (Obj.NBR, 5, 1, 0x4148), (Obj.T_EST, 0, 5, 10624)]
    let fired (k : Nat) : Col := { col := k, idx := [(0x1549, 31), (0x154A, 31)], unitsDone := 1 }
    let rest (k : Nat) : Col := { col := k, unitsDone := 1 }
    let l : List Col := [fired 499, rest 498, fired 497, rest 496, rest 495, rest 494, rest 493, rest 492]
    histBits l 0x154A = 5 ∧ c.nbrCode 5 l 0x154A = 1 ∧ c.kThermOf 5 { col := 500 } = 15958 ∧ c.energyOf 5 { col := 500 } l (c.kThermOf 5 { col := 500 }) 0x154A = 393201 := by decide +kernel

end Sys2Proof.Tests
end

/-! ### Proofs: the life of a column (ch. 3) -/

namespace Sys2Proof.Proofs.Fire
open Sys2Proof Sys2Proof.Machine

/-! #### What the commands of fire sequencing answer -/

/-- A command whose meaning is one on the core leaves the core so changed, and nothing else. -/
theorem does_of_onCore {i : Instr} {s : State} (f : Core → Core) (h : exec i s = onCore f s) : Does i s (f s.core) :=
  h.trans (Laws.onCore_next f s)

section Answers
variable (s : State) (dt p j : Nat)

theorem does_columnGate : Does (.columnGate dt p) s ((s.core.advance dt).columnGate p) :=
  does_of_onCore (fun c => (c.advance dt).columnGate p) rfl

theorem does_frameTransmit : Does (.frameTransmit dt p) s ((s.core.advance dt).frameTransmit p) :=
  does_of_onCore (fun c => (c.advance dt).frameTransmit p) rfl

theorem does_stageDeadlineMiss : Does (.stageDeadlineMiss dt p j) s ((s.core.advance dt).stageMiss p j) :=
  does_of_onCore (fun c => (c.advance dt).stageMiss p j) rfl

theorem does_spitColumnClock : Does (.spitColumnClock dt) s (s.core.advance dt).spitClock :=
  does_of_onCore (fun c => (c.advance dt).spitClock) rfl

theorem does_osStop : Does (.osStop dt) s (s.core.advance dt).osStop :=
  does_of_onCore (fun c => (c.advance dt).osStop) rfl

theorem does_pulseValidationDone_of_due (h : (s.core.advance dt).due .validation p = true) :
    Does (.pulseValidationDone dt p) s ((s.core.advance dt).validated p) := by
  have answer : Does (.pulseValidationDone dt p) s
      ((s.core.advance dt).when ((s.core.advance dt).due .validation p) (fun t => t.validated p)) :=
    does_of_onCore (fun c => (c.advance dt).when ((c.advance dt).due .validation p) (fun t => t.validated p)) rfl
  rwa [Core.when, if_pos h] at answer

end Answers

section Meanings
variable {c : Core} {p j : Nat}

/-! #### The gate (R79) -/

/-- The next column of a page that prints stands at its gate on an active port, below the seam, and the feed does not hold it back. -/
structure GateOpen (c : Core) (p : Nat) (pg : Page) (g : Int) : Prop where
  noSpit : c.spit = none
  inPrint : c.inPrint = true
  active : c.activePort p = true
  page : c.pageOf (c.gateCol p) = some pg
  gate : c.gateAt p (c.gateCol p) = some g
  below : c.belowSeam (c.gateCol p) = true
  reached : g ≤ (c.ftQ : Int)
  still : c.mode = .printScan → c.feedMoving = false

/-- At an open gate, only the pacing signal and the solve of the start instants decide what happens. -/
theorem columnGate_of_open {pg : Page} {g : Int} (hp : p < 64) (h : GateOpen c p pg g) :
    c.columnGate p =
      if c.pacingLost then (c.updPort p (fun x => { x with gateNext := c.gateCol p + 1 })).loseCol p (c.gateCol p)
      else match c.solveTicks pg (pg.own c) p (c.gateCol p - pg.base) with
        | some ticks => c.gateSolved p (c.gateCol p) pg ticks
        | none => c := by
  have hfeed : ¬ (c.mode = .printScan ∧ c.feedMoving = true) := fun ⟨hm, hf⟩ => by simp [h.still hm] at hf
  have hopen : ¬ ((!c.belowSeam (c.gateCol p)) = true ∨ (c.ftQ : Int) < g ∨ (c.mode = .printScan ∧ c.feedMoving = true)) := by
    simp only [h.below, Int.not_lt.mpr h.reached, hfeed]; decide
  unfold Core.columnGate
  rw [if_neg (by simp [h.noSpit]), if_pos ⟨hp, h.inPrint, h.active⟩]
  simp only [h.page, h.gate]
  exact if_neg hopen

/-- A column at its gate while the pacing channel has lost its signal is lost on the port (R32). -/
theorem columnGate_of_pacingLost {pg : Page} {g : Int} (hp : p < 64) (h : GateOpen c p pg g) (hl : c.pacingLost = true) :
    c.columnGate p = (c.updPort p (fun x => { x with gateNext := c.gateCol p + 1 })).loseCol p (c.gateCol p) := by
  rw [columnGate_of_open hp h, if_pos hl]

/-- A column at its gate whose start instants are solved is decided on. -/
theorem columnGate_of_solved {pg : Page} {g : Int} {ticks : List Nat} (hp : p < 64) (h : GateOpen c p pg g) (hl : c.pacingLost = false)
    (ht : c.solveTicks pg (pg.own c) p (c.gateCol p - pg.base) = some ticks) :
    c.columnGate p = c.gateSolved p (c.gateCol p) pg ticks := by
  rw [columnGate_of_open hp h, if_neg (by simp [hl]), ht]

/-- While a spit run is on, its next column is fixed at its gate with the run's own start instants (R117). -/
theorem columnGate_of_spit {r : Col} {g : Int} (hp : p < 64) (hs : c.spit.isSome = true) (hl : c.link p = lkReady)
    (hr : (c.port p).cols.find? (fun r => r.run && !r.gated && !r.settled) = some r) (hg : c.gateAt p r.col = some g) (hq : g ≤ (c.ftQ : Int)) :
    c.columnGate p = c.fixCol p r.col r.ticks := by
  have hready : ¬ ((c.ftQ : Int) < g ∨ c.link p ≠ lkReady) := not_or.mpr ⟨Int.not_lt.mpr hq, not_not_intro hl⟩
  unfold Core.columnGate
  rw [if_pos ⟨hp, hs⟩]
  unfold Core.runGate
  simp only [hr, hg]
  exact if_neg hready

/-! #### Transmission (R80) -/

/-- The next frame of a port may leave: printing or spitting on a READY link, room in the die (R17), nothing awaited, and below the seam unless of a run. -/
structure FrameReady (c : Core) (p : Nat) (r : Col) : Prop where
  link : c.link p = lkReady
  going : c.inPrint = true ∨ c.spit.isSome = true
  next : c.nextFrame p = some r
  room : (c.port p).roomFor r.col = true
  noAck : c.armed .ackWait p = false
  noConfig : (c.port p).cfgWait = false
  below : r.run = true ∨ c.belowSeam r.col = true

/-- A frame that may leave is sent, and its column settles, if it can still arrive in time; else its column is lost. -/
theorem frameTransmit_of_ready {r : Col} (hp : p < 64) (h : FrameReady c p r) :
    c.frameTransmit p =
      if !c.inTime p r then c.loseCol p r.col
      else
        let t := c.sendColumn p r
        let u := { t with colTop := max t.colTop (r.col + 1) }
        if r.run then u.setCol p { t.colOf p r.col with sent := true, settled := true } else u.settleSent p (t.colOf p r.col) := by
  have hseam : ¬ ((!r.run) = true ∧ (!c.belowSeam r.col) = true) := fun ⟨hr, hb⟩ => by
    obtain hrun | hbelow := h.below
    · simp [hrun] at hr
    · simp [hbelow] at hb
  have hgo : ¬ ((!(c.port p).roomFor r.col) = true ∨ c.armed .ackWait p = true ∨ (c.port p).cfgWait = true ∨
      ((!r.run) = true ∧ (!c.belowSeam r.col) = true)) := by
    simp only [h.room, h.noAck, h.noConfig, hseam]; decide
  unfold Core.frameTransmit
  rw [if_pos ⟨hp, h.link, h.going⟩]
  simp only [h.next]
  exact if_neg hgo

/-! #### Deadlines missed (R18) -/

/-- The column is one that the port is to print in the page under way: at or above its floor, below the seam and not dropped. -/
structure ToPrint (c : Core) (p j : Nat) : Prop where
  inPrint : c.inPrint = true
  active : c.activePort p = true
  floor : (c.port p).floor ≤ j
  page : (c.pageOf j).isSome = true
  below : c.belowSeam j = true
  kept : c.isDropped j = false

/-- An unsettled column of the page under way whose raster stage or frame is too late misses its stage. -/
theorem stageMiss_of_late (hp : p < 64) (hstandby : (c.isStandby && c.sharedPort p) = false) (hhere : (c.port p).away = false)
    (h : ToPrint c p j) (hrun : (c.colOf p j).run = false) (hopen : (c.colOf p j).settled = false)
    (hlate : (c.rasterLate p j || c.frameLate p (c.colOf p j)) = true) : c.stageMiss p j = c.rasterMiss p j := by
  have howner : ¬ (c.isStandby = true ∧ c.sharedPort p = true) := by simpa using hstandby
  unfold Core.stageMiss
  rw [if_neg (by simp [hhere])]
  dsimp only
  rw [if_neg howner, if_pos]
  exact ⟨hp, by simp [hrun, h.inPrint, h.active, h.floor, h.page, h.below, h.kept, hlate], by simp [hopen]⟩

theorem rasterMiss_of_late (h : c.rasterLate p j = true) :
    c.rasterMiss p j = (if c.isBlank p j then c.countBlank j else c).loseCol p j := by
  simp [Core.rasterMiss, h]

theorem rasterMiss_of_not_late (h : c.rasterLate p j = false) : c.rasterMiss p j = c.loseCol p j := by
  simp [Core.rasterMiss, h]

/-- On a port that is away every column up to one past its raster deadline is lost (R591). -/
theorem stageMiss_of_away (hp : p < 64) (ha : (c.port p).away = true) (hi : c.inPrint = true) (hpage : (c.pageOf j).isSome = true)
    (hb : c.belowSeam j = true) (hlate : c.rasterLate p j = true) : c.stageMiss p j = c.awayLost p j := by
  unfold Core.stageMiss
  rw [if_pos ⟨hp, ha, hi⟩, if_pos ⟨hpage, hb, hlate⟩]

/-! #### Clocks (R85, R363) -/

/-- When the clock of a spit run reaches the start of its next column, the run ends past its last column, and else the column four later is made. -/
theorem spitClock_of_reached {x : Spit} (hs : c.spit = some x) (hq : ofTick (x.startTick + x.next * x.step) ≤ (c.ftQ : Int)) :
    c.spitClock =
      if c.rd Obj.spat_COLUMNS x.pattern 0 ≤ x.next then (Core.wr0 { c with spit := none } Obj.SPIT_STATE 0).endComp Obj.SPIT_RUN 0 0 true
      else Core.spitCol { c with spit := some { x with next := x.next + 1 } } x (x.next + 4) := by
  simp only [Core.spitClock, hs]
  exact if_neg (Int.not_lt.mpr hq)

theorem osStop_of_over (hi : c.inPrint = true) (ho : c.rd0 Obj.OS_COLS < c.rd0 Obj.OS_RUN) :
    c.osStop = (c.wr0 Obj.OS_RUN 0).occur 1525 0 := by
  rw [Core.osStop, if_pos ⟨hi, ho⟩]

end Meanings

/-! #### The statements -/

/-- Settles O12, from the meaning of an open gate, of a spit run's gate and of a frame that may leave. -/
theorem columnsAreGatedAndSent : Obligations.ColumnsAreGatedAndSent := by
  unfold Obligations.ColumnsAreGatedAndSent
  intro s dt p c hp
  have hgate : Does (.columnGate dt p) s (c.columnGate p) := does_columnGate s dt p
  have hsend : Does (.frameTransmit dt p) s (c.frameTransmit p) := does_frameTransmit s dt p
  refine ⟨?_, ?_, ?_⟩
  · intro pg g hspit hprint hactive hpage hat hbelow hreached hstill
    have hopen : GateOpen c p pg g := ⟨hspit, hprint, hactive, hpage, hat, hbelow, hreached, hstill⟩
    refine ⟨fun hlost => ?_, fun ticks hheld hsolved => ?_⟩
    · rwa [columnGate_of_pacingLost hp hopen hlost] at hgate
    · rwa [columnGate_of_solved hp hopen hheld hsolved] at hgate
  · intro r g hspit hlink hnext hat hreached
    rwa [columnGate_of_spit hp hspit hlink hnext hat hreached] at hgate
  · intro r hlink hgoing hnext hroom hack hcfg hbelow
    rw [frameTransmit_of_ready hp ⟨hlink, hgoing, hnext, hroom, hack, hcfg, hbelow⟩] at hsend
    refine ⟨fun hlate => ?_, fun htime => ?_⟩
    · rwa [if_pos (by simp [hlate])] at hsend
    · rwa [if_neg (by simp [htime])] at hsend

/-- Settles O13, clause by clause from the meanings of a missed stage, of the run's clock and of the overspeed stop. -/
theorem fireDeadlinesAndClocks : Obligations.FireDeadlinesAndClocks := by
  unfold Obligations.FireDeadlinesAndClocks
  intro s dt p j c
  have hmiss : Does (.stageDeadlineMiss dt p j) s (c.stageMiss p j) := does_stageDeadlineMiss s dt p j
  refine ⟨?_, ?_, does_pulseValidationDone_of_due s dt p, ?_, ?_⟩
  · intro hp hstandby hhere hprint hactive hrun hfloor hpage hbelow hkept hopen
    have hmine : ToPrint c p j := ⟨hprint, hactive, hfloor, hpage, hbelow, hkept⟩
    refine ⟨fun hlate => ?_, fun hraster hunsent htime => ?_⟩
    · rwa [stageMiss_of_late hp hstandby hhere hmine hrun hopen (by simp [hlate]), rasterMiss_of_late hlate] at hmiss
    · have hframe : c.frameLate p (c.colOf p j) = true := by simp [Core.frameLate, hunsent, htime]
      rwa [stageMiss_of_late hp hstandby hhere hmine hrun hopen (by simp [hframe]), rasterMiss_of_not_late hraster] at hmiss
  · intro hp haway hprint hpage hbelow hlate
    rwa [stageMiss_of_away hp haway hprint hpage hbelow hlate] at hmiss
  · intro x hspit hreached
    have hclock : Does (.spitColumnClock dt) s c.spitClock := does_spitColumnClock s dt
    rwa [spitClock_of_reached hspit hreached] at hclock
  · intro hprint hover
    have hstop : Does (.osStop dt) s c.osStop := does_osStop s dt
    rwa [osStop_of_over hprint hover] at hstop

end Sys2Proof.Proofs.Fire

/-! ### Proofs: Ephemeris (ch. 2) -/

namespace Sys2Proof.Proofs.Ephemeris
open Sys2Proof Sys2Proof.Machine Sys2Proof.Laws

/-! #### What the commands of Ephemeris answer -/

section Answers
variable (s : State) (dt ch : Nat)

/-- The levels before the change reach the channel as the pair A:B they came from. -/
theorem does_quadTransition {before : Nat} (a b : Nat) (h : before < 4) :
    Does (.quadTransition dt ch ⟨before / 2, a⟩ ⟨before % 2, b⟩) s ((s.core.advance dt).quadTransition ch before a b) := by
  have hpair : 2 * (before / 2 % 2) + before % 2 % 2 = before := by omega
  have answer : Does (.quadTransition dt ch ⟨before / 2, a⟩ ⟨before % 2, b⟩) s
      ((s.core.advance dt).quadTransition ch (2 * (before / 2 % 2) + before % 2 % 2) a b) :=
    Fire.does_of_onCore (fun c => (c.advance dt).quadTransition ch (2 * (before / 2 % 2) + before % 2 % 2) a b) rfl
  rwa [hpair] at answer

theorem does_hallTransition (before u : Nat) :
    Does (.hallTransition dt ch ⟨before, u⟩) s ((s.core.advance dt).hallTransition ch before u) :=
  Fire.does_of_onCore (fun c => (c.advance dt).hallTransition ch before u) rfl

theorem does_ssiSample (raw : Nat) (start parity err : Bool) :
    Does (.ssiSample dt ch raw start parity err) s ((s.core.advance dt).ssiSample ch raw start parity err) :=
  Fire.does_of_onCore (fun c => (c.advance dt).ssiSample ch raw start parity err) rfl

theorem does_signalLoss : Does (.signalLoss dt ch) s ((s.core.advance dt).signalLoss ch) :=
  Fire.does_of_onCore (fun c => (c.advance dt).signalLoss ch) rfl

theorem does_signalReturn : Does (.signalReturn dt ch) s ((s.core.advance dt).signalReturn ch) :=
  Fire.does_of_onCore (fun c => (c.advance dt).signalReturn ch) rfl

theorem does_zIndex : Does (.zIndex dt ch) s ((s.core.advance dt).zIndex ch) :=
  Fire.does_of_onCore (fun c => (c.advance dt).zIndex ch) rfl

theorem does_estZeroTimeout : Does (.estZeroTimeout dt ch) s ((s.core.advance dt).estZero ch) :=
  Fire.does_of_onCore (fun c => (c.advance dt).estZero ch) rfl

theorem does_tackPeriodic : Does (.tackPeriodic dt ch) s ((s.core.advance dt).tackPeriodic ch) :=
  Fire.does_of_onCore (fun c => (c.advance dt).tackPeriodic ch) rfl

theorem does_deferredTackLatch : Does (.deferredTackLatch dt ch) s ((s.core.advance dt).deferredTack ch) :=
  Fire.does_of_onCore (fun c => (c.advance dt).deferredTack ch) rfl

theorem does_commandedTack : Does (.commandedTack dt) s (s.core.advance dt).commandedTack :=
  Fire.does_of_onCore (fun c => (c.advance dt).commandedTack) rfl

theorem does_tackStale : Does (.tackStale dt) s (s.core.advance dt).tackStale :=
  Fire.does_of_onCore (fun c => (c.advance dt).tackStale) rfl

end Answers

/-! #### Numbers and objects -/

/-- A number in the range of a two's-complement format comes back from its stored bits (R7). -/
theorem signedOf_rawOf {n : Nat} {v : Int} (hlo : -((2 : Int) ^ n) ≤ v) (hhi : v < (2 : Int) ^ n) :
    signedOf (n + 1) (rawOf (n + 1) v) = v := by
  have hw : (2 : Int) ^ (n + 1) = 2 * (2 : Int) ^ n := by rw [Int.pow_succ, Int.mul_comm]
  have hwNat : 2 ^ (n + 1) = 2 * 2 ^ n := by rw [Nat.pow_succ, Nat.mul_comm]
  have hcast : ((2 ^ n : Nat) : Int) = (2 : Int) ^ n := by push_cast; rfl
  have hraw : rawOf (n + 1) v = if 0 ≤ v then v.toNat else (v + 2 * (2 : Int) ^ n).toNat := by
    unfold rawOf
    rw [hw]
    split
    · rw [Int.emod_eq_of_lt (by omega) (by omega)]
    · rw [← Int.add_emod_right, Int.emod_eq_of_lt (by omega) (by omega)]
  have hsmall : rawOf (n + 1) v < 2 * 2 ^ n := by
    rw [hraw]; split <;> omega
  unfold signedOf
  simp only [Nat.add_sub_cancel, hw, hwNat, Nat.mod_eq_of_lt hsmall]
  rw [hraw]
  split <;> split <;> omega

theorem satS_range (n : Nat) (v : Int) : -((2 : Int) ^ n) ≤ satS (n + 1) v ∧ satS (n + 1) v < (2 : Int) ^ n := by
  have hpos : (0 : Int) < 2 ^ n := Int.pow_pos (by decide)
  unfold satS
  simp only [Nat.add_sub_cancel]
  split
  · omega
  · split <;> omega

theorem satS_of_range {n : Nat} {v : Int} (hlo : -((2 : Int) ^ n) ≤ v) (hhi : v < (2 : Int) ^ n) : satS (n + 1) v = v := by
  unfold satS
  simp only [Nat.add_sub_cancel]
  rw [if_neg (by omega), if_pos hhi]

theorem satS_satS (n : Nat) (v : Int) : satS (n + 1) (satS (n + 1) v) = satS (n + 1) v :=
  satS_of_range (satS_range n v).1 (satS_range n v).2

/-- The bits a value keeps in its object's width are those its two's-complement reading looks at. -/
theorem signedOf_fit (o : Ob) (v : Nat) (h : o.size ≠ 0) : signedOf (8 * o.size) (o.fit v) = signedOf (8 * o.size) v := by
  have hwidth : 256 ^ o.size = 2 ^ (8 * o.size) := by rw [Nat.pow_mul]
  simp only [Ob.fit, if_neg h, signedOf, hwidth, Nat.mod_mod]

section Objects
variable (c : Core) (o p : Ob) (i j n v : Nat) (z : Int)

/-- A signed value stored reads back saturated in its object's format (R8). -/
theorem rdI_wrI (h : o.size ≠ 0) : (c.wrI o i j z).rdI o i j = satS (8 * o.size) z := by
  obtain ⟨m, hm⟩ : ∃ m, 8 * o.size = m + 1 := ⟨8 * o.size - 1, by omega⟩
  unfold Core.rdI Core.wrI
  rw [rd_wr, signedOf_fit o _ h, hm]
  exact signedOf_rawOf (satS_range m z).1 (satS_range m z).2

theorem rd_wrI_ne (a b : Nat) (h : p.key a b ≠ o.key i j) : (c.wrI o i j z).rd p a b = c.rd p a b :=
  rd_wr_ne c o p i j a b _ h

/-- A change of an element that the object journal keeps is due for it (R461). -/
theorem wr_of_dirty (h : (o.retained && !o.ownPartition && decide (o.fit v ≠ c.rd o i j)) = true) :
    c.wr o i j v = Core.markDirty { c with objs := Tab.set c.objs (o.key i j) (o.fit v) } (o.key i j) := if_pos h

/-- Else storing changes the objects alone. -/
theorem wr_of_clean (h : (o.retained && !o.ownPartition && decide (o.fit v ≠ c.rd o i j)) ≠ true) :
    c.wr o i j v = { c with objs := Tab.set c.objs (o.key i j) (o.fit v) } := if_neg h

theorem wr_of_not_retained (h : o.retained = false) : c.wr o i j v = { c with objs := Tab.set c.objs (o.key i j) (o.fit v) } :=
  wr_of_clean c o i j v (by simp [h])

/-- Storing a value and replacing a channel do not meet. -/
theorem wr_setChan (x : Chan) : (c.setChan n x).wr o i j v = (c.wr o i j v).setChan n x := by
  by_cases hdirty : (o.retained && !o.ownPartition && decide (o.fit v ≠ c.rd o i j)) = true
  · rw [wr_of_dirty c o i j v hdirty, wr_of_dirty (c.setChan n x) o i j v hdirty]
    rfl
  · rw [wr_of_clean c o i j v hdirty, wr_of_clean (c.setChan n x) o i j v hdirty]
    rfl

theorem wrI_setChan (x : Chan) : (c.setChan n x).wrI o i j z = (c.wrI o i j z).setChan n x :=
  wr_setChan c o i j n _ x

@[simp] theorem chan_wr : (c.wr o i j v).chan n = c.chan n := by simp [Core.chan]
@[simp] theorem chan_wrI : (c.wrI o i j z).chan n = c.chan n := chan_wr c o i j n _
@[simp] theorem ftQ_wrI : (c.wrI o i j z).ftQ = c.ftQ := by simp [Core.ftQ]
@[simp] theorem ftQ_setChan (x : Chan) : (c.setChan n x).ftQ = c.ftQ := rfl

variable {o p}

/-- Two members of one record differ in their keys. -/
theorem key_ne_of_sub (h : o.idx = p.idx ∧ o.stride = p.stride ∧ ¬ 1 < o.nel ∧ ¬ 1 < p.nel ∧ o.sub ≠ p.sub) : o.key i 0 ≠ p.key i 0 := by
  obtain ⟨hidx, hstride, ho, hp, hsub⟩ := h
  simp only [Ob.key, gt_iff_lt, ho, hp, if_false, hidx, hstride]
  omega

/-- A member stored leaves the other members of its record as they were. -/
theorem rd_wr_member (h : p.idx = o.idx ∧ p.stride = o.stride ∧ ¬ 1 < p.nel ∧ ¬ 1 < o.nel ∧ p.sub ≠ o.sub) : (c.wr o i 0 v).rd p i 0 = c.rd p i 0 :=
  rd_wr_ne c o p i 0 i 0 v (key_ne_of_sub i h)

theorem rd_wrI_member (h : p.idx = o.idx ∧ p.stride = o.stride ∧ ¬ 1 < p.nel ∧ ¬ 1 < o.nel ∧ p.sub ≠ o.sub) : (c.wrI o i 0 z).rd p i 0 = c.rd p i 0 :=
  rd_wr_member c i _ h

end Objects

section Channels
variable {c : Core} {ch : Nat}

/-- A channel that is on, has its signal and decodes mode `m` (Table 2-1). -/
structure Decodes (c : Core) (ch m : Nat) : Prop where
  isOn : c.chanOn ch = true
  mode : c.rd Obj.fb_MODE ch 0 = m
  signal : (c.chan ch).lost = false

/-! #### Changes of A and B (R29) -/

/-- The pairs of levels A:B that follow each other when A leads B. -/
def quadForward : List (Nat × Nat) := [(0, 2), (2, 3), (3, 1), (1, 0)]

theorem quadStep_eq : ∀ old < 4, ∀ new < 4, quadStep old new = if (old, new) ∈ quadForward then 1 else -1 := by decide

/-- A change of A and B: nothing if the levels are those decoded last, a count error if both differ, else one count in the direction of the sequence. -/
theorem quadTransition_of_decodes {before a b : Nat} (h : Decodes c ch 1) (hbefore : before < 4) (ha : a < 2) (hb : b < 2) :
    c.quadTransition ch before a b =
      let x := c.chan ch
      let old := x.lev.getD before
      let new := 2 * a + b
      let k := c.setChan ch { x with lev := some new }
      if new = old then k
      else if new + old = 3 then (k.countError ch).occur (600 + ch) 0
      else k.countEdge ch (c.stampOf ch (c.rd Obj.fb_FILTER ch 0)) (quadStep old new) (quadStep old new) := by
  unfold Core.quadTransition
  rw [if_pos ⟨h.isOn, h.mode, by simp [h.signal]⟩, Nat.mod_eq_of_lt hbefore, Nat.mod_eq_of_lt ha, Nat.mod_eq_of_lt hb]
  rfl

theorem countEdge_ite (k : Core) (t : Int) (p : Prop) [Decidable p] :
    k.countEdge ch t (if p then 1 else -1) (if p then 1 else -1) = if p then k.countEdge ch t 1 1 else k.countEdge ch t (-1) (-1) := by
  split <;> rfl

/-! #### Changes of U, V and W (R30) -/

/-- The states U:V:W that follow each other in the forward direction of the six-state sequence. -/
def hallForward : List (Nat × Nat) := [(4, 6), (6, 2), (2, 3), (3, 1), (1, 5), (5, 4)]

/-- The count a change of U:V:W makes, if it moves between two adjacent states. -/
def hallStep (old new : Nat) : Option Int :=
  match hallPlace old, hallPlace new with
  | some i, some j => if (i + 1) % 6 = j then some 1 else if (j + 1) % 6 = i then some (-1) else none
  | _, _ => none

theorem hallStep_eq : ∀ old < 8, ∀ new < 8,
    hallStep old new = if (old, new) ∈ hallForward then some 1 else if (new, old) ∈ hallForward then some (-1) else none := by decide

/-- What a change of U:V:W comes to: its count, or a count error. -/
def hallCounted (k : Core) (ch : Nat) (t : Int) : Option Int → Core
  | some d => k.countEdge ch t d d
  | none => (k.countError ch).occur (600 + ch) 0

/-- A change of U:V:W: nothing if the state is the one decoded last, one count to an adjacent state, else a count error. -/
theorem hallTransition_of_decodes {before u : Nat} (h : Decodes c ch 2) (hbefore : before < 8) (hu : u < 8) :
    c.hallTransition ch before u =
      let x := c.chan ch
      let old := x.lev.getD before
      let k := c.setChan ch { x with lev := some u }
      if u = old then k else hallCounted k ch (c.stampOf ch (c.rd Obj.fb_FILTER ch 0)) (hallStep old u) := by
  unfold Core.hallTransition
  rw [if_pos ⟨h.isOn, h.mode, by simp [h.signal]⟩, Nat.mod_eq_of_lt hbefore, Nat.mod_eq_of_lt hu]
  dsimp only
  by_cases hsame : u = (c.chan ch).lev.getD before
  · rw [if_pos hsame, if_pos hsame]
  · rw [if_neg hsame, if_neg hsame]
    unfold hallStep
    rcases hallPlace ((c.chan ch).lev.getD before) with _ | i
    · rfl
    · rcases hallPlace u with _ | j
      · rfl
      · dsimp only
        split
        · rfl
        · split <;> rfl

/-! #### SSI samples (R31) -/

theorem sampleDue_eq : c.sampleDue ch = (c.chan ch).sampleAt.all (fun t => decide (t + ns (c.rd Obj.fb_SSI_PERIOD ch 0) ≤ c.clk)) := by
  unfold Core.sampleDue
  cases (c.chan ch).sampleAt <;> rfl

/-- A sample that is due: a count error if its start, parity or error bit or its size condemns it, else counted by its difference. -/
theorem ssiSample_of_due {raw : Nat} {start parity err : Bool} (h : Decodes c ch 3) (hdue : c.sampleDue ch = true) :
    c.ssiSample ch raw start parity err =
      let x := c.chan ch
      let w := c.rd Obj.fb_SSI_BITS ch 0
      let o := c.rd Obj.fb_SSI_OPTS ch 0
      let r := raw % 2 ^ w
      let val := if bit o 0 then grayToBin 40 r else r
      let d : Int := match x.raw with | some p => signedOf w (val + 2 ^ w - p) | none => 0
      let k := c.setChan ch { x with sampleAt := some c.clk }
      if start = false ∨ (bit o 1 = true ∧ (popCount w r + b2n parity) % 2 = 1) ∨ (bit o 2 = true ∧ err = true) ∨ c.rd Obj.fb_SSI_MAX_STEP ch 0 < d.natAbs then
        (k.countError ch).occur (600 + ch) 0
      else (c.setChan ch { x with sampleAt := some c.clk, raw := some val }).countEdge ch (c.stampOf ch 0) d
        (if 0 < d then 1 else if d < 0 then -1 else x.dir) := by
  unfold Core.ssiSample
  rw [if_pos ⟨h.isOn, h.mode, by simp [h.signal], hdue⟩]
  simp only [chan_setChan, setChan_setChan, rd_setChan]
  refine ite_congr (propext ?_) (fun _ => rfl) (fun _ => rfl)
  exact or_congr (iff_of_eq (Bool.not_eq_true' start)) (or_congr (Bool.and_eq_true_iff.trans (and_congr_right' decide_eq_true_iff)) Iff.rfl)

/-! #### The first edge of a stopped channel (R34, R39, R40) -/

/-- What the estimator keeps of the edge that leaves STOPPED: the held edge, speed 0, its timing discarded (R38). -/
def firstEdge (x : Chan) (e : Edge) (dir : Int) (clk edgesSince : Nat) : Chan :=
  { x with last := some e, interval := (match x.last with | some p => e.t - p.t | none => 0), dir := dir, fresh := true, edgesSince := edgesSince, edgeAt := clk,
           held := true, edges := [e], vals := [], v := 0, acc := 0, discarded := true, counted := false }

theorem estEdge_of_stopped (e : Edge) (dir : Int) (h : c.rd Obj.fb_EST_STATE ch 0 = 0) :
    c.estEdge ch e dir =
      ((c.setChan ch (firstEdge (c.chan ch) e dir c.clk ((c.chan ch).edgesSince + 1))).setEst ch estHeld, false) := by
  unfold Core.estEdge
  exact if_pos h

/-- The first edge of a stopped channel stored: the count `n`, HELD, the speed `v` and the channel `x`. -/
def firstStored (c : Core) (ch : Nat) (n v : Int) (x : Chan) : Core :=
  (((c.wrI Obj.fb_COUNT ch 0 n).wr Obj.fb_EST_STATE ch 0 1).wrI Obj.fb_SPEED ch 0 v).setChan ch x

section FirstStored
variable (n v : Int) (x : Chan)

theorem firstStored_setChan (y : Chan) : firstStored (c.setChan ch y) ch n v x = firstStored c ch n v x := by
  simp only [firstStored, wrI_setChan, wr_setChan, setChan_setChan]

theorem firstStored_count : (firstStored c ch n v x).rdI Obj.fb_COUNT ch 0 = satS 64 n := by
  have hread : (firstStored c ch n v x).rdI Obj.fb_COUNT ch 0 = (c.wrI Obj.fb_COUNT ch 0 n).rdI Obj.fb_COUNT ch 0 := by
    unfold Core.rdI firstStored
    rw [rd_setChan, rd_wrI_member _ _ _ (by decide), rd_wr_member _ _ _ (by decide)]
  rw [hread, rdI_wrI _ _ _ _ _ (by decide)]
  rfl

theorem firstStored_est : (firstStored c ch n v x).rd Obj.fb_EST_STATE ch 0 = 1 := by
  unfold firstStored
  rw [rd_setChan, rd_wrI_member _ _ _ (by decide), rd_wr]
  rfl

theorem firstStored_chan : (firstStored c ch n v x).chan ch = x := chan_setChan _ _ _

theorem firstStored_chan_ne {m : Nat} (h : m ≠ ch) : (firstStored c ch n v x).chan m = c.chan m := by
  unfold firstStored
  rw [chan_setChan_ne _ _ _ _ h, chan_wrI, chan_wr, chan_wrI]

theorem firstStored_rd (o : Ob) (i j : Nat) (h : o.key i j ∉ [Obj.fb_COUNT.key ch 0, Obj.fb_EST_STATE.key ch 0, Obj.fb_SPEED.key ch 0]) :
    (firstStored c ch n v x).rd o i j = c.rd o i j := by
  simp only [List.mem_cons, List.not_mem_nil, or_false, not_or] at h
  obtain ⟨hcount, hest, hspeed⟩ := h
  unfold firstStored
  rw [rd_setChan, rd_wrI_ne _ _ _ _ _ _ _ _ hspeed, rd_wr_ne _ _ _ _ _ _ _ _ hest, rd_wrI_ne _ _ _ _ _ _ _ _ hcount]

/-- None of the three objects is retained, so nothing is owed to the journal. -/
theorem firstStored_frame :
    firstStored c ch n v x = { c with objs := (firstStored c ch n v x).objs, chans := (firstStored c ch n v x).chans } := by
  unfold firstStored Core.wrI
  rw [wr_of_not_retained _ Obj.fb_COUNT _ _ _ (by decide), wr_of_not_retained _ Obj.fb_EST_STATE _ _ _ (by decide),
    wr_of_not_retained _ Obj.fb_SPEED _ _ _ (by decide)]
  rfl

end FirstStored

/-- The first edge of a stopped channel that latches no Tack by edges is counted and held, whether or not it is the TACK_EDGES-th. -/
theorem countEdge_of_stopped (t d dir : Int) (hstop : c.rd Obj.fb_EST_STATE ch 0 = 0) (htrig : bit (c.rd Obj.fb_TACK_TRIG ch 0) 1 = false) :
    ∃ (v : Int) (m : Nat),
      let n := satS 64 (c.rdI Obj.fb_COUNT ch 0 + d)
      c.countEdge ch t d dir = firstStored c ch n v (firstEdge (c.chan ch) ⟨t, n⟩ dir c.clk m) := by
  have hstop' : (c.wrI Obj.fb_COUNT ch 0 (satS 64 (c.rdI Obj.fb_COUNT ch 0 + d))).rd Obj.fb_EST_STATE ch 0 = 0 := by
    rw [rd_wrI_member _ _ _ (by decide), hstop]
  unfold Core.countEdge
  simp only [estEdge_of_stopped _ _ hstop', Core.setEst, wr_setChan, Core.publishSpeed, wrI_setChan, chan_setChan, setChan_setChan, rd_setChan,
    Bool.false_eq_true, if_false]
  split
  · rw [rd_wrI_member _ _ _ (by decide), rd_wr_member _ _ _ (by decide), rd_wrI_member _ _ _ (by decide), if_neg (by simp [htrig])]
    exact ⟨_, 0, rfl⟩
  · exact ⟨_, _, rfl⟩

/-! #### Signals, the index pulse and the time without edges (R32, R33, R39) -/

theorem signalLoss_of_signal (hon : c.chanOn ch = true) (h : (c.chan ch).lost = false) :
    c.signalLoss ch = (c.setChan ch { c.chan ch with lost := true }).level (608 + ch) 0 true := by
  unfold Core.signalLoss
  exact if_pos ⟨hon, by simp [h]⟩

theorem signalReturn_of_lost (hon : c.chanOn ch = true) (h : (c.chan ch).lost = true) :
    c.signalReturn ch =
      (((c.setChan ch { c.chan ch with lost := false, lev := none, raw := none }).level (608 + ch) 0 false).countError ch).occur (600 + ch) 0 := by
  unfold Core.signalReturn
  exact if_pos ⟨hon, h⟩

/-- An index pulse taken: COUNT is captured in Z_POS and, with Z_MODE 2 outside PRINT, counting and the edges kept start afresh from it. -/
def indexTaken (c : Core) (ch : Nat) : Core :=
  let x := c.chan ch
  let n := c.rdI Obj.fb_COUNT ch 0
  if c.rd Obj.fb_Z_MODE ch 0 = 2 ∧ c.inPrint = false then
    ((c.wrI Obj.fb_Z_POS ch 0 n).wrI Obj.fb_COUNT ch 0 0).setChan ch { x with
      index := true, last := x.last.map (fun e => ⟨e.t, e.cnt - n⟩), edges := x.edges.map (fun e => ⟨e.t, e.cnt - n⟩) }
  else (c.wrI Obj.fb_Z_POS ch 0 n).setChan ch { x with index := true }

theorem indexTaken_ftQ : (indexTaken c ch).ftQ = c.ftQ := by
  unfold indexTaken
  dsimp only
  split <;> simp

theorem indexTaken_trig : (indexTaken c ch).rd Obj.fb_TACK_TRIG ch 0 = c.rd Obj.fb_TACK_TRIG ch 0 := by
  unfold indexTaken
  dsimp only
  split
  · rw [rd_setChan, rd_wrI_member _ _ _ (by decide), rd_wrI_member _ _ _ (by decide)]
  · rw [rd_setChan, rd_wrI_member _ _ _ (by decide)]

/-- An index pulse with Z_MODE 1 or 2 is taken, and is a trigger where TACK_TRIG has bit 2. -/
theorem zIndex_of_decodes (h : Decodes c ch 1) (hz : c.rd Obj.fb_Z_MODE ch 0 ≠ 0) :
    c.zIndex ch = if bit (c.rd Obj.fb_TACK_TRIG ch 0) 2 = true then (indexTaken c ch).trigger ch c.ftQ else indexTaken c ch := by
  unfold Core.zIndex
  dsimp only
  rw [if_pos ⟨h.isOn, h.mode, by simp [h.signal], hz⟩]
  simp only [wrI_setChan, setChan_setChan, Bool.not_eq_true']
  change (if bit ((indexTaken c ch).rd Obj.fb_TACK_TRIG ch 0) 2 = true then (indexTaken c ch).trigger ch (indexTaken c ch).ftQ else indexTaken c ch) = _
  rw [indexTaken_trig, indexTaken_ftQ]

theorem estZero_of_due (hon : c.chanOn ch = true) (hmoving : c.rd Obj.fb_EST_STATE ch 0 ≠ 0) (hdue : (c.chan ch).edgeAt + us (c.rd Obj.fb_T_ZERO ch 0) ≤ c.clk) :
    c.estZero ch = ((c.setChan ch { (c.chan ch).hold 0 [] with counted := false }).setEst ch 0).publishSpeed ch := by
  unfold Core.estZero
  exact if_pos ⟨hon, hmoving, hdue⟩

/-! #### Tacks (R44, R46, R49, R50) -/

/-- A trigger with no Tack in the 1,000 ns before it latches one at once. -/
theorem trigger_of_spaced {at_ : Nat} (h : (c.chan ch).lastTack.all (fun t => decide (t + 1000 * 65536 ≤ at_)) = true) :
    c.trigger ch at_ = c.latchTack ch at_ := by
  unfold Core.trigger
  rcases hlast : (c.chan ch).lastTack with _ | t
  · rfl
  · have hspaced : t + 1000 * 65536 ≤ at_ := of_decide_eq_true ((Option.all_eq_true _ _).mp h t hlast)
    exact if_neg (Nat.not_lt.mpr hspaced)

/-- A trigger less than 1,000 ns after the channel's newest Tack waits. -/
theorem trigger_of_close {at_ t : Nat} (hlast : (c.chan ch).lastTack = some t) (h : at_ < t + 1000 * 65536) :
    c.trigger ch at_ = c.setChan ch { c.chan ch with waiting := true } := by
  unfold Core.trigger
  simp only [hlast]
  exact if_pos h

theorem tackPeriodic_of_due (h : c.tackDue ch = true) : c.tackPeriodic ch = c.trigger ch c.periodMark := if_pos h

/-- A waiting Tack is latched at its mark, 1,000 ns after the newest one. -/
theorem deferredTack_of_reached {t : Nat} (hon : c.chanOn ch = true) (hwait : (c.chan ch).waiting = true) (hlast : (c.chan ch).lastTack = some t)
    (h : t + 1000 * 65536 ≤ c.ftQ) : c.deferredTack ch = c.latchTack ch (t + 1000 * 65536) := by
  have hdue : c.deferredDue ch = true := by simp [Core.deferredDue, hon, hwait, hlast, h]
  unfold Core.deferredTack
  rw [if_pos hdue, hlast]

/-- A waiting Tack of a channel that has latched none is latched at once. -/
theorem deferredTack_of_first (hon : c.chanOn ch = true) (hwait : (c.chan ch).waiting = true) (hlast : (c.chan ch).lastTack = none) :
    c.deferredTack ch = c.latchTack ch c.ftQ := by
  have hdue : c.deferredDue ch = true := by simp [Core.deferredDue, hon, hwait, hlast]
  unfold Core.deferredTack
  rw [if_pos hdue, hlast]

theorem commandedTack_of_due (hrun : c.running = true) (hsrc : c.rd0 Obj.PACE_SRC = 9)
    (h : c.pred.cmdLatched.all (fun t => decide (t < c.periodMark)) = true) : c.commandedTack = c.latchCommanded c.periodMark := by
  unfold Core.commandedTack
  refine if_pos ⟨hrun, hsrc, ?_⟩
  rcases hlast : c.pred.cmdLatched with _ | t
  · rfl
  · rw [hlast] at h
    exact h

theorem ringStale_eq : c.ringStale = c.pred.newest.all (fun t => decide (t + c.rd0 Obj.TACK_AGE_MAX * 65536 < c.ftQ)) := by
  unfold Core.ringStale
  cases c.pred.newest <;> rfl

theorem tackStale_of_old (hrun : c.running = true) (hsrc : c.rd0 Obj.PACE_SRC = 10)
    (h : c.pred.newest.all (fun t => decide (t + c.rd0 Obj.TACK_AGE_MAX * 65536 < c.ftQ)) = true) (hraised : c.pred.staleRaised = false) :
    c.tackStale = Core.occur { c with pred := { c.pred with staleRaised := true } } 616 0 := by
  have hstale : c.ringStale = true := ringStale_eq.trans h
  unfold Core.tackStale
  exact if_pos ⟨hrun, hsrc, hstale, by simp [hraised]⟩

/-- A Tack put into a buffer is its newest, and 64 are kept (R46). -/
theorem bufferTack_same (b : Nat) (tk : Tack) : Tab.get [] (c.bufferTack b tk).tacks b = (tk :: Tab.get [] c.tacks b).take 64 :=
  tab_get_set _ _ _ _

theorem bufferTack_ne {b n : Nat} (tk : Tack) (h : n ≠ b) : Tab.get [] (c.bufferTack b tk).tacks n = Tab.get [] c.tacks n :=
  tab_get_set_ne _ _ _ _ _ h

@[simp] theorem bufferTack_chan (b n : Nat) (tk : Tack) : (c.bufferTack b tk).chan n = c.chan n := rfl

/-- SPEED is not retained: publishing it changes the objects alone. -/
theorem publishSpeed_frame : c.publishSpeed ch = { c with objs := (c.publishSpeed ch).objs } := by
  unfold Core.publishSpeed Core.wrI
  rw [wr_of_not_retained _ Obj.fb_SPEED _ _ _ (by decide)]

@[simp] theorem publishSpeed_chan (n : Nat) : (c.publishSpeed ch).chan n = c.chan n := chan_wrI _ _ _ _ _ _

@[simp] theorem publishSpeed_tacks : (c.publishSpeed ch).tacks = c.tacks := wrI_tacks _ _ _ _ _

/-- A channel once it has latched a Tack: what the Tack tells is told, and the next one has the next SEQ. -/
def tackLatched (x : Chan) (at_ : Nat) : Chan :=
  { x with fresh := false, index := false, countError := false, clamped := false, lastTack := some at_, waiting := false, seq := (x.seq + 1) % 2 ^ 32 }

theorem b2n_le_one (b : Bool) : b2n b ≤ 1 := by cases b <;> decide

/-- Of the flags of a Tack (Table 2-4), bit 0 is VALID, always set, and bit 6 is HELD_POS. -/
theorem tackFlags_bits (reverse discarded counted stopped index held error clamped holdover : Bool) :
    let flags := 1 + 2 * b2n reverse + 4 * b2n discarded + 8 * b2n counted + 16 * b2n stopped + 32 * b2n index + 64 * b2n held + 128 * b2n error
      + 1024 * b2n clamped + 2048 * b2n holdover
    bit flags 0 = true ∧ bit flags 6 = held := by
  intro flags
  have hreverse := b2n_le_one reverse
  have hdiscarded := b2n_le_one discarded
  have hcounted := b2n_le_one counted
  have hstopped := b2n_le_one stopped
  have hindex := b2n_le_one index
  have hheld := b2n_le_one held
  have hbit : flags / 2 ^ 6 % 2 = b2n held := by omega
  refine ⟨decide_eq_true (by omega), ?_⟩
  unfold bit
  rw [hbit]
  cases held <;> rfl

/-- A Tack of a channel that is not the pacing source enters the channel's own buffer, with the newest edge's position and, where an edge has come since the
last Tack, its time. -/
theorem latchTack_of_not_pacing (at_ : Nat) (h : c.rd0 Obj.PACE_SRC ≠ ch + 1) :
    ∃ tk, c.latchTack ch at_ = ((c.publishSpeed ch).setChan ch (tackLatched (c.chan ch) at_)).bufferTack ch tk ∧
      tk.pos = c.posOf ch (match (c.chan ch).last with | some e => e.cnt | none => c.rdI Obj.fb_COUNT ch 0) ∧
      tk.t = (if (c.chan ch).fresh then (match (c.chan ch).last with | some e => e.t.toNat | none => at_) else at_) ∧
      bit tk.flags 6 = !(c.chan ch).fresh ∧ bit tk.flags 0 = true ∧ tk.seq = (c.chan ch).seq := by
  unfold Core.latchTack
  exact ⟨_, if_neg h, rfl, rfl, (tackFlags_bits _ _ _ _ _ _ _ _ _).2, (tackFlags_bits _ _ _ _ _ _ _ _ _).1, rfl⟩

/-! #### The predictor and the tick grid (R51, R55) -/

theorem predPos_of_le {x v a h tau : Rat} (hle : tau ≤ h) : predPos x v a h tau = x + v * tau + a * tau * tau / 2 := if_pos hle

/-- Beyond H_MAX the prediction goes on, from where it stands there, at the speed reached there. -/
theorem predPos_of_lt {x v a h tau : Rat} (hlt : h < tau) : predPos x v a h tau = predPos x v a h h + (v + a * h) * (tau - h) := by
  rw [predPos_of_le Rat.le_refl]
  exact if_neg (Rat.not_le.mpr hlt)

/-- The tick of an instant is the nearest one, the later of two as near. -/
theorem ofTick_tickOf {t : Int} (h : 0 ≤ t) : ofTick (tickOf t) - t ≤ 81920 ∧ t - ofTick (tickOf t) < 81920 := by
  unfold ofTick tickOf
  omega

end Channels

/-! #### The statements -/

/-- Settles O8, from the meaning of a change of A and B, of U, V and W and of a sample, and of the edge that leaves STOPPED. -/
theorem feedbackEdgesCount : Obligations.FeedbackEdgesCount := by
  unfold Obligations.FeedbackEdgesCount
  refine ⟨?_, ?_⟩
  · intro s dt ch c x hon hsignal
    refine ⟨?_, ?_, ?_⟩
    · intro before a b hbefore ha hb hmode old new k hold
      have hdoes := does_quadTransition s dt ch a b hbefore
      rw [quadTransition_of_decodes ⟨hon, hmode, hsignal⟩ hbefore ha hb] at hdoes
      dsimp only at hdoes
      rwa [quadStep_eq _ hold _ (by omega : 2 * a + b < 4), countEdge_ite] at hdoes
    · intro before u hbefore hu hmode old k l hold
      have hdoes := does_hallTransition s dt ch before u
      rw [hallTransition_of_decodes ⟨hon, hmode, hsignal⟩ hbefore hu] at hdoes
      dsimp only at hdoes
      rwa [hallStep_eq _ hold _ hu, apply_ite (hallCounted _ ch _), apply_ite (hallCounted _ ch _)] at hdoes
    · intro raw start parity err hmode hdue w o r val d k
      have hdoes := does_ssiSample s dt ch raw start parity err
      rwa [ssiSample_of_due ⟨hon, hmode, hsignal⟩ (sampleDue_eq.trans hdue)] at hdoes
  · intro s dt ch before a b c x old hon ha hb hbefore hmode hsignal hold hchange hlegal hstop htrig
    have hdoes := does_quadTransition s dt ch a b hbefore
    rw [quadTransition_of_decodes ⟨hon, hmode, hsignal⟩ hbefore ha hb] at hdoes
    dsimp only at hdoes
    rw [if_neg hchange, if_neg hlegal] at hdoes
    obtain ⟨v, m, hedge⟩ := countEdge_of_stopped (c := c.setChan ch { x with lev := some (2 * a + b) }) (c.stampOf ch (c.rd Obj.fb_FILTER ch 0))
      (quadStep old (2 * a + b)) (quadStep old (2 * a + b)) hstop htrig
    rw [hedge, firstStored_setChan, chan_setChan] at hdoes
    refine ⟨_, hdoes, (firstStored_count _ _ _).trans (satS_satS 63 _), firstStored_est _ _ _, ?_, ?_, ?_, ?_, ?_,
      fun i hi => firstStored_chan_ne _ _ _ hi, firstStored_rd _ _ _, firstStored_frame _ _ _⟩ <;> (rw [firstStored_chan]; rfl)

/-- Settles O9, clause by clause from the meanings of loss, return, index pulse and T_ZERO. -/
theorem feedbackSignalsTakeEffect : Obligations.FeedbackSignalsTakeEffect := by
  unfold Obligations.FeedbackSignalsTakeEffect
  intro s dt ch c x hon
  refine ⟨fun hsignal => ?_, fun hlost => ?_, fun hmode hsignal hz => ?_, fun hmoving hdue => ?_⟩
  · have hdoes := does_signalLoss s dt ch
    rwa [signalLoss_of_signal hon hsignal] at hdoes
  · have hdoes := does_signalReturn s dt ch
    rwa [signalReturn_of_lost hon hlost] at hdoes
  · have hdoes := does_zIndex s dt ch
    have htakes : c.rd Obj.fb_Z_MODE ch 0 ≠ 0 := by omega
    rwa [zIndex_of_decodes ⟨hon, hmode, hsignal⟩ htakes] at hdoes
  · have hdoes := does_estZeroTimeout s dt ch
    rwa [estZero_of_due hon hmoving hdue] at hdoes

/-- Settles O10: each clause from the meaning of its trigger, the last from what a latch does on a channel that does not pace. -/
theorem tacksAreLatchedOnTime : Obligations.TacksAreLatchedOnTime := by
  unfold Obligations.TacksAreLatchedOnTime
  refine ⟨?_, ?_⟩
  · intro s dt ch c
    refine ⟨?_, ?_, ?_, ?_, ?_, ?_⟩
    · intro hdue hspaced
      have hdoes := does_tackPeriodic s dt ch
      rwa [tackPeriodic_of_due hdue, trigger_of_spaced hspaced] at hdoes
    · intro t hdue hlast hclose
      have hdoes := does_tackPeriodic s dt ch
      rwa [tackPeriodic_of_due hdue, trigger_of_close hlast hclose] at hdoes
    · intro t hon hwait hlast hreached
      have hdoes := does_deferredTackLatch s dt ch
      rwa [deferredTack_of_reached hon hwait hlast hreached] at hdoes
    · intro hon hwait hlast
      have hdoes := does_deferredTackLatch s dt ch
      rwa [deferredTack_of_first hon hwait hlast] at hdoes
    · intro hrun hsrc hdue
      have hdoes := does_commandedTack s dt
      rwa [commandedTack_of_due hrun hsrc hdue] at hdoes
    · intro hrun hsrc hold hraised
      have hdoes := does_tackStale s dt
      rwa [tackStale_of_old hrun hsrc hold hraised] at hdoes
  · intro s dt ch c x hdue hspaced hpace
    have hdoes := does_tackPeriodic s dt ch
    rw [tackPeriodic_of_due hdue, trigger_of_spaced hspaced] at hdoes
    obtain ⟨tk, hlatch, hpos, htime, hheld, hvalid, hseq⟩ := latchTack_of_not_pacing c.periodMark hpace
    rw [hlatch] at hdoes
    refine ⟨_, tk, hdoes, ?_, hpos, htime, hheld, hvalid, hseq, ?_, ?_, fun n hn => ?_, fun n hn => ?_, ?_⟩
    · rw [bufferTack_same, setChan_tacks, publishSpeed_tacks]
    · rw [bufferTack_chan, chan_setChan]
      rfl
    · rw [bufferTack_chan, chan_setChan]
      rfl
    · rw [bufferTack_ne _ hn, setChan_tacks, publishSpeed_tacks]
    · rw [bufferTack_chan, chan_setChan_ne _ _ _ _ hn, publishSpeed_chan]
    · rw [publishSpeed_frame]
      rfl

/-- Settles O11: the two branches of the predictor, and the rounding of an instant to its nearest tick. -/
theorem predictionAndRounding : Obligations.PredictionAndRounding := by
  unfold Obligations.PredictionAndRounding
  exact ⟨fun x v a h tau => ⟨predPos_of_le, predPos_of_lt⟩, fun t ht => ofTick_tickOf ht⟩

end Sys2Proof.Proofs.Ephemeris

/-! ### Proofs: the raster path (ch. 8) -/

namespace Sys2Proof.Proofs.Raster
open Sys2Proof Sys2Proof.Machine Sys2Proof.Laws

/-! #### Lists and bits -/

section Values
variable {α : Type}

theorem nth_eq_getD (d : α) (l : List α) (i : Nat) : nth d l i = l.getD i d := by
  induction l generalizing i with
  | nil => rfl
  | cons a t ih =>
    cases i with
    | zero => rfl
    | succ i => exact ih i

theorem setNth_eq_set (l : List α) (i : Nat) (v : α) : setNth l i v = l.set i v := by
  induction l generalizing i with
  | nil => rfl
  | cons a t ih =>
    cases i with
    | zero => rfl
    | succ i => exact congrArg (a :: ·) (ih i)

theorem nth_setNth (d : α) (l : List α) (i j : Nat) (v : α) :
    nth d (setNth l i v) j = if i = j ∧ i < l.length then v else nth d l j := by
  rw [setNth_eq_set, nth_eq_getD, nth_eq_getD, List.getD_eq_getElem?_getD, List.getElem?_set, List.getD_eq_getElem?_getD]
  by_cases hij : i = j
  · subst hij
    by_cases hlen : i < l.length <;> simp [hlen]
  · simp [hij]

/-- Adding 2^i where bit i is 0 carries nothing into the bits above. -/
theorem add_two_pow_div_of_lt {v i j : Nat} (hij : i < j) (hclear : bit v i = false) : (v + 2 ^ i) / 2 ^ j = v / 2 ^ j := by
  obtain ⟨d, rfl⟩ := Nat.exists_eq_add_of_lt hij
  have heven : v / 2 ^ i % 2 ≠ 1 := of_decide_eq_false hclear
  have hnext : (v / 2 ^ i + 1) / 2 = v / 2 ^ i / 2 := by omega
  rw [Nat.pow_succ, Nat.pow_add, Nat.mul_right_comm]
  simp only [← Nat.div_div_eq_div_mul]
  rw [Nat.add_div_right v (Nat.two_pow_pos i), hnext]

/-- Setting one bit clears none. -/
theorem bit_putBit_true {v j : Nat} (i : Nat) (h : bit v j = true) : bit (putBit v i true) j = true := by
  unfold putBit
  by_cases hset : true = bit v i
  · rwa [if_pos hset]
  · have hclear : bit v i = false := by simpa using Ne.symm hset
    rw [if_neg hset, if_pos rfl]
    rcases Nat.lt_trichotomy i j with hlt | rfl | hgt
    · unfold bit
      rw [add_two_pow_div_of_lt hlt hclear]
      exact h
    · exact absurd h.symm hset
    · have hbelow := Nat.testBit_two_pow_add_gt hgt v
      rw [Nat.testBit_eq_decide_div_mod_eq, Nat.testBit_eq_decide_div_mod_eq, Nat.add_comm] at hbelow
      exact hbelow.trans h

end Values

/-! #### The work of an assembly -/

section Assemblies
variable {a : Assembly}

@[simp] theorem put_carry (n : Nat) : (a.put n).carry = a.carry := rfl
@[simp] theorem put_counts (n : Nat) : (a.put n).counts = a.counts := rfl
@[simp] theorem count_fire (k : Nat) : (a.count k).fire = a.fire := rfl
@[simp] theorem count_carry (k : Nat) : (a.count k).carry = a.carry := rfl

theorem get_put_of_get {n x : Nat} (h : a.get x = true) : (a.put n).get x = true := by
  unfold Assembly.get Assembly.put at *
  rw [nth_setNth]
  split
  · next hsame =>
    rw [hsame.1]
    exact bit_putBit_true _ h
  · exact h

theorem count_same {k : Nat} (h : k < a.counts.length) : nth 0 (a.count k).counts k = nth 0 a.counts k + 1 :=
  (nth_setNth _ _ _ _ _).trans (if_pos ⟨rfl, h⟩)

theorem count_ne {k i : Nat} (h : k ≠ i) : nth 0 (a.count k).counts i = nth 0 a.counts i :=
  (nth_setNth _ _ _ _ _).trans (if_neg fun hsame => h hsame.1)

theorem carryOf_congr {b : Assembly} (base : Nat → Nat) (n : Nat) (h : b.carry = a.carry) : b.carryOf base n = a.carryOf base n := by
  unfold Assembly.carryOf
  rw [h]

/-- The assembly in which a donor's carry has risen by one (R215). -/
def carried (a : Assembly) (base : Nat → Nat) (n : Nat) : Assembly := { a with carry := Tab.set a.carry n (a.carryOf base n + 1) }

@[simp] theorem carried_fire (base : Nat → Nat) (n : Nat) : (carried a base n).fire = a.fire := rfl
@[simp] theorem carried_counts (base : Nat → Nat) (n : Nat) : (carried a base n).counts = a.counts := rfl

@[simp] theorem carryOf_carried (base : Nat → Nat) (n : Nat) : (carried a base n).carryOf base n = a.carryOf base n + 1 :=
  congrArg (·.getD (base n)) (tab_find_set _ _ _)

theorem carryOf_carried_ne {base : Nat → Nat} {n i : Nat} (h : i ≠ n) : (carried a base n).carryOf base i = a.carryOf base i :=
  congrArg (·.getD (base i)) (tab_find_set_ne _ _ _ _ h)

end Assemblies

/-! #### Darning of one donor (R214, R215) -/

section Darning
variable {s : Core} {pg : Page} {m : PlaneMap} {base : Nat → Nat} {r : RowGroup} {q : Option RowGroup} {c k : Nat} {a a' : Assembly}

/-- A push sets the bit of one neighbour, a receiver that was free, and does nothing else (R214). -/
theorem pushTo_cases (h : s.pushTo r c a k = some a') :
    ∃ j : Nat, s.isReceiver r j = true ∧ a.get (r.nozzleId j) = false ∧ a' = a.put (r.nozzleId j) := by
  have htry (j : Int)
      (hj : (if 0 ≤ j ∧ j < r.size ∧ s.isReceiver r j.toNat ∧ !a.get (r.nozzleId j.toNat) then some (a.put (r.nozzleId j.toNat)) else none) = some a') :
      ∃ j : Nat, s.isReceiver r j = true ∧ a.get (r.nozzleId j) = false ∧ a' = a.put (r.nozzleId j) := by
    obtain ⟨⟨_, _, hreceiver, hfree⟩, rfl⟩ := Option.ite_some_none_eq_some.mp hj
    exact ⟨j.toNat, hreceiver, by simpa using hfree, rfl⟩
  unfold Core.pushTo at h
  simp only [Option.orElse_eq_or] at h
  split at h <;> rcases Option.or_eq_some_iff.mp h with hfirst | ⟨_, hsecond⟩
  · exact htry _ hfirst
  · exact htry _ hsecond
  · exact htry _ hfirst
  · exact htry _ hsecond

/-- What a donor with an own drop does: nothing where its partner takes the drop; else a push; else its carry rises, or the drop is LOST. -/
theorem pushDonor_of_drop (hdonor : s.isDonor r k = true) (hdrop : s.ownBit pg m r k c = true) :
    s.pushDonor pg m base r q c a k =
      if q.any (fun p => s.partnerOk pg m r p k c) then a
      else match s.pushTo r c a k with
        | some b => b.count 1
        | none => if 15 ≤ a.carryOf base (r.nozzleId k) then a.count 4 else (carried a base (r.nozzleId k)).count 2 := by
  unfold Core.pushDonor
  rw [if_neg (by simp [hdonor, hdrop])]
  cases q <;> rfl

section Drop
variable (hdonor : s.isDonor r k = true) (hdrop : s.ownBit pg m r k c = true)
include hdonor hdrop

theorem pushDonor_of_partner (hpartner : q.any (fun p => s.partnerOk pg m r p k c) = true) : s.pushDonor pg m base r q c a k = a := by
  rw [pushDonor_of_drop hdonor hdrop, if_pos hpartner]

variable (hpartner : q.any (fun p => s.partnerOk pg m r p k c) = false)
include hpartner

theorem pushDonor_of_push (hpush : s.pushTo r c a k = some a') : s.pushDonor pg m base r q c a k = a'.count 1 := by
  rw [pushDonor_of_drop hdonor hdrop, if_neg (by simp [hpartner]), hpush]

theorem pushDonor_of_full (hpush : s.pushTo r c a k = none) (hfull : 15 ≤ a.carryOf base (r.nozzleId k)) :
    s.pushDonor pg m base r q c a k = a.count 4 := by
  rw [pushDonor_of_drop hdonor hdrop, if_neg (by simp [hpartner]), hpush]
  exact if_pos hfull

theorem pushDonor_of_room (hpush : s.pushTo r c a k = none) (hroom : a.carryOf base (r.nozzleId k) < 15) :
    s.pushDonor pg m base r q c a k = (carried a base (r.nozzleId k)).count 2 := by
  rw [pushDonor_of_drop hdonor hdrop, if_neg (by simp [hpartner]), hpush]
  exact if_neg (Nat.not_le.mpr hroom)

end Drop

/-- Step 3 for a donor with an own drop ends in one of four ways: the partner's, a push, a drop LOST, a carry (R214, R215). -/
theorem pushDonor_cases (hdonor : s.isDonor r k = true) (hdrop : s.ownBit pg m r k c = true) :
    s.pushDonor pg m base r q c a k = a ∨ (∃ j, s.pushDonor pg m base r q c a k = (a.put (r.nozzleId j)).count 1) ∨
      s.pushDonor pg m base r q c a k = a.count 4 ∨ s.pushDonor pg m base r q c a k = (carried a base (r.nozzleId k)).count 2 := by
  cases hpartner : q.any (fun p => s.partnerOk pg m r p k c) with
  | true => exact .inl (pushDonor_of_partner hdonor hdrop hpartner)
  | false =>
    cases hpush : s.pushTo r c a k with
    | some a' =>
      obtain ⟨j, _, _, rfl⟩ := pushTo_cases hpush
      exact .inr (.inl ⟨j, pushDonor_of_push hdonor hdrop hpartner hpush⟩)
    | none =>
      rcases Nat.lt_or_ge (a.carryOf base (r.nozzleId k)) 15 with hroom | hfull
      · exact .inr (.inr (.inr (pushDonor_of_room hdonor hdrop hpartner hpush hroom)))
      · exact .inr (.inr (.inl (pushDonor_of_full hdonor hdrop hpartner hpush hfull)))

/-- Only the donor's own carry moves (R215). -/
theorem pushDonor_carryOf_ne {n : Nat} (hdonor : s.isDonor r k = true) (hdrop : s.ownBit pg m r k c = true) (hn : n ≠ r.nozzleId k) :
    (s.pushDonor pg m base r q c a k).carryOf base n = a.carryOf base n := by
  rcases pushDonor_cases (base := base) (q := q) (a := a) hdonor hdrop with h | ⟨j, h⟩ | h | h <;> rw [h]
  · exact carryOf_congr base n ((count_carry 1).trans (put_carry _))
  · exact carryOf_congr base n (count_carry 4)
  · exact carryOf_carried_ne hn

/-- No nozzle that fires is taken out (R216). -/
theorem pushDonor_get {x : Nat} (hdonor : s.isDonor r k = true) (hdrop : s.ownBit pg m r k c = true) (hx : a.get x = true) :
    (s.pushDonor pg m base r q c a k).get x = true := by
  rcases pushDonor_cases (base := base) (q := q) (a := a) hdonor hdrop with h | ⟨j, h⟩ | h | h <;> rw [h]
  · exact hx
  · exact get_put_of_get hx
  · exact hx
  · exact hx

end Darning

/-! #### The assembly of a column (R217) -/

theorem does_columnAssembly (s : State) (dt p e : Nat) : Does (.columnAssembly dt p e) s ((s.core.advance dt).columnAssembly p e) :=
  Fire.does_of_onCore (fun c => (c.advance dt).columnAssembly p e) rfl

/-- The core once the mirrored map changes that fall due with the port's next column have been applied (R410). -/
def afterDue (c : Core) (p : Nat) : Core := if c.pair.due.isEmpty then c else c.applyDue (c.nextAssembly p)

section AssembledColumns
variable (c : Core) (pg : Page) (p : Nat)

/-- The port's next column in a spit band: the band's pattern replaces the result, and no carry changes (R86). -/
def bandCol (b : Band) : Col :=
  let j := c.nextAssembly p
  let f := c.spitBits b.pattern (j - pg.base - b.first) p
  { c.colOf p j with asm := true, spit := some b.pattern, fire := f, free := f }

/-- The same on a standby's shared port: the bits before the release of carries alone. -/
def carryFreeCol : Col :=
  let j := c.nextAssembly p
  let a := c.assemble pg (pg.own c) p (j - pg.base)
  { c.colOf p j with asm := true, fire := a.free, free := a.free }

/-- The same anywhere else: the whole result, the carries as changes of what they were. -/
def ownCol : Col :=
  let j := c.nextAssembly p
  let a := c.assemble pg (pg.own c) p (j - pg.base)
  { c.colOf p j with
    asm := true, fire := a.fire, free := a.free, counts := a.counts, carry := a.carry.map (fun nv => (nv.1, (nv.2 : Int) - c.carryBase pg p j nv.1)) }

/-- The core with the port's next column assembled. -/
def assembled : Core :=
  match c.bandAt pg p (c.nextAssembly p - pg.base) with
  | some b => c.setCol p (bandCol c pg p b)
  | none => if c.isStandby && c.sharedPort p then c.setCol p (carryFreeCol c pg p) else c.setCol p (ownCol c pg p)

end AssembledColumns

section Columns
variable {c0 c : Core} {p e : Nat} {pg : Page}

/-- The port prints, and its next column to assemble lies in a page, below the seam. -/
structure ColumnDue (c : Core) (p : Nat) (pg : Page) : Prop where
  port : p < 64
  inPrint : c.inPrint = true
  active : c.activePort p = true
  page : c.pageOf (c.nextAssembly p) = some pg
  below : c.belowSeam (c.nextAssembly p) = true

/-- It can be assembled: in time, or on a port that the standby only follows, and with all its lines resident. -/
structure ColumnReady (c : Core) (p : Nat) (pg : Page) : Prop extends ColumnDue c p pg where
  inTime : (c.isStandby && c.sharedPort p) = true ∨ c.rasterLate p (c.nextAssembly p) = false
  available : c.nextAssembly p - pg.base < availCols pg (pg.own c)
  resident : c.colResident pg (pg.own c) p (c.nextAssembly p - pg.base) = true

/-- The branches of an assembly once the column is due. -/
theorem columnAssembly_of_due (hc : afterDue c0 p = c) (h : ColumnDue c p pg) :
    c0.columnAssembly p e =
      let j := c.nextAssembly p
      if c.rasterLate p j ∧ !(c.isStandby ∧ c.sharedPort p) then c.rasterMiss p j
      else if availCols pg (pg.own c) ≤ j - pg.base ∨ !c.colResident pg (pg.own c) p (j - pg.base) then c
      else if e = 2 then ((c.setCol p { c.colOf p j with asm := false }).loseCol p j).occur 1363 0
      else if e = 1 then (assembled c pg p).occur 1362 0
      else assembled c pg p := by
  unfold Core.columnAssembly
  rw [show (if c0.pair.due.isEmpty then c0 else c0.applyDue (c0.nextAssembly p)) = c from hc]
  dsimp only
  rw [if_pos ⟨h.port, h.inPrint, h.active⟩]
  simp only [h.page, h.below, assembled, Bool.and_eq_true]
  rfl

/-- A column past its raster deadline is lost, on any port but a standby's shared one (R16, R18). -/
theorem columnAssembly_of_late (hc : afterDue c0 p = c) (h : ColumnDue c p pg) (hown : (c.isStandby && c.sharedPort p) = false)
    (hlate : c.rasterLate p (c.nextAssembly p) = true) : c0.columnAssembly p e = c.rasterMiss p (c.nextAssembly p) := by
  have hhere : (!decide (c.isStandby = true ∧ c.sharedPort p = true)) = true := by
    rcases Bool.and_eq_false_iff.mp hown with hactive | hport
    · simp [hactive]
    · simp [hport]
  rw [columnAssembly_of_due hc h]
  exact if_pos ⟨hlate, hhere⟩

/-- A column that is ready is assembled; an uncorrectable memory error loses it, a corrected one is reported (Table 8-6). -/
theorem columnAssembly_of_ready (hc : afterDue c0 p = c) (h : ColumnReady c p pg) :
    c0.columnAssembly p e =
      if e = 2 then ((c.setCol p { c.colOf p (c.nextAssembly p) with asm := false }).loseCol p (c.nextAssembly p)).occur 1363 0
      else if e = 1 then (assembled c pg p).occur 1362 0
      else assembled c pg p := by
  have htime : ¬ (c.rasterLate p (c.nextAssembly p) = true ∧ (!decide (c.isStandby = true ∧ c.sharedPort p = true)) = true) := by
    rcases h.inTime with hshared | hearly
    · obtain ⟨hstandby, hport⟩ := Bool.and_eq_true_iff.mp hshared
      simp [hstandby, hport]
    · simp [hearly]
  have hlines : ¬ (availCols pg (pg.own c) ≤ c.nextAssembly p - pg.base ∨ (!c.colResident pg (pg.own c) p (c.nextAssembly p - pg.base)) = true) := by
    simp [h.available, h.resident]
  rw [columnAssembly_of_due hc h.toColumnDue]
  exact (if_neg htime).trans (if_neg hlines)

end Columns

/-! #### The statement -/

/-- Settles O22: the branches of an assembly, and the four ways in which Darning of one donor ends. -/
theorem columnsAreAssembled : Obligations.ColumnsAreAssembled := by
  unfold Obligations.ColumnsAreAssembled
  refine ⟨?_, ?_⟩
  · intro s dt p e pg c0 c j k r shared hp hprint hactive hpage hbelow
    have hdue : ColumnDue c p pg := ⟨hp, hprint, hactive, hpage, hbelow⟩
    have hc : afterDue c0 p = c := rfl
    have hdoes : Does (.columnAssembly dt p e) s (c0.columnAssembly p e) := does_columnAssembly s dt p e
    refine ⟨fun hown hlate => ?_, fun htime havail hres => ?_⟩
    · rwa [columnAssembly_of_late hc hdue hown hlate, Fire.rasterMiss_of_late (j := c.nextAssembly p) hlate] at hdoes
    · intro a t
      have hready : ColumnReady c p pg := ⟨hdue, htime, havail, hres⟩
      have ht : assembled c pg p = t := rfl
      rwa [columnAssembly_of_ready hc hready, ht] at hdoes
  · intro s pg m base r q c k a hlen hdonor hdrop b n
    refine ⟨fun hpartner => pushDonor_of_partner hdonor hdrop hpartner, fun hpartner => ⟨fun a' hpush => ?_, fun hpush => ?_⟩,
      fun n' hn => pushDonor_carryOf_ne hdonor hdrop hn, fun x hx => pushDonor_get hdonor hdrop hx⟩
    · have hb : b = a'.count 1 := pushDonor_of_push hdonor hdrop hpartner hpush
      obtain ⟨j, _, _, rfl⟩ := pushTo_cases hpush
      rw [hb]
      exact ⟨count_fire 1, count_carry 1, count_same (by simp [hlen])⟩
    · rcases Nat.lt_or_ge (a.carryOf base n) 15 with hroom | hfull
      · have hb : b = (carried a base n).count 2 := pushDonor_of_room hdonor hdrop hpartner hpush hroom
        rw [hb]
        exact ⟨(count_fire 2).trans (carried_fire base n), fun _ => ⟨carryOf_carried base n, count_same (by simp [hlen]), count_ne (by decide)⟩,
          fun hfull => absurd hroom (Nat.not_lt.mpr hfull)⟩
      · have hb : b = a.count 4 := pushDonor_of_full hdonor hdrop hpartner hpush hfull
        rw [hb]
        exact ⟨count_fire 4, fun hroom => absurd hroom (Nat.not_lt.mpr hfull), fun _ => ⟨count_carry 4, count_same (by simp [hlen])⟩⟩

end Sys2Proof.Proofs.Raster

/-! ### Proofs: Bobbin (ch. 4) -/

namespace Sys2Proof.Proofs.Bobbin
open Sys2Proof Sys2Proof.Machine Sys2Proof.Laws

/-! #### Scaling (R98) -/

theorem scaleE_nearest {x f : Nat} (h : scaleE x f < 0xFFFFFFFF) :
    32768 * scaleE x f ≤ 2 * (x * f) + 16384 ∧ 2 * (x * f) < 32768 * scaleE x f + 16384 := by
  unfold scaleE at h ⊢
  generalize x * f = n at h ⊢
  omega

theorem scaleE_one {x : Nat} (hx : x < 2 ^ 32) : scaleE x 0x4000 = x := by
  unfold scaleE
  omega

/-- Settles O15: what is not held to 32 bits lies within half a step of the exact quotient. -/
theorem energyScalingRoundsToNearest : Obligations.EnergyScalingRoundsToNearest := by
  unfold Obligations.EnergyScalingRoundsToNearest
  intro x f hx _ m
  have hbound : m < 2 ^ 32 := Nat.lt_of_le_of_lt (Nat.min_le_right _ _) (by decide)
  exact ⟨rfl, hbound, scaleE_nearest, scaleE_one hx⟩

/-! #### Commands and time -/

/-- A command answers one next state. -/
theorem does_unique {i : Instr} {s : State} {k k' : Core} (h : Does i s k) (h' : Does i s k') : k = k' := by
  have heq := h.symm.trans h'
  injection heq with hstate
  exact congrArg State.core hstate

theorem advance_zero (c : Core) : c.advance 0 = c := by simp [Core.advance]

theorem does_bobbinUnitStart (s : State) (dt ecc : Nat) : Does (.bobbinUnitStart dt ecc) s ((s.core.advance dt).unitStart ecc) :=
  Fire.does_of_onCore (fun c => (c.advance dt).unitStart ecc) rfl

/-! #### A port that lists a column twice -/

/-- A block whose port 0 lists column 0 twice, among 25 records: the older record settled and lost, the later one due for its re-map. The
statement asks for every state, also one with such a list. -/
def twiceListed : Core :=
  { mode := .config
    ports := [(0, { cols := { col := 0, run := true, settled := true, lost := true } ::
      { col := 0, gated := true, unitsDone := 2 ^ 64 - 1, gateGen := 1 } :: List.replicate 23 { col := 1, settled := true } })] }

/-- The re-map of the later record is the next unit. -/
theorem nextUnit_twiceListed : twiceListed.nextUnit = some (0, 0, remapUnit) := by decide

/-- Its start is noted in the older record, which then leaves the list as a settled one of a lost column. -/
theorem not_started_twiceListed : bit ((twiceListed.unitStart 0).colOf 0 0).units remapUnit = false := by decide

/-- Refutes O14: where a port lists a column twice, the column's record does not show the unit that has started. -/
theorem not_bobbinUnitsAndLoad : ¬ Obligations.BobbinUnitsAndLoad := by
  unfold Obligations.BobbinUnitsAndLoad
  rintro ⟨hunits, -⟩
  obtain ⟨hstart, -⟩ := hunits { core := twiceListed } 0
  rw [advance_zero] at hstart
  obtain ⟨-, k, hdoes, -, -, hstarted, -⟩ := hstart 0 0 remapUnit (by decide) (by decide) (by decide) nextUnit_twiceListed
  have hk : k = twiceListed.unitStart 0 := by
    simpa only [advance_zero] using does_unique hdoes (does_bobbinUnitStart { core := twiceListed } 0 0)
  rw [hk, not_started_twiceListed] at hstarted
  exact absurd hstarted (by decide)

/-! #### A port that lists no column twice -/

theorem bit_putBit_self (v i : Nat) : bit (putBit v i true) i = true := by
  unfold putBit
  by_cases hset : true = bit v i
  · rw [if_pos hset, ← hset]
  · have hclear : ¬ v / 2 ^ i % 2 = 1 := fun h => hset (decide_eq_true h).symm
    rw [if_neg hset, if_pos rfl]
    unfold bit
    rw [Nat.add_div_right v (Nat.two_pow_pos i)]
    exact decide_eq_true (by omega)

/-- The record put into a list is the one found under its column. -/
theorem find_putCol (r : Col) (l : List Col) : (putCol r l).find? (fun x => decide (x.col = r.col)) = some r := by
  induction l with
  | nil => simp [putCol]
  | cons x t ih =>
    unfold putCol
    split
    · rw [List.find?_cons_of_neg (by simp; omega)]
      exact ih
    · split <;> simp

/-- Thinning the front of a list does not lose a record that is kept. -/
theorem find_filter_take_append_drop {keep want : Col → Bool} {r : Col} (hkeep : keep r = true) (l : List Col) (n : Nat)
    (h : l.find? want = some r) : ((l.take n).filter keep ++ l.drop n).find? want = some r := by
  induction l generalizing n with
  | nil => simp at h
  | cons x t ih =>
    cases n with
    | zero => simpa using h
    | succ n =>
      rw [List.take_succ_cons, List.drop_succ_cons]
      by_cases hx : want x = true
      · obtain rfl : x = r := by simpa [List.find?_cons_of_pos hx] using h
        rw [List.filter_cons_of_pos hkeep, List.cons_append, List.find?_cons_of_pos hx]
      · rw [List.find?_cons_of_neg hx] at h
        by_cases hk : keep x = true
        · rw [List.filter_cons_of_pos hk, List.cons_append, List.find?_cons_of_neg hx]
          exact ih n h
        · rw [List.filter_cons_of_neg hk]
          exact ih n h

/-- An unsettled record outlives the pruning of its list. -/
theorem find_pruneCols {want : Col → Bool} {r : Col} (hopen : r.settled = false) {l : List Col} (h : l.find? want = some r) :
    (pruneCols l).find? want = some r := by
  unfold pruneCols
  split
  · exact h
  · exact find_filter_take_append_drop (by simp [hopen]) l _ h

@[simp] theorem port_setPort (c : Core) (p : Nat) (x : Port) : (c.setPort p x).port p = x := by simp [Core.port]

theorem colOf_setCol {c : Core} {p j : Nat} {r : Col} (hcol : r.col = j) (hopen : r.settled = false) : (c.setCol p r).colOf p j = r := by
  subst hcol
  unfold Core.colOf Core.setCol Core.updPort Port.colAt
  rw [port_setPort, find_pruneCols hopen (find_putCol r _)]
  rfl

/-- In a list without doubles a record is the one found under its column. -/
theorem colAt_of_mem {x : Port} {r : Col} (hlist : (x.cols.map Col.col).Nodup) (hr : r ∈ x.cols) : x.colAt r.col = some r := by
  unfold Port.colAt
  generalize x.cols = l at hlist hr ⊢
  induction l with
  | nil => simp at hr
  | cons a t ih =>
    rw [List.map_cons, List.nodup_cons] at hlist
    rcases List.mem_cons.mp hr with rfl | ht
    · simp
    · have hne : a.col ≠ r.col := fun h => hlist.1 (h ▸ List.mem_map_of_mem ht)
      rw [List.find?_cons_of_neg (by simpa using hne)]
      exact ih hlist.2 ht

/-- Picking the earliest of a list takes one of the list. -/
theorem foldl_earliest_mem (l : List (Int × Nat × Nat × Nat)) (a : Int × Nat × Nat × Nat) :
    l.foldl (fun b x => if x.1 < b.1 then x else b) a ∈ a :: l := by
  induction l generalizing a with
  | nil => simp
  | cons x t ih =>
    rw [List.foldl_cons]
    split
    · exact List.mem_cons_of_mem a (ih x)
    · rcases List.mem_cons.mp (ih a) with h | h
      · rw [h]; exact List.mem_cons_self
      · exact List.mem_cons_of_mem a (List.mem_cons_of_mem x h)

/-- A candidate is of a column that its port lists and that has not settled (R92, R115). -/
theorem unsettled_of_candidate {c : Core} {p p' j q : Nat} {d : Int} (h : c.candidate p' = some (d, p, j, q)) :
    ∃ r ∈ (c.port p).cols, r.col = j ∧ r.settled = false := by
  unfold Core.candidate at h
  obtain ⟨r, hr, hsome⟩ := List.exists_of_findSome?_eq_some h
  have hopen : r.settled = false := by
    refine Bool.eq_false_iff.mpr fun hsettled => ?_
    have hunit : ∀ q, c.unitReady p' r q = false := fun q => by simp [Core.unitReady, hsettled]
    have hremap : c.remapReady p' r = false := by simp [Core.remapReady, hsettled]
    have hnone : (List.range (c.nPrim p')).find? (c.unitReady p' r) = none := by simp [hunit]
    simp [hnone, hremap] at hsome
  dsimp only at hsome
  split at hsome
  · obtain ⟨rfl, rfl, rfl, rfl⟩ := by simpa using hsome
    exact ⟨r, hr, rfl, hopen⟩
  · simp at hsome

theorem unsettled_of_nextUnit {c : Core} {p j q : Nat} (h : c.nextUnit = some (p, j, q)) :
    ∃ r ∈ (c.port p).cols, r.col = j ∧ r.settled = false := by
  unfold Core.nextUnit at h
  dsimp only at h
  split at h
  · simp at h
  · rename_i a t hl
    have hmem := foldl_earliest_mem t a
    rw [← hl] at hmem
    obtain ⟨p', -, hcand⟩ := List.mem_filterMap.mp hmem
    refine unsettled_of_candidate (p' := p') (q := q) (d := (t.foldl (fun b x => if x.1 < b.1 then x else b) a).1) ?_
    rw [hcand, ← Option.some.inj h]

/-- What evaluating slots of a column leaves as it was. -/
structure Evaluates (c : Core) (r : Col) (a : Core × Col) : Prop where
  lanes : a.1.lanes = c.lanes
  cycles : a.1.bobCycles = c.bobCycles
  mode : a.1.mode = c.mode
  src : a.1.src = c.src
  spit : a.1.spit = c.spit
  col : a.2.col = r.col
  settled : a.2.settled = r.settled

section Units
variable {c t : Core} {r v : Col}

theorem Evaluates.ite {P : Prop} [Decidable P] {a b : Core × Col} (ha : Evaluates c r a) (hb : Evaluates c r b) :
    Evaluates c r (if P then a else b) := by
  split
  · exact ha
  · exact hb

theorem Evaluates.counted {o : Ob} {i j n : Nat} (h : Evaluates c r (t, v)) : Evaluates c r (t.inc o i j n, v) :=
  ⟨by simpa using h.lanes, by simpa using h.cycles, by simpa using h.mode, by simpa using h.src, by simpa using h.spit, h.col, h.settled⟩

theorem Evaluates.mapped {p e5 : Nat} {es : List Nat} (h : Evaluates c r (t, v)) : Evaluates c r ((t.mapCount p es e5).1, v) := by
  unfold Core.mapCount
  dsimp only
  split
  · exact h.counted
  · split
    · exact h.counted
    · exact h

theorem Evaluates.noted {v' : Col} (h : Evaluates c r (t, v)) (hcol : v'.col = v.col) (hsettled : v'.settled = v.settled) :
    Evaluates c r (t, v') :=
  ⟨h.lanes, h.cycles, h.mode, h.src, h.spit, hcol.trans h.col, hsettled.trans h.settled⟩

theorem evalUnit_evaluates (c : Core) (p : Nat) (r : Col) (q : Nat) : Evaluates c r (c.evalUnit p r q) := by
  unfold Core.evalUnit
  dsimp only
  refine List.foldlRecOn (motive := Evaluates c r) _ _ ⟨rfl, rfl, rfl, rfl, rfl, rfl, rfl⟩ ?_
  rintro ⟨t, v⟩ h a -
  exact .ite h (.ite h.counted (.ite (h.noted rfl rfl) (h.mapped.noted rfl rfl)))

/-- A unit has taken a lane of the block `c` for `n` cycles: what the block `k` after it shows of that, and what it shows as before. -/
structure TakesLane (c : Core) (p j q n : Nat) (k : Core) : Prop where
  lanes : k.lanes = c.lanes ++ [(p, j, q)]
  cycles : k.bobCycles = c.bobCycles + n
  started : bit (k.colOf p j).units q = true
  mode : k.mode = c.mode
  src : k.src = c.src
  spit : k.spit = c.spit

theorem startRemap_takesLane {p j : Nat} (hcol : (c.colOf p j).col = j) (hopen : (c.colOf p j).settled = false) :
    TakesLane c p j remapUnit (c.colOf p j).e5.length (c.startRemap p j) := by
  refine ⟨rfl, rfl, ?_, rfl, rfl, rfl⟩
  have hnow := colOf_setCol (c := c) (p := p) (r := { c.colOf p j with units := putBit (c.colOf p j).units remapUnit true }) hcol hopen
  exact (congrArg (fun x : Col => bit x.units remapUnit) hnow).trans (bit_putBit_self _ _)

/-- A unit is evaluated from its column's record, whatever the history test makes of the record and of the port (R105). -/
theorem startUnit_eq (c : Core) (p j q : Nat) :
    ∃ s r gen, (s = c ∨ s = c.updPort p (fun x => { x with histFrom := j })) ∧
      r.col = (c.colOf p j).col ∧ r.settled = (c.colOf p j).settled ∧
      c.startUnit p j q =
        let v := s.evalUnit p r q
        { v.1.setCol p { v.2 with units := putBit v.2.units q true, gen := gen } with
          lanes := s.lanes ++ [(p, j, q)], bobCycles := v.1.bobCycles + 16 } := by
  refine ⟨_, _, _, ?_, ?_, ?_, rfl⟩
  · split
    · exact .inr rfl
    · exact .inl rfl
  · split <;> rfl
  · split <;> rfl

theorem startUnit_takesLane {p j : Nat} (q : Nat) (hcol : (c.colOf p j).col = j) (hopen : (c.colOf p j).settled = false) :
    TakesLane c p j q 16 (c.startUnit p j q) := by
  obtain ⟨s, r, gen, hs, hrcol, hrsettled, heq⟩ := startUnit_eq c p j q
  have h : Evaluates c r (s.evalUnit p r q) := by
    obtain ⟨hlanes, hcycles, hmode, hsrc, hspit, hvcol, hvsettled⟩ := evalUnit_evaluates s p r q
    rcases hs with rfl | rfl
    · exact ⟨hlanes, hcycles, hmode, hsrc, hspit, hvcol, hvsettled⟩
    · exact ⟨hlanes, hcycles, hmode, hsrc, hspit, hvcol, hvsettled⟩
  have hlanes : s.lanes = c.lanes := by rcases hs with rfl | rfl <;> rfl
  have hnow := colOf_setCol (c := (s.evalUnit p r q).1) (p := p)
    (r := { (s.evalUnit p r q).2 with units := putBit (s.evalUnit p r q).2.units q true, gen := gen })
    (h.col.trans (hrcol.trans hcol)) (h.settled.trans (hrsettled.trans hopen))
  rw [heq]
  exact ⟨congrArg (· ++ [(p, j, q)]) hlanes, congrArg (· + 16) h.cycles,
    (congrArg (fun x : Col => bit x.units q) hnow).trans (bit_putBit_self _ _), h.mode, h.src, h.spit⟩

/-- With the premise that the port lists no column twice, what O14 says of the start of a unit holds. -/
theorem unitStart_of_nodup {p j q : Nat} (hrun : c.running = true) (hmode : c.mode ≠ .safe) (hfree : c.lanes.length < 8)
    (hnext : c.nextUnit = some (p, j, q)) (hlist : ((c.port p).cols.map Col.col).Nodup) :
    c.unitStart 2 = (c.lateCol p j).occur 724 0 ∧
    TakesLane c p j q (if q = 64 then (c.colOf p j).e5.length else 16) (c.unitStart 0) ∧
    c.unitStart 1 = (c.unitStart 0).occur 723 0 := by
  obtain ⟨r, hr, hj, hopen⟩ := unsettled_of_nextUnit hnext
  have hcol : c.colOf p j = r := by
    unfold Core.colOf
    rw [← hj, colAt_of_mem hlist hr]
    rfl
  have hstart : ∀ ecc, c.unitStart ecc =
      if ecc = 2 then (c.lateCol p j).occur 724 0
      else
        let t := if q = remapUnit then c.startRemap p j else c.startUnit p j q
        if ecc = 1 then t.occur 723 0 else t := fun ecc => by
    unfold Core.unitStart
    rw [if_pos ⟨hrun, hmode, hfree⟩, hnext]
  refine ⟨hstart 2, ?_, by rw [hstart 1, hstart 0]; rfl⟩
  rw [hstart 0]
  show TakesLane c p j q _ (if q = remapUnit then c.startRemap p j else c.startUnit p j q)
  by_cases hq : q = remapUnit
  · subst hq
    exact startRemap_takesLane (by rw [hcol, hj]) (by rw [hcol, hopen])
  · rw [if_neg hq, if_neg (show ¬ q = 64 from hq)]
    exact startUnit_takesLane q (by rw [hcol, hj]) (by rw [hcol, hopen])

end Units

end Sys2Proof.Proofs.Bobbin

/-! ### Proofs: head health (ch. 6) -/

namespace Sys2Proof.Proofs.Health
open Sys2Proof Sys2Proof.Machine Sys2Proof.Laws

theorem does_modelStep (s : State) (dt : Nat) : Does (.modelStep dt) s (s.core.advance dt).modelStep :=
  Fire.does_of_onCore (fun c => (c.advance dt).modelStep) rfl

/-! #### A port number that no device has -/

/-- A number under which G_E of a port has the key of T_EST of port 0. -/
def farPort : Nat := 5 * 65536

/-- A block with a first model step to end on port 0 and on a port with the number `farPort`, on which energy has been credited. The device has ports 0 to 63,
but the statement asks for every entry of the table of ports. -/
def withFarPort : Core :=
  { mode := .config, ftAcc := 8192 * 2 ^ 33, ports := [(0, {}), (farPort, { therm := { q := [(0, 2 ^ 24)] } })] }

/-- Before the step G_E of `farPort` is 0, so by it the energy does not move T̂. -/
theorem update_withFarPort :
    let th := (withFarPort.port farPort).therm
    modelUpdate th.t (withFarPort.tSink farPort) (if withFarPort.mode = .safe then 0 else Tab.get 0 th.q th.step) (withFarPort.rd Obj.G_E 0 farPort)
      (withFarPort.rd Obj.A_DECAY 0 farPort) = 419430400 := by decide

/-- In the step port 0 first publishes its T_EST of 6,400 there, and the energy raises T̂ by as much. -/
theorem modelStep_withFarPort : (withFarPort.modelStep.port farPort).therm.t = 419430400 + 6400 := by decide

/-- Refutes O20: a port whose G_E stands where another's T_EST is published does not take the step by its own G_E. -/
theorem not_junctionModelAndSupplies : ¬ Obligations.JunctionModelAndSupplies := by
  unfold Obligations.JunctionModelAndSupplies
  intro h
  obtain ⟨-, hstep, -⟩ := h { core := withFarPort } 0
  rw [Bobbin.advance_zero] at hstep
  obtain ⟨k, hdoes, ht, -⟩ := hstep farPort (by decide) (by decide) (by decide) (by decide) (by decide)
  have hk : k = withFarPort.modelStep := by
    simpa only [Bobbin.advance_zero] using Bobbin.does_unique hdoes (does_modelStep { core := withFarPort } 0)
  rw [hk, modelStep_withFarPort, update_withFarPort] at ht
  exact absurd ht (by decide)

/-! #### A port of the device -/

/-- The objects of a port that a model step reads or publishes. -/
def modelObs : List Ob := [Obj.T_EST, Obj.G_E, Obj.A_DECAY, Obj.T_SINK]

/-- Between `c` and `t` nothing that the model step of port `p` looks at or leaves behind has changed. -/
structure Leaves (p : Nat) (c t : Core) : Prop where
  mode : t.mode = c.mode
  src : t.src = c.src
  log : t.log = c.log
  time : t.ftAcc = c.ftAcc
  port : t.port p = c.port p
  rd : p < 64 → ∀ o ∈ modelObs, t.rd o 0 p = c.rd o 0 p

section Leaving
variable {p q : Nat} {c t u : Core}

theorem Leaves.refl (p : Nat) (c : Core) : Leaves p c c := ⟨rfl, rfl, rfl, rfl, rfl, fun _ _ _ => rfl⟩

theorem Leaves.trans (h : Leaves p c t) (h' : Leaves p t u) : Leaves p c u :=
  ⟨h'.mode.trans h.mode, h'.src.trans h.src, h'.log.trans h.log, h'.time.trans h.time, h'.port.trans h.port,
    fun hp o ho => (h'.rd hp o ho).trans (h.rd hp o ho)⟩

theorem leaves_updPort (h : p ≠ q) (f : Port → Port) : Leaves p c (c.updPort q f) :=
  ⟨rfl, rfl, rfl, rfl, tab_get_set_ne _ _ _ _ _ h, fun _ _ _ => rfl⟩

/-- Storing under a key of no object of the port's model leaves the port. -/
theorem leaves_wr {o : Ob} {i j v : Nat} (h : p < 64 → ∀ m ∈ modelObs, m.key 0 p ≠ o.key i j) : Leaves p c (c.wr o i j v) :=
  ⟨by simp, by simp, by simp, by simp, by simp [Core.port], fun hp m hm => rd_wr_ne c o m i j 0 p v (h hp m hm)⟩

theorem leaves_inc {o : Ob} {i j n : Nat} (h : p < 64 → ∀ m ∈ modelObs, m.key 0 p ≠ o.key i j) : Leaves p c (c.inc o i j n) :=
  have hbump : Leaves p c (c.bump (o.key i j) n) := ⟨rfl, rfl, rfl, rfl, rfl, fun _ _ _ => rfl⟩
  hbump.trans (leaves_wr h)

/-- T_EST of another port, whatever its number, stands where no object of the model of a port below 64 does. -/
theorem leaves_publishT (h : p ≠ q) : Leaves p c (c.publishT q) := by
  unfold Core.publishT Core.wrI
  refine leaves_wr fun hp m hm => ?_
  simp only [modelObs, List.mem_cons, List.not_mem_nil, or_false] at hm
  rcases hm with rfl | rfl | rfl | rfl <;>
    simp only [Ob.key, Obj.T_EST, Obj.G_E, Obj.A_DECAY, Obj.T_SINK, gt_iff_lt, Nat.lt_irrefl, if_false] <;> omega

/-! #### What the ring's frames leave -/

theorem leaves_dropFrame (k : Nat) : Leaves p c (c.dropFrame k) := by
  refine leaves_inc fun hp m hm => ?_
  simp only [modelObs, List.mem_cons, List.not_mem_nil, or_false] at hm
  rcases hm with rfl | rfl | rfl | rfl <;>
    simp [Ob.key, Obj.T_EST, Obj.G_E, Obj.A_DECAY, Obj.T_SINK, Obj.rp_DROPS] <;> omega

theorem leaves_ringStore (k : Nat) (b : List Byte) : Leaves p c (c.ringStore k b) := by
  obtain ⟨queue, free, out, hflush⟩ := ringFlush_frame c k
  have hleft : Leaves p c (c.ringFlush k) := by rw [hflush]; exact ⟨rfl, rfl, rfl, rfl, rfl, fun _ _ _ => rfl⟩
  unfold Core.ringStore
  dsimp only
  split
  · exact hleft.trans ⟨rfl, rfl, rfl, rfl, rfl, fun _ _ _ => rfl⟩
  · exact hleft.trans ⟨rfl, rfl, rfl, rfl, rfl, fun _ _ _ => rfl⟩

theorem leaves_ringTo (typ dst seq frag flags : Nat) (b : List Byte) : Leaves p c (c.ringTo typ dst seq frag flags b) := by
  unfold Core.ringTo
  split
  · split
    · exact leaves_ringStore _ _
    · exact leaves_dropFrame _
  · exact leaves_dropFrame _

theorem leaves_each {l : List Nat} {f : Core → Nat → Core} (h : ∀ t, ∀ i ∈ l, Leaves p t (f t i)) (c : Core) : Leaves p c (c.each l f) :=
  List.foldlRecOn (motive := Leaves p c) l f (.refl p c) fun t ht i hi => ht.trans (h t i hi)

theorem leaves_mirrorActive (rtype rflags ref : Nat) (b : List Byte) : Leaves p c (c.mirrorActive rtype rflags ref b) := by
  have hmessage : ∀ typ dst b, Leaves p c (c.ringMessage typ dst b) := fun typ dst b => by
    have hseq : Leaves p c { c with ringTx := Tab.set c.ringTx typ (c.nextRingSeq typ) } := ⟨rfl, rfl, rfl, rfl, rfl, fun _ _ _ => rfl⟩
    exact hseq.trans (leaves_each (fun t i _ => leaves_ringTo _ _ _ _ _ _) _)
  unfold Core.mirrorActive Core.mirror
  split
  · split
    · exact hmessage _ _ _
    · exact .refl p c
  · exact .refl p c

theorem leaves_mirrorThermal (n : Nat) : Leaves p c (c.mirrorThermal n) :=
  (leaves_mirrorActive _ _ _ _).trans (leaves_mirrorActive _ _ _ _)

end Leaving

/-! #### One step of a model -/

section Steps
variable {p q : Nat} {c t k : Core}

/-- T̂ of a port after its next step (R108). -/
def nextT (c : Core) (p : Nat) : Int :=
  let th := (c.port p).therm
  modelUpdate th.t (c.tSink p) (if c.mode = .safe then 0 else Tab.get 0 th.q th.step) (c.rd Obj.G_E 0 p) (c.rd Obj.A_DECAY 0 p)

/-- Port `p` has ended one step of its model. -/
structure StepTaken (c : Core) (p : Nat) (k : Core) : Prop where
  value : (k.port p).therm.t = nextT c p
  step : (k.port p).therm.step = (c.port p).therm.step + 1
  kept : (k.port p).therm.kept.head? = some (nextT c p)
  prev : (k.port p).therm.prev = (c.port p).therm.prev
  cols : (k.port p).cols = (c.port p).cols
  est : k.rdI Obj.T_EST 0 p = satS 16 (roundDiv (nextT c p) 65536)
  mode : k.mode = c.mode
  src : k.src = c.src
  log : k.log = c.log

theorem nextT_of_leaves (hp : p < 64) (h : Leaves p c t) : nextT t p = nextT c p := by
  have hrd := h.rd hp
  simp only [modelObs, List.forall_mem_cons] at hrd
  obtain ⟨-, hrise, hdecay, hsink, -⟩ := hrd
  simp only [nextT, Core.tSink, Core.rdI, h.port, h.mode, hrise, hdecay, hsink]

/-- What leaves the port before and after its step does not change the step. -/
theorem StepTaken.between {c' k' : Core} (hp : p < 64) (hbefore : Leaves p c c') (h : StepTaken c' p k') (hafter : Leaves p k' k) : StepTaken c p k := by
  have hv := nextT_of_leaves hp hbefore
  have hest : k.rdI Obj.T_EST 0 p = k'.rdI Obj.T_EST 0 p := congrArg (signedOf 16) (hafter.rd hp Obj.T_EST List.mem_cons_self)
  obtain ⟨value, step, kept, prev, cols, est, mode, src, log⟩ := h
  rw [hv, ← hafter.port] at value kept
  rw [hbefore.port, ← hafter.port] at step prev cols
  exact ⟨value, step, kept, prev, cols, hest.trans (hv ▸ est), hafter.mode.trans (mode.trans hbefore.mode),
    hafter.src.trans (src.trans hbefore.src), hafter.log.trans (log.trans hbefore.log)⟩

@[simp] theorem port_publishT : (c.publishT q).port p = c.port p := by simp [Core.publishT, Core.port]

@[simp] theorem port_updPort (f : Port → Port) : (c.updPort p f).port p = f (c.port p) := Bobbin.port_setPort c p _

theorem port_modelStepPort (c : Core) (p : Nat) :
    (c.modelStepPort p).port p = { c.port p with therm := { (c.port p).therm with
      t := nextT c p, kept := (nextT c p :: (c.port p).therm.kept).take 64, step := (c.port p).therm.step + 1
      q := Tab.erase (c.port p).therm.q (c.port p).therm.step } } := by
  unfold Core.modelStepPort
  rw [port_publishT, port_updPort]
  rfl

theorem modelStepPort_taken (c : Core) (p : Nat) : StepTaken c p (c.modelStepPort p) := by
  have hport := port_modelStepPort c p
  refine ⟨by rw [hport], by rw [hport], by rw [hport]; rfl, by rw [hport], by rw [hport], ?_, ?_, ?_, ?_⟩
  · unfold Core.modelStepPort Core.publishT
    rw [Ephemeris.rdI_wrI _ _ _ _ _ (by decide), port_updPort]
    exact Ephemeris.satS_satS 15 _
  · simp [Core.modelStepPort, Core.publishT, Core.updPort]
  · simp [Core.modelStepPort, Core.publishT, Core.updPort]
  · simp [Core.modelStepPort, Core.publishT, Core.updPort]

/-- With no measurement waiting the correction only empties the list of those waiting. -/
theorem modelCorrect_of_none (h : (c.port p).therm.waiting = []) :
    c.modelCorrect p = c.updPort p (fun x => { x with therm := { x.therm with waiting := [] } }) := by
  unfold Core.modelCorrect
  rw [h]
  rfl

theorem waiting_modelStepPort : ((c.modelStepPort p).port p).therm.waiting = (c.port p).therm.waiting := by
  rw [port_modelStepPort]

/-- A single step with no measurement waiting: what follows the update does not touch what the step leaves behind. -/
theorem modelRun_one_taken (h : (c.port p).therm.waiting = []) : StepTaken c p (c.modelRun p 1) := by
  obtain ⟨value, step, kept, prev, cols, est, mode, src, log⟩ := modelStepPort_taken c p
  have hwait : ((c.modelStepPort p).port p).therm.waiting = [] := waiting_modelStepPort.trans h
  unfold Core.modelRun
  dsimp only
  split
  · have hport : ((c.modelStepPort p).modelRest p 0).port p = { (c.modelStepPort p).port p with therm := { ((c.modelStepPort p).port p).therm with
        kept := ((c.modelStepPort p).port p).therm.kept.take 64 } } := port_updPort _
    refine ⟨by rw [hport]; exact value, by rw [hport]; exact step, ?_, by rw [hport]; exact prev, by rw [hport]; exact cols, est, mode, src, log⟩
    rw [hport]
    exact List.head?_take.trans kept
  · unfold Core.modelRun
    rw [modelCorrect_of_none hwait]
    have hport := port_updPort (c := c.modelStepPort p) (p := p) (fun x => { x with therm := { x.therm with waiting := [] } })
    exact ⟨by rw [hport]; exact value, by rw [hport]; exact step, by rw [hport]; exact kept, by rw [hport]; exact prev, by rw [hport]; exact cols,
      est, mode, src, log⟩

/-- However many steps of another port end, with no measurement waiting there they leave this one. -/
theorem leaves_modelRun (hpq : p ≠ q) (n : Nat) (h : (c.port q).therm.waiting = []) : Leaves p c (c.modelRun q n) := by
  induction n generalizing c with
  | zero => exact .refl p c
  | succ n ih =>
    have hstep : Leaves p c (c.modelStepPort q) := (leaves_updPort hpq _).trans (leaves_publishT hpq)
    have hwait : ((c.modelStepPort q).port q).therm.waiting = [] := waiting_modelStepPort.trans h
    unfold Core.modelRun
    dsimp only
    split
    · exact hstep.trans (leaves_updPort hpq _)
    · rw [modelCorrect_of_none hwait]
      exact hstep.trans ((leaves_updPort hpq _).trans (ih (by rw [port_updPort])))

/-- The steps of one port whose end has passed. -/
def endSteps (t : Core) (p : Nat) : Core := t.modelRun p (t.modelNow - (t.port p).therm.step)

theorem leaves_each_endSteps {l : List Nat} (hp : p ∉ l) (hl : l.Nodup) (hwait : ∀ q ∈ l, (c.port q).therm.waiting = []) :
    Leaves p c (c.each l endSteps) := by
  induction l generalizing c with
  | nil => exact .refl p c
  | cons q l ih =>
    obtain ⟨hq, hl⟩ := List.nodup_cons.mp hl
    obtain ⟨hpq, hp⟩ := List.ne_and_not_mem_of_not_mem_cons hp
    have hrun : ∀ r, r ≠ q → Leaves r c (endSteps c q) := fun r hr => leaves_modelRun hr _ (hwait q List.mem_cons_self)
    refine (hrun p hpq).trans (ih hp hl fun r hr => ?_)
    rw [(hrun r (fun h => hq (h ▸ hr))).port]
    exact hwait r (List.mem_cons_of_mem q hr)

/-- With the premise that the port is one the device has, what O20 says of the model step holds. -/
theorem modelStep_taken (hp : p < 64) (hrun : c.running = true) (hmem : p ∈ c.ports.map Prod.fst) (hkeys : (c.ports.map Prod.fst).Nodup)
    (hwait : ∀ q ∈ c.ports.map Prod.fst, (c.port q).therm.waiting = []) (hdue : (c.port p).therm.step + 1 = c.ftNs / 8192) :
    StepTaken c p c.modelStep := by
  obtain ⟨before, after, hsplit⟩ := List.mem_iff_append.mp hmem
  rw [hsplit] at hkeys hwait
  obtain ⟨hbefore, hrest, hapart⟩ := List.nodup_append.mp hkeys
  obtain ⟨hpafter, hafter⟩ := List.nodup_cons.mp hrest
  have hfirst : ∀ r ∈ p :: after, Leaves r c (c.each before endSteps) := fun r hr =>
    leaves_each_endSteps (fun h => hapart r h r hr rfl) hbefore fun q hq => hwait q (List.mem_append_left _ hq)
  generalize hu : c.each before endSteps = u at hfirst
  have hwaitp : ∀ r ∈ p :: after, (u.port r).therm.waiting = [] := fun r hr => by
    rw [(hfirst r hr).port]
    exact hwait r (List.mem_append_right _ hr)
  have hnow := hfirst p List.mem_cons_self
  have hone : endSteps u p = u.modelRun p 1 := by
    unfold endSteps Core.modelNow Core.ftNs Core.ftQ
    rw [hnow.time, hnow.port, show min (c.ftAcc / 2 ^ 17) (2 ^ 80 - 1) / 65536 / 8192 = (c.port p).therm.step + 1 from hdue.symm,
      Nat.add_sub_cancel_left]
  have hlast : Leaves p (u.modelRun p 1) ((u.modelRun p 1).each after endSteps) :=
    leaves_each_endSteps hpafter hafter fun q hq => by
      have hqp : q ≠ p := fun h => hpafter (h ▸ hq)
      rw [(leaves_modelRun hqp 1 (hwaitp p List.mem_cons_self)).port]
      exact hwaitp q (List.mem_cons_of_mem p hq)
  have hports : c.each (c.ports.map Prod.fst) endSteps = (u.modelRun p 1).each after endSteps := by
    rw [hsplit, ← hone, ← hu]
    exact List.foldl_append
  have htaken : StepTaken c p (c.each (c.ports.map Prod.fst) endSteps) := by
    rw [hports]
    exact (modelRun_one_taken (hwaitp p List.mem_cons_self)).between hp hnow hlast
  have hstep : c.modelStep = if c.modelNow % 8 = 0 then (c.each (c.ports.map Prod.fst) endSteps).mirrorThermal c.modelNow
      else c.each (c.ports.map Prod.fst) endSteps := if_neg (by simp [hrun])
  rw [hstep]
  split
  · exact htaken.between hp (.refl p c) (leaves_mirrorThermal _)
  · exact htaken

end Steps
end Sys2Proof.Proofs.Health

/-! ### Proofs: the head link (ch. 5) -/

namespace Sys2Proof.Proofs.Thread
open Sys2Proof Sys2Proof.Machine Sys2Proof.Laws

/-! #### What the commands of Thread answer -/

section Answers
variable (s : State) (dt p : Nat)

theorem does_portBringupStart : Does (.portBringupStart dt) s (s.core.advance dt).bringupStart :=
  Fire.does_of_onCore (fun c => (c.advance dt).bringupStart) rfl

theorem does_hpSettleExpiry : Does (.hpSettleExpiry dt p) s ((s.core.advance dt).hpSettled p) :=
  Fire.does_of_onCore (fun c => (c.advance dt).hpSettled p) rfl

theorem does_laneTrained : Does (.laneTrained dt p) s ((s.core.advance dt).laneTrained p) :=
  Fire.does_of_onCore (fun c => (c.advance dt).laneTrained p) rfl

theorem does_trainTimeout : Does (.trainTimeout dt p) s ((s.core.advance dt).trainTimeout p) :=
  Fire.does_of_onCore (fun c => (c.advance dt).trainTimeout p) rfl

theorem does_retrainTimeout : Does (.retrainTimeout dt p) s ((s.core.advance dt).retrainTimeout p) :=
  Fire.does_of_onCore (fun c => (c.advance dt).retrainTimeout p) rfl

theorem does_echoReceived (rtt : Nat) (b : List Byte) : Does (.echoReceived dt p rtt b) s ((s.core.advance dt).echo p rtt b) :=
  Fire.does_of_onCore (fun c => (c.advance dt).echo p rtt b) rfl

theorem does_statusReceived (b : List Byte) : Does (.statusReceived dt p b) s ((s.core.advance dt).statusIn p b) :=
  Fire.does_of_onCore (fun c => (c.advance dt).statusIn p b) rfl

theorem does_ackTimeout : Does (.ackTimeout dt p) s ((s.core.advance dt).ackTimeout p) :=
  Fire.does_of_onCore (fun c => (c.advance dt).ackTimeout p) rfl

theorem does_statusTimeout : Does (.statusTimeout dt p) s ((s.core.advance dt).statusTimeout p) :=
  Fire.does_of_onCore (fun c => (c.advance dt).statusTimeout p) rfl

theorem does_linkCodeErrors (groups : List Nat) : Does (.linkCodeErrors dt ⟨p, groups⟩) s ((s.core.advance dt).codeErrors p groups) :=
  Fire.does_of_onCore (fun c => (c.advance dt).codeErrors p groups) rfl

theorem does_timePeriodExpiry : Does (.timePeriodExpiry dt p) s ((s.core.advance dt).timePeriod p) :=
  Fire.does_of_onCore (fun c => (c.advance dt).timePeriod p) rfl

theorem does_sbResponse (b : List Byte) : Does (.sbResponse dt p b) s ((s.core.advance dt).sbResponse p b) :=
  Fire.does_of_onCore (fun c => (c.advance dt).sbResponse p b) rfl

theorem does_sbTimeout : Does (.sbTimeout dt p) s ((s.core.advance dt).sbTimeout p) :=
  Fire.does_of_onCore (fun c => (c.advance dt).sbTimeout p) rfl

theorem does_sbPendingRetry_of_due (h : (s.core.advance dt).due .sbPending p = true) :
    Does (.sbPendingRetry dt p) s ((s.core.advance dt).sbSend p) := by
  have answer : Does (.sbPendingRetry dt p) s ((s.core.advance dt).when ((s.core.advance dt).due .sbPending p) (fun t => t.sbSend p)) :=
    Fire.does_of_onCore (fun c => (c.advance dt).when ((c.advance dt).due .sbPending p) (fun t => t.sbSend p)) rfl
  rwa [Core.when, if_pos h] at answer

end Answers

/-- The meaning of TAKE_RETRY_TIMEOUT once the retry is due (R415): TAKE again under the next epoch, or a faulted port. -/
def takeRetried (c : Core) (p : Nat) : Core :=
  let u := (c.disarm .takeRetry p).occur 898 0
  if (u.port p).takes = 1 then (u.wr0 Obj.PAIR_EPOCH ((u.rd0 Obj.PAIR_EPOCH + 1) % 2 ^ 32)).sendTake p ((u.pair.take.getD 0) % 2 ^ 32)
  else ((u.updPort p (fun x => { x with takes := 0 })).portFault p).takeDone

theorem does_takeRetryTimeout_of_due {s : State} {dt p : Nat} (hdue : (s.core.advance dt).due .takeRetry p = true)
    (hrefused : ((s.core.advance dt).port p).takes ≠ 0) (htaking : (s.core.advance dt).rd0 Obj.PAIR_STATE = 4)
    (hlink : (s.core.advance dt).link p ≠ lkAborted) : Does (.takeRetryTimeout dt p) s (takeRetried (s.core.advance dt) p) := by
  have hagain : ((s.core.advance dt).due .takeRetry p && decide ((s.core.port p).takes ≠ 0) && decide (s.core.rd0 Obj.PAIR_STATE = 4)
      && decide (s.core.link p ≠ lkAborted)) = true := by
    simp only [Bool.and_eq_true, decide_eq_true_eq]
    exact ⟨⟨⟨hdue, hrefused⟩, htaking⟩, hlink⟩
  have answer : Does (.takeRetryTimeout dt p) s ((s.core.advance dt).when _ (fun t => takeRetried t p)) :=
    Fire.does_of_onCore (fun c => (c.advance dt).when ((c.advance dt).due .takeRetry p && decide ((c.port p).takes ≠ 0)
        && decide (c.rd0 Obj.PAIR_STATE = 4) && decide (c.link p ≠ lkAborted)) (fun t => takeRetried t p)) rfl
  rwa [Core.when, if_pos hagain] at answer

/-! #### The state of a link and the record of a port -/

section Links
variable (c : Core) (p q v : Nat)

@[simp] theorem link_updPort (f : Port → Port) : (c.updPort p f).link q = c.link q := rfl
@[simp] theorem link_arm (x : Timer) (i d : Nat) : (c.arm x i d).link q = c.link q := rfl
@[simp] theorem link_disarm (x : Timer) (i : Nat) : (c.disarm x i).link q = c.link q := rfl
@[simp] theorem link_emit (k : OutKind) (i : Nat) (a : List Int) (b : List Byte) : (c.emit k i a b).link q = c.link q := rfl

/-- A state of Table 5-15 stored is the port's. -/
theorem link_wr_self (h : v < 256) : (c.wr Obj.port_LINK_STATE p 0 v).link p = v :=
  (rd_wr c _ _ _ _).trans (Nat.mod_eq_of_lt (by simpa [Obj.port_LINK_STATE] using h))

variable {p q} in
/-- The state of one port leaves the others in theirs. -/
theorem link_wr_other (h : q ≠ p) : (c.wr Obj.port_LINK_STATE p 0 v).link q = c.link q :=
  rd_wr_ne c _ _ _ _ _ _ _ (by simp only [Ob.key, Obj.port_LINK_STATE, gt_iff_lt, Nat.lt_irrefl, if_false]; omega)

variable {o : Ob} {j : Nat}

/-- Another object of the ports' records (Table 5-15) stored leaves every port in its state. -/
theorem link_wr (h : o.stride = 64 ∧ ¬ 1 < o.nel ∧ o.idx % 64 ≠ 1 ∧ o.sub + j < 65536) : (c.wr o p j v).link q = c.link q := by
  obtain ⟨hstride, hnel, hidx, hsub⟩ := h
  refine rd_wr_ne c _ _ _ _ _ _ _ ?_
  simp only [Ob.key, Obj.port_LINK_STATE, gt_iff_lt, Nat.lt_irrefl, hnel, if_false, hstride]
  omega

theorem link_inc (h : o.stride = 64 ∧ ¬ 1 < o.nel ∧ o.idx % 64 ≠ 1 ∧ o.sub + j < 65536) : (c.inc o p j v).link q = c.link q :=
  link_wr _ _ _ _ h

@[simp] theorem link_setFlag (b : Nat) (x : Bool) : (c.setFlag p b x).link q = c.link q := link_wr _ _ _ _ (by decide)

@[simp] theorem updPort_updPort (f g : Port → Port) : (c.updPort p f).updPort p g = c.updPort p (fun x => g (f x)) := by
  simp [Core.updPort, Core.setPort, Core.port]

variable {p q} in
theorem port_updPort_ne (h : q ≠ p) (f : Port → Port) : (c.updPort p f).port q = c.port q := tab_get_set_ne _ _ _ _ _ h

@[simp] theorem port_wr (m : Ob) (i k : Nat) : (c.wr m i k v).port p = c.port p := by simp [Core.port]
@[simp] theorem port_inc (m : Ob) (i k n : Nat) : (c.inc m i k n).port p = c.port p := by simp [Core.port]
@[simp] theorem port_arm (x : Timer) (i d : Nat) : (c.arm x i d).port p = c.port p := rfl
@[simp] theorem port_disarm (x : Timer) (i : Nat) : (c.disarm x i).port p = c.port p := rfl
@[simp] theorem port_emit (k : OutKind) (i : Nat) (a : List Int) (b : List Byte) : (c.emit k i a b).port p = c.port p := rfl

variable {c p}

/-- Before ENUM no conversation is held. -/
theorem sbUp_of_align (h : c.link p = lkAlign) : c.sbUp p = false := by simp [Core.sbUp, h, lkAlign, lkEnum, lkReady, lkStandby]

end Links

/-! #### Bring-up (R145) -/

section BringUp
variable {c : Core} {p : Nat}

/-- The record with which a port begins a bring-up. -/
def beginning (c : Core) (p : Nat) (x : Port) : Port :=
  { x with
    trainFails := 0, echoes := [], finalTime := false, timeFaults := 0, powerAt := c.clk, seq := 0, syncSince := false, failedResumes := 0
    enumerated := false, accTop := none, held := 0, abortCol := none, takes := 0, before := 0, gWant := c.rd Obj.port_PHASE_GROUPS p 0
    sbHeld := false, timeHeld := 0 }

/-- The core whose port has entered POWER from OFF: its head power is on and nothing of an earlier die is known. -/
def powered (c : Core) (p : Nat) : Core :=
  ((((c.updPort p (beginning c p)).wr Obj.port_LINK_STATE p 0 lkPower).wr Obj.port_DONE_COL p 0 0xFFFFFFFF).emit .headPower p [1] []).arm .hpSettle p
    (us (c.rd Obj.port_HP_SETTLE p 0))

/-- The lowest enabled port that is OFF is powered while a place for bring-up is free. -/
theorem bringupStart_of_first
    (hfirst : allPorts.find? (fun p => c.rdB Obj.port_PORT_ENABLE p 0 && decide (c.link p = lkOff) && c.strapAllows p) = some p)
    (hmay : c.mayBringUp = true) (hplace : (allPorts.filter c.inBringup).length < c.rd0 Obj.ENUM_PARALLEL) : c.bringupStart = powered c p := by
  unfold Core.bringupStart
  simp only [hfirst]
  exact if_neg (by simp [hmay, hplace])

theorem link_powered : (powered c p).link p = lkPower := by
  unfold powered
  rw [link_arm, link_emit, link_wr _ _ _ _ (by decide), link_wr_self _ _ _ (by decide)]

theorem link_powered_ne {q : Nat} (h : q ≠ p) : (powered c p).link q = c.link q := by
  unfold powered
  rw [link_arm, link_emit, link_wr _ _ _ _ (by decide), link_wr_other _ _ h, link_updPort]

theorem port_powered : (powered c p).port p = beginning c p (c.port p) := by simp [powered, Health.port_updPort]

theorem port_powered_ne {q : Nat} (h : q ≠ p) : (powered c p).port q = c.port q := by simp [powered, port_updPort_ne c h]

/-- DONE_COL counts from the column before the first. -/
theorem doneCol_powered : (powered c p).rd Obj.port_DONE_COL p 0 = 0xFFFFFFFF := by
  unfold powered
  rw [rd_arm]
  exact rd_wr _ _ _ _ _

theorem powered_frame :
    powered c p = { c with objs := (powered c p).objs, ports := (powered c p).ports, out := (powered c p).out, timers := (powered c p).timers } := by
  unfold powered
  rw [Ephemeris.wr_of_not_retained _ Obj.port_DONE_COL _ _ _ (by decide), Ephemeris.wr_of_not_retained _ Obj.port_LINK_STATE _ _ _ (by decide)]
  rfl

theorem hpSettled_of_due (hlink : c.link p = lkPower) (hdue : c.due .hpSettle p = true) :
    c.hpSettled p = ((c.disarm .hpSettle p).wr Obj.port_LINK_STATE p 0 lkTrain).arm .linkState p (ms 10) := if_pos ⟨hlink, hdue⟩

/-- The core whose port has gone back from TRAIN to POWER, with one failed training more. -/
def poweredAgain (c : Core) (p : Nat) : Core :=
  (((c.disarm .linkState p).updPort p (fun x => { x with trainFails := (c.port p).trainFails + 1, powerAt := c.clk })).wr
    Obj.port_LINK_STATE p 0 lkPower).arm .hpSettle p (us (c.rd Obj.port_HP_SETTLE p 0))

/-- A training that times out goes back to POWER, the third time in a row to FAULT. -/
theorem trainTimeout_of_due (hlink : c.link p = lkTrain) (hdue : c.due .linkState p = true) :
    c.trainTimeout p =
      if 2 ≤ (c.port p).trainFails then
        ((c.disarm .linkState p).updPort p (fun x => { x with trainFails := (c.port p).trainFails + 1 })).portFault p
      else poweredAgain c p := by
  unfold Core.trainTimeout
  dsimp only
  rw [if_pos ⟨hlink, hdue⟩, updPort_updPort]
  exact ite_congr (propext Nat.succ_le_succ_iff) (fun _ => rfl) (fun _ => rfl)

theorem link_poweredAgain : (poweredAgain c p).link p = lkPower := by
  unfold poweredAgain
  rw [link_arm, link_wr_self _ _ _ (by decide)]

theorem port_poweredAgain :
    (poweredAgain c p).port p = { c.port p with trainFails := (c.port p).trainFails + 1, powerAt := c.clk } := by
  simp [poweredAgain, Health.port_updPort]

theorem poweredAgain_frame :
    poweredAgain c p = { c with objs := (poweredAgain c p).objs, ports := (poweredAgain c p).ports, timers := (poweredAgain c p).timers } := by
  unfold poweredAgain
  rw [Ephemeris.wr_of_not_retained _ Obj.port_LINK_STATE _ _ _ (by decide)]
  rfl

theorem retrainTimeout_of_due (hlink : c.link p = lkRetrain) (hdue : c.due .linkState p = true) : c.retrainTimeout p = c.portFault p :=
  if_pos ⟨hlink, hdue⟩

/-! #### The eight echo requests (R127) -/

/-- What `n` echo requests change on a port: each puts its TIME frame and the code groups of that frame on the port's lane. -/
structure EchoesSent (p n : Nat) (c k : Core) : Prop where
  sent : ∃ l, k.out = l ++ c.out ∧ l.length = 2 * n ∧ l.all (fun o => decide (o.port = p ∧ (o.kind = .timeFrame ∨ o.kind = .codeGroups))) = true ∧
    (l.filter (fun o => decide (o.kind = .timeFrame))).length = n
  objs : k.objs = c.objs
  trainFails : (k.port p).trainFails = (c.port p).trainFails
  echoes : (k.port p).echoes = (c.port p).echoes

theorem EchoesSent.trans {m n : Nat} {t k : Core} (h : EchoesSent p m c t) (h' : EchoesSent p n t k) : EchoesSent p (m + n) c k := by
  obtain ⟨l, hout, hlength, hall, htimes⟩ := h.sent
  obtain ⟨l', hout', hlength', hall', htimes'⟩ := h'.sent
  refine ⟨⟨l' ++ l, by rw [hout', hout, List.append_assoc], ?_, by rw [List.all_append, hall, hall']; rfl, ?_⟩,
    h'.objs.trans h.objs, h'.trainFails.trans h.trainFails, h'.echoes.trans h.echoes⟩
  · rw [List.length_append]; omega
  · rw [List.filter_append, List.length_append]; omega

theorem EchoesSent.link {n : Nat} {k : Core} (h : EchoesSent p n c k) (q : Nat) : k.link q = c.link q := rd_congr k c _ _ _ h.objs

theorem laneFrame_echoesSent (more : List Int) (b : List Byte) : EchoesSent p 1 c (c.laneFrame p .timeFrame more b) := by
  have hport : (c.laneFrame p .timeFrame more b).port p =
      { c.port p with laneFree := c.laneAt p + symbols (b.length + 2), txPlus := (frameGroups (c.port p).txPlus b).2 } := Health.port_updPort _
  exact ⟨⟨[⟨.timeFrame, p, (c.laneAt p : Int) :: more, b⟩, ⟨.codeGroups, p, (frameGroups (c.port p).txPlus b).1, []⟩], rfl, rfl, by simp, rfl⟩, rfl,
    by rw [hport], by rw [hport]⟩

theorem sendEchoes_echoesSent : EchoesSent p 8 c (c.sendEchoes p) := by
  have hlist : ∀ (l : List Nat) (c : Core), EchoesSent p l.length c
      (c.each l (fun t _ => t.laneFrame p .timeFrame [] (timeFrame 3 (tickQ8 (t.laneAt p))))) := fun l => by
    induction l with
    | nil => exact fun c => ⟨⟨[], rfl, rfl, rfl, rfl⟩, rfl, rfl, rfl⟩
    | cons _ l ih =>
      intro c
      rw [List.length_cons, Nat.add_comm]
      exact (laneFrame_echoesSent _ _).trans (ih _)
  exact hlist (List.range 8) c

/-- The core whose port has gone from TRAIN to ALIGN and is about to send its echo requests. -/
def aligning (c : Core) (p : Nat) : Core :=
  (((c.updPort p (fun x => { x with txPlus := false, rxPlus := false, rxErr := 0 })).disarm .linkState p).wr Obj.port_LINK_STATE p 0 lkAlign).updPort p
    (fun x => { x with trainFails := 0, echoes := [], finalTime := false })

theorem laneTrained_of_train (hp : p < 64) (hlink : c.link p = lkTrain) :
    c.laneTrained p = ((aligning c p).sendEchoes p).arm .statusWait p (us 100) := by
  unfold Core.laneTrained
  dsimp only
  rw [if_pos hp, if_neg (Nat.not_le.mpr hp), if_pos (by simpa using hlink)]
  rfl

theorem link_aligning : (aligning c p).link p = lkAlign := by
  unfold aligning
  rw [link_updPort, link_wr_self _ _ _ (by decide)]

theorem out_aligning : (aligning c p).out = c.out := by
  unfold aligning Core.updPort
  simp

theorem port_aligning : (aligning c p).port p =
    { c.port p with txPlus := false, rxPlus := false, rxErr := 0, trainFails := 0, echoes := [], finalTime := false } := by
  simp [aligning, Health.port_updPort]

/-- A lane trained again in RETRAIN sends the echo requests, and the port stays in RETRAIN. -/
theorem laneTrained_of_retrain (hp : p < 64) (hlink : c.link p = lkRetrain) :
    c.laneTrained p =
      (c.updPort p (fun x => { x with txPlus := false, rxPlus := false, rxErr := 0, echoes := [], finalTime := false })).sendEchoes p := by
  have hnot : ¬ lkRetrain = lkTrain := by decide
  unfold Core.laneTrained
  dsimp only
  rw [if_pos hp, if_neg (Nat.not_le.mpr hp), link_updPort, hlink, if_neg hnot, if_pos rfl, updPort_updPort]

end BringUp

/-- Settles O16, clause by clause from the steps of Table 5-12 and from what the eight echo requests send. -/
theorem bringUpStepsFollow : Obligations.BringUpStepsFollow := by
  unfold Obligations.BringUpStepsFollow
  intro s dt p c
  have htrained : Does (.laneTrained dt p) s (c.laneTrained p) := does_laneTrained s dt p
  have htimeout : Does (.trainTimeout dt p) s (c.trainTimeout p) := does_trainTimeout s dt p
  refine ⟨?_, ?_, ?_, ?_, ?_, ?_, ?_⟩
  · intro hfirst hmay hplace _
    have hdoes : Does (.portBringupStart dt) s c.bringupStart := does_portBringupStart s dt
    rw [bringupStart_of_first hfirst hmay hplace] at hdoes
    exact ⟨powered c p, hdoes, link_powered, doneCol_powered, by simp [powered, Core.updPort], armed_arm _ _ _ _, by rw [port_powered]; rfl,
      fun _ => port_powered_ne, fun _ _ => link_powered_ne, powered_frame⟩
  · intro _ hlink hdue
    have hdoes : Does (.hpSettleExpiry dt p) s (c.hpSettled p) := does_hpSettleExpiry s dt p
    rw [hpSettled_of_due hlink hdue] at hdoes
    refine ⟨_, hdoes, ?_, armed_arm _ _ _ _, fun q _ hq => ?_, ?_⟩
    · rw [link_arm, link_wr_self _ _ _ (by decide)]
    · rw [link_arm, link_wr_other _ _ hq, link_disarm]
    · rw [Ephemeris.wr_of_not_retained _ Obj.port_LINK_STATE _ _ _ (by decide)]
      rfl
  · intro hp hlink
    rw [laneTrained_of_train hp hlink] at htrained
    have hsent : EchoesSent p 8 (aligning c p) ((aligning c p).sendEchoes p) := sendEchoes_echoesSent
    obtain ⟨l, hout, hlength, hall, htimes⟩ := hsent.sent
    rw [out_aligning] at hout
    refine ⟨_, htrained, ?_, ?_, ?_, ?_, ?_, ?_, armed_arm _ _ _ _⟩
    · rw [link_arm, hsent.link, link_aligning]
    · rw [port_arm, hsent.trainFails, port_aligning]
    · rw [port_arm, hsent.echoes, port_aligning]
    · rw [arm_out, hout, List.take_left' hlength]
      exact hall
    · rw [arm_out, hout, List.filter_append, List.length_append, htimes, Nat.add_comm]
    · rw [arm_out, hout, List.drop_left' hlength]
  · intro hp hlink
    rwa [laneTrained_of_retrain hp hlink] at htrained
  · intro _ hlink hdue hfew
    rw [trainTimeout_of_due hlink hdue, if_neg (Nat.not_le.mpr hfew)] at htimeout
    exact ⟨poweredAgain c p, htimeout, link_poweredAgain, by rw [port_poweredAgain], armed_arm _ _ _ _, poweredAgain_frame⟩
  · intro hlink hdue hmany
    rwa [trainTimeout_of_due hlink hdue, if_pos hmany] at htimeout
  · intro hlink hdue
    have hdoes : Does (.retrainTimeout dt p) s (c.retrainTimeout p) := does_retrainTimeout s dt p
    rwa [retrainTimeout_of_due hlink hdue] at hdoes

/-! #### Echoes (R127) -/

section Measured
variable {c : Core} {p : Nat} {b : List Byte}

/-- A good echo on a port that measures its link is gathered; with the eighth the link delay is known. -/
theorem echo_of_good {rtt : Nat} (hp : p < 64) (hlink : c.link p = lkAlign ∨ c.link p = lkRetrain) (hroom : (c.port p).echoes.length < 8)
    (hgood : goodFrame 0x83 16 b = true) :
    c.echo p rtt b =
      let es := (c.port p).echoes ++ [fourD rtt (leAt b 4 4)]
      let t := c.updPort p (fun y => { y with echoes := es })
      if es.length = 8 then t.echoesDone p (sumI es) else t := by
  have hmeasures : ¬ ((!decide (c.link p = lkAlign ∨ c.link p = lkRetrain)) = true ∨ 8 ≤ (c.port p).echoes.length) := by
    simp [hlink, hroom]
  unfold Core.echo
  dsimp only
  rw [if_neg (Nat.not_le.mpr hp), if_neg hmeasures, if_neg (by simp [hgood])]

/-! #### STATUS (R123, R130) -/

theorem statusIn_of_damaged (hp : p < 64) (hrun : c.running = true) (hlink : c.link p = lkReady) (hbad : goodFrame 0x81 32 b = false) :
    c.statusIn p b = c.badFrame p := by
  unfold Core.statusIn
  dsimp only
  rw [hlink, if_neg (by simp [hrun, hp, lkReady, lkOff, lkPower, lkTrain, lkFault, lkRetrain]), if_pos (by simp [hbad])]

/-- The core that has noted what a STATUS reports of its port's link and buffer. -/
def noted (c : Core) (p : Nat) (b : List Byte) : Core :=
  (((c.wr Obj.port_LINK_ERR p 2 (leAt b 24 2)).wr Obj.port_LINK_ERR p 3 (leAt b 26 2)).updPort p
    (fun x => { x with held := leAt b 20 1 % 8, statusAt := some c.clk })).arm .statusWait p (us 100)

theorem link_noted : (noted c p b).link p = c.link p := by
  unfold noted
  rw [link_arm, link_updPort, link_wr _ _ _ _ (by decide), link_wr _ _ _ _ (by decide)]

theorem port_noted : (noted c p b).port p = { c.port p with held := leAt b 20 1 % 8, statusAt := some c.clk } := by
  simp [noted, Health.port_updPort]

/-- Before the final REALIGN TIME the check of the alignment waits. -/
theorem alignCheck_of_not_final (h : (c.port p).finalTime = false) (fault : Bool) : c.alignCheck p fault = (c, false) :=
  if_pos (.inl (by simp [h]))

/-- A port in ALIGN follows no input yet: only ACTIVE_B is noted. -/
theorem followInput_of_align (h : c.link p = lkAlign) (activeB : Bool) (held done cfg : Nat) :
    c.followInput p activeB held done cfg = c.setFlag p 3 activeB := by
  have hstandby : ¬ lkAlign = lkStandby := by decide
  have hready : ¬ lkAlign = lkReady := by decide
  unfold Core.followInput
  simp only [link_setFlag, h, hstandby, hready, false_and, if_false, ite_self]

/-- A good STATUS without faults on a port in ALIGN whose final TIME is still to leave is noted. -/
theorem statusIn_of_align (hp : p < 64) (hrun : c.running = true) (hlink : c.link p = lkAlign) (hfinal : (c.port p).finalTime = false)
    (hgood : goodFrame 0x81 32 b = true) (htime : bit (leAt b 1 1) 1 = false) (hinactive : bit (leAt b 1 1) 3 = false)
    (hlock : bit (leAt b 1 1) 5 = false) : c.statusIn p b = (noted c p b).setFlag p 3 (bit (leAt b 1 1) 0) := by
  have hnoted : (noted c p b).link p = lkAlign := link_noted.trans hlink
  have hcheck : (noted c p b).alignCheck p false = (noted c p b, false) := alignCheck_of_not_final (by rw [port_noted]; exact hfinal) false
  have hset : ((noted c p b).setFlag p 3 (bit (leAt b 1 1) 0)).link p = lkAlign := (link_setFlag _ _ _ _ _).trans hnoted
  have hquiet : ((noted c p b).setFlag p 3 (bit (leAt b 1 1) 0)).sbUp p = false := sbUp_of_align hset
  have hopen : ¬ (64 ≤ p ∨ (!c.running) = true ∨ lkAlign = lkOff ∨ lkAlign = lkPower ∨ lkAlign = lkTrain ∨ lkAlign = lkFault ∨
      (lkAlign = lkRetrain ∧ (!(c.port p).finalTime) = true)) := by
    simp [hrun, hp, lkAlign, lkOff, lkPower, lkTrain, lkFault, lkRetrain]
  have hnot : ¬ lkAlign = lkAborted := by decide
  unfold Core.statusIn
  dsimp only
  rw [hlink, if_neg hopen, if_neg (by simp [hgood]), if_neg hnot]
  simp only [htime, hlock, hinactive, Bool.false_eq_true, or_self, if_false]
  rw [← noted, hcheck, followInput_of_align hnoted, if_pos (.inl hset)]
  split <;> simp [hquiet]

/-! #### Silence and code errors (R123, R136, R137) -/

theorem ackTimeout_of_due {r : Col} (hdue : c.due .ackWait p = true) (hr : (c.port p).outstanding = some r) :
    c.ackTimeout p = (((c.disarm .ackWait p).inc Obj.port_NAK_COUNT p 12 1).resend p r).lanePump p := by
  unfold Core.ackTimeout
  dsimp only
  rw [if_pos hdue, port_inc, port_disarm, hr]

theorem statusTimeout_of_due (hdue : c.due .statusWait p = true) (hlink : c.link p = lkAlign ∨ c.sbUp p = true) :
    c.statusTimeout p = c.enterRetrain p := if_pos ⟨hdue, hlink⟩

theorem timePeriod_of_due (hdue : c.due .timePeriod p = true) (hup : c.sbUp p = true) : c.timePeriod p = c.sendTime p false false :=
  if_pos ⟨hdue, hup⟩

theorem link_rxGroup (g : Nat) : (c.rxGroup p g).link p = c.link p := by
  unfold Core.rxGroup
  dsimp only
  split
  · rw [link_inc _ _ _ _ (by decide), link_updPort]
  · rw [link_updPort]

theorem link_badFrame : (c.badFrame p).link p = c.link p := link_inc _ _ _ _ (by decide)

/-- Code groups received leave the port in its state. -/
theorem link_rxGroups (groups : List Nat) (frame hurt : Bool) (c : Core) : (Core.rxGroups p groups frame hurt c).link p = c.link p := by
  induction groups generalizing frame hurt c with
  | nil => cases hurt with
    | false => rfl
    | true => exact link_badFrame
  | cons g l ih =>
    unfold Core.rxGroups
    dsimp only
    split
    · rw [ih]
      split
      · rw [link_badFrame, link_rxGroup]
      · rw [link_rxGroup]
    · split <;> rw [ih, link_rxGroup]
    · rw [ih, link_rxGroup]

/-- A group with a code error counts one in the first element of LINK_ERR. -/
theorem linkErr_rxGroup (g : Nat) : (c.rxGroup p g).rd Obj.port_LINK_ERR p 0 =
    if codeError (c.port p).rxPlus g then (c.rd Obj.port_LINK_ERR p 0 + 1) % 2 ^ 32 else c.rd Obj.port_LINK_ERR p 0 := by
  unfold Core.rxGroup
  dsimp only
  split
  · exact rd_wr _ _ _ _ _
  · rfl

/-- A port in ALIGN, ENUM, READY or STANDBY has a link that works. -/
theorem link_of_works (h : c.link p = lkAlign ∨ c.sbUp p = true) : c.link p ≠ lkOff ∧ c.link p ≠ lkFault := by
  have hstates : c.link p = lkAlign ∨ c.link p = lkEnum ∨ c.link p = lkReady ∨ c.link p = lkStandby := by simpa [Core.sbUp] using h
  rcases hstates with h | h | h | h <;> rw [h] <;> decide

theorem works_congr {t : Core} (ht : t.link p = c.link p) (h : c.link p = lkAlign ∨ c.sbUp p = true) : t.link p = lkAlign ∨ t.sbUp p = true := by
  unfold Core.sbUp at h ⊢
  rwa [ht]

/-- Eight code errors within 64 symbols take a link that works to RETRAIN. -/
theorem codeErrors_of_works {groups : List Nat} (hp : p < 64) (hworks : c.link p = lkAlign ∨ c.sbUp p = true) :
    c.codeErrors p groups =
      let t := Core.rxGroups p groups false false c
      if 8 ≤ popCount 64 (t.port p).rxErr then (t.updPort p (fun x => { x with rxErr := 0 })).enterRetrain p else t := by
  have hlink : ¬ (64 ≤ p ∨ c.link p = lkOff ∨ c.link p = lkFault) := by simp [hp, link_of_works hworks]
  have hstill := works_congr (t := (Core.rxGroups p groups false false c).updPort p (fun x => { x with rxErr := 0 }))
    ((link_updPort _ _ _ _).trans (link_rxGroups groups false false c)) hworks
  unfold Core.codeErrors
  dsimp only
  rw [if_neg hlink, if_pos hstill]

end Measured

/-- Settles O17, clause by clause from the meanings of an echo, a STATUS, an expired deadline and received code groups. -/
theorem linkIsMeasuredAndWatched : Obligations.LinkIsMeasuredAndWatched := by
  unfold Obligations.LinkIsMeasuredAndWatched
  intro s dt p c
  have hecho : ∀ rtt b, Does (.echoReceived dt p rtt b) s (c.echo p rtt b) := does_echoReceived s dt p
  have hstatus : ∀ b, Does (.statusReceived dt p b) s (c.statusIn p b) := does_statusReceived s dt p
  refine ⟨?_, ?_, ?_, ?_, ?_, ?_, ?_, linkErr_rxGroup, ?_⟩
  · intro rtt b hp hlink hfew hgood
    have hdoes := hecho rtt b
    rw [echo_of_good hp hlink (by omega) hgood] at hdoes
    dsimp only at hdoes
    rwa [if_neg (by rw [List.length_append, List.length_singleton]; omega)] at hdoes
  · intro rtt b es hp hlink hseven hgood
    have hdoes := hecho rtt b
    rw [echo_of_good hp hlink (by omega) hgood] at hdoes
    dsimp only at hdoes
    rwa [if_pos (by rw [List.length_append, hseven]; rfl)] at hdoes
  · intro b hp hrun hlink hbad
    have hdoes := hstatus b
    rwa [statusIn_of_damaged hp hrun hlink hbad] at hdoes
  · intro b f hp hrun hlink hfinal hgood htime hinactive hlock
    have hdoes := hstatus b
    rwa [statusIn_of_align hp hrun hlink hfinal hgood htime hinactive hlock] at hdoes
  · intro hdue r hr
    have hdoes : Does (.ackTimeout dt p) s (c.ackTimeout p) := does_ackTimeout s dt p
    rwa [ackTimeout_of_due hdue hr] at hdoes
  · intro hdue hlink
    have hdoes : Does (.statusTimeout dt p) s (c.statusTimeout p) := does_statusTimeout s dt p
    rwa [statusTimeout_of_due hdue hlink] at hdoes
  · intro groups hp hworks
    have hdoes : Does (.linkCodeErrors dt ⟨p, groups⟩) s (c.codeErrors p groups) := does_linkCodeErrors s dt p groups
    rwa [codeErrors_of_works hp hworks] at hdoes
  · intro hdue hup
    have hdoes : Does (.timePeriodExpiry dt p) s (c.timePeriod p) := does_timePeriodExpiry s dt p
    rwa [timePeriod_of_due hdue hup] at hdoes

/-! #### The sideband (R138, R139) -/

section Sideband
variable {c : Core} {p : Nat} {b : List Byte} {r : SbReq}

/-- A whole, good response has reached a port that holds conversations and has a request outstanding. -/
structure ResponseIn (c : Core) (p : Nat) (b : List Byte) (r : SbReq) : Prop where
  port : p < 64
  up : c.sbUp p = true
  length : leAt b 6 2 ≤ 256
  good : goodFrame 0x82 (16 + leAt b 6 2) b = true
  request : (c.port p).req = some r

/-- The response names the request: its SEQ, CONV, OP and STEP, and of a SYNC the epoch. -/
def matchesReq (b : List Byte) (r : SbReq) : Bool :=
  decide (leAt b 1 1 = r.seq ∧ leAt b 2 1 = r.conv ∧ leAt b 3 1 = r.op ∧ leAt b 4 2 = r.step) &&
    (decide (r.op ≠ opSync) || decide (leAt ((b.drop 12).take (leAt b 6 2)) 0 4 = r.arg))

theorem sbResponse_of_in (h : ResponseIn c p b r) :
    c.sbResponse p b =
      if matchesReq b r then c.sbMatched p r (leAt b 8 1) (leAt b 8 4) ((b.drop 12).take (leAt b 6 2)) else c.sbUnmatched p := by
  unfold Core.sbResponse
  dsimp only
  rw [if_neg (by simp [h.port, h.up]), if_neg (by simp [h.length, h.good]), h.request]
  rfl

/-- What the answer to a conversation's request brings on goes by its status (Table 5-8). -/
theorem sbMatched_of_conv {v : Conv} (hop : r.op ≠ opSync) (hv : (c.port p).conv = some v) (st result : Nat) (rsp : List Byte) :
    c.sbMatched p r st result rsp =
      let t := c.disarm .sbWait p
      if st = 0 then t.stepDone p v result rsp
      else if st = 1 then t.arm .sbPending p (us 10)
      else if st = 3 ∨ st = 4 then t.convFails p v st
      else if st = 5 then t.portFault p
      else t.sync p true := by
  unfold Core.sbMatched
  dsimp only
  rw [if_neg hop, port_disarm, hv]

theorem sbTimeout_of_due (hr : (c.port p).req = some r) (hdue : c.due .sbWait p = true) :
    c.sbTimeout p =
      if 2 ≤ r.tries then (c.disarm .sbWait p).sync p true
      else (c.updPort p (fun x => { x with req := some { r with tries := r.tries + 1 } })).sbSend p := by
  unfold Core.sbTimeout
  rw [hr]
  exact if_neg (by simp [hdue])

end Sideband

/-- Settles O18: a response is taken or discarded by whether it names the request, and an expired deadline sends again or gives up. -/
theorem sidebandAnswersAndTimeouts : Obligations.SidebandAnswersAndTimeouts := by
  unfold Obligations.SidebandAnswersAndTimeouts
  intro s dt p c
  have hresponse : ∀ b, Does (.sbResponse dt p b) s (c.sbResponse p b) := does_sbResponse s dt p
  refine ⟨?_, ?_, ?_, does_sbPendingRetry_of_due s dt p, does_takeRetryTimeout_of_due⟩
  · intro b r v hp hup hlength hgood hr hv hop hnames
    have hin : ResponseIn c p b r := ⟨hp, hup, hlength, hgood, hr⟩
    have hmatch : matchesReq b r = true := by simp [matchesReq, hnames, hop]
    have hdoes := hresponse b
    rwa [sbResponse_of_in hin, if_pos hmatch, sbMatched_of_conv hop hv] at hdoes
  · intro b r hp hup hlength hgood hr hseq
    have hin : ResponseIn c p b r := ⟨hp, hup, hlength, hgood, hr⟩
    have hmatch : ¬ matchesReq b r = true := by simp [matchesReq, hseq]
    have hdoes := hresponse b
    rwa [sbResponse_of_in hin, if_neg hmatch] at hdoes
  · intro r hr hdue
    have hdoes : Does (.sbTimeout dt p) s (c.sbTimeout p) := does_sbTimeout s dt p
    rwa [sbTimeout_of_due hr hdue] at hdoes

end Sys2Proof.Proofs.Thread

/-! ### Proofs: measurements and sweeps (ch. 6) -/

namespace Sys2Proof.Proofs.Sense
open Sys2Proof Sys2Proof.Machine Sys2Proof.Laws

/-! #### What the commands of a front-end channel answer -/

section Answers
variable (s : State) (dt k : Nat)

theorem does_measService (ref : Nat) : Does (.measService dt k ref) s ((s.core.advance dt).measService k ref) :=
  Fire.does_of_onCore (fun c => (c.advance dt).measService k ref) rfl

theorem does_tsrSettleDone : Does (.tsrSettleDone dt k) s ((s.core.advance dt).tsrSettled k) :=
  Fire.does_of_onCore (fun c => (c.advance dt).tsrSettled k) rfl

theorem does_tsrIntegrationDone (volt : Nat) : Does (.tsrIntegrationDone dt k volt) s ((s.core.advance dt).tsrDone k volt) :=
  Fire.does_of_onCore (fun c => (c.advance dt).tsrDone k volt) rfl

theorem does_sweepStart (ref : Nat) : Does (.sweepStart dt k ref) s ((s.core.advance dt).sweepStart k ref) :=
  Fire.does_of_onCore (fun c => (c.advance dt).sweepStart k ref) rfl

theorem does_sweepDwellEnd (volt : Nat) : Does (.sweepDwellEnd dt k volt) s ((s.core.advance dt).dwellEnd k volt) :=
  Fire.does_of_onCore (fun c => (c.advance dt).dwellEnd k volt) rfl

end Answers

section Channels
variable {c : Core} {k p ref volt : Nat}

/-! #### Measurements (R156, R157, R174) -/

theorem refGood_iff : c.refGood ref = true ↔ 200 * ((ref : Int) - c.afeRef).natAbs ≤ c.afeRef := decide_eq_true_iff

/-- A channel serves the next of its requests. -/
structure ServiceDue (c : Core) (k p : Nat) : Prop where
  notSafe : c.mode ≠ .safe
  running : c.running = true
  channel : k < 32
  request : chanPort c.measPending k = some p

theorem measService_of_sweep (h : ServiceDue c k p) (hsweep : (c.afeOf k).kind = 2) : c.measService k ref = c.pauseSweep k := by
  unfold Core.measService
  rw [if_neg (by simp [h.notSafe, h.running, h.channel])]
  simp only [h.request]
  exact if_pos hsweep

theorem pauseSweep_of_sweep (hsweep : (c.afeOf k).kind = 2) :
    c.pauseSweep k =
      let a := c.afeOf k
      if a.armed = true ∧ ofTick a.start ≤ (c.ftQ : Int) then c.setAfe k { a with pause := true }
      else (c.updPort a.port (fun x => { x with queue := x.queue.filter (fun v => !decide (v.conv = 6 ∧ v.arg = 2)) })).openSwitch a.port :=
  if_neg (not_not_intro hsweep)

/-- The port's request is no longer pending. -/
def served (c : Core) (p : Nat) : Core := { c with measPending := putBit c.measPending p false }

theorem measService_of_free (h : ServiceDue c k p) (hsweep : (c.afeOf k).kind ≠ 2) (hfree : c.chanFree k = true) :
    c.measService k ref =
      if c.refGood ref then
        (if c.link p = lkReady then (Core.setAfe (served c p) k { kind := 1, port := p }).queueConv p { conv := 6, why := 4, arg := 1 }
         else (Core.publishBad (served c p) p 1).settle)
      else (c.each ([2 * k, 2 * k + 1].filter (bit c.measPending)) (fun t q => (served t q).publishBad q 4)).settle.occur 1267 0 := by
  unfold Core.measService
  rw [if_neg (by simp [h.notSafe, h.running, h.channel])]
  simp only [h.request]
  rw [if_neg hsweep, if_neg (by simp [hfree])]
  cases c.refGood ref
  · rfl
  · by_cases hlink : c.link p = lkReady
    · rw [if_neg (by decide), if_neg (not_not_intro hlink), if_pos rfl, if_pos hlink]
      rfl
    · rw [if_neg (by decide), if_pos hlink, if_pos rfl, if_neg hlink]
      rfl

theorem tsrSettled_of_due (hdue : c.due .tsrSettle k = true) (hkind : (c.afeOf k).kind = 1) :
    c.tsrSettled k = ((c.disarm .tsrSettle k).setAfe k { c.afeOf k with start := c.ftNs }).arm .tsrIntegrate k (us 64) :=
  if_pos ⟨hdue, hkind⟩

theorem ohms_cast (q pv ua : Nat) : (ohms q pv ua : Int) = roundDiv ((pv * 2 ^ q : Nat) : Int) (1000000 * ua) := by
  have hnonneg : 0 ≤ roundDiv ((pv * 2 ^ q : Nat) : Int) (1000000 * ua) := by
    rw [roundDiv, if_neg (by omega)]
    exact Int.ediv_nonneg (by omega) (by omega)
  exact Int.toNat_of_nonneg hnonneg

theorem tsrDone_of_due (hdue : c.due .tsrIntegrate k = true) (hkind : (c.afeOf k).kind = 1) :
    c.tsrDone k volt =
      let a := c.afeOf k
      let r := satU 32 (roundDiv ((volt * 2 ^ 16 : Nat) : Int) (1000000 * a.force))
      let t := c.disarm .tsrIntegrate k
      Core.openSwitch
        (if tempValid r (c.rd Obj.TSR_NOM 0 a.port) (c.rdI Obj.TSR_ALPHA 0 a.port) = true then
          t.updPort a.port (fun x => { x with therm := { x.therm with waiting := x.therm.waiting ++
            [⟨tempOf r (c.rd Obj.TSR_NOM 0 a.port) (c.rdI Obj.TSR_ALPHA 0 a.port), a.start + 32000, r, 0, c.ftNs / 8192⟩] } })
         else (t.drawOpen.2.publish a.port (measRecord (a.start + 32000) r ((t.drawOpen.1 : Nat) : Int) 0 0 3 a.port 0)).occur 1266 0)
        a.port := by
  unfold Core.tsrDone
  dsimp only
  rw [if_pos ⟨hdue, hkind⟩, ohms_cast]
  rfl

/-! #### Sweeps (R169, R170) -/

theorem sweepStart_of_sweepable (hfree : c.chanFree k = true) (hk : k < 32) (hnone : chanPort c.measPending k = none)
    (hport : [2 * k, 2 * k + 1].find? c.sweepable = some p) :
    c.sweepStart k ref =
      if c.refGood ref then (c.setAfe k { kind := 2, port := p, base := c.rd Obj.SWEEP_NEXT 0 p }).queueConv p { conv := 6, why := 5, arg := 2 }
      else c.occur 1267 0 := by
  unfold Core.sweepStart
  rw [if_neg (by simp [hfree, hk, hnone])]
  simp only [hport]
  cases c.refGood ref <;> rfl

/-- The dwell of the nozzle that the sweep on a channel has reached is over, on a port still READY. -/
structure DwellOver (c : Core) (k : Nat) : Prop where
  sweep : (c.afeOf k).kind = 2
  armed : (c.afeOf k).armed = true
  reached : ofTick ((c.afeOf k).start + (c.rd Obj.SWEEP_NEXT 0 (c.afeOf k).port + 1 - (c.afeOf k).base) * 640) ≤ (c.ftQ : Int)
  nozzle : c.rd Obj.SWEEP_NEXT 0 (c.afeOf k).port < 16 * c.nPrim (c.afeOf k).port
  link : c.link (c.afeOf k).port = lkReady

/-- Nozzle `i` of the port has been swept: its resistance, its class and the next nozzle are stored, and the port's first new dead nozzle is an occurrence. -/
def nozzleSwept (c : Core) (p i r : Nat) : Core :=
  let n := 1024 * p + i
  let cl := sweepClass r (c.rd0 Obj.R_OPEN) (c.rd0 Obj.R_SHORT) (c.rd Obj.R_BASE 0 n) (c.rd0 Obj.DRIFT_WEAK) (c.rd0 Obj.DRIFT_DEAD)
  let t := ((c.wr Obj.R_HEATER 0 n r).setNozzle n (putField (c.rd Obj.NOZZLE_MAP 0 n) 5 4 cl.1)).wr Obj.SWEEP_NEXT 0 p (i + 1)
  let t := { t with sweepOk := if cl.2 then Tab.set t.sweepOk n 1 else Tab.erase t.sweepOk n }
  if cl.1 = 2 ∧ field (c.rd Obj.NOZZLE_MAP 0 n) 5 4 ≠ 2 ∧ !bit t.sweepDead p then
    Core.occur { t with sweepDead := putBit t.sweepDead p true } 1265 0
  else t

/-- The same stage by stage: the nozzle and its class, what is stored, whether it counts as measured, whether SWEEP_DEAD is raised. -/
theorem nozzleSwept_eq {p i n r : Nat} {cl : Nat × Bool} {stored counted t : Core} (hn : n = 1024 * p + i)
    (hcl : cl = sweepClass r (c.rd0 Obj.R_OPEN) (c.rd0 Obj.R_SHORT) (c.rd Obj.R_BASE 0 n) (c.rd0 Obj.DRIFT_WEAK) (c.rd0 Obj.DRIFT_DEAD))
    (hstored : stored =
      ((c.wr Obj.R_HEATER 0 n r).setNozzle n (putField (c.rd Obj.NOZZLE_MAP 0 n) 5 4 cl.1)).wr Obj.SWEEP_NEXT 0 p (i + 1))
    (hcounted : counted = { stored with sweepOk := if cl.2 = true then Tab.set stored.sweepOk n 1 else Tab.erase stored.sweepOk n })
    (ht : t = if cl.1 = 2 ∧ field (c.rd Obj.NOZZLE_MAP 0 n) 5 4 ≠ 2 ∧ bit counted.sweepDead p = false then
        Core.occur { counted with sweepDead := putBit counted.sweepDead p true } 1265 0
      else counted) : nozzleSwept c p i r = t := by
  subst hn hcl hstored hcounted ht
  exact ite_congr (by rw [Bool.not_eq_true']) (fun _ => rfl) (fun _ => rfl)

/-- After the nozzle the sweep ends, pauses, or goes on to the next one. -/
theorem dwellEnd_of_over {i : Nat} {t : Core} (h : DwellOver c k) (hi : c.rd Obj.SWEEP_NEXT 0 (c.afeOf k).port = i)
    (ht : nozzleSwept c (c.afeOf k).port i (satU 16 (ohms 6 volt (c.afeOf k).force)) = t) :
    c.dwellEnd k volt =
      if 16 * c.nPrim (c.afeOf k).port ≤ i + 1 then (t.sweepOver (c.afeOf k).port true).openSwitch (c.afeOf k).port
      else if (c.afeOf k).pause = true ∨ t.sweepsRun = false then t.openSwitch (c.afeOf k).port
      else t.heaterPulse k (i + 1) := by
  obtain ⟨hsweep, harmed, hreached, hnozzle, hlink⟩ := h
  have hover : ¬ ((c.afeOf k).kind ≠ 2 ∨ (!(c.afeOf k).armed) = true
      ∨ (c.ftQ : Int) < ofTick ((c.afeOf k).start + (c.rd Obj.SWEEP_NEXT 0 (c.afeOf k).port + 1 - (c.afeOf k).base) * 640)
      ∨ 16 * c.nPrim (c.afeOf k).port ≤ c.rd Obj.SWEEP_NEXT 0 (c.afeOf k).port ∨ c.link (c.afeOf k).port ≠ lkReady) := by
    simp [hsweep, harmed, Int.not_lt.mpr hreached, Nat.not_le.mpr hnozzle, hlink]
  have hend : c.dwellEnd k volt =
      if 16 * c.nPrim (c.afeOf k).port ≤ i + 1 then (t.sweepOver (c.afeOf k).port true).openSwitch (c.afeOf k).port
      else if (c.afeOf k).pause = true ∨ (!t.sweepsRun) = true then t.openSwitch (c.afeOf k).port
      else t.heaterPulse k (i + 1) := by
    subst hi ht
    exact if_neg hover
  simpa only [Bool.not_eq_true'] using hend

end Channels

/-! #### The class of a swept nozzle (R170) -/

section Class
variable {r open_ short_ base weak dead : Nat}

theorem sweepClass_of_open (h : r = 0xFFFF ∨ open_ < r) : sweepClass r open_ short_ base weak dead = (2, false) := if_pos h

theorem sweepClass_of_short (hrange : r ≠ 0xFFFF) (hopen : r ≤ open_) (h : r < short_) :
    sweepClass r open_ short_ base weak dead = (2, false) := by
  rw [sweepClass, if_neg (not_or.mpr ⟨hrange, Nat.not_lt.mpr hopen⟩), if_pos h]

theorem sweepClass_of_no_baseline (hrange : r ≠ 0xFFFF) (hopen : r ≤ open_) (hshort : short_ ≤ r) (h : base = 0) :
    sweepClass r open_ short_ base weak dead = (0, true) := by
  rw [sweepClass, if_neg (not_or.mpr ⟨hrange, Nat.not_lt.mpr hopen⟩), if_neg (Nat.not_lt.mpr hshort), if_pos h]

/-- With a baseline the drift from it decides. -/
theorem sweepClass_of_baseline (hrange : r ≠ 0xFFFF) (hopen : r ≤ open_) (hshort : short_ ≤ r) (h : base ≠ 0) :
    sweepClass r open_ short_ base weak dead =
      let drift := ((r : Int) - base).natAbs * 32768
      (if dead * base < drift then 2 else if weak * base < drift then 1 else 0, true) := by
  rw [sweepClass, if_neg (not_or.mpr ⟨hrange, Nat.not_lt.mpr hopen⟩), if_neg (Nat.not_lt.mpr hshort), if_neg h]

/-- Of two limits in order, the number of those that a drift exceeds is 2 above the higher and 0 up to the lower. -/
theorem limits_exceeded {drift lo hi : Nat} (h : lo ≤ hi) :
    ((if hi < drift then 2 else if lo < drift then 1 else 0 : Nat) = 2 ↔ hi < drift) ∧
      ((if hi < drift then 2 else if lo < drift then 1 else 0 : Nat) = 0 ↔ drift ≤ lo) := by
  split
  · omega
  · split <;> omega

end Class

/-! #### The statement -/

/-- Settles O19, from the meaning of a channel's commands where their conditions hold, and the class of a nozzle rule by rule. -/
theorem measurementsAndSweepsRun : Obligations.MeasurementsAndSweepsRun := by
  unfold Obligations.MeasurementsAndSweepsRun
  refine ⟨fun s dt k ref => ?_, fun r open_ short_ base weak dead hlimits => ?_⟩
  · intro c a refOk
    have hservice : Does (.measService dt k ref) s (c.measService k ref) := does_measService s dt k ref
    have hsettle : Does (.tsrSettleDone dt k) s (c.tsrSettled k) := does_tsrSettleDone s dt k
    have hintegrate : ∀ volt, Does (.tsrIntegrationDone dt k volt) s (c.tsrDone k volt) := does_tsrIntegrationDone s dt k
    have hstart : Does (.sweepStart dt k ref) s (c.sweepStart k ref) := does_sweepStart s dt k ref
    have hdwell : ∀ volt, Does (.sweepDwellEnd dt k volt) s (c.dwellEnd k volt) := does_sweepDwellEnd s dt k
    refine ⟨?_, ?_, ?_, ?_, ?_⟩
    · intro p hsafe hrun hk hport huse
      have hdue : ServiceDue c k p := ⟨hsafe, hrun, hk, hport⟩
      by_cases hsweep : a.kind = 2
      · rw [measService_of_sweep hdue hsweep, pauseSweep_of_sweep hsweep] at hservice
        rw [if_pos hsweep]
        exact hservice
      · rw [measService_of_free hdue hsweep (huse.resolve_left hsweep)] at hservice
        rw [if_neg hsweep]
        simp only [refGood_iff] at hservice
        exact hservice
    · intro hdue hkind
      rwa [tsrSettled_of_due hdue hkind] at hsettle
    · intro volt hdue hkind
      have hdone := hintegrate volt
      rwa [tsrDone_of_due hdue hkind] at hdone
    · intro p hfree hk hnone hport
      rw [sweepStart_of_sweepable hfree hk hnone hport] at hstart
      simp only [refGood_iff] at hstart
      exact hstart
    · intro volt p i n r cl hsweep harmed hreached hnozzle hlink stored counted t
      have hr : satU 16 (ohms 6 volt a.force) = r := congrArg (satU 16) (ohms_cast 6 volt a.force)
      have ht : nozzleSwept c p i r = t := nozzleSwept_eq (n := n) (cl := cl) (stored := stored) (counted := counted) rfl rfl rfl rfl rfl
      have hend := hdwell volt
      rwa [dwellEnd_of_over ⟨hsweep, harmed, hreached, hnozzle, hlink⟩ rfl (hr ▸ ht)] at hend
  · refine ⟨sweepClass_of_open, sweepClass_of_short, sweepClass_of_no_baseline, fun hrange hopen hshort hbase => ?_⟩
    rw [sweepClass_of_baseline hrange hopen hshort hbase]
    exact ⟨rfl, limits_exceeded (Nat.mul_le_mul_right base hlimits)⟩

end Sys2Proof.Proofs.Sense

/-! ### Proofs: modes and stops (ch. 6, ch. 18) -/

namespace Sys2Proof.Proofs.Modes
open Sys2Proof Sys2Proof.Machine Sys2Proof.Laws

/-! #### What the commands of a stop answer -/

section Answers
variable (s : State) (dt : Nat)

theorem does_autoReadyRequest : Does (.autoReadyRequest dt) s (s.core.advance dt).autoReady :=
  Fire.does_of_onCore (fun c => (c.advance dt).autoReady) rfl

theorem does_stopComplete : Does (.stopComplete dt) s (s.core.advance dt).stopComplete :=
  Fire.does_of_onCore (fun c => (c.advance dt).stopComplete) rfl

theorem does_headStopStepAdvance : Does (.headStopStepAdvance dt) s (s.core.advance dt).headAdvance :=
  Fire.does_of_onCore (fun c => (c.advance dt).headAdvance) rfl

theorem does_capTimeout : Does (.capTimeout dt) s (s.core.advance dt).capTimeout :=
  Fire.does_of_onCore (fun c => (c.advance dt).capTimeout) rfl

end Answers

/-! #### Completion status (R437) -/

section Completion
variable (c : Core) (o : Ob) (i j : Nat) (ok : Bool)

theorem compO_setCompO (v : Nat) : (c.setCompO o i j v).compO o i j = v := tab_get_set _ _ _ _

/-- The end of an action changes nothing but the completion status. -/
theorem endComp_frame : c.endComp o i j ok = { c with comp := (c.endComp o i j ok).comp } := by
  obtain h | ⟨-, h⟩ := endComp_cases c o i j ok
  · rw [h]
  · rw [h]
    rfl

theorem endComp_alsoRaise : (c.endComp o i j ok).alsoRaise = c.alsoRaise := by rw [endComp_frame]

variable {c o i j} in
theorem compO_endComp_of_pending (h : c.compO o i j = 1) : (c.endComp o i j ok).compO o i j = if ok then 2 else 3 := by
  rw [Core.endComp, if_pos h, compO_setCompO]

end Completion

/-! #### A change of mode with room for its records (R478) -/

section ModeChange
variable {c k t : Core} {m : Mode}

/-- What a table gives is its default or stands in an entry. -/
theorem tab_get_mem {α : Type} (d : α) (t : Tab α) (k : Nat) : Tab.get d t k = d ∨ ∃ p ∈ t, Tab.get d t k = p.2 := by
  induction t with
  | nil => exact .inl rfl
  | cons p t ih =>
    obtain ⟨j, v⟩ := p
    by_cases hj : j = k
    · exact .inr ⟨(j, v), List.mem_cons_self, by simp [Tab.get, hj]⟩
    · obtain h | ⟨q, hq, h⟩ := ih
      · exact .inl (by simpa [Tab.get, hj] using h)
      · exact .inr ⟨q, List.mem_cons_of_mem _ hq, by simpa [Tab.get, hj] using h⟩

/-- Every session has room for `n` more events. -/
def EventRoom (n : Nat) (c : Core) : Prop := ∀ h, (Tab.get freeSession c.sess h).events.length + n ≤ 256

/-- A session with room takes its event, and nothing else changes. -/
theorem pushEvent_of_room {h n : Nat} (e : EventRec) (hroom : EventRoom (n + 1) c) :
    ∃ x, c.pushEvent h e = { c with sess := x } ∧ EventRoom n { c with sess := x } := by
  have hlen := hroom h
  generalize hold : Tab.get freeSession c.sess h = old at hlen
  obtain ⟨-, hpush⟩ | ⟨hfull, -⟩ := push_cases old e
  · refine ⟨Tab.set c.sess h { old with events := old.events ++ [e] }, ?_, fun i => ?_⟩
    · unfold Core.pushEvent
      dsimp only
      rw [hold, hpush]
      exact if_neg Bool.false_ne_true
    · by_cases hi : i = h
      · subst hi
        simp only [tab_get_set, List.length_append, List.length_singleton]
        omega
      · simp only [tab_get_set_ne _ _ _ _ _ hi]
        exact Nat.le_of_succ_le (hroom i)
  · omega

/-- At most one event for each of some sessions, all with room for as many, changes the sessions alone. -/
theorem foldl_pushEvent {l : List (Nat × Session)} {f : Core → Nat × Session → Core}
    (hf : ∀ t p, f t p = t ∨ ∃ e, f t p = t.pushEvent p.1 e) (hroom : EventRoom l.length c) : ∃ x, l.foldl f c = { c with sess := x } := by
  induction l generalizing c with
  | nil => exact ⟨c.sess, rfl⟩
  | cons p l ih =>
    rw [List.foldl_cons]
    obtain h | ⟨e, h⟩ := hf c p
    · rw [h]
      exact ih fun i => Nat.le_of_succ_le (hroom i)
    · obtain ⟨x, hpush, hleft⟩ := pushEvent_of_room e hroom
      rw [h, hpush]
      exact ih hleft

theorem choice_cases (b : Bool) (x y : Core) : (if b then x else y) = y ∨ (if b then x else y) = x := by
  cases b
  · exact .inl rfl
  · exact .inr rfl

theorem event_of_room (hroom : EventRoom c.sess.length c) (maskBit : Option Nat) (code a b : Nat) :
    ∃ x, c.event maskBit code a b = { c with sess := x } :=
  foldl_pushEvent (fun _ _ => (choice_cases _ _ _).imp_right fun h => ⟨_, h⟩) hroom

theorem eventRoom_of_quiet (h : c.quiet) : EventRoom c.sess.length c := fun i => by
  obtain ⟨-, -, hroom⟩ := h
  obtain hfree | ⟨p, hp, hget⟩ := tab_get_mem freeSession c.sess i
  · rw [hfree]
    obtain hnone | hsome := Nat.eq_zero_or_pos c.sess.length
    · simp [hnone, freeSession]
    · obtain ⟨p, hp⟩ := List.exists_mem_of_length_pos hsome
      have hmember := hroom p hp
      simp only [freeSession, List.length_nil]
      omega
  · rw [hget]
    exact Nat.le_of_lt (hroom p hp)

/-- A log that is not full takes an entry without an occurrence of LOG_WRAP (R506). -/
theorem addLog_of_room (h : c.log.length < 4096) (source kind cls reaction info repeats flags : Nat) :
    ∃ n l r, c.addLog source kind cls reaction info repeats flags = { c.wr0 Obj.LOG_SEQ n with log := l, logRet := r } := by
  have hlast : nth none (c.log.map some) 4095 = none := by
    rw [Raster.nth_eq_getD, List.getD_eq_getElem?_getD, List.getElem?_eq_none (by rw [List.length_map]; omega)]
    rfl
  unfold Core.addLog
  dsimp only
  rw [wr0_log, hlast]
  exact ⟨_, _, _, rfl⟩

/-- The objects that a change of mode stamps. -/
def stampObs : List Ob := [Obj.MODE_T_NS, Obj.LOG_SEQ, Obj.T_READY_NS]

/-- From `c` to `k` the mode has become `m`; what a stop looks at, and every object but those stamped, is as it was. -/
structure ModeChanged (m : Mode) (c k : Core) : Prop where
  mode : k.mode = m
  phase : k.phase = c.phase
  stop : k.stop = c.stop
  wantReady : k.wantReady = c.wantReady
  headStep : k.headStep = c.headStep
  comp : k.comp = c.comp
  timers : k.timers = c.timers
  ports : k.ports = c.ports
  alsoRaise : k.alsoRaise = c.alsoRaise
  reads : ∀ o : Ob, (∀ q ∈ stampObs, o.key 0 0 ≠ q.key 0 0) → k.rd0 o = c.rd0 o

theorem ModeChanged.stamp (h : ModeChanged m c k) {q : Ob} (hq : q ∈ stampObs) (v : Nat) : ModeChanged m c (k.wr0 q v) :=
  ⟨by simp [h.mode], by simp [h.phase], by simp [h.stop], by simp [h.wantReady], by simp [h.headStep], by simp [h.comp], by simp [h.timers],
    by simp [h.ports], by simp [h.alsoRaise], fun o ho => (rd0_wr0_ne k q o v (ho q hq)).trans (h.reads o ho)⟩

theorem ModeChanged.record (h : ModeChanged m c k) (x : Tab Session) (l r : List LogEntry) :
    ModeChanged m c { k with sess := x, log := l, logRet := r } :=
  ⟨h.mode, h.phase, h.stop, h.wantReady, h.headStep, h.comp, h.timers, h.ports, h.alsoRaise, h.reads⟩

/-- In a quiet state a change of mode raises nothing. -/
theorem setMode_changed (h : c.quiet) (m : Mode) : ModeChanged m c (c.setMode m) := by
  have hroom : EventRoom c.sess.length c := eventRoom_of_quiet h
  obtain ⟨-, hlog, -⟩ := h
  have hmode : ModeChanged m c { c with mode := m } := ⟨rfl, rfl, rfl, rfl, rfl, rfl, rfl, rfl, rfl, fun _ _ => rfl⟩
  have htime := hmode.stamp (q := Obj.MODE_T_NS) (by simp [stampObs]) (Core.ftNs { c with mode := m })
  unfold Core.setMode
  dsimp only
  generalize hu : Core.wr0 { c with mode := m } Obj.MODE_T_NS (Core.ftNs { c with mode := m }) = u at htime
  have hsess : u.sess = c.sess := by rw [← hu, wr0_sess]
  have hulog : u.log = c.log := by rw [← hu, wr0_log]
  have huroom : EventRoom u.sess.length u := by
    unfold EventRoom
    rw [hsess]
    exact hroom
  obtain ⟨x, hevent⟩ := event_of_room huroom (some 1) 0x0010 m.code c.mode.code
  obtain ⟨n, l, r, hentry⟩ := addLog_of_room (c := { u with sess := x }) (hulog ▸ hlog) 65535 4 255 255 m.code 0 0
  rw [hevent, hentry]
  have hseq := (htime.record x u.log u.logRet).stamp (q := Obj.LOG_SEQ) (by simp [stampObs]) n
  exact hseq.record (Core.wr0 { u with sess := x } Obj.LOG_SEQ n).sess l r

/-- READY entered from a quiet state outside PRINT (R479, R483): the stop is over and a waiting request is done. -/
theorem toReady_of_quiet (h : c.quiet) (hprint : c.inPrint = false) :
    ∃ k, ModeChanged .ready { c with stop := none, phase := .steady, stopCap := false } k ∧ c.toReady = k.endComp Obj.MODE_REQ 0 0 true := by
  have hset := setMode_changed (c := { c with stop := none, phase := .steady, stopCap := false }) h .ready
  have hprint' : Core.inPrint { c with stop := none, phase := .steady, stopCap := false } = false := hprint
  unfold Core.toReady
  dsimp only
  rw [hprint', if_neg Bool.false_ne_true]
  generalize Core.setMode { c with stop := none, phase := .steady, stopCap := false } .ready = t at hset
  have hraise : ∀ k, ModeChanged .ready { c with stop := none, phase := .steady, stopCap := false } k →
      (k.endComp Obj.MODE_REQ 0 0 true).settle = k.endComp Obj.MODE_REQ 0 0 true := fun k hk => by
    obtain ⟨hnone, -⟩ := h
    exact settle_of_empty _ ((endComp_alsoRaise k _ _ _ _).trans (hk.alsoRaise.trans hnone))
  split
  · have hstamped := hset.stamp (q := Obj.T_READY_NS) (by simp [stampObs]) t.ftNs
    exact ⟨_, hstamped, hraise _ hstamped⟩
  · exact ⟨t, hset, hraise t hset⟩

end ModeChange

/-! #### AUTO_READY (R479) -/

section AutoReady
variable {c : Core}

/-- The controller has put its own request for READY, accepted and DONE. -/
def readyAsked (c : Core) : Core :=
  ((Core.wr0 { c with wantReady := false } Obj.MODE_REQ 3).entryFail 0 noInst).setCompO Obj.MODE_REQ 0 0 2

theorem autoReady_of_wanted (hwant : c.wantReady = true) (hmode : c.mode = .config) (hphase : c.phase = .steady)
    (hup : allPorts.any c.comingUp = false)
    (hwaits : allPorts.any (fun p => c.rdB Obj.port_PORT_ENABLE p 0 && decide (c.link p = lkOff)) = false) :
    c.autoReady = (readyAsked c).toReady := by
  unfold Core.autoReady
  exact if_pos ⟨hwant, hmode, hphase, by simp [hup], .inr (by simp [hwaits])⟩

theorem autoReady_of_not_wanted (h : c.wantReady = false) : c.autoReady = c := if_neg (by simp [h])

theorem quiet_readyAsked (h : c.quiet) : (readyAsked c).quiet := by
  simpa only [Core.quiet, readyAsked, Core.entryFail, setCompO_alsoRaise, setCompO_log, setCompO_sess, wr0_alsoRaise, wr0_log, wr0_sess] using h

theorem inPrint_readyAsked (h : c.mode = .config) : (readyAsked c).inPrint = false := by
  simp [Core.inPrint, readyAsked, Core.entryFail, h]

@[simp] theorem wantReady_readyAsked (c : Core) : (readyAsked c).wantReady = false := by simp [readyAsked, Core.entryFail]
@[simp] theorem timers_readyAsked (c : Core) : (readyAsked c).timers = c.timers := by simp [readyAsked, Core.entryFail]
@[simp] theorem ports_readyAsked (c : Core) : (readyAsked c).ports = c.ports := by simp [readyAsked, Core.entryFail]

theorem modeReq_readyAsked (c : Core) : (readyAsked c).rd0 Obj.MODE_REQ = 3 :=
  (rd0_wr0_ne _ _ _ _ (by decide)).trans (rd0_wr0 _ _ _)

theorem entryFail_readyAsked (c : Core) : (readyAsked c).rd0 Obj.ENTRY_FAIL = 0xFFFF0000 := rd0_wr0 _ _ _

end AutoReady

/-! #### The end of a stop (R483) -/

section Stops
variable {c : Core}

/-- The axes rest, and in PRINT the seam has completed. -/
def stopRested (c : Core) : Bool :=
  if c.mode = .service then (List.range 12).all c.atRest else c.printGroups.all c.groupAtRest && c.stopSeamDone

theorem stopRested_of_service (hmode : c.mode = .service) (h : (List.range 12).all c.atRest = true) : stopRested c = true :=
  (if_pos hmode).trans h

theorem stopRested_of_print (hprint : c.inPrint = true) (hrest : c.printGroups.all c.groupAtRest = true) (hseam : c.stopSeamDone = true) :
    stopRested c = true := by
  have hmode : c.mode ≠ .service := fun h => by simp [Core.inPrint, h] at hprint
  rw [stopRested, if_neg hmode, hrest, hseam]
  rfl

theorem stopComplete_of_rested (hphase : c.phase = .stopping) (hrest : stopRested c = true) :
    c.stopComplete =
      if c.stopCap then (if c.mot.capPhase ≠ 0 then c else (if c.mot.capDone then c else c.occur 1268 0).toReady)
      else if c.rdB Obj.CAP_ON_READY 0 0 && c.hasCaps then { c.capStart with stopCap := true }
      else c.toReady := by
  unfold Core.stopComplete
  exact if_neg (not_or.mpr ⟨not_not_intro hphase, by rw [← stopRested, hrest]; decide⟩)

theorem stopComplete_of_not_stopping (h : c.phase ≠ .stopping) : c.stopComplete = c := if_pos (.inl h)

/-! #### The head stop (R163, Table 6-6) -/

theorem headAdvance_of_rest (hstep : c.headStep = 2) (hrest : c.printGroups.all c.groupAtRest = true) (hseam : c.stopSeamDone = true) :
    c.headAdvance = (Core.arm { c with headStep := 3 } .capWait 0 (ms (c.rd0 Obj.CAP_TIMEOUT))).capStart := by
  rw [Core.headAdvance, if_pos hstep, if_pos ⟨hrest, hseam⟩]

theorem headAdvance_of_capped (hstep : c.headStep = 3) (hphase : c.mot.capPhase = 0) (hdone : c.mot.capDone = true) :
    c.headAdvance = c.headPortsOff := by
  rw [Core.headAdvance, if_neg (by simp [hstep]), if_pos hstep, if_pos ⟨hphase, hdone⟩]

/-- With every port OFF outside PRINT the device goes to CONFIG, and a request for READY has failed. -/
theorem headAdvance_of_allOff (hquiet : c.quiet) (hstep : c.headStep = 4) (hoff : c.allOff = true) (hprint : c.inPrint = false) :
    ∃ k, ModeChanged .config { c with headStep := 5, stop := none, phase := .steady } k ∧ c.headAdvance = k.endComp Obj.MODE_REQ 0 0 false := by
  have hset := setMode_changed (c := { c with headStep := 5, stop := none, phase := .steady }) hquiet .config
  have hprint' : Core.inPrint { c with headStep := 5, stop := none, phase := .steady } = false := hprint
  obtain ⟨hnone, -⟩ := hquiet
  refine ⟨_, hset, ?_⟩
  rw [Core.headAdvance, if_neg (by simp [hstep]), if_neg (by simp [hstep]), if_pos hstep, if_pos hoff]
  dsimp only
  rw [hprint', if_neg Bool.false_ne_true]
  exact settle_of_empty _ ((endComp_alsoRaise _ _ _ _ _).trans (hset.alsoRaise.trans hnone))

/-- The head stop ends once none of its sources is raised; from CONFIG bring-up starts again. -/
theorem headAdvance_of_cleared (hstep : c.headStep = 5) (hclear : c.headSources.all (fun n => !c.isRaised n) = true) :
    c.headAdvance = { c with
      headStep := 0, headSources := [], wantReady := if c.mode = .config then decide (c.rd0 Obj.START_MODE = 3) else c.wantReady } := by
  rw [Core.headAdvance, if_neg (by simp [hstep]), if_neg (by simp [hstep]), if_neg (by simp [hstep]), if_pos hstep, if_pos hclear]
  dsimp only
  split <;> rfl

theorem capTimeout_of_due (hstep : c.headStep = 3) (hdue : c.due .capWait 0 = true) :
    c.capTimeout = (Core.occur { c with mot := { c.mot with capPhase := 0, capAxes := [] } } 1268 0).headPortsOff := if_pos ⟨hstep, hdue⟩

theorem capTimeout_of_not_due (h : c.headStep ≠ 3 ∨ c.due .capWait 0 = false) : c.capTimeout = c :=
  if_neg fun ⟨hstep, hdue⟩ => h.elim (absurd hstep) fun hnot => by simp [hnot] at hdue

end Stops

/-! #### The statement -/

/-- Settles O52: in each step of a stop what is over decides what follows, and entering READY or CONFIG from a quiet state raises nothing. -/
theorem stopsGoThroughTheirSteps : Obligations.StopsGoThroughTheirSteps := by
  unfold Obligations.StopsGoThroughTheirSteps
  intro s dt c
  have hauto : Does (.autoReadyRequest dt) s c.autoReady := does_autoReadyRequest s dt
  have hstop : Does (.stopComplete dt) s c.stopComplete := does_stopComplete s dt
  have hhead : Does (.headStopStepAdvance dt) s c.headAdvance := does_headStopStepAdvance s dt
  have hcap : Does (.capTimeout dt) s c.capTimeout := does_capTimeout s dt
  refine ⟨?_, ?_, ?_, ?_, ?_, ?_, ?_, ?_, ?_, ?_, ?_, ?_⟩
  · intro hquiet hwant hmode hphase hup hwaits
    obtain ⟨k, hk, hready⟩ := toReady_of_quiet (quiet_readyAsked hquiet) (inPrint_readyAsked hmode)
    rw [autoReady_of_wanted hwant hmode hphase hup hwaits, hready, endComp_frame] at hauto
    exact ⟨_, hauto, hk.mode, hk.phase, hk.wantReady.trans (wantReady_readyAsked c), (hk.reads _ (by decide)).trans (modeReq_readyAsked c),
      (hk.reads _ (by decide)).trans (entryFail_readyAsked c), hk.timers.trans (timers_readyAsked c), hk.ports.trans (ports_readyAsked c)⟩
  · intro hquiet hphase hmode hrest hnoCap hcaps
    have hprint : c.inPrint = false := by simp [Core.inPrint, hmode]
    obtain ⟨k, hk, hready⟩ := toReady_of_quiet hquiet hprint
    have hdone : c.compO Obj.MODE_REQ 0 0 = 1 → (k.endComp Obj.MODE_REQ 0 0 true).compO Obj.MODE_REQ 0 0 = 2 := fun hpending =>
      compO_endComp_of_pending true ((congrArg (fun t => Tab.get 0 t _) hk.comp).trans hpending)
    rw [stopComplete_of_rested hphase (stopRested_of_service hmode hrest), hnoCap, hcaps] at hstop
    have hend : Does (.stopComplete dt) s c.toReady := hstop
    rw [hready, endComp_frame] at hend
    rw [endComp_frame] at hdone
    exact ⟨_, hend, hk.mode, hk.phase, hk.stop, hdone⟩
  · intro hphase hprint hrest hseam hnoCap
    rw [stopComplete_of_rested hphase (stopRested_of_print hprint hrest hseam), hnoCap] at hstop
    exact hstop
  · intro hphase hcapped hrest
    rw [stopComplete_of_rested hphase hrest, hcapped] at hstop
    exact hstop
  · intro hstep hrest hseam
    rwa [headAdvance_of_rest hstep hrest hseam] at hhead
  · intro hstep hphase hdone
    rwa [headAdvance_of_capped hstep hphase hdone] at hhead
  · intro hquiet hstep hoff hprint
    obtain ⟨k, hk, hadvance⟩ := headAdvance_of_allOff hquiet hstep hoff hprint
    rw [hadvance, endComp_frame] at hhead
    exact ⟨_, hhead, hk.mode, hk.phase, hk.headStep, hk.stop⟩
  · intro hstep hclear
    rwa [headAdvance_of_cleared hstep hclear] at hhead
  · intro h
    rwa [capTimeout_of_not_due h] at hcap
  · intro h
    rwa [stopComplete_of_not_stopping h] at hstop
  · intro h
    rwa [autoReady_of_not_wanted h] at hauto
  · intro hstep hdue
    rwa [capTimeout_of_due hstep hdue] at hcap

end Sys2Proof.Proofs.Modes

/-! ### Proofs: Thimble (ch. 7) -/

namespace Sys2Proof.Proofs.Thimble
open Sys2Proof Sys2Proof.Machine Sys2Proof.Laws

/-! #### What the commands of Thimble answer -/

section Answers
variable {s : State} {dt p : Nat}

/-- A command that has an effect only under a condition has it where the condition holds. -/
theorem does_of_when {i : Instr} {g : Core → Bool} {f : Core → Core}
    (hexec : exec i s = onCore (fun c => (c.advance dt).when (g c) f) s) (h : g s.core = true) : Does i s (f (s.core.advance dt)) := by
  have answer := Fire.does_of_onCore _ hexec
  rwa [Core.when, if_pos h] at answer

theorem does_commitPeriodExpiry_of_due (h : (s.core.advance dt).due .commitPeriod p = true) :
    Does (.commitPeriodExpiry dt p) s ((s.core.advance dt).thimTrigger p) :=
  does_of_when (g := fun c => (c.advance dt).due .commitPeriod p) (f := fun t => t.thimTrigger p) rfl h

theorem does_commitDropsReached_of_reached (hp : p < 64) (h : 2 ^ 24 ≤ (s.core.advance dt).rd Obj.DROPS_PENDING 0 p) :
    Does (.commitDropsReached dt p) s ((s.core.advance dt).thimTrigger p) :=
  does_of_when (g := fun c => decide (p < 64 ∧ 2 ^ 24 ≤ c.rd Obj.DROPS_PENDING 0 p)) (f := fun t => t.thimTrigger p) rfl
    (decide_eq_true ⟨hp, h⟩)

theorem does_leaveCommitTimeout_of_due (hdue : (s.core.advance dt).due .leaveCommit p = true)
    (hclosing : ((s.core.advance dt).port p).closing = true) (hlink : (s.core.advance dt).link p ≠ lkAborted) :
    Does (.leaveCommitTimeout dt p) s ((s.core.advance dt).portOff p) :=
  does_of_when (g := fun c => (c.advance dt).due .leaveCommit p && (c.port p).closing && decide (c.link p ≠ lkAborted))
    (f := fun t => t.portOff p) rfl (Bool.and_eq_true_iff.mpr ⟨Bool.and_eq_true_iff.mpr ⟨hdue, hclosing⟩, decide_eq_true hlink⟩)

theorem does_thimbleJournalTimer_of_due (fails : Bool) (hdue : (s.core.advance dt).due .thimJournal p = true)
    (hchanged : ((s.core.advance dt).port p).thim.changed = true) :
    Does (.thimbleJournalTimer dt p fails) s (((s.core.advance dt).updThim p (fun x => { x with writeFails := fails })).thimWrite p) :=
  does_of_when (g := fun c => (c.advance dt).due .thimJournal p && (c.port p).thim.changed)
    (f := fun t => (t.updThim p (fun x => { x with writeFails := fails })).thimWrite p) rfl (Bool.and_eq_true_iff.mpr ⟨hdue, hchanged⟩)

/-- In PRINT the oldest acknowledgement without a commit is further back than THIM_GRACE, and this is not yet noted. -/
def graceOver (dt p : Nat) (c : Core) : Bool :=
  c.inPrint && !(c.port p).thim.overdue && (match (c.port p).thim.first with
    | some t => decide (t + ms (c.rd0 Obj.THIM_GRACE) < (c.advance dt).clk)
    | none => false)

theorem graceOver_of_first {c : Core} {oldest : Nat} (hprint : c.inPrint = true) (hnoted : (c.port p).thim.overdue = false)
    (hfirst : (c.port p).thim.first = some oldest) (hgrace : oldest + ms (c.rd0 Obj.THIM_GRACE) < (c.advance dt).clk) : graceOver dt p c = true := by
  rw [graceOver, hprint, hnoted, hfirst]
  exact decide_eq_true hgrace

theorem does_thimOverdue_of_graceOver (h : graceOver dt p s.core = true) :
    Does (.thimOverdue dt p) s (((s.core.advance dt).updThim p (fun x => { x with overdue := true })).occur 1345 0) :=
  does_of_when (g := graceOver dt p) (f := fun t => (t.updThim p (fun x => { x with overdue := true })).occur 1345 0) rfl h

end Answers

/-! #### The Thimble side of a port -/

section Fields
variable (c : Core) (p : Nat) (f g : Thim → Thim)

@[simp] theorem thim_updThim : ((c.updThim p f).port p).thim = f (c.port p).thim := by simp [Core.updThim, Health.port_updPort]

theorem updThim_updThim : (c.updThim p f).updThim p g = c.updThim p (fun x => g (f x)) := Thread.updPort_updPort _ _ _ _

variable {c p f} in
/-- A change that leaves the update in flight leaves the journal entry. -/
theorem thimEntry_updThim (h : (f (c.port p).thim).flight = (c.port p).thim.flight) : (c.updThim p f).thimEntry p = c.thimEntry p := by
  rw [Core.thimEntry, thim_updThim, h]
  rfl

end Fields

/-! #### A commit trigger (R187, R191) -/

section Trigger
variable {c : Core} {p : Nat}

theorem thimTrigger_of_sending (h : (c.port p).thim.sending = true) :
    c.thimTrigger p = (c.disarm .commitPeriod p).updThim p (fun x => { x with again := true }) := if_pos h

theorem thimTrigger_of_unauthed (hsending : (c.port p).thim.sending = false) (hauthed : (c.port p).thim.authed = false) :
    c.thimTrigger p =
      if (c.port p).authGoing = true then (c.disarm .commitPeriod p).updThim p (fun x => { x with again := true })
      else if (c.port p).thim.renew = true ∧ c.sbUp p = true then
        ((c.disarm .commitPeriod p).updThim p (fun x => { x with again := true })).thimAuth p
      else c.disarm .commitPeriod p := by
  rw [Core.thimTrigger, if_neg (by simp [hsending]), if_pos (by simp [hauthed])]

theorem thimTrigger_of_authed (hsending : (c.port p).thim.sending = false) (hauthed : (c.port p).thim.authed = true) :
    c.thimTrigger p =
      if (c.port p).thim.flight.isSome = true then (c.disarm .commitPeriod p).thimUpdate p
      else ((c.disarm .commitPeriod p).updThim p (fun x => { x with
        flight := some (c.rd Obj.COUNT 0 p + c.rd Obj.PENDING_PL 0 p / 64, c.rd Obj.CSEQ 0 p + 1), since := 0, firstSince := none })).thimUpdate p := by
  rw [Core.thimTrigger, if_neg (by simp [hsending]), if_neg (by simp [hauthed])]
  cases hflight : (c.port p).thim.flight with
  | some update => rfl
  | none => rfl

end Trigger

/-! #### The journal (R188, R191) -/

section Journal
variable {c : Core} {p : Nat}

theorem thimWrite_of_refused (h : (c.port p).thim.writeFails = true) :
    c.thimWrite p =
      let t := ((c.updThim p (fun x => { x with changed := true })).arm .thimJournal p (ms 10)).occur 1349 0
      if t.sharedPort p = true then t.mirrorPaced 7 p (c.thimEntry p).body else t := by
  dsimp only [Core.thimWrite]
  rw [if_pos h]

theorem thimWrite_of_taken (h : (c.port p).thim.writeFails = false) :
    c.thimWrite p =
      let t := (Core.updThim { c with thimJ := Tab.set c.thimJ p (c.thimEntry p) } p (fun x => { x with changed := false })).disarm .thimJournal p
      if t.sharedPort p = true then t.mirrorPaced 7 p (c.thimEntry p).body else t := by
  have htaken : ¬ (c.port p).thim.writeFails = true := by simp [h]
  dsimp only [Core.thimWrite]
  rw [if_neg htaken]

/-- The store begins to refuse, or refuses again, and the write is tried. -/
theorem thimWrite_fails (c : Core) (p : Nat) :
    (c.updThim p (fun x => { x with writeFails := true })).thimWrite p =
      let t := ((c.updThim p (fun x => { x with writeFails := true, changed := true })).arm .thimJournal p (ms 10)).occur 1349 0
      if t.sharedPort p = true then t.mirrorPaced 7 p (c.thimEntry p).body else t := by
  rw [thimWrite_of_refused (by simp), thimEntry_updThim (by rfl), updThim_updThim]

/-- The store takes the entry. -/
theorem thimWrite_succeeds (c : Core) (p : Nat) :
    (c.updThim p (fun x => { x with writeFails := false })).thimWrite p =
      let t := (Core.updThim { c with thimJ := Tab.set c.thimJ p (c.thimEntry p) } p
        (fun x => { x with writeFails := false, changed := false })).disarm .thimJournal p
      if t.sharedPort p = true then t.mirrorPaced 7 p (c.thimEntry p).body else t := by
  have hboth := updThim_updThim { c with thimJ := Tab.set c.thimJ p (c.thimEntry p) } p (fun x => { x with writeFails := false })
    (fun x => { x with changed := false })
  rw [thimWrite_of_taken (by simp), thimEntry_updThim (by rfl), ← hboth]
  rfl

end Journal

/-! #### The statement -/

/-- Settles O21: each command does what the trigger, the end of a port and the write of a journal entry do once its condition has come. -/
theorem thimbleCommitsAndJournal : Obligations.ThimbleCommitsAndJournal := by
  unfold Obligations.ThimbleCommitsAndJournal
  intro s dt p c x n t later trigger
  have htrigger : c.thimTrigger p = trigger := by
    unfold trigger
    cases hsending : x.sending with
    | true => exact thimTrigger_of_sending hsending
    | false =>
      cases hauthed : x.authed with
      | false => exact thimTrigger_of_unauthed hsending hauthed
      | true => exact thimTrigger_of_authed hsending hauthed
  refine ⟨fun hdue => ?_, fun hp hdrops => ?_, does_leaveCommitTimeout_of_due, fun hdue hchanged => ⟨?_, ?_⟩, ?_⟩
  · rw [← htrigger]
    exact does_commitPeriodExpiry_of_due hdue
  · rw [← htrigger]
    exact does_commitDropsReached_of_reached hp hdrops
  · have hwrite := does_thimbleJournalTimer_of_due true hdue hchanged
    rwa [thimWrite_fails] at hwrite
  · have hwrite := does_thimbleJournalTimer_of_due false hdue hchanged
    rwa [thimWrite_succeeds] at hwrite
  · intro oldest hprint hnoted hfirst hgrace
    exact does_thimOverdue_of_graceOver (graceOver_of_first hprint hnoted hfirst hgrace)

end Sys2Proof.Proofs.Thimble

/-! ### Proofs: Avone (ch. 9) -/

namespace Sys2Proof.Proofs.Avone
open Sys2Proof Sys2Proof.Machine Sys2Proof.Laws

/-! #### What the commands of a decoder answer -/

/-- A command that leaves the memory as it was leaves the core changed by its meaning, and nothing else. -/
theorem does_of_onBoth {i : Instr} {s : State} (f : Core → List Host.Cell → Core) (h : exec i s = onBoth (fun c m => (f c m, m)) s) :
    Does i s (f s.core s.mem) := h.trans (onBoth_next _ s)

theorem doesBoth_of_onBoth {i : Instr} {s : State} (f : Core → List Host.Cell → Core × List Host.Cell) (h : exec i s = onBoth f s) :
    DoesBoth i s (f s.core s.mem).1 (f s.core s.mem).2 := h.trans (onBoth_next f s)

section Answers
variable (s : State) (dt d e a : Nat)

theorem does_decoderTakeRequest : Does (.decoderTakeRequest dt d) s ((s.core.advance dt).decTake s.mem d) :=
  does_of_onBoth (fun c m => (c.advance dt).decTake m d) rfl

theorem does_windowDispatch : Does (.windowDispatch dt) s ((s.core.advance dt).windowDispatch s.mem) :=
  does_of_onBoth (fun c m => (c.advance dt).windowDispatch m) rfl

theorem doesBoth_decoderHeaderDone :
    let t := (s.core.advance dt).decHeaderDone d e a
    DoesBoth (.decoderHeaderDone dt d e a) s t (t.blankBad s.core s.mem) :=
  doesBoth_of_onBoth (fun c m => let t := (c.advance dt).decHeaderDone d e a; (t, t.blankBad c m)) rfl

theorem doesBoth_decoderTableDone :
    let t := (s.core.advance dt).decTableDone s.mem d e a
    DoesBoth (.decoderTableDone dt d e a) s t (t.blankBad s.core s.mem) :=
  doesBoth_of_onBoth (fun c m => let t := (c.advance dt).decTableDone m d e a; (t, t.blankBad c m)) rfl

theorem doesBoth_decoderBlockEnd :
    let t := (s.core.advance dt).decBlockEnd d
    DoesBoth (.decoderBlockEnd dt d) s t (t.blankBad s.core s.mem) :=
  doesBoth_of_onBoth (fun c m => let t := (c.advance dt).decBlockEnd d; (t, t.blankBad c m)) rfl

theorem doesBoth_decodeCode :
    let r := (s.core.advance dt).decCode s.mem d e a
    DoesBoth (.decodeCode dt d e a) s r.1 (r.1.blankBad s.core r.2) :=
  doesBoth_of_onBoth (fun c m => let r := (c.advance dt).decCode m d e a; (r.1, r.1.blankBad c r.2)) rfl

end Answers

/-! #### A decoder's work and state -/

section Fields
variable (c : Core) (d : Nat) (x : Decoder)

@[simp] theorem decoder_setDecoder : (c.setDecoder d x).decoder d = x := tab_get_set _ _ _ _

theorem decoder_setDecoder_ne {i : Nat} (h : i ≠ d) : (c.setDecoder d x).decoder i = c.decoder i := tab_get_set_ne _ _ _ _ _ h

@[simp] theorem decoder_wr (o : Ob) (i j v n : Nat) : (c.wr o i j v).decoder n = c.decoder n := by simp [Core.decoder]

@[simp] theorem decoder_updBlock (w : Nat × Nat) (f : Block → Block) (n : Nat) : (c.updBlock w f).decoder n = c.decoder n := rfl

theorem decState_setDec {st : Nat} (h : st < 256) : (c.setDec d st).decState d = st := (rd_wr c _ d 0 st).trans (Nat.mod_eq_of_lt h)

/-- DEC_STATE is reset with the device, so the object journal keeps nothing of a change (R461). -/
theorem setDec_frame (st : Nat) : c.setDec d st = { c with objs := (c.setDec d st).objs } := by
  rw [Core.setDec, Ephemeris.wr_of_not_retained _ _ _ _ _ rfl]

theorem wr_reqHead_frame (v : Nat) : c.wr Obj.dec_REQ_HEAD d 0 v = { c with objs := (c.wr Obj.dec_REQ_HEAD d 0 v).objs } := by
  rw [Ephemeris.wr_of_not_retained _ _ _ _ _ rfl]

/-- A report of no memory error changes nothing. -/
theorem decError_zero (a : Nat) : c.decError 0 a = c := by simp [Core.decError, Core.memError]

end Fields

/-! #### A block is given to a decoder (R244, R247) -/

section Begin
variable (c : Core) (d : Nat) (x : Decoder)

/-- The decoder begins with the header of the block `x`. -/
def begun : Core := (c.setDecoder d x).setDec d decHeader

theorem begun_decState : (begun c d x).decState d = decHeader := decState_setDec _ _ (by decide)

theorem begun_decoder : (begun c d x).decoder d = x := by simp [begun, Core.setDec]

theorem begun_decoder_ne {i : Nat} (h : i ≠ d) : (begun c d x).decoder i = c.decoder i := by
  simp [begun, Core.setDec, decoder_setDecoder_ne _ _ _ h]

theorem begun_frame : begun c d x = { c with objs := (begun c d x).objs, decs := (begun c d x).decs } := by
  unfold begun
  rw [setDec_frame]
  rfl

variable {c d}

/-- The block that the request `q` asks for (R244), once its header is read or found too short to read. -/
def asked (q limit : Nat) (hdr : List Byte) (inBytes : Nat) : Decoder :=
  { src := q % 2 ^ 64, len := q / 2 ^ 64 % 2 ^ 32, tag := q / 2 ^ 96 % 2 ^ 32, limit := limit, desc := decide (q / 2 ^ 128 ≠ 0), hdr := hdr, inBytes := inBytes }

/-- The block `b` of the page at `base`, once its header is read or found too short to read. -/
def wanted (b : Block) (base limit : Nat) (hdr : List Byte) (inBytes : Nat) : Decoder :=
  { src := b.addr, len := b.len, limit := limit, win := some (base, b.ssn), hdr := hdr, inBytes := inBytes }

/-- Whether or not the header can be read, the decoder holds the block it was given. -/
theorem headerRead_cases (p : Prop) [Decidable p] (h : List Byte) (n : Nat) :
    ∃ hdr inBytes, (if p then x else { x with hdr := h, inBytes := n }) = { x with hdr := hdr, inBytes := inBytes } := by
  split
  · exact ⟨x.hdr, x.inBytes, rfl⟩
  · exact ⟨h, n, rfl⟩

theorem decTake_of_waiting (m : List Host.Cell) (hd : d < 4) (hmode : c.inModes [.config, .ready, .service] = true) (hidle : c.decState d = decIdle)
    (hreq : c.rd Obj.dec_REQ_HEAD d 0 ≠ c.rd Obj.dec_REQ_TAIL d 0)
    (hroom : (c.rd Obj.dec_DONE_HEAD d 0 + 1) % 16 ≠ c.rd Obj.dec_DONE_TAIL d 0) :
    let rh := c.rd Obj.dec_REQ_HEAD d 0
    ∃ hdr inBytes, c.decTake m d =
      (begun c d (asked (c.rd Obj.REQ_RING d rh) (c.rd Obj.dec_OUT_LIMIT d 0) hdr inBytes)).wr Obj.dec_REQ_HEAD d 0 ((rh + 1) % 16) := by
  intro rh
  let x := asked (c.rd Obj.REQ_RING d rh) (c.rd Obj.dec_OUT_LIMIT d 0) [] 0
  obtain ⟨hdr, inBytes, hread⟩ := headerRead_cases x (x.len < 32 ∨ x.desc = true) (c.decBytes m x 0 32) 32
  have hgiven := congrArg (fun y => (begun c d y).wr Obj.dec_REQ_HEAD d 0 ((rh + 1) % 16)) hread
  refine ⟨hdr, inBytes, ?_⟩
  rw [Core.decTake, if_pos ⟨hd, hmode, hidle, hreq, hroom⟩]
  exact hgiven

theorem windowDispatch_of_needed {pg : Page} {col : Int} {b : Block} (m : List Host.Cell) (hprint : c.inPrint = true)
    (hidle : [0, 1, 2, 3].find? (fun d => decide (c.decState d = decIdle)) = some d) (hnext : c.nextBlock = some (pg, col, b)) :
    ∃ hdr inBytes, c.windowDispatch m =
      (begun c d (wanted b pg.base (c.rd Obj.dec_OUT_LIMIT d 0) hdr inBytes)).updBlock (pg.base, b.ssn) (fun b => { b with busy := true }) := by
  let x := wanted b pg.base (c.rd Obj.dec_OUT_LIMIT d 0) [] 0
  obtain ⟨hdr, inBytes, hread⟩ := headerRead_cases x (x.len < 32) (c.decBytes m x 0 32) 32
  have hgiven := congrArg (fun y => (begun c d y).updBlock (pg.base, b.ssn) (fun b => { b with busy := true })) hread
  refine ⟨hdr, inBytes, ?_⟩
  rw [Core.windowDispatch, if_pos hprint, hidle, hnext]
  exact hgiven

end Begin

/-! #### The header, the code table and the CRC are checked (R226, R235, R237) -/

section Checks
variable {c : Core} {d : Nat} (e a : Nat)

theorem decHeaderDone_of_header (hd : d < 4) (hstate : c.decState d = decHeader) :
    c.decHeaderDone d e a =
      let u := c.decError e a; let x := c.decoder d; let st := headerCheck x.hdr x.len x.limit u.presetValid
      let f := if x.len < 32 then 0 else u.decFault x 0 32
      if x.desc = true then u.blockEnd d avDesc
      else if f = 1 then (u.violation ownAvone (u.decAddr x 0) 32).blockUnreached d
      else if e = 2 then u.decMem d a
      else if f = 2 then u.decBadWord d 0 32
      else if st ≠ avOk then u.blockEnd d st
      else if hCoding x.hdr = 2 then u.setDec d decTable else (u.setDecoder d (u.decReset x)).setDec d decDecode := by
  rw [Core.decHeaderDone, if_pos ⟨hd, hstate⟩]
  dsimp only
  by_cases hdesc : (c.decoder d).desc = true
  · rw [if_pos hdesc, if_pos hdesc]
  · simp only [or_iff_left hdesc]

theorem decTableDone_of_table (m : List Host.Cell) (hd : d < 4) (hstate : c.decState d = decTable) :
    c.decTableDone m d e a =
      let y := { c.decoder d with inBytes := 170 }; let u := (c.decError e a).setDecoder d y; let b := u.decBytes m y 32 138; let f := u.decFault y 32 138
      if f = 1 then (u.violation ownAvone (u.decAddr y 32) 138).blockUnreached d
      else if e = 2 then u.decMem d a
      else if f = 2 then u.decBadWord d 32 138
      else if codeTableOk b = true then (u.setDecoder d (u.decReset { y with lens := codeLens b })).setDec d decDecode else u.blockEnd d avTable := by
  rw [Core.decTableDone, if_pos ⟨hd, hstate⟩]

theorem decBlockEnd_of_check (hd : d < 4) (hstate : c.decState d = decCheck) :
    c.decBlockEnd d = c.blockEnd d (if Crypto.crc32c (c.decoder d).data = hCrc (c.decoder d).hdr then avOk else avCrc) := by
  rw [Core.decBlockEnd, if_pos ⟨hd, hstate⟩]

end Checks

/-- Settles O23: each command of a decoder does what its step does in the state it belongs to, and a block that is given changes its own decoder alone. -/
theorem decodersFollowTheirSteps : Obligations.DecodersFollowTheirSteps := by
  unfold Obligations.DecodersFollowTheirSteps
  intro s dt d c rh hd
  refine ⟨?_, ?_, ?_, ?_, ?_⟩
  · intro hmode hidle hreq hroom q
    obtain ⟨hdr, inBytes, htake⟩ := decTake_of_waiting s.mem hd hmode hidle hreq hroom
    let x := asked q (c.rd Obj.dec_OUT_LIMIT d 0) hdr inBytes
    have hdoes := does_decoderTakeRequest s dt d
    rw [htake] at hdoes
    refine ⟨(begun c d x).wr Obj.dec_REQ_HEAD d 0 ((rh + 1) % 16), hdoes, ?_⟩
    have hstate : ((begun c d x).wr Obj.dec_REQ_HEAD d 0 ((rh + 1) % 16)).decState d = decHeader :=
      (Ephemeris.rd_wr_member _ _ _ (by decide)).trans (begun_decState c d x)
    have hhead : Obj.dec_REQ_HEAD.fit ((rh + 1) % 16) = (rh + 1) % 16 := Nat.mod_eq_of_lt (show (rh + 1) % 16 < 256 by omega)
    rw [rd_wr, decoder_wr, begun_decoder]
    refine ⟨hstate, hhead, rfl, rfl, rfl, rfl, rfl, fun i hi => ?_, ?_⟩
    · rw [decoder_wr, begun_decoder_ne c d x hi]
    · rw [wr_reqHead_frame, begun_frame]
  · intro e a hstate
    have hdoes := doesBoth_decoderHeaderDone s dt d e a
    rwa [decHeaderDone_of_header e a hd hstate] at hdoes
  · intro e a hstate
    have hdoes := doesBoth_decoderTableDone s dt d e a
    rwa [decTableDone_of_table e a s.mem hd hstate] at hdoes
  · intro hstate
    have hdoes := doesBoth_decoderBlockEnd s dt d
    rwa [decBlockEnd_of_check hd hstate] at hdoes
  · intro pg col b hprint hidle hnext
    obtain ⟨hdr, inBytes, hgiven⟩ := windowDispatch_of_needed s.mem hprint hidle hnext
    let x := wanted b pg.base (c.rd Obj.dec_OUT_LIMIT d 0) hdr inBytes
    have hdoes := does_windowDispatch s dt
    rw [hgiven] at hdoes
    refine ⟨(begun c d x).updBlock (pg.base, b.ssn) (fun b => { b with busy := true }), hdoes, begun_decState c d x, ?_⟩
    rw [decoder_updBlock, begun_decoder]
    refine ⟨rfl, rfl, rfl, rfl, fun i hi => begun_decoder_ne c d x hi, ?_⟩
    rw [begun_frame]
    rfl

/-! #### One reading of a body (R229, R230, R234, R241) -/

section Body
variable {c : Core} {m : List Host.Cell} {d : Nat}

/-- A decoder has codes to read, or waits with output for lines of a window. -/
structure ReadsBody (c : Core) (d : Nat) : Prop where
  index : d < 4
  state : c.decState d = decDecode ∨ (c.decState d = decOutWait ∧ (c.decoder d).win.isSome = true)

/-- What is pending is written out; a STORED body written whole goes to CHECK. -/
def written (m : List Host.Cell) (d : Nat) (hdr : List Byte) (t : Core) : Core × List Host.Cell :=
  let r := t.flush m d
  (if r.2.2 = true ∧ hCoding hdr = 0 ∧ r.1.decState d = decDecode ∧ (r.1.decoder d).out.length = hDecoded hdr then r.1.setDec d decCheck else r.1, r.2.1)

/-- Only a decoder that goes on can go on to CHECK. -/
theorem written_eq (hdr : List Byte) (t : Core) :
    written m d hdr t =
      let r := t.flush m d
      (if r.2.2 = true then
        (if hCoding hdr = 0 ∧ r.1.decState d = decDecode ∧ (r.1.decoder d).out.length = hDecoded hdr then r.1.setDec d decCheck else r.1)
        else r.1, r.2.1) := by
  dsimp only [written]
  by_cases hon : (t.flush m d).2.2 = true
  · simp only [hon, true_and, if_true]
  · rw [if_neg (fun hall => hon hall.1), if_neg hon]

theorem decCode_of_uncorrectable (h : ReadsBody c d) (a : Nat) : c.decCode m d 2 a = ((c.decError 2 a).decMem d a, m) := by
  rw [Core.decCode, if_pos ⟨h.index, h.state⟩]
  exact if_pos rfl

theorem decCode_of_pending (h : ReadsBody c d) (a : Nat) (hpend : (c.decoder d).pend ≠ []) :
    c.decCode m d 0 a = written m d (c.decoder d).hdr c := by
  rw [Core.decCode, if_pos ⟨h.index, h.state⟩, decError_zero, written_eq]
  exact (if_neg (by decide)).trans (if_pos (by simpa using hpend))

/-- The body of a STORED block, taken whole. -/
def storedBody (c : Core) (m : List Host.Cell) (x : Decoder) : Decoder :=
  let o := 32 + hTableLen x.hdr
  let w := c.decBytes m x o (hBody x.hdr)
  { x with pend := if hPre x.hdr = 1 then inversePre (hLineBytes x.hdr) x.out w else w, bits := 8 * hBody x.hdr, inBytes := o + hBody x.hdr }

theorem decCode_of_stored (h : ReadsBody c d) (a : Nat) (hpend : (c.decoder d).pend = []) (hcoding : hCoding (c.decoder d).hdr = 0)
    (hfault : c.decFault (c.decoder d) (32 + hTableLen (c.decoder d).hdr) (hBody (c.decoder d).hdr) = 0) :
    c.decCode m d 0 a = written m d (c.decoder d).hdr (c.setDecoder d (storedBody c m (c.decoder d))) := by
  rw [Core.decCode, if_pos ⟨h.index, h.state⟩, decError_zero, written_eq]
  dsimp only
  rw [if_neg (by decide), if_neg (by simp [hpend]), if_pos hcoding, hfault]
  rfl

end Body

/-! #### What a code does (R229 to R231) -/

section Codes
variable {c : Core} {m : List Host.Cell} {d : Nat}

/-- The decoder has moved `k` bits on. -/
def pastCode (x : Decoder) (k : Nat) : Decoder :=
  { x with bits := x.bits + k, codes := x.codes + 1, inBytes := 32 + hTableLen x.hdr + ceilDiv (x.bits + k) 8 }

/-- What one reading of the stream `strm` does. -/
def afterReading (c : Core) (m : List Host.Cell) (d : Nat) (strm : Nat → Bool) : Reading → Core × List Host.Cell
  | .trunc => ((c.setDecoder d { c.decoder d with inBytes := 32 + hTableLen (c.decoder d).hdr + hBody (c.decoder d).hdr }).blockEnd d avTrunc, m)
  | .bad k => ((c.setDecoder d (pastCode (c.decoder d) k)).blockEnd d avCode, m)
  | .code v k =>
    let y := pastCode (c.decoder d) k
    if v = 257 then
      let st := y.endStatus (fun i => strm (k + i))
      (if st = avOk then (c.setDecoder d y).setDec d decCheck else (c.setDecoder d y).blockEnd d st, m)
    else if v = 256 then (c.setDecoder d (c.decReset y), m)
    else match y.accept v with
      | none => ((c.setDecoder d y).blockEnd d avCode, m)
      | some w =>
        if Nat.min (hDecoded y.hdr) y.limit < y.out.length + w.length then ((c.setDecoder d y).blockEnd d avOverrun, m)
        else (((c.setDecoder d (y.output w)).flush m d).1, ((c.setDecoder d (y.output w)).flush m d).2.1)

theorem decCode_of_coded (h : ReadsBody c d) (a : Nat) (hpend : (c.decoder d).pend = []) (hcoding : hCoding (c.decoder d).hdr ≠ 0) :
    let x := c.decoder d; let o := 32 + hTableLen x.hdr; let from_ := x.bits / 8; let n := Nat.min 5 (hBody x.hdr - from_)
    let word := ofLe (c.decBytes m x (o + from_) n); let strm : Nat → Bool := fun i => bit word (x.bits % 8 + i)
    c.decFault x (o + from_) n = 0 → c.decCode m d 0 a = afterReading c m d strm (x.readCode strm (8 * hBody x.hdr - x.bits)) := by
  intro x o from_ n word strm hfault
  rw [Core.decCode, if_pos ⟨h.index, h.state⟩, decError_zero]
  dsimp only
  rw [if_neg (by decide), if_neg (by simp [hpend]), if_neg hcoding]
  have hnofault : c.decFault (c.decoder d) (32 + hTableLen (c.decoder d).hdr + (c.decoder d).bits / 8)
    (min 5 (hBody (c.decoder d).hdr - (c.decoder d).bits / 8)) = 0 := hfault
  rw [hnofault]
  rfl

variable (strm : Nat → Bool) {v k : Nat}

theorem afterReading_reset : afterReading c m d strm (.code 256 k) = (c.setDecoder d (c.decReset (pastCode (c.decoder d) k)), m) := by
  dsimp only [afterReading]
  rw [if_neg (by decide), if_pos rfl]

theorem afterReading_end :
    afterReading c m d strm (.code 257 k) =
      let y := pastCode (c.decoder d) k
      let st := y.endStatus (fun i => strm (k + i))
      (if st = avOk then (c.setDecoder d y).setDec d decCheck else (c.setDecoder d y).blockEnd d st, m) := by
  dsimp only [afterReading]
  rw [if_pos rfl]

theorem afterReading_refused (hreset : v ≠ 256) (hend : v ≠ 257) (h : (pastCode (c.decoder d) k).accept v = none) :
    afterReading c m d strm (.code v k) = ((c.setDecoder d (pastCode (c.decoder d) k)).blockEnd d avCode, m) := by
  dsimp only [afterReading]
  rw [if_neg hend, if_neg hreset, h]

theorem afterReading_accepted {w : List Byte} (hreset : v ≠ 256) (hend : v ≠ 257) (h : (pastCode (c.decoder d) k).accept v = some w) :
    afterReading c m d strm (.code v k) =
      let y := pastCode (c.decoder d) k
      if Nat.min (hDecoded y.hdr) y.limit < y.out.length + w.length then ((c.setDecoder d y).blockEnd d avOverrun, m)
      else (((c.setDecoder d (y.output w)).flush m d).1, ((c.setDecoder d (y.output w)).flush m d).2.1) := by
  dsimp only [afterReading]
  rw [if_neg hend, if_neg hreset, h]

end Codes

/-! #### Decoded bytes keep their order (R229, R240) -/

/-- From `x` to `y` pending bytes have been written out in order: none is lost, and none that was written is taken back. -/
structure WrittenOut (x y : Decoder) : Prop where
  bytes : y.data ++ y.pend = x.data ++ x.pend
  grows : x.out.length ≤ y.out.length

theorem WrittenOut.refl (x : Decoder) : WrittenOut x x := ⟨rfl, Nat.le_refl _⟩

theorem WrittenOut.trans {x y z : Decoder} (hxy : WrittenOut x y) (hyz : WrittenOut y z) : WrittenOut x z :=
  ⟨hyz.bytes.trans hxy.bytes, Nat.le_trans hxy.grows hyz.grows⟩

/-- The first `n` pending bytes are written, wherever they go. -/
theorem writtenOut_take (x : Decoder) (n addr room : Nat) :
    WrittenOut x { x with pend := x.pend.drop n, addr := addr, room := room, out := (x.pend.take n).reverse ++ x.out } where
  bytes := by simp [Decoder.data]
  grows := by simp

/-- A buffer taken from the ring leaves the bytes as they are. -/
theorem writtenOut_nextBuffer (x : Decoder) (addr room : Nat) : WrittenOut x { x with used := x.used + 1, addr := addr, room := room } :=
  ⟨rfl, Nat.le_refl _⟩

/-- Where the ring's buffers take what is pending, it is written out; only where all of it went does the writing end so. -/
theorem flushRing_writesOut (c : Core) (m : List Host.Cell) (d k : Nat) (x : Decoder) :
    WrittenOut x (c.flushRing m d k x).1 ∧ ((c.flushRing m d k x).2.2.2 = .all → (c.flushRing m d k x).1.pend = []) := by
  induction k generalizing m x with
  | zero =>
    refine ⟨.refl x, fun hall => ?_⟩
    cases hpend : x.pend with
    | nil => exact hpend
    | cons b rest => simp [Core.flushRing, hpend] at hall
  | succ k ih =>
    dsimp only [Core.flushRing]
    by_cases hpend : x.pend.isEmpty = true
    · rw [if_pos hpend]
      exact ⟨.refl x, fun _ => List.isEmpty_iff.mp hpend⟩
    rw [if_neg hpend]
    by_cases hroom : x.room = 0
    · rw [if_pos hroom]
      by_cases hwait : (c.rd Obj.dec_OUT_HEAD d 0 + x.used) % 256 = c.rd Obj.dec_OUT_TAIL d 0
      · rw [if_pos hwait]
        exact ⟨.refl x, nofun⟩
      rw [if_neg hwait]
      split
      next => exact ⟨(writtenOut_nextBuffer x _ _).trans (ih _ _).1, (ih _ _).2⟩
      next => exact ⟨.refl x, nofun⟩
    rw [if_neg hroom]
    split
    next => exact ⟨(writtenOut_take x _ _ _).trans (ih _ _).1, (ih _ _).2⟩
    next =>
      refine ⟨.refl x, fun hall => ?_⟩
      dsimp only at hall
      split at hall <;> cases hall

/-- Settles O24: each reading is one of the cases of decCode, and writing out keeps the bytes by induction on the buffers. -/
theorem codesAreDecoded : Obligations.CodesAreDecoded := by
  unfold Obligations.CodesAreDecoded
  refine ⟨fun s dt d a => ?_, fun c m d k x => ?_⟩
  · intro c x o from_ n word strm runs writes hd hstate
    have hreads : ReadsBody c d := ⟨hd, hstate⟩
    have hruns {e : Nat} {r : Core × List Host.Cell} (h : c.decCode s.mem d e a = r) : runs e r := h ▸ doesBoth_decodeCode s dt d e a
    refine ⟨hruns (decCode_of_uncorrectable hreads a), fun hpend => hruns (decCode_of_pending hreads a hpend),
      fun hpend hcoding hfault => hruns (decCode_of_stored hreads a hpend hcoding hfault), fun hpend hcoding hfault => ?_⟩
    have hcode {g : Reading} (h : x.readCode strm (8 * hBody x.hdr - x.bits) = g) : c.decCode s.mem d 0 a = afterReading c s.mem d strm g :=
      h ▸ decCode_of_coded hreads a hpend hcoding hfault
    refine ⟨fun h => hruns (hcode h), fun k h => hruns (hcode h), fun v k h => ⟨?_, ?_, ?_, ?_⟩⟩
    · rintro rfl
      exact hruns ((hcode h).trans (afterReading_reset strm))
    · rintro rfl
      exact hruns ((hcode h).trans (afterReading_end strm))
    · intro hreset hend hrefused
      exact hruns ((hcode h).trans (afterReading_refused strm hreset hend hrefused))
    · intro w hreset hend haccepted
      exact hruns ((hcode h).trans (afterReading_accepted strm hreset hend haccepted))
  · obtain ⟨hout, hall⟩ := flushRing_writesOut c m d k x
    exact ⟨hout.bytes, hout.grows, hall⟩

end Sys2Proof.Proofs.Avone

/-! ### Proofs: the host ports and the test access port (ch. 10, 22) -/

namespace Sys2Proof.Proofs.HostPort
open Sys2Proof Sys2Proof.Machine Sys2Proof.Laws

/-! #### What the commands of the host ports and of the TAP answer -/

section Answers
variable (s : State) (dt lane : Nat)

theorem does_hostPortFrame (b : List Byte) : Does (.hostPortFrame dt lane b) s ((s.core.advance dt).hostFrame lane b) :=
  Fire.does_of_onCore (fun c => (c.advance dt).hostFrame lane b) rfl

theorem does_hostPortBlockLock : Does (.hostPortBlockLock dt lane) s ((s.core.advance dt).hostLink lane true) :=
  Fire.does_of_onCore (fun c => (c.advance dt).hostLink lane true) rfl

theorem does_hostPortLockLost : Does (.hostPortLockLost dt lane) s ((s.core.advance dt).hostLink lane false) :=
  Fire.does_of_onCore (fun c => (c.advance dt).hostLink lane false) rfl

theorem does_tapInstruction (ir boundary : Nat) : Does (.tapInstruction dt ir boundary) s ((s.core.advance dt).tapInstruction ir boundary) :=
  Fire.does_of_onCore (fun c => (c.advance dt).tapInstruction ir boundary) rfl

end Answers

section Ports
variable {c : Core} {lane : Nat} {b : List Byte}

/-- The block takes what comes at a host port: it runs, has reached CONFIG, and has that port. -/
structure Serves (c : Core) (lane : Nat) : Prop where
  running : c.running = true
  config : c.configReached = true
  lane : lane < 2

/-! #### Block lock (R255, R452) -/

theorem hostLink_of_unserved (up : Bool) (h : c.running = false ∨ c.configReached = false ∨ 2 ≤ lane) : c.hostLink lane up = c :=
  if_neg fun ⟨hrun, hconfig, hlane, _⟩ => by
    obtain h | h | h := h
    · simp [h] at hrun
    · simp [h] at hconfig
    · omega

theorem hostLink_of_island_down (up : Bool) (h : c.rd Obj.ISLAND_STATE 0 (64 + lane) ≠ 2) : c.hostLink lane up = c :=
  if_neg fun ⟨_, _, _, hisland⟩ => h hisland

theorem hostLink_of_served (up : Bool) (h : Serves c lane) (hisland : c.rd Obj.ISLAND_STATE 0 (64 + lane) = 2) :
    c.hostLink lane up = c.wr Obj.hp_PORT_LINK lane 0 (b2n up) := if_pos ⟨h.running, h.config, h.lane, hisland⟩

/-- PORT_LINK shows the lock, and nothing else changes. -/
theorem portLink_of_served (up : Bool) (h : Serves c lane) (hisland : c.rd Obj.ISLAND_STATE 0 (64 + lane) = 2) :
    (c.hostLink lane up).rd Obj.hp_PORT_LINK lane 0 = b2n up ∧ c.hostLink lane up = { c with objs := (c.hostLink lane up).objs } := by
  rw [hostLink_of_served up h hisland]
  constructor
  · rw [rd_wr]
    cases up <;> rfl
  · rw [Ephemeris.wr_of_not_retained _ _ _ _ _ rfl]

/-! #### Frames by their Ethernet type (R256) -/

/-- Where a frame's Ethernet type stands: one IEEE 802.1Q tag is passed over. -/
def typeAt (b : List Byte) : Nat := if ofBe ((b.drop 12).take 2) = 0x8100 then 16 else 12

/-- A frame's Ethernet type. -/
def typeOf (b : List Byte) : Nat := ofBe ((b.drop (typeAt b)).take 2)

theorem hostFrame_of_unserved (h : c.running = false ∨ c.configReached = false ∨ 2 ≤ lane) : c.hostFrame lane b = c :=
  if_pos (by simpa using h)

/-- A frame is dropped that is too long, is a MAC control frame or bears a second tag. -/
def Dropped (b : List Byte) : Prop :=
  9018 < b.length + 4 ∨ typeOf b = 0x8808 ∨ (ofBe ((b.drop 12).take 2) = 0x8100 ∧ typeOf b = 0x8100)

theorem hostFrame_of_dropped (hserves : Serves c lane) (h : Dropped b) : c.hostFrame lane b = c := by
  unfold Core.hostFrame
  rw [if_neg (by simp [hserves.running, hserves.config, hserves.lane])]
  exact if_pos (by simpa [Dropped, typeOf, typeAt] using h)

/-- What is not dropped goes by its type. -/
theorem hostFrame_of_kept (hserves : Serves c lane) (h : ¬ Dropped b) :
    c.hostFrame lane b =
      let p := b.drop (typeAt b + 2)
      if typeOf b = 0x0806 then c.arpIn lane p
      else if typeOf b = 0x0800 then c.ipv4In lane ((b.drop 6).take 6) p
      else if typeOf b = 0x86DD then c.ipv6In lane ((b.drop 6).take 6) p
      else c.otherFrame := by
  unfold Core.hostFrame
  rw [if_neg (by simp [hserves.running, hserves.config, hserves.lane]),
    if_neg (by simpa [Dropped, typeOf, typeAt] using h)]
  by_cases htag : ofBe ((b.drop 12).take 2) = 0x8100 <;> simp [typeOf, typeAt, htag]

theorem not_dropped_of_type (hlen : b.length ≤ 9014) (hcontrol : typeOf b ≠ 0x8808) (htag : typeOf b ≠ 0x8100) : ¬ Dropped b := by
  rintro (h | h | h)
  · omega
  · exact hcontrol h
  · exact htag h.2

theorem hostFrame_of_unknown (hserves : Serves c lane) (hlen : b.length ≤ 9014)
    (h : let t := ofBe ((b.drop 12).take 2); t ≠ 0x8100 ∧ t ≠ 0x8808 ∧ t ≠ 0x0806 ∧ t ≠ 0x0800 ∧ t ≠ 0x86DD) :
    c.hostFrame lane b = c.inc Obj.DGRAM_DISCARDS 0 0 1 := by
  obtain ⟨htag, hcontrol, harp, hv4, hv6⟩ := h
  have htype : typeOf b = ofBe ((b.drop 12).take 2) := by rw [typeOf, typeAt, if_neg htag]
  rw [← htype] at htag hcontrol harp hv4 hv6
  rw [hostFrame_of_kept hserves (not_dropped_of_type hlen hcontrol htag)]
  dsimp only
  rw [if_neg harp, if_neg hv4, if_neg hv6]
  rfl

/-- The three forms in which a frame is dropped, from its bytes. -/
theorem dropped_of_bytes (h : 9014 < b.length ∨ ofBe ((b.drop 12).take 2) = 0x8808 ∨
    (ofBe ((b.drop 12).take 2) = 0x8100 ∧ (ofBe ((b.drop 16).take 2) = 0x8100 ∨ ofBe ((b.drop 16).take 2) = 0x8808))) : Dropped b := by
  obtain hlen | hcontrol | ⟨htag, hsecond | hcontrol⟩ := h
  · exact .inl (by omega)
  · have htag : ofBe ((b.drop 12).take 2) ≠ 0x8100 := by omega
    exact .inr (.inl (by rw [typeOf, typeAt, if_neg htag, hcontrol]))
  · exact .inr (.inr ⟨htag, by rw [typeOf, typeAt, if_pos htag, hsecond]⟩)
  · exact .inr (.inl (by rw [typeOf, typeAt, if_pos htag, hcontrol]))

/-! #### ARP (R256) -/

theorem arpIn_of_request {src spa tpa : List Byte} (hsrc : src.length = 6) (hspa : spa.length = 4) (htpa : tpa.length = 4) (hown : c.ownV4 lane tpa = true) :
    c.arpIn lane ([0, 1, 8, 0, 6, 4, 0, 1] ++ src ++ spa ++ List.replicate 6 0 ++ tpa) =
      c.hostAnswer lane 0x0806 src tpa spa ([0, 1, 8, 0, 6, 4, 0, 2] ++ c.macOf lane ++ tpa ++ src ++ spa) := by
  have htail : tpa.take 4 = tpa := List.take_of_length_le (by omega)
  unfold Core.arpIn
  simp [hsrc, hspa, htpa, hown, htail, List.drop_append, List.take_append, List.drop_eq_nil_of_le]

/-- Behind its addresses and at most one tag a frame's type and payload are found. -/
theorem typeOf_of_tagged {head tag rest : List Byte} {x y : Byte} (hhead : head.length = 12) (htag : tag = [] ∨ ∃ v w : Byte, tag = [0x81, 0x00, v, w])
    (htype : ofBe [x, y] ≠ 0x8100) :
    typeOf (head ++ tag ++ [x, y] ++ rest) = ofBe [x, y] ∧
      (head ++ tag ++ [x, y] ++ rest).drop (typeAt (head ++ tag ++ [x, y] ++ rest) + 2) = rest := by
  obtain rfl | ⟨v, w, rfl⟩ := htag
  · simp [typeOf, typeAt, hhead, htype, List.drop_append, List.drop_eq_nil_of_le]
  · have hdot1q : ofBe [129#8, 0#8] = 0x8100 := by decide
    simp [typeOf, typeAt, hhead, hdot1q, List.drop_append, List.drop_eq_nil_of_le]

/-! #### Datagrams for the stream receiver (R256) -/

theorem ipv4In_of_stream {mac ip udp : List Byte} (hip : ip.length = 20) (hudp : 8 ≤ udp.length) (hver : nth 0 ip 0 = 0x45)
    (hlen : ofBe ((ip.drop 2).take 2) = 20 + udp.length) (hfrag : ofBe ((ip.drop 6).take 2) % 16384 = 0) (hproto : nth 0 ip 9 = 17)
    (hsum : foldSum (wordSum ip) = 65535) (hown : c.ownV4 lane ((ip.drop 16).take 4) = true) (hnosum : (udp.drop 6).take 2 = [0, 0])
    (hport : ofBe ((udp.drop 2).take 2) = c.netVal Obj.STREAM_PORT 0) :
    c.ipv4In lane mac (ip ++ udp) = c.dataDatagram lane (ofLe ([0, 0, 0, 0, 0, 0, 0, 0, 0, 0, 0xFF, 0xFF] ++ (ip.drop 12).take 4)) (ofBe (udp.take 2))
      ((udp.drop 8).take (ofBe ((udp.drop 4).take 2) - 8)) := by
  have hfront (i : Nat) (hi : i < 20) : nth 0 (ip ++ udp) i = nth 0 ip i := by
    rw [Raster.nth_eq_getD, Raster.nth_eq_getD, List.getD_eq_getElem?_getD, List.getD_eq_getElem?_getD, List.getElem?_append_left (by omega)]
  have hfield (o n : Nat) (h : o + n ≤ 20) : ((ip ++ udp).drop o).take n = (ip.drop o).take n := by
    rw [List.drop_append_of_le_length (by omega), List.take_append_of_le_length (by rw [List.length_drop]; omega)]
  have hhead : 4 * ((nth 0 (ip ++ udp) 0).toNat % 16) = 20 := by rw [hfront 0 (by omega), hver]; rfl
  have hversion : (nth 0 (ip ++ udp) 0).toNat / 16 = 4 := by rw [hfront 0 (by omega), hver]; rfl
  have hsrc := hfield 12 4 (by omega)
  have hdst := hfield 16 4 (by omega)
  have htotal := hfield 2 2 (by omega)
  have hfrags := hfield 6 2 (by omega)
  have htake : (ip ++ udp).take 20 = ip := by rw [← hip]; exact List.take_left
  have hdrop : (ip ++ udp).drop 20 = udp := by rw [← hip]; exact List.drop_left
  unfold Core.ipv4In
  simp only [hhead, hsrc, hdst, htotal, hfrags, hlen, hdrop, Nat.add_sub_cancel_left, List.take_length, hversion, htake, hsum, hfrag,
    hfront 9 (by omega), hproto, hnosum]
  rw [if_neg (by simp [hip])]
  simp [hudp, Core.udpIn, hown, hport]

end Ports

/-! #### The test access port (R563) -/

section Tap
variable {c : Core} {ir boundary : Nat}

theorem tapInstruction_of_off (h : c.tapOn = false) : c.tapInstruction ir boundary = c := if_pos (by simp [h])

theorem tapInstruction_of_idcode (hon : c.tapOn = true) :
    c.tapInstruction 1 boundary = { c with tapIr := 1, out := ⟨.tdo, 1, [(jtagIdcode : Int)], []⟩ :: c.out } := by
  simp [Core.tapInstruction, hon, Core.tapDecode, Core.emit]

theorem tapInstruction_of_bypass (hon : c.tapOn = true) (hid : ir ≠ 1) (h : c.testEn = false ∨ (ir ≠ 2 ∧ ir ≠ 3)) :
    c.tapInstruction ir boundary = { c with tapIr := 0, out := ⟨.tdo, 0, [], []⟩ :: c.out } := by
  have hdecode : c.tapDecode ir = 0 := if_neg (by
    rintro (h1 | ⟨htest, h23⟩)
    · exact hid h1
    · obtain h | ⟨h2, h3⟩ := h
      · simp [h] at htest
      · exact h23.elim h2 h3)
  simp [Core.tapInstruction, hon, hdecode, Core.emit]

theorem tapInstruction_of_sample (hon : c.tapOn = true) (htest : c.testEn = true) :
    c.tapInstruction 2 boundary =
      { c with tapIr := 2, tapBoundary := boundary, freeCount := c.freeCount + 1, out := ⟨.tdo, 2, [(Config.open_ c.freeCount : Int)], []⟩ :: c.out } := by
  simp [Core.tapInstruction, hon, Core.tapDecode, htest, Core.emit, Core.drawOpen]

theorem tapInstruction_of_extest (hon : c.tapOn = true) (htest : c.testEn = true) :
    c.tapInstruction 3 boundary = { c with tapIr := 3, tapBoundary := boundary, out := ⟨.tdo, 3, [(boundary : Int)], []⟩ :: c.out } := by
  simp [Core.tapInstruction, hon, Core.tapDecode, htest, Core.emit]

end Tap

/-- Settles O60: a frame is dropped or goes by its type, block lock shows where the port is served, and each TAP code does what it decodes to. -/
theorem hostPortsAndTapAnswer : Obligations.HostPortsAndTapAnswer := by
  unfold Obligations.HostPortsAndTapAnswer
  refine ⟨fun s dt lane b => ?_, fun s dt ir boundary => ?_⟩
  · intro c
    have hframe : Does (.hostPortFrame dt lane b) s (c.hostFrame lane b) := does_hostPortFrame s dt lane b
    have hlock : Does (.hostPortBlockLock dt lane) s (c.hostLink lane true) := does_hostPortBlockLock s dt lane
    have hlost : Does (.hostPortLockLost dt lane) s (c.hostLink lane false) := does_hostPortLockLost s dt lane
    refine ⟨fun h => ?_, fun h => ?_, fun hrun hconfig hlane => ?_⟩
    · rw [hostFrame_of_unserved h] at hframe
      rw [hostLink_of_unserved _ h] at hlock hlost
      exact ⟨hframe, hlock, hlost⟩
    · rw [hostLink_of_island_down _ h] at hlock hlost
      exact ⟨hlock, hlost⟩
    · have hserves : Serves c lane := ⟨hrun, hconfig, hlane⟩
      refine ⟨fun hisland => ?_, ?_, ?_, fun hlen h => ?_, fun h => ?_⟩
      · exact ⟨⟨_, hlock, portLink_of_served true hserves hisland⟩, ⟨_, hlost, portLink_of_served false hserves hisland⟩⟩
      · intro src spa tpa tag hsrc hspa htpa htag hb hown
        have hbytes : b = (List.replicate 6 0xFF ++ src) ++ tag ++ [0x08, 0x06] ++ ([0, 1, 8, 0, 6, 4, 0, 1] ++ src ++ spa ++ List.replicate 6 0 ++ tpa) := by
          rw [hb]; simp only [List.append_assoc]
        have hlen : b.length ≤ 9014 := by
          obtain rfl | ⟨v, w, rfl⟩ := htag <;> simp [hb, hsrc, hspa, htpa]
        obtain ⟨htype, hrest⟩ := typeOf_of_tagged (head := List.replicate 6 0xFF ++ src) (x := 0x08) (y := 0x06)
          (rest := [0, 1, 8, 0, 6, 4, 0, 1] ++ src ++ spa ++ List.replicate 6 0 ++ tpa) (by simp [hsrc]) htag (by decide)
        rw [← hbytes] at htype hrest
        have harp : typeOf b = 0x0806 := htype
        rw [hostFrame_of_kept hserves (not_dropped_of_type hlen (by omega) (by omega))] at hframe
        dsimp only at hframe
        rwa [if_pos harp, hrest, arpIn_of_request hsrc hspa htpa hown] at hframe
      · intro head ip udp hhead hip hudp hlen hb hver htotal hfrag hproto hsum hown hnosum hport
        have hbytes : b = head ++ [] ++ [0x08, 0x00] ++ (ip ++ udp) := by rw [hb]; simp only [List.append_assoc, List.nil_append]
        obtain ⟨htype, hrest⟩ := typeOf_of_tagged (x := 0x08) (y := 0x00) (rest := ip ++ udp) hhead (.inl rfl) (by decide)
        rw [← hbytes] at htype hrest
        have hv4 : typeOf b = 0x0800 := htype
        rw [hostFrame_of_kept hserves (not_dropped_of_type hlen (by omega) (by omega))] at hframe
        dsimp only at hframe
        rwa [if_neg (by omega), if_pos hv4, hrest, ipv4In_of_stream hip hudp hver htotal hfrag hproto hsum hown hnosum hport] at hframe
      · rwa [hostFrame_of_unknown hserves hlen h] at hframe
      · rwa [hostFrame_of_dropped hserves (dropped_of_bytes h)] at hframe
  · intro c
    have htap : Does (.tapInstruction dt ir boundary) s (c.tapInstruction ir boundary) := does_tapInstruction s dt ir boundary
    refine ⟨fun hoff => ?_, fun hon => ⟨?_, fun hid h => ?_, ?_, ?_⟩⟩
    · rwa [tapInstruction_of_off hoff] at htap
    · rintro rfl
      rwa [tapInstruction_of_idcode hon] at htap
    · rwa [tapInstruction_of_bypass hon hid h] at htap
    · rintro htest rfl
      rw [tapInstruction_of_sample hon htest] at htap
      exact ⟨_, htap⟩
    · rintro htest rfl
      rwa [tapInstruction_of_extest hon htest] at htap

end Sys2Proof.Proofs.HostPort

/-! ### Proofs: the DMA engines (ch. 10) -/

namespace Sys2Proof.Proofs.Dma
open Sys2Proof Sys2Proof.Machine Sys2Proof.Laws

/-! #### What the commands of an engine answer -/

section Answers
variable (s : State) (dt g : Nat)

theorem does_dmaGrant : Does (.dmaGrant dt g) s ((s.core.advance dt).dmaGrant g) :=
  Fire.does_of_onCore (fun c => (c.advance dt).dmaGrant g) rfl

theorem does_dmaDescriptorEnd : Does (.dmaDescriptorEnd dt g) s ((s.core.advance dt).dmaDescEnd g) :=
  Fire.does_of_onCore (fun c => (c.advance dt).dmaDescEnd g) rfl

theorem does_dmaBusError (write : Bool) : Does (.dmaBusError dt g write) s ((s.core.advance dt).dmaBusError g write) :=
  Fire.does_of_onCore (fun c => (c.advance dt).dmaBusError g write) rfl

theorem doesBoth_dmaBurst (e a n : Nat) :
    DoesBoth (.dmaBurst dt g e a n) s ((s.core.advance dt).dmaBurst s.mem g e a n).1 ((s.core.advance dt).dmaBurst s.mem g e a n).2 :=
  Avone.doesBoth_of_onBoth (fun c m => (c.advance dt).dmaBurst m g e a n) rfl

end Answers

/-! #### Keys, counters and the channels' records -/

/-- Elements of indexes apart have different keys. -/
theorem key_ne_of_index {o p : Ob} {i j a b : Nat} (h : ¬ 1 < o.nel ∧ ¬ 1 < p.nel ∧ o.sub + j < 65536 ∧ p.sub + b < 65536)
    (hidx : o.idx + o.stride * i ≠ p.idx + p.stride * a) : o.key i j ≠ p.key a b := by
  obtain ⟨ho, hp, hsub, hsub'⟩ := h
  simp only [Ob.key, gt_iff_lt, ho, hp, if_false]
  omega

/-- Elements of different subindexes have different keys. -/
theorem key_ne_of_subindex {o p : Ob} {i j a b : Nat}
    (h : ¬ 1 < o.nel ∧ ¬ 1 < p.nel ∧ o.sub + j < 65536 ∧ p.sub + b < 65536 ∧ o.sub + j ≠ p.sub + b) : o.key i j ≠ p.key a b := by
  obtain ⟨ho, hp, hsub, hsub', hne⟩ := h
  simp only [Ob.key, gt_iff_lt, ho, hp, if_false]
  omega

section Fields
variable (c : Core) (k n : Nat)

theorem rd_inc (o : Ob) (i j : Nat) : (c.inc o i j n).rd o i j = o.fit (c.rd o i j + n) := rd_wr _ o i j _

theorem rd_inc_ne (o p : Ob) (i j a b : Nat) (h : p.key a b ≠ o.key i j) : (c.inc o i j n).rd p a b = c.rd p a b := rd_wr_ne _ o p i j a b _ h

/-- An object the journal does not keep changes nothing but the objects. -/
theorem wr_leaves {o : Ob} (i j v : Nat) (h : o.retained = false) : ∃ l, c.wr o i j v = { c with objs := l } :=
  ⟨_, Ephemeris.wr_of_not_retained c o i j v h⟩

/-- A counter the journal does not keep changes nothing but the objects and what is noted of counters at this instant (R466). -/
theorem inc_frame {o : Ob} (i j : Nat) (h : o.retained = false) : ∃ l q z, c.inc o i j n = { c with objs := l, bumps := q, bumpAt := z } :=
  ⟨_, _, _, Ephemeris.wr_of_not_retained (c.bump (o.key i j) n) o i j _ h⟩

theorem rd_setDma (x : DmaCh) (o : Ob) (i j : Nat) : (c.setDma k x).rd o i j = c.rd o i j := rfl

@[simp] theorem dmaCh_setDma (x : DmaCh) : (c.setDma k x).dmaCh k = x := tab_get_set _ _ _ _

theorem dmaCh_setDma_ne {i : Nat} (x : DmaCh) (h : i ≠ k) : (c.setDma k x).dmaCh i = c.dmaCh i := tab_get_set_ne _ _ _ _ _ h

theorem dmaCh_congr {t : Core} (h : t.dma = c.dma) (i : Nat) : t.dmaCh i = c.dmaCh i := by rw [Core.dmaCh, h, Core.dmaCh]

theorem mendWords_frame (a : Nat) : ∃ l, c.mendWords a n = { c with badWords := l } := by
  unfold Core.mendWords
  split
  · exact ⟨c.badWords, rfl⟩
  · exact ⟨_, rfl⟩

@[simp] theorem rd_mendWords (a : Nat) (o : Ob) (i j : Nat) : (c.mendWords a n).rd o i j = c.rd o i j := by
  obtain ⟨l, h⟩ := mendWords_frame c n a
  rw [h]
  rfl

@[simp] theorem dmaCh_mendWords (a i : Nat) : (c.mendWords a n).dmaCh i = c.dmaCh i := by
  obtain ⟨l, h⟩ := mendWords_frame c n a
  rw [h]
  rfl

/-- Where an address lies depends on the size of DRAM alone. -/
theorem locate_congr {t : Core} (a : Nat) (h : t.rd0 Obj.DRAM_SIZE = c.rd0 Obj.DRAM_SIZE) : t.locate a = c.locate a := by
  simp only [Core.locate, h]

/-- A report of no memory error changes nothing. -/
theorem memError_zero (a : Nat) : c.memError 0 a = c := by simp [Core.memError]

/-! #### Collisions at a dual-port bank (R303) -/

theorem collide_frame (a : Nat) : ∃ l q z, c.collide a n = { c with objs := l, bumps := q, bumpAt := z } := by
  unfold Core.collide
  dsimp only
  split
  · exact ⟨c.objs, c.bumps, c.bumpAt, rfl⟩
  · exact inc_frame c n _ _ rfl

/-- SB_COLLISIONS has two elements: an object that is none of them stays. -/
theorem rd_collide (a : Nat) {o : Ob} {i j : Nat} (h : ∀ e < 2, o.key i j ≠ Obj.SB_COLLISIONS.key 0 e) : (c.collide a n).rd o i j = c.rd o i j := by
  unfold Core.collide
  dsimp only
  split
  · rfl
  · rename_i hdual
    have hbank : 48 ≤ bankOf (c.locate a).2 ∧ bankOf (c.locate a).2 ≤ 49 := by
      have hboth := (not_or.mp hdual).2
      simpa [bankDual] using hboth
    exact rd_inc_ne _ _ _ _ _ _ _ _ (h _ (by omega))

@[simp] theorem dmaCh_collide (a i : Nat) : (c.collide a n).dmaCh i = c.dmaCh i := by
  obtain ⟨l, q, z, h⟩ := collide_frame c n a
  rw [h]
  rfl

@[simp] theorem clk_collide (a : Nat) : (c.collide a n).clk = c.clk := by
  obtain ⟨l, q, z, h⟩ := collide_frame c n a
  rw [h]

/-- No member of a channel's record is one of the counts of collisions. -/
theorem rd_collide_of_sub (a : Nat) {o : Ob} {i : Nat} (h : ¬ 1 < o.nel ∧ 3 < o.sub ∧ o.sub < 65536) :
    (c.collide a n).rd o i 0 = c.rd o i 0 :=
  rd_collide c n a fun e he => key_ne_of_subindex ⟨h.1, by decide, by omega, by change 1 + e < 65536; omega, by change o.sub + 0 ≠ 1 + e; omega⟩

theorem locate_collide (a b : Nat) : (c.collide a n).locate b = c.locate b :=
  locate_congr c b (rd_collide c n a fun e he => key_ne_of_subindex ⟨by decide, by decide, by decide, by change 1 + e < 65536; omega, by change 3 + 0 ≠ 1 + e; omega⟩)

theorem tokensOf_collide (a : Nat) : (c.collide a n).tokensOf k = c.tokensOf k := by
  unfold Core.tokensOf
  simp only [dmaCh_collide, clk_collide]
  rw [rd_collide_of_sub c n a (by decide), rd_collide_of_sub c n a (by decide)]

end Fields

/-! #### Bytes stored through a view (R299) -/

section Stores
variable {c : Core} {m : List Host.Cell} {a : Nat} {l : List Byte}

/-- Bytes written read back. -/
theorem get_write_inside {i : Nat} (w : Memory.wf m = true) (h : i < l.length) : Memory.get (Memory.write m a l) (a + i) = nth 0 l i := by
  induction l generalizing m a i with
  | nil => exact absurd h (Nat.not_lt_zero i)
  | cons x t ih =>
    have hstep : Memory.write m a (x :: t) = Memory.write (Memory.set m a x) (a + 1) t := rfl
    cases i with
    | zero =>
      rw [hstep, memory_get_write_outside t _ (a + 1) (a + 0) (by omega)]
      exact memory_get_set m a x w
    | succ i =>
      rw [hstep, show a + (i + 1) = a + 1 + i by omega]
      exact ih (memory_wf_set m a x w) (Nat.lt_of_succ_lt_succ h)

theorem get_storeAt_inside {i : Nat} (w : Memory.wf m = true) (hmapped : (c.locate a).1 ≠ .unmapped) (h : i < l.length) :
    Memory.get (c.storeAt m a l) ((c.locate a).2 + i) = (c.locate a).1.merge (Memory.get m ((c.locate a).2 + i)) (nth 0 l i) := by
  have hmerged (view : View) (p : Nat) : nth 0 (l.mapIdx (fun i x => view.merge (Memory.get m (p + i)) x)) i = view.merge (Memory.get m (p + i)) (nth 0 l i) := by
    rw [Raster.nth_eq_getD, Raster.nth_eq_getD, List.getD_eq_getElem?_getD, List.getD_eq_getElem?_getD, List.getElem?_mapIdx, List.getElem?_eq_getElem h]
    rfl
  unfold Core.storeAt
  generalize c.locate a = v at hmapped ⊢
  obtain ⟨view, p⟩ := v
  cases view with
  | unmapped => exact absurd rfl hmapped
  | dram => exact get_write_inside w h
  | plain => exact get_write_inside w h
  | bitSet => exact (get_write_inside w (by simpa using h)).trans (hmerged .bitSet p)
  | bitClear => exact (get_write_inside w (by simpa using h)).trans (hmerged .bitClear p)

theorem get_storeAt_outside {z : Nat} (h : z < (c.locate a).2 ∨ (c.locate a).2 + l.length ≤ z) : Memory.get (c.storeAt m a l) z = Memory.get m z := by
  unfold Core.storeAt
  generalize c.locate a = v at h ⊢
  obtain ⟨view, p⟩ := v
  cases view with
  | unmapped => rfl
  | dram => exact memory_get_write_outside _ _ _ _ h
  | plain => exact memory_get_write_outside _ _ _ _ h
  | bitSet => exact memory_get_write_outside _ _ _ _ (by simpa using h)
  | bitClear => exact memory_get_write_outside _ _ _ _ (by simpa using h)

/-- A write of some bytes that meets no fault lies in one of the views of the address map. -/
theorem mapped_of_writable {who n : Nat} (hn : 0 < n) (h : c.writeFault who a n = 0) : (c.locate a).1 ≠ .unmapped := by
  intro hview
  have hunreached : c.reaches who a n = false := by
    unfold Core.reaches
    simp only
    rw [if_neg (by omega), if_pos (.inl hview)]
  simp [Core.writeFault, hunreached] at h

end Stores

/-! #### The channel that holds an engine -/

section Engine
variable {c : Core} {g k : Nat}

/-- A channel holds only an engine of the host's, and is one of its sixteen. -/
theorem channel_of_active (h : c.activeCh g = some k) : (1 ≤ g ∧ g < 8) ∧ 16 * g ≤ k ∧ k < 16 * g + 16 := by
  unfold Core.activeCh at h
  dsimp only at h
  split at h
  · rename_i hengine
    cases h
    omega
  · cases h

theorem activeCh_zero (c : Core) : c.activeCh 0 = none := by simp [Core.activeCh]

/-- The engine whose turn it is has a burst to issue. -/
theorem burstReady_of_turn (h : c.dmaTurn = some g) : c.burstReady g = true := List.find?_some h

theorem chState_of_turn (hch : c.activeCh g = some k) (h : c.dmaTurn = some g) : c.chState k = chActive := by
  obtain ⟨⟨hg, -⟩, -⟩ := channel_of_active hch
  have hready := burstReady_of_turn h
  unfold Core.burstReady at hready
  rw [if_neg (by omega), hch] at hready
  simp only [Bool.and_eq_true, decide_eq_true_eq] at hready
  exact hready.1.1.1.1

end Engine

/-! #### One burst (R283, R284) -/

section Burst
variable {c : Core} {m : List Host.Cell} {g k : Nat}

/-- The block as a burst to address `a` finds it: the turn is its engine's, and it meets no collision. -/
def atBurst (c : Core) (g a : Nat) : Core := ({ c with dmaTop := g }).collide a 0

/-- A paced channel pays for `n` bytes. -/
def paid (c : Core) (k n : Nat) : Core := if c.rd Obj.dma_PACE_MODE k 0 = 0 then c.fixTokens k (c.tokensOf k - 8 * n) else c

/-- The channel stands after the burst, whose bytes are counted. -/
def advanced (c : Core) (k n : Nat) : Core := (c.setDma k ((c.dmaCh k).moved n)).inc Obj.dma_BYTES k 0 n

/-- The block after a burst that meets no error. -/
def afterBurst (c : Core) (g k : Nat) : Core :=
  let b := nextBurst (c.dmaCh k)
  let t := advanced (paid (atBurst c g b.2.1) k b.2.2.1) k b.2.2.1
  t.mendWords (t.locate b.2.1).2 b.2.2.1

theorem dmaBurst_of_waiting {e a n : Nat} (hch : c.activeCh g = some k) (h : c.dmaTurn ≠ some g) : c.dmaBurst m g e a n = (c, m) := by
  unfold Core.dmaBurst
  rw [hch]
  exact if_pos h

/-- In its turn, without a memory error and without a collision, a burst is decided by whether its ends can be reached. -/
theorem dmaBurst_of_turn (a : Nat) (hch : c.activeCh g = some k) (h : c.dmaTurn = some g) :
    c.dmaBurst m g 0 a 0 =
      let x := c.dmaCh k; let b := nextBurst x; let n := b.2.2.1; let t := atBurst c g b.2.1
      let fr := if dFill x.desc then 0 else t.readFault ownDma b.1 n
      let fw := t.writeFault ownDma b.2.1 n
      if fr ≠ 0 then ((if fr = 1 then t.violation ownDma b.1 n else t.memError 2 (t.badAddr b.1 n)).dmaHalt k b.1 false, m)
      else if fw ≠ 0 then ((if fw = 1 then t.violation ownDma b.2.1 n else if fw = 2 then t.memError 2 (t.badAddr b.2.1 n) else t).dmaHalt k b.2.1 true, m)
      else (afterBurst c g k, t.storeAt m b.2.1 (t.burstBytes m x b)) := by
  have hat (b : Nat) : (({ c with dmaTop := g } : Core).memError 0 a).collide b 0 = atBurst c g b := by rw [memError_zero]; rfl
  have hpace (b : Nat) : (atBurst c g b).rd Obj.dma_PACE_MODE k 0 = c.rd Obj.dma_PACE_MODE k 0 := rd_collide_of_sub _ 0 b (by decide)
  unfold Core.dmaBurst
  rw [hch]
  dsimp only
  rw [if_neg (not_not_intro h)]
  simp [hat, afterBurst, advanced, paid, hpace]

/-- Its source, if it has one, can be read. -/
def Readable (c : Core) (g k : Nat) : Prop :=
  let b := nextBurst (c.dmaCh k)
  dFill (c.dmaCh k).desc = true ∨ (atBurst c g b.2.1).readFault ownDma b.1 b.2.2.1 = 0

theorem readFault_of_readable (h : Readable c g k) :
    (if dFill (c.dmaCh k).desc then 0
      else (atBurst c g (nextBurst (c.dmaCh k)).2.1).readFault ownDma (nextBurst (c.dmaCh k)).1 (nextBurst (c.dmaCh k)).2.2.1) = 0 := by
  obtain hfill | hread := h
  · exact if_pos hfill
  · rw [hread]
    split <;> rfl

theorem dmaBurst_of_clean (a : Nat) (hch : c.activeCh g = some k) (hturn : c.dmaTurn = some g) (hread : Readable c g k)
    (hwrite : (atBurst c g (nextBurst (c.dmaCh k)).2.1).writeFault ownDma (nextBurst (c.dmaCh k)).2.1 (nextBurst (c.dmaCh k)).2.2.1 = 0) :
    c.dmaBurst m g 0 a 0 =
      (afterBurst c g k, (atBurst c g (nextBurst (c.dmaCh k)).2.1).storeAt m (nextBurst (c.dmaCh k)).2.1
        ((atBurst c g (nextBurst (c.dmaCh k)).2.1).burstBytes m (c.dmaCh k) (nextBurst (c.dmaCh k)))) := by
  rw [dmaBurst_of_turn a hch hturn]
  dsimp only
  rw [readFault_of_readable hread, hwrite, if_neg (not_not_intro rfl), if_neg (not_not_intro rfl)]

theorem dmaBurst_of_unreadable (a : Nat) (hch : c.activeCh g = some k) (hturn : c.dmaTurn = some g) (hfill : dFill (c.dmaCh k).desc = false)
    (hread : (atBurst c g (nextBurst (c.dmaCh k)).2.1).readFault ownDma (nextBurst (c.dmaCh k)).1 (nextBurst (c.dmaCh k)).2.2.1 = 1) :
    c.dmaBurst m g 0 a 0 =
      (((atBurst c g (nextBurst (c.dmaCh k)).2.1).violation ownDma (nextBurst (c.dmaCh k)).1 (nextBurst (c.dmaCh k)).2.2.1).dmaHalt k
        (nextBurst (c.dmaCh k)).1 false, m) := by
  rw [dmaBurst_of_turn a hch hturn]
  simp [hfill, hread]

theorem dmaBurst_of_unwritable (a : Nat) (hch : c.activeCh g = some k) (hturn : c.dmaTurn = some g) (hread : Readable c g k)
    (hwrite : (atBurst c g (nextBurst (c.dmaCh k)).2.1).writeFault ownDma (nextBurst (c.dmaCh k)).2.1 (nextBurst (c.dmaCh k)).2.2.1 = 1) :
    c.dmaBurst m g 0 a 0 =
      (((atBurst c g (nextBurst (c.dmaCh k)).2.1).violation ownDma (nextBurst (c.dmaCh k)).2.1 (nextBurst (c.dmaCh k)).2.2.1).dmaHalt k
        (nextBurst (c.dmaCh k)).2.1 true, m) := by
  rw [dmaBurst_of_turn a hch hturn]
  dsimp only
  rw [readFault_of_readable hread, hwrite, if_neg (not_not_intro rfl), if_pos (by decide), if_pos rfl]

/-! #### What a burst leaves behind -/

theorem rd_paid (n : Nat) (o : Ob) (i j : Nat) : (paid c k n).rd o i j = c.rd o i j := by
  unfold paid
  split <;> rfl

theorem paid_frame (c : Core) (k n : Nat) : ∃ l, paid c k n = { c with dma := l } := by
  unfold paid
  split
  · exact ⟨_, rfl⟩
  · exact ⟨c.dma, rfl⟩

theorem dmaCh_paid_ne {i : Nat} (n : Nat) (h : i ≠ k) : (paid c k n).dmaCh i = c.dmaCh i := by
  unfold paid
  split
  · exact dmaCh_setDma_ne _ _ _ h
  · rfl

/-- The payment changes what the bucket holds and when that was fixed. -/
theorem dmaCh_paid (c : Core) (k n : Nat) : ∃ v z, (paid c k n).dmaCh k = { c.dmaCh k with tokens := v, tokensAt := z } := by
  unfold paid
  split
  · exact ⟨_, _, dmaCh_setDma _ _ _⟩
  · exact ⟨_, _, rfl⟩

theorem tokens_paid {n : Nat} (h : c.rd Obj.dma_PACE_MODE k 0 = 0) : ((paid c k n).dmaCh k).tokens = c.tokensOf k - 8 * n := by
  rw [paid, if_pos h, Core.fixTokens, dmaCh_setDma]

theorem moved_place (x : DmaCh) (v z n : Nat) :
    ({ x with tokens := v, tokensAt := z } : DmaCh).moved n = { x.moved n with tokens := v, tokensAt := z } := by
  unfold DmaCh.moved
  dsimp only
  split <;> rfl

theorem tokens_moved (x : DmaCh) (n : Nat) : (x.moved n).tokens = x.tokens := by
  unfold DmaCh.moved
  split <;> rfl

theorem dmaCh_advanced (n : Nat) : (advanced c k n).dmaCh k = (c.dmaCh k).moved n :=
  (dmaCh_congr (c.setDma k _) (by simp [advanced]) k).trans (dmaCh_setDma _ _ _)

theorem dmaCh_advanced_ne {i : Nat} (n : Nat) (h : i ≠ k) : (advanced c k n).dmaCh i = c.dmaCh i :=
  (dmaCh_congr (c.setDma k ((c.dmaCh k).moved n)) (by simp [advanced]) i).trans (dmaCh_setDma_ne _ _ _ h)

theorem dmaCh_afterBurst_ne {i : Nat} (h : i ≠ k) : (afterBurst c g k).dmaCh i = c.dmaCh i := by
  simp only [afterBurst, dmaCh_mendWords]
  rw [dmaCh_advanced_ne _ h, dmaCh_paid_ne _ h, atBurst, dmaCh_collide]
  rfl

/-- The channel's record: moved over the burst, paid for. -/
theorem dmaCh_afterBurst (c : Core) (g k : Nat) :
    ((afterBurst c g k).dmaCh k).row = ((c.dmaCh k).moved (nextBurst (c.dmaCh k)).2.2.1).row ∧
    ((afterBurst c g k).dmaCh k).col = ((c.dmaCh k).moved (nextBurst (c.dmaCh k)).2.2.1).col := by
  obtain ⟨v, z, hpaid⟩ := dmaCh_paid (atBurst c g (nextBurst (c.dmaCh k)).2.1) k (nextBurst (c.dmaCh k)).2.2.1
  have hhere : (atBurst c g (nextBurst (c.dmaCh k)).2.1).dmaCh k = c.dmaCh k := dmaCh_collide _ _ _ _
  simp only [afterBurst, dmaCh_mendWords, dmaCh_advanced, hpaid, hhere, moved_place, and_self]

theorem tokens_afterBurst (h : c.rd Obj.dma_PACE_MODE k 0 = 0) :
    ((afterBurst c g k).dmaCh k).tokens = c.tokensOf k - 8 * (nextBurst (c.dmaCh k)).2.2.1 := by
  have hpace (a : Nat) : (atBurst c g a).rd Obj.dma_PACE_MODE k 0 = 0 := (rd_collide_of_sub _ 0 a (by decide)).trans h
  have htokens (a : Nat) : (atBurst c g a).tokensOf k = c.tokensOf k := tokensOf_collide _ k 0 a
  simp only [afterBurst, dmaCh_mendWords, dmaCh_advanced, tokens_moved, tokens_paid (hpace _), htokens]

/-- The bytes count; no other member of the channel's record in the dictionary changes. -/
theorem bytes_afterBurst (c : Core) (g k : Nat) :
    (afterBurst c g k).rd Obj.dma_BYTES k 0 = (c.rd Obj.dma_BYTES k 0 + (nextBurst (c.dmaCh k)).2.2.1) % 2 ^ 64 := by
  simp only [afterBurst, rd_mendWords]
  rw [advanced, rd_inc, rd_setDma, rd_paid, atBurst, rd_collide_of_sub _ 0 _ (by decide)]
  rfl

theorem chState_afterBurst (c : Core) (g : Nat) {k : Nat} (hk : k < 128) : (afterBurst c g k).chState k = c.chState k := by
  have hcount (t : Core) (n : Nat) : (advanced t k n).rd Obj.dma_CH_STATE k 0 = t.rd Obj.dma_CH_STATE k 0 :=
    rd_inc_ne _ _ _ _ _ _ _ _ (Ephemeris.key_ne_of_sub k (by decide))
  simp only [afterBurst, Core.chState, rd_mendWords, hcount, rd_paid, atBurst]
  exact rd_collide _ 0 _ fun e he => key_ne_of_index ⟨by decide, by decide, by decide, by change 1 + e < 65536; omega⟩
    (by change 29184 + 1 * k ≠ 30727 + 0 * 0; omega)

/-- A burst of engine `g` changes the objects, the channels' records, the words known to be uncorrectable, the notes of counters, and whose turn it is. -/
def Bursts (g : Nat) (c t : Core) : Prop :=
  ∃ l d w q z, t = { c with objs := l, dma := d, badWords := w, bumps := q, bumpAt := z, dmaTop := g }

theorem Bursts.frame {t : Core} (h : Bursts g c t) :
    t = { c with objs := t.objs, dma := t.dma, badWords := t.badWords, bumps := t.bumps, bumpAt := t.bumpAt, dmaTop := g } := by
  obtain ⟨l, d, w, q, z, rfl⟩ := h
  rfl

theorem bursts_atBurst (c : Core) (g a : Nat) : Bursts g c (atBurst c g a) := by
  obtain ⟨l, q, z, h⟩ := collide_frame { c with dmaTop := g } 0 a
  exact ⟨l, c.dma, c.badWords, q, z, h⟩

theorem Bursts.paid {t : Core} (h : Bursts g c t) (n : Nat) : Bursts g c (paid t k n) := by
  obtain ⟨l, d, w, q, z, rfl⟩ := h
  obtain ⟨d', h⟩ := paid_frame { c with objs := l, dma := d, badWords := w, bumps := q, bumpAt := z, dmaTop := g } k n
  exact ⟨l, d', w, q, z, h⟩

theorem Bursts.advanced {t : Core} (h : Bursts g c t) (n : Nat) : Bursts g c (advanced t k n) := by
  obtain ⟨l, d, w, q, z, rfl⟩ := h
  obtain ⟨l', q', z', h⟩ := inc_frame { c with objs := l, dma := Tab.set d k ((Tab.get {} d k).moved n), badWords := w, bumps := q, bumpAt := z, dmaTop := g }
    n k 0 (o := Obj.dma_BYTES) rfl
  exact ⟨l', _, w, q', z', h⟩

theorem Bursts.mendWords {t : Core} (h : Bursts g c t) (a n : Nat) : Bursts g c (t.mendWords a n) := by
  obtain ⟨l, d, w, q, z, rfl⟩ := h
  obtain ⟨w', h⟩ := mendWords_frame { c with objs := l, dma := d, badWords := w, bumps := q, bumpAt := z, dmaTop := g } n a
  exact ⟨l, d, w', q, z, h⟩

theorem bursts_afterBurst (c : Core) (g k : Nat) : Bursts g c (afterBurst c g k) :=
  (((bursts_atBurst c g _).paid _).advanced _).mendWords _ _

/-- What a burst writes: as many bytes as it moves, the same before and after the turn has passed. -/
theorem length_burstBytes (c : Core) (m : List Host.Cell) (x : DmaCh) (b : Nat × Nat × Nat × Nat) : (c.burstBytes m x b).length = b.2.2.1 := by
  unfold Core.burstBytes
  split <;> simp [Core.loadAt, Memory.read]

theorem locate_atBurst (a b : Nat) : (atBurst c g a).locate b = c.locate b := locate_collide _ 0 a b

theorem burstBytes_atBurst (a : Nat) (x : DmaCh) (b : Nat × Nat × Nat × Nat) : (atBurst c g a).burstBytes m x b = c.burstBytes m x b := by
  simp only [Core.burstBytes, Core.loadAt, locate_atBurst]

end Burst

/-! #### How far a burst goes (R283) -/

section Bounds

/-- Rising from `p`, at most to the end of its 256 bytes. -/
theorem block_of_rising {p n : Nat} (hpos : 1 ≤ n) (h : n ≤ 256 - p % 256) : p / 256 = (p + n - 1) / 256 := by omega

/-- Falling from below `p`, at most to the start of the 256 bytes before it. -/
theorem block_of_falling {a left n : Nat} (hpos : 1 ≤ n) (hleft : n ≤ left) (h : n ≤ (a + left - 1) % 256 + 1) :
    (a + left - n) / 256 = (a + left - n + n - 1) / 256 := by omega

/-- A burst of a row not yet done moves 1 to 256 bytes of that row, and neither end crosses a 256-byte boundary. -/
structure Bounded (x : DmaCh) (b : Nat × Nat × Nat × Nat) : Prop where
  some : 1 ≤ b.2.2.1
  most : b.2.2.1 ≤ 256
  dst : b.2.1 / 256 = (b.2.1 + b.2.2.1 - 1) / 256
  src : dFill x.desc = false → b.1 / 256 = (b.1 + b.2.2.1 - 1) / 256
  row : x.col + b.2.2.1 ≤ dRowBytes x.desc

theorem not_fill_of_falling {e : Nat} (h : (copyOrder e).2 = true) : dFill e = false := by
  unfold copyOrder at h
  dsimp only at h
  split at h
  · cases h
  · rename_i hcopy
    simpa using (not_or.mp hcopy).1

theorem nextBurst_bounded (x : DmaCh) (h : x.col < dRowBytes x.desc) : Bounded x (nextBurst x) := by
  unfold nextBurst
  dsimp only
  generalize (((dSrc x.desc : Int) + _) % (2 : Int) ^ 64).toNat = sa
  generalize (((dDst x.desc : Int) + _) % (2 : Int) ^ 64).toNat = da
  split
  · exact ⟨by dsimp only; omega, by dsimp only; omega, by dsimp only; exact block_of_falling (by omega) (by omega) (by omega),
      fun _ => by dsimp only; exact block_of_falling (by omega) (by omega) (by omega),
      by dsimp only; omega⟩
  · by_cases hfill : dFill x.desc = true
    · rw [if_pos hfill]
      exact ⟨by dsimp only; omega, by dsimp only; omega, by dsimp only; exact block_of_rising (by omega) (by omega),
        fun hcopy => by simp [hfill] at hcopy, by dsimp only; omega⟩
    · rw [if_neg hfill]
      exact ⟨by dsimp only; omega, by dsimp only; omega, by dsimp only; exact block_of_rising (by omega) (by omega),
        fun _ => by dsimp only; exact block_of_rising (by omega) (by omega), by dsimp only; omega⟩

/-- The descriptor advances by just the bytes moved, rows in turn. -/
theorem moved_position (x : DmaCh) {n : Nat} (hpos : 1 ≤ n) (h : x.col + n ≤ dRowBytes x.desc) :
    (x.moved n).row * dRowBytes x.desc + (x.moved n).col = x.row * dRowBytes x.desc + x.col + n ∧ (x.moved n).col < dRowBytes x.desc := by
  unfold DmaCh.moved
  split
  · exact ⟨by dsimp only; omega, by assumption⟩
  · exact ⟨by dsimp only; rw [Nat.add_mul]; omega, by dsimp only; omega⟩

end Bounds

/-- Settles O29: in its turn a burst is decided by whether its ends can be reached, and a clean one stores its bytes through the destination's view. -/
theorem dmaBurstMovesItsBytes : Obligations.DmaBurstMovesItsBytes := by
  unfold Obligations.DmaBurstMovesItsBytes
  refine ⟨fun s dt g k a => ?_, fun x hcol => ?_⟩
  · intro c x b n u hwf hch
    have hburst : DoesBoth (.dmaBurst dt g 0 a 0) s (c.dmaBurst s.mem g 0 a 0).1 (c.dmaBurst s.mem g 0 a 0).2 := doesBoth_dmaBurst s dt g 0 a 0
    refine ⟨fun hturn => ?_, fun hturn hread hwrite => ?_, fun hturn hfill hread => ?_, fun hturn hread hwrite => ?_⟩
    · rwa [dmaBurst_of_waiting hch hturn] at hburst
    · rw [dmaBurst_of_clean a hch hturn hread hwrite] at hburst
      obtain ⟨⟨-, hg⟩, -, hk⟩ := channel_of_active hch
      have hlocate : u.locate b.2.1 = c.locate b.2.1 := locate_atBurst _ _
      have hbytes : u.burstBytes s.mem x b = c.burstBytes s.mem x b := burstBytes_atBurst _ _ _
      have hlength : (c.burstBytes s.mem x b).length = n := length_burstBytes c s.mem x b
      obtain ⟨hrow, hcol⟩ := dmaCh_afterBurst c g k
      refine ⟨_, _, hburst, fun i hi => ?_, fun z hz => ?_, bytes_afterBurst c g k, hrow, hcol, tokens_afterBurst,
        fun i hi => dmaCh_afterBurst_ne hi, ?_, (bursts_afterBurst c g k).frame⟩
      · have hmapped : (u.locate b.2.1).1 ≠ .unmapped := mapped_of_writable (by omega) hwrite
        have hstored := get_storeAt_inside (l := u.burstBytes s.mem x b) (i := i) hwf hmapped (by rw [hbytes, hlength]; exact hi)
        rw [hlocate, hbytes] at hstored
        have hsame : u.storeAt s.mem b.2.1 (u.burstBytes s.mem x b) = u.storeAt s.mem b.2.1 (c.burstBytes s.mem x b) := by rw [hbytes]
        exact (congrArg (fun m => Memory.get m ((c.locate b.2.1).2 + i)) hsame).trans hstored
      · exact get_storeAt_outside (by rw [length_burstBytes, locate_atBurst]; exact hz)
      · rw [chState_afterBurst c g (by omega)]
        exact chState_of_turn hch hturn
    · rwa [dmaBurst_of_unreadable a hch hturn hfill hread] at hburst
    · rwa [dmaBurst_of_unwritable a hch hturn hread hwrite] at hburst
  · intro b
    have hb : Bounded x b := nextBurst_bounded x hcol
    exact ⟨hb.some, hb.most, hb.dst, hb.src, hb.row, moved_position x hb.some hb.row⟩

/-! #### Grants (R280, R282) -/

section Grant
variable {c : Core} {g k : Nat}

/-- The channel's record with the descriptor it takes. -/
def descTaken (x : DmaCh) (e : Nat) : DmaCh := { x with desc := e, fail := descStatus e, row := 0, col := 0 }

/-- The block after engine `g` was granted to channel `k`. -/
def granted (c : Core) (g k : Nat) : Core :=
  let t := c.setDma k (descTaken (c.dmaCh k) (c.rd Obj.DESC_RING k (c.rd Obj.dma_HEAD k 0)))
  (({ t.setCh k chActive with dmaLast := Tab.set t.dmaLast g (k % 16) }).wr Obj.eng_ENG_STATE g 0 1).wr Obj.eng_ACTIVE_CH g 0 (k % 16)

theorem dmaGrant_of_picked (hg : 1 ≤ g) (hg' : g < 8) (hgrants : c.dmaGrants = true) (hidle : c.rd Obj.eng_ENG_STATE g 0 = 0) (hpick : c.pickCh g = some k) :
    c.dmaGrant g = granted c g k := by
  unfold Core.dmaGrant
  rw [if_pos ⟨hg, hg', hgrants, hidle⟩, hpick]
  rfl

theorem dmaGrant_of_none (h : c.pickCh g = none) : c.dmaGrant g = c := by
  unfold Core.dmaGrant
  rw [h]
  split <;> rfl

/-- A grant changes the objects, the channels' records and which channel was granted last. -/
def Grants (c t : Core) : Prop := ∃ l d q, t = { c with objs := l, dma := d, dmaLast := q }

theorem Grants.frame {t : Core} (h : Grants c t) : t = { c with objs := t.objs, dma := t.dma, dmaLast := t.dmaLast } := by
  obtain ⟨l, d, q, rfl⟩ := h
  rfl

theorem Grants.wr {t : Core} {o : Ob} (h : Grants c t) (i j v : Nat) (ho : o.retained = false) : Grants c (t.wr o i j v) := by
  obtain ⟨l, d, q, rfl⟩ := h
  obtain ⟨l', h⟩ := wr_leaves { c with objs := l, dma := d, dmaLast := q } i j v ho
  exact ⟨l', d, q, h⟩

theorem Grants.noted {t : Core} (h : Grants c t) (q : Tab Nat) : Grants c { t with dmaLast := q } := by
  obtain ⟨l, d, q', rfl⟩ := h
  exact ⟨l, d, q, rfl⟩

theorem grants_granted (c : Core) (g k : Nat) : Grants c (granted c g k) := by
  have hdesc (x : DmaCh) : Grants c (c.setDma k x) := ⟨c.objs, _, c.dmaLast, rfl⟩
  exact ((((hdesc _).wr (o := Obj.dma_CH_STATE) k 0 chActive rfl).noted _).wr (o := Obj.eng_ENG_STATE) g 0 1 rfl).wr (o := Obj.eng_ACTIVE_CH) g 0 (k % 16) rfl

theorem rd_granted (c : Core) (g k : Nat) {o : Ob} {i j : Nat}
    (h : o.key i j ∉ [Obj.dma_CH_STATE.key k 0, Obj.eng_ENG_STATE.key g 0, Obj.eng_ACTIVE_CH.key g 0]) : (granted c g k).rd o i j = c.rd o i j := by
  simp only [List.mem_cons, List.not_mem_nil, or_false, not_or] at h
  obtain ⟨hstate, hengine, hactive⟩ := h
  unfold granted
  dsimp only
  rw [rd_wr_ne _ _ _ _ _ _ _ _ hactive, rd_wr_ne _ _ _ _ _ _ _ _ hengine]
  exact rd_wr_ne _ _ _ _ _ _ _ _ hstate

/-- The engines' records stand below the channels'. -/
theorem key_channel_ne_engine {o : Ob} (ho : o.idx = 28928 ∧ o.stride = 1 ∧ ¬ 1 < o.nel ∧ o.sub < 65536) (hg : g < 8) :
    Obj.dma_CH_STATE.key k 0 ≠ o.key g 0 := by
  obtain ⟨hidx, hstride, hnel, hsub⟩ := ho
  refine key_ne_of_index ⟨by decide, hnel, by decide, by omega⟩ ?_
  rw [hidx, hstride]
  change 29184 + 1 * k ≠ _
  omega

theorem chState_granted (c : Core) (k : Nat) (hg : g < 8) : (granted c g k).chState k = chActive := by
  unfold granted Core.chState
  dsimp only
  rw [rd_wr_ne _ _ _ _ _ _ _ _ (key_channel_ne_engine (by decide) hg), rd_wr_ne _ _ _ _ _ _ _ _ (key_channel_ne_engine (by decide) hg)]
  exact rd_wr _ _ _ _ _

theorem engine_granted (c : Core) (g k : Nat) : (granted c g k).rd Obj.eng_ENG_STATE g 0 = 1 ∧ (granted c g k).rd Obj.eng_ACTIVE_CH g 0 = k % 16 := by
  unfold granted
  dsimp only
  constructor
  · rw [Ephemeris.rd_wr_member _ g _ (by decide), rd_wr]
    rfl
  · rw [rd_wr]
    exact Nat.mod_eq_of_lt (by change k % 16 < 256; omega)

theorem dma_granted (c : Core) (g k : Nat) :
    (granted c g k).dma = (c.setDma k (descTaken (c.dmaCh k) (c.rd Obj.DESC_RING k (c.rd Obj.dma_HEAD k 0)))).dma := by
  simp [granted, Core.setCh]

theorem dmaCh_granted (c : Core) (g k : Nat) :
    (granted c g k).dmaCh k = descTaken (c.dmaCh k) (c.rd Obj.DESC_RING k (c.rd Obj.dma_HEAD k 0)) :=
  (dmaCh_congr _ (dma_granted c g k) k).trans (dmaCh_setDma _ _ _)

theorem dmaCh_granted_ne (c : Core) (g : Nat) {i : Nat} (h : i ≠ k) : (granted c g k).dmaCh i = c.dmaCh i :=
  (dmaCh_congr _ (dma_granted c g k) i).trans (dmaCh_setDma_ne _ _ _ h)

theorem dmaLast_granted (c : Core) (g k : Nat) : Tab.get 15 (granted c g k).dmaLast g = k % 16 := by
  simp [granted]

end Grant

/-! #### The end of a descriptor, and bus errors (R285, R286) -/

section Ends
variable {c : Core} {g k : Nat}

theorem dmaDescEnd_of_ended (hch : c.activeCh g = some k) (hstate : c.chState k = chActive) (h : (c.dmaCh k).fail ≠ 0 ∨ (c.dmaCh k).finished = true) :
    c.dmaDescEnd g =
      let t := c.descEnd k (if (c.dmaCh k).fail ≠ 0 then (c.dmaCh k).fail else 1) chDisabled
      if t.rdB Obj.dma_ENABLE k 0 then t.settleCh k else t := by
  unfold Core.dmaDescEnd
  rw [hch]
  exact if_pos ⟨hstate, h⟩

theorem dmaDescEnd_of_none (h : c.activeCh g = none) : c.dmaDescEnd g = c := by
  unfold Core.dmaDescEnd
  rw [h]

theorem dmaBusError_of_active (w : Bool) (hch : c.activeCh g = some k) (hstate : c.chState k = chActive) (hfail : (c.dmaCh k).fail = 0)
    (hopen : (c.dmaCh k).finished = false) :
    c.dmaBusError g w = c.dmaHalt k (if w then (nextBurst (c.dmaCh k)).2.1 else (nextBurst (c.dmaCh k)).1) w := by
  unfold Core.dmaBusError
  rw [hch]
  exact if_pos ⟨hstate, hfail, by rw [hopen]; rfl⟩

/-- DE0's only channel stages the BLOCK at the front of the stream. -/
theorem dmaBusError_of_block (w : Bool) {b : List Byte} {ssn : Nat} (hready : c.recordReady 0x20 = some (b, ssn)) (hpage : c.withinPage = true) :
    c.dmaBusError 0 w = c.blockBus b.length ssn := by
  unfold Core.dmaBusError
  rw [activeCh_zero, if_pos rfl, hready]
  exact if_pos hpage

end Ends

/-- Settles O28: what a grant leaves behind, and the meaning of the other two commands where a channel has something to end or to halt at. -/
theorem dmaChannelsTakeAndEndDescriptors : Obligations.DmaChannelsTakeAndEndDescriptors := by
  unfold Obligations.DmaChannelsTakeAndEndDescriptors
  intro s dt g k c x
  have hgrant : Does (.dmaGrant dt g) s (c.dmaGrant g) := does_dmaGrant s dt g
  have hend : Does (.dmaDescriptorEnd dt g) s (c.dmaDescEnd g) := does_dmaDescriptorEnd s dt g
  have hbus (i : Nat) (w : Bool) : Does (.dmaBusError dt i w) s (c.dmaBusError i w) := does_dmaBusError s dt i w
  refine ⟨fun hg hg' hgrants hidle hpick => ?_, fun hch hstate h => ?_, fun w hch hstate hfail hopen => ?_, fun w b ssn hready hpage => ?_,
    fun hnone => ?_, fun hnone => ?_⟩
  · rw [dmaGrant_of_picked hg hg' hgrants hidle hpick] at hgrant
    have hx := dmaCh_granted c g k
    obtain ⟨hstate, hactive⟩ := engine_granted c g k
    exact ⟨_, hgrant, chState_granted c k hg', by rw [hx]; rfl, by rw [hx]; rfl, by rw [hx]; rfl, by rw [hx]; rfl, hstate, hactive,
      dmaLast_granted c g k, fun i hi => dmaCh_granted_ne c g hi, fun o i j h => rd_granted c g k h, (grants_granted c g k).frame⟩
  · rwa [dmaDescEnd_of_ended hch hstate h] at hend
  · have herror := hbus g w
    rwa [dmaBusError_of_active w hch hstate hfail hopen] at herror
  · have herror := hbus 0 w
    rwa [dmaBusError_of_block w hready hpage] at herror
  · rwa [dmaGrant_of_none hnone] at hgrant
  · rwa [dmaDescEnd_of_none hnone] at hend

end Sys2Proof.Proofs.Dma

/-! ### Proofs: datagrams of the job stream (ch. 10) -/

namespace Sys2Proof.Proofs.Datagrams
open Sys2Proof Sys2Proof.Machine Sys2Proof.Laws

/-! #### What the commands of the stream receiver answer -/

section Answers
variable (s : State) (dt : Nat)

theorem does_dataDatagram (lane src port : Nat) (b : List Byte) :
    Does (.dataDatagram dt lane src port b) s ((s.core.advance dt).dataDatagram lane src port b) :=
  Fire.does_of_onCore (fun c => (c.advance dt).dataDatagram lane src port b) rfl

theorem does_ackPeriodExpiry : Does (.ackPeriodExpiry dt) s (s.core.advance dt).ackPeriod :=
  Fire.does_of_onCore (fun c => (c.advance dt).ackPeriod) rfl

end Answers

section Datagram
variable {c : Core} {lane src port : Nat} {b : List Byte}

/-! #### Where a datagram goes (R259, R393) -/

/-- The CRC field holds the CRC of what stands before it. -/
abbrev CrcOk (b : List Byte) : Prop := leAt b (16 + leAt b 6 2) 4 = Crypto.crc32c (b.take (16 + leAt b 6 2))

theorem dataDatagram_of_forwarded {n : Nat} (hrun : c.running = true) (hlen : 20 ≤ b.length) (hhead : leAt b 0 4 = 0x01015346)
    (hpay : leAt b 6 2 + 20 = b.length) (hcrc : CrcOk b) (hnode : c.forwardNode (leAt b 8 4) = some n) (hother : n ≠ c.rd0 Obj.NODE_ID) :
    c.dataDatagram lane src port b = if c.originates then c.ringMessage 0x32 n (carried src port b) else c := by
  unfold Core.dataDatagram
  dsimp only
  rw [if_pos ⟨hrun, Bool.and_eq_true_iff.mpr ⟨decide_eq_true ⟨hlen, hhead, hpay⟩, decide_eq_true hcrc⟩⟩, hnode]
  exact if_neg hother

/-- A datagram that no node is named for is taken here. -/
theorem dataDatagram_of_ours (h : b.length < 20 ∨ c.running = false ∨ c.forwardNode (leAt b 8 4) = none) :
    c.dataDatagram lane src port b = c.localDatagram lane src port b := by
  unfold Core.dataDatagram
  dsimp only
  obtain hshort | hoff | hnode := h
  · rw [if_neg (by simp; omega)]
  · rw [if_neg (by simp [hoff])]
  · rw [hnode, ite_self]

/-! #### The tests of R259 -/

/-- The stream is OPEN or ERROR and the datagram comes from its host. -/
structure FromHost (c : Core) (src : Nat) : Prop where
  runs : c.streamRuns = true
  up : c.streamUp = true
  host : src = c.rd0 Obj.STREAM_HOST

/-- A datagram of the form of Table 10-1. -/
abbrev Sound (b : List Byte) : Prop :=
  20 ≤ b.length ∧ leAt b 0 4 = 0x01015346 ∧ leAt b 4 2 < 4 ∧ leAt b 6 2 + 20 = b.length ∧ 0 < leAt b 6 2 ∧ leAt b 6 2 ≤ 8932

/-- How far a datagram's number lies ahead of NEXT_DSEQ. -/
def ahead (c : Core) (b : List Byte) : Nat := fwd32 (leAt b 12 4) (c.rd0 Obj.NEXT_DSEQ)

/-- A datagram of that number was received before. -/
abbrev Held (c : Core) (b : List Byte) : Prop := 2 ^ 31 ≤ ahead c b ∨ c.stream.got.any (fun e => decide (e.1 = leAt b 12 4)) = true

/-- Its payload. -/
def payload (b : List Byte) : List Byte := (b.drop 16).take (leAt b 6 2)

/-- The block once the datagram has joined the sequence with those that follow it. -/
def joined (c : Core) (lane port : Nat) (b : List Byte) : Core :=
  let j := joinDgrams 66 (c.rd0 Obj.NEXT_DSEQ) ((leAt b 12 4, payload b) :: c.stream.got) c.stream.bytes
  (((c.updStream (fun x => { x with
    got := j.2.1, bytes := j.2.2, lane := some lane, port := port,
    rival := if lane = 1 then some (leAt b 12 4, c.clk, j.2.2.length - c.stream.bytes.length, leAt b 6 2) else x.rival })).wr0 Obj.NEXT_DSEQ j.1).putFree).checkFront

/-- A sound datagram of the stream: past the window, received before, without room, or joined. -/
def placed (c : Core) (lane port : Nat) (b : List Byte) : Core :=
  if 64 < ahead c b ∧ ahead c b < 2 ^ 31 then (c.discardDgram 7).sendAck
  else if Held c b then ((c.preferSl0 lane (leAt b 12 4) port (payload b)).discardDgram 6).sendAck
  else if c.stageFree < leAt b 6 2 then (if bit (leAt b 4 2) 0 then (c.discardDgram 8).sendAck else c.discardDgram 8)
  else if bit (leAt b 4 2) 0 then (joined c lane port b).sendAck else joined c lane port b

theorem localDatagram_of_stopped (h : c.streamRuns = false) : c.localDatagram lane src port b = c := if_pos (by rw [h]; rfl)

theorem localDatagram_of_foreign (hruns : c.streamRuns = true) (h : c.streamUp = false ∨ src ≠ c.rd0 Obj.STREAM_HOST) :
    c.localDatagram lane src port b = c.discardDgram 2 := by
  unfold Core.localDatagram
  rw [if_neg (by simp [hruns])]
  exact if_pos (by simpa using h)

/-- From the stream's host, a datagram is malformed, damaged, of another stream, or placed by its number. -/
theorem localDatagram_of_host (h : FromHost c src) :
    c.localDatagram lane src port b =
      if ¬ Sound b then c.discardDgram 3
      else if ¬ CrcOk b then c.discardDgram 4
      else if leAt b 8 4 ≠ c.rd0 Obj.STREAM_ID then c.discardDgram 5
      else placed c lane port b := by
  have hsound : (b.length < 20 ∨ leAt b 0 4 ≠ 0x01015346 ∨ 4 ≤ leAt b 4 2 ∨ leAt b 6 2 + 20 ≠ b.length ∨ leAt b 6 2 = 0 ∨ 8932 < leAt b 6 2) ↔ ¬ Sound b := by
    rw [Sound]
    omega
  unfold Core.localDatagram
  rw [if_neg (by simp [h.runs])]
  dsimp only
  rw [if_neg (by simp [h.up, h.host]), ite_congr (propext hsound) (fun _ => rfl) (fun _ => rfl)]
  rfl

theorem localDatagram_of_sound (h : FromHost c src) (hsound : Sound b) (hcrc : CrcOk b) (hid : leAt b 8 4 = c.rd0 Obj.STREAM_ID) :
    c.localDatagram lane src port b = placed c lane port b := by
  rw [localDatagram_of_host h, if_neg (not_not_intro hsound), if_neg (not_not_intro hcrc), if_neg (not_not_intro hid)]

theorem placed_of_past (h : 64 < ahead c b) (h' : ahead c b < 2 ^ 31) : placed c lane port b = (c.discardDgram 7).sendAck := if_pos ⟨h, h'⟩

theorem placed_of_held (h : ahead c b ≤ 64 ∨ 2 ^ 31 ≤ ahead c b) (hheld : Held c b) :
    placed c lane port b = ((c.preferSl0 lane (leAt b 12 4) port (payload b)).discardDgram 6).sendAck := by
  rw [placed, if_neg (by omega), if_pos hheld]

theorem placed_of_full (h : ahead c b ≤ 64) (hnew : ¬ Held c b) (hfull : c.stageFree < leAt b 6 2) :
    placed c lane port b = if bit (leAt b 4 2) 0 then (c.discardDgram 8).sendAck else c.discardDgram 8 := by
  rw [placed, if_neg (by omega), if_neg hnew, if_pos hfull]

theorem placed_of_room (h : ahead c b ≤ 64) (hnew : ¬ Held c b) (hroom : leAt b 6 2 ≤ c.stageFree) :
    placed c lane port b = if bit (leAt b 4 2) 0 then (joined c lane port b).sendAck else joined c lane port b := by
  rw [placed, if_neg (by omega), if_neg hnew, if_neg (by omega)]

end Datagram

/-! #### What joins is consecutive (R260) -/

section Join
variable {k next : Nat} {got : List (Nat × List Byte)} {b : List Byte} {r : Nat × List (Nat × List Byte) × List Byte} {l : List (List Byte)}

/-- The payloads `l` of just the next numbers received join in order. -/
structure Consecutive (k next : Nat) (got : List (Nat × List Byte)) (b : List Byte) (r : Nat × List (Nat × List Byte) × List Byte) (l : List (List Byte)) : Prop where
  most : l.length ≤ k
  ends : r.1 = (next + l.length) % 2 ^ 32
  bytes : r.2.2 = b ++ l.flatten
  each : ∀ i, i < l.length → (got.find? (fun e => decide (e.1 = (next + i) % 2 ^ 32))).map Prod.snd = l[i]?
  rest : ∀ e, e ∈ r.2.1 ↔ e ∈ got ∧ ∀ i, i < l.length → e.1 ≠ (next + i) % 2 ^ 32
  stops : l.length < k → ∀ e ∈ got, e.1 ≠ (next + l.length) % 2 ^ 32

theorem consecutive_nil (hnext : next < 2 ^ 32) (h : 0 < k → ∀ e ∈ got, e.1 ≠ next) : Consecutive k next got b (next, got, b) [] where
  most := Nat.zero_le k
  ends := (Nat.mod_eq_of_lt hnext).symm
  bytes := by simp
  each := fun i hi => absurd hi (Nat.not_lt_zero i)
  rest := fun e => ⟨fun he => ⟨he, fun i hi => absurd hi (Nat.not_lt_zero i)⟩, fun he => he.1⟩
  stops := fun hk e he => by
    rw [List.length_nil, Nat.add_zero, Nat.mod_eq_of_lt hnext]
    exact h hk e he

/-- Counting from the next number on is counting one further. -/
theorem shifted (i : Nat) : ((next + 1) % 2 ^ 32 + i) % 2 ^ 32 = (next + (i + 1)) % 2 ^ 32 := by
  rw [Nat.mod_add_mod, Nat.add_assoc, Nat.add_comm 1 i]

/-- The numbers after `next` in one round differ from it. -/
theorem shifted_ne {i : Nat} (hi : i + 1 < 2 ^ 32) : next ≠ (next + (i + 1)) % 2 ^ 32 := by omega

/-- A datagram of another number is found in what is left when those of number `next` are taken out. -/
theorem find_left {n : Nat} (h : n ≠ next) :
    (got.filter (fun e => decide (e.1 ≠ next))).find? (fun e => decide (e.1 = n)) = got.find? (fun e => decide (e.1 = n)) := by
  rw [List.find?_filter]
  congr 1
  funext e
  by_cases he : e.1 = n
  · simp [he, h]
  · simp [he]

theorem Consecutive.cons {e : Nat × List Byte} (hk : k + 1 ≤ 2 ^ 31) (hnext : next < 2 ^ 32) (hfind : got.find? (fun e => decide (e.1 = next)) = some e)
    (h : Consecutive k ((next + 1) % 2 ^ 32) (got.filter (fun e => decide (e.1 ≠ next))) (b ++ e.2) r l) :
    Consecutive (k + 1) next got b r (e.2 :: l) where
  most := Nat.succ_le_succ h.most
  ends := h.ends.trans (shifted l.length)
  bytes := by rw [h.bytes, List.flatten_cons, List.append_assoc]
  each := fun i hi => by
    cases i with
    | zero => rw [Nat.add_zero, Nat.mod_eq_of_lt hnext, hfind]; rfl
    | succ i =>
      have hi : i < l.length := Nat.lt_of_succ_lt_succ hi
      have hmost := h.most
      have hne : (next + (i + 1)) % 2 ^ 32 ≠ next := (shifted_ne (by omega)).symm
      have heach := h.each i hi
      rw [shifted i, find_left hne] at heach
      exact heach
  rest := fun e' => by
    rw [h.rest, List.mem_filter, decide_eq_true_eq, List.length_cons]
    constructor
    · rintro ⟨⟨hmem, hne⟩, hlater⟩
      refine ⟨hmem, fun i hi => ?_⟩
      cases i with
      | zero => rwa [Nat.add_zero, Nat.mod_eq_of_lt hnext]
      | succ i => exact fun heq => hlater i (Nat.lt_of_succ_lt_succ hi) (heq.trans (shifted i).symm)
    · rintro ⟨hmem, hall⟩
      refine ⟨⟨hmem, ?_⟩, fun i hi heq => hall (i + 1) (Nat.succ_lt_succ hi) (heq.trans (shifted i))⟩
      have hfirst := hall 0 (Nat.succ_pos _)
      rwa [Nat.add_zero, Nat.mod_eq_of_lt hnext] at hfirst
  stops := fun hlt e' he' heq => by
    rw [List.length_cons] at hlt heq
    have hne : e'.1 ≠ next := fun hsame => shifted_ne (i := l.length) (by omega) (hsame.symm.trans heq)
    exact h.stops (Nat.lt_of_succ_lt_succ hlt) e' (List.mem_filter.mpr ⟨he', decide_eq_true hne⟩) (heq.trans (shifted l.length).symm)

theorem joinDgrams_consecutive (k next : Nat) (got : List (Nat × List Byte)) (b : List Byte) (hk : k ≤ 2 ^ 31) (hnext : next < 2 ^ 32) :
    ∃ l, Consecutive k next got b (joinDgrams k next got b) l := by
  induction k generalizing next got b with
  | zero => exact ⟨[], consecutive_nil hnext fun h => absurd h (Nat.lt_irrefl 0)⟩
  | succ k ih =>
    unfold joinDgrams
    split
    next e hfind =>
      obtain ⟨l, h⟩ := ih ((next + 1) % 2 ^ 32) (got.filter (fun e => decide (e.1 ≠ next))) (b ++ e.2) (by omega) (Nat.mod_lt _ (by decide))
      exact ⟨e.2 :: l, h.cons hk hnext hfind⟩
    next hnone =>
      exact ⟨[], consecutive_nil hnext fun _ e he heq => by simpa [heq] using List.find?_eq_none.mp hnone e he⟩

end Join

/-! #### ACK_PERIOD (R261) -/

theorem ackPeriod_eq (c : Core) :
    c.ackPeriod = if c.streamRuns = true ∧ c.streamUp = true ∧ c.due .streamAckPeriod 0 = true
      then c.sendAck.arm .streamAckPeriod 0 (us (c.rd0 Obj.ACK_PERIOD)) else c := rfl

/-- Settles O25: where a datagram goes, the tests it is put to in their order, and that what joins is consecutive by induction on the numbers tried. -/
theorem datagramsJoinTheStream : Obligations.DatagramsJoinTheStream := by
  unfold Obligations.DatagramsJoinTheStream
  refine ⟨fun s dt lane src port b => ?_, fun k next got b hk hnext => ?_⟩
  · intro c pay dseq d crcOk ours sound held
    have hdoes : Does (.dataDatagram dt lane src port b) s (c.dataDatagram lane src port b) := does_dataDatagram s dt lane src port b
    have hack : Does (.ackPeriodExpiry dt) s c.ackPeriod := does_ackPeriodExpiry s dt
    refine ⟨fun n hrun hlen hhead hpay hcrc hnode hother => ?_, fun hours hstopped => ?_, fun hours hruns hforeign => ?_,
      fun hours hruns hup hhost => ?_, ?_⟩
    · rwa [dataDatagram_of_forwarded hrun hlen hhead hpay hcrc hnode hother] at hdoes
    · rwa [dataDatagram_of_ours hours, localDatagram_of_stopped hstopped] at hdoes
    · rwa [dataDatagram_of_ours hours, localDatagram_of_foreign hruns hforeign] at hdoes
    · have hfrom : FromHost c src := ⟨hruns, hup, hhost⟩
      rw [dataDatagram_of_ours hours] at hdoes
      refine ⟨fun hsound => ?_, fun hsound hcrc => ?_, fun hsound hcrc => ⟨fun hid => ?_, fun hid => ?_⟩⟩
      · rwa [localDatagram_of_host hfrom, if_pos hsound] at hdoes
      · rwa [localDatagram_of_host hfrom, if_neg (not_not_intro hsound), if_pos hcrc] at hdoes
      · rwa [localDatagram_of_host hfrom, if_neg (not_not_intro hsound), if_neg (not_not_intro hcrc), if_pos hid] at hdoes
      · rw [localDatagram_of_sound hfrom hsound hcrc hid] at hdoes
        refine ⟨fun hpast hbelow => ?_, fun hplace hheld => ?_, fun hplace hnew hfull => ?_, fun hplace hnew hroom => ?_⟩
        · rwa [placed_of_past hpast hbelow] at hdoes
        · rwa [placed_of_held hplace hheld] at hdoes
        · rwa [placed_of_full hplace hnew hfull] at hdoes
        · rwa [placed_of_room hplace hnew hroom] at hdoes
    · rw [ackPeriod_eq] at hack
      split <;> rename_i h
      · rwa [if_pos h] at hack
      · rwa [if_neg h] at hack
  · obtain ⟨l, h⟩ := joinDgrams_consecutive k next got b hk hnext
    exact ⟨l, h.most, h.ends, h.bytes, h.each, h.rest, h.stops⟩

end Sys2Proof.Proofs.Datagrams

/-! ### Proofs: the records of the job stream (ch. 10) -/

namespace Sys2Proof.Proofs.Records
open Sys2Proof Sys2Proof.Machine Sys2Proof.Laws

/-! #### What the commands of the records answer -/

section Answers
variable (s : State) (dt : Nat)

theorem does_recordJobStart : Does (.recordJobStart dt) s (s.core.advance dt).recJobStart :=
  Fire.does_of_onCore (fun c => (c.advance dt).recJobStart) rfl

theorem does_recordJobEnd : Does (.recordJobEnd dt) s (s.core.advance dt).recJobEnd :=
  Fire.does_of_onCore (fun c => (c.advance dt).recJobEnd) rfl

theorem does_recordPlaneSetup : Does (.recordPlaneSetup dt) s (s.core.advance dt).recPlaneSetup :=
  Fire.does_of_onCore (fun c => (c.advance dt).recPlaneSetup) rfl

theorem does_recordLineMark : Does (.recordLineMark dt) s (s.core.advance dt).recLineMark :=
  Fire.does_of_onCore (fun c => (c.advance dt).recLineMark) rfl

theorem does_recordPageEnd : Does (.recordPageEnd dt) s (s.core.advance dt).recPageEnd :=
  Fire.does_of_onCore (fun c => (c.advance dt).recPageEnd) rfl

theorem does_recordMeasure : Does (.recordMeasure dt) s (s.core.advance dt).recMeasure :=
  Fire.does_of_onCore (fun c => (c.advance dt).recMeasure) rfl

theorem does_recordSpitBand : Does (.recordSpitBand dt) s (s.core.advance dt).recSpitBand :=
  Fire.does_of_onCore (fun c => (c.advance dt).recSpitBand) rfl

theorem does_recordMark : Does (.recordMark dt) s (s.core.advance dt).recMark :=
  Fire.does_of_onCore (fun c => (c.advance dt).recMark) rfl

end Answers

/-! #### Numbers of records -/

theorem ofLe_lt (l : List Byte) : ofLe l < 256 ^ l.length := by
  induction l with
  | nil => exact Nat.one_pos
  | cons x t ih =>
    have hx : x.toNat < 256 := x.isLt
    rw [ofLe, List.length_cons, Nat.pow_succ]
    omega

/-- A field of `n` bytes holds no more than they can. -/
theorem leAt_lt (l : List Byte) (o n : Nat) : leAt l o n < 256 ^ n :=
  Nat.lt_of_lt_of_le (ofLe_lt _) (Nat.pow_le_pow_right (by decide) (List.length_take_le _ _))

section Records
variable {c t : Core} {ssn : Nat} {b : List Byte}

/-! #### The next record stands at the front -/

/-- The last record that has come is processed: the stream goes on behind it, and LAST_SSN shows it. -/
structure TakesLast (c : Core) (ssn : Nat) (t : Core) : Prop where
  frame : ∃ l, t = { c with objs := l, stream := { c.stream with bytes := c.stream.bytes.drop (12 + c.frontRec.2.1), ssn := (ssn + 1) % 2 ^ 32 } }
  last : t.rd0 Obj.LAST_SSN = ssn % 2 ^ 32
  others : ∀ o i j, o.key i j ∉ [Obj.LAST_SSN.key 0 0, Obj.CMD_QUEUE.key 0 0, Obj.STAGE_FREE.key 0 0] → t.rd o i j = c.rd o i j

/-- The record at the front is read from the bytes of the stream. -/
theorem frontRec_congr (h : t.stream.bytes = c.stream.bytes) : t.frontRec = c.frontRec := by rw [Core.frontRec, h, Core.frontRec]

/-- Fewer bytes than a header are not tested yet (R273). -/
theorem checkFront_of_short (h : c.stream.bytes.length < 12) : c.checkFront = c := if_pos (.inr h)

theorem takeRecord_of_last (h : c.stream.bytes.length = 12 + c.frontRec.2.1) : TakesLast c ssn (c.takeRecord ssn) := by
  unfold Core.takeRecord
  dsimp only
  generalize hu : ({ c with stream := { c.stream with bytes := c.stream.bytes.drop (12 + c.frontRec.2.1), ssn := (ssn + 1) % 2 ^ 32 } } : Core) = u
  have hempty : u.stream.bytes = [] := by
    subst hu
    exact List.drop_eq_nil_of_le (Nat.le_of_eq h)
  have hobjs : u.objs = c.objs := by
    subst hu
    rfl
  have hrest : ∀ v w, ((((u.wr0 Obj.LAST_SSN ssn).wr0 Obj.CMD_QUEUE v).wr0 Obj.STAGE_FREE w).checkFront) = ((u.wr0 Obj.LAST_SSN ssn).wr0 Obj.CMD_QUEUE v).wr0 Obj.STAGE_FREE w :=
    fun v w => checkFront_of_short (by simp [hempty])
  rw [Core.putFree, hrest]
  constructor
  · simp only [Core.wr0]
    rw [Ephemeris.wr_of_not_retained _ Obj.STAGE_FREE _ _ _ rfl, Ephemeris.wr_of_not_retained _ Obj.CMD_QUEUE _ _ _ rfl,
      Ephemeris.wr_of_not_retained _ Obj.LAST_SSN _ _ _ rfl, ← hu]
    exact ⟨_, rfl⟩
  · rw [rd0_wr0_ne _ _ _ _ (by decide), rd0_wr0_ne _ _ _ _ (by decide), rd0_wr0]
    rfl
  · intro o i j hkey
    simp only [List.mem_cons, List.not_mem_nil, or_false, not_or] at hkey
    obtain ⟨hlast, hqueue, hfree⟩ := hkey
    simp only [Core.wr0]
    rw [rd_wr_ne _ _ _ _ _ _ _ _ hfree, rd_wr_ne _ _ _ _ _ _ _ _ hqueue, rd_wr_ne _ _ _ _ _ _ _ _ hlast]
    exact rd_congr u c o i j hobjs

/-! #### The lookahead outside PRINT (R276) -/

/-- LOOKAHEAD, JOB_COL and LA_MIN follow, and the Comet unit notes whether LA is low. -/
structure LookaheadStored (c t : Core) : Prop where
  frame : ∃ l x, t = { c with objs := l, comet := x }
  others : ∀ o i j, o.key i j ∉ [Obj.LOOKAHEAD.key 0 0, Obj.JOB_COL.key 0 0, Obj.LA_MIN.key 0 0] → t.rd o i j = c.rd o i j

theorem LookaheadStored.wr0 {o : Ob} (h : LookaheadStored c t) (v : Nat) (hret : o.retained = false)
    (hkey : o.key 0 0 ∈ [Obj.LOOKAHEAD.key 0 0, Obj.JOB_COL.key 0 0, Obj.LA_MIN.key 0 0]) : LookaheadStored c (t.wr0 o v) where
  frame := by
    obtain ⟨l, x, rfl⟩ := h.frame
    exact ⟨_, x, Ephemeris.wr_of_not_retained _ o 0 0 v hret⟩
  others := fun p i j hp => (rd_wr_ne t o p 0 0 i j v fun heq => hp (by rw [heq]; exact hkey)).trans (h.others p i j hp)

theorem LookaheadStored.noted (h : LookaheadStored c t) (x : Comet) : LookaheadStored c { t with comet := x } where
  frame := by
    obtain ⟨l, y, rfl⟩ := h.frame
    exact ⟨l, x, rfl⟩
  others := h.others

theorem LookaheadStored.inPrint (h : LookaheadStored c t) : t.inPrint = c.inPrint := by
  obtain ⟨l, x, rfl⟩ := h.frame
  rfl

theorem recomputeLA_of_not_printing (h : c.inPrint = false) : LookaheadStored c c.recomputeLA := by
  have hself : LookaheadStored c c := ⟨⟨c.objs, c.comet, rfl⟩, fun _ _ _ _ => rfl⟩
  have hshown := (hself.wr0 (o := Obj.LOOKAHEAD) c.lookahead rfl (by decide)).wr0 (o := Obj.JOB_COL) c.colNext rfl (by decide)
  unfold Core.recomputeLA
  dsimp only
  generalize (c.wr0 Obj.LOOKAHEAD c.lookahead).wr0 Obj.JOB_COL c.colNext = t at hshown ⊢
  generalize hmin : (if c.lookahead < t.rd0 Obj.LA_MIN ∧ t.currentPage.isSome = true then t.wr0 Obj.LA_MIN c.lookahead else t) = u
  have hstored : LookaheadStored c u := by
    subst hmin
    split
    · exact hshown.wr0 _ rfl (by decide)
    · exact hshown
  rw [if_neg (by rw [hstored.inPrint, h]; simp)]
  exact hstored.noted _

/-! #### JOB_START (R270) -/

/-- The new job begins: nothing of the last one is left. -/
def jobBegun (c : Core) : Core :=
  let t := c.updStream (fun x => { x with place := 1, last := none, direct := false, lastNo := none, idx := [], down := 0, ended := none })
  let t := { t with job := { active := true, settled := false }, hold := none, lanes := t.lanes.map (fun _ => (64, 0, 0)), decided := [], doneTop := none, colTop := 0,
                    measDue := [], comet := { t.comet with any := false } }
  t.mapPorts (fun x => { x with cols := [], floor := 0, runBase := 0, gateNext := 0, histFrom := 0, away := false })

theorem recJobStart_of_reserved (hready : c.recordReady 0x01 = some (b, ssn)) (h : leAt b 4 4 ≠ 0) : c.recJobStart = c.streamError errFormat 0x01 ssn := by
  unfold Core.recJobStart
  rw [hready]
  exact if_pos h

theorem recJobStart_of_misplaced (hready : c.recordReady 0x01 = some (b, ssn)) (h : leAt b 4 4 = 0) (hplace : c.stream.place ≠ 0) :
    c.recJobStart = c.streamError errOrder 0x01 ssn := by
  unfold Core.recJobStart
  rw [hready]
  dsimp only
  rw [if_neg (not_not_intro h), if_pos hplace]

theorem recJobStart_of_settled (hready : c.recordReady 0x01 = some (b, ssn)) (h : leAt b 4 4 = 0) (hplace : c.stream.place = 0) (hprint : c.inPrint = false)
    (hpages : c.pages = []) (hhist : allPorts.filter c.hasHistory = []) (hdown : c.stillDown = []) :
    c.recJobStart = (((jobBegun c).wr0 Obj.JOB_ID (leAt b 0 4)).takeRecord ssn).recomputeLA := by
  unfold Core.recJobStart
  rw [hready]
  dsimp only
  rw [if_neg (not_not_intro h), if_neg (not_not_intro hplace), if_neg (by simp [hprint, hpages]), hhist, if_neg (by simp), hdown, if_neg (by simp)]
  rfl

/-- The job has begun with the record's number, and the next record stands at the front. -/
structure JobStarted (c : Core) (ssn id : Nat) (k : Core) : Prop where
  active : k.job.active = true
  id : k.rd0 Obj.JOB_ID = id
  last : k.rd0 Obj.LAST_SSN = ssn % 2 ^ 32
  place : k.stream.place = 1
  bytes : k.stream.bytes = c.stream.bytes.drop (12 + c.frontRec.2.1)
  ssn : k.stream.ssn = (ssn + 1) % 2 ^ 32
  staged : k.staged = c.staged
  hold : k.hold = none
  colTop : k.colTop = 0

theorem jobStarted_of_last {id : Nat} (hid : id < 2 ^ 32) (hprint : c.inPrint = false) (hlast : c.stream.bytes.length = 12 + c.frontRec.2.1) :
    JobStarted c ssn id (((jobBegun c).wr0 Obj.JOB_ID id).takeRecord ssn).recomputeLA := by
  generalize hu : (jobBegun c).wr0 Obj.JOB_ID id = u
  have hnumber : u.rd0 Obj.JOB_ID = id := by
    rw [← hu, rd0_wr0]
    exact Nat.mod_eq_of_lt hid
  have hframe : ∃ l, u = { jobBegun c with objs := l } := ⟨_, hu.symm.trans (Ephemeris.wr_of_not_retained _ Obj.JOB_ID _ _ _ rfl)⟩
  have hbytes : u.stream.bytes = c.stream.bytes := by
    obtain ⟨l, rfl⟩ := hframe
    rfl
  have hfront : u.frontRec = c.frontRec := frontRec_congr hbytes
  have htaken := takeRecord_of_last (c := u) (ssn := ssn) (by rw [hbytes, hfront]; exact hlast)
  generalize u.takeRecord ssn = v at htaken ⊢
  have hstill : v.inPrint = false := by
    obtain ⟨l, rfl⟩ := hframe
    obtain ⟨l', hv⟩ := htaken.frame
    rw [hv]
    exact hprint
  have hstored := recomputeLA_of_not_printing hstill
  generalize v.recomputeLA = k at hstored ⊢
  have hid' : k.rd0 Obj.JOB_ID = id := (hstored.others _ _ _ (by decide)).trans ((htaken.others _ _ _ (by decide)).trans hnumber)
  have hlast' : k.rd0 Obj.LAST_SSN = ssn % 2 ^ 32 := (hstored.others _ _ _ (by decide)).trans htaken.last
  obtain ⟨l, hframe⟩ := hframe
  obtain ⟨l', htaken⟩ := htaken.frame
  obtain ⟨l'', x, hstored⟩ := hstored.frame
  rw [hbytes, hfront, hframe] at htaken
  rw [htaken] at hstored
  subst hstored
  exact ⟨rfl, hid', hlast', rfl, rfl, rfl, rfl, rfl, rfl⟩

/-! #### JOB_END, PLANE_SETUP, LINE_MARK and PAGE_END (R202, R265, R268) -/

/-- What holds back a record is that its place `P` does not hold. -/
theorem ite_not_of_iff {ok : Bool} {P : Prop} [Decidable P] (h : ok = true ↔ P) (x y : Core) : (if (!ok) = true then x else y) = if P then y else x := by
  by_cases hP : P
  · rw [if_pos hP, h.mpr hP]
    rfl
  · rw [if_neg hP, Bool.eq_false_iff.mpr (mt h.mp hP)]
    rfl

theorem recJobEnd_of_ready (hready : c.recordReady 0x02 = some (b, ssn)) :
    c.recJobEnd =
      if c.stream.place = 1 ∧ c.stream.last.any (fun x => x.2.2) = true then
        let t := c.updStream (fun x => { x with place := 0, direct := false })
        ((({ t with job := { t.job with ended := true } }).takeRecord ssn).recomputeLA).jobEnds
      else c.streamError errOrder 0x02 ssn := by
  unfold Core.recJobEnd
  rw [hready]
  dsimp only
  exact ite_not_of_iff (by cases c.stream.last <;> simp) _ _

theorem recPlaneSetup_of_unsound (hready : c.recordReady 0x10 = some (b, ssn)) (h : setupOk b = false) :
    c.recPlaneSetup = c.streamError errFormat 0x10 ssn := by
  unfold Core.recPlaneSetup
  rw [hready]
  exact if_pos (by rw [h]; rfl)

theorem recPlaneSetup_of_sound (hready : c.recordReady 0x10 = some (b, ssn)) (h : setupOk b = true) (hplace : c.stream.place ≠ 0) :
    c.recPlaneSetup =
      let t := (({ c with staged := some (setupMap b) }).wr0 Obj.PM_STAGED 1).updStream (fun x => { x with direct := false })
      (if c.inPrint then (t.runPlaneTest (setupMap b) 0xFF 0).1 else t).takeRecord ssn := by
  unfold Core.recPlaneSetup
  rw [hready]
  dsimp only
  rw [if_neg (by rw [h]; decide), if_neg hplace]
  have hprint : ((({ c with staged := some (setupMap b) } : Core).wr0 Obj.PM_STAGED 1).updStream (fun x => { x with direct := false })).inPrint = c.inPrint := by
    simp [Core.inPrint]
  rw [hprint]

theorem recLineMark_of_ready (hready : c.recordReady 0x12 = some (b, ssn)) (h : leAt b 2 2 = 0) :
    c.recLineMark =
      if c.withinPage = true ∧ c.openPage.all (fun pg => decide (leAt b 4 4 ≤ pg.lines) && (bitsSet 16 (leAt b 0 2)).all (fun p => decide (Tab.get 0 pg.done p ≤ leAt b 4 4))) = true then
        ((c.updOpen (fun pg => { pg with done := (bitsSet 16 (leAt b 0 2)).foldl (fun m p => Tab.set m p (leAt b 4 4)) pg.done })).takeRecord ssn).recomputeLA
      else c.streamError errOrder 0x12 ssn := by
  have hfalls (pg : Page) : (decide (pg.lines < leAt b 4 4) || (bitsSet 16 (leAt b 0 2)).any (fun p => decide (leAt b 4 4 < Tab.get 0 pg.done p))) =
      !(decide (leAt b 4 4 ≤ pg.lines) && (bitsSet 16 (leAt b 0 2)).all (fun p => decide (Tab.get 0 pg.done p ≤ leAt b 4 4))) := by
    rw [Bool.not_and, List.not_all_eq_any_not]
    simp only [← decide_not, Nat.not_le]
  unfold Core.recLineMark
  rw [hready]
  dsimp only
  rw [if_neg (not_not_intro h), ← ite_not]
  refine ite_congr (propext ?_) (fun _ => rfl) (fun _ => rfl)
  cases c.openPage with
  | none => simp
  | some pg =>
    dsimp only
    rw [hfalls]
    cases c.withinPage <;> simp

/-- A block of a page that has ended is decoded anew for the next pass. -/
def freshBlock (x : Block) : Block := { x with busy := false, done := false, bad := false, tried := false, freed := false, levels := [] }

theorem recPageEnd_of_ready (hready : c.recordReady 0x13 = some (b, ssn)) :
    c.recPageEnd =
      if c.stream.place = 2 ∧ c.stream.last.any (fun x => decide (x.1 = leAt b 0 4)) = true then
        let t := c.updOpen (fun pg => { pg with done := (List.range 16).map (fun p => (p, pg.lines)) })
        ((t.updStream (fun x => { x with
          place := 1, direct := true, idx := if c.withinPage then (c.openPage.map (fun pg => pg.blocks.map freshBlock)).getD c.stream.idx else x.idx
          ended := none })).takeRecord ssn).recomputeLA
      else c.streamError errOrder 0x13 ssn := by
  unfold Core.recPageEnd
  rw [hready]
  dsimp only
  have hidx : (match c.openPage with
      | some pg => pg.blocks.map (fun x => ({ x with busy := false, done := false, bad := false, tried := false, freed := false, levels := [] } : Block))
      | none => c.stream.idx) = (c.openPage.map (fun pg => pg.blocks.map freshBlock)).getD c.stream.idx := by
    cases c.openPage <;> rfl
  rw [← hidx]
  exact ite_not_of_iff (by cases c.stream.last <;> simp) _ _

/-! #### MEASURE, SPIT_BAND and MARK (R271) -/

/-- The page is not started yet, and the queue has room for one of its records. -/
structure Queues (c : Core) (pg : Page) : Prop where
  place : c.stream.place = 2
  page : c.openPage = some pg
  waits : pg.started = false
  room : c.queued < 4096

theorem recMeasure_of_queues {pg : Page} (hready : c.recordReady 0x30 = some (b, ssn)) (h : leAt b 6 2 = 0) (hq : Queues c pg) :
    c.recMeasure = if c.queueBad = true then c.streamError errMem 0x30 ssn
      else ((c.updOpen (fun pg => { pg with measures := pg.measures ++ [⟨leAt b 0 4, leAt b 4 2, leAt b 8 8⟩] })).updStream (fun x => { x with direct := false })).takeRecord ssn := by
  have hroom := hq.room
  unfold Core.recMeasure
  rw [hready]
  dsimp only
  rw [if_neg (not_not_intro h), if_neg (not_not_intro hq.place), hq.page]
  dsimp only
  rw [if_neg (by omega)]
  simp [hq.waits]

theorem recSpitBand_of_queues {pg lay : Page} (hready : c.recordReady 0x31 = some (b, ssn)) (hpattern : leAt b 0 1 ≤ 15) (h : leAt b 1 3 = 0) (hq : Queues c pg)
    (hopen : c.stream.ended = none) (hlaid : c.laidOut.find? (fun q => decide (q.no = pg.no ∧ q.pass = pg.pass)) = some lay)
    (hcols : leAt b 4 4 + leAt b 8 4 ≤ lay.cols) (habove : pg.bandTop ≤ leAt b 4 4) :
    c.recSpitBand = if c.queueBad = true then c.streamError errMem 0x31 ssn
      else ((((c.updOpen (fun pg => { pg with bands := pg.bands ++ [⟨leAt b 0 1, leAt b 4 4, leAt b 8 4⟩] })).updOpen
        (fun pg => { pg with bandTop := leAt b 4 4 + leAt b 8 4 })).updStream (fun x => { x with direct := false })).takeRecord ssn) := by
  have hroom := hq.room
  have hpage : ((c.openPage.bind (fun pg => c.laidOut.find? (fun q => decide (q.no = pg.no ∧ q.pass = pg.pass)))).or c.stream.ended) = some lay := by
    rw [hq.page, Option.bind_some, hlaid]
    rfl
  unfold Core.recSpitBand
  rw [hready]
  dsimp only
  rw [if_neg (by omega), hpage, hq.page]
  dsimp only
  have hfits : ¬ (c.stream.place ≠ 2 ∨ lay.cols < leAt b 4 4 + leAt b 8 4 ∨ decide (leAt b 4 4 < pg.bandTop) = true) := by
    rw [decide_eq_true_eq]
    have hplace := hq.place
    omega
  rw [if_neg hfits, if_neg (by omega)]
  simp [hq.waits, hopen]

theorem recMark_of_ready (hready : c.recordReady 0x3F = some (b, ssn)) :
    c.recMark = if c.stream.place = 0 then c.streamError errOrder 0x3F ssn
      else ((c.event (some 2) 0x0020 (leAt b 0 4) ssn).settle.updStream (fun x => { x with direct := false })).takeRecord ssn := by
  unfold Core.recMark
  rw [hready]

end Records

/-- Settles O26, record by record from what each does where it stands at the front. -/
theorem recordsAreProcessedInTheirPlace : Obligations.RecordsAreProcessedInTheirPlace := by
  unfold Obligations.RecordsAreProcessedInTheirPlace
  intro s dt ssn b c
  have hstart : Does (.recordJobStart dt) s c.recJobStart := does_recordJobStart s dt
  have hend : Does (.recordJobEnd dt) s c.recJobEnd := does_recordJobEnd s dt
  have hsetup : Does (.recordPlaneSetup dt) s c.recPlaneSetup := does_recordPlaneSetup s dt
  have hline : Does (.recordLineMark dt) s c.recLineMark := does_recordLineMark s dt
  have hpageEnd : Does (.recordPageEnd dt) s c.recPageEnd := does_recordPageEnd s dt
  have hmeasure : Does (.recordMeasure dt) s c.recMeasure := does_recordMeasure s dt
  have hband : Does (.recordSpitBand dt) s c.recSpitBand := does_recordSpitBand s dt
  have hmark : Does (.recordMark dt) s c.recMark := does_recordMark s dt
  refine ⟨fun hready => ⟨fun h => ?_, fun h hplace => ?_, fun h hplace hprint hpages hhist hdown hlast => ?_⟩, fun hready => ?_,
    fun hready => ⟨fun h => ?_, fun h hplace => ?_⟩, fun hready h => ?_, fun hready => ?_, fun pg hready h hplace hpage hwaits hroom => ?_,
    fun pg lay hready hpattern h hplace hpage hopen hlaid hcols habove hwaits hroom => ?_, fun hready => ?_⟩
  · rwa [recJobStart_of_reserved hready h] at hstart
  · rwa [recJobStart_of_misplaced hready h hplace] at hstart
  · rw [recJobStart_of_settled hready h hplace hprint hpages hhist hdown] at hstart
    have hjob := jobStarted_of_last (ssn := ssn) (leAt_lt b 0 4) hprint hlast
    exact ⟨_, hstart, hjob.active, hjob.id, hjob.last, hjob.place, hjob.bytes, hjob.ssn, hjob.staged, hjob.hold, hjob.colTop⟩
  · rw [recJobEnd_of_ready hready] at hend
    split <;> rename_i hplaced
    · rwa [if_pos hplaced] at hend
    · rwa [if_neg hplaced] at hend
  · rwa [recPlaneSetup_of_unsound hready h] at hsetup
  · rwa [recPlaneSetup_of_sound hready h hplace] at hsetup
  · rw [recLineMark_of_ready hready h] at hline
    split <;> rename_i hplaced
    · rwa [if_pos hplaced] at hline
    · rwa [if_neg hplaced] at hline
  · rw [recPageEnd_of_ready hready] at hpageEnd
    split <;> rename_i hplaced
    · rwa [if_pos hplaced] at hpageEnd
    · rwa [if_neg hplaced] at hpageEnd
  · rwa [recMeasure_of_queues hready h ⟨hplace, hpage, hwaits, hroom⟩] at hmeasure
  · rwa [recSpitBand_of_queues hready hpattern h ⟨hplace, hpage, hwaits, hroom⟩ hopen hlaid hcols habove] at hband
  · rw [recMark_of_ready hready] at hmark
    split <;> rename_i hplaced
    · rwa [if_pos hplaced] at hmark
    · rwa [if_neg hplaced] at hmark

end Sys2Proof.Proofs.Records

/-! ### Proofs: pages and blocks of the job stream (ch. 10) -/

namespace Sys2Proof.Proofs.Pages
open Sys2Proof Sys2Proof.Machine Sys2Proof.Laws

/-! #### What the commands of pages and blocks answer -/

section Answers
variable (s : State) (dt : Nat)

theorem does_recordPageStart : Does (.recordPageStart dt) s (s.core.advance dt).recPageStart :=
  Fire.does_of_onCore (fun c => (c.advance dt).recPageStart) rfl

theorem does_pageStart : Does (.pageStart dt) s (s.core.advance dt).pageStart :=
  Fire.does_of_onCore (fun c => (c.advance dt).pageStart) rfl

theorem does_measureAtCol : Does (.measureAtCol dt) s (s.core.advance dt).measureAtCol :=
  Fire.does_of_onCore (fun c => (c.advance dt).measureAtCol) rfl

theorem doesBoth_recordBlock (e a : Nat) :
    DoesBoth (.recordBlock dt e a) s ((s.core.advance dt).recBlock s.mem e a).1 ((s.core.advance dt).recBlock s.mem e a).2 :=
  Avone.doesBoth_of_onBoth (fun c m => (c.advance dt).recBlock m e a) rfl

end Answers

/-! #### PAGE_START joins the queue (R265, R590) -/

section Queue
variable {c : Core} {ssn : Nat} {b : List Byte}

/-- A sound PAGE_START of a page's first PASS, in its place, for which the queue has room. -/
structure FirstPass (c : Core) (b : List Byte) (ssn : Nat) : Prop where
  ready : c.recordReady 0x11 = some (b, ssn)
  sound : pageBodyOk (decide (c.mode = .printWeb)) b = true
  pass : leAt b 4 1 = 0
  place : c.stream.place = 1
  final : c.stream.last.all (fun x => x.2.2) = true
  rises : c.stream.lastNo.all (fun k => decide (k < leAt b 0 4)) = true
  room : c.queued < 4096

/-- The page of a PAGE_START. -/
def pageOfRecord (c : Core) (b : List Byte) (ssn : Nat) : Page where
  no := leAt b 0 4
  pass := 0
  dir := signedOf 8 (leAt b 5 1)
  mask := leAt b 6 1
  final := decide (leAt b 7 1 = 1)
  lines := leAt b 8 4
  xshift := signedOf 32 (leAt b 12 4)
  origin := signedOf 64 (leAt b 16 8)
  map := c.staged
  ssn := ssn

/-- The page stands at the end of the queue with the staged map, which is used up; the stream is within the page. -/
def pageQueued (c : Core) (b : List Byte) (ssn : Nat) : Core :=
  (({ c with pages := c.pages ++ [pageOfRecord c b ssn], staged := none } : Core).wr0 Obj.PM_STAGED 0).updStream (fun x => { x with
    place := 2, last := some (leAt b 0 4, 0, decide (leAt b 7 1 = 1)), direct := false, lastNo := some (leAt b 0 4), ended := none })

theorem recPageStart_of_firstPass (h : FirstPass c b ssn) :
    c.recPageStart = if c.queueBad = true then c.streamError errMem 0x11 ssn else (pageQueued c b ssn).takeRecord ssn := by
  have hroom := h.room
  have hboth (x y : Bool) (hx : x = true) (hy : y = true) : ¬ (!(decide (1 = 1) && x && y)) = true := by rw [hx, hy]; decide
  unfold Core.recPageStart
  rw [h.ready]
  dsimp only
  rw [if_neg (by rw [h.sound]; decide), h.pass, if_pos rfl, h.place]
  refine (if_neg (hboth _ _ ?_ ?_)).trans ?_
  · have hfinal := h.final
    cases hlast : c.stream.last with
    | none => rfl
    | some x => rw [hlast] at hfinal; exact hfinal
  · have hrises := h.rises
    cases hno : c.stream.lastNo with
    | none => rfl
    | some k => rw [hno] at hrises; exact hrises
  · rw [if_neg (by omega)]
    rfl

/-- The page is queued as its record says, the map staged for it is used up, and the stream goes on within it. -/
structure PageQueued (c : Core) (b : List Byte) (ssn : Nat) (k : Core) : Prop where
  pages : k.pages = c.pages ++ [pageOfRecord c b ssn]
  staged : k.staged = none
  last : k.stream.last = some (leAt b 0 4, 0, decide (leAt b 7 1 = 1))
  ssn : k.stream.ssn = (ssn + 1) % 2 ^ 32
  job : k.job = c.job
  mode : k.mode = c.mode

theorem pageQueued_takeRecord (hlast : c.stream.bytes.length = 12 + c.frontRec.2.1) : PageQueued c b ssn ((pageQueued c b ssn).takeRecord ssn) := by
  have hstored : ∃ l, pageQueued c b ssn = { c with
      pages := c.pages ++ [pageOfRecord c b ssn], staged := none, objs := l
      stream := { c.stream with
        place := 2, last := some (leAt b 0 4, 0, decide (leAt b 7 1 = 1)), direct := false, lastNo := some (leAt b 0 4), ended := none } } := by
    unfold pageQueued Core.wr0
    rw [Ephemeris.wr_of_not_retained _ Obj.PM_STAGED _ _ _ rfl]
    exact ⟨_, rfl⟩
  generalize pageQueued c b ssn = t at hstored ⊢
  have hbytes : t.stream.bytes = c.stream.bytes := by
    obtain ⟨l, rfl⟩ := hstored
    rfl
  obtain ⟨l', htaken⟩ := (Records.takeRecord_of_last (ssn := ssn) (by rw [hbytes, Records.frontRec_congr hbytes]; exact hlast)).frame
  generalize t.takeRecord ssn = k at htaken ⊢
  obtain ⟨l, rfl⟩ := hstored
  subst htaken
  exact ⟨rfl, rfl, rfl, rfl, rfl, rfl⟩

/-! #### The start of a page (R590) -/

/-- The first page not yet started may begin: in PRINT, its tests have not failed, and one page at most is in progress. -/
structure MayBegin (c : Core) (pg : Page) : Prop where
  inPrint : c.inPrint = true
  next : c.laidOut.find? (fun pg => !pg.started) = some pg
  passed : pg.failed = false
  few : c.startedPages.length ≤ 1

/-- A page that may begin is tested, and begins where its windows fit. -/
theorem pageStart_of_mayBegin {pg : Page} (h : MayBegin c pg) :
    c.pageStart =
      let r := c.runPlaneTest (pg.own c) pg.mask pg.pass
      if r.2 = false then ({ r.1 with pages := updFirst (fun q => { q with failed := true, map := none }) r.1.pages }).occur 1360 0
      else if r.1.windowsFit [(pg, 256)] = false then
        if pg.noSpace then c else ({ r.1 with pages := updFirst (fun q => { q with noSpace := true }) r.1.pages }).occur 1428 0
      else
        let q := { pg with started := true, map := some (pg.own c), window := ((c.startedPages.getLast?.map (fun b => b.window + b.lines)).getD 0) % 256 }
        let u := ({ r.1 with pages := updFirst (fun _ => q) r.1.pages }).installMap (pg.own c)
        let v := ((u.clearCarries.clearPlacement.wr0 Obj.CMD_QUEUE u.queued).wr0 Obj.OS_RUN 0).showPage
        if c.startedPages = [] then (v.wr0 Obj.LA_MIN 0xFFFFFFFF).recomputeLA else v := by
  have hfew := h.few
  have hheld : ¬ ((!c.inPrint) = true ∨ pg.failed = true ∨ 1 < c.startedPages.length) := by
    rw [h.inPrint, h.passed]
    simpa using hfew
  unfold Core.pageStart
  rw [h.next]
  dsimp only
  rw [if_neg hheld]
  generalize c.runPlaneTest (pg.own c) pg.mask pg.pass = r
  obtain ⟨t, ok⟩ := r
  dsimp only
  cases ok with
  | false => rfl
  | true =>
    cases hfit : t.windowsFit [(pg, 256)] with
    | false => rfl
    | true => cases c.startedPages <;> rfl

theorem pageStart_of_none (h : c.inPrint = false ∨ c.laidOut.find? (fun pg => !pg.started) = none ∨ 1 < c.startedPages.length) : c.pageStart = c := by
  unfold Core.pageStart
  cases hnext : c.laidOut.find? (fun pg => !pg.started) with
  | none => rfl
  | some pg =>
    refine if_pos ?_
    obtain hprint | hnone | hmany := h
    · exact .inl (by rw [hprint]; rfl)
    · rw [hnext] at hnone
      cases hnone
    · exact .inr (.inr hmany)

/-- Without pages just the measurements that are due are requested (R271). -/
theorem measureAtCol_of_no_pages (h : c.pages = []) :
    c.measureAtCol = c.measDue.foldl (fun t x => (t.measRequest x.ports).jsRequest x.js) { c with measDue := [] } := by
  have hpages (f : Page → Page) : ({ c with measDue := [], pages := c.pages.map f } : Core) = { c with measDue := [] } := by rw [h, List.map_nil, ← h]
  unfold Core.measureAtCol
  dsimp only
  rw [hpages, h, List.flatMap_nil, List.append_nil]
  rfl

end Queue

/-! #### A block goes into the staging ring burst by burst (R267, R274, R283) -/

section Staging
variable {c : Core} {m : List Host.Cell} {b : List Byte}

/-- The address of byte `i` of the BLOCK at the front: the ring runs on at STAGE_BASE past its end. -/
def placeOf (c : Core) (i : Nat) : Nat := c.rd0 Obj.STAGE_BASE + (c.stream.off + i) % c.rd0 Obj.STAGE_SIZE

/-- The block fits in the ring, the ring lies in DRAM, and what has been written of the block is a part of it. -/
structure Stages (c : Core) (b : List Byte) : Prop where
  ring : c.rd0 Obj.STAGE_BASE + c.rd0 Obj.STAGE_SIZE ≤ c.rd0 Obj.DRAM_SIZE
  fits : b.length ≤ c.rd0 Obj.STAGE_SIZE
  off : c.stream.off < c.rd0 Obj.STAGE_SIZE
  put : c.stream.put ≤ b.length

/-- In a ring a step of less than one round passes its end at most once. -/
theorem ring_mod {off size i : Nat} (hoff : off < size) (hi : i < size) : (off + i) % size = if off + i < size then off + i else off + i - size := by
  split
  · exact Nat.mod_eq_of_lt ‹_›
  · rw [Nat.mod_eq_sub_mod (by omega), Nat.mod_eq_of_lt (by omega)]

/-- Different bytes of a block have different places. -/
theorem placeOf_ne (h : Stages c b) {i j : Nat} (hi : i < b.length) (hj : j < b.length) (hij : i ≠ j) : placeOf c i ≠ placeOf c j := by
  obtain ⟨-, hfits, hoff, -⟩ := h
  unfold placeOf
  rw [ring_mod hoff (by omega), ring_mod hoff (by omega)]
  split <;> split <;> omega

/-- Where the next burst begins. -/
theorem burst_address (h : Stages c b) : c.rd0 Obj.STAGE_BASE + c.stageAt = placeOf c c.stream.put := by
  obtain ⟨-, -, hoff, -⟩ := h
  rw [Core.stageAt, placeOf, Nat.max_eq_right (by omega)]

/-- A burst takes some bytes, none past the block's end. -/
theorem stageBurst_bounds (h : Stages c b) (hput : c.stream.put ≠ b.length) : 1 ≤ c.stageBurst b.length ∧ c.stream.put + c.stageBurst b.length ≤ b.length := by
  obtain ⟨-, hfits, hoff, hle⟩ := h
  have hlt : c.stageAt < max 1 (c.rd0 Obj.STAGE_SIZE) := Nat.mod_lt _ (by omega)
  unfold Core.stageBurst
  omega

/-- Its bytes lie side by side: it does not pass the ring's end. -/
theorem placeOf_burst (h : Stages c b) {j : Nat} (hj : j < c.stageBurst b.length) : placeOf c (c.stream.put + j) = placeOf c c.stream.put + j := by
  obtain ⟨-, -, hoff, -⟩ := h
  have hsize : max 1 (c.rd0 Obj.STAGE_SIZE) = c.rd0 Obj.STAGE_SIZE := Nat.max_eq_right (by omega)
  have hroom : (c.stream.off + c.stream.put) % c.rd0 Obj.STAGE_SIZE + j < c.rd0 Obj.STAGE_SIZE := by
    rw [Core.stageBurst, Core.stageAt, hsize] at hj
    omega
  unfold placeOf
  rw [← Nat.add_assoc c.stream.off, Nat.add_mod (c.stream.off + c.stream.put) j, Nat.mod_eq_of_lt (show j < c.rd0 Obj.STAGE_SIZE by omega),
    Nat.mod_eq_of_lt hroom, Nat.add_assoc]

/-- The ring lies in DRAM, so its addresses name its bytes themselves. -/
theorem locate_place (h : Stages c b) (i : Nat) : c.locate (placeOf c i) = (.dram, placeOf c i) := by
  obtain ⟨hring, -, hoff, -⟩ := h
  have hlt : (c.stream.off + i) % c.rd0 Obj.STAGE_SIZE < c.rd0 Obj.STAGE_SIZE := Nat.mod_lt _ (by omega)
  exact if_pos (by unfold placeOf; omega)

/-- The bytes of the next burst. -/
def burstOf (c : Core) (b : List Byte) : List Byte := (b.drop c.stream.put).take (c.stageBurst b.length)

/-- The block once that burst has been sent. -/
def burstSent (c : Core) (b : List Byte) : Core :=
  let n := c.stageBurst b.length
  (((({ c with dmaTop := 0 } : Core).fixTokens 0 (c.tokensOf 0 - 8 * n)).inc Obj.dma_BYTES 0 0 n).mendWords (c.rd0 Obj.STAGE_BASE + c.stageAt) n).updStream
    (fun x => { x with put := x.put + n })

/-- Memory with that burst. -/
def burstStored (c : Core) (m : List Host.Cell) (b : List Byte) : List Host.Cell := c.storeAt m (c.rd0 Obj.STAGE_BASE + c.stageAt) (burstOf c b)

theorem stageBursts_succ (k : Nat) :
    Core.stageBursts b (k + 1) c m =
      let f := c.writeFault ownDma (c.rd0 Obj.STAGE_BASE + c.stageAt) (c.stageBurst b.length)
      if c.stream.put = b.length ∨ c.dmaTurn ≠ some 0 then (c, m, 0)
      else if f ≠ 0 then (c, m, f)
      else Core.stageBursts b k (burstSent c b) (burstStored c m b) := rfl

/-- Bursts end with the block, out of turn or at a fault; else one is sent and the others follow. -/
theorem stageBursts_cases (k : Nat) :
    (∃ f, Core.stageBursts b (k + 1) c m = (c, m, f)) ∨
    (c.stream.put ≠ b.length ∧ Core.stageBursts b (k + 1) c m = Core.stageBursts b k (burstSent c b) (burstStored c m b)) := by
  rw [stageBursts_succ]
  dsimp only
  split
  next => exact .inl ⟨0, rfl⟩
  next hgo =>
    split
    next => exact .inl ⟨_, rfl⟩
    next => exact .inr ⟨fun hput => hgo (.inl hput), rfl⟩

/-- The bytes a burst writes stand in their places; every other byte of memory stays. -/
theorem get_burstStored (h : Stages c b) (hwf : Memory.wf m = true) (hput : c.stream.put ≠ b.length) {j : Nat} (hj : j < c.stageBurst b.length) :
    Memory.get (burstStored c m b) (placeOf c (c.stream.put + j)) = nth 0 b (c.stream.put + j) := by
  obtain ⟨-, hend⟩ := stageBurst_bounds h hput
  have hlocate := locate_place h c.stream.put
  have hlength : (burstOf c b).length = c.stageBurst b.length := by simp only [burstOf, List.length_take, List.length_drop]; omega
  have hstored := Dma.get_storeAt_inside (c := c) (m := m) (a := placeOf c c.stream.put) (l := burstOf c b) (i := j) hwf (fun hview => by rw [hlocate] at hview; cases hview)
    (by rw [hlength]; exact hj)
  rw [hlocate] at hstored
  rw [burstStored, burst_address h, placeOf_burst h hj, hstored]
  change nth 0 (burstOf c b) j = _
  rw [Raster.nth_eq_getD, Raster.nth_eq_getD, List.getD_eq_getElem?_getD, List.getD_eq_getElem?_getD, burstOf, List.getElem?_take_of_lt hj, List.getElem?_drop]

theorem get_burstStored_outside (h : Stages c b) (hput : c.stream.put ≠ b.length) {z : Nat}
    (hz : ∀ j, j < c.stageBurst b.length → z ≠ placeOf c (c.stream.put + j)) : Memory.get (burstStored c m b) z = Memory.get m z := by
  obtain ⟨-, hend⟩ := stageBurst_bounds h hput
  rw [burstStored, burst_address h]
  refine Dma.get_storeAt_outside ?_
  rw [locate_place h]
  have hlength : (burstOf c b).length = c.stageBurst b.length := by simp only [burstOf, List.length_take, List.length_drop]; omega
  rw [hlength]
  refine Decidable.byContradiction fun hin => ?_
  have hj : z - placeOf c c.stream.put < c.stageBurst b.length := by omega
  exact hz _ hj (by rw [placeOf_burst h hj]; omega)

/-- Sending changes the objects, the bucket, the notes of counters, the words known to be uncorrectable, whose turn it is, and how much has been written. -/
def Sends (c t : Core) : Prop :=
  ∃ l d q z w g n, t = { c with objs := l, dma := d, bumps := q, bumpAt := z, badWords := w, dmaTop := g, stream := { c.stream with put := n } }

theorem Sends.refl (c : Core) : Sends c c := ⟨c.objs, c.dma, c.bumps, c.bumpAt, c.badWords, c.dmaTop, c.stream.put, rfl⟩

theorem Sends.trans {t u : Core} (h : Sends c t) (h' : Sends t u) : Sends c u := by
  obtain ⟨l, d, q, z, w, g, n, rfl⟩ := h
  exact h'

theorem Sends.counted {t : Core} (h : Sends c t) (n : Nat) : Sends c (t.inc Obj.dma_BYTES 0 0 n) := by
  refine h.trans ?_
  obtain ⟨l, q, z, hinc⟩ := Dma.inc_frame t n 0 0 (o := Obj.dma_BYTES) rfl
  exact ⟨l, t.dma, q, z, t.badWords, t.dmaTop, t.stream.put, hinc⟩

theorem Sends.mended {t : Core} (h : Sends c t) (a n : Nat) : Sends c (t.mendWords a n) := by
  refine h.trans ?_
  obtain ⟨w, hmend⟩ := Dma.mendWords_frame t n a
  exact ⟨t.objs, t.dma, t.bumps, t.bumpAt, w, t.dmaTop, t.stream.put, hmend⟩

theorem Sends.wrote {t : Core} (h : Sends c t) (n : Nat) : Sends c (t.updStream (fun x => { x with put := x.put + n })) :=
  h.trans ⟨t.objs, t.dma, t.bumps, t.bumpAt, t.badWords, t.dmaTop, _, rfl⟩

theorem sends_burstSent (c : Core) (b : List Byte) : Sends c (burstSent c b) := by
  have hpaid (n : Nat) : Sends c (({ c with dmaTop := 0 } : Core).fixTokens 0 n) := ⟨c.objs, _, c.bumps, c.bumpAt, c.badWords, 0, c.stream.put, rfl⟩
  exact (((hpaid _).counted _).mended _ _).wrote _

/-- All of the stream's record but how much has been written stays, as does everything else that sending does not concern. -/
theorem Sends.stream {t : Core} (h : Sends c t) : t.stream = { c.stream with put := t.stream.put } := by
  obtain ⟨l, d, q, z, w, g, n, rfl⟩ := h
  rfl

theorem Sends.stage {t : Core} (h : Sends c t) : t.stage = c.stage := by
  obtain ⟨l, d, q, z, w, g, n, rfl⟩ := h
  rfl

theorem Sends.openPage {t : Core} (h : Sends c t) : t.openPage = c.openPage := by
  obtain ⟨l, d, q, z, w, g, n, rfl⟩ := h
  rfl

/-- DE0.C00's count of bytes is the one object that sending changes. -/
theorem rd_burstSent (c : Core) (b : List Byte) {o : Ob} {i j : Nat} (h : o.key i j ≠ Obj.dma_BYTES.key 0 0) : (burstSent c b).rd o i j = c.rd o i j := by
  unfold burstSent
  dsimp only
  change (Core.mendWords _ _ _).rd o i j = _
  rw [Dma.rd_mendWords]
  exact Dma.rd_inc_ne _ _ _ _ _ _ _ _ h

theorem put_burstSent (c : Core) (b : List Byte) : (burstSent c b).stream.put = c.stream.put + c.stageBurst b.length := by
  have hmend (t : Core) (a n : Nat) : (t.mendWords a n).stream = t.stream := by
    obtain ⟨w, h⟩ := Dma.mendWords_frame t n a
    rw [h]
  simp [burstSent, hmend, Core.fixTokens]

theorem placeOf_congr {t : Core} (hrd : ∀ o i j, o.key i j ≠ Obj.dma_BYTES.key 0 0 → t.rd o i j = c.rd o i j) (h : Sends c t) (i : Nat) : placeOf t i = placeOf c i := by
  have hbase : t.rd0 Obj.STAGE_BASE = c.rd0 Obj.STAGE_BASE := hrd _ _ _ (by decide)
  have hsize : t.rd0 Obj.STAGE_SIZE = c.rd0 Obj.STAGE_SIZE := hrd _ _ _ (by decide)
  rw [placeOf, placeOf, hbase, hsize, h.stream]

theorem stages_burstSent (h : Stages c b) (hput : c.stream.put ≠ b.length) : Stages (burstSent c b) b := by
  obtain ⟨-, hend⟩ := stageBurst_bounds h hput
  have hbase : (burstSent c b).rd0 Obj.STAGE_BASE = c.rd0 Obj.STAGE_BASE := rd_burstSent c b (by decide)
  have hsize : (burstSent c b).rd0 Obj.STAGE_SIZE = c.rd0 Obj.STAGE_SIZE := rd_burstSent c b (by decide)
  have hdram : (burstSent c b).rd0 Obj.DRAM_SIZE = c.rd0 Obj.DRAM_SIZE := rd_burstSent c b (by decide)
  have hoff : (burstSent c b).stream.off = c.stream.off := by rw [(sends_burstSent c b).stream]
  exact ⟨by rw [hbase, hsize, hdram]; exact h.ring, by rw [hsize]; exact h.fits, by rw [hoff, hsize]; exact h.off, by rw [put_burstSent]; exact hend⟩

/-- Bytes `put` up to `r`'s own of the block were written to their places, and nothing else of memory. -/
structure Staged (c : Core) (m : List Host.Cell) (b : List Byte) (r : Core × List Host.Cell × Nat) : Prop where
  sends : Sends c r.1
  others : ∀ o i j, o.key i j ≠ Obj.dma_BYTES.key 0 0 → r.1.rd o i j = c.rd o i j
  low : c.stream.put ≤ r.1.stream.put
  high : r.1.stream.put ≤ b.length
  inside : ∀ i, c.stream.put ≤ i → i < r.1.stream.put → Memory.get r.2.1 (placeOf c i) = nth 0 b i
  outside : ∀ z, (∀ i, i < r.1.stream.put → c.stream.put ≤ i → z ≠ placeOf c i) → Memory.get r.2.1 z = Memory.get m z

theorem Staged.none_sent (h : Stages c b) (f : Nat) : Staged c m b (c, m, f) where
  sends := .refl c
  others := fun _ _ _ _ => rfl
  low := Nat.le_refl _
  high := h.put
  inside := fun _ hi hi' => absurd hi' (Nat.not_lt.mpr hi)
  outside := fun _ _ => rfl

theorem Staged.burst {r : Core × List Host.Cell × Nat} (h : Stages c b) (hwf : Memory.wf m = true) (hput : c.stream.put ≠ b.length)
    (hrest : Staged (burstSent c b) (burstStored c m b) b r) : Staged c m b r := by
  obtain ⟨hsends, hothers, hfrom, hto, hinside, houtside⟩ := hrest
  have hplace (i : Nat) : placeOf (burstSent c b) i = placeOf c i := placeOf_congr (fun _ _ _ hkey => rd_burstSent c b hkey) (sends_burstSent c b) i
  rw [put_burstSent] at hfrom
  simp only [put_burstSent, hplace] at hinside houtside
  refine ⟨(sends_burstSent c b).trans hsends, fun o i j hkey => (hothers o i j hkey).trans (rd_burstSent c b hkey), by omega, hto, fun i hi hi' => ?_, fun z hz => ?_⟩
  · by_cases hlater : c.stream.put + c.stageBurst b.length ≤ i
    · exact hinside i hlater hi'
    · have hkept := houtside (placeOf c i) fun i' hi'' hlow => placeOf_ne h (by omega) (by omega) (by omega)
      obtain ⟨j, rfl⟩ := Nat.exists_eq_add_of_le hi
      rw [hkept, get_burstStored h hwf hput (by omega)]
  · rw [houtside z fun i hi hlow => hz i hi (by omega)]
    exact get_burstStored_outside h hput fun j hj => hz _ (by omega) (by omega)

/-- By induction on the bursts tried. -/
theorem stageBursts_staged (k : Nat) (c : Core) (m : List Host.Cell) (b : List Byte) (h : Stages c b) (hwf : Memory.wf m = true) :
    Staged c m b (Core.stageBursts b k c m) := by
  induction k generalizing c m with
  | zero => exact .none_sent h 0
  | succ k ih =>
    obtain ⟨f, hstop⟩ | ⟨hput, hburst⟩ := stageBursts_cases (c := c) (m := m) (b := b) k
    · rw [hstop]
      exact .none_sent h f
    · rw [hburst]
      exact .burst h hwf hput (ih _ _ (stages_burstSent h hput) (memory_wf_storeAt c m _ _ hwf))

end Staging

/-! #### The end of a block (R267, R274) -/

section Done
variable {c : Core} {m : List Host.Cell} {b : List Byte} {ssn : Nat} {pg : Page}

/-- The block of a BLOCK that begins at the ring's present place. -/
def blockOf (c : Core) (b : List Byte) (ssn : Nat) : Block :=
  ⟨c.rd0 Obj.STAGE_BASE + c.stream.off, b.length, hPlane b, hFirstCol b, hColCount b, hFirstNoz b, hNozCount b, ssn, false, false, false, false, false, []⟩

/-- It stands in the staging ring and in its page's index, and the ring goes on behind it. -/
def filed (c : Core) (b : List Byte) (ssn : Nat) : Core :=
  (({ c with stage := c.stage ++ [(ssn, b.length, false)] } : Core).updOpen (fun pg => { pg with blocks := pg.blocks ++ [blockOf c b ssn] })).updStream
    (fun x => { x with off := (x.off + b.length) % max 1 (c.rd0 Obj.STAGE_SIZE), put := 0, direct := false })

/-- The open page of a stream whose page has not ended stands in the queue under the number and pass of the last PAGE_START. -/
theorem openPage_queued (hpage : c.openPage = some pg) (hopen : c.stream.ended = none) :
    pg ∈ c.pages ∧ ∃ fin, c.stream.last = some (pg.no, pg.pass, fin) := by
  unfold Core.openPage at hpage
  split at hpage
  next no ps fin hlast =>
    rw [hopen, Option.or_none] at hpage
    have hfound := List.find?_some hpage
    rw [decide_eq_true_eq] at hfound
    obtain ⟨rfl, rfl⟩ := hfound
    exact ⟨List.mem_of_find?_eq_some hpage, fin, hlast⟩
  next => cases hpage

theorem filed_eq {fin : Bool} (hopen : c.stream.ended = none) (hlast : c.stream.last = some (pg.no, pg.pass, fin)) :
    filed c b ssn = { c with
      stage := c.stage ++ [(ssn, b.length, false)]
      pages := c.pages.map (fun q => if q.no = pg.no ∧ q.pass = pg.pass then { q with blocks := q.blocks ++ [blockOf c b ssn] } else q)
      stream := { c.stream with off := (c.stream.off + b.length) % max 1 (c.rd0 Obj.STAGE_SIZE), put := 0, direct := false } } := by
  simp [filed, Core.updOpen, Core.updStream, hlast, hopen]

theorem showDe0_leaves (c : Core) (writes : Bool) : ∃ l, c.showDe0 writes = { c with objs := l } := by
  unfold Core.showDe0 Core.setCh
  rw [Ephemeris.wr_of_not_retained _ Obj.eng_ACTIVE_CH _ _ _ rfl, Ephemeris.wr_of_not_retained _ Obj.eng_ENG_STATE _ _ _ rfl,
    Ephemeris.wr_of_not_retained _ Obj.dma_CH_STATE _ _ _ rfl]
  exact ⟨_, rfl⟩

theorem blockDone_of_open (hopen : c.stream.ended = none) : c.blockDone b ssn = ((filed c b ssn).showDe0 false).takeRecord ssn := by
  unfold Core.blockDone
  rw [hopen]
  rfl

/-- The block is whole: in the ring, in the index of its page, and behind the stream. -/
structure BlockFiled (c : Core) (b : List Byte) (ssn : Nat) (pg : Page) (k : Core) : Prop where
  stage : k.stage = c.stage ++ [(ssn, b.length, false)]
  off : k.stream.off = (c.stream.off + b.length) % max 1 (c.rd0 Obj.STAGE_SIZE)
  put : k.stream.put = 0
  behind : k.stream.ssn = (ssn + 1) % 2 ^ 32
  page : ∃ pg' ∈ k.pages, pg'.no = pg.no ∧ pg'.pass = pg.pass ∧ pg'.blocks = pg.blocks ++ [blockOf c b ssn]

theorem blockDone_files (hpage : c.openPage = some pg) (hopen : c.stream.ended = none) (hlast : c.stream.bytes.length = 12 + c.frontRec.2.1) :
    BlockFiled c b ssn pg (c.blockDone b ssn) := by
  obtain ⟨hmem, fin, hstart⟩ := openPage_queued hpage hopen
  have hmem' : ({ pg with blocks := pg.blocks ++ [blockOf c b ssn] } : Page) ∈
      c.pages.map (fun q => if q.no = pg.no ∧ q.pass = pg.pass then { q with blocks := q.blocks ++ [blockOf c b ssn] } else q) :=
    List.mem_map.mpr ⟨pg, hmem, if_pos ⟨rfl, rfl⟩⟩
  have hfiled := filed_eq (b := b) (ssn := ssn) hopen hstart
  obtain ⟨l, hshown⟩ := showDe0_leaves (filed c b ssn) false
  rw [blockDone_of_open hopen]
  generalize filed c b ssn = t at hfiled hshown ⊢
  generalize t.showDe0 false = u at hshown ⊢
  have hbytes : u.stream.bytes = c.stream.bytes := by rw [hshown, hfiled]
  obtain ⟨l', htaken⟩ := (Records.takeRecord_of_last (ssn := ssn) (by rw [hbytes, Records.frontRec_congr hbytes]; exact hlast)).frame
  generalize u.takeRecord ssn = k at htaken ⊢
  generalize c.pages.map _ = pages at hmem' hfiled
  subst hfiled
  subst hshown
  subst htaken
  exact ⟨rfl, rfl, rfl, rfl, _, hmem', rfl, rfl, rfl⟩

/-- A BLOCK of the open page whose plane has no line done yet is in its place. -/
theorem blockOrder_of_fresh (hwithin : c.withinPage = true) (hpage : c.openPage = some pg) (hcols : hFirstCol b + hColCount b ≤ pg.lines)
    (hdone : Tab.get 0 pg.done (hPlane b) = 0) : c.blockOrder b = false := by
  unfold Core.blockOrder
  rw [hwithin, hpage]
  simp [hdone, hcols]

/-- Without a memory error a BLOCK in its place goes on as its bursts do. -/
theorem recBlock_of_placed (a : Nat) (hready : c.recordReady 0x20 = some (b, ssn)) (horder : c.blockOrder b = false) :
    c.recBlock m 0 a =
      let r := Core.stageBursts b (b.length + 1) c m
      if r.2.2 = 1 then (r.1.blockBus b.length ssn, r.2.1)
      else if r.2.2 = 2 then
        ((r.1.memError 2 (r.1.badAddr (r.1.rd0 Obj.STAGE_BASE + r.1.stageAt) (r.1.stageBurst b.length))).streamError errMem 0x20 ssn, r.2.1)
      else if r.1.stream.put = b.length then (r.1.blockDone b ssn, r.2.1)
      else (r.1.showDe0 true, r.2.1) := by
  unfold Core.recBlock
  rw [hready]
  dsimp only
  rw [horder, Dma.memError_zero, if_neg (by decide), if_neg (by decide)]

theorem recBlock_of_part (a : Nat) (hready : c.recordReady 0x20 = some (b, ssn)) (horder : c.blockOrder b = false)
    (hclean : (Core.stageBursts b (b.length + 1) c m).2.2 = 0) (hpart : (Core.stageBursts b (b.length + 1) c m).1.stream.put < b.length) :
    c.recBlock m 0 a = ((Core.stageBursts b (b.length + 1) c m).1.showDe0 true, (Core.stageBursts b (b.length + 1) c m).2.1) := by
  rw [recBlock_of_placed a hready horder]
  dsimp only
  rw [if_neg (by omega), if_neg (by omega), if_neg (by omega)]

theorem recBlock_of_whole (a : Nat) (hready : c.recordReady 0x20 = some (b, ssn)) (horder : c.blockOrder b = false)
    (hclean : (Core.stageBursts b (b.length + 1) c m).2.2 = 0) (hwhole : (Core.stageBursts b (b.length + 1) c m).1.stream.put = b.length) :
    c.recBlock m 0 a = ((Core.stageBursts b (b.length + 1) c m).1.blockDone b ssn, (Core.stageBursts b (b.length + 1) c m).2.1) := by
  rw [recBlock_of_placed a hready horder]
  dsimp only
  rw [if_neg (by omega), if_neg (by omega), if_pos hwhole]

theorem recBlock_of_bus (a : Nat) (hready : c.recordReady 0x20 = some (b, ssn)) (horder : c.blockOrder b = false)
    (hbus : (Core.stageBursts b (b.length + 1) c m).2.2 = 1) :
    c.recBlock m 0 a = ((Core.stageBursts b (b.length + 1) c m).1.blockBus b.length ssn, (Core.stageBursts b (b.length + 1) c m).2.1) := by
  rw [recBlock_of_placed a hready horder]
  exact if_pos hbus

/-- A BLOCK whose bursts have sent all its bytes is filed where the stream stood before them. -/
theorem BlockFiled.of_sent {t k : Core} (hsends : Sends c t) (hothers : ∀ o i j, o.key i j ≠ Obj.dma_BYTES.key 0 0 → t.rd o i j = c.rd o i j)
    (h : BlockFiled t b ssn pg k) : BlockFiled c b ssn pg k := by
  obtain ⟨hstage, hoff, hput, hbehind, hindex⟩ := h
  have hsize : t.rd0 Obj.STAGE_SIZE = c.rd0 Obj.STAGE_SIZE := hothers _ _ _ (by decide)
  have hbase : t.rd0 Obj.STAGE_BASE = c.rd0 Obj.STAGE_BASE := hothers _ _ _ (by decide)
  have hring : t.stream.off = c.stream.off := by rw [hsends.stream]
  have hblock : blockOf t b ssn = blockOf c b ssn := by rw [blockOf, hbase, hring, blockOf]
  rw [hsends.stage] at hstage
  rw [hsize, hring] at hoff
  rw [hblock] at hindex
  exact ⟨hstage, hoff, hput, hbehind, hindex⟩

theorem blockDone_of_sent {t : Core} (hsends : Sends c t) (hothers : ∀ o i j, o.key i j ≠ Obj.dma_BYTES.key 0 0 → t.rd o i j = c.rd o i j)
    (hpage : c.openPage = some pg) (hopen : c.stream.ended = none) (hlast : c.stream.bytes.length = 12 + c.frontRec.2.1) :
    BlockFiled c b ssn pg (t.blockDone b ssn) := by
  have hbytes : t.stream.bytes = c.stream.bytes := by rw [hsends.stream]
  refine .of_sent hsends hothers (blockDone_files ?_ ?_ ?_)
  · rw [hsends.openPage, hpage]
  · rw [hsends.stream]
    exact hopen
  · rw [hbytes, Records.frontRec_congr hbytes]
    exact hlast

end Done

/-- Settles O27: what PAGE_START and its command leave, and the bursts of a BLOCK by induction, each into the places of its bytes. -/
theorem pagesAndBlocksAreQueued : Obligations.PagesAndBlocksAreQueued := by
  unfold Obligations.PagesAndBlocksAreQueued
  refine ⟨fun s dt ssn b => ?_, fun s dt ssn a b pg => ?_⟩
  · intro c
    have hrecord : Does (.recordPageStart dt) s c.recPageStart := does_recordPageStart s dt
    have hstart : Does (.pageStart dt) s c.pageStart := does_pageStart s dt
    have hmeasure : Does (.measureAtCol dt) s c.measureAtCol := does_measureAtCol s dt
    refine ⟨fun hready hsound hpass hplace hfinal hrises hroom hlast => ⟨fun hbad => ?_, fun hgood => ?_⟩, fun pg hprint hnext hpassed hfew => ?_,
      fun hwait => ?_, ?_⟩
    · rwa [recPageStart_of_firstPass ⟨hready, hsound, hpass, hplace, hfinal, hrises, hroom⟩, if_pos hbad] at hrecord
    · rw [recPageStart_of_firstPass ⟨hready, hsound, hpass, hplace, hfinal, hrises, hroom⟩, if_neg (by rw [hgood]; decide)] at hrecord
      obtain ⟨hpages, hstaged, hopened, hssn, hjob, hmode⟩ := pageQueued_takeRecord (b := b) (ssn := ssn) hlast
      exact ⟨_, _, hrecord, hpages, rfl, rfl, rfl, rfl, rfl, rfl, rfl, hstaged, hopened, hssn, hjob, hmode⟩
    · have hmay : MayBegin c pg := ⟨hprint, hnext, hpassed, hfew⟩
      rw [pageStart_of_mayBegin hmay] at hstart
      dsimp only at hstart
      refine ⟨fun hfails => ?_, fun hpasses hfull => ?_, fun hpasses hfits => ?_⟩
      · rwa [if_pos hfails] at hstart
      · rwa [if_neg (by rw [hpasses]; decide), if_pos hfull] at hstart
      · rwa [if_neg (by rw [hpasses]; decide), if_neg (by rw [hfits]; decide)] at hstart
    · rwa [pageStart_of_none hwait] at hstart
    · rintro l rfl hpages
      rwa [measureAtCol_of_no_pages hpages] at hmeasure
  · intro c base size hwf hready hwithin hpage hopen hring hfits hoff hput hcols hdone r n
    have hstages : Stages c b := ⟨hring, hfits, hoff, Nat.le_of_lt hput⟩
    obtain ⟨hsends, hothers, hlow, hhigh, hinside, houtside⟩ := stageBursts_staged (b.length + 1) c s.mem b hstages hwf
    have hblock : DoesBoth (.recordBlock dt 0 a) s (c.recBlock s.mem 0 a).1 (c.recBlock s.mem 0 a).2 := doesBoth_recordBlock s dt 0 a
    have horder : c.blockOrder b = false := blockOrder_of_fresh hwithin hpage hcols hdone
    refine ⟨hlow, hhigh, fun hclean hpart => ?_, fun hclean hwhole hlast => ?_, fun hbus => ?_, hinside, houtside⟩
    · rwa [recBlock_of_part a hready horder hclean hpart] at hblock
    · rw [recBlock_of_whole a hready horder hclean hwhole] at hblock
      obtain ⟨hstage, hring', hput', hbehind, hindex⟩ := blockDone_of_sent (b := b) (ssn := ssn) hsends hothers hpage hopen hlast
      rw [Nat.max_eq_right (by omega)] at hring'
      exact ⟨_, hblock, hstage, hring', hput', hbehind, hindex⟩
    · rwa [recBlock_of_bus a hready horder hbus] at hblock

end Sys2Proof.Proofs.Pages

/-! ### Proofs: rails, resets and start-up (ch. 20) -/

namespace Sys2Proof.Proofs.Power
open Sys2Proof Sys2Proof.Machine Sys2Proof.Laws

/-! #### What the commands of power and reset answer -/

/-- A command that acts on its condition alone: where that holds it does what it does, elsewhere nothing but time passes. -/
theorem doesBoth_of_onBoth_ite {i : Instr} {s : State} {dt : Nat} {P : Core → Prop} [DecidablePred P] (f : Core → List Host.Cell → Core × List Host.Cell)
    (h : exec i s = onBoth (fun c m => if P (c.advance dt) then f (c.advance dt) m else (c.advance dt, m)) s) :
    (P (s.core.advance dt) → DoesBoth i s (f (s.core.advance dt) s.mem).1 (f (s.core.advance dt) s.mem).2) ∧
      (¬ P (s.core.advance dt) → Does i s (s.core.advance dt)) := by
  have answer := Avone.doesBoth_of_onBoth _ h
  refine ⟨fun holds => ?_, fun fails => ?_⟩
  · rwa [if_pos holds] at answer
  · rwa [if_neg fails] at answer

theorem doesBoth_of_eq {i : Instr} {s : State} {r : Core × List Host.Cell} {k : Core} {m : List Host.Cell} (h : DoesBoth i s r.1 r.2) (hr : r = (k, m)) :
    DoesBoth i s k m := by
  subst hr
  exact h

/-- A command that leaves memory as it was answers with its core alone. -/
theorem does_of_same_mem {i : Instr} {s : State} {r : Core × List Host.Cell} {k : Core} (h : DoesBoth i s r.1 r.2) (hr : r = (k, s.mem)) : Does i s k :=
  doesBoth_of_eq h hr

section Answers
variable (s : State) (dt r bad straps : Nat)

theorem doesBoth_railGood :
    DoesBoth (.railGood dt bad straps) s ((s.core.advance dt).railGood s.mem bad straps).1 ((s.core.advance dt).railGood s.mem bad straps).2 :=
  Avone.doesBoth_of_onBoth (fun c m => (c.advance dt).railGood m bad straps) rfl

theorem does_railOff : Does (.railOff dt r) s ((s.core.advance dt).railOff r) :=
  Fire.does_of_onCore (fun c => (c.advance dt).railOff r) rfl

theorem does_mainRailTimeout : Does (.mainRailTimeout dt) s (s.core.advance dt).mainRailTimeout :=
  Fire.does_of_onCore (fun c => (c.advance dt).mainRailTimeout) rfl

theorem does_resetNLow : Does (.resetNLow dt) s (s.core.advance dt).resetNLow :=
  Fire.does_of_onCore (fun c => (c.advance dt).resetNLow) rfl

theorem doesBoth_resetNRise :
    DoesBoth (.resetNRise dt bad straps) s ((s.core.advance dt).resetNRise s.mem bad straps).1 ((s.core.advance dt).resetNRise s.mem bad straps).2 :=
  Avone.doesBoth_of_onBoth (fun c m => (c.advance dt).resetNRise m bad straps) rfl

theorem doesBoth_startupComplete (a b : Nat) (trained kept retBad : Bool) :
    let r := (s.core.advance dt).startupComplete s.mem a b trained kept retBad
    DoesBoth (.startupComplete dt a b trained kept retBad) s r.1 r.2 :=
  Avone.doesBoth_of_onBoth (fun c m => (c.advance dt).startupComplete m a b trained kept retBad) rfl

theorem doesBoth_wakeNFall :
    let c := s.core.advance dt
    (c.mode = .retain ∧ c.railWait = false ∧ c.resetLow = false →
      DoesBoth (.wakeNFall dt bad straps) s (c.wake s.mem 7 bad straps).1 (c.wake s.mem 7 bad straps).2) ∧
    (¬(c.mode = .retain ∧ c.railWait = false ∧ c.resetLow = false) → Does (.wakeNFall dt bad straps) s c) := by
  simpa only [Bool.not_eq_true'] using doesBoth_of_onBoth_ite (i := .wakeNFall dt bad straps) (s := s) (dt := dt)
    (P := fun t => t.mode = .retain ∧ !t.railWait ∧ !t.resetLow) (fun t m => t.wake m 7 bad straps) rfl

theorem doesBoth_wakeAfterExpiry :
    let c := s.core.advance dt
    (c.mode = .retain ∧ c.railWait = false ∧ c.due .wakeAfter 0 = true →
      DoesBoth (.wakeAfterExpiry dt bad straps) s (c.wake s.mem 7 bad straps).1 (c.wake s.mem 7 bad straps).2) ∧
    (¬(c.mode = .retain ∧ c.railWait = false ∧ c.due .wakeAfter 0 = true) → Does (.wakeAfterExpiry dt bad straps) s c) := by
  simpa only [Bool.not_eq_true'] using doesBoth_of_onBoth_ite (i := .wakeAfterExpiry dt bad straps) (s := s) (dt := dt)
    (P := fun t => t.mode = .retain ∧ !t.railWait ∧ t.due .wakeAfter 0) (fun t m => t.wake m 7 bad straps) rfl

theorem doesBoth_wdogResetDelay :
    let c := s.core.advance dt
    (c.wdogExpired = true ∧ c.due .wdogReset 0 = true →
      DoesBoth (.wdogResetDelay dt bad straps) s (c.startUp s.mem 8 bad straps).1 (c.startUp s.mem 8 bad straps).2) ∧
    (¬(c.wdogExpired = true ∧ c.due .wdogReset 0 = true) → Does (.wdogResetDelay dt bad straps) s c) :=
  doesBoth_of_onBoth_ite (P := fun t => t.wdogExpired ∧ t.due .wdogReset 0) (fun t m => t.startUp m 8 bad straps) rfl

theorem doesBoth_safeAutoResetExpiry :
    let c := s.core.advance dt
    (c.safeAutoDue = true → DoesBoth (.safeAutoResetExpiry dt bad straps) s (c.startUp s.mem 64 bad straps).1 (c.startUp s.mem 64 bad straps).2) ∧
    (¬ c.safeAutoDue = true → Does (.safeAutoResetExpiry dt bad straps) s c) :=
  doesBoth_of_onBoth_ite (P := fun t => t.safeAutoDue) (fun t m => t.startUp m 64 bad straps) rfl

end Answers

/-! #### OFF (R515, R529) -/

/-- Restoring what Thimble keeps changes the objects, what the journal is due of them, and the ports. -/
def Restores (c t : Core) : Prop := ∃ l d z q, t = { c with objs := l, dirty := d, dirtySince := z, ports := q }

theorem Restores.wr {c t : Core} (h : Restores c t) (o : Ob) (i j v : Nat) : Restores c (t.wr o i j v) := by
  obtain ⟨l, d, z, q, rfl⟩ := h
  exact ⟨_, _, _, _, wr_frame _ o i j v⟩

theorem Restores.updThim {c t : Core} (h : Restores c t) (p : Nat) (f : Thim → Thim) : Restores c (t.updThim p f) := by
  obtain ⟨l, d, z, q, rfl⟩ := h
  exact ⟨l, d, z, _, rfl⟩

theorem Restores.thim {c t : Core} (h : Restores c t) (e : Nat × ThimEntry) : Restores c (t.thimRestore e) :=
  ((((h.wr Obj.CARRIER_ID 0 e.1 _).wr Obj.COUNT 0 e.1 _).wr Obj.CSEQ 0 e.1 _).wr Obj.PENDING_PL 0 e.1 _).updThim e.1 _

theorem restores_foldl_thimRestore (c : Core) (l : List (Nat × ThimEntry)) : Restores c (l.foldl Core.thimRestore c) :=
  List.foldlRecOn (motive := Restores c) l Core.thimRestore ⟨c.objs, c.dirty, c.dirtySince, c.ports, rfl⟩ fun _ h e _ => h.thim e

/-- OFF, with the cause of the reset to come noted; sessions and deadlines are gone, keys and what is journaled stay, and outputs are held safe. -/
structure HeldOff (c : Core) (cause : Nat) (k : Core) : Prop where
  mode : k.mode = .off
  phase : k.phase = .steady
  noted : bit k.causes cause = true
  sess : k.sess = []
  timers : k.timers = []
  roleKeys : k.roleKeys = c.roleKeys
  journal : k.journal = c.journal
  logRet : k.logRet = c.logRet
  thimJ : k.thimJ = c.thimJ
  out : k.out = ⟨.safeOutputs, 1, [], []⟩ :: c.out

theorem heldOff_powerOff (c : Core) (cause : Nat) : HeldOff c cause (c.powerOff cause) := by
  obtain ⟨l, d, z, q, hcleared⟩ : ∃ l d z q, c.cleared 0 = _ := restores_foldl_thimRestore _ c.thimJ
  unfold Core.powerOff Core.wr0
  dsimp only
  rw [wr_frame, hcleared]
  exact ⟨rfl, rfl, Bobbin.bit_putBit_self _ _, rfl, rfl, rfl, rfl, rfl, rfl, rfl⟩

/-- Noting the rail that fell first makes no difference to what OFF keeps. -/
theorem HeldOff.of_wr0 {c k : Core} {cause : Nat} {o : Ob} {v : Nat} (h : HeldOff (c.wr0 o v) cause k) : HeldOff c cause k := by
  rw [Core.wr0, wr_frame] at h
  exact ⟨h.mode, h.phase, h.noted, h.sess, h.timers, h.roleKeys, h.journal, h.logRet, h.thimJ, h.out⟩

/-! #### Rails and RESET_N (R516, R517, R525) -/

section Rails
variable {c : Core} {m : List Host.Cell} {r bad straps : Nat}

theorem railGood_of_off (hmode : c.mode = .off) (hphase : c.phase = .steady) (hreset : c.resetLow = false) (hcauses : c.causes ≠ 0) :
    c.railGood m bad straps = (c.wr0 Obj.RAIL_STATE 0x3FF).startUp m (c.causes % 512) bad straps := by
  unfold Core.railGood
  dsimp only
  rw [if_neg (by simp [hmode]), if_pos ⟨hmode, hphase, by simp [hreset], hcauses⟩]

theorem railGood_of_waiting (hmode : c.mode = .retain) (hwait : c.railWait = true) :
    c.railGood m bad straps = (c.wr0 Obj.RAIL_STATE 0x3FF).startUp m (c.causes % 512) bad straps := if_pos ⟨hmode, hwait⟩

theorem railGood_of_running (hrun : c.running = true) :
    c.railGood m bad straps = (((c.wr0 Obj.RAIL_STATE 0x3FF).each (List.range 20) (fun t r => t.level (256 + r) 0 false)).level 1488 0 false, m) := by
  obtain ⟨hoff, hretain⟩ := of_decide_eq_true hrun
  unfold Core.railGood
  dsimp only
  rw [if_neg (fun h => hretain h.1), if_neg (fun h => hoff h.1)]

/-- RAIL_STATE once a rail has fallen. -/
def railFallen (c : Core) (r : Nat) : Core := c.wr0 Obj.RAIL_STATE (putBit (c.rd0 Obj.RAIL_STATE) r false)

theorem railOff_of_high (hr : 9 ≤ r) : c.railOff r = c := if_pos hr

theorem railOff_of_low (hr : r < 9) :
    c.railOff r =
      if c.mode = .retain ∧ !(r = 4 ∨ r = 5 ∨ r = 7) then railFallen c r
      else if c.mode = .off ∧ c.phase = .steady then (if r = 7 then { railFallen c r with causes := 2 } else railFallen c r)
      else (railFallen c r).powerOff (if r = 7 then 1 else 2) := if_neg (by omega)

theorem railOff_of_retain (hr : r < 9) (hmode : c.mode = .retain) (h4 : r ≠ 4) (h5 : r ≠ 5) (h7 : r ≠ 7) : c.railOff r = railFallen c r := by
  rw [railOff_of_low hr, if_pos ⟨hmode, by simp [h4, h5, h7]⟩]

theorem railOff_of_off (hr : r < 9) (hmode : c.mode = .off) (hphase : c.phase = .steady) :
    c.railOff r = if r = 7 then { railFallen c r with causes := 2 } else railFallen c r := by
  rw [railOff_of_low hr, if_neg (by simp [hmode]), if_pos ⟨hmode, hphase⟩]

theorem railOff_of_supplied (hr : r < 9) (hup : ¬(c.mode = .off ∧ c.phase = .steady)) (hmain : c.mode = .retain → r = 4 ∨ r = 5 ∨ r = 7) :
    c.railOff r = (railFallen c r).powerOff (if r = 7 then 1 else 2) := by
  rw [railOff_of_low hr, if_neg (fun h => by simp [hmain h.1] at h), if_neg hup]

theorem mainRailTimeout_of_waiting (h : c.mode = .retain ∧ c.railWait = true ∧ c.due .mainRail 0 = true) : c.mainRailTimeout = c.powerOff 2 := if_pos h

theorem mainRailTimeout_of_none (h : ¬(c.mode = .retain ∧ c.railWait = true ∧ c.due .mainRail 0 = true)) : c.mainRailTimeout = c := if_neg h

theorem resetNLow_of_up (hretain : c.mode ≠ .retain) (hup : ¬(c.mode = .off ∧ c.phase = .steady)) : c.resetNLow = { c.powerOff 4 with resetLow := true } := by
  unfold Core.resetNLow
  rw [if_neg (fun h => h.elim hretain hup)]

theorem resetNLow_of_down (h : c.mode = .retain ∨ (c.mode = .off ∧ c.phase = .steady)) : c.resetNLow = { c with resetLow := true } := by
  unfold Core.resetNLow
  rw [if_pos h]

theorem resetNRise_of_high (h : c.resetLow = false) : c.resetNRise m bad straps = (c, m) := if_pos (by simp [h])

theorem resetNRise_of_low (h : c.resetLow = true) :
    c.resetNRise m bad straps =
      if c.mode = .retain then ({ c with resetLow := false } : Core).wake m 4 bad straps
      else if c.railsGood then ({ c with resetLow := false } : Core).startUp m 16 bad straps
      else ({ c with resetLow := false, causes := putBit c.causes 4 true }, m) := if_neg (by simp [h])

end Rails

/-! #### Start-up and wakes (R307, R312, R517, R529) -/

section StartUp
variable {c : Core} {m : List Host.Cell} {kinds bad straps : Nat}

/-- TEST_EN as a reset samples it: at a POWER_ON reset anew, else as it was (R563). -/
def testHeld (c : Core) (kinds straps : Nat) : Bool := if bit (c.causes ||| kinds) 1 then bit straps 3 else c.testEn

theorem startUp_mem_of_test (h : testHeld c kinds straps = true) : (c.startUp m kinds bad straps).2 = m := by
  unfold Core.startUp
  extract_lets wake on test
  rw [if_pos (show test = true from h)]

/-- A device reset clears Spool, and DRAM unless the device wakes from RETAIN. -/
theorem startUp_mem_of_start (h : testHeld c kinds straps = false) :
    (c.startUp m kinds bad straps).2 =
      if c.mode = .retain then Memory.clear m spoolBase (spoolBase + spoolSize)
      else Memory.clear (Memory.clear m spoolBase (spoolBase + spoolSize)) 0 spoolBase := by
  have hstart : ¬ testHeld c kinds straps = true := by simp [h]
  unfold Core.startUp
  extract_lets wake on test
  rw [if_neg (show ¬ test = true from hstart)]
  exact if_congr decide_eq_true_iff rfl rfl

/-- A wake that waits for the main rails: MAIN_EN is driven, and 100 ms are allowed. -/
def mainRailsAwaited (c : Core) (kind : Nat) : Core :=
  ((({ c with railWait := true, phase := .waking, causes := putBit c.causes kind true }).disarm .wakeAfter 0).arm .mainRail 0 (ms 100)).emit .mainEn 0 [1] []

theorem wake_of_good (h : c.railsGood = true) : c.wake m kinds bad straps = c.startUp m (2 ^ kinds) bad straps := if_pos h

theorem wake_of_waiting (h : c.railsGood = false) : c.wake m kinds bad straps = (mainRailsAwaited c kinds, m) := if_neg (by simp [h])

end StartUp

/-! #### STARTUP_COMPLETE (R309 to R313, R530) -/

section Complete
variable {c : Core} {m : List Host.Cell} {a b : Nat} {trained kept bad : Bool}

/-- DRAM_FITTED of both channels. -/
def fitted (c : Core) (a b : Nat) : Core := (c.wr Obj.DRAM_FITTED 0 0 a).wr Obj.DRAM_FITTED 0 1 b

/-- DRAM with its size, where what is fitted is in order and trained. -/
def sized (c : Core) (a b : Nat) : Core := (fitted c a b).wr0 Obj.DRAM_SIZE (if c.dramEcc then (a + b) / 8 * 7 else a + b)

theorem startupComplete_of_early (h : c.startReady = false) : c.startupComplete m a b trained kept bad = (c, m) := if_pos (by simp [h])

theorem mode_of_startReady (h : c.startReady = true) : c.mode = .off := by
  simp only [Core.startReady, Bool.and_eq_true, decide_eq_true_eq] at h
  exact h.1.1.1

/-- With the retention store good, CONFIG follows DRAM unless a fatal fault came first, and DRAM is cleared where it is to be scrubbed. -/
theorem startupComplete_of_ready (h : c.startReady = true) :
    let t := c.dramStart a b trained kept
    c.startupComplete m a b trained kept false =
      (if t.mode = .off then t.enterConfig else t, if t.rd0 Obj.DRAM_STATE = 2 then Memory.clear m 0 spoolBase else m) := by
  unfold Core.startupComplete
  simp [h, Core.when]

theorem dramStart_of_unfit (h : trained = false ∨ a = 0 ∨ (b ≠ 0 ∧ b ≠ a)) :
    c.dramStart a b trained kept = ((fitted c a b).wr0 Obj.DRAM_STATE 5).occur 1431 0 := if_pos (by simpa using h)

/-- Both channels trained, the second empty or like the first (R309). -/
def Fit (a b : Nat) (trained : Bool) : Prop := trained = true ∧ 0 < a ∧ (b = 0 ∨ b = a)

theorem dramStart_of_fit (h : Fit a b trained) :
    c.dramStart a b trained kept =
      if c.fromRetain ∧ kept then ((sized c a b).wr0 Obj.DRAM_STATE 3).wr0 Obj.DRAM_SCRUB_POS ((sized c a b).rd0 Obj.DRAM_SIZE)
      else if c.fromRetain then ((sized c a b).wr0 Obj.DRAM_STATE 2).occur 1432 0 else (sized c a b).wr0 Obj.DRAM_STATE 2 := by
  obtain ⟨htrained, ha, hb⟩ := h
  have hfit : ¬(!trained ∨ a = 0 ∨ (b ≠ 0 ∧ b ≠ a)) := by simp [htrained]; omega
  unfold Core.dramStart
  dsimp only
  rw [if_neg hfit]
  simp only [sized, fitted, wr0_fromRetain, wr_fromRetain, wr_dramEcc]

theorem mode_sized : (sized c a b).mode = c.mode := by simp [sized, fitted]

theorem startupComplete_of_fresh (h : c.startReady = true) (hfit : Fit a b trained) (hfresh : c.fromRetain = false) :
    c.startupComplete m a b trained kept false = (((sized c a b).wr0 Obj.DRAM_STATE 2).enterConfig, Memory.clear m 0 spoolBase) := by
  have hstart : c.dramStart a b trained kept = (sized c a b).wr0 Obj.DRAM_STATE 2 := by simp [dramStart_of_fit hfit, hfresh]
  have hmode : ((sized c a b).wr0 Obj.DRAM_STATE 2).mode = .off := by rw [wr0_mode, mode_sized, mode_of_startReady h]
  have hscrub : ((sized c a b).wr0 Obj.DRAM_STATE 2).rd0 Obj.DRAM_STATE = 2 := rd0_wr0 _ _ _
  rw [startupComplete_of_ready h, hstart, if_pos hmode, if_pos hscrub]

theorem startupComplete_of_lost (h : c.startReady = true) (hfit : Fit a b trained) (hretain : c.fromRetain = true) (hlost : kept = false) :
    let t := ((sized c a b).wr0 Obj.DRAM_STATE 2).occur 1432 0
    c.startupComplete m a b trained kept false =
      (if t.mode = .off then t.enterConfig else t, if t.rd0 Obj.DRAM_STATE = 2 then Memory.clear m 0 spoolBase else m) := by
  have hstart : c.dramStart a b trained kept = ((sized c a b).wr0 Obj.DRAM_STATE 2).occur 1432 0 := by simp [dramStart_of_fit hfit, hretain, hlost]
  rw [startupComplete_of_ready h, hstart]

theorem startupComplete_of_kept (h : c.startReady = true) (hfit : Fit a b trained) (hretain : c.fromRetain = true) (hkept : kept = true) :
    c.startupComplete m a b trained kept false =
      ((((sized c a b).wr0 Obj.DRAM_STATE 3).wr0 Obj.DRAM_SCRUB_POS ((sized c a b).rd0 Obj.DRAM_SIZE)).enterConfig, m) := by
  have hstart : c.dramStart a b trained kept = ((sized c a b).wr0 Obj.DRAM_STATE 3).wr0 Obj.DRAM_SCRUB_POS ((sized c a b).rd0 Obj.DRAM_SIZE) := by
    simp [dramStart_of_fit hfit, hretain, hkept]
  have hmode (v : Nat) : (((sized c a b).wr0 Obj.DRAM_STATE 3).wr0 Obj.DRAM_SCRUB_POS v).mode = .off := by
    rw [wr0_mode, wr0_mode, mode_sized, mode_of_startReady h]
  have hready (v : Nat) : ¬ (((sized c a b).wr0 Obj.DRAM_STATE 3).wr0 Obj.DRAM_SCRUB_POS v).rd0 Obj.DRAM_STATE = 2 := by
    rw [rd0_wr0_ne _ _ _ _ (by decide), rd0_wr0]
    decide
  rw [startupComplete_of_ready h, hstart, if_pos (hmode _), if_neg (hready _)]

theorem startupComplete_of_unfit (h : c.startReady = true) (hunfit : trained = false ∨ a = 0 ∨ (b ≠ 0 ∧ b ≠ a)) :
    let t := ((fitted c a b).wr0 Obj.DRAM_STATE 5).occur 1431 0
    c.startupComplete m a b trained kept false =
      (if t.mode = .off then t.enterConfig else t, if t.rd0 Obj.DRAM_STATE = 2 then Memory.clear m 0 spoolBase else m) := by
  rw [startupComplete_of_ready h, dramStart_of_unfit hunfit]

end Complete

/-! #### The statement -/

/-- Settles O56: each command does what rails, RESET_N, a wake or start-up do in the state it meets, and OFF keeps what HeldOff lists. -/
theorem resetsStartTheDevice : Obligations.ResetsStartTheDevice := by
  unfold Obligations.ResetsStartTheDevice
  refine ⟨fun s dt r bad straps => ?_, fun s dt a b trained kept => ?_⟩
  · intro c cleared
    have hgood := doesBoth_railGood s dt bad straps
    have hfall := does_railOff s dt r
    have htimeout := does_mainRailTimeout s dt
    have hlow := does_resetNLow s dt
    have hrise := doesBoth_resetNRise s dt bad straps
    obtain ⟨hcall, hnoCall⟩ := doesBoth_wakeNFall s dt bad straps
    obtain ⟨hexpiry, hnoExpiry⟩ := doesBoth_wakeAfterExpiry s dt bad straps
    obtain ⟨hwdog, hnoWdog⟩ := doesBoth_wdogResetDelay s dt bad straps
    obtain ⟨hauto, hnoAuto⟩ := doesBoth_safeAutoResetExpiry s dt bad straps
    refine ⟨fun hmode hphase hreset hcauses => ?_, fun hmode hwait => ?_, fun hrun => ?_, fun hr => ?_, fun hr => ⟨fun hmode h4 h5 h7 => ?_, fun hmode hphase => ?_,
      fun hup hmain => ?_⟩, fun hmode hwait hdue => ?_, fun hnone => ?_, fun hretain hup => ?_, fun hdown => ?_, fun hreset => ?_, fun hretain hreset hrails => ?_,
      fun hretain hreset hrails => ?_, fun hretain hreset => ?_, fun hmode hwait hreset => hcall ⟨hmode, hwait, hreset⟩, hnoCall,
      fun hmode hwait hdue => hexpiry ⟨hmode, hwait, hdue⟩, hnoExpiry, fun kind => ⟨wake_of_good, fun hrails => ?_⟩, fun hexpired hdue => hwdog ⟨hexpired, hdue⟩, hnoWdog,
      hauto, fun hnone => hnoAuto (by simp [c, hnone]), fun kinds => ⟨startUp_mem_of_test, startUp_mem_of_start⟩⟩
    · rwa [railGood_of_off hmode hphase hreset hcauses] at hgood
    · rwa [railGood_of_waiting hmode hwait] at hgood
    · exact does_of_same_mem hgood (railGood_of_running hrun)
    · rwa [railOff_of_high hr] at hfall
    · rwa [railOff_of_retain hr hmode h4 h5 h7] at hfall
    · rwa [railOff_of_off hr hmode hphase] at hfall
    · rw [railOff_of_supplied hr hup hmain] at hfall
      obtain ⟨hmode', hphase', hnoted, hsess, htimers, hroles, hjournal, hlog, hthim, hout⟩ :=
        HeldOff.of_wr0 (heldOff_powerOff (railFallen c r) (if r = 7 then 1 else 2))
      exact ⟨_, hfall, hmode', hphase', hnoted, hsess, htimers, hroles, hjournal, hlog, hthim, hout⟩
    · rw [mainRailTimeout_of_waiting ⟨hmode, hwait, hdue⟩] at htimeout
      have hoff := heldOff_powerOff c 2
      exact ⟨_, htimeout, hoff.mode, hoff.phase, hoff.noted, hoff.journal⟩
    · rwa [mainRailTimeout_of_none hnone] at htimeout
    · rw [resetNLow_of_up hretain hup] at hlow
      have hoff := heldOff_powerOff c 4
      exact ⟨_, hlow, hoff.mode, rfl, hoff.noted, hoff.roleKeys, hoff.journal⟩
    · rwa [resetNLow_of_down hdown] at hlow
    · exact does_of_same_mem hrise (resetNRise_of_high hreset)
    · rwa [resetNRise_of_low hreset, if_neg hretain, if_pos hrails] at hrise
    · exact does_of_same_mem hrise (by rw [resetNRise_of_low hreset, if_neg hretain, if_neg (by simp [hrails])])
    · rwa [resetNRise_of_low hreset, if_pos hretain] at hrise
    · rw [wake_of_waiting hrails]
      exact ⟨rfl, rfl, rfl, rfl, Bobbin.bit_putBit_self _ _, tab_find_set _ _ _, rfl⟩
  · intro c f
    refine ⟨fun bad hearly => ?_, fun hready htrained ha hb => ⟨fun hfresh => ?_, fun hretain hlost => ?_, fun hretain hkept => ?_⟩, fun hready hunfit => ?_⟩
    · exact does_of_same_mem (doesBoth_startupComplete s dt a b trained kept bad) (startupComplete_of_early hearly)
    all_goals have hdone := doesBoth_startupComplete s dt a b trained kept false
    · exact ⟨_, doesBoth_of_eq hdone (startupComplete_of_fresh hready ⟨htrained, ha, hb⟩ hfresh), rfl⟩
    · rwa [startupComplete_of_lost hready ⟨htrained, ha, hb⟩ hretain hlost] at hdone
    · exact does_of_same_mem hdone (startupComplete_of_kept hready ⟨htrained, ha, hb⟩ hretain hkept)
    · rwa [startupComplete_of_unfit hready hunfit] at hdone

end Sys2Proof.Proofs.Power

/-! ### Proofs: Spool and DRAM (ch. 11) -/

namespace Sys2Proof.Proofs.Spool
open Sys2Proof Sys2Proof.Machine Sys2Proof.Laws

/-! #### What the commands of banks, tests and aliases answer -/

section Answers
variable (s : State) (dt b : Nat)

theorem does_bankHandoverDone : Does (.bankHandoverDone dt b) s ((s.core.advance dt).handoverDone b) :=
  Fire.does_of_onCore (fun c => (c.advance dt).handoverDone b) rfl

theorem doesBoth_quarantineCleared :
    DoesBoth (.quarantineCleared dt b) s ((s.core.advance dt).quarantineCleared s.mem b).1 ((s.core.advance dt).quarantineCleared s.mem b).2 :=
  Avone.doesBoth_of_onBoth (fun c m => (c.advance dt).quarantineCleared m b) rfl

theorem does_basteRegion (ecc word : Nat) (ab : Bool) (fail : Option Nat) :
    Does (.basteRegion dt b ecc word ab fail) s ((s.core.advance dt).basteRegion b ecc word ab fail) :=
  Fire.does_of_onCore (fun c => (c.advance dt).basteRegion b ecc word ab fail) rfl

theorem does_dramScrubDone : Does (.dramScrubDone dt) s (s.core.advance dt).scrubDone :=
  Fire.does_of_onCore (fun c => (c.advance dt).scrubDone) rfl

theorem does_dramRefreshChange (code : Nat) (above : Bool) : Does (.dramRefreshChange dt code above) s ((s.core.advance dt).refreshChange code above) :=
  Fire.does_of_onCore (fun c => (c.advance dt).refreshChange code above) rfl

/-- The command of a write that clears bits or sets them, and the view it goes through. -/
def aliasCommand (clear : Bool) (dt who addr width value coll : Nat) : Instr :=
  if clear then .spoolBitClear dt who addr width value coll else .spoolBitSet dt who addr width value coll

def aliasView (clear : Bool) : View := if clear then .bitClear else .bitSet

theorem doesBoth_aliasCommand (clear : Bool) (who addr width value coll : Nat) :
    let r := (s.core.advance dt).aliasWrite s.mem (aliasView clear) who addr width value coll
    DoesBoth (aliasCommand clear dt who addr width value coll) s r.1 r.2 := by
  cases clear with
  | false => exact Avone.doesBoth_of_onBoth (fun c m => (c.advance dt).aliasWrite m .bitSet who addr width value coll) rfl
  | true => exact Avone.doesBoth_of_onBoth (fun c m => (c.advance dt).aliasWrite m .bitClear who addr width value coll) rfl

end Answers

/-! #### Hand-over and quarantine (R294, R295) -/

section Banks
variable {c : Core} {m : List Host.Cell} {b : Nat}

theorem handoverDone_of_handing (h : c.handsOver b = true) :
    let t : Core := { c with handing := Tab.erase c.handing b }
    c.handoverDone b = if b < 50 then t.endComp Obj.SB_OWNER 0 b true else t.endComp Obj.SB_OWNER_B 0 (b - 50) true := if_pos h

theorem handoverDone_of_none (h : ¬ c.handsOver b = true) : c.handoverDone b = c := if_neg h

/-- The state of a bank that leaves QUARANTINED (Table 11-4). -/
def bankFreed (b : Nat) : Nat := if bankFixed b then bankOwned else bankUnassigned

/-- The block once a bank has been cleared: the bank moves on, and every word of it is good. -/
def bankCleared (c : Core) (b : Nat) : Core :=
  { c.wr Obj.SB_STATE 0 b (bankFreed b) with
    badWords := c.badWords.filter (fun w => decide (w < (bankSpan b).1 / 8 ∨ ((bankSpan b).1 + (bankSpan b).2) / 8 ≤ w)) }

theorem quarantineCleared_of_quarantined (hb : b < 50) (h : c.bankState b = bankQuarantined) :
    c.quarantineCleared m b = (bankCleared c b, Memory.clear m (bankSpan b).1 ((bankSpan b).1 + (bankSpan b).2)) := if_pos ⟨hb, h⟩

theorem quarantineCleared_of_other (h : 50 ≤ b ∨ c.bankState b ≠ bankQuarantined) : c.quarantineCleared m b = (c, m) :=
  if_neg (by rintro ⟨hb, hstate⟩; exact h.elim (fun hb' => absurd hb (by omega)) (fun hother => hother hstate))

theorem fit_bankFreed (b : Nat) : Obj.SB_STATE.fit (bankFreed b) = bankFreed b := by
  unfold bankFreed
  split <;> rfl

theorem bankState_bankCleared (c : Core) (b : Nat) : (bankCleared c b).bankState b = bankFreed b :=
  (rd_wr c Obj.SB_STATE 0 b (bankFreed b)).trans (fit_bankFreed b)

theorem bankCleared_frame (c : Core) (b : Nat) : bankCleared c b = { c with objs := (bankCleared c b).objs, badWords := (bankCleared c b).badWords } := by
  unfold bankCleared
  rw [Ephemeris.wr_of_not_retained _ _ _ _ _ rfl]

theorem get_clear_span (a lo size : Nat) :
    Memory.get (Memory.clear m lo (lo + size)) a = if lo ≤ a ∧ a < lo + size then 0 else Memory.get m a := by
  split
  next hin => exact memory_get_clear_inside m lo (lo + size) a hin.1 hin.2
  next hout => exact memory_get_clear_outside m lo (lo + size) a (by omega)

end Banks

/-! #### Baste (R304 to R306) -/

section Baste
variable {c : Core} {b ecc word : Nat} {ab : Bool} {fail : Option Nat}

theorem basteRegion_of_stopped (h : c.basteRuns b = false) : c.basteRegion b ecc word ab fail = c := if_pos (.inl (by simp [h]))

theorem basteRegion_of_early {q : Nat} (h : Tab.get? c.basteAt b = some q) (hearly : c.clk < q + ns (c.rd0 Obj.BASTE_PERIOD)) :
    c.basteRegion b ecc word ab fail = c := by
  unfold Core.basteRegion
  dsimp only
  rw [h, if_pos (.inr (decide_eq_true hearly))]

/-- The period since the bank's last test has passed (R304). -/
def BasteDue (c : Core) (b : Nat) : Prop := (Tab.get? c.basteAt b).all (fun q => decide (q + ns (c.rd0 Obj.BASTE_PERIOD) ≤ c.clk)) = true

/-- A test begins: its time is noted, and a bank's first region clears the flag of the pass before. -/
def basteBegun (c : Core) (b : Nat) : Core :=
  let t : Core := { c with basteAt := Tab.set c.basteAt b c.clk }
  if Tab.get 0 c.basteNext b = 0 then t.wr Obj.SB_FLAGS 0 b (putBit (c.rd Obj.SB_FLAGS 0 b) 3 false) else t

theorem basteBegun_frame (c : Core) (b : Nat) : ∃ l, basteBegun c b = { c with objs := l, basteAt := Tab.set c.basteAt b c.clk } := by
  unfold basteBegun
  dsimp only
  split
  · rw [Ephemeris.wr_of_not_retained _ _ _ _ _ rfl]
    exact ⟨_, rfl⟩
  · exact ⟨c.objs, rfl⟩

theorem rd_basteBegun (c : Core) {b : Nat} {o : Ob} {i j : Nat} (h : o.key i j ≠ Obj.SB_FLAGS.key 0 b) : (basteBegun c b).rd o i j = c.rd o i j := by
  unfold basteBegun
  dsimp only
  split
  · exact rd_wr_ne _ _ _ _ _ _ _ _ h
  · rfl

/-- The period has not passed. -/
def basteEarly (c : Core) (b : Nat) : Bool :=
  match Tab.get? c.basteAt b with
  | some q => decide (c.clk < q + ns (c.rd0 Obj.BASTE_PERIOD))
  | none => false

theorem testing_of_due (hruns : c.basteRuns b = true) (hdue : BasteDue c b) : ¬((!c.basteRuns b) = true ∨ basteEarly c b = true) := by
  unfold BasteDue at hdue
  unfold basteEarly
  cases hat : Tab.get? c.basteAt b with
  | none => simp [hruns]
  | some q => simpa [hruns, hat] using hdue

theorem basteRegion_of_abandoned (hruns : c.basteRuns b = true) (hdue : BasteDue c b) (htries : Tab.get 0 c.basteTries b < 15) :
    c.basteRegion b ecc word true fail = { basteBegun c b with basteTries := Tab.set c.basteTries b (Tab.get 0 c.basteTries b + 1) } := by
  have hkept : (basteBegun c b).basteTries = c.basteTries := by
    obtain ⟨l, hbegun⟩ := basteBegun_frame c b
    rw [hbegun]
  have hfew : ¬ 16 ≤ Tab.get 0 (basteBegun c b).basteTries b + 1 := by
    rw [hkept]
    omega
  rw [← hkept]
  unfold Core.basteRegion
  extract_lets early r flags s1 t n
  rw [if_neg (show ¬((!c.basteRuns b) = true ∨ early = true) from testing_of_due hruns hdue), if_pos rfl]
  exact if_neg hfew

/-- The words of the 64 bytes from an address. -/
def wordsOfRegion (l : List Nat) (lo : Nat) : List Nat := l.filter (fun w => decide (lo ≤ 8 * w ∧ 8 * w < lo + 64))

theorem wordsOfRegion_of_sound {l : List Nat} {lo : Nat} (h : ∀ w ∈ l, 8 * w < lo ∨ lo + 64 ≤ 8 * w) : wordsOfRegion l lo = [] :=
  List.filter_eq_nil_iff.mpr fun w hw => by
    have hapart := h w hw
    simp only [decide_eq_true_eq]
    omega

theorem basteAdvance_basteBegun (h : Tab.get 0 c.basteNext b + 1 < basteRegions b) :
    (basteBegun c b).basteAdvance b =
      { basteBegun c b with basteTries := Tab.erase c.basteTries b, basteNext := Tab.set c.basteNext b (Tab.get 0 c.basteNext b + 1) } := by
  obtain ⟨l, hbegun⟩ := basteBegun_frame c b
  rw [hbegun]
  exact if_pos h

/-- A region whose words are good and whose test meets no error and no failing bit: the bank goes on to its next one. -/
theorem basteRegion_of_sound (hruns : c.basteRuns b = true) (hdue : BasteDue c b) (hmore : Tab.get 0 c.basteNext b + 1 < basteRegions b)
    (hsound : wordsOfRegion c.badWords ((bankSpan b).1 + 64 * Tab.get 0 c.basteNext b) = []) :
    c.basteRegion b 0 word false none =
      { basteBegun c b with basteTries := Tab.erase c.basteTries b, basteNext := Tab.set c.basteNext b (Tab.get 0 c.basteNext b + 1) } := by
  have hkept : (basteBegun c b).badWords = c.badWords := by
    obtain ⟨l, hbegun⟩ := basteBegun_frame c b
    rw [hbegun]
  rw [← hkept] at hsound
  rw [← basteAdvance_basteBegun hmore]
  unfold Core.basteRegion
  extract_lets early r flags s1 t n off bad u
  have hnone : bad = [] := hsound
  have hsame : u = basteBegun c b := by
    change (bad.foldl (fun t w => t.memError 2 (8 * w)) (basteBegun c b)).memError 0 _ = _
    rw [hnone, List.foldl_nil, Dma.memError_zero]
  rw [if_neg (show ¬((!c.basteRuns b) = true ∨ early = true) from testing_of_due hruns hdue), if_neg (by decide)]
  exact congrArg (fun k => Core.basteAdvance k b) hsame

end Baste

/-! #### DRAM (R312) -/

/-- The scrub's end: DRAM is READY, and the scrub has reached its end. -/
def scrubEnded (c : Core) : Core := (c.wr0 Obj.DRAM_STATE 3).wr0 Obj.DRAM_SCRUB_POS (c.rd0 Obj.DRAM_SIZE)

theorem scrubDone_of_scrubbing {c : Core} (h : c.rd0 Obj.DRAM_STATE = 2) : c.scrubDone = scrubEnded c := if_pos h

theorem scrubDone_of_other {c : Core} (h : c.rd0 Obj.DRAM_STATE ≠ 2) : c.scrubDone = c := if_neg h

theorem scrubEnded_frame (c : Core) : ∃ l, scrubEnded c = { c with objs := l } := by
  unfold scrubEnded Core.wr0
  rw [Ephemeris.wr_of_not_retained _ Obj.DRAM_SCRUB_POS _ _ _ rfl, Ephemeris.wr_of_not_retained _ Obj.DRAM_STATE _ _ _ rfl]
  exact ⟨_, rfl⟩

/-! #### Writes that set and clear bits (R299) -/

theorem length_leBytes (n v : Nat) : (leBytes n v).length = n := by
  induction n generalizing v with
  | zero => rfl
  | succ n ih => exact congrArg (· + 1) (ih (v / 256))

section Aliases
variable {c : Core} {m : List Host.Cell} {clear : Bool} {who addr width value coll : Nat}

/-- The access can have an effect: the block runs and is not SAFE; the address lies in the access's own view; it is aligned and of a width the view has. -/
structure AliasTaken (c : Core) (clear : Bool) (addr width : Nat) : Prop where
  running : c.running = true
  mode : c.mode ≠ .safe
  view : (c.locate addr).1 = aliasView clear
  sized : [8, 16, 32, 64].contains width = true
  aligned : addr % (width / 8) = 0

theorem aliasWrite_of_ignored
    (h : c.running = false ∨ c.mode = .safe ∨ (c.locate addr).1 ≠ aliasView clear ∨ [8, 16, 32, 64].contains width = false ∨ addr % (width / 8) ≠ 0) :
    c.aliasWrite m (aliasView clear) who addr width value coll = (c, m) := if_pos (by simpa only [Bool.not_eq_true'] using h)

/-- The block with the access's collisions counted, at a dual-port bank (R303). -/
def collided (c : Core) (addr coll : Nat) : Core :=
  let p := (c.locate addr).2
  if bankDual (bankOf p) then c.inc Obj.SB_COLLISIONS 0 (bankOf p - 48) coll else c

theorem aliasWrite_of_taken (h : AliasTaken c clear addr width) :
    c.aliasWrite m (aliasView clear) who addr width value coll =
      let t := collided c addr coll
      let n := width / 8
      if t.writeFault who addr n = 1 then (t.violation who addr n, m)
      else if t.writeFault who addr n = 2 then (t.memError 2 addr, m)
      else if 16 ≤ coll then (t, m)
      else (t, t.storeAt m addr (leBytes n value)) := by
  obtain ⟨hrun, hmode, hview, hwidth, haligned⟩ := h
  exact if_neg (by simp [hrun, hmode, hview, haligned, -List.contains_eq_mem, hwidth])

theorem aliasWrite_of_violation (h : AliasTaken c clear addr width) (hfault : (collided c addr coll).writeFault who addr (width / 8) = 1) :
    c.aliasWrite m (aliasView clear) who addr width value coll = ((collided c addr coll).violation who addr (width / 8), m) := by
  rw [aliasWrite_of_taken h]
  exact if_pos hfault

theorem aliasWrite_of_badWord (h : AliasTaken c clear addr width) (hfault : (collided c addr coll).writeFault who addr (width / 8) = 2) :
    c.aliasWrite m (aliasView clear) who addr width value coll = ((collided c addr coll).memError 2 addr, m) := by
  rw [aliasWrite_of_taken h]
  dsimp only
  rw [if_neg (by omega), if_pos hfault]

theorem aliasWrite_of_collisions (h : AliasTaken c clear addr width) (hfree : (collided c addr coll).writeFault who addr (width / 8) = 0) (hmany : 16 ≤ coll) :
    c.aliasWrite m (aliasView clear) who addr width value coll = (collided c addr coll, m) := by
  rw [aliasWrite_of_taken h]
  dsimp only
  rw [if_neg (by omega), if_neg (by omega), if_pos hmany]

theorem aliasWrite_of_granted (h : AliasTaken c clear addr width) (hfree : (collided c addr coll).writeFault who addr (width / 8) = 0) (hfew : coll < 16) :
    c.aliasWrite m (aliasView clear) who addr width value coll = (collided c addr coll, (collided c addr coll).storeAt m addr (leBytes (width / 8) value)) := by
  rw [aliasWrite_of_taken h]
  dsimp only
  rw [if_neg (by omega), if_neg (by omega), if_neg (by omega)]

theorem locate_collided (c : Core) (addr coll : Nat) : (collided c addr coll).locate addr = c.locate addr := by
  unfold collided
  dsimp only
  split
  next hdual =>
    have hbank : 48 ≤ bankOf (c.locate addr).2 ∧ bankOf (c.locate addr).2 ≤ 49 := by simpa [bankDual] using hdual
    exact Dma.locate_congr c addr (Dma.rd_inc_ne c coll Obj.SB_COLLISIONS Obj.DRAM_SIZE 0 _ 0 0
      (Dma.key_ne_of_index ⟨by decide, by decide, by change 1 + _ < 65536; omega, by decide⟩ (by decide)).symm)
  next => rfl

/-- What a byte becomes through either view. -/
theorem merge_aliasView (old v : Byte) : (aliasView clear).merge old v = if clear then old &&& ~~~v else old ||| v := by
  cases clear <;> rfl

theorem get_aliasStored (hwf : Memory.wf m = true) (hview : (c.locate addr).1 = aliasView clear) (n a : Nat) :
    let p := (c.locate addr).2
    Memory.get ((collided c addr coll).storeAt m addr (leBytes n value)) a =
      if p ≤ a ∧ a < p + n then
        let old := Memory.get m a
        let v := nth 0 (leBytes n value) (a - p)
        if clear then old &&& ~~~v else old ||| v
      else Memory.get m a := by
  intro p
  have hlocate := locate_collided c addr coll
  have hlength := length_leBytes n value
  split
  next hin =>
    have hmapped : ((collided c addr coll).locate addr).1 ≠ .unmapped := by
      rw [hlocate, hview]
      cases clear <;> decide
    have hstored := Dma.get_storeAt_inside (l := leBytes n value) (i := a - p) hwf hmapped (by rw [hlength]; omega)
    rwa [hlocate, hview, merge_aliasView, show (c.locate addr).2 + (a - p) = a from Nat.add_sub_cancel' hin.1] at hstored
  next hout => exact Dma.get_storeAt_outside (by rw [hlocate, hlength]; omega)

end Aliases

/-! #### The statement -/

/-- Settles O30: banks, Baste and DRAM go on as their steps do where something is under way, and a write that sets or clears bits is decided by what it meets, in order. -/
theorem banksAndAliasesAct : Obligations.BanksAndAliasesAct := by
  unfold Obligations.BanksAndAliasesAct
  refine ⟨fun s dt b => ?_, fun s dt who addr width value coll clear => ?_⟩
  · intro c
    have hhand : Does (.bankHandoverDone dt b) s (c.handoverDone b) := does_bankHandoverDone s dt b
    have hclear : DoesBoth (.quarantineCleared dt b) s (c.quarantineCleared s.mem b).1 (c.quarantineCleared s.mem b).2 := doesBoth_quarantineCleared s dt b
    have hscrub : Does (.dramScrubDone dt) s c.scrubDone := does_dramScrubDone s dt
    refine ⟨?_, fun hother => ?_, fun hb hstate hwf => ?_, fun ecc word ab fail hstop => ?_, fun ecc word ab fail q hruns hat hearly => ?_,
      fun hruns hdue hmore => ⟨fun word hsound => ?_, fun ecc word fail htries => ?_⟩, fun hstate => ?_, fun hstate => ?_, fun code above => does_dramRefreshChange s dt code above⟩
    · split
      next hhanding => rwa [handoverDone_of_handing hhanding] at hhand
      next hnone => rwa [handoverDone_of_none hnone] at hhand
    · exact Power.does_of_same_mem hclear (quarantineCleared_of_other hother)
    · have hdone := Power.doesBoth_of_eq hclear (quarantineCleared_of_quarantined hb hstate)
      refine ⟨_, _, hdone, bankState_bankCleared c b, fun a => get_clear_span a _ _, fun w hw => (List.mem_filter.mp hw).1, fun w hlo hhi hw => ?_,
        fun o i j hkey => rd_wr_ne c _ o 0 b i j _ hkey, bankCleared_frame c b⟩
      have hkept := of_decide_eq_true (List.mem_filter.mp hw).2
      omega
    · have hregion := does_basteRegion s dt b ecc word ab fail
      rwa [basteRegion_of_stopped hstop] at hregion
    · have hregion := does_basteRegion s dt b ecc word ab fail
      rwa [basteRegion_of_early hat hearly] at hregion
    · have hregion := does_basteRegion s dt b 0 word false none
      obtain ⟨l, hbegun⟩ := basteBegun_frame c b
      have hrd {o : Ob} {i j : Nat} (hkey : o.key i j ≠ Obj.SB_FLAGS.key 0 b) := rd_basteBegun c hkey
      rw [basteRegion_of_sound hruns hdue hmore (wordsOfRegion_of_sound hsound), hbegun] at hregion
      rw [hbegun] at hrd
      exact ⟨_, hregion, tab_get_set _ _ _ _, tab_find_set _ _ _, fun q hq => tab_get_set_ne _ _ _ _ _ hq, fun o i j hkey => hrd hkey, rfl⟩
    · have hregion := does_basteRegion s dt b ecc word true fail
      obtain ⟨l, hbegun⟩ := basteBegun_frame c b
      have hrd {o : Ob} {i j : Nat} (hkey : o.key i j ≠ Obj.SB_FLAGS.key 0 b) := rd_basteBegun c hkey
      rw [basteRegion_of_abandoned hruns hdue htries, hbegun] at hregion
      rw [hbegun] at hrd
      exact ⟨_, hregion, tab_get_set _ _ _ _, rfl, tab_find_set _ _ _, fun o i j hkey => hrd hkey, rfl⟩
    · rw [scrubDone_of_scrubbing hstate] at hscrub
      obtain ⟨l, hended⟩ := scrubEnded_frame c
      refine ⟨_, hscrub, ?_, rd0_wr0 _ _ _, fun o i j hkey => ?_, by rw [hended]⟩
      · exact (rd0_wr0_ne _ _ _ _ (by decide)).trans (rd0_wr0 _ _ _)
      · simp only [List.mem_cons, List.not_mem_nil, or_false, not_or] at hkey
        exact (rd_wr_ne _ _ _ _ _ _ _ _ hkey.2).trans (rd_wr_ne _ _ _ _ _ _ _ _ hkey.1)
    · rwa [scrubDone_of_other hstate] at hscrub
  · intro i k c n p t
    have hwrite : DoesBoth i s (c.aliasWrite s.mem (aliasView clear) who addr width value coll).1 (c.aliasWrite s.mem (aliasView clear) who addr width value coll).2 :=
      doesBoth_aliasCommand s dt clear who addr width value coll
    refine ⟨fun hignored => Power.doesBoth_of_eq hwrite (aliasWrite_of_ignored hignored), fun hwf hrun hmode hview hwidth haligned => ?_⟩
    have htaken : AliasTaken c clear addr width := ⟨hrun, hmode, hview, hwidth, haligned⟩
    exact ⟨fun hviol => Power.doesBoth_of_eq hwrite (aliasWrite_of_violation (coll := coll) htaken hviol),
      fun hbad => Power.doesBoth_of_eq hwrite (aliasWrite_of_badWord (coll := coll) htaken hbad),
      fun hfree hmany => Power.doesBoth_of_eq hwrite (aliasWrite_of_collisions htaken hfree hmany),
      fun hfree hfew => ⟨_, Power.doesBoth_of_eq hwrite (aliasWrite_of_granted htaken hfree hfew), get_aliasStored hwf hview n⟩⟩

end Sys2Proof.Proofs.Spool

/-! ### Proofs: every step keeps memory in its canonical form (ch. 11) -/

namespace Sys2Proof.Proofs.Canonical
open Sys2Proof Sys2Proof.Machine Sys2Proof.Laws

section Writers
variable {m : List Host.Cell} (s : Core)

/-! #### Changes made one after another -/

/-- Changes that each keep the canonical form keep it together. -/
theorem wf_foldl {α : Type} {f : List Host.Cell → α → List Host.Cell} (l : List α) (hf : ∀ m x, Memory.wf m = true → Memory.wf (f m x) = true)
    (hm : Memory.wf m = true) : Memory.wf (l.foldl f m) = true :=
  List.foldlRecOn (motive := fun m => Memory.wf m = true) l f hm fun m hm x _ => hf m x hm

/-- The same of changes that go through core and memory. -/
theorem wf_foldl_pair {α : Type} {f : Core × List Host.Cell → α → Core × List Host.Cell} {u : Core × List Host.Cell} (l : List α)
    (hf : ∀ u x, Memory.wf u.2 = true → Memory.wf (f u x).2 = true) (hu : Memory.wf u.2 = true) : Memory.wf (l.foldl f u).2 = true :=
  List.foldlRecOn (motive := fun u => Memory.wf u.2 = true) l f hu fun u hu x _ => hf u x hu

theorem wf_writeRuns (l : List (Nat × List Byte)) (hm : Memory.wf m = true) : Memory.wf (l.foldl (fun m r => Memory.write m r.1 r.2) m) = true :=
  wf_foldl l (fun m r => memory_wf_write r.2 m r.1) hm

/-- What is kept in both cases is kept; `f` names the part of a result that holds the memory. -/
theorem wf_ite {α : Type} {f : α → List Host.Cell} {p : Prop} [Decidable p] {u v : α} (hu : Memory.wf (f u) = true) (hv : Memory.wf (f v) = true) :
    Memory.wf (f (if p then u else v)) = true := by
  split
  · exact hu
  · exact hv

/-! #### Decoders (R240, R241, R250) -/

theorem wf_blankBad (t : Core) (hm : Memory.wf m = true) : Memory.wf (s.blankBad t m) = true := by
  unfold Core.blankBad
  split
  · exact hm
  · exact wf_foldl _ (fun _ pg hm => wf_foldl _ (fun _ b hm => wf_writeRuns _ hm) hm) hm

/-- By induction on the buffers tried. -/
theorem wf_flushRing (d k : Nat) (x : Decoder) (hm : Memory.wf m = true) : Memory.wf (s.flushRing m d k x).2.1 = true := by
  induction k generalizing m x with
  | zero => exact hm
  | succ k ih =>
    have hwritten := memory_wf_storeAt s m x.addr (x.pend.take (min x.room x.pend.length)) hm
    unfold Core.flushRing
    extract_lets h e n l y r
    split
    · exact hm
    · split
      · split
        · exact hm
        · split
          · exact ih _ hm
          · exact hm
      · split
        · exact ih y hwritten
        · exact hm

theorem wf_flush (d : Nat) (hm : Memory.wf m = true) : Memory.wf (s.flush m d).2.1 = true := by
  unfold Core.flush
  extract_lets x before r y t
  have hr : Memory.wf r.2.1 = true := by
    simp only [r]
    split
    · split
      · exact wf_writeRuns _ hm
      · exact hm
    · exact wf_flushRing s d 512 x hm
  split <;> exact hr

theorem wf_decCode (d e a : Nat) (hm : Memory.wf m = true) : Memory.wf (s.decCode m d e a).2 = true := by
  unfold Core.decCode
  extract_lets t x toCheck pending o body f w y r from_ n f' word strm step
  refine wf_ite (wf_ite hm (wf_ite (wf_flush t d hm) (wf_ite (wf_ite hm (wf_ite hm (wf_flush _ d hm))) (wf_ite hm (wf_ite hm ?_))))) hm
  split
  next => exact hm
  next => exact hm
  next v k _ =>
    extract_lets z st u
    refine wf_ite hm (wf_ite hm ?_)
    split
    next => exact hm
    next => exact wf_ite hm (wf_flush _ d hm)

/-! #### Banks, aliases and atomic operations (R295, R299, R301) -/

theorem wf_quarantineCleared (b : Nat) (hm : Memory.wf m = true) : Memory.wf (s.quarantineCleared m b).2 = true := by
  unfold Core.quarantineCleared
  exact wf_ite (memory_wf_clear m _ _ hm) hm

theorem wf_aliasWrite (k : View) (who addr width value coll : Nat) (hm : Memory.wf m = true) : Memory.wf (s.aliasWrite m k who addr width value coll).2 = true := by
  unfold Core.aliasWrite
  extract_lets n v t
  refine wf_ite hm (wf_ite hm (wf_ite hm (wf_ite hm ?_)))
  dsimp only
  exact memory_wf_storeAt t m addr _ hm

theorem wf_memDataWrite (b : List Byte) (hm : Memory.wf m = true) : Memory.wf (s.memDataWrite m b).2 = true := by
  unfold Core.memDataWrite
  extract_lets a
  split
  next =>
    dsimp only
    exact memory_wf_storeAt s m a b hm
  next => exact hm

theorem wf_memWrite (x : Around) (b : List Byte) (hm : Memory.wf m = true) : Memory.wf (s.memWrite m x b).2 = true := by
  unfold Core.memWrite
  extract_lets a k t u
  split
  next => exact hm
  next => exact wf_memDataWrite u b hm

theorem wf_atomicWrite (x : Around) (v : Nat) (hm : Memory.wf m = true) : Memory.wf (s.atomicWrite m x v).2 = true := by
  have hatomic (t : Core) : Memory.wf (t.atomic m v).2 = true := by
    unfold Core.atomic
    exact wf_ite hm (memory_wf_write _ m _ hm)
  unfold Core.atomicWrite
  extract_lets a n t
  exact wf_ite hm (hatomic _)

/-! #### DMA and the stream's blocks (R274, R283) -/

theorem wf_dmaBurst (g e a n : Nat) (hm : Memory.wf m = true) : Memory.wf (s.dmaBurst m g e a n).2 = true := by
  unfold Core.dmaBurst
  split
  next => exact hm
  next => exact wf_ite hm (wf_ite hm (wf_ite hm (memory_wf_storeAt _ m _ _ hm)))

/-- By induction on the bursts tried. -/
theorem wf_stageBursts (b : List Byte) (k : Nat) (hm : Memory.wf m = true) : Memory.wf (Core.stageBursts b k s m).2.1 = true := by
  induction k generalizing s m with
  | zero => exact hm
  | succ k ih =>
    obtain ⟨f, hstop⟩ | ⟨-, hburst⟩ := Pages.stageBursts_cases (c := s) (m := m) (b := b) k
    · rw [hstop]
      exact hm
    · rw [hburst]
      exact ih _ (memory_wf_storeAt s m _ _ hm)

theorem wf_recBlock (e a : Nat) (hm : Memory.wf m = true) : Memory.wf (s.recBlock m e a).2 = true := by
  unfold Core.recBlock
  split
  next => exact hm
  next b _ _ =>
    have hsent := wf_stageBursts (s.memError e a) b (b.length + 1) hm
    exact wf_ite hm (wf_ite hm (wf_ite hsent (wf_ite hsent (wf_ite hsent hsent))))

/-! #### Self-test, PARK and resets (R313, R529, R538) -/

theorem wf_bistReinit (kind : Nat) (r : BistRun) (hm : Memory.wf m = true) : Memory.wf (s.bistReinit m kind r).2 = true :=
  wf_foldl _ (fun m _ => memory_wf_clear m _ _) hm

theorem wf_bistGroupEnd (g : Nat) (fails : List BistFail) (bad : List (Nat × Nat)) (sigs : List Nat) (checks : List BistCheck) (hm : Memory.wf m = true) :
    Memory.wf (s.bistGroupEnd m g fails bad sigs checks).2 = true := by
  unfold Core.bistGroupEnd
  split
  next => exact hm
  next r _ =>
    extract_lets
    split
    next => exact hm
    next => exact wf_bistReinit s s.bist.kind r hm

theorem wf_bistTimeout (g : Nat) (hm : Memory.wf m = true) : Memory.wf (s.bistTimeout m g).2 = true := by
  unfold Core.bistTimeout
  split
  next => exact hm
  next r _ => exact wf_bistReinit s s.bist.kind r hm

theorem wf_retainEntry (hm : Memory.wf m = true) : Memory.wf (s.retainEntry m).2 = true := by
  unfold Core.retainEntry
  split
  next =>
    dsimp only
    exact memory_wf_write _ m _ hm
  next => exact hm

theorem wf_parkEnd (hm : Memory.wf m = true) : Memory.wf (s.parkEnd m).2 = true := by
  unfold Core.parkEnd
  exact wf_ite (wf_retainEntry s hm) hm

theorem wf_parkStepComplete (hm : Memory.wf m = true) : Memory.wf (s.parkStepComplete m).2 = true := by
  unfold Core.parkStepComplete
  exact wf_ite (wf_parkEnd _ hm) (wf_parkEnd _ hm)

theorem wf_startUp (kinds bad straps : Nat) (hm : Memory.wf m = true) : Memory.wf (s.startUp m kinds bad straps).2 = true := by
  have hspool := memory_wf_clear m spoolBase (spoolBase + spoolSize) hm
  cases htest : Power.testHeld s kinds straps with
  | true => rwa [Power.startUp_mem_of_test htest]
  | false =>
    rw [Power.startUp_mem_of_start htest]
    exact wf_ite (f := id) hspool (memory_wf_clear _ _ _ hspool)

theorem wf_wake (kind bad straps : Nat) (hm : Memory.wf m = true) : Memory.wf (s.wake m kind bad straps).2 = true :=
  wf_ite (wf_startUp s _ bad straps hm) hm

theorem wf_railGood (bad straps : Nat) (hm : Memory.wf m = true) : Memory.wf (s.railGood m bad straps).2 = true :=
  wf_ite (wf_startUp _ _ bad straps hm) (wf_ite (wf_startUp _ _ bad straps hm) hm)

theorem wf_resetNRise (bad straps : Nat) (hm : Memory.wf m = true) : Memory.wf (s.resetNRise m bad straps).2 = true :=
  wf_ite hm (wf_ite (wf_wake _ 4 bad straps hm) (wf_ite (wf_startUp _ 16 bad straps hm) hm))

theorem wf_startupComplete (a b : Nat) (trained kept bad : Bool) (hm : Memory.wf m = true) : Memory.wf (s.startupComplete m a b trained kept bad).2 = true :=
  wf_ite hm (wf_ite (f := id) (memory_wf_clear m 0 spoolBase hm) hm)

/-! #### Requests (R436, R443) -/

theorem wf_actPrim (x : Around) (k : Caller) (u : Core × List Host.Cell) (p : Prim) (hu : Memory.wf u.2 = true) : Memory.wf (actPrim x k s u p).2 = true := by
  cases p with
  | reg r v mask => exact hu
  | elem o i j v cnt =>
    unfold actPrim
    dsimp only
    exact wf_ite hu (wf_ite (wf_memWrite u.1 x _ hu) (wf_ite (wf_atomicWrite u.1 x v hu) (wf_ite hu hu)))

theorem wf_applyPrims (x : Around) (k : Caller) (t : Core) (ps : List Prim) (hm : Memory.wf m = true) : Memory.wf (applyPrims x k s t m ps).2 = true :=
  wf_foldl_pair _ (wf_actPrim s x k) (wf_foldl_pair _ (wf_actPrim s x k) hm)

theorem wf_commitAll (x : Around) (k : Caller) (l : List Staged) (hm : Memory.wf m = true) : Memory.wf (commitAll x k s m l).mem = true := by
  unfold commitAll
  extract_lets r
  split
  next => exact hm
  next => exact wf_applyPrims s x k _ _ hm

/-- A READ leaves memory as it was. -/
theorem mem_ansRead (x : Around) (h idx sub count width lane off : Nat) : (ansRead x h s m idx sub count width lane off).mem = m := by
  unfold ansRead
  extract_lets room fail lanesBad isMem t r u v data total
  split
  next =>
    split
    next => split <;> rfl
    next =>
      split
      next => rfl
      next => split <;> rfl
  next =>
    split
    next => split <;> rfl
    next => rfl

theorem wf_ansWhole (x : Around) (k : Caller) (idx sub count width lane : Nat) (data : List Byte) (info : Nat) (hm : Memory.wf m = true) :
    Memory.wf (ansWhole x k s m idx sub count width lane data info).mem = true := by
  unfold ansWhole
  extract_lets f role locked pre session r run
  have hdone : Memory.wf r.mem = true := wf_commitAll s x k f.2 hm
  clear_value locked
  refine wf_ite hm ?_
  split
  next => exact wf_ite hm (wf_ite hm hm)
  next =>
    cases locked with
    | some w => exact wf_ite hdone hm
    | none => exact wf_ite hdone hdone

theorem wf_ansWrite (x : Around) (k : Caller) (idx sub count width lane off total : Nat) (data : List Byte) (hm : Memory.wf m = true) :
    Memory.wf (ansWrite x k s m idx sub count width lane off total data).mem = true := by
  have hwhole (t : Core) (d : List Byte) (info : Nat) := wf_ansWhole t x k idx sub count width lane d info hm
  unfold ansWrite
  extract_lets barred fail lanesBad
  refine wf_ite hm (wf_ite hm (wf_ite (wf_ite (hwhole _ _ _) (wf_ite hm (wf_ite hm hm))) ?_))
  split
  next => exact hm
  next =>
    extract_lets all
    exact wf_ite hm (wf_ite hm (wf_ite (hwhole _ _ _) hm))

theorem wf_ansTxnBegin (k : Caller) (hm : Memory.wf m = true) : Memory.wf (ansTxnBegin k s m).mem = true := by
  unfold ansTxnBegin
  exact wf_ite hm hm

theorem wf_ansTxnCommit (x : Around) (k : Caller) (hm : Memory.wf m = true) : Memory.wf (ansTxnCommit x k s m).mem = true := by
  unfold ansTxnCommit
  refine wf_ite hm (wf_ite hm ?_)
  split
  next => exact hm
  next t _ => exact wf_commitAll (s.dropTxn k.h) x k t.staged hm

theorem wf_ansOf (x : Around) (k : Caller) (b : ReqBody) (hm : Memory.wf m = true) : Memory.wf (ansOf x k s m b).mem = true := by
  cases b with
  | read i u n w l o => exact (mem_ansRead s x k.h i u n w l o).symm ▸ hm
  | write i u n w l o t d => exact wf_ansWrite s x k i u n w l o t d hm
  | txnBegin => exact wf_ansTxnBegin s k hm
  | txnCommit => exact wf_ansTxnCommit s x k hm
  | txnAbort => exact wf_ite hm (wf_ite hm hm)
  | subscribe mask => exact wf_ite hm hm
  | describe i u =>
    unfold ansOf
    dsimp only
    split
    next => exact hm
    next => exact hm
  | close => exact hm
  | keepalive => exact hm
  | opn => exact hm
  | bad => exact hm

/-! #### How requests arrive (R392, R430, R433, R490) -/

theorem wf_runOne (x : Around) (h : Nat) (e : FopEnv) (b : ReqBody) (hm : Memory.wf m = true) : Memory.wf (runOne x h e b s m).2.1 = true := by
  have hdone := wf_ansOf s x ⟨h, (s.session h).role⟩ b hm
  unfold runOne
  extract_lets q a msg t t'
  split
  next => exact hdone
  next => exact hdone

/-- By induction on the requests held. -/
theorem wf_runHeld (x : Around) (h k : Nat) (hm : Memory.wf m = true) : Memory.wf (runHeld x h k s m).2 = true := by
  induction k generalizing s m with
  | zero => exact hm
  | succ k ih =>
    unfold runHeld
    extract_lets q t
    split
    next => exact hm
    next r _ =>
      extract_lets u
      have hone : Memory.wf u.2.1 = true := wf_runOne t x h r.env r.body hm
      exact wf_ite (ih _ hone) hone

theorem wf_sessionRequest (x : Around) (e : FopEnv) (b : ReqBody) (hm : Memory.wf m = true) : Memory.wf (s.sessionRequest m x e b).2 = true := by
  unfold Core.sessionRequest
  extract_lets h q t t' q' ahead waiting twin u
  have hone : Memory.wf u.2.1 = true := wf_runOne t' x h e b hm
  refine wf_ite hm (wf_ite hm (wf_ite hm (wf_ite hm (wf_ite (wf_ite hm (wf_ite hm (wf_ite (wf_runHeld _ x h 8 hone) hone))) ?_))))
  split
  next => exact hm
  next => exact hm

theorem wf_fopArrives (x : Around) (e : FopEnv) (b : ReqBody) (hm : Memory.wf m = true) : Memory.wf (s.fopArrives m x e b).2 = true := by
  unfold Core.fopArrives
  exact wf_ite hm (wf_ite hm (wf_ite hm (wf_ite hm (wf_ite hm (wf_ite hm (wf_sessionRequest s x e b hm))))))

theorem wf_fopRequest (x : Around) (e : FopEnv) (b : ReqBody) (hm : Memory.wf m = true) : Memory.wf (s.fopRequest m x e b).2 = true := by
  have harrived := wf_fopArrives s x e b hm
  unfold Core.fopRequest
  exact wf_ite (wf_startUp _ 32 x.bad x.straps harrived) harrived

theorem wf_fopMessage (x : Around) (src : Nat) (p : List Byte) (hm : Memory.wf m = true) : Memory.wf (s.fopMessage m x src p).2 = true := by
  unfold Core.fopMessage
  extract_lets ip port b typ flags n e
  exact wf_ite hm (wf_ite hm (wf_fopRequest s x e _ hm))

theorem wf_fopFrame (k : Nat) (b : List Byte) (hm : Memory.wf m = true) : Memory.wf (s.fopFrame m k b).2 = true := by
  unfold Core.fopFrame
  extract_lets u
  split
  next p _ => exact wf_ite (wf_fopMessage u {} (frSrc b) p hm) hm
  next => exact hm

end Writers

/-! #### Commands by what they may change -/

/-- A command of a host is a request that arrives after some time: the constructors go through one by one, and `h` leaves those of its kind. -/
theorem exec_of_isHostRequest {i : Instr} (s : State) (h : Instr.isHostRequest i = true) : ∃ dt x e b, exec i s = hostRequest dt x e b s := by
  cases i <;> cases h <;> exact ⟨_, _, _, _, rfl⟩

/-- A command that no host sends, outside those that may change memory, changes the core alone: again one by one. -/
theorem does_of_not_mayWriteMemory {i : Instr} (s : State) (hhost : Instr.isHostRequest i = false) (h : Instr.mayWriteMemory i = false) :
    ∃ k, Does i s k := by
  cases i <;> cases hhost <;> cases h <;> exact ⟨_, rfl⟩

/-- A command that may change memory keeps its canonical form, by what its operation does. -/
theorem doesBoth_of_mayWriteMemory {i : Instr} (s : State) (h : Instr.mayWriteMemory i = true) (hm : Memory.wf s.mem = true) :
    ∃ k m, DoesBoth i s k m ∧ Memory.wf m = true := by
  cases i with
  | decoderHeaderDone dt d e a => exact ⟨_, _, rfl, wf_blankBad _ _ hm⟩
  | decoderTableDone dt d e a => exact ⟨_, _, rfl, wf_blankBad _ _ hm⟩
  | decodeCode dt d e a => exact ⟨_, _, rfl, wf_blankBad _ _ (wf_decCode _ d e a hm)⟩
  | decoderBlockEnd dt d => exact ⟨_, _, rfl, wf_blankBad _ _ hm⟩
  | dmaBurst dt g e a n => exact ⟨_, _, rfl, wf_dmaBurst _ g e a n hm⟩
  | recordBlock dt e a => exact ⟨_, _, rfl, wf_recBlock _ e a hm⟩
  | quarantineCleared dt b => exact ⟨_, _, rfl, wf_quarantineCleared _ b hm⟩
  | spoolBitSet dt who addr width value coll => exact ⟨_, _, rfl, wf_aliasWrite _ .bitSet who addr width value coll hm⟩
  | spoolBitClear dt who addr width value coll => exact ⟨_, _, rfl, wf_aliasWrite _ .bitClear who addr width value coll hm⟩
  | fopFrameReceived dt port head payload crc => exact ⟨_, _, rfl, wf_fopFrame _ port _ hm⟩
  | parkStepComplete dt => exact ⟨_, _, rfl, wf_parkStepComplete _ hm⟩
  | bistGroupEnd dt g fails bad sigs checks => exact ⟨_, _, rfl, wf_bistGroupEnd _ g fails bad sigs checks hm⟩
  | bistGroupTimeout dt g => exact ⟨_, _, rfl, wf_bistTimeout _ g hm⟩
  | railGood dt bad straps => exact ⟨_, _, rfl, wf_railGood _ bad straps hm⟩
  | resetNRise dt bad straps => exact ⟨_, _, rfl, wf_resetNRise _ bad straps hm⟩
  | wakeNFall dt bad straps => exact ⟨_, _, rfl, wf_ite (wf_wake _ 7 bad straps hm) hm⟩
  | wakeAfterExpiry dt bad straps => exact ⟨_, _, rfl, wf_ite (wf_wake _ 7 bad straps hm) hm⟩
  | startupComplete dt a b trained kept bad => exact ⟨_, _, rfl, wf_startupComplete _ a b trained kept bad hm⟩
  | wdogResetDelay dt bad straps => exact ⟨_, _, rfl, wf_ite (wf_startUp _ 8 bad straps hm) hm⟩
  | safeAutoResetExpiry dt bad straps => exact ⟨_, _, rfl, wf_ite (wf_startUp _ 64 bad straps hm) hm⟩
  | _ => cases h

/-- Every command answers, and keeps memory in its canonical form: requests of hosts, commands that may change it, and all others, which change the core alone. -/
theorem doesBoth_canonical (i : Instr) (s : State) (hm : Memory.wf s.mem = true) : ∃ k m, DoesBoth i s k m ∧ Memory.wf m = true := by
  cases hhost : Instr.isHostRequest i with
  | true =>
    obtain ⟨dt, x, e, b, hrequest⟩ := exec_of_isHostRequest s hhost
    exact ⟨_, _, hrequest, wf_fopRequest (s.core.advance dt) x e b hm⟩
  | false =>
    cases hwrites : Instr.mayWriteMemory i with
    | true => exact doesBoth_of_mayWriteMemory s hwrites hm
    | false =>
      obtain ⟨k, hcore⟩ := does_of_not_mayWriteMemory s hhost hwrites
      exact ⟨k, s.mem, hcore, hm⟩

/-- A command that answers leaves a sound state sound. -/
theorem sound_of_exec {i : Instr} {s t : State} (hs : s.Sound) (h : exec i s = .next t) : t.Sound := by
  obtain ⟨k, m, hdoes, hm⟩ := doesBoth_canonical i s hs
  cases hdoes.symm.trans h
  exact hm

/-! #### The statement -/

/-- Settles O4: an idle step keeps the state, and any other is the step of its front command. -/
theorem stepsKeepMemoryCanonical : Obligations.StepsKeepMemoryCanonical := by
  unfold Obligations.StepsKeepMemoryCanonical
  intro s t hs hstep
  unfold step at hstep
  split at hstep
  next =>
    cases hstep
    exact hs
  next c rest _ => exact sound_of_exec (s := { s with pending := rest }) hs hstep

end Sys2Proof.Proofs.Canonical

/-! ### Proofs: the axes (ch. 12) -/

namespace Sys2Proof.Proofs.Motion
open Sys2Proof Sys2Proof.Machine Sys2Proof.Laws

/-! #### What the commands of motion answer -/

section Answers
variable (s : State) (dt d a n : Nat)

theorem does_servoTick : Does (.servoTick dt) s (s.core.advance dt).servoTick :=
  Fire.does_of_onCore (fun c => (c.advance dt).servoTick) rfl

theorem does_pwmBoundary (f : Nat) (samples : List BridgeSample) : Does (.pwmBoundary dt f samples) s ((s.core.advance dt).pwmBoundary f samples) :=
  Fire.does_of_onCore (fun c => (c.advance dt).pwmBoundary f samples) rfl

theorem does_driveStatus (b : List Byte) (e : Bool) : Does (.driveStatus dt d b e) s ((s.core.advance dt).driveStatus d b e) :=
  Fire.does_of_onCore (fun c => (c.advance dt).driveStatus d b e) rfl

theorem does_driveStatusMissing : Does (.driveStatusMissing dt d) s ((s.core.advance dt).driveStatusMissing d) :=
  Fire.does_of_onCore (fun c => (c.advance dt).driveStatusMissing d) rfl

theorem does_dlLink : Does (.dlLink dt d) s ((s.core.advance dt).dlLink d) :=
  Fire.does_of_onCore (fun c => (c.advance dt).dlLink d) rfl

theorem does_phaseOpen : Does (.phaseOpen dt n) s ((s.core.advance dt).phaseOpen n) :=
  Fire.does_of_onCore (fun c => (c.advance dt).phaseOpen n) rfl

theorem does_senseReferenceTest (ra rb : Nat) : Does (.senseReferenceTest dt n ra rb) s ((s.core.advance dt).senseTest n ra rb) :=
  Fire.does_of_onCore (fun c => (c.advance dt).senseTest n ra rb) rfl

theorem does_sensePlausibilityFail : Does (.sensePlausibilityFail dt n) s ((s.core.advance dt).senseImplausible n) :=
  Fire.does_of_onCore (fun c => (c.advance dt).senseImplausible n) rfl

theorem does_desaturation (g : Nat) : Does (.desaturation dt n g) s ((s.core.advance dt).desaturation n g) :=
  Fire.does_of_onCore (fun c => (c.advance dt).desaturation n g) rfl

theorem does_vdrvUndervoltage : Does (.vdrvUndervoltage dt) s (s.core.advance dt).vdrvLow :=
  Fire.does_of_onCore (fun c => (c.advance dt).vdrvLow) rfl

theorem does_vbusFault (high : Bool) : Does (.vbusFault dt n high) s ((s.core.advance dt).vbusFault n high) :=
  Fire.does_of_onCore (fun c => (c.advance dt).vbusFault n high) rfl

theorem does_holdDelayExpiry : Does (.holdDelayExpiry dt n) s ((s.core.advance dt).holdExpiry n) :=
  Fire.does_of_onCore (fun c => (c.advance dt).holdExpiry n) rfl

/-- A command of an input acts on the stepper axes AX4 to AX11 of a block that runs. -/
theorem does_of_stepperInput {i : Instr} {s : State} {dt a : Nat} (f : Core → Core)
    (h : exec i s = onCore (fun c => if (c.advance dt).running ∧ 4 ≤ a ∧ a < 12 then f (c.advance dt) else c.advance dt) s)
    (hrun : (s.core.advance dt).running = true) (hlo : 4 ≤ a) (hhi : a < 12) : Does i s (f (s.core.advance dt)) := by
  have answer := Fire.does_of_onCore _ h
  rwa [if_pos ⟨hrun, hlo, hhi⟩] at answer

variable {s dt a} (hrun : (s.core.advance dt).running = true) (hlo : 4 ≤ a) (hhi : a < 12)
include hrun hlo hhi

theorem does_homeEdge (high : Bool) :
    Does (.homeEdge dt a high) s ((s.core.advance dt).homeInput a (high == bit ((s.core.advance dt).rd Obj.ax_INPUT_POL a 0) 0)) :=
  does_of_stepperInput (fun t => t.homeInput a (high == bit (t.rd Obj.ax_INPUT_POL a 0) 0)) rfl hrun hlo hhi

theorem does_limActive : Does (.limActive dt a) s ((s.core.advance dt).limInput a true).motionAfter :=
  does_of_stepperInput (fun t => (t.limInput a true).motionAfter) rfl hrun hlo hhi

theorem does_limInactive : Does (.limInactive dt a) s ((s.core.advance dt).limInput a false) :=
  does_of_stepperInput (fun t => t.limInput a false) rfl hrun hlo hhi

end Answers

/-! #### Generators and flags of the axes -/

section Axes
variable (c : Core) (a : Nat)

@[simp] theorem axis_setAxis (x : Axis) : (c.setAxis a x).axis a = x := tab_get_set _ _ _ _

theorem axis_setAxis_ne {i : Nat} (x : Axis) (h : i ≠ a) : (c.setAxis a x).axis i = c.axis i := tab_get_set_ne _ _ _ _ _ h

@[simp] theorem axis_updAxis (f : Axis → Axis) : (c.updAxis a f).axis a = f (c.axis a) := axis_setAxis c a _

theorem axis_updAxis_ne {i : Nat} (f : Axis → Axis) (h : i ≠ a) : (c.updAxis a f).axis i = c.axis i := axis_setAxis_ne c a _ h

variable {c} in
/-- Reading a generator looks at motion alone. -/
theorem axis_congr {t : Core} (h : t.mot = c.mot) (i : Nat) : t.axis i = c.axis i := by rw [Core.axis, h, Core.axis]

@[simp] theorem axis_setAxFlag (b i : Nat) (v : Bool) : (c.setAxFlag a b v).axis i = c.axis i := axis_congr (wr_mot c _ _ _ _) i

theorem setAxFlag_frame (b : Nat) (v : Bool) : c.setAxFlag a b v = { c with objs := (c.setAxFlag a b v).objs } :=
  Ephemeris.wr_of_not_retained c Obj.ax_AX_FLAGS a 0 _ rfl

section Members
variable {c a}

/-- A flag stored leaves the other members of the axis's record. -/
theorem rd_setAxFlag_member (b : Nat) (v : Bool) {p : Ob}
    (h : p.idx = Obj.ax_AX_FLAGS.idx ∧ p.stride = Obj.ax_AX_FLAGS.stride ∧ ¬ 1 < p.nel ∧ ¬ 1 < Obj.ax_AX_FLAGS.nel ∧ p.sub ≠ Obj.ax_AX_FLAGS.sub) :
    (c.setAxFlag a b v).rd p a 0 = c.rd p a 0 := Ephemeris.rd_wr_member c a _ h

@[simp] theorem axSt_setAxFlag (b : Nat) (v : Bool) : (c.setAxFlag a b v).axSt a = c.axSt a := rd_setAxFlag_member b v (by decide)

theorem homePos_setAxFlag (b : Nat) (v : Bool) : (c.setAxFlag a b v).rdI Obj.ax_HOME_POS a 0 = c.rdI Obj.ax_HOME_POS a 0 :=
  congrArg (signedOf 64) (rd_setAxFlag_member b v (by decide))

end Members

/-- The bits a byte keeps are those of the value stored. -/
theorem bit_mod_256 {v b : Nat} (h : b < 8) : bit (v % 256) b = bit v b := by
  have hbyte := Nat.testBit_mod_two_pow v 8 b
  simpa [Nat.testBit_eq_decide_div_mod_eq, h, bit] using hbyte

/-- A flag that is set reads 1. -/
theorem bit_setAxFlag {b : Nat} (h : b < 8) : bit ((c.setAxFlag a b true).rd Obj.ax_AX_FLAGS a 0) b = true := by
  rw [Core.setAxFlag, rd_wr]
  exact (bit_mod_256 h).trans (Bobbin.bit_putBit_self _ b)

variable {c a} in
/-- Setting a flag clears no other. -/
theorem bit_setAxFlag_of_set (b : Nat) {k : Nat} (h : k < 8) (hset : bit (c.rd Obj.ax_AX_FLAGS a 0) k = true) :
    bit ((c.setAxFlag a b true).rd Obj.ax_AX_FLAGS a 0) k = true := by
  rw [Core.setAxFlag, rd_wr]
  exact (bit_mod_256 h).trans (Raster.bit_putBit_true b hset)

/-- Publishing an axis changes nothing but the objects. -/
theorem publishAxis_frame : c.publishAxis a = { c with objs := (c.publishAxis a).objs } := by
  unfold Core.publishAxis Core.wrI Core.wrU
  dsimp only
  rw [Ephemeris.wr_of_not_retained _ Obj.ax_STOP_DIST a 0 _ rfl, Ephemeris.wr_of_not_retained _ Obj.ax_SPEED a 0 _ rfl,
    Ephemeris.wr_of_not_retained _ Obj.ax_POS a 0 _ rfl]

/-- Publishing an axis leaves its flags. -/
theorem flags_publishAxis : (c.publishAxis a).rd Obj.ax_AX_FLAGS a 0 = c.rd Obj.ax_AX_FLAGS a 0 := by
  unfold Core.publishAxis Core.wrU
  dsimp only
  rw [Ephemeris.rd_wr_member _ _ _ (by decide), Ephemeris.rd_wrI_member _ _ _ (by decide), Ephemeris.rd_wrI_member _ _ _ (by decide)]

end Axes

/-! #### Marks (R322, R334) -/

section Marks
variable {c : Core} {f : Nat}

/-- The newest servo mark, in ns of FT. -/
def servoMark (c : Core) : Nat := c.ftNs / max 1 (c.rd0 Obj.SERVO_PERIOD) * c.rd0 Obj.SERVO_PERIOD

/-- The four set-point axes evaluated at a mark, in order, and their frames sent. -/
def servoServed (c : Core) (mark : Nat) : Core :=
  let u : Core := { c with mot := { c.mot with servo := some mark } }
  ((u.each [0, 1, 2, 3] (fun u a => u.evalAxis (mkRat mark 1000000000) a)).motionAfter).each [0, 1, 2, 3]
    (fun u a => u.sendSetpoint (mkRat mark 1000000000) (mkRat (c.rd0 Obj.SERVO_PERIOD) 1000000000) a)

/-- A servo tick whose mark is not yet served serves it. -/
theorem servoTick_of_due (hrun : c.running = true) (hdue : c.mot.servo.all (fun m => decide (m < servoMark c)) = true) :
    c.servoTick = servoServed c (servoMark c) := by
  refine if_pos ⟨hrun, ?_⟩
  cases hserved : c.mot.servo with
  | none => rfl
  | some m =>
    rw [hserved, Option.all_some] at hdue
    exact hdue

/-- A servo tick whose mark is served does nothing. -/
theorem servoTick_of_served (h : c.mot.servo = some (servoMark c)) : c.servoTick = c := by
  refine if_neg fun ⟨_, hdue⟩ => ?_
  rw [h] at hdue
  exact Nat.lt_irrefl _ (of_decide_eq_true hdue)

/-- A stepper axis takes in the first of the samples that is its own. -/
def tookSample (samples : List BridgeSample) (u : Core) (n : Nat) : Core :=
  match samples.find? (fun b => decide (b.st = n)) with
  | some b => u.sampled n b
  | none => u

/-- The stepper axes of a PWM frequency sampled, evaluated at boundary `k` and started on their next period. -/
def pwmServed (c : Core) (f : Nat) (samples : List BridgeSample) (k : Nat) : Core :=
  let l := (List.range 8).filter (fun n => decide (c.rd Obj.st_PWM_FREQ n 0 = f))
  let u : Core := { c with mot := { c.mot with pwm := Tab.set c.mot.pwm f k } }
  let v := u.each l (tookSample samples)
  ((v.each l (fun u n => u.evalAxis (mkRat (pwmAt f k) 1000000000) (4 + n))).motionAfter).each l Core.periodStart

/-- A PWM boundary not yet served serves its axes. -/
theorem pwmBoundary_of_due (hrun : c.running = true) (samples : List BridgeSample)
    (hdue : (Tab.get? c.mot.pwm f).all (fun j => decide (j < c.pwmIndex f)) = true) :
    c.pwmBoundary f samples = pwmServed c f samples (c.pwmIndex f) := by
  refine if_pos ⟨hrun, ?_⟩
  cases hserved : Tab.get? c.mot.pwm f with
  | none => rfl
  | some j =>
    rw [hserved, Option.all_some] at hdue
    exact hdue

/-- A PWM boundary that is served does nothing. -/
theorem pwmBoundary_of_served (samples : List BridgeSample) (h : Tab.get? c.mot.pwm f = some (c.pwmIndex f)) : c.pwmBoundary f samples = c := by
  refine if_neg fun ⟨_, hdue⟩ => ?_
  rw [h] at hdue
  exact Nat.lt_irrefl _ (of_decide_eq_true hdue)

end Marks

/-! #### Numbers of the profile generator -/

/-- The loop's root stays a lower bound of the square root. -/
theorem isqrtLoop_mul_self_le (n v : Nat) : ∀ {r : Nat}, r * r ≤ v → isqrtLoop n v r * isqrtLoop n v r ≤ v := by
  induction n with
  | zero => exact id
  | succ n ih =>
    intro r hr
    unfold isqrtLoop
    dsimp only
    split
    next hbit => exact ih hbit
    next => exact ih hr

theorem isqrt_mul_self_le (v : Nat) : isqrt v * isqrt v ≤ v := isqrtLoop_mul_self_le _ v (Nat.zero_le v)

section Numbers
variable {q : Rat}

/-- The root rounded down is no more than the root. -/
theorem sqrtRat_mul_self_le (hq : 0 ≤ q) : sqrtRat q * sqrtRat q ≤ q := by
  unfold sqrtRat
  split
  next => simpa using hq
  next hnum =>
    have hroot : ((isqrt (q.num.toNat * 2 ^ 80 / q.den) * isqrt (q.num.toNat * 2 ^ 80 / q.den) : Nat) : Rat) ≤ (q.num.toNat * 2 ^ 80 : Nat) / (q.den : Nat) :=
      (Nat.cast_le.mpr (isqrt_mul_self_le _)).trans Nat.cast_div_le
    have hvalue : (q.num.toNat : Rat) / q.den = q := by
      have hcast : ((q.num.toNat : Int) : Rat) = q.num := by rw [Int.toNat_of_nonneg (by omega)]
      rw [← Int.cast_natCast, hcast, Rat.num_div_den]
    rw [Rat.mkRat_eq_div]
    push_cast at hroot ⊢
    rw [mul_div_right_comm, hvalue] at hroot
    rw [div_mul_div_comm, div_le_iff₀ (by positivity)]
    exact hroot.trans_eq (by ring)

theorem absRat_eq_abs (q : Rat) : absRat q = |q| := by
  unfold absRat
  split
  next h => exact (abs_of_neg h).symm
  next h => exact (abs_of_nonneg (not_lt.mp h)).symm

theorem sgnRat_eq_sign (q : Rat) : sgnRat q = SignType.sign q := by
  unfold sgnRat
  split
  next h => simp [sign_neg h]
  next h =>
    split
    next h0 => simp [h0]
    next h0 => simp [sign_pos (lt_of_le_of_ne (not_lt.mp h) (Ne.symm h0))]

theorem sgnRat_mul_abs (q : Rat) : sgnRat q * |q| = q := by rw [sgnRat_eq_sign, sign_mul_abs]

theorem sgnRat_mul_self (q : Rat) : sgnRat q * q = |q| := by rw [sgnRat_eq_sign, sign_mul_self]

theorem sgnRat_eq_zero_iff : sgnRat q = 0 ↔ q = 0 :=
  ⟨fun h => by rw [← sgnRat_mul_abs q, h, zero_mul], fun h => by rw [h, sgnRat_eq_sign, sign_zero, SignType.coe_zero]⟩

theorem abs_sgnRat_le (q : Rat) : |sgnRat q| ≤ 1 := by
  rw [sgnRat_eq_sign]
  cases SignType.sign q <;> simp

end Numbers

/-! #### Ramps (R325, R327) -/

section Ramps
variable {v vT A J : Rat}

theorem velRamp_of_no_jerk (a : Rat) (hA : 0 < A) :
    velRamp v a vT A 0 = if v = vT then [] else [⟨sgnRat (vT - v) * A, 0, |vT - v| / A⟩] := by
  rw [velRamp, if_neg (not_le.mpr hA), if_pos le_rfl, absRat_eq_abs]

/-- The highest acceleration of a ramp with jerk from no acceleration: A where the change of speed is large enough to reach it. -/
def rampPeak (V A J : Rat) : Rat := if A * A ≤ J * V then A else sqrtRat (J * V)

/-- The segments that change the speed by V in the sense `dir`: the acceleration rises to its peak, holds it and falls from it again. -/
def jerkRamp (dir V ap J : Rat) : List Seg := [⟨0, dir * J, ap / J⟩, ⟨dir * ap, 0, (V - ap * ap / J) / ap⟩, ⟨dir * ap, -dir * J, ap / J⟩]

theorem velRamp_of_steady_same (hA : 0 < A) (hJ : 0 < J) : velRamp v 0 v A J = [] := by
  simp [velRamp, not_le.mpr hA, not_le.mpr hJ, sgnRat]

/-- A ramp with jerk from no acceleration rises to its peak, holds it and falls from it again. -/
theorem velRamp_of_steady (hA : 0 < A) (hJ : 0 < J) (hne : vT - v ≠ 0) :
    velRamp v 0 vT A J = if rampPeak |vT - v| A J ≤ 0 then [] else jerkRamp (sgnRat (vT - v)) |vT - v| (rampPeak |vT - v| A J) J := by
  have hreach : A * A / J ≤ |vT - v| ↔ A * A ≤ J * |vT - v| := div_le_iff₀' hJ
  have hroot : 2 * (J * |vT - v|) / 2 = J * |vT - v| := by ring
  unfold velRamp
  simp only [not_le.mpr hA, not_le.mpr hJ, if_false, zero_mul, zero_div, add_zero, mul_zero, sub_zero, sgnRat_eq_zero_iff, hne, sgnRat_mul_self,
    gt_iff_lt, not_lt.mpr hA.le, mul_assoc, mul_div_mul_left _ _ (two_ne_zero' Rat), hreach, hroot]
  rfl

/-- A change of speed with jerk from no acceleration has the segments of that ramp alone. -/
theorem mem_velRamp_of_steady (hA : 0 < A) (hJ : 0 < J) {g : Seg} (hg : g ∈ velRamp v 0 vT A J) :
    vT - v ≠ 0 ∧ 0 < rampPeak |vT - v| A J ∧ g ∈ jerkRamp (sgnRat (vT - v)) |vT - v| (rampPeak |vT - v| A J) J := by
  by_cases hne : vT - v = 0
  · rw [sub_eq_zero.mp hne, velRamp_of_steady_same hA hJ] at hg
    cases hg
  · rw [velRamp_of_steady hA hJ hne] at hg
    split at hg
    next => cases hg
    next hpos => exact ⟨hne, not_le.mp hpos, hg⟩

/-- The peak is no more than the limit. -/
theorem rampPeak_le (V : Rat) (hV : 0 ≤ V) (hA : 0 < A) (hJ : 0 < J) : rampPeak V A J ≤ A := by
  unfold rampPeak
  split
  next => exact le_rfl
  next hshort => exact nonneg_le_nonneg_of_sq_le_sq hA.le ((sqrtRat_mul_self_le (by positivity)).trans (not_le.mp hshort).le)

/-- No segment of the ramp exceeds the peak, nor the jerk. -/
theorem jerkRamp_limits {dir V ap : Rat} (hdir : |dir| ≤ 1) (hap : 0 ≤ ap) (hJ : 0 ≤ J) {g : Seg} (hg : g ∈ jerkRamp dir V ap J) :
    |g.a| ≤ ap ∧ |g.j| ≤ J := by
  have hscaled {q : Rat} (hq : 0 ≤ q) : |dir * q| ≤ q := by
    rw [abs_mul, abs_of_nonneg hq]
    exact mul_le_of_le_one_left hq hdir
  simp only [jerkRamp, List.mem_cons, List.not_mem_nil, or_false] at hg
  obtain rfl | rfl | rfl := hg
  · exact ⟨by simpa using hap, hscaled hJ⟩
  · exact ⟨hscaled hap, by simpa using hJ⟩
  · exact ⟨hscaled hap, by simpa only [neg_mul, abs_neg] using hscaled hJ⟩

/-- The ramp changes the speed by all of V, in its sense. -/
theorem segsSpeed_jerkRamp {dir V ap : Rat} (hap : ap ≠ 0) (hJ : J ≠ 0) : segsSpeed v (jerkRamp dir V ap J) = v + dir * V := by
  simp only [jerkRamp, segsSpeed]
  field_simp
  ring

/-- Without a jerk limit a change of speed keeps A and ends at just the speed asked for. -/
theorem velRamp_of_no_jerk_limits (a : Rat) (hA : 0 < A) :
    segsSpeed v (velRamp v a vT A 0) = vT ∧ ∀ g ∈ velRamp v a vT A 0, absRat g.a ≤ A ∧ g.j = 0 ∧ 0 ≤ g.dur := by
  rw [velRamp_of_no_jerk a hA]
  split
  next hsame => exact ⟨hsame, by simp⟩
  next =>
    refine ⟨?_, fun g hg => ?_⟩
    · have hspeed : sgnRat (vT - v) * A * (|vT - v| / A) = vT - v := by
        rw [mul_assoc, mul_div_cancel₀ _ hA.ne', sgnRat_mul_abs]
      simp only [segsSpeed, hspeed]
      ring
    · obtain rfl := List.mem_singleton.mp hg
      refine ⟨?_, rfl, by positivity⟩
      rw [absRat_eq_abs, abs_mul, abs_of_pos hA]
      exact mul_le_of_le_one_left hA.le (abs_sgnRat_le _)

/-- With one, from no acceleration, it keeps A and J. -/
theorem velRamp_of_steady_limits (hA : 0 < A) (hJ : 0 < J) {g : Seg} (hg : g ∈ velRamp v 0 vT A J) : absRat g.a ≤ A ∧ absRat g.j ≤ J := by
  obtain ⟨-, hpos, hmem⟩ := mem_velRamp_of_steady hA hJ hg
  obtain ⟨hacc, hjerk⟩ := jerkRamp_limits (abs_sgnRat_le _) hpos.le hJ.le hmem
  rw [absRat_eq_abs, absRat_eq_abs]
  exact ⟨hacc.trans (rampPeak_le _ (abs_nonneg _) hA hJ), hjerk⟩

/-- Where A is reached the speed asked for is met exactly. -/
theorem segsSpeed_velRamp_of_reached (hA : 0 < A) (hJ : 0 < J) (h : A * A ≤ J * |vT - v|) : segsSpeed v (velRamp v 0 vT A J) = vT := by
  have hne : vT - v ≠ 0 := fun h0 => by
    rw [h0, abs_zero, mul_zero] at h
    exact absurd h (not_le.mpr (mul_pos hA hA))
  have hpeak : rampPeak |vT - v| A J = A := if_pos h
  rw [velRamp_of_steady hA hJ hne, hpeak, if_neg (not_le.mpr hA), segsSpeed_jerkRamp hA.ne' hJ.ne', sgnRat_mul_abs]
  ring

end Ramps


/-! #### Drive Link (R336) -/

section DriveLink
variable {c : Core} {d : Nat} {b : List Byte} {e : Bool}

theorem driveStatus_of_unawaited (h : c.armed .drive d = false) : c.driveStatus d b e = c :=
  if_pos (.inr (.inr (by simp [h])))

theorem driveStatus_of_unsound (hrun : c.running = true) (hd : d < 4) (ha : c.armed .drive d = true) (h : c.statusValid d b e = false) :
    c.driveStatus d b e = c.statusMissed d := by
  unfold Core.driveStatus
  rw [if_neg (by simp [hrun, ha, hd]), if_pos (by simp [h])]

/-- What a sound STATUS stores, and the inputs and the fault it reports. -/
def statusTaken (c : Core) (d : Nat) (b : List Byte) : Core :=
  let t := ((c.updAxis d (fun x => { x with missed := 0 })).disarm .drive d).level (1476 + d) 0 false
  let u := ((t.wrI Obj.dl_ACT_POS d 0 (signedOf 64 (leAt b 4 8))).wr Obj.dl_DL_FLAGS d 0 (leAt b 1 1)).wr Obj.dl_FAULT_CODE d 0 (leAt b 16 2)
  let v := (u.homeInput d (bit (leAt b 1 1) 3)).limInput d (bit (leAt b 1 1) 4)
  if bit (leAt b 1 1) 2 then v.occur (1480 + d) 0 else v

/-- The following error: the drive's position against the set-point of the frame before the last. -/
def followChecked (w : Core) (d : Nat) (pos : Int) : Core :=
  match (w.axis d).sent with
  | [_, prev] => if 0 < w.rd Obj.dl_FOLLOW_MAX d 0 ∧ (pos - prev).natAbs > w.rd Obj.dl_FOLLOW_MAX d 0 * 65536 then w.occur (1484 + d) 0 else w
  | _ => w

theorem driveStatus_of_sound (hrun : c.running = true) (hd : d < 4) (ha : c.armed .drive d = true) (h : c.statusValid d b e = true) :
    c.driveStatus d b e = (followChecked (statusTaken c d b) d (signedOf 64 (leAt b 4 8))).motionAfter := by
  unfold Core.driveStatus
  rw [if_neg (by simp [hrun, ha, hd]), if_neg (by simp [h])]
  rfl

theorem followChecked_of_unchecked {w : Core} (pos : Int) (h : w.rd Obj.dl_FOLLOW_MAX d 0 = 0 ∨ (w.axis d).sent.length ≠ 2) : followChecked w d pos = w := by
  unfold followChecked
  split
  next hsent =>
    rw [if_neg]
    rintro ⟨hmax, -⟩
    obtain h | h := h
    · omega
    · simp [hsent] at h
  next => rfl

theorem followChecked_of_checked {w : Core} (pos : Int) {p q : Int} (hmax : 0 < w.rd Obj.dl_FOLLOW_MAX d 0) (h : (w.axis d).sent = [p, q]) :
    followChecked w d pos = if (pos - q).natAbs > w.rd Obj.dl_FOLLOW_MAX d 0 * 65536 then w.occur (1484 + d) 0 else w := by
  simp only [followChecked, h, hmax, true_and]

theorem driveStatusMissing_of_running (hrun : c.running = true) (hd : d < 4) :
    c.driveStatusMissing d = if c.due .drive d = true then c.statusMissed d else c := by
  simp only [Core.driveStatusMissing, hrun, hd, true_and]

/-! What a missed STATUS changes: the axis's count, the counter, and the deadline. -/

theorem missed_statusMissed : ((c.statusMissed d).axis d).missed = (c.axis d).missed + 1 :=
  congrArg Axis.missed ((axis_congr (inc_mot ..) d).trans (axis_updAxis c d _))

theorem axis_statusMissed_ne {a : Nat} (h : a ≠ d) : (c.statusMissed d).axis a = c.axis a :=
  (axis_congr (inc_mot ..) a).trans (axis_updAxis_ne c d _ h)

theorem count_statusMissed : (c.statusMissed d).rd Obj.dl_DL_MISSED d 0 = (c.rd Obj.dl_DL_MISSED d 0 + 1) % 2 ^ 32 := Dma.rd_inc ..

theorem rd_statusMissed_ne (o : Ob) (i j : Nat) (h : o.key i j ≠ Obj.dl_DL_MISSED.key d 0) : (c.statusMissed d).rd o i j = c.rd o i j :=
  Dma.rd_inc_ne _ _ Obj.dl_DL_MISSED _ _ _ _ _ h

/-- Three missed in a row and DL_LINK not yet active. -/
structure LinkFails (c : Core) (d : Nat) : Prop where
  running : c.running = true
  drive : d < 4
  missed : 3 ≤ (c.axis d).missed
  fresh : (c.srcRec (1476 + d)).active = false

theorem dlLink_of_enabled (h : LinkFails c d) (hon : c.axSt d ≠ axDisabled) (hheld : c.axSt d ≠ axSafeHeld) :
    c.dlLink d = (((c.enterStop d axFaulted (1476 + d)).updAxis d (fun x => { x with plan := .stop })).level (1476 + d) 0 true).motionAfter := by
  unfold Core.dlLink
  rw [if_pos ⟨h.running, h.drive, h.missed, by simp [h.fresh]⟩]
  dsimp only
  rw [if_pos ⟨hon, hheld⟩]

theorem dlLink_of_disabled (h : LinkFails c d) (hoff : c.axSt d = axDisabled ∨ c.axSt d = axSafeHeld) :
    c.dlLink d = ((c.setAxFlag d 0 false).level (1476 + d) 0 true).motionAfter := by
  unfold Core.dlLink
  rw [if_pos ⟨h.running, h.drive, h.missed, by simp [h.fresh]⟩]
  dsimp only
  rw [if_neg fun ⟨hon, hheld⟩ => hoff.elim hon hheld]

theorem dlLink_of_holding (h : (c.axis d).missed < 3 ∨ (c.srcRec (1476 + d)).active = true) : c.dlLink d = c :=
  if_neg fun ⟨_, _, hmissed, hfresh⟩ => by
    obtain h | h := h
    · omega
    · simp [h] at hfresh

end DriveLink

/-! #### The inputs of the stepper axes (R323, R329, R589) -/

section Inputs
variable {c : Core} {a : Nat}

/-- The edge a HOME run searched for: the coordinate shifts by `d` under the motor, the axis stops and is HOMED. -/
def homeFound (c : Core) (a : Nat) (d : Rat) : Core :=
  ((c.setAxis a { c.axis a with x := (c.axis a).x + d, off := (c.axis a).off - d, home := 2, plan := .stop }).setAxFlag a 0 true).publishAxis a

theorem homeEdge_of_searching (hst : c.axSt a = axHoming) (hhome : (c.axis a).home = 1) :
    c.homeEdge a = homeFound c a (c.rdI Obj.ax_HOME_POS a 0 - roundPos (isStepper a) (c.axis a).x) := if_pos ⟨hst, hhome⟩

theorem homeEdge_of_idle (h : c.axSt a ≠ axHoming ∨ (c.axis a).home ≠ 1) : c.homeEdge a = c :=
  if_neg fun ⟨hst, hhome⟩ => h.elim (· hst) (· hhome)

theorem homeFound_frame (d : Rat) : homeFound c a d = { c with objs := (homeFound c a d).objs, mot := (homeFound c a d).mot } := by
  unfold homeFound
  rw [publishAxis_frame, setAxFlag_frame]
  rfl

theorem axis_homeFound (d : Rat) (i : Nat) :
    (homeFound c a d).axis i = (c.setAxis a { c.axis a with x := (c.axis a).x + d, off := (c.axis a).off - d, home := 2, plan := .stop }).axis i := by
  unfold homeFound
  rw [publishAxis_frame]
  exact axis_setAxFlag _ a 0 i true

/-- The edge sets HOMED and leaves the flag of the input. -/
theorem flags_homeFound (d : Rat) (h : bit (c.rd Obj.ax_AX_FLAGS a 0) 2 = true) :
    bit ((homeFound c a d).rd Obj.ax_AX_FLAGS a 0) 0 = true ∧ bit ((homeFound c a d).rd Obj.ax_AX_FLAGS a 0) 2 = true := by
  unfold homeFound
  rw [flags_publishAxis]
  exact ⟨bit_setAxFlag _ a (by decide), bit_setAxFlag_of_set 0 (by decide) h⟩

theorem homeInput_of_first (h : bit (c.rd Obj.ax_AX_FLAGS a 0) 2 = false) : c.homeInput a true = (c.setAxFlag a 2 true).homeEdge a := by
  unfold Core.homeInput
  dsimp only
  rw [if_pos ⟨rfl, by simp [h]⟩]

theorem homeInput_of_repeated (h : bit (c.rd Obj.ax_AX_FLAGS a 0) 2 = true) : c.homeInput a true = c.setAxFlag a 2 true := by
  unfold Core.homeInput
  dsimp only
  rw [if_neg (by simp [h])]

theorem homeInput_of_inactive : c.homeInput a false = c.setAxFlag a 2 false := by
  unfold Core.homeInput
  dsimp only
  rw [if_neg (by simp)]

/-- The first active edge of HOME in a search. -/
theorem homeInput_of_searching (h : bit (c.rd Obj.ax_AX_FLAGS a 0) 2 = false) (hst : c.axSt a = axHoming) (hhome : (c.axis a).home = 1) :
    c.homeInput a true = homeFound (c.setAxFlag a 2 true) a (c.rdI Obj.ax_HOME_POS a 0 - roundPos (isStepper a) (c.axis a).x) := by
  rw [homeInput_of_first h, homeEdge_of_searching (by rwa [axSt_setAxFlag]) (by rwa [axis_setAxFlag]), homePos_setAxFlag, axis_setAxFlag]

/-- Any other active level of HOME sets its flag alone. -/
theorem homeInput_of_not_searching (h : bit (c.rd Obj.ax_AX_FLAGS a 0) 2 = true ∨ c.axSt a ≠ axHoming ∨ (c.axis a).home ≠ 1) :
    c.homeInput a true = c.setAxFlag a 2 true := by
  cases hflag : bit (c.rd Obj.ax_AX_FLAGS a 0) 2 with
  | true => exact homeInput_of_repeated hflag
  | false =>
    have hidle : c.axSt a ≠ axHoming ∨ (c.axis a).home ≠ 1 := h.resolve_left (by simp [hflag])
    rw [homeInput_of_first hflag, homeEdge_of_idle (by simpa using hidle)]

/-! #### The hold delay (R340) -/

variable {n : Nat}

theorem holdExpiry_of_resting (hrun : c.running = true) (hn : n < 8) (hdue : c.due .holdDelay n = true) (hst : c.axSt (4 + n) = axIdle)
    (hdone : c.axisDone (4 + n) = true) : c.holdExpiry n = (c.disarm .holdDelay n).updAxis (4 + n) (fun x => { x with hold := true }) := by
  unfold Core.holdExpiry
  rw [if_pos ⟨hrun, hn, hdue⟩]
  exact if_pos ⟨hst, hdone⟩

theorem holdExpiry_of_moving (hrun : c.running = true) (hn : n < 8) (hdue : c.due .holdDelay n = true)
    (h : c.axSt (4 + n) ≠ axIdle ∨ c.axisDone (4 + n) = false) : c.holdExpiry n = c.disarm .holdDelay n := by
  unfold Core.holdExpiry
  rw [if_pos ⟨hrun, hn, hdue⟩]
  refine if_neg fun ⟨hst, hdone⟩ => h.elim (· hst) fun hbusy => ?_
  exact Bool.false_ne_true (hbusy.symm.trans hdone)

theorem holdExpiry_of_not_due (h : c.due .holdDelay n = false) : c.holdExpiry n = c :=
  if_neg fun ⟨_, _, hdue⟩ => Bool.false_ne_true (h.symm.trans hdue)

end Inputs

/-! #### Faults of the stepper outputs (R343 to R346) -/

section StepperFaults
variable {c : Core} {n : Nat}

theorem phaseOpen_of_failed (hrun : c.running = true) (hn : n < 8) (hruns : c.axRuns (4 + n) = true)
    (h : 8 ≤ (c.axis (4 + n)).openA ∨ 8 ≤ (c.axis (4 + n)).openB) :
    c.phaseOpen n =
      (((((c.freeze (4 + n)).enterStop (4 + n) axBraked (1452 + n)).wr Obj.st_CUR_MODE n 0 0).bridge n).occur (1452 + n) 0).motionAfter :=
  if_pos ⟨hrun, hn, hruns, h⟩

theorem phaseOpen_of_few (hA : (c.axis (4 + n)).openA < 8) (hB : (c.axis (4 + n)).openB < 8) : c.phaseOpen n = c :=
  if_neg fun ⟨_, _, _, h⟩ => by omega

/-- The instant of the reference test is noted. -/
def senseTested (c : Core) (n : Nat) : Core := { c with mot := { c.mot with sense := Tab.set c.mot.sense n c.clk } }

theorem senseTest_of_due (ra rb : Nat) (hrun : c.running = true) (hn : n < 8)
    (hdue : (Tab.get? c.mot.sense n).all (fun t => decide (t + us (c.rd Obj.st_SENSE_TEST_PERIOD n 0) ≤ c.clk)) = true) :
    c.senseTest n ra rb = if (senseTested c n).refReads n ra ∧ (senseTested c n).refReads n rb then senseTested c n else (senseTested c n).senseFail n := by
  refine if_pos ⟨hrun, hn, ?_⟩
  cases hlast : Tab.get? c.mot.sense n with
  | none => rfl
  | some t =>
    rw [hlast, Option.all_some] at hdue
    exact hdue

/-- Current sensing that fails puts a running axis in quiet mode on its STOP ramp. -/
theorem senseFail_of_running (hruns : c.axRuns (4 + n) = true) :
    c.senseFail n = ((((c.enterStop (4 + n) axFallback (1460 + n)).updAxis (4 + n) (fun x => { x with plan := .stop, strongBarred := true, micro := none })).wr
      Obj.st_CUR_MODE n 0 0).occur (1460 + n) 0).motionAfter := by
  unfold Core.senseFail
  dsimp only
  rw [if_pos hruns]

theorem senseImplausible_of_failed (hrun : c.running = true) (hn : n < 8) (hruns : c.axRuns (4 + n) = true)
    (h : 4 ≤ (c.axis (4 + n)).implA ∨ 4 ≤ (c.axis (4 + n)).implB) : c.senseImplausible n = c.senseFail n :=
  if_pos ⟨hrun, hn, hruns, h⟩

theorem senseImplausible_of_few (hA : (c.axis (4 + n)).implA < 4) (hB : (c.axis (4 + n)).implB < 4) : c.senseImplausible n = c :=
  if_neg fun ⟨_, _, _, h⟩ => by omega

theorem desaturation_of_enabled {g : Nat} (hrun : c.running = true) (hn : n < 8) (hg : g < 8) (hon : c.axSt (4 + n) ≠ axDisabled) :
    c.desaturation n g = ((c.gatesOff n (1468 + n)).occur (1468 + n) 0).motionAfter := if_pos ⟨hrun, hn, hg, hon⟩

theorem desaturation_of_disabled (g : Nat) (h : c.axSt (4 + n) = axDisabled) : c.desaturation n g = c :=
  if_neg fun ⟨_, _, _, hon⟩ => hon h

theorem vdrvLow_of_running (hrun : c.running = true) :
    c.vdrvLow = ((c.each ((List.range 8).filter (fun n => decide (c.axSt (4 + n) ≠ axDisabled))) (fun t n => t.gatesOff n 1488)).level 1488 0 true).motionAfter :=
  if_pos hrun

variable (high : Bool)

theorem vbusFault_of_long (hrun : c.running = true) (hn : n < 8) (h : 3 ≤ if high then (c.axis (4 + n)).ovRun else (c.axis (4 + n)).uvRun) :
    c.vbusFault n high = (c.level ((if high then 1497 else 1489) + n) 0 true).motionAfter := if_pos ⟨hrun, hn, h⟩

theorem vbusFault_of_short (h : (if high then (c.axis (4 + n)).ovRun else (c.axis (4 + n)).uvRun) < 3) : c.vbusFault n high = c :=
  if_neg fun ⟨_, _, hlong⟩ => Nat.not_le.mpr h hlong

end StepperFaults

/-! #### The statements -/

/-- Settles O31: a mark is served where it is due and only there; the ramps are those without a jerk limit and those from no acceleration. -/
theorem axesAreEvaluatedAtTheirMarks : Obligations.AxesAreEvaluatedAtTheirMarks := by
  unfold Obligations.AxesAreEvaluatedAtTheirMarks
  refine ⟨fun s dt f samples => ?_, fun v a vT A J hA => ⟨velRamp_of_no_jerk_limits a hA, fun hJ => ⟨?_, ?_⟩⟩⟩
  · intro c P mark k hrun
    have htick : Does (.servoTick dt) s c.servoTick := does_servoTick s dt
    have hboundary : Does (.pwmBoundary dt f samples) s (c.pwmBoundary f samples) := does_pwmBoundary s dt f samples
    refine ⟨fun hdue => ?_, fun hdue => ?_, fun hserved => ?_, fun hserved => ?_⟩
    · rwa [servoTick_of_due hrun hdue] at htick
    · rwa [pwmBoundary_of_due hrun samples hdue] at hboundary
    · rwa [servoTick_of_served hserved] at htick
    · rwa [pwmBoundary_of_served samples hserved] at hboundary
  · exact fun g hg => velRamp_of_steady_limits hA hJ hg
  · rw [absRat_eq_abs]
    exact segsSpeed_velRamp_of_reached hA hJ

/-- Settles O32, from what a STATUS does as it is awaited and sound, and what three missed in a row do. -/
theorem driveLinkIsWatched : Obligations.DriveLinkIsWatched := by
  unfold Obligations.DriveLinkIsWatched
  intro s dt d b e c hrun hd
  have hstatus : Does (.driveStatus dt d b e) s (c.driveStatus d b e) := does_driveStatus s dt d b e
  have hmissing : Does (.driveStatusMissing dt d) s (c.driveStatusMissing d) := does_driveStatusMissing s dt d
  have hlink : Does (.dlLink dt d) s (c.dlLink d) := does_dlLink s dt d
  refine ⟨?_, ?_, ?_, ⟨?_, ?_, missed_statusMissed, count_statusMissed, fun a => axis_statusMissed_ne, rd_statusMissed_ne⟩, ?_, ?_, ?_⟩
  · intro hidle
    rwa [driveStatus_of_unawaited hidle] at hstatus
  · intro harmed hbad
    rwa [driveStatus_of_unsound hrun hd harmed hbad] at hstatus
  · rwa [driveStatusMissing_of_running hrun hd, apply_ite (Does (.driveStatusMissing dt d) s)] at hmissing
  · exact inc_chans ..
  · exact inc_src ..
  · intro hmissed hfresh
    have hfails : LinkFails c d := ⟨hrun, hd, hmissed, hfresh⟩
    refine ⟨fun hon hheld => ?_, fun hoff => ?_⟩
    · rwa [dlLink_of_enabled hfails hon hheld] at hlink
    · rwa [dlLink_of_disabled hfails hoff] at hlink
  · intro hholds
    rwa [dlLink_of_holding hholds] at hlink
  · intro harmed hsound pos t u v w
    rw [driveStatus_of_sound hrun hd harmed hsound] at hstatus
    refine ⟨fun hunchecked => ?_, fun p q hmax hsent => ?_⟩
    · rwa [followChecked_of_unchecked (w := statusTaken c d b) _ hunchecked] at hstatus
    · rwa [followChecked_of_checked (w := statusTaken c d b) _ hmax hsent] at hstatus

/-- Settles O33, from what a HOME input does in a search and elsewhere, and what the hold delay's end does at rest and elsewhere. -/
theorem axisInputsTakeEffect : Obligations.AxisInputsTakeEffect := by
  unfold Obligations.AxisInputsTakeEffect
  intro s dt a c x pol hrun hlo hhi
  have hactive : Does (.homeEdge dt a pol) s (c.homeInput a true) := by
    have answer := does_homeEdge hrun hlo hhi pol
    rwa [beq_self_eq_true] at answer
  have hinactive : Does (.homeEdge dt a (!pol)) s (c.homeInput a false) := by
    have answer := does_homeEdge hrun hlo hhi (!pol)
    rwa [Bool.not_beq_self] at answer
  have haxis : 4 + (a - 4) = a := by omega
  have hhold : Does (.holdDelayExpiry dt (a - 4)) s (c.holdExpiry (a - 4)) := does_holdDelayExpiry s dt (a - 4)
  have hstep : a - 4 < 8 := by omega
  refine ⟨?_, ?_, ?_, does_limActive hrun hlo hhi, does_limInactive hrun hlo hhi, ?_, ?_, ?_⟩
  · intro hflag hst hhome
    rw [homeInput_of_searching hflag hst hhome] at hactive
    obtain ⟨hhomed, hinput⟩ := flags_homeFound (c := c.setAxFlag a 2 true) (a := a)
      (c.rdI Obj.ax_HOME_POS a 0 - roundPos (isStepper a) (c.axis a).x) (bit_setAxFlag c a (by decide))
    refine ⟨_, hactive, ?_, ?_, ?_, ?_, hhomed, hinput, fun i hi => ?_, ?_⟩
    · simp only [axis_homeFound, axis_setAxis, axis_setAxFlag]
      ring
    · simp only [axis_homeFound, axis_setAxis]
    · simp only [axis_homeFound, axis_setAxis]
    · simp only [axis_homeFound, axis_setAxis, axis_setAxFlag, isStepper, hlo, decide_true]
      rfl
    · rw [axis_homeFound, axis_setAxis_ne _ _ _ hi, axis_setAxFlag]
    · rw [homeFound_frame, setAxFlag_frame]
  · intro h
    rwa [homeInput_of_not_searching h] at hactive
  · rwa [homeInput_of_inactive] at hinactive
  · intro hdue hst hdone
    rw [holdExpiry_of_resting hrun hstep hdue (by rwa [haxis]) (by rwa [haxis]), haxis] at hhold
    refine ⟨_, hhold, ?_, fun i hi => axis_updAxis_ne _ a _ hi, rfl, rfl⟩
    rw [axis_updAxis]
  · intro hdue h
    rwa [holdExpiry_of_moving hrun hstep hdue (by rwa [haxis])] at hhold
  · intro hdue
    rwa [holdExpiry_of_not_due hdue] at hhold

/-- Settles O34, fault by fault from what each does at its limit and below it. -/
theorem stepperFaultsStopTheirAxis : Obligations.StepperFaultsStopTheirAxis := by
  unfold Obligations.StepperFaultsStopTheirAxis
  intro s dt n c hrun hn
  have hopen : Does (.phaseOpen dt n) s (c.phaseOpen n) := does_phaseOpen s dt n
  have htest (ra rb : Nat) : Does (.senseReferenceTest dt n ra rb) s (c.senseTest n ra rb) := does_senseReferenceTest s dt n ra rb
  have himplausible : Does (.sensePlausibilityFail dt n) s (c.senseImplausible n) := does_sensePlausibilityFail s dt n
  have hdesat (g : Nat) : Does (.desaturation dt n g) s (c.desaturation n g) := does_desaturation s dt n g
  have hvdrv : Does (.vdrvUndervoltage dt) s c.vdrvLow := does_vdrvUndervoltage s dt
  have hvbus (high : Bool) : Does (.vbusFault dt n high) s (c.vbusFault n high) := does_vbusFault s dt n high
  refine ⟨fun hruns hfailed => ?_, fun ra rb hdue => ?_, fun hruns hfailed => ?_, fun g hg hon => ?_, ?_, fun hlong => ?_, fun hlong => ?_,
    fun hA hB => ?_, fun hA hB => ?_, fun hshort => ?_, fun hshort => ?_, fun g hoff => ?_⟩
  · rwa [phaseOpen_of_failed hrun hn hruns hfailed] at hopen
  · have answer := htest ra rb
    rwa [senseTest_of_due ra rb hrun hn hdue] at answer
  · rwa [senseImplausible_of_failed hrun hn hruns hfailed, senseFail_of_running hruns] at himplausible
  · exact desaturation_of_enabled hrun hn hg hon ▸ hdesat g
  · rwa [vdrvLow_of_running hrun] at hvdrv
  · exact vbusFault_of_long true hrun hn hlong ▸ hvbus true
  · exact vbusFault_of_long false hrun hn hlong ▸ hvbus false
  · rwa [phaseOpen_of_few hA hB] at hopen
  · rwa [senseImplausible_of_few hA hB] at himplausible
  · exact vbusFault_of_short true hshort ▸ hvbus true
  · exact vbusFault_of_short false hshort ▸ hvbus false
  · exact desaturation_of_disabled g hoff ▸ hdesat g

end Sys2Proof.Proofs.Motion

/-! ### Proofs: the block as a whole -/

namespace Sys2Proof.Proofs.Block
open Sys2Proof Sys2Proof.Machine

/-! #### Steps -/

/-- A command that may change memory answers, whatever memory holds, and leaves the queue: each lifts an operation on core and memory, one by one. -/
theorem doesBoth_of_mayWriteMemory {i : Instr} (s : State) (h : Instr.mayWriteMemory i = true) : ∃ k m, DoesBoth i s k m := by
  cases i <;> cases h <;> exact ⟨_, _, rfl⟩

/-- What a command answers may be named in another way. -/
theorem does_of_eq {i : Instr} {s : State} {k k' : Core} (h : Does i s k) (e : k = k') : Does i s k' := e ▸ h

/-! #### The statements -/

/-- Settles O1: both halves are the two cases of a step. -/
theorem stepRunsTheFrontCommand : Obligations.StepRunsTheFrontCommand := by
  unfold Obligations.StepRunsTheFrontCommand
  refine ⟨fun s c => rfl, fun s hempty => ?_⟩
  unfold step
  rw [hempty]

/-- Settles O2: a request of a host, a command that may change memory and any other each answer, and the last change the core alone. -/
theorem everyCommandCompletes : Obligations.EveryCommandCompletes := by
  unfold Obligations.EveryCommandCompletes
  intro i s
  cases hhost : Instr.isHostRequest i with
  | true =>
    obtain ⟨dt, x, e, b, hrequest⟩ := Canonical.exec_of_isHostRequest s hhost
    exact ⟨_, hrequest, rfl, fun h => by cases h⟩
  | false =>
    cases hwrites : Instr.mayWriteMemory i with
    | true =>
      obtain ⟨k, m, hboth⟩ := doesBoth_of_mayWriteMemory s hwrites
      exact ⟨_, hboth, rfl, fun _ h => by cases h⟩
    | false =>
      obtain ⟨k, hcore⟩ := Canonical.does_of_not_mayWriteMemory s hhost hwrites
      exact ⟨_, hcore, rfl, fun _ _ => rfl⟩

/-- Settles O3: each part is read off the state at reset, those of ports, axes and banks one number after another. -/
theorem resetIsAPowerOn : Obligations.ResetIsAPowerOn := by
  unfold Obligations.ResetIsAPowerOn
  have hlink : ∀ p < 64, State.reset.core.link p = lkOff := by decide
  have hax : ∀ a < 12, State.reset.core.axSt a = axDisabled := by decide
  have hbank : ∀ b < 50, State.reset.core.rd Obj.SB_OWNER 0 b = bankOwnerAtReset b ∧ State.reset.core.rd Obj.SB_STATE 0 b = b2n (bankOwnerAtReset b ≠ 0) := by
    decide
  exact ⟨rfl, rfl, rfl, rfl, rfl, rfl, rfl, rfl, rfl, rfl, rfl, rfl, rfl, rfl, rfl, hlink, hax, hbank⟩

end Sys2Proof.Proofs.Block

/-! ### Proofs: what no occurrence touches (ch. 19) -/

namespace Sys2Proof.Proofs.Lasting
open Sys2Proof Sys2Proof.Machine Sys2Proof.Laws

/-- What an occurrence leaves, whatever its reaction: the ring's own state, the node's number, programmed keys, the journal, the clock. -/
def lasting (c : Core) : Ring × Nat × Tab (List Byte) × Tab (List Byte) × List JRec × Nat :=
  (c.ring, c.rd0 Obj.NODE_ID, c.roleKeys, c.slotKeys, c.journal, c.clk)

/-- It is read off a few fields. -/
theorem lasting_of_fields {c t : Core} (hring : t.ring = c.ring) (hobjs : t.objs = c.objs) (hrole : t.roleKeys = c.roleKeys) (hslot : t.slotKeys = c.slotKeys)
    (hjournal : t.journal = c.journal) (hclk : t.clk = c.clk) : lasting t = lasting c := by
  rw [lasting, hring, Core.rd0, rd_congr t c _ _ _ hobjs, hrole, hslot, hjournal, hclk]
  rfl

section Stores
variable (c : Core) {o : Ob} {i j : Nat}

/-- An object above the ring's own record is not NODE_ID. -/
theorem node_ne_of_above (h : Obj.NODE_ID.idx < o.idx) : Obj.NODE_ID.key 0 0 ≠ o.key i j := by
  have hidx : 32768 < o.idx := h
  have hkey : Obj.NODE_ID.key 0 0 = (32768 * 65536 + 1) * 65536 := rfl
  have hstride : 0 ≤ o.stride * i := Nat.zero_le _
  rw [hkey]
  unfold Ob.key
  split <;> omega

/-- Nor is one below it. -/
theorem node_ne_of_below (h : ¬ 1 < o.nel ∧ o.sub + j < 65536) (hidx : o.idx + o.stride * i < Obj.NODE_ID.idx) : Obj.NODE_ID.key 0 0 ≠ o.key i j :=
  Dma.key_ne_of_index ⟨by decide, h.1, by decide, h.2⟩ (by simp only [Nat.mul_zero, Nat.add_zero]; omega)

theorem lasting_wr (v : Nat) (h : Obj.NODE_ID.key 0 0 ≠ o.key i j) : lasting (c.wr o i j v) = lasting c := by
  simp only [lasting, Core.rd0, rd_wr_ne _ _ _ _ _ _ _ _ h, wr_ring, wr_roleKeys, wr_slotKeys, wr_journal, wr_clk]

theorem lasting_inc (n : Nat) (h : Obj.NODE_ID.key 0 0 ≠ o.key i j) : lasting (c.inc o i j n) = lasting c :=
  lasting_wr (c.bump (o.key i j) n) _ h

/-- The end of an action changes completion status alone. -/
@[simp] theorem lasting_endComp (ok : Bool) : lasting (c.endComp o i j ok) = lasting c := by
  obtain h | ⟨-, h⟩ := endComp_cases c o i j ok
  · rw [h]
  · rw [h]; rfl

theorem lasting_foldl {α : Type} {f : Core → α → Core} (l : List α) (h : ∀ t, ∀ x ∈ l, lasting (f t x) = lasting t) : lasting (l.foldl f c) = lasting c := by
  induction l generalizing c with
  | nil => rfl
  | cons x l ih => exact (ih _ fun t y hy => h t y (List.mem_cons_of_mem x hy)).trans (h c x List.mem_cons_self)

theorem lasting_each {f : Core → Nat → Core} (l : List Nat) (h : ∀ t, ∀ x ∈ l, lasting (f t x) = lasting t) : lasting (c.each l f) = lasting c :=
  lasting_foldl c l h

theorem lasting_ite {P : Prop} [Decidable P] {t u : Core} (ht : lasting t = lasting c) (hu : lasting u = lasting c) : lasting (if P then t else u) = lasting c := by
  split
  · exact ht
  · exact hu

end Stores

/-! #### Events and the log -/

section Log
variable (c : Core)

@[simp] theorem lasting_pushEvent (h : Nat) (e : EventRec) : lasting (c.pushEvent h e) = lasting c := by
  have hlost : ∀ t : Core, lasting (t.inc0 Obj.EVENTS_LOST) = lasting t := fun t => lasting_inc t 1 (by decide)
  unfold Core.pushEvent
  refine lasting_ite c (lasting_ite c ?_ ?_) rfl
  · exact hlost { c with sess := _ }
  · exact hlost { c with sess := _ }

@[simp] theorem lasting_event (m : Option Nat) (code a b : Nat) : lasting (c.event m code a b) = lasting c :=
  lasting_foldl c _ fun t _ _ => lasting_ite t (lasting_pushEvent t _ _) rfl

@[simp] theorem lasting_addLog (source kind cls reaction info repeats flags : Nat) : lasting (c.addLog source kind cls reaction info repeats flags) = lasting c :=
  lasting_wr c (o := Obj.LOG_SEQ) _ (by decide)

@[simp] theorem lasting_setMode (m : Mode) : lasting (c.setMode m) = lasting c :=
  ((lasting_addLog _ _ _ _ _ _ _ _).trans (lasting_event _ _ _ _ _)).trans (lasting_wr { c with mode := m } (o := Obj.MODE_T_NS) _ (by decide))

end Log

/-! #### Axes -/

section Axes
variable (c : Core) {a : Nat}

@[simp] theorem lasting_failMove (a : Nat) : lasting (c.failMove a) = lasting c := lasting_endComp _ _

theorem lasting_setAxSt (st : Nat) (ha : a < 12) : lasting (c.setAxSt a st) = lasting c :=
  lasting_wr c st (node_ne_of_below (by decide) (by simp only [Obj.ax_AX_STATE, Obj.NODE_ID]; omega))

theorem lasting_setAxFlag (b : Nat) (v : Bool) (ha : a < 12) : lasting (c.setAxFlag a b v) = lasting c :=
  lasting_wr c _ (node_ne_of_below (by decide) (by simp only [Obj.ax_AX_FLAGS, Obj.NODE_ID]; omega))

theorem lasting_startStop (ha : a < 12) : lasting (c.startStop a) = lasting c :=
  (lasting_setAxSt ((c.failMove a).updAxis a _) _ ha).trans (lasting_failMove c a)

@[simp] theorem lasting_groupStop (g : Nat) : lasting (c.groupStop g) = lasting c := by
  refine lasting_each c (c.members g) fun t a ha => ?_
  have hlow : a < 12 := List.mem_range.mp (List.mem_of_mem_filter ha)
  exact lasting_ite t (lasting_ite t (lasting_setAxSt t _ hlow) (lasting_startStop t hlow)) rfl

@[simp] theorem lasting_stopPrintGroups : lasting c.stopPrintGroups = lasting c := lasting_each c _ fun t g _ => lasting_groupStop t g

@[simp] theorem lasting_stopMoving (skip : Nat → Bool) : lasting (c.stopMoving skip) = lasting c :=
  lasting_each c _ fun t _ ha => lasting_ite t (lasting_startStop t (List.mem_range.mp (List.mem_of_mem_filter ha))) rfl

theorem lasting_safeRampAxis (ha : a < 12) : lasting (c.safeRampAxis a) = lasting c := by
  unfold Core.safeRampAxis
  refine lasting_ite c rfl (((lasting_setAxSt _ _ ha).trans (lasting_setAxFlag _ _ _ ha)).trans ?_)
  refine lasting_ite c ?_ (lasting_failMove c a)
  exact (lasting_wr _ _ (node_ne_of_below (by decide) (by simp only [Obj.st_CUR_MODE, Obj.NODE_ID]; omega))).trans (lasting_failMove c a)

@[simp] theorem lasting_safeRampAll : lasting c.safeRampAll = lasting c := by
  unfold Core.safeRampAll
  refine (lasting_each _ _ fun t a ha => lasting_safeRampAxis t (List.mem_range.mp ha)).trans ?_
  refine (lasting_each _ _ fun t g hg => ?_).trans (lasting_foldl c _ fun t e _ => rfl)
  have hlow : g < 8 := List.mem_range.mp (List.mem_of_mem_filter hg)
  exact lasting_wr t _ (node_ne_of_below (by decide) (by simp only [Obj.grp_GEAR_ENGAGE, Obj.NODE_ID]; omega))

end Axes

/-! #### Stops -/

section Stops
variable (c : Core)

theorem lasting_discardAfter (seam : Option Nat) : lasting (c.discardAfter seam) = lasting c := rfl

theorem lasting_spoilAfter (seam : Option Nat) : lasting (c.spoilAfter seam) = lasting c := rfl

@[simp] theorem lasting_spitAbort : lasting c.spitAbort = lasting c := by
  unfold Core.spitAbort
  split
  · rfl
  · exact (lasting_endComp _ _).trans (lasting_wr _ (o := Obj.SPIT_STATE) _ (by decide))

@[simp] theorem lasting_faultBlockOut (kind : Nat) : lasting (c.faultBlockOut kind) = lasting c :=
  lasting_ite c (lasting_each { c with fseq := _ } _ fun t _ _ => lasting_each t _ fun _ _ _ => rfl) rfl

@[simp] theorem lasting_broadcastStop (cause : Nat) : lasting (c.broadcastStop cause) = lasting c := lasting_ite c rfl (lasting_faultBlockOut c 1)

@[simp] theorem lasting_headStopStep1 : lasting c.headStopStep1 = lasting c := (lasting_stopPrintGroups _).trans (lasting_spitAbort c)

@[simp] theorem lasting_orderlyStop (cause : Nat) : lasting (c.orderlyStop cause) = lasting c := by
  unfold Core.orderlyStop
  refine lasting_ite c ?_ rfl
  split
  · rfl
  · dsimp only
    rw [lasting_broadcastStop, lasting_stopPrintGroups, lasting_spoilAfter, lasting_discardAfter]
    exact lasting_of_fields rfl rfl rfl rfl rfl rfl

@[simp] theorem lasting_headStop (cause : Nat) : lasting (c.headStop cause) = lasting c := by
  unfold Core.headStop
  refine lasting_ite c ?_ rfl
  dsimp only
  split
  · refine lasting_ite c rfl ?_
    rw [lasting_headStopStep1, lasting_endComp]
    exact lasting_of_fields rfl rfl rfl rfl rfl rfl
  · rw [lasting_broadcastStop, lasting_headStopStep1, lasting_spoilAfter, lasting_discardAfter, lasting_endComp]
    exact lasting_of_fields rfl rfl rfl rfl rfl rfl

@[simp] theorem lasting_groupReaction (n : Nat) : lasting (c.groupReaction n) = lasting c :=
  lasting_each c _ fun t g _ => lasting_ite t ((lasting_orderlyStop _ n).trans (lasting_groupStop t g)) (lasting_groupStop t g)

@[simp] theorem lasting_react (n : Nat) : lasting (c.react n) = lasting c := by
  unfold Core.react
  refine lasting_ite c rfl ?_
  split
  · exact lasting_orderlyStop c n
  · exact lasting_ite c (lasting_orderlyStop c n) (lasting_ite c ((lasting_stopMoving _ _).trans (lasting_spitAbort c)) rfl)
  · exact lasting_headStop c n
  · exact lasting_groupReaction c n
  · rfl

end Stops

/-! #### The Hem safe state (R503) -/

section Safe
variable (c : Core)

@[simp] theorem lasting_publishBad (sensor status : Nat) : lasting (c.publishBad sensor status) = lasting c := by
  unfold Core.publishBad Core.publishMeas
  exact lasting_ite c (lasting_wr c.drawOpen.2 _ (node_ne_of_above (by decide))) (lasting_wr c.drawOpen.2 _ (node_ne_of_above (by decide)))

@[simp] theorem lasting_useAfe (k : Nat) (x : Afe) : lasting (c.useAfe k x) = lasting c := lasting_ite c rfl rfl

@[simp] theorem lasting_measSafe : lasting c.measSafe = lasting c := by
  unfold Core.measSafe
  refine (lasting_each _ _ fun t i _ => lasting_publishBad t _ _).trans (lasting_each c _ fun t k _ => ?_)
  exact lasting_ite t ((lasting_useAfe _ _ _).trans (lasting_publishBad t _ _)) (lasting_ite t rfl rfl)

@[simp] theorem lasting_abortAllPorts : lasting c.abortAllPorts = lasting c :=
  lasting_each c _ fun t p hp => lasting_wr t _ (node_ne_of_below (by decide) (by
    have hlow : p < 64 := List.mem_range.mp hp
    simp only [Obj.port_LINK_STATE, Obj.NODE_ID]
    omega))

@[simp] theorem lasting_dmaSafe : lasting c.dmaSafe = lasting c := by
  unfold Core.dmaSafe
  refine (lasting_each _ _ fun t e he => ?_).trans (lasting_each c _ fun t k hk => lasting_ite t rfl (lasting_wr t _ (node_ne_of_below (by decide) ?_)))
  · have hlow : e < 8 := List.mem_range.mp he
    exact (lasting_wr _ _ (node_ne_of_below (by decide) (by simp only [Obj.eng_ACTIVE_CH, Obj.NODE_ID]; omega))).trans
      (lasting_wr t _ (node_ne_of_below (by decide) (by simp only [Obj.eng_ENG_STATE, Obj.NODE_ID]; omega)))
  · have hlow : k < 128 := List.mem_range.mp hk
    simp only [Obj.dma_CH_STATE, Obj.NODE_ID]
    omega

theorem lasting_decState {d : Nat} (v : Nat) (hd : d ∈ [0, 1, 2, 3]) : lasting (c.wr Obj.dec_DEC_STATE d 0 v) = lasting c :=
  lasting_wr c v (node_ne_of_below (by decide) (by
    have hlow : ∀ d ∈ [0, 1, 2, 3], d < 4 := by decide
    have := hlow d hd
    simp only [Obj.dec_DEC_STATE, Obj.NODE_ID]
    omega))

@[simp] theorem lasting_bistAbort : lasting c.bistAbort = lasting c := by
  unfold Core.bistAbort
  refine lasting_ite c rfl ((lasting_wr _ (o := Obj.BIST_STATE) _ (by decide)).trans ?_)
  exact lasting_each c _ fun t g _ => lasting_wr t _ (node_ne_of_above (by decide))

@[simp] theorem lasting_unitsSafe : lasting c.unitsSafe = lasting c := by
  have hcomet : ∀ t : Core, lasting (t.wr0 Obj.COMET_STATE 0) = lasting t := fun t => lasting_wr t _ (by decide)
  have hdecoders : ∀ t : Core, lasting (t.each [0, 1, 2, 3] fun t d => t.wr Obj.dec_DEC_STATE d 0 0) = lasting t := fun t =>
    lasting_each t _ fun t d hd => lasting_decState t 0 hd
  have hcleared : ∀ u : Core, lasting { u with headStep := 0, headSources := [], stopCap := false, wantReady := false, comet := {}, decs := [] } = lasting u :=
    fun _ => lasting_of_fields rfl rfl rfl rfl rfl rfl
  unfold Core.unitsSafe
  refine (hcleared _).trans ?_
  have hstopped : lasting (((((c.spitAbort).bistAbort).dmaSafe).measSafe).each [0, 1, 2, 3] fun t d => t.wr Obj.dec_DEC_STATE d 0 0) = lasting c := by
    rw [hdecoders, lasting_measSafe, lasting_dmaSafe, lasting_bistAbort, lasting_spitAbort]
  exact lasting_ite c hstopped ((hcomet _).trans hstopped)

@[simp] theorem lasting_abortWindow (b : Option Nat) : lasting (c.abortWindow b) = lasting c :=
  lasting_each c _ fun t _ hd => lasting_decState { t with decs := _ } 0 (List.mem_of_mem_filter hd)

@[simp] theorem lasting_dropJob : lasting c.dropJob = lasting c := by
  have hstore : ∀ (t : Core) (v : Nat), ∀ o ∈ [Obj.STAGE_FREE, Obj.CMD_QUEUE, Obj.PM_STAGED], lasting (t.wr0 o v) = lasting t :=
    fun t v o ho => lasting_wr t v (by revert o; decide)
  unfold Core.dropJob Core.putFree
  rw [hstore _ _ _ (by simp), hstore _ _ _ (by simp), hstore _ _ _ (by simp)]
  exact (lasting_of_fields (c := c.abortWindow none) rfl rfl rfl rfl rfl rfl).trans (lasting_abortWindow c none)

@[simp] theorem lasting_closeStream : lasting c.closeStream = lasting c := by
  have hstore : ∀ (t : Core) (v : Nat), ∀ o ∈ [Obj.eng_ACTIVE_CH, Obj.eng_ENG_STATE, Obj.dma_CH_STATE, Obj.STREAM_STATE], lasting (t.wr o 0 0 v) = lasting t :=
    fun t v o ho => lasting_wr t v (by revert o; decide)
  have hdisarm : ∀ (t : Core) (x : Timer) (i : Nat), lasting (t.disarm x i) = lasting t := fun _ _ _ => rfl
  unfold Core.closeStream
  rw [hstore _ _ _ (by simp), hstore _ _ _ (by simp), hstore _ _ _ (by simp), hdisarm, Core.wr0, hstore _ _ _ (by simp), lasting_dropJob]
  exact lasting_of_fields rfl rfl rfl rfl rfl rfl

@[simp] theorem lasting_safeJob : lasting c.safeJob = lasting c := by
  have hahead : ∀ t : Core, lasting (t.wr0 Obj.LOOKAHEAD 0) = lasting t := fun t => lasting_wr t _ (by decide)
  exact lasting_ite c rfl (lasting_ite c ((hahead _).trans (lasting_dropJob c)) ((hahead _).trans (lasting_closeStream c)))

/-- Every output driven safe, every unit stopped, every axis on its safe ramp. -/
def outputsSafe : Core := (((c.emit .safeOutputs 0 [] []).emit .faultN 0 [0] []).abortAllPorts.unitsSafe).safeRampAll

/-- No stop and no locked sequence is left. -/
def stopsEnded : Core :=
  let t := outputsSafe c
  { t with stop := none, safeSince := some t.clk, phase := .steady, sess := t.sess.map (fun (p : Nat × Session) => (p.1, p.2.onSafe)) }

/-- A session whose sequence was rolled back is told. -/
def lapseTold (at_ : Nat) (t : Core) (p : Nat × Session) : Core :=
  match p.2.txn with
  | some x => t.pushEvent p.1 ⟨0x00F0, x.id, 0, at_⟩
  | none => t

/-- The sequences rolled back, counted. -/
def lapses : Nat := c.sess.foldl (fun n p => if p.2.txn.isSome then n + 1 else n) 0

/-- The stops and sequences ended, the sessions told, the ring told. -/
def safeTold : Core :=
  (((((outputsSafe c).sess.foldl (lapseTold (outputsSafe c).ftNs) (stopsEnded c)).inc Obj.TXN_LAPSES 0 0 (lapses c)).endComp Obj.MODE_REQ 0 0 false).faultBlockOut 2)

/-- The same, with what the lapses are due to raise. -/
def safeHeld : Core := if 0 < lapses c then { safeTold c with alsoRaise := (safeTold c).alsoRaise ++ [1569] } else safeTold c

theorem hemSafe_eq (h : ¬ (c.mode = .safe ∨ (c.mode = .off ∧ c.phase ≠ .waking) ∨ c.mode = .retain)) : c.hemSafe = (safeHeld c).safeJob.setMode .safe := by
  unfold Core.hemSafe
  rw [if_neg h]
  rfl

theorem hemSafe_of_held (h : c.mode = .safe ∨ (c.mode = .off ∧ c.phase ≠ .waking) ∨ c.mode = .retain) : c.hemSafe = c := if_pos h

theorem lasting_outputsSafe : lasting (outputsSafe c) = lasting c := by
  unfold outputsSafe
  rw [lasting_safeRampAll, lasting_unitsSafe, lasting_abortAllPorts]
  exact lasting_of_fields rfl rfl rfl rfl rfl rfl

theorem lasting_lapseTold (at_ : Nat) (p : Nat × Session) : lasting (lapseTold at_ c p) = lasting c := by
  unfold lapseTold
  split
  · exact lasting_pushEvent c _ _
  · rfl

theorem lasting_safeHeld : lasting (safeHeld c) = lasting c := by
  have hcleared : ∀ (u : Core) (l : List (Nat × Session)) (at_ : Option Nat), lasting { u with stop := none, safeSince := at_, phase := .steady, sess := l } = lasting u :=
    fun _ _ _ => lasting_of_fields rfl rfl rfl rfl rfl rfl
  have hraised : ∀ (u : Core) (l : List Nat), lasting { u with alsoRaise := l } = lasting u := fun _ _ => lasting_of_fields rfl rfl rfl rfl rfl rfl
  have hended : lasting (stopsEnded c) = lasting c := (hcleared _ _ _).trans (lasting_outputsSafe c)
  have htold : lasting (safeTold c) = lasting c := by
    unfold safeTold
    rw [lasting_faultBlockOut, lasting_endComp, lasting_inc _ _ (by decide), lasting_foldl _ _ fun t p _ => lasting_lapseTold t _ p, hended]
  exact lasting_ite c ((hraised _ _).trans htold) htold

@[simp] theorem lasting_hemSafe : lasting c.hemSafe = lasting c := by
  by_cases h : c.mode = .safe ∨ (c.mode = .off ∧ c.phase ≠ .waking) ∨ c.mode = .retain
  · rw [hemSafe_of_held c h]
  · rw [hemSafe_eq c h, lasting_setMode, lasting_safeJob, lasting_safeHeld]

end Safe

/-! #### Occurrences (R498, R499) -/

section Occurrences
variable (c : Core)

@[simp] theorem lasting_actClass (n cls kind info repeats : Nat) (forced : Bool) : lasting (c.actClass n cls kind info repeats forced) = lasting c := by
  have hcause : ∀ (t : Core) (v : Nat), lasting (t.wr0 Obj.SAFE_CAUSE v) = lasting t := fun t v => lasting_wr t _ (by decide)
  have hlogged : ∀ l q r f, lasting ((c.addLog n kind cls l q r f).event (some 0) 0x0001 n cls) = lasting c := fun l q r f => by
    rw [lasting_event, lasting_addLog]
  unfold Core.actClass
  dsimp only
  refine lasting_ite c ?_ (lasting_ite c ?_ (hlogged ..))
  · rw [lasting_hemSafe]
    exact lasting_ite c ((hcause _ _).trans (hlogged ..)) (hlogged ..)
  · rw [lasting_react, hlogged]

@[simp] theorem lasting_occurAgain (n info : Nat) (forced : Bool) : lasting (c.occurAgain n info forced) = lasting c := by
  have hinfo : lasting (c.wr Obj.src_INFO n 0 info) = lasting c := lasting_wr c _ (node_ne_of_above (by decide))
  exact lasting_ite c rfl (lasting_ite c hinfo hinfo)

theorem lasting_hwUpdate (o : Ob) (i j : Nat) : lasting (c.hwUpdate o i j) = lasting c := rfl

theorem lasting_setSrc (n : Nat) (x : Src) : lasting (c.setSrc n x) = lasting c := rfl

/-- What a source publishes stands above the ring's record. -/
theorem lasting_wr_src {o : Ob} (n v : Nat) (h : Obj.NODE_ID.idx < o.idx) : lasting (c.wr o n 0 v) = lasting c := lasting_wr c v (node_ne_of_above h)

@[simp] theorem lasting_occurOne (n info : Nat) (forced : Bool) : lasting (c.occurOne n info forced) = lasting c := by
  have hcount : lasting (((c.inc Obj.src_COUNT n 0 1).wr Obj.src_LAST_T_NS n 0 c.ftNs).hwUpdate Obj.src_COUNT n 0) = lasting c := by
    rw [lasting_hwUpdate, lasting_wr_src _ _ _ (by decide), lasting_inc _ _ (node_ne_of_above (by decide))]
  unfold Core.occurOne
  refine lasting_ite c rfl (lasting_ite c (lasting_occurAgain c _ _ _) (lasting_ite c hcount ?_))
  dsimp only
  generalize ((c.inc Obj.src_COUNT n 0 1).wr Obj.src_LAST_T_NS n 0 c.ftNs).hwUpdate Obj.src_COUNT n 0 = k at hcount ⊢
  have hinfo : lasting ((k.wr Obj.src_INFO n 0 info).hwUpdate Obj.src_STATUS n 0) = lasting c := by
    rw [lasting_hwUpdate, lasting_wr_src _ _ _ (by decide), hcount]
  refine lasting_ite c ?_ (lasting_ite c ?_ ?_)
  · rw [lasting_actClass, lasting_wr_src _ _ _ (by decide), lasting_wr_src _ _ _ (by decide), lasting_setSrc, hinfo]
  · rw [lasting_actClass, lasting_setSrc, lasting_wr_src _ _ _ (by decide), hinfo]
  · rw [lasting_wr_src _ _ _ (by decide), hinfo]

@[simp] theorem lasting_drainRaise (k : Nat) : lasting (Core.drainRaise k c) = lasting c := by
  induction k generalizing c with
  | zero => rfl
  | succ k ih =>
    unfold Core.drainRaise
    split
    · rfl
    · exact (ih _).trans (lasting_occurOne _ _ _ _)

@[simp] theorem lasting_settle : lasting c.settle = lasting c := lasting_drainRaise c 128

@[simp] theorem lasting_occur (n info : Nat) : lasting (c.occur n info) = lasting c := (lasting_settle _).trans (lasting_occurOne c n info false)

end Occurrences

end Sys2Proof.Proofs.Lasting

/-! ### Proofs: frames on the ring (ch. 14) -/

namespace Sys2Proof.Proofs.Ring
open Sys2Proof Sys2Proof.Machine Sys2Proof.Laws

/-! #### Waiting frames that leave -/

section Flushed
variable (c : Core)

/-- The block once the waiting frames whose turn has come are gone. -/
def flushed : Core := (c.ringFlush 0).ringFlush 1

theorem flushed_frame : ∃ q f o, flushed c = { c with ring := { c.ring with queue := q, freeAt := f }, out := o } := by
  obtain ⟨q, f, o, h⟩ := ringFlush_frame c 0
  obtain ⟨q', f', o', h'⟩ := ringFlush_frame (c.ringFlush 0) 1
  refine ⟨q', f', o', h'.trans ?_⟩
  rw [h]

theorem rd_flushed (o : Ob) (i j : Nat) : (flushed c).rd o i j = c.rd o i j := by
  rw [flushed, rd_ringFlush, rd_ringFlush]

theorem running_flushed : (flushed c).running = c.running := by
  obtain ⟨q, f, o, h⟩ := flushed_frame c
  rw [h]; rfl

theorem frMine_flushed (b : List Byte) (serial : Option Nat) : (flushed c).frMine b serial = c.frMine b serial := by
  obtain ⟨q, f, o, h⟩ := flushed_frame c
  rw [h]; rfl

theorem frForward_flushed (b : List Byte) (mine : Bool) : (flushed c).frForward b mine = c.frForward b mine := by
  obtain ⟨q, f, o, h⟩ := flushed_frame c
  rw [h]; rfl

theorem rx_flushed : (flushed c).ring.rx = c.ring.rx := by
  obtain ⟨q, f, o, h⟩ := flushed_frame c
  rw [h]

theorem upPorts_flushed : (flushed c).upPorts = c.upPorts := by simp only [Core.upPorts, rd_flushed]

end Flushed

/-! #### Frames sent on -/

section SendOn
variable (c : Core) (k : Nat) (b payload : List Byte)

/-- What decides whether a frame is delivered, beside the frame: the SEQs noted and the node's number. -/
def noted (c : Core) : Tab Nat × Nat := (c.ring.rx, c.rd0 Obj.NODE_ID)

theorem noted_of_lasting {t : Core} (h : Lasting.lasting t = Lasting.lasting c) : noted t = noted c := by
  simp only [Lasting.lasting, Prod.mk.injEq] at h
  obtain ⟨hring, hnode, -⟩ := h
  rw [noted, hring, hnode]
  rfl

theorem noted_ringFlush : noted (c.ringFlush k) = noted c := by
  obtain ⟨q, f, o, h⟩ := ringFlush_frame c k
  rw [h]; rfl

theorem noted_dropped (i : Nat) : noted (c.inc Obj.rp_DROPS k i 1) = noted c :=
  noted_of_lasting c (Lasting.lasting_inc c 1 (Lasting.node_ne_of_above (by decide)))

theorem noted_occur (n info : Nat) : noted (c.occur n info) = noted c := noted_of_lasting c (Lasting.lasting_occur c n info)

theorem noted_makeRoom (n f : Nat) : noted (c.makeRoom k n f) = noted c := by
  induction f generalizing c with
  | zero => rfl
  | succ f ih =>
    unfold Core.makeRoom
    split
    · rfl
    · split
      · rfl
      · rw [ih, noted_occur, noted_dropped]
        rfl

theorem noted_ringStore : noted (c.ringStore k b) = noted c := by
  unfold Core.ringStore
  dsimp only
  split
  · exact noted_ringFlush c k
  · exact noted_ringFlush c k

theorem noted_ringForward : noted (c.ringForward k b) = noted c := by
  unfold Core.ringForward
  dsimp only
  split
  · rw [noted_ringStore, noted_makeRoom, noted_ringFlush]
  · rw [noted_occur, noted_dropped, noted_makeRoom, noted_ringFlush]

/-- A frame sent on, kept, or dropped leaves the SEQs noted and the node's number. -/
theorem noted_sendOn : noted (c.sendOn k b payload) = noted c := by
  unfold Core.sendOn
  split
  · split
    · obtain ⟨q, f, o, h⟩ := ringSend_frame c (1 - k) .ringFrame (frOnward b payload)
      rw [h]; rfl
    · exact noted_ringForward c _ _
  · exact noted_dropped c _ 2

theorem firstCopy_of_noted {t : Core} (h : noted t = noted c) : t.firstCopy b = c.firstCopy b := by
  simp only [noted, Prod.mk.injEq] at h
  simp only [Core.firstCopy, h.1]

theorem node_of_noted {t : Core} (h : noted t = noted c) : t.rd0 Obj.NODE_ID = c.rd0 Obj.NODE_ID := congrArg Prod.snd h

end SendOn

/-! #### Frames received (R370 to R374) -/

section Receive
variable {c : Core} {k typ : Nat} {b : List Byte} {serial : Option Nat} {onward : List Byte → List Byte} {act : Core → Core}

/-- The block runs and the port is UP. -/
structure Listens (c : Core) (k : Nat) : Prop where
  running : c.running = true
  port : k < 2
  up : c.rd Obj.rp_LINK_STATE k 0 = 3

theorem listens_flushed (h : Listens c k) : ¬ ((!(flushed c).running) = true ∨ 2 ≤ k ∨ (flushed c).rd Obj.rp_LINK_STATE k 0 ≠ 3) := by
  obtain ⟨hrun, hk, hup⟩ := h
  rw [running_flushed, rd_flushed, hrun, hup]
  simp [Nat.not_le.mpr hk]

/-- A frame sent on where it is to be. -/
def sentOn (c : Core) (k : Nat) (b payload : List Byte) (mine : Bool) : Core :=
  if c.frForward b mine then (flushed c).sendOn k b payload else flushed c

/-- The SEQ of a frame noted for its source and type. -/
def seqNoted (t : Core) (typ : Nat) (b : List Byte) : Core := { t with ring := { t.ring with rx := Tab.set t.ring.rx (256 * frSrc b + typ) (frSeq b) } }

theorem noted_sentOn (c : Core) (k : Nat) (b payload : List Byte) (mine : Bool) : noted (sentOn c k b payload mine) = noted c := by
  have hflushed : noted (flushed c) = noted c := by rw [flushed, noted_ringFlush, noted_ringFlush]
  unfold sentOn
  split
  · rw [noted_sendOn, hflushed]
  · exact hflushed

theorem delivered_eq (c : Core) (k typ : Nat) (b : List Byte) : c.delivered k typ b = seqNoted (sentOn c k b (frPayload b) true) typ b := by
  unfold sentOn
  rw [← frForward_flushed]
  rfl

/-- A sound frame is sent on where it is to be, and delivered where it is for this controller, a first copy and another's. -/
theorem rxFrame_of_sound (h : Listens c k) (hok : frOk b = true) (htype : frType b = typ) :
    c.rxFrame k typ b serial onward act =
      if c.frMine b serial = true ∧ c.firstCopy b = true ∧ frSrc b ≠ c.rd0 Obj.NODE_ID then
        act (seqNoted (sentOn c k b (onward (frPayload b)) (c.frMine b serial)) typ b)
      else sentOn c k b (onward (frPayload b)) (c.frMine b serial) := by
  have hnoted := noted_sentOn c k b (onward (frPayload b)) (c.frMine b serial)
  have hcond : ((c.frMine b serial = true ∧ (sentOn c k b (onward (frPayload b)) (c.frMine b serial)).firstCopy b = true ∧
      (!(decide (frSrc b = (sentOn c k b (onward (frPayload b)) (c.frMine b serial)).rd0 Obj.NODE_ID))) = true) ↔
      (c.frMine b serial = true ∧ c.firstCopy b = true ∧ frSrc b ≠ c.rd0 Obj.NODE_ID)) := by
    rw [firstCopy_of_noted c b hnoted, node_of_noted c hnoted]
    simp
  unfold Core.rxFrame
  dsimp only
  rw [← flushed, if_neg (listens_flushed h), if_neg (by simp [hok]), if_neg (by simp [htype]), frMine_flushed, frForward_flushed]
  exact if_congr hcond rfl rfl

/-- A delivered frame takes its effect on the block that has noted it. -/
theorem rxFrame_of_delivers (h : c.Delivers k typ b) : c.rxFrame k typ b none id act = act (c.delivered k typ b) := by
  obtain ⟨hrun, hk, hup, hok, htype, hmine, hfirst, hsrc⟩ := h
  rw [rxFrame_of_sound ⟨hrun, hk, hup⟩ hok htype, if_pos ⟨hmine, hfirst, hsrc⟩, hmine, delivered_eq]
  rfl

/-- A sound frame that is not for this controller, no first copy, or its own is only sent on. -/
theorem rxFrame_of_undelivered (h : Listens c k) (hok : frOk b = true) (htype : frType b = typ)
    (hnot : c.frMine b serial = false ∨ c.firstCopy b = false ∨ frSrc b = c.rd0 Obj.NODE_ID) :
    c.rxFrame k typ b serial onward act = sentOn c k b (onward (frPayload b)) (c.frMine b serial) := by
  rw [rxFrame_of_sound h hok htype, if_neg]
  rintro ⟨hmine, hfirst, hsrc⟩
  obtain hm | hf | hs := hnot
  · simp [hm] at hmine
  · simp [hf] at hfirst
  · exact hsrc hs

end Receive

end Sys2Proof.Proofs.Ring

/-! ### Proofs: the Comet (ch. 13) -/

namespace Sys2Proof.Proofs.Comet
open Sys2Proof Sys2Proof.Machine Sys2Proof.Laws

/-! #### What the commands of the Comet answer -/

section Answers
variable (s : State) (dt k : Nat) (b : List Byte)

theorem does_cometCollectEnd : Does (.cometCollectEnd dt) s (s.core.advance dt).collectEndEvent := Fire.does_of_onCore (fun c => (c.advance dt).collectEndEvent) rfl

theorem does_cometSeamComplete : Does (.cometSeamComplete dt) s (s.core.advance dt).seamCompleteEvent :=
  Fire.does_of_onCore (fun c => (c.advance dt).seamCompleteEvent) rfl

theorem does_cometResume : Does (.cometResume dt) s (s.core.advance dt).resumeEvent := Fire.does_of_onCore (fun c => (c.advance dt).resumeEvent) rfl

theorem does_cometParticipantTimeout : Does (.cometParticipantTimeout dt) s (s.core.advance dt).participantTimeout :=
  Fire.does_of_onCore (fun c => (c.advance dt).participantTimeout) rfl

/-- The command of a COMET frame of a subtype, and what that subtype does. -/
def subtypes (dt k : Nat) (b : List Byte) : List (Instr × Nat × (Core → Nat → List Byte → Core)) :=
  [(.cometReqReceived dt k b, 1, Core.cometReq), (.cometGoReceived dt k b, 2, Core.cometGo), (.cometReadyReceived dt k b, 3, Core.cometReply 1),
   (.cometSeamDoneReceived dt k b, 5, Core.cometReply 0), (.cometEnlistReceived dt k b, 6, Core.cometEnlist), (.cometDelistReceived dt k b, 7, Core.cometDelist),
   (.cometStateReceived dt k b, 4, Core.cometMirror)]

theorem does_subtype {x : Instr × Nat × (Core → Nat → List Byte → Core)} (h : x ∈ subtypes dt k b) : Does x.1 s ((s.core.advance dt).rxComet k x.2.1 b x.2.2) := by
  simp only [subtypes, List.mem_cons, List.not_mem_nil, or_false] at h
  obtain rfl | rfl | rfl | rfl | rfl | rfl | rfl := h <;> rfl

end Answers

/-! #### Messages (R354, R356, R358, R391) -/

section Messages
variable {c : Core} {k : Nat} {b : List Byte}

/-- A delivered COMET frame of 32 bytes and of the awaited subtype acts; one of another length does not. -/
theorem rxComet_of_delivers (sub : Nat) (act : Core → Nat → List Byte → Core) (h : c.Delivers k 0x12 b) :
    c.rxComet k sub b act =
      if (frPayload b).length = 32 ∧ leAt (frPayload b) 0 1 = sub then act (c.delivered k 0x12 b) (frSrc b) (frPayload b) else c.delivered k 0x12 b :=
  Ring.rxFrame_of_delivers h

/-- A reply is noted for its sender's controller on the owner, for the present COMET_ID. -/
theorem cometReply_eq (i src : Nat) (p : List Byte) : c.cometReply i src p =
    if c.cometOwner = true ∧ leAt p 4 4 = c.comet.id then
      { c with comet := { c.comet with parts := Tab.set c.comet.parts (c.cometPart src) (putBit (Tab.get 0 c.comet.parts (c.cometPart src)) i true) } } else c := rfl

theorem cometEnlist_of_owner {src : Nat} (p : List Byte) (h : c.cometOwner = true) (hsrc : src ≠ 0) : c.cometEnlist src p =
    let planet := leAt p 8 4 % 4096
    let u : Core := { c with ring := { c.ring with moons := if planet = 0 then Tab.erase c.ring.moons src else Tab.set c.ring.moons src planet } }
    if c.enlisted.contains src then u else u.setParts (c.enlisted ++ [src]) := if_pos ⟨h, hsrc⟩

theorem cometEnlist_of_other {src : Nat} (p : List Byte) (h : c.cometOwner = false ∨ src = 0) : c.cometEnlist src p = c :=
  if_neg (by rintro ⟨ho, hs⟩; obtain h | h := h <;> simp_all)

theorem cometMirror_of_guest {p : List Byte} (src : Nat) (ho : c.cometOwner = false) (hp : c.inPrint = true) (hst : leAt p 1 1 ≤ 5) (hne : leAt p 1 1 ≠ 1) :
    c.cometMirror src p =
      let u := Core.wr0 { c with comet := { c.comet with id := leAt p 4 4, guest := true } } Obj.COMET_STATE (leAt p 1 1)
      if leAt p 1 1 = 5 then u.releaseHold else u.cometReadyCheck :=
  if_neg (by simp [ho, hp, hne, Nat.not_lt.mpr hst])

theorem cometMirror_of_other (src : Nat) (p : List Byte) (h : c.cometOwner = true ∨ c.inPrint = false) : c.cometMirror src p = c :=
  if_pos (by obtain h | h := h <;> simp [h])

end Messages

/-! #### The course (R354, R358 to R360, R391) -/

section Course
variable {c : Core}

/-- Nothing of a Comet goes on outside PRINT or during a stop. -/
theorem course_of_not_printing (h : c.inPrint = false ∨ c.stop ≠ none) :
    c.collectEndEvent = c ∧ c.seamCompleteEvent = c ∧ c.resumeEvent = c ∧ c.participantTimeout = c := by
  have hoff : (!c.inPrint) = true ∨ c.stop.isSome = true := by
    obtain h | h := h
    · exact .inl (by simp [h])
    · exact .inr (Option.isSome_iff_ne_none.mpr h)
  refine ⟨if_neg ?_, if_pos ?_, if_pos ?_, if_pos ?_⟩
  · rintro ⟨hp, hs, -⟩
    obtain h | h := h
    · simp [h] at hp
    · exact h (Option.isNone_iff_eq_none.mp hs)
  · exact hoff.elim .inl fun h => .inr (.inl h)
  · exact hoff.elim .inl fun h => .inr (.inl h)
  · exact hoff.elim .inl fun h => .inr (.inl h)

variable (hprint : c.inPrint = true) (hstop : c.stop = none)
include hprint hstop

theorem collectEndEvent_of_printing :
    c.collectEndEvent = if c.rd0 Obj.COMET_STATE = 1 ∧ c.comet.guest = false ∧ c.due .cometCollect 0 = true then c.cometCollectEnd.motionAfter else c :=
  if_congr (by simp [hprint, hstop]) rfl rfl

theorem seamCompleteEvent_of_waiting (h : c.rd0 Obj.COMET_STATE ≠ 2 ∨ c.seamComplete = false) : c.seamCompleteEvent = c :=
  if_pos (by simpa [hprint, hstop] using h)

theorem seamCompleteEvent_of_complete (hst : c.rd0 Obj.COMET_STATE = 2) (hseam : c.seamComplete = true) :
    c.seamCompleteEvent =
      if c.comet.guest = true then
        (if c.comet.seamDone = true then c
         else ({ c with comet := { c.comet with seamDone := true } }).when (!c.isStandby) (fun t => t.sendComet 5 0 (c.rd0 Obj.SEAM) 0 0))
      else if c.cometAtRest = true ∧ c.cometMissing 0 = [] then (c.disarm .participant 0).cometBackUp else c :=
  if_neg (by simp [hprint, hstop, hst, hseam])

theorem resumeEvent_of_waiting (h : c.rd0 Obj.COMET_STATE ≠ 4 ∨ c.resumeReady = false) : c.resumeEvent = c :=
  if_pos (by simpa [hprint, hstop] using h)

theorem cometReadyCheck_of_ready (hst : c.rd0 Obj.COMET_STATE = 4) (hready : c.resumeReady = true) :
    c.cometReadyCheck =
      if c.comet.guest = true then
        (if c.comet.readySent = true then c
         else ({ c with comet := { c.comet with readySent := true } }).when (!c.isStandby) (fun t => t.sendComet 3 0 0 0 0))
      else if c.cometMissing 1 = [] ∨ c.armed .participant 1 = true then c else c.arm .participant 1 (sec 1) :=
  if_neg (by simp [hprint, hstop, hst, hready])

/-- While a participant is not ready, and on another controller, the resume is the test for it. -/
theorem resumeEvent_of_check (hst : c.rd0 Obj.COMET_STATE = 4) (hready : c.resumeReady = true) (h : c.comet.guest = true ∨ c.cometMissing 1 ≠ []) :
    c.resumeEvent = c.cometReadyCheck :=
  (if_neg (by simp [hprint, hstop, hst, hready])).trans (if_pos h)

/-- With every participant ready the owner's axis begins its VEL move, or the manoeuvre fails. -/
theorem resumeEvent_of_all_ready (hst : c.rd0 Obj.COMET_STATE = 4) (hready : c.resumeReady = true) (hg : c.comet.guest = false) (hm : c.cometMissing 1 = []) :
    c.resumeEvent =
      match c.cometAxis with
      | none => c.cometFails
      | some a =>
        let sp := c.cometSpeed
        let t := (c.disarm .participant 1).setComet 5
        if t.movable a ∧ sp.natAbs ≤ t.rd Obj.ax_V_MAX a 0 then
          ((((t.releaseHold).failMove a).updAxis a (fun x => { x with plan := .vel (sp : Rat) (t.velLimit a sp), res := 1, hold := false })).setAxSt a axMoving).motionAfter
        else t.cometFails :=
  ((if_neg (by simp [hprint, hstop, hst, hready])).trans (if_neg (by simp [hg, hm]))).trans (by rfl)

omit hprint hstop in
theorem participantTimeout_of_guest (h : c.comet.guest = true) : c.participantTimeout = c := if_pos (.inr (.inr h))

theorem participantTimeout_of_owner (h : c.comet.guest = false) :
    c.participantTimeout =
      if c.due .participant 0 = true ∧ c.cometMissing 0 ≠ [] then (c.disarm .participant 0).occur 1523 0
      else if c.due .participant 1 = true ∧ c.cometMissing 1 ≠ [] then (c.disarm .participant 1).occur 1523 0 else c :=
  if_neg (by simp [hprint, hstop, h])

end Course

theorem when_not (t : Core) (x : Bool) (f : Core → Core) : t.when (!x) f = if x = true then t else f t := by
  cases x <;> rfl

/-! #### The statement -/

/-- Settles O35: the course from what each of its commands does in the state it meets, a message from what its subtype does once delivered. -/
theorem cometFollowsItsCourse : Obligations.CometFollowsItsCourse := by
  unfold Obligations.CometFollowsItsCourse
  refine ⟨fun s dt => ?_, fun s dt k b => ?_⟩
  · intro c
    have hcollect : Does (.cometCollectEnd dt) s c.collectEndEvent := does_cometCollectEnd s dt
    have hseam : Does (.cometSeamComplete dt) s c.seamCompleteEvent := does_cometSeamComplete s dt
    have hresume : Does (.cometResume dt) s c.resumeEvent := does_cometResume s dt
    have htimeout : Does (.cometParticipantTimeout dt) s c.participantTimeout := does_cometParticipantTimeout s dt
    refine ⟨fun h => ?_, fun hprint hstop => ?_⟩
    · obtain ⟨h1, h2, h3, h4⟩ := course_of_not_printing h
      rw [h1] at hcollect
      rw [h2] at hseam
      rw [h3] at hresume
      rw [h4] at htimeout
      exact ⟨hcollect, hseam, hresume, htimeout⟩
    · refine ⟨?_, fun h => ?_, fun hst hdone => ?_, fun h => ?_, fun hst hready => ?_, fun hg => ?_, fun hg hdue hm => ?_, fun hg h0 hdue hm => ?_⟩
      · rw [collectEndEvent_of_printing hprint hstop] at hcollect
        split
        · rwa [if_pos ‹_›] at hcollect
        · rwa [if_neg ‹_›] at hcollect
      · rwa [seamCompleteEvent_of_waiting hprint hstop h] at hseam
      · rw [seamCompleteEvent_of_complete hprint hstop hst hdone] at hseam
        refine ⟨fun hg hd => ?_, fun hg hd => ?_, fun hg h => ?_, fun hg hrest hm => ?_⟩
        · rwa [if_pos hg, if_pos hd] at hseam
        · rw [if_pos hg, if_neg (by simp [hd])] at hseam
          exact Block.does_of_eq hseam (when_not _ _ _)
        · rwa [if_neg (by simp [hg]), if_neg (by rintro ⟨hr, hm⟩; obtain h | h := h <;> simp_all)] at hseam
        · rw [if_neg (by simp [hg]), if_pos ⟨hrest, hm⟩] at hseam
          exact hseam
      · rwa [resumeEvent_of_waiting hprint hstop h] at hresume
      · have hcheck := cometReadyCheck_of_ready hprint hstop hst hready
        refine ⟨fun hg hs => ?_, fun hg hs => ?_, fun hg hm => ?_, fun hg hm hax => ?_, fun a hg hm hax => ?_⟩
        · rwa [resumeEvent_of_check hprint hstop hst hready (.inl hg), hcheck, if_pos hg, if_pos hs] at hresume
        · rw [resumeEvent_of_check hprint hstop hst hready (.inl hg), hcheck, if_pos hg, if_neg (by simp [hs])] at hresume
          exact Block.does_of_eq hresume (when_not _ _ _)
        · rw [resumeEvent_of_check hprint hstop hst hready (.inr hm), hcheck, if_neg (by simp [hg])] at hresume
          exact Block.does_of_eq hresume (if_congr (or_iff_right hm) rfl rfl)
        · rw [resumeEvent_of_all_ready hprint hstop hst hready hg hm, hax] at hresume
          exact hresume
        · rw [resumeEvent_of_all_ready hprint hstop hst hready hg hm, hax] at hresume
          exact hresume
      · rwa [participantTimeout_of_guest hg] at htimeout
      · rwa [participantTimeout_of_owner hprint hstop hg, if_pos ⟨hdue, hm⟩] at htimeout
      · rwa [participantTimeout_of_owner hprint hstop hg, if_neg (by rintro ⟨hd, hn⟩; obtain h | h := h0 <;> simp_all), if_pos ⟨hdue, hm⟩] at htimeout
  · intro c t p n noted hd
    have hacts : ∀ x ∈ subtypes dt k b, leAt p 0 1 = x.2.1 → p.length = 32 → Does x.1 s (x.2.2 t (frSrc b) p) := fun x hx hsub hlen => by
      have h := does_subtype s dt k b hx
      rwa [rxComet_of_delivers _ _ hd, if_pos ⟨hlen, hsub⟩] at h
    have hother : ∀ x ∈ subtypes dt k b, p.length ≠ 32 → Does x.1 s t := fun x hx hlen => by
      have h := does_subtype s dt k b hx
      rwa [rxComet_of_delivers _ _ hd, if_neg fun h => hlen h.1] at h
    simp only [subtypes, List.forall_mem_cons] at hacts hother
    obtain ⟨hreq, hgo, hready, hseam, henlist, hdelist, hstate, -⟩ := hacts
    refine ⟨hreq, hgo, hready, hseam, fun hsub hlen ho hsrc => ?_, fun hsub hlen h => ?_, hdelist, fun hsub hlen ho hp hst hne => ?_, fun hsub hlen h => ?_, fun hlen i hi => ?_⟩
    · exact Block.does_of_eq (henlist hsub hlen) (cometEnlist_of_owner p ho hsrc)
    · exact Block.does_of_eq (henlist hsub hlen) (cometEnlist_of_other p h)
    · exact Block.does_of_eq (hstate hsub hlen) (cometMirror_of_guest (frSrc b) ho hp hst hne)
    · exact Block.does_of_eq (hstate hsub hlen) (cometMirror_of_other (frSrc b) p h)
    · obtain ⟨h1, h2, h3, h4, h5, h6, h7, -⟩ := hother
      simp only [List.mem_cons, List.not_mem_nil, or_false] at hi
      obtain rfl | rfl | rfl | rfl | rfl | rfl | rfl := hi
      exacts [h1 hlen, h2 hlen, h3 hlen, h4 hlen, h5 hlen, h6 hlen, h7 hlen]

end Sys2Proof.Proofs.Comet

/-! ### Proofs: the bytes of a frame (R370, R372) -/

namespace Sys2Proof.Proofs.Frames
open Sys2Proof Sys2Proof.Machine Sys2Proof.Laws

/-! #### Fields of a byte string -/

/-- Bytes of a number say the number, as far as they reach. -/
theorem ofLe_leBytes (n v : Nat) : ofLe (leBytes n v) = v % 256 ^ n := by
  induction n generalizing v with
  | zero => simp [leBytes, ofLe, Nat.mod_one]
  | succ n ih =>
    rw [leBytes, ofLe, ih, BitVec.toNat_ofNat, Nat.pow_succ' (m := 256), Nat.mod_mul]

theorem leAt_leBytes_append (n v : Nat) (r : List Byte) : leAt (leBytes n v ++ r) 0 n = v % 256 ^ n := by
  rw [leAt, List.drop_zero, List.take_left' (Spool.length_leBytes n v), ofLe_leBytes]

/-- A field past the first part lies in the rest. -/
theorem leAt_append_right {l : List Byte} {o : Nat} (h : l.length ≤ o) (r : List Byte) (n : Nat) : leAt (l ++ r) o n = leAt r (o - l.length) n := by
  rw [leAt, leAt, List.drop_append, List.drop_eq_nil_of_le h, List.nil_append]

/-- A field within the first part lies there. -/
theorem leAt_append_left {l : List Byte} {o n : Nat} (h : o + n ≤ l.length) (r : List Byte) : leAt (l ++ r) o n = leAt l o n := by
  rw [leAt, leAt, List.drop_append_of_le_length (by omega), List.take_append_of_le_length (by rw [List.length_drop]; omega)]

theorem leAt_take {l : List Byte} {o n m : Nat} (h : o + n ≤ m) : leAt (l.take m) o n = leAt l o n := by
  rw [leAt, leAt, List.drop_take, List.take_take, Nat.min_eq_left (by omega)]

theorem leAt_drop (l : List Byte) (m o n : Nat) : leAt (l.drop m) o n = leAt l (m + o) n := by
  rw [leAt, leAt, List.drop_drop]

/-! #### CRC -/

theorem crcBits_lt {poly : Nat} (hp : poly < 2 ^ 32) (n : Nat) {c : Nat} (hc : c < 2 ^ 32) : Crypto.crcBits n poly c < 2 ^ 32 := by
  induction n generalizing c with
  | zero => exact hc
  | succ n ih =>
    apply ih
    have hhalf : c / 2 < 2 ^ 32 := Nat.lt_of_le_of_lt (Nat.div_le_self c 2) hc
    split
    · exact Nat.xor_lt_two_pow hhalf hp
    · exact hhalf

theorem crcRefl_lt {poly : Nat} (hp : poly < 2 ^ 32) (l : List Byte) {c : Nat} (hc : c < 2 ^ 32) : Crypto.crcRefl poly l c < 2 ^ 32 := by
  induction l generalizing c with
  | nil => exact hc
  | cons b t ih => exact ih (crcBits_lt hp 8 (Nat.xor_lt_two_pow hc (Nat.lt_trans b.isLt (by decide))))

theorem crc32_lt (l : List Byte) : Crypto.crc32 l < 256 ^ 4 :=
  Nat.xor_lt_two_pow (n := 32) (crcRefl_lt (by decide) l (by decide)) (by decide)

/-! #### Frames put together -/

/-- A frame is sound whose header and payload are followed by their CRC. -/
theorem frOk_of_crc {h : List Byte} (hlen : h.length = 16 + leAt h 12 2) (hmax : leAt h 12 2 ≤ 512) : frOk (h ++ leBytes 4 (Crypto.crc32 h)) = true := by
  have hfield : frLen (h ++ leBytes 4 (Crypto.crc32 h)) = leAt h 12 2 := leAt_append_left (by omega) _
  have hcrc : leAt (h ++ leBytes 4 (Crypto.crc32 h)) (16 + leAt h 12 2) 4 = Crypto.crc32 h := by
    rw [leAt_append_right (by omega), hlen, Nat.sub_self, ← List.append_nil (leBytes 4 _), leAt_leBytes_append, Nat.mod_eq_of_lt (crc32_lt h)]
  rw [frOk, hfield, List.take_left' hlen, hcrc]
  simp [Spool.length_leBytes, hlen, hmax]
  omega

theorem frPayload_of_crc {h : List Byte} (hlen : h.length = 16 + leAt h 12 2) : frPayload (h ++ leBytes 4 (Crypto.crc32 h)) = h.drop 16 := by
  have hfield : frLen (h ++ leBytes 4 (Crypto.crc32 h)) = leAt h 12 2 := leAt_append_left (by omega) _
  rw [frPayload, hfield, List.drop_append_of_le_length (by omega), List.take_left' (by rw [List.length_drop]; omega)]

section RingFrame
variable (typ flags dst src hops seq frag : Nat) (payload : List Byte)

/-- A frame's header and payload, before the CRC. -/
def beforeCrc : List Byte :=
  leBytes 1 typ ++ (leBytes 1 flags ++ (leBytes 2 dst ++ (leBytes 2 src ++ (leBytes 2 hops ++ (leBytes 4 seq ++ (leBytes 2 payload.length ++ (leBytes 2 frag ++ payload)))))))

theorem ringFrame_eq : ringFrame typ flags dst src hops seq frag payload =
    beforeCrc typ flags dst src hops seq frag payload ++ leBytes 4 (Crypto.crc32 (beforeCrc typ flags dst src hops seq frag payload)) := by
  simp only [ringFrame, beforeCrc, List.append_assoc]

theorem length_beforeCrc : (beforeCrc typ flags dst src hops seq frag payload).length = 16 + payload.length := by
  simp only [beforeCrc, List.length_append, Spool.length_leBytes]
  omega

theorem beforeCrc_len (h : payload.length ≤ 512) : leAt (beforeCrc typ flags dst src hops seq frag payload) 12 2 = payload.length := by
  simp only [beforeCrc]
  iterate 6 rw [leAt_append_right (by simp [Spool.length_leBytes]), Spool.length_leBytes]
  rw [leAt_leBytes_append, Nat.mod_eq_of_lt (by omega)]

theorem frType_ringFrame : frType (ringFrame typ flags dst src hops seq frag payload) = typ % 256 := by
  rw [ringFrame_eq, frType, beforeCrc, List.append_assoc, leAt_leBytes_append, Nat.pow_one]

theorem frDst_ringFrame : frDst (ringFrame typ flags dst src hops seq frag payload) = dst % 4096 := by
  rw [ringFrame_eq, frDst, leAt_append_left (by rw [length_beforeCrc]; omega), beforeCrc]
  iterate 2 rw [leAt_append_right (by simp [Spool.length_leBytes]), Spool.length_leBytes]
  rw [leAt_leBytes_append]
  omega

theorem frPayload_ringFrame (h : payload.length ≤ 512) : frPayload (ringFrame typ flags dst src hops seq frag payload) = payload := by
  have hlen := length_beforeCrc typ flags dst src hops seq frag payload
  rw [ringFrame_eq, frPayload_of_crc (by rw [hlen, beforeCrc_len _ _ _ _ _ _ _ _ h])]
  simp only [beforeCrc, ← List.append_assoc]
  exact List.drop_left' (by simp [Spool.length_leBytes])

theorem frOk_ringFrame (h : payload.length ≤ 512) : frOk (ringFrame typ flags dst src hops seq frag payload) = true := by
  have hfield := beforeCrc_len typ flags dst src hops seq frag payload h
  rw [ringFrame_eq]
  exact frOk_of_crc (by rw [hfield, length_beforeCrc]) (by rw [hfield]; exact h)

end RingFrame

/-! #### Frames sent on -/

section Onward
variable {b : List Byte}

/-- What a sent-on frame holds before its CRC. -/
def onwardBody (b payload : List Byte) : List Byte := b.take 6 ++ (leBytes 2 (frHops b + 1) ++ ((b.drop 8).take 8 ++ payload))

theorem frOnward_eq (b payload : List Byte) : frOnward b payload = onwardBody b payload ++ leBytes 4 (Crypto.crc32 (onwardBody b payload)) := by
  simp only [frOnward, onwardBody, List.append_assoc]

theorem frOk_iff : frOk b = true ↔ b.length = 20 + frLen b ∧ frLen b ≤ 512 ∧ leAt b (16 + frLen b) 4 = Crypto.crc32 (b.take (16 + frLen b)) := by
  simp [frOk, and_assoc]

theorem length_onwardBody (payload : List Byte) (h : 16 ≤ b.length) : (onwardBody b payload).length = 16 + payload.length := by
  simp only [onwardBody, List.length_append, Spool.length_leBytes, List.length_take, List.length_drop]
  omega

/-- Fields before HOPS are those received. -/
theorem leAt_onwardBody_before {o n : Nat} (payload : List Byte) (h : 16 ≤ b.length) (hin : o + n ≤ 6) : leAt (onwardBody b payload) o n = leAt b o n := by
  rw [onwardBody, leAt_append_left (by rw [List.length_take]; omega), leAt_take hin]

theorem leAt_onwardBody_hops (payload : List Byte) (h : 16 ≤ b.length) : leAt (onwardBody b payload) 6 2 = (frHops b + 1) % 256 ^ 2 := by
  have h6 : (b.take 6).length = 6 := by rw [List.length_take]; omega
  rw [onwardBody, leAt_append_right h6.le, h6, leAt_leBytes_append]

/-- Fields after HOPS are those received. -/
theorem leAt_onwardBody_after {o n : Nat} (payload : List Byte) (h : 16 ≤ b.length) (hafter : 8 ≤ o) (hin : o + n ≤ 16) :
    leAt (onwardBody b payload) o n = leAt b o n := by
  have h6 : (b.take 6).length = 6 := by rw [List.length_take]; omega
  rw [onwardBody, leAt_append_right (by omega), leAt_append_right (by rw [Spool.length_leBytes]; omega), leAt_append_left (by rw [h6, Spool.length_leBytes, List.length_take, List.length_drop]; omega),
    leAt_take (by rw [h6, Spool.length_leBytes]; omega), leAt_drop, h6, Spool.length_leBytes]
  congr 1
  omega

theorem length_frPayload (hok : frOk b = true) : (frPayload b).length = frLen b := by
  obtain ⟨hlen, -, -⟩ := frOk_iff.mp hok
  rw [frPayload, List.length_take, List.length_drop]
  omega

/-- A frame sent on with its payload is the frame received but for its hops and CRC. -/
theorem frOnward_content (hok : frOk b = true) (hhops : frHops b < 65535) :
    let f := frOnward b (frPayload b)
    frOk f = true ∧ frType f = frType b ∧ frFlags f = frFlags b ∧ frDst f = frDst b ∧ frSrc f = frSrc b ∧ frSeq f = frSeq b ∧ frLen f = frLen b ∧ frFrag f = frFrag b ∧
      frPayload f = frPayload b ∧ frHops f = frHops b + 1 := by
  obtain ⟨hlen, hmax, -⟩ := frOk_iff.mp hok
  have h16 : 16 ≤ b.length := by omega
  have hbody := length_onwardBody (frPayload b) h16
  have hfield : leAt (onwardBody b (frPayload b)) 12 2 = frLen b := leAt_onwardBody_after _ h16 (by decide) (by decide)
  have hwhole : (onwardBody b (frPayload b)).length = 16 + leAt (onwardBody b (frPayload b)) 12 2 := by rw [hbody, hfield, length_frPayload hok]
  have hin {o n : Nat} (h : o + n ≤ 16) : leAt (frOnward b (frPayload b)) o n = leAt (onwardBody b (frPayload b)) o n := by
    rw [frOnward_eq, leAt_append_left (by omega)]
  have hbefore {o n : Nat} (h : o + n ≤ 6) : leAt (frOnward b (frPayload b)) o n = leAt b o n := by
    rw [hin (by omega), leAt_onwardBody_before _ h16 h]
  have hafter {o n : Nat} (h8 : 8 ≤ o) (h : o + n ≤ 16) : leAt (frOnward b (frPayload b)) o n = leAt b o n := by
    rw [hin h, leAt_onwardBody_after _ h16 h8 h]
  refine ⟨?_, hbefore (by decide), ?_, congrArg (· % 4096) (hbefore (by decide)), congrArg (· % 4096) (hbefore (by decide)), hafter (by decide) (by decide),
    hafter (by decide) (by decide), hafter (by decide) (by decide), ?_, ?_⟩
  · rw [frOnward_eq]
    exact frOk_of_crc hwhole (hfield ▸ hmax)
  · simp only [frFlags, hbefore (o := 1) (n := 1) (by decide)]
  · rw [frOnward_eq, frPayload_of_crc hwhole, onwardBody, ← List.append_assoc, ← List.append_assoc]
    refine List.drop_left' ?_
    simp only [List.length_append, Spool.length_leBytes, List.length_take, List.length_drop]
    omega
  · rw [frHops, hin (by decide), leAt_onwardBody_hops _ h16, Nat.mod_eq_of_lt (by omega)]

end Onward

end Sys2Proof.Proofs.Frames

/-! ### Proofs: the ring's ports, its frames and the link delay (ch. 14) -/

namespace Sys2Proof.Proofs.Link
open Sys2Proof Sys2Proof.Machine Sys2Proof.Laws

/-! #### What the commands of a ring port answer -/

section Answers
variable (s : State) (dt k resid : Nat) (b : List Byte)

theorem does_ringBlockLock : Does (.ringBlockLock dt k) s
    (if (s.core.advance dt).running ∧ k < 2 ∧ (s.core.advance dt).rpState k = 1 then
      ((s.core.advance dt).wr Obj.rp_LINK_STATE k 0 2).arm .helloWait k (us 8) else s.core.advance dt) := rfl

theorem does_ringLockLost : Does (.ringLockLost dt k) s
    (if (s.core.advance dt).running ∧ k < 2 ∧ (s.core.advance dt).rpState k ≠ 0 then (s.core.advance dt).ringDown k else s.core.advance dt) := rfl

theorem does_helloTimeout : Does (.helloTimeout dt k) s
    (if (s.core.advance dt).running ∧ k < 2 ∧ (s.core.advance dt).due .helloWait k ∧ (s.core.advance dt).rpState k ≠ 0 then (s.core.advance dt).ringDown k
     else s.core.advance dt) := rfl

theorem does_helloSendTimer : Does (.helloSendTimer dt k) s ((s.core.advance dt).helloSend k) := Fire.does_of_onCore (fun c => (c.advance dt).helloSend k) rfl

theorem does_helloReceived : Does (.helloReceived dt k b) s ((s.core.advance dt).helloReceived k b) :=
  Fire.does_of_onCore (fun c => (c.advance dt).helloReceived k b) rfl

theorem does_tackFrameReceived : Does (.tackFrameReceived dt k b) s ((s.core.advance dt).rxFrame k 0x11 b none id (fun t => t.ringTackIn (frPayload b))) :=
  Fire.does_of_onCore (fun c => (c.advance dt).rxFrame k 0x11 b none id (fun t => t.ringTackIn (frPayload b))) rfl

theorem does_abortedFrameReceived : Does (.abortedFrameReceived dt k) s
    (if (s.core.advance dt).running ∧ k < 2 ∧ (s.core.advance dt).rpState k = 3 then ((s.core.advance dt).inc Obj.rp_LINK_ERR k 2 1).sendAborted k
     else s.core.advance dt) := rfl

theorem does_delayReqTimer : Does (.delayReqTimer dt) s (s.core.advance dt).delayReqTimer := Fire.does_of_onCore (fun c => (c.advance dt).delayReqTimer) rfl

theorem does_delayReqReceived : Does (.delayReqReceived dt b resid) s ((s.core.advance dt).delayReq b resid) :=
  Fire.does_of_onCore (fun c => (c.advance dt).delayReq b resid) rfl

theorem does_delayRspReceived : Does (.delayRspReceived dt b) s ((s.core.advance dt).delayRsp b) := Fire.does_of_onCore (fun c => (c.advance dt).delayRsp b) rfl

end Answers

/-! #### Frames between the two ends of a link -/

/-- Two blocks with the same waiting frames, the same ports' times, the same instant and the same frames gone. -/
structure SamePorts (t c : Core) : Prop where
  queue : t.ring.queue = c.ring.queue
  freeAt : t.ring.freeAt = c.ring.freeAt
  clk : t.clk = c.clk
  out : t.out = c.out

/-- The block once a waiting frame has left. -/
def frameLeft (c : Core) (k : Nat) (x : RingTx) : Core :=
  ({ c with ring := { c.ring with queue := c.ring.queue.erase x } }).ringStart k (c.ringFree k) .ringFrame x.bytes

theorem samePorts_frameLeft {t c : Core} (h : SamePorts t c) (k : Nat) (x : RingTx) : SamePorts (frameLeft t k x) (frameLeft c k x) := by
  obtain ⟨hq, hf, hclk, ho⟩ := h
  have hfree : t.ringFree k = c.ringFree k := congrArg (fun f => Tab.get 0 f k) hf
  constructor
  · exact congrArg (fun q => q.erase x) hq
  · exact congrArg₂ (fun f a => Tab.set f k (a + frameTime x.bytes)) hf hfree
  · exact hclk
  · exact congrArg₂ (fun o (a : Nat) => (⟨.ringFrame, k, [(frType x.bytes : Int), (frDst x.bytes : Int), (a : Int)], x.bytes⟩ : Out) :: o) ho hfree

theorem ringDrain_of_empty {c : Core} {k : Nat} (n : Nat) (h : nextTx k c.ring.queue = none) : c.ringDrain k (n + 1) = c := by
  rw [Core.ringDrain, h]

theorem ringDrain_of_waiting {c : Core} {k : Nat} {x : RingTx} (n : Nat) (h : nextTx k c.ring.queue = some x) :
    c.ringDrain k (n + 1) = if c.ringNow < c.ringFree k then c else (frameLeft c k x).ringDrain k n := by
  rw [Core.ringDrain, h]
  rfl

/-- What leaves of a port's queue, and when, hangs on these alone. -/
theorem out_ringDrain (k n : Nat) {c t : Core} (h : SamePorts t c) : (t.ringDrain k n).out = (c.ringDrain k n).out := by
  induction n generalizing c t with
  | zero => exact h.out
  | succ n ih =>
    have hwait : t.ringNow < t.ringFree k ↔ c.ringNow < c.ringFree k := by simp only [Core.ringNow, Core.ringFree, h.clk, h.freeAt]
    have hnext : nextTx k t.ring.queue = nextTx k c.ring.queue := by rw [h.queue]
    cases hx : nextTx k c.ring.queue with
    | none => rw [ringDrain_of_empty n hx, ringDrain_of_empty n (hnext.trans hx), h.out]
    | some x =>
      rw [ringDrain_of_waiting n hx, ringDrain_of_waiting n (hnext.trans hx)]
      by_cases hc : c.ringNow < c.ringFree k
      · rw [if_pos hc, if_pos (hwait.mpr hc), h.out]
      · rw [if_neg hc, if_neg (mt hwait.mp hc), ih (samePorts_frameLeft h k x)]

theorem out_ringFlush (k : Nat) {c t : Core} (h : SamePorts t c) : (t.ringFlush k).out = (c.ringFlush k).out := by
  rw [Core.ringFlush, Core.ringFlush, h.queue]
  exact out_ringDrain k _ h

/-- The kind of what leaves with a frame of the link. -/
def linkKind (typ : Nat) : OutKind := if typ = 1 then .hello else if typ = 2 then .delayReq else .delayRsp

section LinkLocal
variable (c : Core) (k : Nat) {typ : Nat} {payload : List Byte}

/-- The block with one frame more of a type counted. -/
def counted (c : Core) (typ : Nat) : Core := { c with ringTx := Tab.set c.ringTx typ (c.nextRingSeq typ) }

/-- A frame leaves a port after the waiting frames whose turn has come. -/
theorem out_ringSend (kind : OutKind) (f : List Byte) :
    ∃ at_, (c.ringSend k kind f).out = ⟨kind, k, [(frType f : Int), (frDst f : Int), at_], f⟩ :: (c.ringFlush k).out := ⟨_, rfl⟩

/-- A frame between the two ends of a link leaves sound, with its type and payload, after the waiting frames whose turn has come. -/
theorem out_linkLocal (htyp : typ < 256) (hpay : payload.length ≤ 512) :
    ∃ f at_, (c.linkLocal k typ payload).out = ⟨linkKind typ, k, [(typ : Int), 0, at_], f⟩ :: (c.ringFlush k).out ∧
      frOk f = true ∧ frType f = typ ∧ frPayload f = payload := by
  have hframe := Frames.frType_ringFrame typ 2 0 (c.rd0 Obj.NODE_ID) 0 (c.nextRingSeq typ) 0 payload
  have hdst := Frames.frDst_ringFrame typ 2 0 (c.rd0 Obj.NODE_ID) 0 (c.nextRingSeq typ) 0 payload
  rw [Nat.mod_eq_of_lt htyp] at hframe
  obtain ⟨at_, hout⟩ := out_ringSend (counted c typ) k (linkKind typ) (ringFrame typ 2 0 (c.rd0 Obj.NODE_ID) 0 (c.nextRingSeq typ) 0 payload)
  rw [out_ringFlush (c := c) (t := counted c typ) k ⟨rfl, rfl, rfl, rfl⟩, hframe, hdst] at hout
  exact ⟨_, at_, hout, Frames.frOk_ringFrame _ _ _ _ _ _ _ _ hpay, hframe, Frames.frPayload_ringFrame _ _ _ _ _ _ _ _ hpay⟩

/-- It leaves all but the port, its frames and its counter. -/
theorem linkLocal_frame (typ : Nat) (payload : List Byte) :
    ∃ q f o x, c.linkLocal k typ payload = { c with ringTx := x, ring := { c.ring with queue := q, freeAt := f }, out := o } := by
  obtain ⟨q, f, o, h⟩ := ringSend_frame (counted c typ) k (linkKind typ)
    (ringFrame typ 2 0 (c.rd0 Obj.NODE_ID) 0 (c.nextRingSeq typ) 0 payload)
  exact ⟨q, f, o, _, h⟩

end LinkLocal

/-! #### HELLO (R377) -/

section Hello
variable {c : Core} {k : Nat} {b : List Byte}

theorem length_helloPayload (c : Core) (k : Nat) : (c.helloPayload k).length = 24 := by
  simp only [Core.helloPayload, List.length_append, Spool.length_leBytes]

/-- The block with a HELLO of this instant noted. -/
def helloNoted (c : Core) (k : Nat) : Core := c.updRing (fun r => { r with helloAt := Tab.set r.helloAt k c.clk })

theorem helloSend_of_due (hrun : c.running = true) (hen : c.ringEn k = true) (hst : 1 ≤ c.rpState k)
    (hdue : (Tab.get? c.ring.helloAt k).all (fun t => decide (t + us 2 ≤ c.clk)) = true) :
    c.helloSend k = (helloNoted c k).linkLocal k 1 (c.helloPayload k) := by
  refine if_pos ⟨hrun, hen, hst, ?_⟩
  cases hat : Tab.get? c.ring.helloAt k with
  | none => rfl
  | some t => simpa [hat] using hdue

theorem helloSend_of_off (h : c.ringEn k = false ∨ c.rpState k = 0) : c.helloSend k = c := by
  refine if_neg ?_
  rintro ⟨-, hen, hst, -⟩
  obtain h | h := h
  · simp [h] at hen
  · omega

/-- A HELLO sent is sound and carries the port's own data. -/
theorem helloSend_sends (hrun : c.running = true) (hen : c.ringEn k = true) (hst : 1 ≤ c.rpState k)
    (hdue : (Tab.get? c.ring.helloAt k).all (fun t => decide (t + us 2 ≤ c.clk)) = true) :
    ∃ f at_, (c.helloSend k).out = ⟨.hello, k, [1, 0, at_], f⟩ :: (c.ringFlush k).out ∧ frOk f = true ∧ frType f = 1 ∧ frPayload f = c.helloPayload k ∧
      Tab.get? (c.helloSend k).ring.helloAt k = some c.clk ∧ (c.helloSend k).objs = c.objs := by
  rw [helloSend_of_due hrun hen hst hdue]
  obtain ⟨f, at_, hout, hok, htype, hpay⟩ := out_linkLocal (helloNoted c k) k (typ := 1) (by decide) (Nat.le_trans (length_helloPayload c k).le (by decide))
  obtain ⟨q, fr, o, x, hframe⟩ := linkLocal_frame (helloNoted c k) k 1 (c.helloPayload k)
  have hflush : ((helloNoted c k).ringFlush k).out = (c.ringFlush k).out := out_ringFlush k ⟨rfl, rfl, rfl, rfl⟩
  refine ⟨f, at_, hout.trans (congrArg (List.cons _) hflush), hok, htype, hpay, ?_, ?_⟩
  · rw [hframe]
    exact tab_find_set c.ring.helloAt k c.clk
  · rw [hframe]
    rfl

theorem frOk_of_helloOk (h : helloOk b = true) : frOk b = true := by
  simp only [helloOk, Bool.and_eq_true] at h
  exact h.1.1

/-- A HELLO names one side of its sender. -/
theorem side_of_helloOk (h : helloOk b = true) : leAt (frPayload b) 2 1 ≤ 1 := by
  simp only [helloOk, Bool.and_eq_true, decide_eq_true_eq] at h
  exact h.2.2.1

theorem helloReceived_of_low (h : c.rpState k < 2) : c.helloReceived k b = c := if_pos (.inr (.inr h))

section Heard
variable (hrun : c.running = true) (hk : k < 2) (hst : 2 ≤ c.rpState k)
include hrun hk hst

theorem helloReceived_of_hearing : c.helloReceived k b =
    if !frOk b then (c.inc Obj.rp_LINK_ERR k 1 1).updRing (fun r => { r with run := Tab.erase r.run k })
    else if !helloOk b then c.updRing (fun r => { r with run := Tab.erase r.run k })
    else if bit (Tab.get 0 c.ring.heard k) 0 = true ∧ leAt (frPayload b) 4 8 ≠ c.rd Obj.rp_NEIGHBOUR_SERIAL k 0 then c.ringDown k
    else
      let p := frPayload b
      let t := (((c.wr Obj.rp_NEIGHBOUR k 0 (leAt p 0 2)).wr Obj.rp_NEIGHBOUR_SERIAL k 0 (leAt p 4 8)).arm .helloWait k (us 8)).updRing
        (fun r => { r with heard := Tab.set r.heard k 1 })
      if leAt p 2 1 = k then
        let t := t.updRing (fun r => { r with run := Tab.erase r.run k })
        (if c.rpState k = 2 then (t.wr Obj.rp_LINK_STATE k 0 4).occur (1536 + k) 0 else t)
      else
        let n := Tab.get 0 t.ring.run k + 1
        let t := t.updRing (fun r => { r with run := Tab.set r.run k n })
        let t := if k = 1 ∧ leAt p 16 4 ≠ 0 then t.applyDelay 1 (leAt p 16 4) else t
        if c.rpState k = 2 ∧ 3 ≤ n then t.ringUp k else t :=
  if_neg (by simp [hrun]; omega)

end Heard

/-- A HELLO's neighbour named leaves the count of those in a row. -/
theorem run_neighbourNamed (id serial : Nat) :
    ((((c.wr Obj.rp_NEIGHBOUR k 0 id).wr Obj.rp_NEIGHBOUR_SERIAL k 0 serial).arm .helloWait k (us 8)).updRing (fun r => { r with heard := Tab.set r.heard k 1 })).ring.run = c.ring.run := by
  simp [Core.updRing]

end Hello

/-- Settles O36: the port's state, and for a HELLO its checks, decide each case. -/
theorem ringPortsGoThroughTheirStates : Obligations.RingPortsGoThroughTheirStates := by
  unfold Obligations.RingPortsGoThroughTheirStates
  intro s dt k b c p hrun hk
  refine ⟨fun hst => ?_, fun hst => ?_, ?_, ?_, fun hen hst hdue => ?_, fun hoff => ?_, fun hst => ?_, fun hst hbad => ?_, fun hst hok hbad => ?_, fun hst hgood => ?_⟩
  · refine ⟨_, Block.does_of_eq (does_ringBlockLock s dt k) (if_pos ⟨hrun, hk, hst⟩), ?_, armed_arm _ _ _ _, fun o i j hne => ?_, ?_⟩
    · rw [Core.rpState, rd_arm, rd_wr]
      rfl
    · rw [rd_arm, rd_wr_ne _ _ _ _ _ _ _ _ hne]
    · rw [Ephemeris.wr_of_not_retained _ Obj.rp_LINK_STATE _ _ _ rfl]
      rfl
  · exact Block.does_of_eq (does_ringBlockLock s dt k) (if_neg (by rintro ⟨-, -, h⟩; exact hst h))
  · split
    · next hst => exact Block.does_of_eq (does_ringLockLost s dt k) (if_pos ⟨hrun, hk, hst⟩)
    · next hst => exact Block.does_of_eq (does_ringLockLost s dt k) (if_neg (by rintro ⟨-, -, h⟩; exact hst h))
  · split
    · next hdue => exact Block.does_of_eq (does_helloTimeout s dt k) (if_pos ⟨hrun, hk, hdue.2, hdue.1⟩)
    · next hdue => exact Block.does_of_eq (does_helloTimeout s dt k) (if_neg (by rintro ⟨-, -, hd, hst⟩; exact hdue ⟨hst, hd⟩))
  · obtain ⟨f, at_, h⟩ := helloSend_sends hrun hen hst hdue
    exact ⟨_, f, at_, does_helloSendTimer s dt k, h⟩
  · exact Block.does_of_eq (does_helloSendTimer s dt k) (helloSend_of_off hoff)
  · exact Block.does_of_eq (does_helloReceived s dt k b) (helloReceived_of_low hst)
  · refine Block.does_of_eq (does_helloReceived s dt k b) ((helloReceived_of_hearing hrun hk hst).trans (if_pos ?_))
    simp [hbad]
  · refine Block.does_of_eq (does_helloReceived s dt k b) ((helloReceived_of_hearing hrun hk hst).trans ((if_neg ?_).trans (if_pos ?_)))
    · simp [hok]
    · simp [hbad]
  · have hread := helloReceived_of_hearing (b := b) hrun hk hst
    rw [if_neg (by simp [frOk_of_helloOk hgood]), if_neg (by simp [hgood])] at hread
    refine ⟨fun ho => ?_, fun ho hside => ?_, fun ho hside => ?_⟩
    · exact Block.does_of_eq (does_helloReceived s dt k b) (hread.trans (if_pos ho))
    · exact Block.does_of_eq (does_helloReceived s dt k b) (hread.trans ((if_neg ho).trans (if_pos hside)))
    · have hother : ¬ leAt (frPayload b) 2 1 = k := by
        have : leAt (frPayload b) 2 1 = 1 - k := hside
        omega
      refine Block.does_of_eq (does_helloReceived s dt k b) (hread.trans ((if_neg ho).trans ((if_neg hother).trans ?_)))
      simp only [run_neighbourNamed]
      rfl

/-! #### Frames checked (R370, R372, R374) -/

section Checked
variable {c : Core} {k : Nat} {b : List Byte} {act : Core → Core}

/-- A member is no element of an object of a higher index. -/
theorem key_ne_of_above {p o : Ob} {i j : Nat} (hp : ¬ 1 < p.nel ∧ p.sub < 65536) (h : p.idx < o.idx) : p.key 0 0 ≠ o.key i j := by
  obtain ⟨hnel, hsub⟩ := hp
  have hstride : 0 ≤ o.stride * i := Nat.zero_le _
  rw [Ob.key, if_neg hnel]
  unfold Ob.key
  split <;> omega

/-- An error counted decides nothing about where a frame goes. -/
theorem forward_of_counted (t : Core) (i j n : Nat) (serial : Option Nat) :
    (t.inc Obj.rp_LINK_ERR i j n).frForward b ((t.inc Obj.rp_LINK_ERR i j n).frMine b serial) = t.frForward b (t.frMine b serial) := by
  have hnode : (t.inc Obj.rp_LINK_ERR i j n).rd0 Obj.NODE_ID = t.rd0 Obj.NODE_ID := Dma.rd_inc_ne _ _ _ _ _ _ _ _ (Lasting.node_ne_of_above (by decide))
  have htopo : (t.inc Obj.rp_LINK_ERR i j n).rd0 Obj.TOPO_COUNT = t.rd0 Obj.TOPO_COUNT := Dma.rd_inc_ne _ _ _ _ _ _ _ _ (key_ne_of_above (by decide) (by decide))
  simp only [Core.frForward, Core.frMine, hnode, htopo]

/-- A frame whose CRC fails counts; a copy already begun ends aborted. -/
theorem rxFrame_of_damaged (h : Ring.Listens c k) {typ : Nat} (hcut : cutThrough typ = true) (hbad : frOk b = false) :
    c.rxFrame k typ b none id act =
      if c.frForward b (c.frMine b none) then ((Ring.flushed c).inc Obj.rp_LINK_ERR k 1 1).sendAborted k else (Ring.flushed c).inc Obj.rp_LINK_ERR k 1 1 := by
  unfold Core.rxFrame
  dsimp only
  rw [← Ring.flushed, if_neg (Ring.listens_flushed h), if_pos (by simp [hbad]), forward_of_counted, Ring.frMine_flushed, Ring.frForward_flushed]
  simp only [hcut, true_and]

/-- A frame of another type is not met here; a reserved type counts. -/
theorem rxFrame_of_other (h : Ring.Listens c k) {typ : Nat} (hok : frOk b = true) (htype : frType b ≠ typ) :
    c.rxFrame k typ b none id act = if reservedType (frType b) then (Ring.flushed c).inc Obj.rp_LINK_ERR k 0 1 else Ring.flushed c := by
  unfold Core.rxFrame
  dsimp only
  rw [← Ring.flushed, if_neg (Ring.listens_flushed h), if_neg (by simp [hok]), if_pos htype]

end Checked

/-- Settles O37: a frame is damaged, of another type, not delivered, or delivered. -/
theorem ringFramesAreCheckedAndForwarded : Obligations.RingFramesAreCheckedAndForwarded := by
  unfold Obligations.RingFramesAreCheckedAndForwarded
  refine ⟨?_, fun b hok hhops => Frames.frOnward_content hok hhops⟩
  intro s dt k b c f on hrun hk hup
  have hlisten : Ring.Listens c k := ⟨hrun, hk, hup⟩
  refine ⟨fun hbad => ?_, fun hok htype => ?_, fun hok htype hnot => ?_, fun hdel => ?_, ?_⟩
  · exact Block.does_of_eq (does_tackFrameReceived s dt k b) (rxFrame_of_damaged hlisten rfl hbad)
  · exact Block.does_of_eq (does_tackFrameReceived s dt k b) (rxFrame_of_other hlisten hok htype)
  · exact Block.does_of_eq (does_tackFrameReceived s dt k b) (Ring.rxFrame_of_undelivered hlisten hok htype hnot)
  · exact Block.does_of_eq (does_tackFrameReceived s dt k b) (Ring.rxFrame_of_delivers hdel)
  · exact Block.does_of_eq (does_abortedFrameReceived s dt k) (if_pos ⟨hrun, hk, hup⟩)

/-! #### Link delay (R380) -/

section Delay
variable {c : Core} {b : List Byte} {resid : Nat}

/-- The payload of a request. -/
def requestPayload (c : Core) : List Byte := leBytes 2 c.ring.reqNext ++ leBytes 2 0 ++ leBytes 4 c.ring.calOf ++ leBytes 8 0

/-- The block with the next request and its instant noted. -/
def requestNoted (c : Core) : Core := c.updRing (fun r => { r with reqNext := c.ring.reqNext + 1, reqAt := c.clk, t1 := Tab.set r.t1 c.ring.reqNext c.stampNow })

theorem leAt_requestPayload (h : c.ring.reqNext < 16) : leAt (requestPayload c) 0 2 = c.ring.reqNext := by
  simp only [requestPayload, List.append_assoc, Frames.leAt_leBytes_append]
  exact Nat.mod_eq_of_lt (by omega)

theorem delayReqTimer_of_due (horig : c.originates = true) (hup : c.rpState 0 = 3) (hnext : c.ring.reqNext < 16)
    (hdue : c.ring.reqNext = 0 ∨ c.ring.reqAt + us 10 ≤ c.clk) : c.delayReqTimer = (requestNoted c).linkLocal 0 2 (requestPayload c) :=
  if_pos ⟨horig, hup, hnext, hdue⟩

theorem delayReqTimer_of_done (h : c.originates = false ∨ c.rpState 0 ≠ 3 ∨ 16 ≤ c.ring.reqNext) : c.delayReqTimer = c := by
  refine if_neg ?_
  rintro ⟨horig, hup, hnext, -⟩
  obtain h | h | h := h
  · simp [h] at horig
  · exact h hup
  · omega

/-- A request leaves with its number, and the instant is noted for it. -/
theorem delayReqTimer_sends (horig : c.originates = true) (hup : c.rpState 0 = 3) (hnext : c.ring.reqNext < 16)
    (hdue : c.ring.reqNext = 0 ∨ c.ring.reqAt + us 10 ≤ c.clk) :
    ∃ f at_, c.delayReqTimer.out = ⟨.delayReq, 0, [2, 0, at_], f⟩ :: (c.ringFlush 0).out ∧ leAt (frPayload f) 0 2 = c.ring.reqNext ∧
      c.delayReqTimer.ring.reqNext = c.ring.reqNext + 1 ∧ Tab.get? c.delayReqTimer.ring.t1 c.ring.reqNext = some c.stampNow ∧ c.delayReqTimer.objs = c.objs := by
  rw [delayReqTimer_of_due horig hup hnext hdue]
  obtain ⟨f, at_, hout, -, -, hpay⟩ := out_linkLocal (requestNoted c) 0 (typ := 2) (payload := requestPayload c) (by decide)
    (by simp [requestPayload, Spool.length_leBytes])
  obtain ⟨q, fr, o, x, hframe⟩ := linkLocal_frame (requestNoted c) 0 2 (requestPayload c)
  have hflush : ((requestNoted c).ringFlush 0).out = (c.ringFlush 0).out := out_ringFlush 0 ⟨rfl, rfl, rfl, rfl⟩
  refine ⟨f, at_, hout.trans (congrArg (List.cons _) hflush), (congrArg (leAt · 0 2) hpay).trans (leAt_requestPayload hnext), ?_, ?_, ?_⟩
  · rw [hframe]
    rfl
  · rw [hframe]
    exact tab_find_set c.ring.t1 c.ring.reqNext c.stampNow
  · rw [hframe]
    rfl

/-- The payload of an answer: the request's numbers and this end's two instants. -/
def answerPayload (c : Core) (p : List Byte) (resid : Nat) : List Byte :=
  let t3 := roundDivNat (c.ftQ + resid) 32768 * 32768
  leBytes 2 (leAt p 0 2) ++ leBytes 2 0 ++ leBytes 4 (leAt p 4 4) ++ leBytes 8 (c.stampNow / 65536) ++ leBytes 2 (c.stampNow % 65536) ++ leBytes 2 0
    ++ leBytes 8 (t3 / 65536) ++ leBytes 2 (t3 % 65536) ++ leBytes 2 0

theorem leAt_answerPayload_number (p : List Byte) : leAt (answerPayload c p resid) 0 2 = leAt p 0 2 := by
  simp only [answerPayload, List.append_assoc, Frames.leAt_leBytes_append]
  exact Nat.mod_eq_of_lt (Records.leAt_lt p 0 2)

theorem leAt_answerPayload_cal (p : List Byte) : leAt (answerPayload c p resid) 4 4 = leAt p 4 4 := by
  simp only [answerPayload, List.append_assoc]
  iterate 2 rw [Frames.leAt_append_right (by simp [Spool.length_leBytes]), Spool.length_leBytes]
  rw [Frames.leAt_leBytes_append]
  exact Nat.mod_eq_of_lt (Records.leAt_lt p 4 4)

theorem delayReq_of_down (h : c.rpState 1 ≠ 3) : c.delayReq b resid = c := if_pos (.inr h)

theorem delayReq_of_up (hrun : c.running = true) (hup : c.rpState 1 = 3) : c.delayReq b resid =
    if !frOk b then c.inc Obj.rp_LINK_ERR 1 1 1
    else if frType b ≠ 2 ∨ frLen b ≠ 16 ∨ !c.originates then c else c.linkLocal 1 3 (answerPayload c (frPayload b) resid) :=
  if_neg (by simp [hrun, hup])

theorem delayRsp_of_up (hrun : c.running = true) (hup : c.rpState 0 = 3) (hok : frOk b = false) : c.delayRsp b = c.inc Obj.rp_LINK_ERR 0 1 1 :=
  (if_neg (by simp [hrun, hup])).trans (if_pos (by simp [hok]))

/-- A response in its turn adds half the difference of the two round-trip times; the sixteenth ends the measurement. -/
theorem delayRsp_of_answer {t1 : Nat} (hrun : c.running = true) (hup : c.rpState 0 = 3) (hok : frOk b = true) (htype : frType b = 3) (hlen : frLen b = 32)
    (hcal : leAt (frPayload b) 4 4 = c.ring.calOf) (ht1 : Tab.get? c.ring.t1 (leAt (frPayload b) 0 2) = some t1) :
    c.delayRsp b =
      let p := frPayload b
      let t2 : Int := ((leAt p 8 8 * 65536 + leAt p 16 2 : Nat) : Int)
      let t3 : Int := ((leAt p 20 8 * 65536 + leAt p 28 2 : Nat) : Int)
      let d : Rat := mkRat (((c.stampNow : Int) - t1) - (t3 - t2)) 131072
      let t := c.updRing (fun r => { r with t1 := Tab.erase r.t1 (leAt p 0 2), delays := d :: r.delays, out := r.out || decide (d < 0 ∨ 20000 < d) })
      if c.ring.delays.length = 15 then t.delayDone else t := by
  unfold Core.delayRsp
  rw [if_neg (by simp [hrun, hup]), if_neg (by simp [hok])]
  simp only [ht1]
  rw [if_neg (by simp [htype, hlen, hcal])]
  exact if_congr (by simp [Core.updRing]) rfl rfl

end Delay

/-- Settles O39: the requests by their timer, each frame by the port's state and its checks. -/
theorem linkDelayIsMeasured : Obligations.LinkDelayIsMeasured := by
  unfold Obligations.LinkDelayIsMeasured
  intro s dt resid b c p hrun
  refine ⟨fun horig hup hnext hdue => ?_, fun hdone => ?_, fun hdown => ?_, fun hup hbad => ?_, fun hup hok htype hlen horig => ?_,
    fun t1 hup hok htype hlen hcal ht1 => ?_, fun hup hbad => ?_⟩
  · obtain ⟨f, at_, h⟩ := delayReqTimer_sends horig hup hnext hdue
    exact ⟨_, f, at_, does_delayReqTimer s dt, h⟩
  · exact Block.does_of_eq (does_delayReqTimer s dt) (delayReqTimer_of_done hdone)
  · exact Block.does_of_eq (does_delayReqReceived s dt resid b) (delayReq_of_down hdown)
  · exact Block.does_of_eq (does_delayReqReceived s dt resid b) ((delayReq_of_up hrun hup).trans (if_pos (by simp [hbad])))
  · have hanswer : c.delayReq b resid = c.linkLocal 1 3 (answerPayload c p resid) :=
      (delayReq_of_up hrun hup).trans ((if_neg (by simp [hok])).trans (if_neg (by simp [htype, hlen, horig])))
    obtain ⟨f, at_, hout, -, hft, hpay⟩ := out_linkLocal c 1 (typ := 3) (payload := answerPayload c p resid) (by decide) (by simp [answerPayload, Spool.length_leBytes])
    obtain ⟨q, fr, o, x, hframe⟩ := linkLocal_frame c 1 3 (answerPayload c p resid)
    refine ⟨_, f, at_, Block.does_of_eq (does_delayReqReceived s dt resid b) hanswer, hout, hft, (congrArg (leAt · 0 2) hpay).trans (leAt_answerPayload_number p),
      (congrArg (leAt · 4 4) hpay).trans (leAt_answerPayload_cal p), ?_⟩
    rw [hframe]
  · exact Block.does_of_eq (does_delayRspReceived s dt b) (delayRsp_of_answer hrun hup hok htype hlen hcal ht1)
  · exact Block.does_of_eq (does_delayRspReceived s dt b) (delayRsp_of_up hrun hup hbad)

end Sys2Proof.Proofs.Link

/-! ### Proofs: messages, time, timers and faults of the ring (ch. 14), and PTP -/

namespace Sys2Proof.Proofs.RingTime
open Sys2Proof Sys2Proof.Machine Sys2Proof.Laws

/-! #### What the commands answer -/

section Answers
variable (s : State) (dt k resid lane domain : Nat) (b : List Byte)

theorem does_streamFrameReceived (head payload crc : List Byte) :
    Does (.streamFrameReceived dt k head payload crc) s ((s.core.advance dt).streamFrame k (head ++ payload ++ crc)) :=
  Fire.does_of_onCore (fun c => (c.advance dt).streamFrame k (head ++ payload ++ crc)) rfl

theorem does_syncSendTimer : Does (.syncSendTimer dt) s (s.core.advance dt).syncSend := Fire.does_of_onCore (fun c => (c.advance dt).syncSend) rfl

theorem does_syncReceived : Does (.syncReceived dt k b resid) s ((s.core.advance dt).syncReceived k b resid) :=
  Fire.does_of_onCore (fun c => (c.advance dt).syncReceived k b resid) rfl

theorem does_syncLossTimeout : Does (.syncLossTimeout dt) s (s.core.advance dt).syncLoss := Fire.does_of_onCore (fun c => (c.advance dt).syncLoss) rfl

theorem does_ringTackTimer : Does (.ringTackTimer dt) s (s.core.advance dt).ringTack := Fire.does_of_onCore (fun c => (c.advance dt).ringTack) rfl

theorem does_fragmentTimeout : Does (.fragmentTimeout dt) s (s.core.advance dt).fragTimeout := Fire.does_of_onCore (fun c => (c.advance dt).fragTimeout) rfl

theorem does_joinRepeatTimer : Does (.joinRepeatTimer dt) s (s.core.advance dt).joinRepeat := Fire.does_of_onCore (fun c => (c.advance dt).joinRepeat) rfl

theorem does_topoRepeatTimer : Does (.topoRepeatTimer dt) s (s.core.advance dt).topoRepeat := Fire.does_of_onCore (fun c => (c.advance dt).topoRepeat) rfl

theorem does_noMasterTimeout : Does (.noMasterTimeout dt) s (s.core.advance dt).noMaster := Fire.does_of_onCore (fun c => (c.advance dt).noMaster) rfl

theorem does_calReportTimeout : Does (.calReportTimeout dt) s (s.core.advance dt).calTimeout := Fire.does_of_onCore (fun c => (c.advance dt).calTimeout) rfl

theorem does_faultBlockReceived : Does (.faultBlockReceived dt k b) s ((s.core.advance dt).faultBlockIn k b) :=
  Fire.does_of_onCore (fun c => (c.advance dt).faultBlockIn k b) rfl

theorem does_ptpAnnounceReceived (rank : List Byte) (iv : Nat) : Does (.ptpAnnounceReceived dt lane domain rank iv) s ((s.core.advance dt).ptpAnnounce lane domain rank iv) :=
  Fire.does_of_onCore (fun c => (c.advance dt).ptpAnnounce lane domain rank iv) rfl

theorem does_ptpSyncReceived (time delay : Int) : Does (.ptpSyncReceived dt lane domain time delay) s ((s.core.advance dt).ptpSync lane domain time delay) :=
  Fire.does_of_onCore (fun c => (c.advance dt).ptpSync lane domain time delay) rfl

theorem does_ptpAnnounceTimeout : Does (.ptpAnnounceTimeout dt) s (s.core.advance dt).ptpLost := Fire.does_of_onCore (fun c => (c.advance dt).ptpLost) rfl

end Answers

/-! #### Messages (R378, R381, R393, R395, R396) -/

section Messages
variable {c : Core} {k : Nat} {b : List Byte}

theorem sweepReportIn_of_placed {src j : Nat} {p : List Byte} (hlen : p.length = 16) (hkind : leAt p 0 1 = 2) (hmaster : c.isMaster = true)
    (hid : leAt p 4 4 = c.rd0 Obj.RING_SWEEP_ID) (hplace : c.placeOf src = some j) :
    c.sweepReportIn src p = (c.wr Obj.RING_SWEEP_STATUS 0 j (if leAt p 1 1 = 0 then 2 else 4)).ringSweepLook := by
  rw [Core.sweepReportIn, if_pos ⟨hmaster, hlen, hkind, hid⟩, hplace]

theorem sweepReportIn_of_other (src : Nat) {p : List Byte} (h : p.length ≠ 16 ∨ leAt p 0 1 ≠ 2 ∨ c.isMaster = false) : c.sweepReportIn src p = c := by
  refine if_neg ?_
  rintro ⟨hmaster, hlen, hkind, -⟩
  obtain h | h | h := h
  · exact h hlen
  · exact h hkind
  · simp [h] at hmaster

/-- What a STREAM frame put together acts on. -/
def streamActs (b : List Byte) (r : Option (List Byte) × Core) : Core := match r.1 with | some m => r.2.streamIn (frSrc b) m | none => r.2

theorem streamFrame_of_delivers (h : c.Delivers k 0x32 b) : c.streamFrame k b = streamActs b ((c.delivered k 0x32 b).reassemble b) :=
  Ring.rxFrame_of_delivers (act := fun t => streamActs b (t.reassemble b)) h

end Messages

/-- A command that takes a frame in acts, where the frame is delivered, on the block that has noted it. -/
theorem does_of_delivers {i : Instr} {s : State} {dt k typ : Nat} {b : List Byte} {act : Core → Core}
    (hi : Does i s ((s.core.advance dt).rxFrame k typ b none id act)) (h : (s.core.advance dt).Delivers k typ b) : Does i s (act ((s.core.advance dt).delivered k typ b)) :=
  Block.does_of_eq hi (Ring.rxFrame_of_delivers h)

/-- Settles O38: a delivered frame acts on the block that has noted it. -/
theorem ringMessagesTakeEffect : Obligations.RingMessagesTakeEffect := by
  unfold Obligations.RingMessagesTakeEffect
  intro s dt k b c p
  refine ⟨fun h => ?_, fun h => ?_, fun h => ?_, fun h => ⟨?_, ?_⟩, fun h => ⟨?_, fun j hlen hkind hmaster hid hplace => ?_, fun hother => ?_⟩,
    fun head payload crc hb h => ⟨fun m hm => ?_, fun hm => ?_⟩⟩
  · exact does_of_delivers (act := fun t => t.foldIn (frSrc b) p) rfl h
  · exact does_of_delivers (act := fun t => t.joinIn (frSrc b) p) rfl h
  · exact does_of_delivers (act := fun t => t.topoIn p) rfl h
  · refine Block.does_of_eq (does_of_delivers (act := fun t => if p.length = 16 ∧ leAt p 0 1 = 1 ∧ !t.isMaster then t.startMeasure (leAt p 4 4) else t) rfl h) ?_
    exact if_congr (by simp [c]) rfl rfl
  · exact does_of_delivers (act := fun t => if p.length = 16 ∧ leAt p 0 1 = 2 ∧ t.isMaster then
      t.calNote (frSrc b) (leAt p 4 4) (if leAt p 1 1 = 0 then some (leAt p 8 4) else none) else t) rfl h
  · exact does_of_delivers (act := fun t => if p.length = 16 ∧ leAt p 0 1 = 1 then t.sweepCommand (leAt p 4 4) (leAt p 8 8) else t) rfl h
  · exact Block.does_of_eq (does_of_delivers (act := fun t => t.sweepReportIn (frSrc b) p) rfl h) (sweepReportIn_of_placed hlen hkind hmaster hid hplace)
  · exact Block.does_of_eq (does_of_delivers (act := fun t => t.sweepReportIn (frSrc b) p) rfl h) (sweepReportIn_of_other _ hother)
  · subst hb
    refine Block.does_of_eq (does_streamFrameReceived s dt k head payload crc) ((streamFrame_of_delivers h).trans ?_)
    rw [streamActs, hm]
  · subst hb
    refine Block.does_of_eq (does_streamFrameReceived s dt k head payload crc) ((streamFrame_of_delivers h).trans ?_)
    rw [streamActs, hm]

/-! #### SYNC and Tacks of the ring (R382, R383, R387) -/

section Time
variable {c : Core} {k resid : Nat} {b : List Byte}

theorem syncSend_of_due (hleads : c.leads = true) (hdue : c.ring.syncAt.all (fun t => decide (t + ns (c.rd0 Obj.SYNC_PERIOD) ≤ c.clk)) = true) :
    c.syncSend =
      let st := c.rd0 Obj.FT_STATE
      (c.ringBoth 0x10 4095 (syncPayload c.ftQ (b2n c.ring.step + 2 * b2n (decide (st = 2)) + 4 * b2n (decide (st = 3))) 0 (c.rd0 Obj.TOPO_EPOCH))).updRing
        (fun r => { r with syncAt := some c.clk, step := false }) := by
  refine if_pos ⟨hleads, ?_⟩
  cases hat : c.ring.syncAt with
  | none => rfl
  | some t => simpa [hat] using hdue

theorem syncSend_of_follower (h : c.leads = false) : c.syncSend = c := if_neg (by simp [h])

theorem ringTack_of_follower (h : c.leads = false) : c.ringTack = c := if_neg (by simp [h])

/-- The payload a SYNC goes on with: its CORR grown by the time it stayed and the delay of the link it came by. -/
def syncOnward (c : Core) (k resid : Nat) (p : List Byte) : List Byte :=
  p.take 12 ++ leBytes 8 (rawOf 64 (signedOf 64 (leAt p 12 8) + resid + c.rd Obj.rp_LINK_DELAY k 0 * 256)) ++ p.drop 20

/-- The block once a SYNC is sent on and its sender learnt of. -/
def syncMet (c : Core) (k : Nat) (b : List Byte) (resid : Nat) : Core :=
  (c.rxFrame k 0x10 b none (syncOnward c k resid) id).learnMaster k (frSrc b) (frHops b) (leAt (frPayload b) 20 4)

/-- The SYNC is no older than the last used of its sender. -/
def syncFresh (t : Core) (b : List Byte) : Bool := t.ring.used.all (fun u => decide (u.1 ≠ frSrc b) || decide (0 < seqDist 32 (frSeq b) u.2))

theorem syncOnward_eq (c : Core) (k resid : Nat) : syncOnward c k resid = fun p =>
    p.take 12 ++ leBytes 8 (rawOf 64 (signedOf 64 (leAt p 12 8) + resid + c.rd Obj.rp_LINK_DELAY k 0 * 256)) ++ p.drop 20 := rfl

theorem syncReceived_of_sound (hrun : c.running = true) (hk : k < 2) (hup : c.rpState k = 3) (hok : frOk b = true) (htype : frType b = 0x10)
    (hlen : (frPayload b).length = 32) (hsrc : frSrc b ≠ c.rd0 Obj.NODE_ID) :
    c.syncReceived k b resid =
      if (syncMet c k b resid).isMaster = true ∨ (syncMet c k b resid).rd0 Obj.RING_STATE = 4 ∨ c.rd Obj.rp_LINK_DELAY k 0 = 0 ∨ syncFresh (syncMet c k b resid) b = false then
        syncMet c k b resid
      else ((syncMet c k b resid).updRing (fun r => { r with used := some (frSrc b, frSeq b) })).useSync
        (((syncMet c k b resid).stampNow : Int) - (((leAt (frPayload b) 0 8 * 65536 + leAt (frPayload b) 8 2 : Nat) : Int) + signedOf 64 (leAt (frPayload b) 12 8)
          + c.rd Obj.rp_LINK_DELAY k 0 * 256)) (bit (leAt (frPayload b) 10 1) 0) := by
  unfold Core.syncReceived
  dsimp only
  rw [if_neg (by simp [hrun, hup, hok, htype, hlen, hsrc]; omega)]
  refine if_congr (or_congr Iff.rfl (or_congr Iff.rfl (or_congr Iff.rfl ?_))) rfl rfl
  rw [Bool.not_eq_true', syncFresh, syncMet, syncOnward_eq]
  cases (Core.learnMaster _ k (frSrc b) (frHops b) (leAt (frPayload b) 20 4)).ring.used with
  | none => rfl
  | some u => rfl

theorem syncLoss_of_due (hrun : c.running = true) (hdue : c.due .syncWait 0 = true) :
    c.syncLoss = if c.rd0 Obj.FT_STATE = 1 then (c.disarm .syncWait 0).lockLost else c.disarm .syncWait 0 := if_pos ⟨hrun, hdue⟩

theorem syncLoss_of_not_due (h : c.running = false ∨ c.due .syncWait 0 = false) : c.syncLoss = c := if_neg (by obtain h | h := h <;> simp [h])

/-- The block with a ring Tack of this instant noted. -/
def ringTackNoted (c : Core) : Core := c.updRing (fun r => { r with tackAt := some c.clk })

/-- The Tack of the pacing source is latched anew unless one came within 1,000 ns. -/
def ringTackLatched (c : Core) (src : Nat) : Core :=
  if src = 9 then (ringTackNoted c).latchCommanded (ringTackNoted c).ftQ
  else if ((ringTackNoted c).chan (src - 1)).lastTack.any (fun l => decide ((ringTackNoted c).ftQ < l + 1000 * 65536)) then ringTackNoted c
  else (ringTackNoted c).latchTack (src - 1) (ringTackNoted c).ftQ

/-- The last Tack of the pacing source goes out, where there is one. -/
def ringTackSent (t : Core) (src : Nat) : Core :=
  match (Tab.get [] t.tacks (src - 1)).head? with
  | some tk => t.ringBoth 0x11 4095 tk.bytes
  | none => t

theorem isSome_and_lt_iff (o : Option Nat) (n d : Nat) : (o.isSome = true ∧ n < o.getD 0 + d) ↔ o.any (fun l => decide (n < l + d)) = true := by
  cases o <;> simp

theorem ringTack_of_due {src : Nat} (hleads : c.leads = true) (hring : c.onRing = true) (hsrc : c.rd0 Obj.PACE_SRC = src) (h1 : 1 ≤ src) (h9 : src ≤ 9)
    (hdue : c.ring.tackAt.all (fun t => decide (t + ns (c.rd0 Obj.RING_TACK_PERIOD) ≤ c.clk)) = true) :
    c.ringTack = ringTackSent (ringTackLatched c src) src := by
  subst hsrc
  refine (if_pos ⟨hleads, hring, h1, h9, ?due⟩).trans ?_
  case due =>
    cases hat : c.ring.tackAt with
    | none => rfl
    | some t => simpa [hat] using hdue
  · exact congrArg (ringTackSent · (c.rd0 Obj.PACE_SRC)) (if_congr Iff.rfl rfl (if_congr (isSome_and_lt_iff _ _ _) rfl rfl))

theorem ringTackSent_of_none {t : Core} {src : Nat} (h : Tab.get [] t.tacks (src - 1) = []) : ringTackSent t src = t := by
  rw [ringTackSent, h]
  rfl

theorem ringTackSent_of_some {t : Core} {src : Nat} {tk : Tack} {l : List Tack} (h : Tab.get [] t.tacks (src - 1) = tk :: l) :
    ringTackSent t src = t.ringBoth 0x11 4095 tk.bytes := by
  rw [ringTackSent, h]
  rfl

/-! #### Timers (R372, R378, R381) -/

theorem mem_fragTimeout (f : Frag) : f ∈ c.fragTimeout.ring.frags ↔ f ∈ c.ring.frags ∧ c.clk < f.since + ms 1 := by
  simp [Core.fragTimeout, List.mem_filter]

theorem joinRepeat_of_noted {x : Nat} (h : c.ring.joinAt = some x) :
    c.joinRepeat = if c.running = true ∧ x + ms 10 ≤ c.clk ∧ c.placeOf (c.rd0 Obj.NODE_ID) = none then c.sendJoin else c := by
  rw [Core.joinRepeat, h]
  exact if_congr (by simp) rfl rfl

theorem joinRepeat_of_none (h : c.ring.joinAt = none) : c.joinRepeat = c := by rw [Core.joinRepeat, h]

theorem topoRepeat_of_noted {x : Nat} (h : c.ring.topoAt = some x) :
    c.topoRepeat = if c.isMaster = true ∧ c.originates = true ∧ x + ms 100 ≤ c.clk ∧ 0 < c.rd0 Obj.TOPO_COUNT then c.sendTopo.ageBound false else c := by
  rw [Core.topoRepeat, h]

theorem topoRepeat_of_none (h : c.ring.topoAt = none) : c.topoRepeat = c := by rw [Core.topoRepeat, h]

theorem calTimeout_of_due (hrun : c.running = true) (hdue : c.due .calReport 0 = true) :
    c.calTimeout = if c.rd0 Obj.CAL_STATE = 1 then ((c.disarm .calReport 0).wr0 Obj.CAL_STATE 3).endComp Obj.CAL_REQ 0 0 false else c.disarm .calReport 0 :=
  if_pos ⟨hrun, hdue⟩

theorem calTimeout_of_not_due (h : c.running = false ∨ c.due .calReport 0 = false) : c.calTimeout = c := if_neg (by obtain h | h := h <;> simp [h])

end Time

/-- Settles O40: each timer by its instant, a SYNC by its checks. -/
theorem ringTimeAndTimers : Obligations.RingTimeAndTimers := by
  unfold Obligations.RingTimeAndTimers
  refine ⟨?_, ?_⟩
  · intro s dt c
    refine ⟨fun hleads hdue => ?_, fun k b resid hrun hk hup hok htype hlen hsrc => ?_, fun hrun hdue => ?_, fun hnot => ?_,
      fun src hleads hring hsrc h1 h9 hdue => ?_, fun hleads => ⟨?_, ?_⟩⟩
    · exact Block.does_of_eq (does_syncSendTimer s dt) (syncSend_of_due hleads hdue)
    · have hsync := syncReceived_of_sound (resid := resid) hrun hk hup hok htype hlen hsrc
      refine ⟨fun hmaster hstate hdelay hfresh => ?_, fun hstop => ?_⟩
      · refine Block.does_of_eq (does_syncReceived s dt k resid b) (hsync.trans (if_neg ?_))
        rintro (h | h | h | h)
        · exact absurd (h.symm.trans hmaster) (by decide)
        · exact hstate h
        · exact hdelay h
        · exact absurd (h.symm.trans hfresh) (by decide)
      · exact Block.does_of_eq (does_syncReceived s dt k resid b) (hsync.trans (if_pos hstop))
    · exact Block.does_of_eq (does_syncLossTimeout s dt) (syncLoss_of_due hrun hdue)
    · exact Block.does_of_eq (does_syncLossTimeout s dt) (syncLoss_of_not_due hnot)
    · have htack := ringTack_of_due hleads hring hsrc h1 h9 hdue
      refine ⟨fun hnone => ?_, fun tk l hsome => ?_⟩
      · exact Block.does_of_eq (does_ringTackTimer s dt) (htack.trans (ringTackSent_of_none hnone))
      · exact Block.does_of_eq (does_ringTackTimer s dt) (htack.trans (ringTackSent_of_some hsome))
    · exact Block.does_of_eq (does_syncSendTimer s dt) (syncSend_of_follower hleads)
    · exact Block.does_of_eq (does_ringTackTimer s dt) (ringTack_of_follower hleads)
  · intro s dt c
    refine ⟨⟨_, does_fragmentTimeout s dt, mem_fragTimeout, rfl⟩, fun x hx => ?_, fun hnone => ?_, fun x hx => ?_, fun hnone => ?_, does_noMasterTimeout s dt,
      fun hrun hdue => ?_, fun hnot => ?_⟩
    · exact Block.does_of_eq (does_joinRepeatTimer s dt) (joinRepeat_of_noted hx)
    · exact Block.does_of_eq (does_joinRepeatTimer s dt) (joinRepeat_of_none hnone)
    · exact Block.does_of_eq (does_topoRepeatTimer s dt) (topoRepeat_of_noted hx)
    · exact Block.does_of_eq (does_topoRepeatTimer s dt) (topoRepeat_of_none hnone)
    · exact Block.does_of_eq (does_calReportTimeout s dt) (calTimeout_of_due hrun hdue)
    · exact Block.does_of_eq (does_calReportTimeout s dt) (calTimeout_of_not_due hnot)

/-! #### Fault blocks (R389, R390) -/

section FaultBlocks
variable {c : Core} {k : Nat} {b : List Byte}

/-- The port is listened to, and the block is sound. -/
structure SoundBlock (c : Core) (k : Nat) (b : List Byte) : Prop where
  running : c.running = true
  port : k < 2
  up : c.rpState k = 3
  length : b.length = 7
  crc : leAt b 5 2 = Crypto.crc16 0x1021 (b.take 5) 0xFFFF

/-- The entry is that of a fault block met at a port. -/
def isBlockAt (org fseq k : Nat) (x : Nat × Nat × Nat × Nat) : Bool := decide (x.1 = org ∧ x.2.1 = fseq ∧ x.2.2.1 = k)

/-- The block with a fault block met once more at a port. -/
def blockNoted (c : Core) (org fseq k n : Nat) : Core :=
  c.updRing (fun r => { r with blocks := ((org, fseq, k, n + 1) :: r.blocks.filter (fun x => !isBlockAt org fseq k x)).take 64 })

/-- How often a fault block has been passed on from a port. -/
def blockCount (c : Core) (org fseq k : Nat) : Nat := match c.ring.blocks.find? (isBlockAt org fseq k) with | some x => x.2.2.2 | none => 0

/-- The fault block sent on by the other port, where that is UP. -/
def blockOn (t : Core) (k : Nat) (b : List Byte) : Core := if t.upPorts.contains (1 - k) then t.emit .faultBlock (1 - k) [] b else t

theorem faultBlockIn_of_damaged (hrun : c.running = true) (hk : k < 2) (hup : c.rpState k = 3)
    (hbad : b.length ≠ 7 ∨ leAt b 5 2 ≠ Crypto.crc16 0x1021 (b.take 5) 0xFFFF) : c.faultBlockIn k b = c.inc Obj.rp_LINK_ERR k 3 1 :=
  (if_neg (by simp [hrun, hup]; omega)).trans (if_pos hbad)

theorem faultBlockIn_of_sound {w org fseq : Nat} (h : SoundBlock c k b) (hw : leAt b 0 5 = w) (horg : w % 4096 = org) (hseq : w / 65536 % 256 = fseq) :
    c.faultBlockIn k b =
      if (w / 4096 % 16 ≠ 1 ∧ w / 4096 % 16 ≠ 2) ∨ w / 2 ^ 24 ≠ 0 ∨ (org = c.rd0 Obj.NODE_ID ∧ org ≠ 0) then c
      else
        let n := blockCount c org fseq k
        let t := blockNoted c org fseq k n
        let t := if n < 4 ∧ t.upPorts.contains (1 - k) then t.emit .faultBlock (1 - k) [] b else t
        if c.ring.blocks.any (fun x => decide (x.1 = org ∧ x.2.1 = fseq)) then t else t.occur 1543 0 := by
  obtain ⟨hrun, hk, hup, hlen, hcrc⟩ := h
  subst hw horg hseq
  refine (if_neg (by simp [hrun, hup]; omega)).trans ((if_neg (by simp [hlen, hcrc])).trans ?_)
  rfl

theorem emitted_of_few {t : Core} {n : Nat} (h : n < 4) :
    (if n < 4 ∧ t.upPorts.contains (1 - k) then t.emit .faultBlock (1 - k) [] b else t) = blockOn t k b := if_congr (by simp [h]) rfl rfl

theorem emitted_eq {t : Core} {n : Nat} :
    (if n < 4 ∧ t.upPorts.contains (1 - k) then t.emit .faultBlock (1 - k) [] b else t) = if n < 4 then blockOn t k b else t := by
  by_cases h : n < 4
  · rw [emitted_of_few h, if_pos h]
  · rw [if_neg h, if_neg (by simp [h])]

variable {org fseq : Nat}

theorem blockCount_of_none (h : c.ring.blocks.find? (isBlockAt org fseq k) = none) : blockCount c org fseq k = 0 := by rw [blockCount, h]

theorem blockCount_of_some {x : Nat × Nat × Nat × Nat} (h : c.ring.blocks.find? (isBlockAt org fseq k) = some x) : blockCount c org fseq k = x.2.2.2 := by
  rw [blockCount, h]

/-- A fault block never met was not met at a port either. -/
theorem find_of_unmet (h : c.ring.blocks.any (fun x => decide (x.1 = org ∧ x.2.1 = fseq)) = false) : c.ring.blocks.find? (isBlockAt org fseq k) = none := by
  rw [List.any_eq_false] at h
  refine List.find?_eq_none.mpr fun x hx hhere => h x hx ?_
  obtain ⟨horg, hseq, -⟩ : x.1 = org ∧ x.2.1 = fseq ∧ x.2.2.1 = k := by simpa [isBlockAt] using hhere
  simp [horg, hseq]

/-- One met at a port was met. -/
theorem any_of_find {n : Nat} (h : c.ring.blocks.find? (isBlockAt org fseq k) = some (org, fseq, k, n)) :
    c.ring.blocks.any (fun x => decide (x.1 = org ∧ x.2.1 = fseq)) = true :=
  List.any_eq_true.mpr ⟨_, List.mem_of_find?_eq_some h, by simp⟩

end FaultBlocks

/-- Settles O41: a fault block is damaged, not for this node, met the first time, met at the other port, or met at this one. -/
theorem faultBlocksStopOnce : Obligations.FaultBlocksStopOnce := by
  unfold Obligations.FaultBlocksStopOnce
  intro s dt k b c w org fseq hrun hk hup
  refine ⟨fun hbad => Block.does_of_eq (does_faultBlockReceived s dt k b) (faultBlockIn_of_damaged hrun hk hup hbad), fun hlen hcrc => ?_⟩
  have hblock := faultBlockIn_of_sound (c := c) (w := w) (org := org) (fseq := fseq) ⟨hrun, hk, hup, hlen, hcrc⟩ rfl rfl rfl
  refine ⟨fun hnot => Block.does_of_eq (does_faultBlockReceived s dt k b) (hblock.trans (if_pos hnot)), ?_⟩
  intro hkind hhigh horg on note here
  have htaken : ¬ ((w / 4096 % 16 ≠ 1 ∧ w / 4096 % 16 ≠ 2) ∨ w / 2 ^ 24 ≠ 0 ∨ (org = c.rd0 Obj.NODE_ID ∧ org ≠ 0)) := by
    rintro (⟨h1, h2⟩ | h | ⟨h1, h2⟩)
    · exact hkind.elim h1 h2
    · exact h hhigh
    · exact horg.elim (fun h => h h1) h2
  replace hblock := hblock.trans (if_neg htaken)
  refine ⟨fun hnew => ?_, fun hmet hhere => ?_, fun n hhere => ?_⟩
  · have hcount := blockCount_of_none (find_of_unmet (k := k) hnew)
    refine Block.does_of_eq (does_faultBlockReceived s dt k b) (hblock.trans ((if_neg (Bool.eq_false_iff.mp hnew)).trans ?_))
    rw [hcount, emitted_of_few (by decide)]
    rfl
  · have hcount := blockCount_of_none hhere
    refine Block.does_of_eq (does_faultBlockReceived s dt k b) (hblock.trans ((if_pos hmet).trans ?_))
    rw [hcount, emitted_of_few (by decide)]
    rfl
  · have hcount := blockCount_of_some hhere
    refine Block.does_of_eq (does_faultBlockReceived s dt k b) (hblock.trans ((if_pos (any_of_find hhere)).trans ?_))
    rw [hcount, emitted_eq]
    rfl

/-! #### PTP (R386) -/

section Ptp
variable {c : Core} {lane domain iv : Nat} {rank : List Byte} {time delay : Int}

theorem ptpAnnounce_of_taken (hon : c.ptpOn lane domain = true)
    (hbetter : c.ptp.best = [] ∨ decide ((c.ptp.best.drop 6).take 8 = (rank.drop 6).take 8) = true ∨ bytesLess rank c.ptp.best = true) :
    c.ptpAnnounce lane domain rank iv =
      let gm := (rank.drop 6).take 8
      (Core.wr0 { c with ptp := { c.ptp with best := rank, good := if decide ((c.ptp.best.drop 6).take 8 = gm) then c.ptp.good else 0 } } Obj.PTP_GM (ofLe gm)).arm
        .ptpAnnounce 0 (3 * ns iv) :=
  (if_neg (by simp [hon])).trans (if_pos hbetter)

theorem ptpAnnounce_of_other
    (h : c.ptpOn lane domain = false ∨ (c.ptp.best ≠ [] ∧ decide ((c.ptp.best.drop 6).take 8 = (rank.drop 6).take 8) = false ∧ bytesLess rank c.ptp.best = false)) :
    c.ptpAnnounce lane domain rank iv = c := by
  obtain h | ⟨hbest, hsame, hless⟩ := h
  · exact if_pos (by simp [h])
  · by_cases hon : c.ptpOn lane domain = true
    · refine (if_neg (by simp [hon])).trans (if_neg ?_)
      rintro (h | h | h)
      · exact hbest h
      · exact absurd (hsame.symm.trans h) (by decide)
      · exact absurd (hless.symm.trans h) (by decide)
    · exact if_pos (by simp [hon])

/-- The error of FT against PTP, in 1/65536 ns. -/
def ptpError (c : Core) (time delay : Int) : Int := (c.ftQ : Int) - ((time + delay) / 65536 + c.rdI Obj.PTP_OFFSET_NS 0 0) * 65536

/-- The block with that error stored. -/
def ptpErrStored (c : Core) (time delay : Int) : Core := c.wrI Obj.PTP_ERR 0 0 (satS 32 (roundDiv (ptpError c time delay) 65536))

theorem ptp_ptpErrStored (c : Core) (time delay : Int) : (ptpErrStored c time delay).ptp = c.ptp := by simp [ptpErrStored]

theorem ptpSync_of_none (h : c.ptpOn lane domain = false ∨ c.ptp.best = []) : c.ptpSync lane domain time delay = c :=
  if_pos (by obtain h | h := h <;> simp [h])

theorem ptpSync_of_on (hon : c.ptpOn lane domain = true) (hbest : c.ptp.best ≠ []) :
    c.ptpSync lane domain time delay =
      let e := ptpError c time delay
      let t := ptpErrStored c time delay
      if !c.ptp.adopted ∧ !t.ringPrints then
        let u : Core := { t with ptp := { c.ptp with adopted := true, good := 0 } }
        if e < 0 then (u.stepFtQ (-e).toNat).updRing (fun r => { r with step := u.isMaster }) else u.ptpTrim
      else
        let n := if e.natAbs ≤ 100 * 65536 then c.ptp.good + 1 else 0
        let u := Core.ptpTrim { t with ptp := { c.ptp with good := n } }
        if 16 ≤ n then Core.wr0 { u with ptp := { u.ptp with adopted := true } } Obj.FT_STATE 2 else u := by
  refine (if_neg (by simp [hon, hbest])).trans ?_
  rw [← ptp_ptpErrStored c time delay]
  rfl

theorem ptpLost_of_due (hrun : c.running = true) (hdue : c.due .ptpAnnounce 0 = true) :
    c.ptpLost =
      let t := Core.disarm { c with ptp := { c.ptp with best := [], good := 0 } } .ptpAnnounce 0
      if c.rd0 Obj.FT_STATE ≠ 2 then t else if c.inPrint then (t.wr0 Obj.FT_STATE 3).occur 619 0 else t.wr0 Obj.FT_STATE 0 :=
  (if_pos ⟨hrun, hdue⟩).trans (ite_not (p := c.rd0 Obj.FT_STATE = 2) _ _).symm

theorem ptpLost_of_not_due (h : c.running = false ∨ c.due .ptpAnnounce 0 = false) : c.ptpLost = c := if_neg (by obtain h | h := h <;> simp [h])

end Ptp

/-- Settles O42: Announce, Sync and the lost grandmaster, each by its condition. -/
theorem ptpDisciplinesTime : Obligations.PtpDisciplinesTime := by
  unfold Obligations.PtpDisciplinesTime
  intro s dt lane domain c
  refine ⟨fun rank iv => ?_, fun time delay => ?_, fun hrun hdue => ?_, fun hnot => ?_⟩
  · exact ⟨fun hon hbetter => Block.does_of_eq (does_ptpAnnounceReceived s dt lane domain rank iv) (ptpAnnounce_of_taken hon hbetter),
      fun hother => Block.does_of_eq (does_ptpAnnounceReceived s dt lane domain rank iv) (ptpAnnounce_of_other hother)⟩
  · refine ⟨fun hnone => ?_, fun hon hbest hfirst hquiet => ?_, fun hon hbest htrim => ?_⟩
    · exact Block.does_of_eq (does_ptpSyncReceived s dt lane domain time delay) (ptpSync_of_none hnone)
    · refine Block.does_of_eq (does_ptpSyncReceived s dt lane domain time delay) ((ptpSync_of_on hon hbest).trans (if_pos ⟨by simp [hfirst], ?_⟩))
      exact Bool.not_eq_true' _ ▸ hquiet
    · refine Block.does_of_eq (does_ptpSyncReceived s dt lane domain time delay) ((ptpSync_of_on hon hbest).trans (if_neg ?_))
      rintro ⟨hfirst, hquiet⟩
      rw [Bool.not_eq_true'] at hfirst hquiet
      obtain h | h := htrim
      · exact absurd (hfirst.symm.trans h) (by decide)
      · exact absurd (hquiet.symm.trans h) (by decide)
  · exact Block.does_of_eq (does_ptpAnnounceTimeout s dt) (ptpLost_of_due hrun hdue)
  · exact Block.does_of_eq (does_ptpAnnounceTimeout s dt) (ptpLost_of_not_due hnot)

end Sys2Proof.Proofs.RingTime

/-! ### Proofs: the journal and FOP over the ring (ch. 17, R392) -/

namespace Sys2Proof.Proofs.Journal
open Sys2Proof Sys2Proof.Machine Sys2Proof.Laws

section Answers
variable (s : State) (dt wear : Nat) (fail : Bool)

theorem does_journalTimer : Does (.journalTimer dt fail wear) s ((s.core.advance dt).journalTimer fail wear) :=
  Fire.does_of_onCore (fun c => (c.advance dt).journalTimer fail wear) rfl

theorem does_journalRetry : Does (.journalRetry dt fail wear) s ((s.core.advance dt).journalRetry fail wear) :=
  Fire.does_of_onCore (fun c => (c.advance dt).journalRetry fail wear) rfl

theorem doesBoth_fopFrameReceived (p : Nat) (head payload crc : List Byte) :
    DoesBoth (.fopFrameReceived dt p head payload crc) s ((s.core.advance dt).fopFrame s.mem p (head ++ payload ++ crc)).1
      ((s.core.advance dt).fopFrame s.mem p (head ++ payload ++ crc)).2 := rfl

end Answers

/-! #### Records (R461, R463) -/

section Record
variable {c : Core} {wear : Nat}

/-- The end of another object's action leaves an object's completion status. -/
theorem compO_endComp_of_other {o p : Ob} {i j a b : Nat} (ok : Bool)
    (h : (o.idx + o.stride * i) * 65536 + (if o.nel > 1 then o.sub else o.sub + j) ≠ (p.idx + p.stride * a) * 65536 + (if p.nel > 1 then p.sub else p.sub + b)) :
    (c.endComp p a b ok).compO o i j = c.compO o i j := by
  obtain he | ⟨-, he⟩ := endComp_cases c p a b ok
  · rw [he]
  · rw [he]
    exact tab_get_set_ne _ _ _ _ _ h

/-- A record written with the wear noted before. -/
def recorded (c : Core) : Core :=
  ({ c with journal := c.journalRecord :: c.journal, dirty := [], dirtySince := none, journalFailing := false } : Core).disarm .journal 0

theorem noteWear_same (h : wear = c.rd0 Obj.RET_WEAR) : c.noteWear wear = c := by
  subst h
  unfold Core.noteWear
  dsimp only
  rw [if_pos rfl, if_neg (by omega)]

theorem journalDone_of_same_wear (h : wear = c.rd0 Obj.RET_WEAR) :
    c.journalDone wear = ((recorded c).endComp Obj.JOURNAL_SYNC 0 0 true).endComp Obj.RESTORE_FACTORY 0 0 true := by
  rw [Core.journalDone, noteWear_same h]
  rfl

/-- A record takes all that waits, and both requests that wait for it end DONE. -/
theorem journalDone_writes (h : wear = c.rd0 Obj.RET_WEAR) :
    (c.journalDone wear).journal = ⟨c.dirty.filterMap (fun a => (Tab.get? c.objs a).map (fun v => (a, v))), true, c.ftNs⟩ :: c.journal ∧ (c.journalDone wear).dirty = [] ∧
      (c.journalDone wear).dirtySince = none ∧ (c.journalDone wear).objs = c.objs ∧
      (c.compO Obj.JOURNAL_SYNC 0 0 = 1 → (c.journalDone wear).compO Obj.JOURNAL_SYNC 0 0 = 2) ∧
      (c.compO Obj.RESTORE_FACTORY 0 0 = 1 → (c.journalDone wear).compO Obj.RESTORE_FACTORY 0 0 = 2) ∧ (c.journalDone wear).journalFailing = false := by
  have hframe : c.journalDone wear = { recorded c with comp := (c.journalDone wear).comp } := by
    rw [journalDone_of_same_wear h, Modes.endComp_frame, Modes.endComp_frame (recorded c)]
  refine ⟨?_, ?_, ?_, ?_, fun hsync => ?_, fun hrestore => ?_, ?_⟩
  · rw [hframe]; rfl
  · rw [hframe]; rfl
  · rw [hframe]; rfl
  · rw [hframe]; rfl
  · rw [journalDone_of_same_wear h, compO_endComp_of_other _ (by decide)]
    exact Modes.compO_endComp_of_pending _ hsync
  · rw [journalDone_of_same_wear h]
    exact Modes.compO_endComp_of_pending _ ((compO_endComp_of_other (c := recorded c) true (by decide)).trans hrestore)
  · rw [hframe]; rfl

/-- The block once a record could not be written. -/
def recordFailed (c : Core) : Core := (({ c with journalFailing := true } : Core).arm .journal 0 (ms 10)).endComp Obj.JOURNAL_SYNC 0 0 false

theorem journalFail_of_first (h : c.journalFailing = false) : c.journalFail = (recordFailed c).occur 1585 0 := if_neg (by simp [h])

theorem recordFailed_keeps :
    (recordFailed c).journal = c.journal ∧ (recordFailed c).dirty = c.dirty ∧ (recordFailed c).journalFailing = true ∧
      Tab.get? (recordFailed c).timers (timerKey .journal 0) = some (c.clk + ms 10) ∧
      (c.compO Obj.JOURNAL_SYNC 0 0 = 1 → (recordFailed c).compO Obj.JOURNAL_SYNC 0 0 = 3) := by
  refine ⟨?_, ?_, ?_, ?_, fun hsync => Modes.compO_endComp_of_pending false hsync⟩
  · rw [recordFailed, Modes.endComp_frame]; rfl
  · rw [recordFailed, Modes.endComp_frame]; rfl
  · rw [recordFailed, Modes.endComp_frame]; rfl
  · rw [recordFailed, Modes.endComp_frame, arm_timers]
    exact tab_find_set _ _ _

theorem journalTimer_of_waiting (fail : Bool) (hdirty : c.dirty ≠ []) (hfail : c.journalFailing = false) (hrun : c.running = true) :
    c.journalTimer fail wear = c.choose fail Core.journalFail (fun t => t.journalDone wear) := if_neg (by simp [hdirty, hfail, hrun])

theorem journalTimer_of_clean (fail : Bool) (hdirty : c.dirty = []) : c.journalTimer fail wear = c := if_pos (by simp [hdirty])

theorem journalRetry_of_due (fail : Bool) (hfail : c.journalFailing = true) (hrun : c.running = true) (hdue : c.due .journal 0 = true) :
    c.journalRetry fail wear = c.choose fail Core.journalFail (fun t => t.journalDone wear) := if_pos ⟨hfail, hrun, hdue⟩

theorem journalRetry_of_written (fail : Bool) (hfail : c.journalFailing = false) : c.journalRetry fail wear = c := if_neg (by simp [hfail])

end Record

/-! #### FOP over the ring (R392) -/

section Tunnel
variable {c : Core} {m : List Host.Cell} {p : Nat} {b : List Byte}

/-- The block once the frame is checked, sent on and kept. -/
def fopFrameKept (c : Core) (p : Nat) (b : List Byte) : Core := c.rxFrame p 0x31 b (c.fopSerial b) id (fun t => (t.reassemble b).2)

theorem fopFrame_of_message {msg : List Byte} (hdel : c.delivers p 0x31 b (c.fopSerial b) = true) (hmsg : (c.reassemble b).1 = some msg) :
    c.fopFrame m p b = (fopFrameKept c p b).fopMessage m {} (frSrc b) msg := by
  rw [Core.fopFrame, hmsg]
  exact if_pos hdel

theorem fopFrame_of_none (h : c.delivers p 0x31 b (c.fopSerial b) = false ∨ (c.reassemble b).1 = none) : c.fopFrame m p b = (fopFrameKept c p b, m) := by
  unfold Core.fopFrame
  cases hmsg : (c.reassemble b).1 with
  | none => rfl
  | some msg =>
    obtain h | h := h
    · exact if_neg (by simp [h])
    · simp [hmsg] at h

end Tunnel

/-- Settles O51: a record is written or is not, and a FOP frame ends a message or does not. -/
theorem journalAndTunnelAct : Obligations.JournalAndTunnelAct := by
  unfold Obligations.JournalAndTunnelAct
  intro s dt wear c
  refine ⟨fun hdirty hfail hrun hwear => ?_, fun hdirty hfail hrun => ?_, fun hfail hrun hdue hwear => ?_, ?_, ?_, fun hdirty fail => ?_, fun hfail fail => ?_⟩
  · obtain ⟨hj, hd, hs, ho, h1, h2, -⟩ := journalDone_writes (c := c) hwear
    exact ⟨_, Block.does_of_eq (does_journalTimer s dt wear false) (journalTimer_of_waiting false hdirty hfail hrun), hj, hd, hs, ho, h1, h2⟩
  · exact ⟨recordFailed c, Block.does_of_eq (does_journalTimer s dt wear true) ((journalTimer_of_waiting true hdirty hfail hrun).trans (journalFail_of_first hfail)),
      recordFailed_keeps⟩
  · obtain ⟨-, hd, -, ho, -, -, hf⟩ := journalDone_writes (c := c) hwear
    exact ⟨_, Block.does_of_eq (does_journalRetry s dt wear false) (journalRetry_of_due false hfail hrun hdue), hd, hf, ho⟩
  · intro p msg head payload crc b u hdel hmsg r
    exact Power.doesBoth_of_eq (doesBoth_fopFrameReceived s dt p head payload crc) (fopFrame_of_message hdel hmsg)
  · intro p head payload crc b hnone
    exact Power.doesBoth_of_eq (doesBoth_fopFrameReceived s dt p head payload crc) (fopFrame_of_none hnone)
  · exact Block.does_of_eq (does_journalTimer s dt wear fail) (journalTimer_of_clean fail hdirty)
  · exact Block.does_of_eq (does_journalRetry s dt wear fail) (journalRetry_of_written fail hfail)

end Sys2Proof.Proofs.Journal

/-! ### Proofs: pairs (ch. 15) -/

namespace Sys2Proof.Proofs.Pair
open Sys2Proof Sys2Proof.Machine Sys2Proof.Laws

section Roles
variable {c : Core} {seq : Nat} {f : Core → Core} {i : Instr} {s : State} {dt : Nat}

theorem asStandby_of_standby (hst : c.isStandby = true) (hrun : c.running = true) : c.asStandby seq f = f (c.rxMirror seq) := if_pos ⟨hst, hrun⟩

theorem asStandby_of_other (h : c.isStandby = false ∨ c.running = false) : c.asStandby seq f = c := if_neg (by obtain h | h := h <;> simp [h])

theorem asActive_of_active (hact : c.isPairActive = true) (hrun : c.running = true) : c.asActive f = f c := if_pos ⟨hact, hrun⟩

theorem asActive_of_other (h : c.isPairActive = false ∨ c.running = false) : c.asActive f = c := if_neg (by obtain h | h := h <;> simp [h])

/-- A record acts on a standby once its SEQ is noted. -/
theorem does_of_standby (hi : Does i s ((s.core.advance dt).asStandby seq f)) (hst : (s.core.advance dt).isStandby = true) (hrun : (s.core.advance dt).running = true) :
    Does i s (f ((s.core.advance dt).rxMirror seq)) := Block.does_of_eq hi (asStandby_of_standby hst hrun)

/-- A record acts on nobody else. -/
theorem does_of_no_standby (hi : Does i s ((s.core.advance dt).asStandby seq f)) (h : (s.core.advance dt).isStandby = false ∨ (s.core.advance dt).running = false) :
    Does i s (s.core.advance dt) := Block.does_of_eq hi (asStandby_of_other h)

theorem does_of_active (hi : Does i s ((s.core.advance dt).asActive f)) (hact : (s.core.advance dt).isPairActive = true) (hrun : (s.core.advance dt).running = true) :
    Does i s (f (s.core.advance dt)) := Block.does_of_eq hi (asActive_of_active hact hrun)

theorem does_of_no_active (hi : Does i s ((s.core.advance dt).asActive f)) (h : (s.core.advance dt).isPairActive = false ∨ (s.core.advance dt).running = false) :
    Does i s (s.core.advance dt) := Block.does_of_eq hi (asActive_of_other h)

end Roles

/-! #### Records on the standby (R406 to R411, R419) -/

section Records
variable {c : Core} {seq : Nat}

/-- The block with the SEQ of a record noted. -/
def recordNoted (c : Core) (seq : Nat) : Core := { c with pair := { c.pair with rxSeq := some seq, lastRec := some c.clk, silenced := 0 } }

theorem rxMirror_of_next (h : c.pair.rxSeq = none ∨ c.pair.rxSeq.any (fun q => decide ((q + 1) % 2 ^ 32 = seq)) = true) : c.rxMirror seq = recordNoted c seq := by
  unfold Core.rxMirror
  cases hq : c.pair.rxSeq with
  | none => rfl
  | some q => exact if_pos (by simpa [hq] using h)

theorem rxMirror_of_gap {q : Nat} (hq : c.pair.rxSeq = some q) (hne : (q + 1) % 2 ^ 32 ≠ seq) :
    c.rxMirror seq = (((recordNoted c seq).inc0 Obj.MIRROR_GAPS).occur 1556 0).syncReq := by
  unfold Core.rxMirror
  simp only [hq]
  exact if_neg hne

end Records

/-- Settles O43: a record acts on a standby alone, and its SEQ decides whether a gap is met. -/
theorem mirrorRecordsActOnTheStandby : Obligations.MirrorRecordsActOnTheStandby := by
  unfold Obligations.MirrorRecordsActOnTheStandby
  intro s dt seq c t
  refine ⟨fun hnot => ⟨?_, ?_, ?_⟩, fun hst hrun => ⟨rxMirror_of_next, fun q hq hne => rxMirror_of_gap hq hne, ?_, ?_, ?_, ?_, ?_, ?_, ?_, ?_, ?_, ?_, ?_⟩⟩
  · intro j fired lost ds
    exact does_of_no_standby (f := fun t => t.each t.shared (fun t p => t.takeColumn j fired lost ds p)) rfl hnot
  · intro p b
    exact does_of_no_standby (f := fun t => if 64 ≤ p then t else (t.adoptThim p (thimOfBody b)).mirror 0x81 0 seq []) rfl hnot
  · intro e
    exact does_of_no_standby (f := fun t => (t.wr0 Obj.PAIR_EPOCH e).takeStart t.colNext) rfl hnot
  · intro j fired lost ds
    exact does_of_standby (f := fun t => t.each t.shared (fun t p => t.takeColumn j fired lost ds p)) rfl hst hrun
  · intro first b
    exact does_of_standby (f := fun t => t.takeThermal first b) rfl hst hrun
  · intro j tf st cid seam dg
    exact does_of_standby (f := fun t => t.refreshDigest.ephemRecord j tf st cid seam dg) rfl hst hrun
  · intro j ssn d la pg
    exact does_of_standby (f := fun t => { t with pair := { t.pair with stream := [j, ssn, d, la, pg] } }) rfl hst hrun
  · intro ref es
    exact does_of_standby (f := fun t => (es.filter (fun e : Nat × Nat => t.sharedPort (e.1 / 1024))).foldl (fun t (e : Nat × Nat) => t.mirrorChange ref false e.1 e.2 [e.1 / 1024]) t)
      rfl hst hrun
  · intro ref flags
    exact does_of_standby (f := fun t => t.mirrorChange ref true 0 flags t.shared) rfl hst hrun
  · intro p b hp
    exact Block.does_of_eq (does_of_standby (f := fun t => if 64 ≤ p then t else (t.adoptThim p (thimOfBody b)).mirror 0x81 0 seq []) rfl hst hrun)
      (if_neg (Nat.not_le.mpr hp))
  · intro p b hp
    exact Block.does_of_eq (does_of_standby (f := fun t => if 64 ≤ p then t else (t.adoptThim p (thimOfBody b)).mirror 0x81 0 seq []) rfl hst hrun) (if_pos hp)
  · intro n b
    exact does_of_standby (f := fun t => t.takeMeasRec n b) rfl hst hrun
  · intro id kind last o b
    exact does_of_standby (f := fun t => t.snapRecord id kind last o b) rfl hst hrun
  · intro e
    exact does_of_standby (f := fun t => (t.wr0 Obj.PAIR_EPOCH e).takeStart t.colNext) rfl hst hrun

/-! #### The active member (R406, R408, R410, R412) -/

section Active

/-- An ACK lets each commit that waits for it go on. -/
def ackTaken (ref : Nat) (t : Core) : Core :=
  t.each (t.shared.filter (fun p => (t.port p).thim.mirrorWait && decide ((t.port p).thim.mirrorSeq = ref))) (fun t p => (t.disarm .thimbleAck p).thimSend p)

/-- A STANDBY record noted. -/
def standbyNoted (n : Nat) (t : Core) : Core :=
  let u := Core.wr0 { t with pair := { t.pair with standbyAt := some t.clk, standbyLost := decide (n ≠ 0) } } Obj.PARTNER_READY n
  if bit n 1 then u else u.wr0 Obj.PARTNER_DIGEST (u.rd0 Obj.PAIR_DIGEST)

/-- A STANDBY record taken: the first that is not ready is an occurrence. -/
def standbyTaken (n : Nat) (t : Core) : Core := if n ≠ 0 ∧ !t.pair.standbyLost then (standbyNoted n t).occur 1555 0 else standbyNoted n t

/-- The standby's silence noticed once. -/
def standbyMissed (t : Core) : Core :=
  if t.olderThan t.pair.standbyAt (ms 5) ∧ !t.pair.standbyLost then Core.occur { t with pair := { t.pair with standbyLost := true } } 1555 0 else t

theorem standbyTaken_eq (n : Nat) (c : Core) :
    standbyTaken n c = if n ≠ 0 ∧ c.pair.standbyLost = false then (standbyNoted n c).occur 1555 0 else standbyNoted n c := if_congr (by simp) rfl rfl

theorem standbyMissed_eq (c : Core) :
    standbyMissed c = if c.olderThan c.pair.standbyAt (ms 5) = true ∧ c.pair.standbyLost = false then
      Core.occur { c with pair := { c.pair with standbyLost := true } } 1555 0 else c := if_congr (by simp) rfl rfl

variable (s : State) (dt : Nat)

theorem does_mirrorAck (ref : Nat) : Does (.mirrorAck dt ref) s ((s.core.advance dt).asActive (ackTaken ref)) := rfl

theorem does_mirrorSyncReq (id : Nat) : Does (.mirrorSyncReq dt id) s ((s.core.advance dt).asActive (fun t => t.snapshot id)) := rfl

theorem does_mirrorStandby (n : Nat) : Does (.mirrorStandby dt n) s ((s.core.advance dt).asActive (standbyTaken n)) := rfl

theorem does_mirrorEphemTimer : Does (.mirrorEphemTimer dt) s ((s.core.advance dt).asActive (fun t => t.refreshDigest.sendEphem.mirrorPump)) := rfl

theorem does_mirrorStreamTimer : Does (.mirrorStreamTimer dt) s ((s.core.advance dt).asActive (fun t => t.sendStreamRec.mirrorPump)) := rfl

theorem does_standbyRecordTimeout : Does (.standbyRecordTimeout dt) s ((s.core.advance dt).asActive standbyMissed) := rfl

theorem does_standbyRecordTimer (pp : Bool) : Does (.standbyRecordTimer dt pp) s
    ((s.core.advance dt).when ((s.core.advance dt).isStandby && (s.core.advance dt).running) (fun t =>
      (t.refreshDigest.setNotReady (t.refreshDigest.notReady pp)).mirror 0x83 0 (t.refreshDigest.notReady pp) (leBytes 4 0))) := rfl

theorem does_thimbleAckWaitTimeout (p : Nat) : Does (.thimbleAckWaitTimeout dt p) s
    ((s.core.advance dt).when ((s.core.advance dt).due .thimbleAck p) (fun t =>
      if (t.port p).thim.mirrorWait then ((t.disarm .thimbleAck p).occur 1556 0).thimSend p else t.disarm .thimbleAck p)) := rfl

theorem does_pairSilenceExpiry : Does (.pairSilenceExpiry dt) s (s.core.advance dt).pairSilence := rfl

end Active

/-- Settles O44: the active member's messages and timers, then the standby's. -/
theorem activeMemberMirrorsAndListens : Obligations.ActiveMemberMirrorsAndListens := by
  unfold Obligations.ActiveMemberMirrorsAndListens
  intro s dt c
  refine ⟨fun hact hrun => ⟨fun ref => ?_, fun id => ?_, fun n => ?_, ?_, ?_, ?_⟩, fun hnot => ⟨fun ref => ?_, fun id => ?_, fun n => ?_, ?_, ?_, ?_⟩,
    fun pp hst hrun => ?_, fun p => ?_, does_pairSilenceExpiry s dt⟩
  · exact does_of_active (does_mirrorAck s dt ref) hact hrun
  · exact does_of_active (does_mirrorSyncReq s dt id) hact hrun
  · exact Block.does_of_eq (does_of_active (does_mirrorStandby s dt n) hact hrun) (standbyTaken_eq n c)
  · exact does_of_active (does_mirrorEphemTimer s dt) hact hrun
  · exact does_of_active (does_mirrorStreamTimer s dt) hact hrun
  · exact Block.does_of_eq (does_of_active (does_standbyRecordTimeout s dt) hact hrun) (standbyMissed_eq c)
  · exact does_of_no_active (does_mirrorAck s dt ref) hnot
  · exact does_of_no_active (does_mirrorSyncReq s dt id) hnot
  · exact does_of_no_active (does_mirrorStandby s dt n) hnot
  · exact does_of_no_active (does_mirrorEphemTimer s dt) hnot
  · exact does_of_no_active (does_mirrorStreamTimer s dt) hnot
  · exact does_of_no_active (does_standbyRecordTimeout s dt) hnot
  · exact Block.does_of_eq (does_standbyRecordTimer s dt pp) (if_pos (by rw [Bool.and_eq_true]; exact ⟨hst, hrun⟩))
  · exact does_thimbleAckWaitTimeout s dt p

end Sys2Proof.Proofs.Pair

/-! ### Proofs: sessions' events (R446, R447) -/

namespace Sys2Proof.Proofs.Events
open Sys2Proof Sys2Proof.Machine Sys2Proof.Laws

section Push
variable {c : Core} {h : Nat} {e : EventRec}

theorem pushEvent_of_room (hroom : (c.session h).events.length < 256) :
    c.pushEvent h e = { c with sess := Tab.set c.sess h { c.session h with events := (c.session h).events ++ [e] } } := by
  have hpush : (c.session h).push e = ({ c.session h with events := (c.session h).events ++ [e] }, false) := if_pos hroom
  rw [Core.session] at hpush
  unfold Core.pushEvent
  simp only [hpush]
  rfl

/-- A session with one loss more. -/
def lossNoted (c : Core) (h : Nat) : Core := { c with sess := Tab.set c.sess h { c.session h with lost := (c.session h).lost + 1 } }

theorem pushEvent_of_full (hfull : 256 ≤ (c.session h).events.length) :
    c.pushEvent h e = if (c.session h).lost = 0 then { (lossNoted c h).inc0 Obj.EVENTS_LOST with alsoRaise := c.alsoRaise ++ [1570] } else (lossNoted c h).inc0 Obj.EVENTS_LOST := by
  have hpush : (c.session h).push e = ({ c.session h with lost := (c.session h).lost + 1 }, true) := if_neg (Nat.not_lt.mpr hfull)
  have hraise : ((lossNoted c h).inc0 Obj.EVENTS_LOST).alsoRaise = c.alsoRaise := inc0_alsoRaise _ _
  rw [← hraise]
  rw [Core.session] at hpush
  unfold Core.pushEvent
  simp only [hpush]
  rfl

theorem session_pushEvent_of_full (hfull : 256 ≤ (c.session h).events.length) :
    (c.pushEvent h e).session h = { c.session h with lost := (c.session h).lost + 1 } := by
  have hloss : ((lossNoted c h).inc0 Obj.EVENTS_LOST).session h = { c.session h with lost := (c.session h).lost + 1 } := by
    rw [Core.session, inc0_sess]
    exact tab_get_set _ _ _ _
  rw [pushEvent_of_full hfull]
  split
  · exact hloss
  · exact hloss

theorem session_pushEvent_of_room (hroom : (c.session h).events.length < 256) :
    (c.pushEvent h e).session h = { c.session h with events := (c.session h).events ++ [e] } := by
  rw [pushEvent_of_room hroom]
  exact tab_get_set _ _ _ _

theorem lost_pushEvent_of_full (hfull : 256 ≤ (c.session h).events.length) :
    (c.pushEvent h e).rd0 Obj.EVENTS_LOST = (c.rd0 Obj.EVENTS_LOST + 1) % 2 ^ 32 := by
  have hcount : ((lossNoted c h).inc0 Obj.EVENTS_LOST).rd0 Obj.EVENTS_LOST = (c.rd0 Obj.EVENTS_LOST + 1) % 2 ^ 32 := Dma.rd_inc _ _ _ _ _
  rw [pushEvent_of_full hfull]
  split
  · exact hcount
  · exact hcount

theorem alsoRaise_pushEvent_of_full (hfull : 256 ≤ (c.session h).events.length) :
    (c.pushEvent h e).alsoRaise = if (c.session h).lost = 0 then c.alsoRaise ++ [1570] else c.alsoRaise := by
  rw [pushEvent_of_full hfull]
  split
  · rfl
  · exact inc0_alsoRaise _ _

end Push

section Send
variable {c : Core} {h : Nat}

theorem session_emit (k : OutKind) (p : Nat) (args : List Int) (b : List Byte) : (c.emit k p args b).session h = c.session h := rfl

/-- The session once its queued events have left. -/
def eventsSent (c : Core) (h : Nat) : Session :=
  let x := c.session h
  let rest := x.events.drop ((x.maxMsg - 64) / 32)
  { x with events := if x.lost = 0 then rest else rest ++ [⟨0x00F1, x.lost, 0, c.ftNs⟩], evSeq := nextSeq32 x.evSeq, lost := 0 }

/-- Events that leave by a host port change just their session. -/
theorem session_sendEvents (hst : (c.session h).st ≠ 0) (hq : (c.session h).events ≠ []) (hrun : c.running = true) (hlane : (c.session h).evLane < 2) :
    (c.sendEvents h).session h = eventsSent c h := by
  have hsend (t : Core) (k : OutKind) (ip port : Nat) (m : List Byte) : (t.sendFop k (c.session h).evLane ip port m).session h = t.session h := by
    rw [Core.sendFop, if_pos hlane, session_emit]
  unfold Core.sendEvents
  dsimp only
  rw [if_neg (by simp [hst, hq, hrun]), hsend]
  exact tab_get_set _ _ _ _

end Send

/-- Settles O50: an event finds room or does not; events that leave make room for the record of the losses. -/
theorem eventQueuesAreBounded : Obligations.EventQueuesAreBounded := by
  unfold Obligations.EventQueuesAreBounded
  intro c h e x k
  refine ⟨fun hbound => ?_, pushEvent_of_room, fun hfull => ⟨?_, ?_, lost_pushEvent_of_full hfull, alsoRaise_pushEvent_of_full hfull⟩, fun hst hq hrun hlane hlost => ?_⟩
  · by_cases hroom : x.events.length < 256
    · rw [session_pushEvent_of_room hroom, List.length_append]
      exact hroom
    · rw [session_pushEvent_of_full (Nat.not_lt.mp hroom)]
      exact hbound
  · rw [session_pushEvent_of_full hfull]
  · rw [session_pushEvent_of_full hfull]
  · have hne : ¬ (c.session h).lost = 0 := Nat.pos_iff_ne_zero.mp hlost
    dsimp only
    rw [session_sendEvents hst hq hrun hlane]
    refine ⟨?_, rfl⟩
    rw [eventsSent, if_neg hne]

end Sys2Proof.Proofs.Events

/-! ### Proofs: requests of a session in their turn (ch. 16) -/

namespace Sys2Proof.Proofs.Requests
open Sys2Proof Sys2Proof.Machine Sys2Proof.Laws

section Verified
variable (c : Core) (h : Nat)

/-- A verified request begins the session's deadlines again, and changes nothing else. -/
theorem verified_frame : ∃ t, c.verified h = { c with timers := t } := by
  have harm (t : Core) (x : Timer) (i d : Nat) : t.arm x i d = { t with timers := (t.arm x i d).timers } := rfl
  unfold Core.verified
  dsimp only
  by_cases hopen : (c.session h).st = 2 <;> by_cases htxn : (c.session h).txn.isSome = true <;>
    simp only [hopen, htxn, if_true, if_false, Bool.false_eq_true] <;> split <;> exact ⟨_, rfl⟩

@[simp] theorem session_verified (k : Nat) : (c.verified h).session k = c.session k := by
  obtain ⟨t, he⟩ := verified_frame c h
  rw [he]; rfl

@[simp] theorem sess_verified : (c.verified h).sess = c.sess := by
  obtain ⟨t, he⟩ := verified_frame c h
  rw [he]

@[simp] theorem mode_verified : (c.verified h).mode = c.mode := by
  obtain ⟨t, he⟩ := verified_frame c h
  rw [he]

end Verified

/-- A SEQ is none of the next seven. -/
theorem not_mem_seqsAfter (n : Nat) : (seqsAfter 7 n).contains n = false := by
  have hnext (m : Nat) : (nextSeq32 m = 1 ∧ 2 ^ 32 ≤ m + 1) ∨ (nextSeq32 m = m + 1 ∧ m + 1 < 2 ^ 32) := by
    unfold nextSeq32
    split <;> omega
  have h1 := hnext n
  have h2 := hnext (nextSeq32 n)
  have h3 := hnext (nextSeq32 (nextSeq32 n))
  have h4 := hnext (nextSeq32 (nextSeq32 (nextSeq32 n)))
  have h5 := hnext (nextSeq32 (nextSeq32 (nextSeq32 (nextSeq32 n))))
  have h6 := hnext (nextSeq32 (nextSeq32 (nextSeq32 (nextSeq32 (nextSeq32 n)))))
  have h7 := hnext (nextSeq32 (nextSeq32 (nextSeq32 (nextSeq32 (nextSeq32 (nextSeq32 n))))))
  simp only [seqsAfter, List.contains_eq_mem, List.mem_cons, List.not_mem_nil, or_false, decide_eq_false_iff_not]
  omega

theorem not_retain_of_running {c : Core} (h : c.running = true) : c.mode ≠ .retain := by
  simp only [Core.running, decide_eq_true_eq] at h
  exact h.2

section Turn
variable {c : Core} {m : List Host.Cell} {x : Around} {e : FopEnv} {b : ReqBody}

/-- A request of an OPEN session in its turn is executed, and held requests whose turn has come after it. -/
theorem sessionRequest_of_takes (h : c.Takes e b) :
    c.sessionRequest m x e b =
      let u := runOne x e.session e b (c.verified e.session) m
      if u.2.2 then runHeld x e.session 8 u.1 u.2.1 else (u.1, u.2.1) := by
  obtain ⟨-, -, -, -, h1, h16, hst, hip, hport, htag, hseq, hheld⟩ := h
  have hahead : (seqsAfter 7 (c.session e.session).n).contains e.seq = false := hseq ▸ not_mem_seqsAfter _
  unfold Core.sessionRequest
  dsimp only
  rw [if_neg (by omega), if_neg (by simp [hip, hport]), if_neg (by simp [htag])]
  have hopen : ¬ ((c.session e.session).st = 1 ∧ e.seq = 1) := by omega
  simp only [if_neg hopen, session_verified, sess_verified, hahead]
  rw [if_neg (by simp), if_pos (.inl hseq), if_neg (Nat.not_le.mpr hheld), if_neg (by simp)]

/-- It arrives at its session. -/
theorem fopArrives_of_takes (h : c.Takes e b) (htyp : requestType b.typ = true) (hopn : b.typ ≠ 1) : c.fopArrives m x e b = c.sessionRequest m x e b := by
  obtain ⟨hrun, hconf, hnode, hme, -⟩ := h
  unfold Core.fopArrives
  rw [if_neg (by simp [hrun]), if_neg (not_retain_of_running hrun), if_neg (by simp [htyp]; omega), if_neg (by simp [hconf]), if_neg (by simp [hme]), if_neg hopn]

/-- What an executed request answers decides what follows. -/
theorem runOne_of_answer {s t : Core} {m' : List Host.Cell} {h code info : Nat} {rest : List Byte}
    (hans : ansOf x ⟨h, (s.session h).role⟩ s m b = ⟨code, info, rest, t, m'⟩) (hbusy : code ≠ busyC) :
    runOne x h e b s m =
      (let u := ({ t with lastStatus := code } : Core).finish h e (taggedMessage (some (s.session h).key) b.typ 1 e.node e.serial h e.seq (leBytes 4 code ++ leBytes 4 info ++ rest))
       if b = .close then u.endSession h else u, m', true) := by
  unfold runOne
  simp only [hans, ansBody]
  rw [if_neg hbusy]

/-- A request in its turn answers what its execution answers. -/
theorem fopRequest_of_answer {t : Core} {m' : List Host.Cell} {code info : Nat} {rest : List Byte} (h : c.Takes e b) (htyp : requestType b.typ = true) (hopn : b.typ ≠ 1)
    (hans : ansOf x ⟨e.session, (c.session e.session).role⟩ (c.verified e.session) m b = ⟨code, info, rest, t, m'⟩) (hbusy : code ≠ busyC) :
    c.fopRequest m x e b = ({ t with lastStatus := code } : Core).concludes m' x e b (c.session e.session).key (leBytes 4 code ++ leBytes 4 info ++ rest) := by
  rw [← session_verified c e.session e.session] at hans
  unfold Core.fopRequest
  dsimp only
  rw [fopArrives_of_takes h htyp hopn, sessionRequest_of_takes h]
  dsimp only
  rw [runOne_of_answer hans hbusy, session_verified]
  rfl

end Turn

/-- The command's request is executed and answered. -/
theorem answers_of_ans {i : Instr} {s : State} {dt : Nat} {x : Around} {e : FopEnv} {b : ReqBody} {code info : Nat} {rest : List Byte} {t : Core} {m : List Host.Cell}
    (hi : exec i s = hostRequest dt x e b s) (h : (s.core.advance dt).Takes e b) (htyp : requestType b.typ = true) (hopn : b.typ ≠ 1)
    (hans : ansOf x ⟨e.session, ((s.core.advance dt).session e.session).role⟩ (s.core.atTurn dt e) s.mem b = ⟨code, info, rest, t, m⟩) (hbusy : code ≠ busyC) :
    Answers i s dt x e b code info rest t m :=
  Power.doesBoth_of_eq (r := (s.core.advance dt).fopRequest s.mem x e b) hi (fopRequest_of_answer h htyp hopn hans hbusy)

end Sys2Proof.Proofs.Requests

/-! ### Proofs: what the requests of a session answer (R431, R435, R441, R443, R445) -/

namespace Sys2Proof.Proofs.SessionRequests
open Sys2Proof Sys2Proof.Machine Sys2Proof.Laws

section Asks
variable (s : State) (dt : Nat) (e : FopEnv)

theorem exec_fopClose : exec (.fopClose dt e) s = hostRequest dt {} e .close s := rfl

theorem exec_fopKeepalive : exec (.fopKeepalive dt e) s = hostRequest dt {} e .keepalive s := rfl

theorem exec_fopDescribe {idx sub : Nat} (hidx : idx < 65536) (hsub : sub < 65536) : exec (.fopDescribe dt e idx sub) s = hostRequest dt {} e (.describe idx sub) s := by
  have h : exec (.fopDescribe dt e idx sub) s = hostRequest dt {} e (.describe (idx % 65536) (sub % 65536)) s := rfl
  rw [h, Nat.mod_eq_of_lt hidx, Nat.mod_eq_of_lt hsub]

theorem exec_fopSubscribe {mask : Nat} (h : mask < 32) : exec (.fopSubscribe dt e mask) s = hostRequest dt {} e (.subscribe mask) s := by
  have hmask : exec (.fopSubscribe dt e mask) s = hostRequest dt {} e (.subscribe (mask % 2 ^ 32)) s := rfl
  rw [hmask, Nat.mod_eq_of_lt (Nat.lt_trans h (by decide))]

theorem exec_txnBegin : exec (.txnBegin dt e) s = hostRequest dt {} e .txnBegin s := rfl

theorem exec_txnCommit : exec (.txnCommit dt e) s = hostRequest dt {} e .txnCommit s := rfl

theorem exec_txnAbort : exec (.txnAbort dt e) s = hostRequest dt {} e .txnAbort s := rfl

end Asks

section Answers
variable {x : Around} {k : Caller} {c : Core} {m : List Host.Cell}

theorem ans_describe {idx sub : Nat} {d : List Byte} (h : c.describe idx sub = some d) : ansOf x k c m (.describe idx sub) = ⟨okC, c.infoOf idx sub, d, c, m⟩ := by
  simp only [ansOf, h]

theorem ans_subscribe {mask : Nat} (h : mask < 32) :
    ansOf x k c m (.subscribe mask) = ⟨okC, nextSeq32 (c.session k.h).evSeq, [], c.setSession k.h { c.session k.h with mask := mask }, m⟩ :=
  if_neg (Nat.not_le.mpr h)

/-- The block with a sequence opened for a session. -/
def begun (c : Core) (h : Nat) : Core :=
  let id := (c.txnId + 1) % 2 ^ 32
  { c with txnId := id, sess := Tab.set c.sess h { c.session h with txn := some { id := id } }, timers := Tab.set c.timers (timerKey .txnLease h) (c.clk + ms 2000) }

theorem ans_txnBegin (hrole : k.role ≠ 0) (hmode : c.mode ≠ .safe) (htxn : (c.session k.h).txn = none) (hroom : (c.sess.filter (fun p => p.2.txn.isSome)).length < 4) :
    ansOf x k c m .txnBegin = ⟨okC, (c.txnId + 1) % 2 ^ 32, [], begun c k.h, m⟩ := by
  have hcode : worse (if k.role = 0 then roleC else okC) (worse (stateIf (decide (c.mode = .safe)))
      (worse (if (c.session k.h).txn.isSome then txnOpenC else okC) (if 4 ≤ (c.sess.filter (fun p => p.2.txn.isSome)).length then txnLimitC else okC))) = 0 := by
    rw [if_neg hrole, decide_eq_false hmode, htxn, if_neg (Nat.not_le.mpr hroom)]
    rfl
  exact if_neg (not_not_intro hcode)

/-- TXN_COMMIT checks and applies what is staged on the block without the sequence. -/
theorem ans_txnCommit {t : Txn} (hrole : k.role ≠ 0) (hmode : c.mode ≠ .safe) (htxn : (c.session k.h).txn = some t) :
    ansOf x k c m .txnCommit =
      ⟨(commitAll x k (c.dropTxn k.h) m t.staged).code, 0,
        leBytes 2 (commitAll x k (c.dropTxn k.h) m t.staged).failIdx ++ leBytes 2 (commitAll x k (c.dropTxn k.h) m t.staged).failSub,
        (commitAll x k (c.dropTxn k.h) m t.staged).core, (commitAll x k (c.dropTxn k.h) m t.staged).mem⟩ := by
  simp only [ansOf, ansTxnCommit, if_neg hrole, if_neg hmode, htxn]

theorem ans_txnCommit_of_safe (hrole : k.role ≠ 0) (hmode : c.mode = .safe) : ansOf x k c m .txnCommit = ⟨stateC, 0, leBytes 4 0, c, m⟩ :=
  (if_neg hrole).trans (if_pos hmode)

theorem ans_txnAbort {t : Txn} (hrole : k.role ≠ 0) (htxn : (c.session k.h).txn = some t) : ansOf x k c m .txnAbort = ⟨okC, 0, [], c.dropTxn k.h, m⟩ :=
  (if_neg hrole).trans (if_pos (by rw [htxn]; rfl))

end Answers

/-- Settles O46: each request by what its execution answers. -/
theorem sessionRequestsAreAnswered : Obligations.SessionRequestsAreAnswered := by
  unfold Obligations.SessionRequestsAreAnswered
  intro s dt e t c q h
  have hq : t.session e.session = q := (Requests.session_verified t e.session e.session).symm
  have hrole : (t.session e.session).role = q.role := congrArg Session.role hq
  refine ⟨fun ht => ?_, fun ht => ?_, fun idx sub d hidx hsub ht hd => ?_, fun mask hmask ht => ?_, fun ht hr hm htxn hroom => ?_, ?_, fun ht hr hm => ?_, fun x ht hr htxn => ?_⟩
  · exact Requests.answers_of_ans (exec_fopClose s dt e) ht rfl (by decide) rfl (by decide)
  · exact Requests.answers_of_ans (exec_fopKeepalive s dt e) ht rfl (by decide) rfl (by decide)
  · exact Requests.answers_of_ans (exec_fopDescribe s dt e hidx hsub) ht rfl (show (0x12 : Nat) ≠ 1 by decide) (ans_describe hd) (by decide)
  · exact Requests.answers_of_ans (exec_fopSubscribe s dt e hmask) ht rfl (show (0x30 : Nat) ≠ 1 by decide) (ans_subscribe hmask) (by decide)
  · exact Requests.answers_of_ans (exec_txnBegin s dt e) ht rfl (by decide) (ans_txnBegin (hrole ▸ hr) hm htxn hroom) (by decide)
  · intro x r ht hr hm htxn hbusy
    have hans : ansOf {} ⟨h, (t.session e.session).role⟩ c s.mem .txnCommit = ⟨r.code, 0, leBytes 2 r.failIdx ++ leBytes 2 r.failSub, r.core, r.mem⟩ := by
      rw [ans_txnCommit (hrole ▸ hr) hm htxn, hrole]
    exact Requests.answers_of_ans (exec_txnCommit s dt e) ht rfl (by decide) hans hbusy
  · exact Requests.answers_of_ans (exec_txnCommit s dt e) ht rfl (by decide) (ans_txnCommit_of_safe (hrole ▸ hr) hm) (by decide)
  · exact Requests.answers_of_ans (exec_txnAbort s dt e) ht rfl (by decide) (ans_txnAbort (hrole ▸ hr) htxn) (by decide)

end Sys2Proof.Proofs.SessionRequests

/-! ### Proofs: writes of whole values (R436, R441, R442) -/

namespace Sys2Proof.Proofs.Writes
open Sys2Proof Sys2Proof.Machine Sys2Proof.Laws

/-! #### A partial write dropped (R440) -/

section Dropped
variable (c : Core) (h : Nat)

theorem setPart_none_frame : ∃ ss ts, c.setPart h none = { c with sess := ss, timers := ts } := ⟨_, _, rfl⟩

theorem session_setPart_none : (c.setPart h none).session h = { c.session h with part := none } := tab_get_set _ _ _ _

@[simp] theorem mode_setPart_none : (c.setPart h none).mode = c.mode := rfl

@[simp] theorem rd_setPart_none (o : Ob) (i j : Nat) : (c.setPart h none).rd o i j = c.rd o i j := rfl

theorem txn_setPart_none : ((c.setPart h none).session h).txn = (c.session h).txn := by rw [session_setPart_none]

end Dropped

/-! #### The steps of a write -/

section Steps
variable {x : Around} {k : Caller} {c : Core} {m : List Host.Cell} {idx sub count width lane info : Nat} {data : List Byte}

/-- A session with a role writes outside SAFE; RESET_CMD is written in SAFE too (R449). -/
def MayWrite (c : Core) (role idx sub : Nat) : Prop := 1 ≤ role ∧ (c.mode ≠ .safe ∨ (idx = 0x2000 ∧ sub = 13))

theorem not_barred (h : MayWrite c k.role idx sub) :
    worse (if k.role = 0 then roleC else okC) (stateIf (decide (c.mode = .safe) && !(decide (idx = 0x2000) && decide (sub = 13)))) = 0 := by
  obtain ⟨hrole, hmode⟩ := h
  have hbar : (decide (c.mode = .safe) && !(decide (idx = 0x2000) && decide (sub = 13))) = false := by
    obtain hm | ⟨hi, hs⟩ := hmode
    · simp [hm]
    · simp [hi, hs]
  rw [if_neg (by omega), hbar]
  rfl

/-- A value written in one piece is dealt with whole. -/
theorem ans_write_of_whole (h : MayWrite c k.role idx sub) :
    ansOf x k c m (.write idx sub count width lane 0 data.length data) = ansWhole x k (c.setPart k.h none) m idx sub count width lane data 0 := by
  simp only [ansOf, ansWrite, not_barred h, ne_eq, not_true_eq_false, if_false, Nat.lt_irrefl, and_false, if_true]

/-- The first piece of a longer value is kept for the rest. -/
theorem ans_write_of_first {total : Nat} (h : MayWrite c k.role idx sub) (hcount : 1 ≤ count) (htotal : total ≤ 1048576) (hmore : data.length < total)
    (hroom : c.bufferBytes k.h false + total ≤ 2097152) :
    ansOf x k c m (.write idx sub count 0 0 0 total data) = writeAns okC data.length 0 0 (c.setPart k.h (some ⟨idx, sub, count, total, data⟩)) m := by
  simp only [ansOf, ansWrite, not_barred h, ne_eq, not_true_eq_false, if_false, or_self, decide_false, Bool.and_false, Bool.false_eq_true, false_or, if_true]
  rw [if_neg (by omega), if_neg (by omega), if_neg (by omega), if_neg (by omega)]

/-- Outside a sequence, a value whose elements pass every check is applied. -/
theorem ansWhole_of_outside (hform : (writeForm idx sub count width lane data).1 = 0) (hfree : (writeForm idx sub count width lane data).2.find? (c.lockedFor k.h) = none)
    (htxn : (c.session k.h).txn = none) (hcode : (commitAll x k c m (writeForm idx sub count width lane data).2).code = 0) :
    ansWhole x k c m idx sub count width lane data info =
      writeAns okC info 0 0 (commitAll x k c m (writeForm idx sub count width lane data).2).core (commitAll x k c m (writeForm idx sub count width lane data).2).mem := by
  simp only [ansWhole, hform, hfree, htxn, hcode, ne_eq, not_true_eq_false, if_false]

/-- Inside the session's own sequence it is staged. -/
theorem ansWhole_of_inside {t : Txn} (hform : (writeForm idx sub count width lane data).1 = 0) (hfree : (writeForm idx sub count width lane data).2.find? (c.lockedFor k.h) = none)
    (htxn : (c.session k.h).txn = some t) (hpre : (writeForm idx sub count width lane data).2.foldl (fun n w => worse n (c.stagedPre k.role w)) okC = 0)
    (hfit : (t.stage (writeForm idx sub count width lane data).2).within = true) :
    ansWhole x k c m idx sub count width lane data info =
      writeAns okC info 0 0 (c.setSession k.h { c.session k.h with txn := some (t.stage (writeForm idx sub count width lane data).2) }) m := by
  simp only [ansWhole, hform, hfree, htxn, ne_eq, not_true_eq_false, if_false, Option.isSome_none, Bool.false_eq_true, hpre, hfit, Bool.not_true]

/-- What passes every check is stored and takes effect. -/
theorem commitAll_of_sound {l : List Staged} (h : ∀ w ∈ l, c.stagedCode (c.storeAll l).1 k w = 0) :
    commitAll x k c m l = ⟨okC, 0, 0, (applyPrims x k c (c.storeAll l).1 m (c.storeAll l).2).1, (applyPrims x k c (c.storeAll l).1 m (c.storeAll l).2).2⟩ := by
  have hnone : l.find? (fun w => decide (c.stagedCode (c.storeAll l).1 k w ≠ 0)) = none := by
    rw [List.find?_eq_none]
    intro w hw
    simp [h w hw]
  simp only [commitAll, hnone]

/-- What answers OK passed every check. -/
theorem sound_of_commitAll {l : List Staged} (h : (commitAll x k c m l).code = 0) : ∀ w ∈ l, c.stagedCode (c.storeAll l).1 k w = 0 := by
  intro w hw
  by_contra hne
  unfold commitAll at h
  dsimp only at h
  cases hf : l.find? (fun w => decide (c.stagedCode (c.storeAll l).1 k w ≠ 0)) with
  | none => exact List.find?_eq_none.mp hf w hw (by simpa using hne)
  | some v =>
    have hv := List.find?_some hf
    rw [hf] at h
    simp only [decide_eq_true_eq] at hv
    exact hv h

end Steps

/-! #### The requests that write -/

section Asks
variable (s : State) (dt : Nat) (e : FopEnv)

theorem exec_objectWrite {idx sub count width lane total : Nat} (data : List Byte) (hidx : idx < 65536) (hsub : sub < 65536) (hcount : count < 65536) (hwidth : width < 256)
    (hlane : lane < 256) (htotal : total < 2 ^ 32) :
    exec (.objectWrite dt e idx sub count width lane 0 total data) s = hostRequest dt {} e (.write idx sub count width lane 0 total data) s := by
  have h : exec (.objectWrite dt e idx sub count width lane 0 total data) s =
      hostRequest dt {} e (.write (idx % 65536) (sub % 65536) (count % 65536) (width % 256) (lane % 256) 0 (total % 2 ^ 32) data) s := rfl
  rw [h, Nat.mod_eq_of_lt hidx, Nat.mod_eq_of_lt hsub, Nat.mod_eq_of_lt hcount, Nat.mod_eq_of_lt hwidth, Nat.mod_eq_of_lt hlane, Nat.mod_eq_of_lt htotal]

theorem exec_rawWindowWrite {reg count width lane : Nat} (data : List Byte) (hreg : reg < 2 ^ 28) (hcount : count < 65536) (hwidth : width < 256) (hlane : lane < 256) :
    exec (.rawWindowWrite dt e reg count width lane data) s =
      hostRequest dt {} e (.write (0xA000 + reg / 65536) (reg % 65536) count width lane 0 data.length data) s := by
  have h : exec (.rawWindowWrite dt e reg count width lane data) s =
      hostRequest dt {} e (.write (0xA000 + reg % 2 ^ 28 / 65536) (reg % 65536) (count % 65536) (width % 256) (lane % 256) 0 data.length data) s := rfl
  rw [h, Nat.mod_eq_of_lt hreg, Nat.mod_eq_of_lt hcount, Nat.mod_eq_of_lt hwidth, Nat.mod_eq_of_lt hlane]

theorem exec_memDataWrite {data : List Byte} (h : data.length < 2 ^ 32) :
    exec (.memDataWrite dt e 0 data.length data 0 0 0) s = hostRequest dt {} e (.write Obj.MEM_DATA.idx Obj.MEM_DATA.sub 1 0 0 0 data.length data) s := by
  have hm : exec (.memDataWrite dt e 0 data.length data 0 0 0) s =
      hostRequest dt {} e (.write Obj.MEM_DATA.idx Obj.MEM_DATA.sub 1 0 0 0 (data.length % 2 ^ 32) data) s := rfl
  rw [hm, Nat.mod_eq_of_lt h]

end Asks

end Sys2Proof.Proofs.Writes

/-! ### Proofs: writes of elements and of MEM_DATA (R436, R440, R441, R470) -/

namespace Sys2Proof.Proofs.Writes
open Sys2Proof Sys2Proof.Machine Sys2Proof.Laws

/-! #### Byte strings as numbers -/

theorem leBytes_ofLe (l : List Byte) : leBytes l.length (ofLe l) = l := by
  induction l with
  | nil => rfl
  | cons b t ih =>
    have hlow : BitVec.ofNat 8 (b.toNat + 256 * ofLe t) = b := by
      apply BitVec.eq_of_toNat_eq
      rw [BitVec.toNat_ofNat]
      have hb : b.toNat < 2 ^ 8 := b.isLt
      omega
    have hhigh : (b.toNat + 256 * ofLe t) / 256 = ofLe t := by
      have hb : b.toNat < 2 ^ 8 := b.isLt
      omega
    rw [ofLe, List.length_cons, leBytes, hlow, hhigh, ih]

theorem unpackBytes_packBytes (l : List Byte) : unpackBytes (packBytes l) = l := by
  have hlt : ofLe l < 256 ^ l.length := Records.ofLe_lt l
  have hpow : (256 : Nat) ^ l.length = 2 ^ (8 * l.length) := by rw [pow_mul]; rfl
  have hlog : Nat.log2 (packBytes l) = 8 * l.length := by
    rw [Nat.log2_eq_iff (by rw [packBytes]; have := Nat.pow_pos (n := l.length) (show 0 < 256 by decide); omega), packBytes, hpow, Nat.pow_succ]
    rw [hpow] at hlt
    omega
  have hrest : packBytes l - 256 ^ l.length = ofLe l := by rw [packBytes, Nat.add_sub_cancel]
  unfold unpackBytes
  dsimp only
  rw [hlog, Nat.mul_div_cancel_left _ (by decide), hrest, leBytes_ofLe]

/-! #### What a collision counted leaves (R303) -/

section Collisions
variable {c : Core} {j n : Nat}

theorem dual_of_find {a l b : Nat} (h : (banksOf a l).find? bankDual = some b) : b - 48 < 2 := by
  have hb := List.find?_some h
  simp only [bankDual, decide_eq_true_eq] at hb
  omega

/-- Objects of other indexes stay. -/
theorem rd_collisionCounted {o : Ob} {i a : Nat} (hj : j < 2) (ho : ¬ 1 < o.nel ∧ o.sub + a < 65536) (hidx : o.idx + o.stride * i ≠ 30727) :
    (c.inc Obj.SB_COLLISIONS 0 j n).rd o i a = c.rd o i a :=
  Dma.rd_inc_ne _ _ _ _ _ _ _ _ (Dma.key_ne_of_index ⟨ho.1, by decide, ho.2, by simp only [Obj.SB_COLLISIONS]; omega⟩ (by simpa [Obj.SB_COLLISIONS] using hidx))

theorem locate_collisionCounted (hj : j < 2) (a : Nat) : (c.inc Obj.SB_COLLISIONS 0 j n).locate a = c.locate a :=
  Dma.locate_congr c a (rd_collisionCounted (o := Obj.DRAM_SIZE) (i := 0) (a := 0) hj (by decide) (by decide))

theorem owns_collisionCounted {who b : Nat} (hj : j < 2) (hb : b < 50) : (c.inc Obj.SB_COLLISIONS 0 j n).owns who b = c.owns who b := by
  have hstate : (c.inc Obj.SB_COLLISIONS 0 j n).rd Obj.SB_STATE 0 b = c.rd Obj.SB_STATE 0 b :=
    rd_collisionCounted hj ⟨by decide, by simp only [Obj.SB_STATE]; omega⟩ (by decide)
  have howner : (c.inc Obj.SB_COLLISIONS 0 j n).rd Obj.SB_OWNER 0 b = c.rd Obj.SB_OWNER 0 b :=
    rd_collisionCounted hj ⟨by decide, by simp only [Obj.SB_OWNER]; omega⟩ (by decide)
  have hownerB : (c.inc Obj.SB_COLLISIONS 0 j n).rd Obj.SB_OWNER_B 0 (b - 48) = c.rd Obj.SB_OWNER_B 0 (b - 48) :=
    rd_collisionCounted hj ⟨by decide, by simp only [Obj.SB_OWNER_B]; omega⟩ (by decide)
  simp only [Core.owns, Core.handsOver, hstate, howner, hownerB, inc_handing]

theorem refusedBank_collisionCounted {who a l : Nat} (hj : j < 2) : (c.inc Obj.SB_COLLISIONS 0 j n).refusedBank who a l = c.refusedBank who a l := by
  have hfind (p : Nat) : (banksOf p l).find? (fun b => !(c.inc Obj.SB_COLLISIONS 0 j n).owns who b) = (banksOf p l).find? (fun b => !c.owns who b) := by
    refine List.find?_congr fun b hb => ?_
    have hlow : b < 50 := List.mem_range.mp (List.mem_of_mem_filter hb)
    rw [owns_collisionCounted hj hlow]
  unfold Core.refusedBank
  rw [locate_collisionCounted hj]
  split <;> simp only [hfind]

theorem reaches_collisionCounted {who a l : Nat} (hj : j < 2) : (c.inc Obj.SB_COLLISIONS 0 j n).reaches who a l = c.reaches who a l := by
  have hisland (i : Nat) (hi : i < 128) : (c.inc Obj.SB_COLLISIONS 0 j n).rd Obj.ISLAND_STATE 0 i = c.rd Obj.ISLAND_STATE 0 i :=
    rd_collisionCounted hj ⟨by decide, by simp only [Obj.ISLAND_STATE]; omega⟩ (by decide)
  have hserves (v : View) : (c.inc Obj.SB_COLLISIONS 0 j n).islandServes v = c.islandServes v := by
    simp only [Core.islandServes, hisland 0x44 (by decide), hisland 0x45 (by decide), hisland 0x49 (by decide)]
  have hdram : (c.inc Obj.SB_COLLISIONS 0 j n).dramUp = c.dramUp := by
    rw [Core.dramUp, Core.rd0, rd_collisionCounted hj (by decide) (by decide)]
    rfl
  have htest (b : Nat) : (c.inc Obj.SB_COLLISIONS 0 j n).bankUnderTest b = c.bankUnderTest b := by simp only [Core.bankUnderTest, inc_bist]
  have hany (p : Nat) : (banksOf p l).any (c.inc Obj.SB_COLLISIONS 0 j n).bankUnderTest = (banksOf p l).any c.bankUnderTest := by
    rw [show (c.inc Obj.SB_COLLISIONS 0 j n).bankUnderTest = c.bankUnderTest from funext htest]
  simp only [Core.reaches, locate_collisionCounted hj, hserves, hdram, refusedBank_collisionCounted hj, hany]

theorem writeFault_collisionCounted {who a l : Nat} (hj : j < 2) : (c.inc Obj.SB_COLLISIONS 0 j n).writeFault who a l = c.writeFault who a l := by
  unfold Core.writeFault Core.badIn
  rw [reaches_collisionCounted hj, locate_collisionCounted hj, inc_badWords]

end Collisions

/-! #### MEM_DATA written (R291) -/

section MemData
variable {c : Core} {m : List Host.Cell} {x : Around} {data : List Byte}

theorem meetCollisions_cases (c : Core) (x : Around) (a l : Nat) : c.meetCollisions x a l = c ∨ ∃ j < 2, c.meetCollisions x a l = c.inc Obj.SB_COLLISIONS 0 j x.coll := by
  unfold Core.meetCollisions
  dsimp only
  split
  · exact .inl rfl
  · split
    · next b hb => exact .inr ⟨_, dual_of_find hb, rfl⟩
    · exact .inl rfl

theorem mem_memDataWrite (hfault : c.writeFault ownFop (c.rd0 Obj.MEM_ADDR) data.length = 0)
    (hview : (c.locate (c.rd0 Obj.MEM_ADDR)).1 = .dram ∨ (c.locate (c.rd0 Obj.MEM_ADDR)).1 = .plain) :
    (c.memDataWrite m data).2 = Memory.write m (c.locate (c.rd0 Obj.MEM_ADDR)).2 data := by
  have hstore : c.storeAt m (c.rd0 Obj.MEM_ADDR) data = Memory.write m (c.locate (c.rd0 Obj.MEM_ADDR)).2 data := by
    unfold Core.storeAt
    obtain h | h := hview <;> simp only [h]
  unfold Core.memDataWrite
  dsimp only
  rw [if_pos hfault, hstore]

/-- Where the requester reaches the bytes and no collisions are met in a row, they are stored from MEM_ADDR on. -/
theorem mem_memWrite (hcoll : x.coll < 16) (hfault : c.writeFault ownFop (c.rd0 Obj.MEM_ADDR) data.length = 0)
    (hview : (c.locate (c.rd0 Obj.MEM_ADDR)).1 = .dram ∨ (c.locate (c.rd0 Obj.MEM_ADDR)).1 = .plain) :
    (c.memWrite m x data).2 = Memory.write m (c.locate (c.rd0 Obj.MEM_ADDR)).2 data := by
  have hplain : ¬ ((c.locate (c.rd0 Obj.MEM_ADDR)).1 = .bitSet ∨ (c.locate (c.rd0 Obj.MEM_ADDR)).1 = .bitClear) := by
    obtain h | h := hview <;> simp [h]
  have hmany : c.collided x (c.rd0 Obj.MEM_ADDR) data.length = false := by
    simp only [Core.collided, decide_eq_false (Nat.not_le.mpr hcoll), Bool.false_and]
  unfold Core.memWrite
  dsimp only
  rw [if_neg hplain, if_neg (by simp [hmany])]
  obtain h | ⟨j, hj, h⟩ := meetCollisions_cases c x (c.rd0 Obj.MEM_ADDR) data.length
  · rw [h, mem_memDataWrite hfault hview]
  · have haddr : (c.inc Obj.SB_COLLISIONS 0 j x.coll).rd0 Obj.MEM_ADDR = c.rd0 Obj.MEM_ADDR := rd_collisionCounted hj (by decide) (by decide)
    rw [h, mem_memDataWrite (by rw [haddr, writeFault_collisionCounted hj, hfault]) (by rw [haddr, locate_collisionCounted hj]; exact hview), haddr, locate_collisionCounted hj]

theorem objectAt_memData : objectAt Obj.MEM_DATA.idx Obj.MEM_DATA.sub = some (Obj.MEM_DATA, 0, 0) := by decide +kernel

/-- A sound write of MEM_DATA is one staged value. -/
theorem staged_memData (h : (writeForm Obj.MEM_DATA.idx Obj.MEM_DATA.sub 1 0 0 data).1 = 0) :
    (writeForm Obj.MEM_DATA.idx Obj.MEM_DATA.sub 1 0 0 data).2 = [⟨0, Obj.MEM_DATA.idx, Obj.MEM_DATA.sub, packBytes data⟩] := by
  have hwin : inWindow Obj.MEM_DATA.idx = false := by decide
  have hlow : ¬ Obj.MEM_DATA.idx < 0x1000 := by decide
  unfold writeForm at h ⊢
  simp only [hwin, hlow, objectAt_memData, Bool.false_eq_true, if_false] at h ⊢
  exact (if_neg (not_not_intro h)).trans (if_pos rfl)

theorem prims_memData (w v : Nat) : c.prims ⟨w, Obj.MEM_DATA.idx, Obj.MEM_DATA.sub, v⟩ = [.elem Obj.MEM_DATA 0 0 v false] := by
  have hwin : inWindow Obj.MEM_DATA.idx = false := by decide
  simp only [Core.prims, hwin, objectAt_memData, Bool.false_eq_true, if_false]

/-- MEM_DATA keeps no value. -/
theorem storeAll_memData (w v : Nat) : c.storeAll [⟨w, Obj.MEM_DATA.idx, Obj.MEM_DATA.sub, v⟩] = (c, [.elem Obj.MEM_DATA 0 0 v false]) := by
  have hkept : c.storePrim (.elem Obj.MEM_DATA 0 0 v false) = c := by
    rw [Core.storePrim, if_pos (.inr (.inl (by decide)))]
  simp only [Core.storeAll, prims_memData, List.foldl_cons, List.foldl_nil, hkept, List.append_nil]

theorem mem_applyPrims_memData (k : Caller) (hcoll : x.coll < 16) (hfault : c.writeFault ownFop (c.rd0 Obj.MEM_ADDR) data.length = 0)
    (hview : (c.locate (c.rd0 Obj.MEM_ADDR)).1 = .dram ∨ (c.locate (c.rd0 Obj.MEM_ADDR)).1 = .plain) :
    (applyPrims x k c c m [.elem Obj.MEM_DATA 0 0 (packBytes data) false]).2 = Memory.write m (c.locate (c.rd0 Obj.MEM_ADDR)).2 data := by
  have hlost : c.loses Obj.MEM_DATA 0 0 (packBytes data) = false := rfl
  have hset : ([Prim.elem Obj.MEM_DATA 0 0 (packBytes data) false].filter (fun p => !p.isCommand)) = [.elem Obj.MEM_DATA 0 0 (packBytes data) false] := rfl
  have hcom : ([Prim.elem Obj.MEM_DATA 0 0 (packBytes data) false].filter Prim.isCommand) = [] := rfl
  have hact : (actPrim x k c (c.setCompO Obj.MEM_DATA 0 0 2, m) (.elem Obj.MEM_DATA 0 0 (packBytes data) false)) =
      (c.setCompO Obj.MEM_DATA 0 0 2).memWrite m x data := by
    have hthere : ¬ (false = true ∨ (c.setCompO Obj.MEM_DATA 0 0 2).absentElem Obj.MEM_DATA 0 = true ∨ c.loses Obj.MEM_DATA 0 0 (packBytes data) = true) := by
      have habsent : (c.setCompO Obj.MEM_DATA 0 0 2).absentElem Obj.MEM_DATA 0 = false := rfl
      rw [habsent, hlost]
      simp
    have hmem : Obj.MEM_DATA.same Obj.MEM_DATA = true := by decide
    unfold actPrim
    dsimp only
    rw [if_neg hthere, if_pos hmem, unpackBytes_packBytes]
  unfold applyPrims
  simp only [hset, hcom, List.foldl_cons, List.foldl_nil, Core.markDone, Core.noteLost, hlost, Bool.false_eq_true, if_false, hact]
  have hfault' : (c.setCompO Obj.MEM_DATA 0 0 2).writeFault ownFop (c.rd0 Obj.MEM_ADDR) data.length = 0 := hfault
  have hview' : ((c.setCompO Obj.MEM_DATA 0 0 2).locate (c.rd0 Obj.MEM_ADDR)).1 = .dram ∨ ((c.setCompO Obj.MEM_DATA 0 0 2).locate (c.rd0 Obj.MEM_ADDR)).1 = .plain := hview
  exact mem_memWrite hcoll hfault' hview'

/-- A sound write of MEM_DATA stores its bytes from MEM_ADDR on, where they are reached. -/
theorem mem_commitAll_memData {k : Caller} {a : Nat} (ha : c.rd0 Obj.MEM_ADDR = a) (hform : (writeForm Obj.MEM_DATA.idx Obj.MEM_DATA.sub 1 0 0 data).1 = 0)
    (hcode : (commitAll x k c m (writeForm Obj.MEM_DATA.idx Obj.MEM_DATA.sub 1 0 0 data).2).code = 0) (hcoll : x.coll < 16)
    (hfault : c.writeFault ownFop a data.length = 0) (hview : (c.locate a).1 = .dram ∨ (c.locate a).1 = .plain) :
    (commitAll x k c m (writeForm Obj.MEM_DATA.idx Obj.MEM_DATA.sub 1 0 0 data).2).mem = Memory.write m (c.locate a).2 data := by
  subst ha
  rw [commitAll_of_sound (sound_of_commitAll hcode), staged_memData hform, storeAll_memData]
  exact mem_applyPrims_memData k hcoll hfault hview

end MemData

/-! #### Answers -/

section Answered
variable {i : Instr} {s : State} {dt : Nat} {e : FopEnv} {idx sub count width lane : Nat} {data : List Byte}

/-- The block as a whole value finds it. -/
def beforeWrite (s : State) (dt : Nat) (e : FopEnv) : Core := (s.core.atTurn dt e).setPart e.session none

/-- Who writes. -/
def writer (s : State) (dt : Nat) (e : FopEnv) : Caller := ⟨e.session, ((s.core.atTurn dt e).session e.session).role⟩

/-- What the elements of a whole value come to. -/
def applied (s : State) (dt : Nat) (e : FopEnv) (idx sub count width lane : Nat) (data : List Byte) : Applied :=
  commitAll {} (writer s dt e) (beforeWrite s dt e) s.mem (writeForm idx sub count width lane data).2

theorem ans_write (hr : 1 ≤ ((s.core.atTurn dt e).session e.session).role) (hm : (s.core.atTurn dt e).mode ≠ .safe) :
    ansOf {} ⟨e.session, ((s.core.advance dt).session e.session).role⟩ (s.core.atTurn dt e) s.mem (.write idx sub count width lane 0 data.length data) =
      ansWhole {} (writer s dt e) (beforeWrite s dt e) s.mem idx sub count width lane data 0 := by
  rw [← Requests.session_verified (s.core.advance dt) e.session e.session]
  exact ans_write_of_whole ⟨hr, .inl hm⟩

/-- A whole value written outside a sequence is applied and answered OK. -/
theorem answers_write_of_outside (hi : exec i s = hostRequest dt {} e (.write idx sub count width lane 0 data.length data) s)
    (ht : (s.core.advance dt).Takes e (.write idx sub count width lane 0 data.length data)) (hr : 1 ≤ ((s.core.atTurn dt e).session e.session).role)
    (hm : (s.core.atTurn dt e).mode ≠ .safe) (hform : (writeForm idx sub count width lane data).1 = 0)
    (hfree : (writeForm idx sub count width lane data).2.find? ((beforeWrite s dt e).lockedFor e.session) = none)
    (hnone : ((s.core.atTurn dt e).session e.session).txn = none) (hcode : (applied s dt e idx sub count width lane data).code = 0) :
    Answers i s dt {} e (.write idx sub count width lane 0 data.length data) okC 0 (leBytes 2 0 ++ leBytes 2 0) (applied s dt e idx sub count width lane data).core
      (applied s dt e idx sub count width lane data).mem :=
  Requests.answers_of_ans hi ht rfl (show (0x11 : Nat) ≠ 1 by decide)
    ((ans_write hr hm).trans (ansWhole_of_outside hform hfree ((txn_setPart_none _ _).trans hnone) hcode)) (by decide)

/-- One written inside the session's own sequence is staged and answered OK. -/
theorem answers_write_of_inside {x : Txn} (hi : exec i s = hostRequest dt {} e (.write idx sub count width lane 0 data.length data) s)
    (ht : (s.core.advance dt).Takes e (.write idx sub count width lane 0 data.length data)) (hr : 1 ≤ ((s.core.atTurn dt e).session e.session).role)
    (hm : (s.core.atTurn dt e).mode ≠ .safe) (hform : (writeForm idx sub count width lane data).1 = 0)
    (hfree : (writeForm idx sub count width lane data).2.find? ((beforeWrite s dt e).lockedFor e.session) = none)
    (hsome : ((s.core.atTurn dt e).session e.session).txn = some x)
    (hpre : (writeForm idx sub count width lane data).2.foldl (fun n w => worse n ((beforeWrite s dt e).stagedPre (writer s dt e).role w)) okC = 0)
    (hfit : (x.stage (writeForm idx sub count width lane data).2).within = true) :
    Answers i s dt {} e (.write idx sub count width lane 0 data.length data) okC 0 (leBytes 2 0 ++ leBytes 2 0)
      ((beforeWrite s dt e).setSession e.session { (beforeWrite s dt e).session e.session with txn := some (x.stage (writeForm idx sub count width lane data).2) }) s.mem :=
  Requests.answers_of_ans hi ht rfl (show (0x11 : Nat) ≠ 1 by decide)
    ((ans_write hr hm).trans (ansWhole_of_inside hform hfree ((txn_setPart_none _ _).trans hsome) hpre hfit)) (by decide)

/-- The first piece of a longer value is kept and answered OK. -/
theorem answers_write_of_first {total : Nat} (hi : exec i s = hostRequest dt {} e (.write idx sub count 0 0 0 total data) s)
    (ht : (s.core.advance dt).Takes e (.write idx sub count 0 0 0 total data)) (hr : 1 ≤ ((s.core.atTurn dt e).session e.session).role)
    (hm : (s.core.atTurn dt e).mode ≠ .safe) (hcount : 1 ≤ count) (htotal : total ≤ 1048576) (hmore : data.length < total)
    (hroom : (s.core.atTurn dt e).bufferBytes e.session false + total ≤ 2097152) :
    Answers i s dt {} e (.write idx sub count 0 0 0 total data) okC data.length (leBytes 2 0 ++ leBytes 2 0)
      ((s.core.atTurn dt e).setPart e.session (some ⟨idx, sub, count, total, data⟩)) s.mem := by
  refine Requests.answers_of_ans hi ht rfl (show (0x11 : Nat) ≠ 1 by decide) ?_ (by decide)
  rw [← Requests.session_verified (s.core.advance dt) e.session e.session]
  exact ans_write_of_first ⟨hr, .inl hm⟩ hcount htotal hmore hroom

end Answered

/-- Settles O48: a whole value is applied or staged, a first piece is kept; MEM_DATA's bytes are stored. -/
theorem writesStoreOrStage : Obligations.WritesStoreOrStage := by
  unfold Obligations.WritesStoreOrStage
  intro s dt e t c q h p done
  refine ⟨?_, ?_, ?_, ?_⟩
  · intro idx sub count width lane data b f r hidx hsub hcount hwidth hlane hlen ht hr hm hform hfree
    have hexec := exec_objectWrite s dt e data hidx hsub hcount hwidth hlane hlen
    exact ⟨fun hnone hcode => answers_write_of_outside hexec ht hr hm hform hfree hnone hcode,
      fun x hsome hpre hfit => answers_write_of_inside hexec ht hr hm hform hfree hsome hpre hfit⟩
  · intro idx sub count total data b hidx hsub hcount htotal ht hr hm hcount1 hmore hroom
    exact answers_write_of_first (exec_objectWrite s dt e data hidx hsub hcount (by decide) (by decide) (by omega)) ht hr hm hcount1 htotal hmore hroom
  · intro reg count width lane data idx sub b f r hreg hcount hwidth hlane hlen ht hr hm hform hfree hnone hcode
    exact answers_write_of_outside (exec_rawWindowWrite s dt e data hreg hcount hwidth hlane) ht (Nat.le_of_succ_le hr) hm hform hfree hnone hcode
  · intro data b f r hlen ht hr hm hform hfree hnone hcode
    refine ⟨answers_write_of_outside (exec_memDataWrite s dt e hlen) ht hr hm hform hfree hnone hcode, ?_⟩
    intro a hfault hview
    exact mem_commitAll_memData (rd_setPart_none c h _ _ _) hform hcode (by decide) hfault hview

end Sys2Proof.Proofs.Writes

/-! ### Proofs: host writes of the command table (R436, R437, R442) -/

namespace Sys2Proof.Proofs.HostWrites
open Sys2Proof Sys2Proof.Machine Sys2Proof.Laws

/-! #### The dictionary -/

section Dictionary
variable {o : Ob} {idx sub i j : Nat}

/-- An object's indexes lie below the window, and an array's subindexes below 65,536. -/
def inBounds (o : Ob) : Bool := decide (0x1000 ≤ o.idx ∧ o.idx + o.stride * (o.cnt - 1) < 0xA000 ∧ o.sub + o.nsub ≤ 65536)

theorem dictionary_inBounds : dictionary.all inBounds = true := by decide +kernel

/-- The nozzle and primitive arrays, where primitives may be absent (R456). -/
def isLarge (o : Ob) : Bool := decide (o.shape = .zero ∧ (o.nsub = 65536 ∨ o.nsub = 4096))

/-- They lie above the ports' records, and no other object stands at RESET_CMD's place. -/
def inPlace (o : Ob) : Bool :=
  (!isLarge o || decide (o.nel = 1 ∧ o.stride = 0 ∧ 20480 ≤ o.idx ∧ o.sub = 0)) && (!o.same Obj.RESET_CMD || decide (o.stride = 0 ∧ o.nsub = 1))

theorem dictionary_inPlace : dictionary.all inPlace = true := by decide +kernel

theorem objectAt_eq (h : objectAt idx sub = some (o, i, j)) : o ∈ dictionary ∧ o.at idx sub = some (i, j) := by
  unfold objectAt at h
  cases hf : dictionary.find? (fun o => (o.at idx sub).isSome) with
  | none => simp [hf] at h
  | some p =>
    simp only [hf] at h
    cases hat : p.at idx sub with
    | none => simp [hat] at h
    | some a =>
      simp only [hat] at h
      split at h
      · simp at h
      · simp only [Option.some.injEq, Prod.mk.injEq] at h
        obtain ⟨hp, h1, h2⟩ := h
        subst hp
        exact ⟨List.mem_of_find?_eq_some hf, by rw [hat, ← h1, ← h2]⟩

theorem at_eq (h : o.at idx sub = some (i, j)) : idx = o.idx + o.stride * i ∧ i < o.cnt ∧ sub = o.sub + j ∧ j < o.nsub := by
  unfold Ob.at at h
  dsimp only at h
  generalize (if o.stride = 0 then 0 else (idx - o.idx) / o.stride) = n at h
  split at h
  · next hin =>
    obtain ⟨h1, h2, h3, h4, h5⟩ := hin
    simp only [Option.some.injEq, Prod.mk.injEq] at h
    obtain ⟨hi, hj⟩ := h
    subst hi
    omega
  · simp at h

theorem bounds_of_objectAt (h : objectAt idx sub = some (o, i, j)) : 0x1000 ≤ idx ∧ idx < 0xA000 ∧ sub < 65536 := by
  obtain ⟨hmem, hat⟩ := objectAt_eq h
  obtain ⟨hidx, hi, hsub, hj⟩ := at_eq hat
  have hb := List.all_eq_true.mp dictionary_inBounds o hmem
  simp only [inBounds, decide_eq_true_eq] at hb
  obtain ⟨h1, h2, h3⟩ := hb
  have hstride : o.stride * i ≤ o.stride * (o.cnt - 1) := Nat.mul_le_mul_left _ (by omega)
  omega

theorem not_inWindow_of_objectAt (h : objectAt idx sub = some (o, i, j)) : inWindow idx = false := by
  obtain ⟨-, hhigh, -⟩ := bounds_of_objectAt h
  simp only [inWindow, decide_eq_false_iff_not]
  omega

/-- A write of RESET_CMD is one of its element. -/
theorem place_of_resetCmd (h : objectAt idx sub = some (o, i, j)) (hr : o.same Obj.RESET_CMD = true) : idx = 0x2000 ∧ sub = 13 := by
  obtain ⟨hmem, hat⟩ := objectAt_eq h
  obtain ⟨hidx, -, hsub, hj⟩ := at_eq hat
  have hp := List.all_eq_true.mp dictionary_inPlace o hmem
  have hsame : o.idx = 0x2000 ∧ o.sub = 13 := of_decide_eq_true hr
  simp only [inPlace, hr, Bool.not_true, Bool.false_or, Bool.and_eq_true, decide_eq_true_eq] at hp
  obtain ⟨-, hstride, hnsub⟩ := hp
  rw [hidx, hsub, hsame.1, hsame.2, hstride]
  omega

end Dictionary

/-! #### Absent primitives (R456) -/

section Absent
variable {c t : Core} {o : Ob} {i j a v : Nat}

theorem absentElem_of_small (h : isLarge o = false) (c : Core) (j : Nat) : c.absentElem o j = false := by
  simp only [isLarge, decide_eq_false_iff_not] at h
  simp only [Core.absentElem, Bool.and_eq_false_iff, decide_eq_false_iff_not, Bool.or_eq_false_iff]
  by_cases hs : o.shape = .zero
  · exact .inr ⟨.inl fun hn => h ⟨hs, .inl hn⟩, .inl fun hn => h ⟨hs, .inr hn⟩⟩
  · exact .inl hs

/-- Which elements are absent follows the geometry of the dice. -/
theorem absentElem_congr (hj : j < o.nsub) (h : ∀ p < 64, t.nPrim p = c.nPrim p) : t.absentElem o j = c.absentElem o j := by
  unfold Core.absentElem Core.primPresent
  by_cases hn : o.nsub = 65536
  · rw [h (j / 1024) (by omega), show decide (o.nsub = 4096) = false by simp [hn]]
    rfl
  · by_cases hm : o.nsub = 4096
    · rw [h (j / 64) (by omega), show decide (o.nsub = 65536) = false by simp [hn]]
      rfl
    · rw [show decide (o.nsub = 65536) = false by simp [hn], show decide (o.nsub = 4096) = false by simp [hm]]
      rfl

/-- A value stored in an array leaves which of its elements are absent. -/
theorem absentElem_wr (hmem : o ∈ dictionary) (ha : a < o.nsub) : (c.wr o i j v).absentElem o a = c.absentElem o a := by
  by_cases hl : isLarge o = true
  · refine absentElem_congr ha fun p hp => ?_
    have hplace := List.all_eq_true.mp dictionary_inPlace o hmem
    simp only [inPlace, hl, Bool.not_true, Bool.false_or, Bool.and_eq_true, decide_eq_true_eq] at hplace
    obtain ⟨⟨hnel, hstride, hidx, hsub⟩, -⟩ := hplace
    have hkey : Obj.port_DIE_GEOM.key p 0 ≠ o.key i j := by
      have hgeom : Obj.port_DIE_GEOM.key p 0 = ((16388 + 64 * p) * 65536 + (0 + 0)) * 65536 := rfl
      rw [hgeom, Ob.key, hnel, hstride, hsub, if_neg (by decide)]
      omega
    have hport : (c.wr o i j v).port p = c.port p := by rw [Core.port, wr_ports, Core.port]
    rw [Core.nPrim, Core.geomByte, hport, rd_wr_ne _ _ _ _ _ _ _ _ hkey]
    rfl
  · rw [absentElem_of_small (by simpa using hl), absentElem_of_small (by simpa using hl)]

end Absent

/-! #### Runs of values -/

/-- Values stored one after another. -/
theorem wrRun_eq (c : Core) (o : Ob) (i j : Nat) (vals : List Nat) :
    (List.range vals.length).foldl (fun t k => t.wr o i (j + k) (nth 0 vals k)) c = c.wrRun o i j vals := by
  induction vals generalizing c j with
  | nil => rfl
  | cons v t ih =>
    rw [List.length_cons, List.range_succ_eq_map, List.foldl_cons, List.foldl_map, Core.wrRun, ← ih]
    simp only [Nat.add_zero, nth, Nat.succ_eq_add_one, Nat.add_assoc, Nat.add_comm 1]

theorem length_flatMap_leBytes (n : Nat) (vals : List Nat) : (vals.flatMap (leBytes n)).length = vals.length * n := by
  induction vals with
  | nil => simp
  | cons v t ih => rw [List.flatMap_cons, List.length_append, Spool.length_leBytes, ih, List.length_cons]; ring

/-- The bytes of a run give back its values. -/
theorem ofLe_of_run {n k : Nat} {vals : List Nat} (hk : k < vals.length) (hlt : ∀ v ∈ vals, v < 256 ^ n) :
    ofLe (((vals.flatMap (leBytes n)).drop (n * k)).take n) = nth 0 vals k := by
  induction vals generalizing k with
  | nil => simp at hk
  | cons v t ih =>
    rw [List.flatMap_cons]
    cases k with
    | zero =>
      rw [Nat.mul_zero, List.drop_zero, List.take_left' (Spool.length_leBytes n v), Frames.ofLe_leBytes, Nat.mod_eq_of_lt (hlt v (by simp)), nth]
    | succ k =>
      have hlen : n * (k + 1) = (leBytes n v).length + n * k := by rw [Spool.length_leBytes]; ring
      rw [hlen, ← List.drop_drop, List.drop_left, nth]
      exact ih (by simpa using hk) fun w hw => hlt w (by simp [hw])

theorem splitRun_eq (o : Ob) (idx sub : Nat) (data : List Byte) (n : Nat) :
    splitRun o idx sub data n = (List.range n).map (fun k => ⟨0, idx, sub + k, ofLe ((data.drop (o.size * k)).take o.size)⟩) := by
  induction n with
  | zero => rfl
  | succ n ih => rw [splitRun, ih, List.range_succ, List.map_append, List.map_singleton]

end Sys2Proof.Proofs.HostWrites

/-! ### Proofs: an accepted host write takes effect (R436, R437, R442) -/

namespace Sys2Proof.Proofs.HostWrites
open Sys2Proof Sys2Proof.Machine Sys2Proof.Laws

/-! #### The storages and the staged values of a host write -/

/-- The objects that keep no value. -/
def unkept (o : Ob) : Bool := o.among [Obj.MEM_DATA, Obj.ROLE_KEY, Obj.src_STATUS]

/-- What the `k`-th value of a host write is stored in. -/
def primOf (w : HostWrite) (k : Nat) : Prim := .elem w.ob w.inst (w.elem + k) (nth 0 w.vals k) false

/-- The `k`-th value of a host write as it is staged. -/
def stagedOf (w : HostWrite) (k : Nat) : Staged := ⟨0, w.ob.idx + w.ob.stride * w.inst, w.ob.sub + (w.elem + k), nth 0 w.vals k⟩

/-- The block with the completion status of each element DONE. -/
def marked (w : HostWrite) (t : Core) : Core := (List.range w.vals.length).foldl (fun (t : Core) k => t.setCompO w.ob w.inst (w.elem + k) 2) t

/-- The block with the values stored from `b`, and their elements DONE. -/
def landed (w : HostWrite) (b : Core) : Core := marked w (if w.keeps then b.wrRun w.ob w.inst w.elem w.vals else b)

/-- A row of the table of host writes says what its command asks, whether the object keeps its value, and what the object's rule makes each value bring about. -/
structure Row (i : Instr) (w : HostWrite) : Prop where
  asks : ∀ s, exec i s = hostRequest w.dt w.around w.env w.body s
  keeps : w.keeps = !unkept w.ob
  acts : ∀ (c : Caller) (b : Core) (k : Nat) (u : Core × List Host.Cell), k < w.vals.length → (w.vals.length = 1 → u.1 = landed w b) →
    u.1.absentElem w.ob (w.elem + k) = false → b.loses w.ob w.inst (w.elem + k) (nth 0 w.vals k) = false → actPrim w.around c b u (primOf w k) = w.eff c b k (nth 0 w.vals k) u
  calm : w.vals.length = 1 ∨ ∀ (c : Caller) (b : Core) (k j : Nat) (u : Core × List Host.Cell), k < w.vals.length → w.elem + k < w.ob.nsub → j < w.ob.nsub →
    (w.eff c b k (nth 0 w.vals k) u).1.absentElem w.ob j = u.1.absentElem w.ob j

section Accepted
variable {w : HostWrite} {s : State}

theorem nth_mem_vals {l : List Nat} {k : Nat} (h : k < l.length) : nth 0 l k ∈ l := by
  rw [Raster.nth_eq_getD, List.getD_eq_getElem _ _ h]
  exact List.getElem_mem h

/-- What an accepted write's first element says of its object. -/
theorem place_of_accepted (h : w.Accepted s) : objectAt (w.ob.idx + w.ob.stride * w.inst) (w.ob.sub + w.elem) = some (w.ob, w.inst, w.elem) := by
  obtain ⟨-, -, hpos, -, -, -, -, hat, -⟩ := h
  have h0 := hat 0 hpos
  simpa using h0

/-- The request a host write is, with its numbers as they are. -/
theorem body_of_accepted (h : w.Accepted s) :
    w.body = .write (w.ob.idx + w.ob.stride * w.inst) (w.ob.sub + w.elem) w.vals.length 0 0 0 w.data.length w.data := by
  obtain ⟨-, hhigh, hsub⟩ := bounds_of_objectAt (place_of_accepted h)
  obtain ⟨-, -, -, hlen, -⟩ := h
  rw [HostWrite.body, Nat.mod_eq_of_lt (by omega), Nat.mod_eq_of_lt hsub, Nat.mod_eq_of_lt hlen]

theorem worse_ok : worse (worse okC okC) (worse okC okC) = 0 := rfl

/-- Its form is right, and its elements are the staged values. -/
theorem writeForm_of_accepted (h : w.Accepted s) :
    writeForm (w.ob.idx + w.ob.stride * w.inst) (w.ob.sub + w.elem) w.vals.length 0 0 w.data = (0, (List.range w.vals.length).map (stagedOf w)) := by
  have hplace := place_of_accepted h
  have hwin := not_inWindow_of_objectAt hplace
  obtain ⟨hlow, -, -⟩ := bounds_of_objectAt hplace
  obtain ⟨-, -, hpos, -, hrun, hnel, hdata, -, -, -, -, -, -, hfit, -⟩ := h
  have hone : w.vals.length ≤ 1 ∨ (w.ob.isArray = true ∧ w.elem + w.vals.length ≤ w.ob.nsub) := hrun.imp Nat.le_of_eq id
  unfold writeForm
  simp only [hwin, Bool.false_eq_true, if_false, if_neg (Nat.not_lt.mpr hlow), hplace, if_neg (Nat.pos_iff_ne_zero.mp hpos), if_pos hone, ne_eq, not_true_eq_false, or_self]
  by_cases hsize : w.ob.size = 0
  · rw [if_pos hsize] at hdata
    obtain ⟨hvals, hmax⟩ := hdata
    simp only [hsize, if_true, if_pos hmax, worse_ok]
    rw [hvals]
    simp [stagedOf, hvals, nth]
  · rw [if_neg hsize] at hdata
    have hlen : w.data.length = w.vals.length * w.ob.size * w.ob.nel := by rw [hdata, length_flatMap_leBytes, hnel, Nat.mul_one]
    simp only [if_neg hsize, if_pos hlen, worse_ok, not_true_eq_false, if_false, splitRun_eq]
    refine Prod.ext rfl (List.map_congr_left fun k hk => ?_)
    have hlt : ∀ v ∈ w.vals, v < 256 ^ w.ob.size := fun v hv => (hfit v hv).resolve_left hsize
    rw [hdata, ofLe_of_run (List.mem_range.mp hk) hlt, stagedOf, Nat.add_assoc]

theorem prims_stagedOf (h : w.Accepted s) (c : Core) {k : Nat} (hk : k < w.vals.length) : c.prims (stagedOf w k) = [primOf w k] := by
  obtain ⟨-, -, -, -, -, -, -, hat, -⟩ := h
  have hplace := hat k hk
  simp only [Core.prims, stagedOf, not_inWindow_of_objectAt hplace, Bool.false_eq_true, if_false, hplace, primOf]

/-- Where every staged value is one storage, all are stored in order. -/
theorem storeAll_map {l : List Nat} {f : Nat → Staged} {g : Nat → Prim} (h : ∀ k ∈ l, ∀ c : Core, c.prims (f k) = [g k]) (c : Core) :
    c.storeAll (l.map f) = (l.foldl (fun t k => t.storePrim (g k)) c, l.map g) := by
  induction l generalizing c with
  | nil => rfl
  | cons k l ih =>
    simp only [List.map_cons, Core.storeAll, h k (by simp), List.foldl_cons, List.foldl_nil]
    rw [ih fun a ha => h a (by simp [ha])]
    rfl

/-- The block finds no element of the write absent, and no hardware update meets it. -/
def Clear (w : HostWrite) (t : Core) : Prop :=
  (∀ k < w.vals.length, t.absentElem w.ob (w.elem + k) = false) ∧ ∀ k < w.vals.length, t.loses w.ob w.inst (w.elem + k) (nth 0 w.vals k) = false

/-- The elements written lie within the object. -/
theorem within_of_accepted (h : w.Accepted s) {k : Nat} (hk : k < w.vals.length) : w.elem + k < w.ob.nsub := by
  obtain ⟨-, -, -, -, -, -, -, hat, -⟩ := h
  obtain ⟨-, hplace⟩ := objectAt_eq (hat k hk)
  obtain ⟨-, -, -, hlow⟩ := at_eq hplace
  exact hlow

theorem clear_before (h : w.Accepted s) : Clear w (w.before s) := by
  obtain ⟨-, -, -, -, -, -, -, -, hthere, -, -, -, -, -, -, -, hlost⟩ := h
  exact ⟨hthere, hlost⟩

theorem clear_wr (h : w.Accepted s) {t : Core} (ht : Clear w t) (i j v : Nat) : Clear w (t.wr w.ob i j v) := by
  have hin := fun k (hk : k < w.vals.length) => within_of_accepted h hk
  obtain ⟨-, -, -, -, -, -, -, hat, -⟩ := h
  obtain ⟨hthere, hlost⟩ := ht
  refine ⟨fun k hk => ?_, fun k hk => ?_⟩
  · rw [absentElem_wr (objectAt_eq (hat k hk)).1 (hin k hk), hthere k hk]
  · rw [← hlost k hk]
    simp only [Core.loses, wr_hwAt, wr_clk]

theorem storePrim_of_clear {t : Core} {k : Nat} (ht : Clear w t) (hk : k < w.vals.length) :
    t.storePrim (primOf w k) = if unkept w.ob then t else t.wr w.ob w.inst (w.elem + k) (nth 0 w.vals k) := by
  rw [primOf, Core.storePrim, ht.1 k hk, ht.2 k hk]
  exact if_congr (by simp [unkept]) rfl rfl

theorem store_eq (h : w.Accepted s) {t : Core} (ht : Clear w t) {l : List Nat} (hl : ∀ k ∈ l, k < w.vals.length) :
    l.foldl (fun t k => t.storePrim (primOf w k)) t = if unkept w.ob then t else l.foldl (fun t k => t.wr w.ob w.inst (w.elem + k) (nth 0 w.vals k)) t := by
  induction l generalizing t with
  | nil => exact (ite_self t).symm
  | cons k l ih =>
    have hrest : ∀ a ∈ l, a < w.vals.length := fun a ha => hl a (by simp [ha])
    rw [List.foldl_cons, List.foldl_cons, storePrim_of_clear ht (hl k (by simp))]
    by_cases hu : unkept w.ob = true
    · rw [if_pos hu, ih ht hrest, if_pos hu, if_pos hu]
    · rw [if_neg hu, ih (clear_wr h ht _ _ _) hrest, if_neg hu, if_neg hu]

/-- The block with every value stored, and what each was stored in. -/
theorem storeAll_of_accepted {i : Instr} (hrow : Row i w) (h : w.Accepted s) :
    (w.before s).storeAll ((List.range w.vals.length).map (stagedOf w)) = (w.stored s, (List.range w.vals.length).map (primOf w)) := by
  rw [storeAll_map fun k hk c => prims_stagedOf h c (List.mem_range.mp hk), store_eq h (clear_before h) fun k hk => List.mem_range.mp hk, wrRun_eq, HostWrite.stored,
    hrow.keeps]
  cases unkept w.ob <;> rfl

/-! #### Checks -/

theorem primPre_of_accepted (h : w.Accepted s) {k : Nat} (hk : k < w.vals.length) : (w.before s).primPre (w.caller s).role (primOf w k) = 0 := by
  obtain ⟨-, -, -, -, -, -, -, -, -, -, -, -, hrole, -, hdom, -⟩ := h
  have hv := nth_mem_vals hk
  rw [primOf, Core.primPre, if_pos (.inr (hrole _ hv)), if_pos (.inr (.inr (hdom _ hv)))]
  rfl

theorem primCode_of_accepted (h : w.Accepted s) {k : Nat} (hk : k < w.vals.length) : (w.before s).primCode (w.stored s) (w.caller s) (primOf w k) = 0 := by
  have hpre := primPre_of_accepted h hk
  obtain ⟨-, -, -, -, -, -, -, -, hthere, hro, hkonst, -, -, -, -, hchk, -⟩ := h
  rw [primOf] at hpre ⊢
  unfold Core.primCode
  dsimp only
  rw [hpre, hthere k hk, if_neg (by simp), if_neg (by rintro (h | h) <;> contradiction), hchk k hk]
  rfl

theorem stagedCode_of_accepted (h : w.Accepted s) {k : Nat} (hk : k < w.vals.length) : (w.before s).stagedCode (w.stored s) (w.caller s) (stagedOf w k) = 0 := by
  have hprims := prims_stagedOf h (w.before s) hk
  have hpre := primPre_of_accepted h hk
  have hcode := primCode_of_accepted h hk
  obtain ⟨-, -, -, -, -, -, -, hat, -⟩ := h
  have hwin : inWindow (stagedOf w k).idx = false := not_inWindow_of_objectAt (hat k hk)
  have hlow : ¬ (stagedOf w k).idx < 0x1000 := Nat.not_lt.mpr (bounds_of_objectAt (hat k hk)).1
  simp only [Core.stagedCode, Core.stagedPre, hwin, Bool.false_eq_true, false_and, if_false, if_neg hlow, hprims, List.foldl_cons, List.foldl_nil, hpre, hcode]
  rfl

/-! #### Actions -/

theorem foldl_keeps {α β : Type} {f : α → β → α} {l : List β} {a : α} (h : ∀ b ∈ l, f a b = a) : l.foldl f a = a := by
  induction l with
  | nil => rfl
  | cons b l ih => rw [List.foldl_cons, h b (by simp), ih fun x hx => h x (by simp [hx])]

/-- The storages of one write are all settings or all commands: they act in order. -/
theorem act_in_order {α : Type} (f : α → Prim → α) (u : α) (w : HostWrite) (l : List Nat) :
    ((l.map (primOf w)).filter Prim.isCommand).foldl f (((l.map (primOf w)).filter (fun p => !p.isCommand)).foldl f u) = (l.map (primOf w)).foldl f u := by
  have hcom (k : Nat) : (primOf w k).isCommand = decide (w.ob.acc = .wo) := rfl
  cases hw : decide (w.ob.acc = .wo) with
  | true =>
    have hall : ∀ p ∈ l.map (primOf w), p.isCommand = true := by
      intro p hp
      obtain ⟨k, -, rfl⟩ := List.mem_map.mp hp
      rw [hcom, hw]
    rw [List.filter_eq_self.mpr hall, List.filter_eq_nil_iff.mpr fun p hp => by simp [hall p hp], List.foldl_nil]
  | false =>
    have hnone : ∀ p ∈ l.map (primOf w), p.isCommand = false := by
      intro p hp
      obtain ⟨k, -, rfl⟩ := List.mem_map.mp hp
      rw [hcom, hw]
    rw [List.filter_eq_self.mpr (fun p hp => by simp [hnone p hp]), List.filter_eq_nil_iff.mpr fun p hp => by simp [hnone p hp], List.foldl_nil]

theorem acts_of_calm {i : Instr} (hrow : Row i w) (hmany : w.vals.length ≠ 1) {b : Core} {c : Caller} (hlost : ∀ k < w.vals.length, b.loses w.ob w.inst (w.elem + k) (nth 0 w.vals k) = false)
    (hin : ∀ k < w.vals.length, w.elem + k < w.ob.nsub)
    (hcalm : ∀ (c : Caller) (b : Core) (k j : Nat) (u : Core × List Host.Cell), k < w.vals.length → w.elem + k < w.ob.nsub → j < w.ob.nsub → (w.eff c b k (nth 0 w.vals k) u).1.absentElem w.ob j = u.1.absentElem w.ob j)
    {l : List Nat} (hl : ∀ k ∈ l, k < w.vals.length) {u : Core × List Host.Cell} (hthere : ∀ k < w.vals.length, u.1.absentElem w.ob (w.elem + k) = false) :
    (l.map (primOf w)).foldl (actPrim w.around c b) u = l.foldl (fun u k => w.eff c b k (nth 0 w.vals k) u) u := by
  induction l generalizing u with
  | nil => rfl
  | cons k l ih =>
    have hk := hl k (by simp)
    rw [List.map_cons, List.foldl_cons, List.foldl_cons, hrow.acts c b k u hk (absurd · hmany) (hthere k hk) (hlost k hk)]
    exact ih (fun a ha => hl a (by simp [ha])) fun a ha => by rw [hcalm _ _ _ _ _ hk (hin k hk) (hin a ha), hthere a ha]

/-- Each value brings about what its row says. -/
theorem acts_in_order {i : Instr} (hrow : Row i w) {b : Core} {c : Caller} (hin : ∀ k < w.vals.length, w.elem + k < w.ob.nsub) (hlost : ∀ k < w.vals.length, b.loses w.ob w.inst (w.elem + k) (nth 0 w.vals k) = false)
    {u : Core × List Host.Cell} (hfirst : u.1 = landed w b) (hthere : ∀ k < w.vals.length, u.1.absentElem w.ob (w.elem + k) = false) :
    ((List.range w.vals.length).map (primOf w)).foldl (actPrim w.around c b) u = (List.range w.vals.length).foldl (fun u k => w.eff c b k (nth 0 w.vals k) u) u := by
  by_cases hone : w.vals.length = 1
  · have h0 : 0 < w.vals.length := by omega
    rw [hone]
    exact hrow.acts c b 0 u h0 (fun _ => hfirst) (hthere 0 h0) (hlost 0 h0)
  · exact acts_of_calm hrow hone hlost hin (hrow.calm.resolve_left hone) (fun k hk => List.mem_range.mp hk) hthere

theorem clear_marked {t : Core} (h : Clear w t) : Clear w (marked w t) := by
  have hfold (l : List Nat) {t : Core} (h : Clear w t) : Clear w (l.foldl (fun (t : Core) k => t.setCompO w.ob w.inst (w.elem + k) 2) t) := by
    induction l generalizing t with
    | nil => exact h
    | cons k l ih => exact ih (t := t.setCompO w.ob w.inst (w.elem + k) 2) h
  exact hfold _ h

theorem clear_stored (h : w.Accepted s) : Clear w (w.stored s) := by
  have hfold (l : List Nat) {t : Core} (ht : Clear w t) : Clear w (l.foldl (fun t k => t.wr w.ob w.inst (w.elem + k) (nth 0 w.vals k)) t) := by
    induction l generalizing t with
    | nil => exact ht
    | cons k l ih => exact ih (clear_wr h ht _ _ _)
  rw [HostWrite.stored]
  split
  · rw [← wrRun_eq]
    exact hfold _ (clear_before h)
  · exact clear_before h

theorem applyPrims_of_accepted {i : Instr} (hrow : Row i w) (h : w.Accepted s) (m : List Host.Cell) :
    applyPrims w.around (w.caller s) (w.before s) (w.stored s) m ((List.range w.vals.length).map (primOf w)) =
      (let u := (List.range w.vals.length).foldl (fun u k => w.eff (w.caller s) (w.before s) k (nth 0 w.vals k) u) (marked w (w.stored s), m)
       (u.1.refreshDigest, u.2)) := by
  have hmark : ((List.range w.vals.length).map (primOf w)).foldl Core.markDone (w.stored s) = marked w (w.stored s) := by
    rw [List.foldl_map]
    rfl
  have hlost : ((List.range w.vals.length).map (primOf w)).foldl (fun t p => (w.before s).noteLost t p) (marked w (w.stored s)) = marked w (w.stored s) := by
    refine foldl_keeps fun p hp => ?_
    obtain ⟨k, hk, rfl⟩ := List.mem_map.mp hp
    rw [primOf, Core.noteLost, (clear_before h).2 k (List.mem_range.mp hk)]
    rfl
  unfold applyPrims
  dsimp only
  rw [hmark, hlost, act_in_order, acts_in_order (u := (marked w (w.stored s), m)) hrow (fun k hk => within_of_accepted h hk) (clear_before h).2 rfl (clear_marked (clear_stored h)).1]

theorem commitAll_of_accepted {i : Instr} (hrow : Row i w) (h : w.Accepted s) :
    commitAll w.around (w.caller s) (w.before s) s.mem ((List.range w.vals.length).map (stagedOf w)) = ⟨okC, 0, 0, (w.effects s).1.refreshDigest, (w.effects s).2⟩ := by
  have hstore := storeAll_of_accepted hrow h
  have hsound : ∀ v ∈ (List.range w.vals.length).map (stagedOf w),
      (w.before s).stagedCode ((w.before s).storeAll ((List.range w.vals.length).map (stagedOf w))).1 (w.caller s) v = 0 := by
    intro v hv
    obtain ⟨k, hk, rfl⟩ := List.mem_map.mp hv
    rw [hstore]
    exact stagedCode_of_accepted h (List.mem_range.mp hk)
  rw [Writes.commitAll_of_sound hsound, hstore, applyPrims_of_accepted hrow h]
  rfl

/-! #### The answer -/

theorem session_txn_none {c : Core} (h : ∀ p ∈ c.sess, p.2.txn = none) (k : Nat) : (c.session k).txn = none := by
  obtain hnone | ⟨p, hp, hsome⟩ := Modes.tab_get_mem freeSession c.sess k
  · rw [Core.session, hnone]
    rfl
  · rw [Core.session, hsome, h p hp]

theorem not_locked {c : Core} (h : ∀ p ∈ c.sess, p.2.txn = none) (k : Nat) (l : List Staged) : l.find? (c.lockedFor k) = none := by
  refine List.find?_eq_none.mpr fun v _ => ?_
  rw [Core.lockedFor, Bool.not_eq_true, List.any_eq_false]
  intro p hp
  simp [h p hp]

theorem ans_of_accepted {i : Instr} (hrow : Row i w) (h : w.Accepted s) :
    ansOf w.around (w.caller s) (s.core.atTurn w.dt w.env) s.mem w.body = ⟨okC, 0, leBytes 2 0 ++ leBytes 2 0, (w.effects s).1.refreshDigest, (w.effects s).2⟩ := by
  have hplace := place_of_accepted h
  have hform := writeForm_of_accepted h
  have hcommit := commitAll_of_accepted hrow h
  have hmay : Writes.MayWrite (s.core.atTurn w.dt w.env) (w.caller s).role (w.ob.idx + w.ob.stride * w.inst) (w.ob.sub + w.elem) := by
    obtain ⟨hmode, -, -, -, -, -, -, -, -, -, -, hrole, -⟩ := h
    exact ⟨hrole, hmode.imp id (place_of_resetCmd hplace)⟩
  rw [body_of_accepted h]
  obtain ⟨-, htxn, -⟩ := h
  have hform1 := congrArg Prod.fst hform
  have hform2 := congrArg Prod.snd hform
  refine (Writes.ans_write_of_whole hmay).trans ((Writes.ansWhole_of_outside hform1 ?_ ?_ ?_).trans ?_)
  · exact not_locked htxn _ _
  · exact session_txn_none htxn _
  · rw [hform2]
    exact congrArg Applied.code hcommit
  · rw [hform2]
    exact congrArg₂ (writeAns okC 0 0 0) (congrArg Applied.core hcommit) (congrArg Applied.mem hcommit)

/-- An accepted write of a row in its turn leaves the result the row names. -/
theorem doesBoth_of_row {i : Instr} (hrow : Row i w) (hturn : w.Turn s) (h : w.Accepted s) : DoesBoth i s (w.result s).1 (w.result s).2 :=
  Requests.answers_of_ans (hrow.asks s) hturn (by rw [body_of_accepted h]; rfl) (by rw [body_of_accepted h]; exact (show (0x11 : Nat) ≠ 1 by decide)) (ans_of_accepted hrow h)
    (by decide)

end Accepted

end Sys2Proof.Proofs.HostWrites

/-! ### Proofs: the rows of the table of host writes (ch. 2 to 21) -/

namespace Sys2Proof.Proofs.HostWrites
open Sys2Proof Sys2Proof.Machine Sys2Proof.Laws

/-- An object whose writes act by its chapter's rule alone. -/
def acting (o : Ob) : Bool := !o.same Obj.MEM_DATA && !o.same Obj.SP_ATOMIC && !o.same Obj.RESTORE_FACTORY

/-- Such an object that keeps its value. -/
def plain (o : Ob) : Bool := !unkept o && acting o

section Rows
variable {i : Instr} {dt : Nat} {e : FopEnv} {o : Ob} {inst j v : Nat} {vals : List Nat} {d : List Byte} {f : Caller → Core → Nat → Nat → Core → Core}

/-- Outside the objects of the request pipeline, a present element that no hardware update meets acts by the rule of its object. -/
theorem actPrim_of_acting {x : Around} {c : Caller} {b : Core} {u : Core × List Host.Cell} (h : acting o = true) (hthere : u.1.absentElem o j = false)
    (hlost : b.loses o inst j v = false) : actPrim x c b u (.elem o inst j v false) = ((ruleOf o).act c b inst j v u.1, u.2) := by
  simp only [acting, Bool.and_eq_true, Bool.not_eq_true'] at h
  obtain ⟨⟨hmem, hatomic⟩, hrestore⟩ := h
  simp only [actPrim, hthere, hlost, hmem, hatomic, hrestore, Bool.false_eq_true, or_self, if_false]

theorem kept_of_plain (h : plain o = true) : unkept o = false := by
  rw [plain, Bool.and_eq_true, Bool.not_eq_true'] at h
  exact h.1

theorem acting_of_plain (h : plain o = true) : acting o = true := by
  rw [plain, Bool.and_eq_true] at h
  exact h.2

/-- A row that writes one number. -/
theorem row_writes1 (hasks : ∀ s, exec i s = hostRequest dt {} e (writeOf o inst j [v]) s) (hplain : plain o = true)
    (hact : ∀ c b t, (ruleOf o).act c b inst j v t = f c b 0 v t) : Row i (writes1 dt e o inst j v f) where
  asks s := by
    rw [hasks]
    simp [writeOf, HostWrite.body, writes1]
  keeps := by
    show true = !unkept o
    rw [kept_of_plain hplain]
    rfl
  acts c b k u hk _ hthere hlost := by
    obtain rfl : k = 0 := Nat.lt_one_iff.mp hk
    exact (actPrim_of_acting (acting_of_plain hplain) hthere hlost).trans (Prod.ext (hact c b u.1) rfl)
  calm := .inl rfl

/-- A row that writes bytes. -/
theorem row_writesBytes (hasks : ∀ s, exec i s = hostRequest dt {} e (writeBytesOf o inst j d) s) (hplain : plain o = true)
    (hact : ∀ c b v t, (ruleOf o).act c b inst j v t = f c b 0 v t) :
    Row i (writesBytes dt e o inst j d f) where
  asks := hasks
  keeps := by
    show true = !unkept o
    rw [kept_of_plain hplain]
    rfl
  acts c b k u hk _ hthere hlost := by
    obtain rfl : k = 0 := Nat.lt_one_iff.mp hk
    exact (actPrim_of_acting (acting_of_plain hplain) hthere hlost).trans (Prod.ext (hact c b _ u.1) rfl)
  calm := .inl rfl

/-- A row that writes a run of numbers. -/
theorem row_writesRun (hasks : ∀ s, exec i s = hostRequest dt {} e (writeOf o inst j vals) s) (hplain : plain o = true)
    (hact : ∀ c b k v t, (ruleOf o).act c b inst (j + k) v t = f c b k v t)
    (hcalm : ∀ c b k v t a, k < vals.length → j + k < o.nsub → a < o.nsub → (f c b k v t).absentElem o a = t.absentElem o a) : Row i (writesRun dt e o inst j vals f) where
  asks := hasks
  keeps := by
    show true = !unkept o
    rw [kept_of_plain hplain]
    rfl
  acts c b k u hk _ hthere hlost :=
    (actPrim_of_acting (acting_of_plain hplain) hthere hlost).trans (Prod.ext (hact c b k _ u.1) rfl)
  calm := .inr fun c b k a u hk hin ha => hcalm c b k _ u.1 a hk hin ha

end Rows

/-! #### Which dice stand on the ports (R456) -/

/-- Every port has as many primitives as before. -/
def SameDice (c t : Core) : Prop := ∀ p < 64, t.nPrim p = c.nPrim p

section Dice
variable {c t u : Core}

theorem SameDice.trans (h : SameDice c t) (h' : SameDice t u) : SameDice c u := fun p hp => (h' p hp).trans (h p hp)

theorem sameDice_each {l : List Nat} {f : Core → Nat → Core} (h : ∀ t n, SameDice t (f t n)) (c : Core) : SameDice c (c.each l f) :=
  List.foldlRecOn (motive := SameDice c) l f (fun _ _ => rfl) fun _ ht _ _ => ht.trans (h _ _)

theorem sameDice_wr {o : Ob} {i j v : Nat} (h : ∀ p < 64, Obj.port_DIE_GEOM.key p 0 ≠ o.key i j) : SameDice c (c.wr o i j v) := by
  intro p hp
  have hport : (c.wr o i j v).port p = c.port p := by rw [Core.port, wr_ports, Core.port]
  rw [Core.nPrim, Core.geomByte, hport, rd_wr_ne _ _ _ _ _ _ _ _ (h p hp)]
  rfl

theorem sameDice_updPort (q : Nat) {f : Port → Port} (h : ∀ x, (f x).enumerated = x.enumerated) : SameDice c (c.updPort q f) := by
  intro p _
  have henum : ((c.updPort q f).port p).enumerated = (c.port p).enumerated := by
    by_cases hq : p = q
    · rw [hq, show (c.updPort q f).port q = f (c.port q) from tab_get_set _ _ _ _, h]
    · rw [show (c.updPort q f).port p = c.port p from tab_get_set_ne _ _ _ _ _ hq]
  rw [Core.nPrim, henum]
  rfl

theorem sameDice_bump (key n : Nat) : SameDice c (c.bump key n) := fun _ _ => rfl

theorem sameDice_dropFrame (k : Nat) : SameDice c (c.dropFrame k) := by
  refine (sameDice_bump _ _).trans (sameDice_wr fun p _ => ?_)
  simp [Ob.key, Obj.port_DIE_GEOM, Obj.rp_DROPS]
  omega

theorem sameDice_ringStore (k : Nat) (b : List Byte) : SameDice c (c.ringStore k b) := by
  obtain ⟨queue, free, out, hflush⟩ := ringFlush_frame c k
  have hleft : SameDice c (c.ringFlush k) := by
    rw [hflush]
    exact fun _ _ => rfl
  unfold Core.ringStore
  dsimp only
  split
  · exact hleft.trans fun _ _ => rfl
  · exact hleft.trans fun _ _ => rfl

theorem sameDice_ringTo (typ dst seq frag flags : Nat) (b : List Byte) : SameDice c (c.ringTo typ dst seq frag flags b) := by
  unfold Core.ringTo
  split
  · split
    · exact sameDice_ringStore _ _
    · exact sameDice_dropFrame _
  · exact sameDice_dropFrame _

theorem sameDice_mirror (rtype rflags ref : Nat) (b : List Byte) : SameDice c (c.mirror rtype rflags ref b) := by
  unfold Core.mirror
  split
  · exact SameDice.trans (t := { c with ringTx := Tab.set c.ringTx 0x30 (c.nextRingSeq 0x30) }) (fun _ _ => rfl)
      (sameDice_each (fun _ _ => sameDice_ringTo _ _ _ _ _ _) _)
  · exact fun _ _ => rfl

theorem sameDice_mirrorPump (c : Core) : SameDice c c.mirrorPump := by
  unfold Core.mirrorPump
  split
  · exact fun _ _ => rfl
  · split
    · exact fun _ _ => rfl
    · next r rest _ _ =>
      have hsent : SameDice c (({ c with pair := { c.pair with paced := rest, pacedAt := c.clk + ns (100 * (28 + r.2.2.length)) } }).mirror r.1 0 r.2.1 r.2.2) :=
        SameDice.trans (fun _ _ => rfl) (sameDice_mirror _ _ _ _)
      dsimp only
      split
      · exact hsent.trans (sameDice_updPort _ fun _ => rfl)
      · exact hsent

theorem sameDice_mirrorPaced (rtype ref : Nat) (b : List Byte) : SameDice c (c.mirrorPaced rtype ref b) := by
  unfold Core.mirrorPaced
  split
  · exact SameDice.trans (t := { c with pair := { c.pair with paced := c.pair.paced ++ [(rtype, ref, b)] } }) (fun _ _ => rfl) (sameDice_mirrorPump _)
  · exact fun _ _ => rfl

theorem sameDice_wr_nozzleMap (n v : Nat) : SameDice c (c.wr Obj.NOZZLE_MAP 0 n v) := by
  refine sameDice_wr fun p _ => ?_
  simp [Ob.key, Obj.port_DIE_GEOM, Obj.NOZZLE_MAP]
  omega

theorem sameDice_setNozzle (n v : Nat) : SameDice c (c.setNozzle n v) := by
  unfold Core.setNozzle
  dsimp only
  split
  · exact sameDice_wr_nozzleMap n v
  · exact (sameDice_wr_nozzleMap n v).trans (sameDice_mirrorPaced _ _ _)

end Dice

/-! #### Rows of chapters 2 to 7 -/

theorem plain_tablesOf106 : tablesOf106.all plain = true := by decide

theorem nth_mem {α : Type} {d : α} {l : List α} (hd : d ∈ l) (k : Nat) : nth d l k ∈ l := by
  rw [Raster.nth_eq_getD, List.getD_eq_getElem?_getD]
  cases hk : l[k]? with
  | none => exact hd
  | some a => exact List.mem_of_getElem? hk

theorem plain_table (table : Nat) : plain (nth Obj.K_CAL tablesOf106 table) = true :=
  List.all_eq_true.mp plain_tablesOf106 _ (nth_mem (by simp [tablesOf106]) table)

/-- The first of the tables of R106 is K_CAL, whose writes keep the columns under way; no other holds a value per nozzle. -/
theorem calm_table (table inst e : Nat) (c : Caller) (b t : Core) (k v a : Nat) (ha : a < (nth Obj.K_CAL tablesOf106 table).nsub) :
    ((ruleOf (nth Obj.K_CAL tablesOf106 table)).act c b inst (e + k) v t).absentElem (nth Obj.K_CAL tablesOf106 table) a =
      t.absentElem (nth Obj.K_CAL tablesOf106 table) a := by
  have hmem : nth Obj.K_CAL tablesOf106 table ∈ tablesOf106 := nth_mem (by simp [tablesOf106]) table
  generalize nth Obj.K_CAL tablesOf106 table = o at hmem ha ⊢
  rw [tablesOf106, List.mem_cons] at hmem
  obtain rfl | hrest := hmem
  · exact absentElem_congr ha (sameDice_updPort _ fun _ => rfl)
  · have hsmall : isLarge o = false := by
      have hall : ([Obj.HIST, Obj.NBR, Obj.E_DIE, Obj.K_ROW, Obj.EPT, Obj.WEAK_TRIM, Obj.THERM_COEF, Obj.T_REF, Obj.K_THERM_MIN, Obj.K_THERM_MAX].all fun o => !isLarge o) = true := by decide
      simpa using List.all_eq_true.mp hall o hrest
    rw [absentElem_of_small hsmall, absentElem_of_small hsmall]

theorem calm_nozzleMap (b t : Core) (first k v a : Nat) (ha : a < Obj.NOZZLE_MAP.nsub) :
    (((t.wr Obj.NOZZLE_MAP 0 (first + k) (b.rd Obj.NOZZLE_MAP 0 (first + k))).setNozzle (first + k) v).absentElem Obj.NOZZLE_MAP a) = t.absentElem Obj.NOZZLE_MAP a :=
  absentElem_congr ha ((sameDice_wr_nozzleMap _ _).trans (sameDice_setNozzle _ _))

theorem ruleOf_spitRun : ruleOf Obj.SPIT_RUN = rule Obj.SPIT_RUN chkSpitRun actSpitRun := rfl

/-- Every row names the request its command makes and the act of its object's rule; the rows that write runs or bytes, or choose their object, stand out. -/
theorem row_of_writes02 {i : Instr} {w : HostWrite} (h : writes02 i = some w) : Row i w := by
  unfold writes02 at h
  split at h <;> cases h
  case h_4 sub v =>
    by_cases hsub : sub = 2
    · simp only [if_pos hsub]
      exact row_writes1 (fun s => by simp only [exec, execPaceSrcWrite, if_pos hsub]) (by decide) (fun _ _ _ => rfl)
    · simp only [if_neg hsub]
      exact row_writes1 (fun s => by simp only [exec, execPaceSrcWrite, if_neg hsub]) (by decide) (fun _ _ _ => rfl)
  case h_5 =>
    refine row_writesRun (fun _ => rfl) (by decide) (fun _ _ _ _ _ => rfl) fun _ _ _ _ _ _ _ _ _ => ?_
    rw [absentElem_of_small (by decide), absentElem_of_small (by decide)]
  case h_9 => exact row_writes1 (fun _ => rfl) (by decide) (fun c b t => by rw [ruleOf_spitRun]; simp only [rule, actSpitRun])
  case h_12 table inst first vals => exact row_writesRun (fun _ => rfl) (plain_table table) (fun _ _ _ _ _ => rfl) fun c b k v t a _ _ => calm_table table inst first c b t k v a
  case h_13 decay port v =>
    cases decay
    · exact row_writes1 (fun _ => rfl) (by decide) (fun _ _ _ => rfl)
    · exact row_writes1 (fun _ => rfl) (by decide) (fun _ _ _ => rfl)
  case h_15 port =>
    refine row_writes1 (fun _ => rfl) (by decide) fun c b t => ?_
    exact if_congr (by simp) rfl rfl
  case h_24 first vals =>
    exact row_writesRun (fun _ => rfl) (by decide) (fun _ _ _ _ _ => rfl) fun c b k v t a _ _ => calm_nozzleMap b t first k _ a
  case h_25 => exact row_writesBytes (fun _ => rfl) (by decide) (fun _ _ _ _ => rfl)
  case h_30 => exact row_writesBytes (fun _ => rfl) (by decide) (fun _ _ _ _ => rfl)
  all_goals exact row_writes1 (fun _ => rfl) (by decide) (fun _ _ _ => rfl)

/-- Settles O5: each row of the table is one of `Row`, and every such row's accepted write takes its effect. -/
theorem hostWritesOfTheHeads : Obligations.HostWritesOfTheHeads := by
  unfold Obligations.HostWritesOfTheHeads
  intro i w s h ht ha
  exact doesBoth_of_row (row_of_writes02 h) ht ha

end Sys2Proof.Proofs.HostWrites

/-! ### Proofs: host writes of the raster path, Avone, the stream, DMA, Spool, DRAM and motion (ch. 8 to 12) -/

namespace Sys2Proof.Proofs.HostWrites
open Sys2Proof Sys2Proof.Machine Sys2Proof.Laws

/-- An atomic operation acts in the request pipeline, on the memory. -/
theorem actPrim_atomic {x : Around} {c : Caller} {b : Core} {u : Core × List Host.Cell} {v : Nat} (hthere : u.1.absentElem Obj.SP_ATOMIC 0 = false)
    (hlost : b.loses Obj.SP_ATOMIC 0 0 v = false) : actPrim x c b u (.elem Obj.SP_ATOMIC 0 0 v false) = u.1.atomicWrite u.2 x v := by
  have hmem : Obj.SP_ATOMIC.same Obj.MEM_DATA = false := by decide
  have hatomic : Obj.SP_ATOMIC.same Obj.SP_ATOMIC = true := by decide
  simp only [actPrim, hthere, hlost, hmem, hatomic, Bool.false_eq_true, or_self, if_false, if_true]

/-- A row of an atomic operation. -/
theorem row_atomic {i : Instr} {dt : Nat} {e : FopEnv} {x : Around} {d : List Byte} (hasks : ∀ s, exec i s = hostRequest dt x e (writeBytesOf Obj.SP_ATOMIC 0 0 d) s) :
    Row i { writesBytes dt e Obj.SP_ATOMIC 0 0 d (fun _ _ _ _ t => t) with around := x, eff := fun _ _ _ v u => u.1.atomicWrite u.2 x v } where
  asks := hasks
  keeps := (by decide : true = !unkept Obj.SP_ATOMIC)
  acts c b k u hk _ hthere hlost := by
    obtain rfl : k = 0 := Nat.lt_one_iff.mp hk
    exact actPrim_atomic hthere hlost
  calm := .inl rfl

/-- A row of a MOVE. -/
theorem row_move {i : Instr} {dt axis : Nat} {e : FopEnv} {d : List Byte} (hasks : ∀ s, exec i s = hostRequest dt {} e (writeBytesOf Obj.ax_MOVE axis 0 d) s) :
    Row i (writesBytes dt e Obj.ax_MOVE axis 0 d (fun _ b _ v t => actMove b axis 0 v t)) :=
  row_writesBytes hasks (by decide) (fun _ _ _ _ => rfl)

/-- The rule of DMA_ABORT asks for a channel that was HALTED before the write, and the write itself moves no channel. -/
theorem row_dmaAbort (dt : Nat) (e : FopEnv) (ch v : Nat) : Row (.dmaAbort dt e ch v)
    (writes1 dt e Obj.dma_ABORT ch 0 v (fun _ _ _ v t => if v = 1 ∧ t.chState ch = chHalted then t.descEnd ch 4 chDisabled else t)) where
  asks s := rfl
  keeps := (by decide : true = !unkept Obj.dma_ABORT)
  acts c b k u hk hfirst hthere hlost := by
    obtain rfl : k = 0 := Nat.lt_one_iff.mp hk
    refine (actPrim_of_acting (o := Obj.dma_ABORT) (by decide) hthere hlost).trans (Prod.ext ?_ rfl)
    have hstate : u.1.chState ch = b.chState ch := by
      rw [hfirst rfl]
      exact rd_wr_ne b Obj.dma_ABORT Obj.dma_CH_STATE ch 0 ch 0 v (Dma.key_ne_of_subindex (by decide))
    show actDmaAbort b ch 0 v u.1 = if v = 1 ∧ u.1.chState ch = chHalted then u.1.descEnd ch 4 chDisabled else u.1
    exact if_congr (by rw [hstate]; tauto) rfl rfl
  calm := .inl rfl

theorem plain_maskGeometry : [Obj.ms_PW, Obj.ms_PH, Obj.ms_PASSES].all plain = true := by decide

theorem act_maskGeometry (member : Nat) (c : Caller) (b t : Core) (set v : Nat) :
    (ruleOf (nth Obj.ms_PW [Obj.ms_PW, Obj.ms_PH, Obj.ms_PASSES] member)).act c b set 0 v t = t.wr Obj.ms_MASK_VALID set 0 0 := by
  have hmem : nth Obj.ms_PW [Obj.ms_PW, Obj.ms_PH, Obj.ms_PASSES] member ∈ [Obj.ms_PW, Obj.ms_PH, Obj.ms_PASSES] := nth_mem (by simp) member
  generalize nth Obj.ms_PW [Obj.ms_PW, Obj.ms_PH, Obj.ms_PASSES] member = o at hmem ⊢
  simp only [List.mem_cons, List.not_mem_nil, or_false] at hmem
  obtain rfl | rfl | rfl := hmem
  · rfl
  · rfl
  · rfl

theorem ruleOf_streamCtrl : ruleOf Obj.STREAM_CTRL = rule Obj.STREAM_CTRL chkStreamCtrl actStreamCtrl := rfl

theorem ruleOf_dmaEnable : ruleOf Obj.dma_ENABLE = rule Obj.dma_ENABLE chkDmaEnable actDmaEnable := rfl

/-- Every row names the request its command makes and the act of its object's rule; the rows that write bytes, or choose their object or their branch, stand out. -/
theorem row_of_writes08 {i : Instr} {w : HostWrite} (h : writes08 i = some w) : Row i w := by
  unfold writes08 at h
  split at h <;> cases h
  case h_1 member set v =>
    exact row_writes1 (fun _ => rfl) (List.all_eq_true.mp plain_maskGeometry _ (nth_mem (by simp) member)) fun c b t => act_maskGeometry member c b t set v
  case h_2 => exact row_writesBytes (fun _ => rfl) (by decide) (fun _ _ _ _ => rfl)
  case h_7 => exact row_writesBytes (fun _ => rfl) (by decide) (fun _ _ _ _ => rfl)
  case h_8 => exact row_writes1 (fun _ => rfl) (by decide) fun c b t => by simp [ruleOf_streamCtrl, rule, actStreamCtrl]
  case h_9 => exact row_writes1 (fun _ => rfl) (by decide) fun c b t => by simp [ruleOf_streamCtrl, rule, actStreamCtrl]
  case h_10 => exact row_writes1 (fun _ => rfl) (by decide) fun c b t => by simp [ruleOf_dmaEnable, rule, actDmaEnable]
  case h_11 => exact row_writes1 (fun _ => rfl) (by decide) fun c b t => by simp [ruleOf_dmaEnable, rule, actDmaEnable]
  case h_14 => exact row_dmaAbort _ _ _ _
  case h_16 portB bank v =>
    cases portB
    · exact row_writes1 (fun _ => rfl) (by decide) (fun _ _ _ => rfl)
    · exact row_writes1 (fun _ => rfl) (by decide) (fun _ _ _ => rfl)
  case h_17 => exact row_atomic fun _ => rfl
  case h_18 => exact row_atomic fun _ => rfl
  case h_19 => exact row_atomic fun _ => rfl
  case h_20 => exact row_atomic fun _ => rfl
  case h_22 | h_23 | h_24 | h_25 | h_26 | h_27 | h_28 => exact row_move fun _ => rfl
  case h_31 => exact row_writes1 (fun _ => rfl) (by decide) (fun _ _ _ => rfl)
  case h_36 master index v =>
    cases master
    · exact row_writes1 (fun _ => rfl) (by decide) (fun _ _ _ => rfl)
    · exact row_writes1 (fun _ => rfl) (by decide) (fun _ _ _ => rfl)
  all_goals exact row_writes1 (fun _ => rfl) (by decide) (fun _ _ _ => rfl)

/-- Settles O6: each row of the table is one of `Row`, and every such row's accepted write takes its effect. -/
theorem hostWritesOfRasterAndMotion : Obligations.HostWritesOfRasterAndMotion := by
  unfold Obligations.HostWritesOfRasterAndMotion
  intro i w s h ht ha
  exact doesBoth_of_row (row_of_writes08 h) ht ha

end Sys2Proof.Proofs.HostWrites

/-! ### Proofs: host writes of the ring, pairs, the dictionary, modes, Selvedge, power and self-test (ch. 13 to 21) -/

namespace Sys2Proof.Proofs.HostWrites
open Sys2Proof Sys2Proof.Machine Sys2Proof.Laws

section Rows
variable {i : Instr} {dt : Nat} {e : FopEnv} {x : Around} {o : Ob} {inst j v : Nat} {d : List Byte} {f : Caller → Core → Nat → Nat → Core → Core}

/-- A row that writes one number the object does not keep. -/
theorem row_passes1 (hasks : ∀ s, exec i s = hostRequest dt x e (writeOf o inst j [v]) s) {keeps : Bool} (hkeeps : keeps = !unkept o) (hacting : acting o = true)
    (hact : ∀ c b t, (ruleOf o).act c b inst j v t = f c b 0 v t) : Row i { writes1 dt e o inst j v f with around := x, keeps := keeps } where
  asks s := by
    rw [hasks]
    simp [writeOf, HostWrite.body, writes1]
  keeps := hkeeps
  acts c b k u hk _ hthere hlost := by
    obtain rfl : k = 0 := Nat.lt_one_iff.mp hk
    exact (actPrim_of_acting hacting hthere hlost).trans (Prod.ext (hact c b u.1) rfl)
  calm := .inl rfl

end Rows

/-- ROLE_KEY keeps no value: the key is unwrapped at once. -/
theorem row_roleKey (dt : Nat) (e : FopEnv) (role : Nat) (d : List Byte) : Row (.roleKeyWrite dt e role d)
    { writesBytes dt e Obj.ROLE_KEY 0 role d (fun _ _ _ v t => match Crypto.kwUnwrap Config.dtk (leBytes 40 v) with | none => t | some k => Core.endRole { t with roleKeys := Tab.set t.roleKeys role k } role) with keeps := false } where
  asks s := rfl
  keeps := (by decide : false = !unkept Obj.ROLE_KEY)
  acts c b k u hk _ hthere hlost := by
    obtain rfl : k = 0 := Nat.lt_one_iff.mp hk
    refine (actPrim_of_acting (o := Obj.ROLE_KEY) (by decide) hthere hlost).trans (Prod.ext ?_ rfl)
    show actRoleKey b 0 role _ u.1 = _
    unfold actRoleKey
    rfl
  calm := .inl rfl

/-- RESTORE_FACTORY acts in the request pipeline. -/
theorem row_restoreFactory (dt : Nat) (e : FopEnv) (groups : Nat) :
    Row (.restoreFactory dt e groups) (writes1 dt e Obj.RESTORE_FACTORY 0 0 groups (fun c _ _ v t => t.restoreFactory c v)) where
  asks s := rfl
  keeps := (by decide : true = !unkept Obj.RESTORE_FACTORY)
  acts c b k u hk _ hthere hlost := by
    obtain rfl : k = 0 := Nat.lt_one_iff.mp hk
    have hmem : Obj.RESTORE_FACTORY.same Obj.MEM_DATA = false := by decide
    have hatomic : Obj.RESTORE_FACTORY.same Obj.SP_ATOMIC = false := by decide
    have hrestore : Obj.RESTORE_FACTORY.same Obj.RESTORE_FACTORY = true := by decide
    show actPrim _ c b u (.elem Obj.RESTORE_FACTORY 0 0 groups false) = (u.1.restoreFactory c groups, u.2)
    replace hthere : u.1.absentElem Obj.RESTORE_FACTORY 0 = false := hthere
    replace hlost : b.loses Obj.RESTORE_FACTORY 0 0 groups = false := hlost
    simp only [actPrim, hthere, hlost, hmem, hatomic, hrestore, Bool.false_eq_true, or_self, if_false, if_true]
  calm := .inl rfl

/-! #### Rows that choose their object -/

/-- The objects of a row that changes the ring. -/
def ringObs : List Ob := [Obj.NODE_ID, Obj.RING_ROLE, Obj.RING_EN]

theorem act_ringObs (member : Nat) (c : Caller) (b t : Core) (v : Nat) : (ruleOf (nth Obj.NODE_ID ringObs member)).act c b 0 0 v t =
    if member = 2 then t.ringRestart.updRing (fun r => { r with silenced := t.ring.silenced }) else t.ringRestart := by
  match member with
  | 0 => exact (if_neg (by decide)).symm
  | 1 => exact (if_neg (by decide)).symm
  | 2 => exact (if_pos rfl).symm
  | m + 3 => exact (if_neg (by omega)).symm

/-- The settings of a source. -/
def sourceObs : List Ob := [Obj.src_MASK, Obj.src_CLASS, Obj.src_REACTION, Obj.src_ESC]

theorem act_sourceObs (sub : Nat) (c : Caller) (b t : Core) (n v : Nat) : (ruleOf (nth Obj.src_MASK sourceObs sub)).act c b n 0 v t = t := by
  have hmem : nth Obj.src_MASK sourceObs sub ∈ sourceObs := nth_mem (by simp [sourceObs]) sub
  generalize nth Obj.src_MASK sourceObs sub = o at hmem ⊢
  simp only [sourceObs, List.mem_cons, List.not_mem_nil, or_false] at hmem
  obtain rfl | rfl | rfl | rfl := hmem
  · rfl
  · rfl
  · rfl
  · rfl

theorem plain_chosen : (ringObs ++ sourceObs).all plain = true := by decide

theorem plain_ringObs (member : Nat) : plain (nth Obj.NODE_ID ringObs member) = true :=
  List.all_eq_true.mp plain_chosen _ (List.mem_append_left _ (nth_mem (by simp [ringObs]) member))

theorem plain_sourceObs (sub : Nat) : plain (nth Obj.src_MASK sourceObs sub) = true :=
  List.all_eq_true.mp plain_chosen _ (List.mem_append_right _ (nth_mem (by simp [sourceObs]) sub))

theorem ruleOf_hostLock : ruleOf Obj.HOST_LOCK = ⟨Obj.HOST_LOCK, chkHostLock, actHostLock⟩ := rfl

/-! #### The table -/

/-- Every row names the request its command makes and the act of its object's rule; the rows that choose their object or their branch, or keep no value, stand out. -/
theorem row_of_writes13 {i : Instr} {w : HostWrite} (h : writes13 i = some w) : Row i w := by
  unfold writes13 at h
  split at h <;> cases h
  case h_3 member v => exact row_writes1 (fun _ => rfl) (plain_ringObs member) fun c b t => act_ringObs member c b t v
  case h_6 => exact row_roleKey _ _ _ _
  case h_9 => exact row_restoreFactory _ _ _
  case h_16 => exact row_passes1 (o := Obj.RESET_CMD) (keeps := true) (fun _ => rfl) (by decide) (by decide) (fun _ _ _ => rfl)
  case h_17 => exact row_passes1 (fun _ => rfl) (by decide) (by decide) (fun _ _ _ => rfl)
  case h_20 source sub v => exact row_writes1 (fun _ => rfl) (plain_sourceObs (sub - 3)) fun c b t => act_sourceObs (sub - 3) c b t source v
  case h_21 => exact row_writes1 (fun _ => rfl) (by decide) fun c b t => by simp [ruleOf_hostLock, actHostLock]
  case h_22 => exact row_writes1 (fun _ => rfl) (by decide) fun c b t => by simp [ruleOf_hostLock, actHostLock]
  all_goals exact row_writes1 (fun _ => rfl) (by decide) (fun _ _ _ => rfl)

/-- Settles O7: each row of the table is one of `Row`, and every such row's accepted write takes its effect. -/
theorem hostWritesOfTheDevice : Obligations.HostWritesOfTheDevice := by
  unfold Obligations.HostWritesOfTheDevice
  intro i w s h ht ha
  exact doesBoth_of_row (row_of_writes13 h) ht ha

end Sys2Proof.Proofs.HostWrites

/-! ### Proofs: OPEN, and requests outside a session's turn (R424 to R431, R448) -/

namespace Sys2Proof.Proofs.Sessions
open Sys2Proof Sys2Proof.Machine Sys2Proof.Laws

/-! #### What arrives -/

section Arriving
variable {i : Instr} {s : State} {dt : Nat} {x : Around} {e : FopEnv} {b : ReqBody} {c k : Core} {m : List Host.Cell}

/-- A request that leaves memory and asks for no reset has the block's answer alone. -/
theorem does_of_arrives (hi : exec i s = hostRequest dt x e b s) (harr : (s.core.advance dt).fopArrives s.mem x e b = (k, s.mem)) (hreset : k.armed .commandReset 0 = false) :
    Does i s k := by
  have hreq : (s.core.advance dt).fopRequest s.mem x e b = (k, s.mem) := by
    unfold Core.fopRequest
    dsimp only
    rw [harr, if_neg (by simp [hreset])]
  exact Power.doesBoth_of_eq (r := (s.core.advance dt).fopRequest s.mem x e b) hi hreq

theorem armed_of_timers {t : Timer} {j : Nat} (h : k.timers = c.timers) : k.armed t j = c.armed t j := by rw [Core.armed, h, Core.armed]

/-- Before CONFIG a request is answered BUSY (R448). -/
theorem fopArrives_of_busy (hrun : c.running = true) (hconf : c.configReached = false) (hnode : e.node < 4095) (htyp : requestType b.typ = true) :
    c.fopArrives m x e b = (({ c with freeCount := c.freeCount + 1, lastStatus := busyC }).untagged e b.typ 0 busyC c.busyTime, m) := by
  unfold Core.fopArrives
  rw [if_neg (by simp [hrun]), if_neg (Requests.not_retain_of_running hrun), if_neg (by simp [htyp]; omega), if_pos (by simp [hconf])]

/-- From CONFIG on a request for this controller arrives at its session. -/
theorem fopArrives_of_session (hrun : c.running = true) (hconf : c.configReached = true) (hnode : e.node < 4095) (hme : c.targetsMe e = true)
    (htyp : requestType b.typ = true) (hopn : b.typ ≠ 1) : c.fopArrives m x e b = c.sessionRequest m x e b := by
  unfold Core.fopArrives
  rw [if_neg (by simp [hrun]), if_neg (Requests.not_retain_of_running hrun), if_neg (by simp [htyp]; omega), if_neg (by simp [hconf]), if_neg (by simp [hme]), if_neg hopn]

/-- OPEN arrives where sessions are opened. -/
theorem fopArrives_of_open (hrun : c.running = true) (hconf : c.configReached = true) (hnode : e.node < 4095) (hme : c.targetsMe e = true) (hopn : b.typ = 1) :
    c.fopArrives m x e b = (c.openSession e b, m) := by
  unfold Core.fopArrives
  rw [if_neg (by simp [hrun]), if_neg (Requests.not_retain_of_running hrun), if_neg (by simp [hopn, requestType]; omega), if_neg (by simp [hconf]), if_neg (by simp [hme]),
    if_pos hopn]

end Arriving

/-! #### Messages -/

section Messages
variable {c : Core} {e : FopEnv}

theorem sendFop_lane (kind : OutKind) {lane : Nat} (h : lane < 2) (ip port : Nat) (m : List Byte) :
    c.sendFop kind lane ip port m = { c with out := ⟨kind, lane, [(ip : Int), (port : Int)], m⟩ :: c.out } := by
  rw [Core.sendFop, if_pos h]
  rfl

theorem length_fopHead (typ flags node serial session n seq : Nat) : (fopHead typ flags node serial session n seq).length = 24 := by
  simp only [fopHead, List.length_append, Spool.length_leBytes]

/-- The flags of a message without a TAG: a response, untagged (R425). -/
theorem flags_untagged (typ node serial session seq : Nat) (body : List Byte) : leAt (taggedMessage none typ 1 node serial session seq body) 4 2 = 3 := by
  simp only [taggedMessage, fopHead, List.append_assoc]
  rw [Frames.leAt_append_right (by simp [Spool.length_leBytes]), Frames.leAt_append_right (by simp [Spool.length_leBytes]), Frames.leAt_append_right (by simp [Spool.length_leBytes])]
  simp only [Spool.length_leBytes]
  rw [Frames.leAt_leBytes_append]
  rfl

/-- Its body begins with the status, and INFO follows. -/
theorem status_untagged {typ node serial session seq status info : Nat} (hs : status < 256 ^ 4) (hi : info < 256 ^ 4) :
    leAt (taggedMessage none typ 1 node serial session seq (leBytes 4 status ++ leBytes 4 info)) 24 4 = status ∧
    leAt (taggedMessage none typ 1 node serial session seq (leBytes 4 status ++ leBytes 4 info)) 28 4 = info := by
  simp only [taggedMessage, List.append_assoc]
  have hlen := length_fopHead typ (1 + 2) node serial session (leBytes 4 status ++ leBytes 4 info).length seq
  constructor
  · rw [Frames.leAt_append_right (by omega), hlen, Nat.sub_self, Frames.leAt_leBytes_append, Nat.mod_eq_of_lt hs]
  · rw [Frames.leAt_append_right (by omega), hlen, Frames.leAt_append_right (by simp [Spool.length_leBytes]), Spool.length_leBytes, Frames.leAt_leBytes_append, Nat.mod_eq_of_lt hi]

theorem busyTime_le (c : Core) : 10000 ≤ c.busyTime ∧ c.busyTime ≤ 2500000 := by
  unfold Core.busyTime
  omega

end Messages

/-! #### OPEN (R429) -/

/-- The session OPEN makes. -/
def pendingSession (e : FopEnv) (role maxMsg : Nat) (key : List Byte) : Session :=
  { st := 1, role := role, maxMsg := min maxMsg 8952, n := 1, lane := e.lane, ip := e.ip, port := e.port, evLane := e.lane, evIp := e.ip, evPort := e.port, key := key }

/-- The block once OPEN has made the session of handle `h`. -/
def opened (c : Core) (e : FopEnv) (role maxMsg nonce h : Nat) (key : List Byte) : Core :=
  Core.respond { (c.draw.2.setSession h (pendingSession e role maxMsg (sessionKey key (leBytes 16 nonce) c.draw.1 h))).arm .sessionPending h (ms 1000) with lastStatus := okC } e
    (taggedMessage (some key) 1 1 e.node e.serial 0 e.seq
      (leBytes 4 okC ++ leBytes 4 0 ++ (leBytes 2 h ++ leBytes 2 (min maxMsg 8952) ++ leBytes 4 (c.rd0 Obj.SESSION_IDLE) ++ c.draw.1)))

/-- The lowest free handle. -/
theorem find_lowest {c : Core} {h : Nat} (h1 : 1 ≤ h) (h16 : h ≤ 16) (hfree : (c.session h).st = 0) (hlow : ∀ k < h, 1 ≤ k → (c.session k).st ≠ 0) :
    (((List.range 17).drop 1).find? (fun h => decide ((c.session h).st = 0))).getD 0 = h := by
  have hrange : (List.range 17).drop 1 = List.range' 1 16 := by decide
  have hfind : (List.range' 1 16).find? (fun h => decide ((c.session h).st = 0)) = some h :=
    List.find?_range'_eq_some.mpr ⟨by simp [hfree], by rw [List.mem_range'_1]; omega, fun k hk hkh => by simp [hlow k hkh hk]⟩
  rw [hrange, hfind]
  rfl

theorem openSession_of_free {c : Core} {e : FopEnv} {role maxMsg nonce h : Nat} {key : List Byte} (hkey : c.roleKey role = some key)
    (htag : tagOk key e (.opn role maxMsg nonce) = true) (hsession : e.session = 0) (hseq : e.seq = 0) (hmax : 512 ≤ maxMsg)
    (hused : (c.sess.filter (fun p => decide (p.2.st ≠ 0))).length < 16) (hpending : (c.sess.filter (fun p => decide (p.2.st = 1))).length < 4)
    (hlowest : (((List.range 17).drop 1).find? (fun h => decide ((c.session h).st = 0))).getD 0 = h) :
    c.openSession e (.opn role maxMsg nonce) = opened c e role maxMsg nonce h key := by
  have hfull : ¬ (16 ≤ (c.sess.filter (fun p => decide (p.2.st ≠ 0))).length ∨ 4 ≤ (c.sess.filter (fun p => decide (p.2.st = 1))).length) := by omega
  have hvalue : valueIf (decide (maxMsg < 512)) = okC := if_neg (by simp; omega)
  have hform : ¬ (e.session ≠ 0 ∨ e.seq ≠ 0) := by simp [hsession, hseq]
  unfold Core.openSession
  simp only [ReqBody.openRole, hkey]
  rw [if_neg (by simp [htag]), if_neg hfull, hvalue, if_neg hform, if_neg (by decide), hlowest]
  rfl

theorem timerKey_sessionPending_ne {h : Nat} (h16 : h ≤ 16) : timerKey .commandReset 0 ≠ timerKey .sessionPending h := by
  simp only [timerKey, Timer.ctorIdx]
  omega

/-- OPEN leaves a new session, its deadline and the answer. -/
theorem opened_eq {c : Core} {e : FopEnv} (hlane : e.lane < 2) (hseq : e.seq = 0) (role maxMsg nonce h : Nat) (key : List Byte) :
    opened c e role maxMsg nonce h key =
      { c with
        sess := Tab.set c.sess h (pendingSession e role maxMsg (sessionKey key (leBytes 16 nonce) c.draw.1 h)),
        timers := Tab.set c.timers (timerKey .sessionPending h) (c.clk + ms 1000),
        out := ⟨.fopReply, e.lane, [(e.ip : Int), (e.port : Int)], taggedMessage (some key) 1 1 e.node e.serial 0 0
          (leBytes 4 okC ++ leBytes 4 0 ++ (leBytes 2 h ++ leBytes 2 (min maxMsg 8952) ++ leBytes 4 (c.rd0 Obj.SESSION_IDLE) ++ c.draw.1))⟩ :: c.out,
        freeCount := c.freeCount + 1, lastStatus := okC } := by
  rw [opened, hseq, Core.respond, sendFop_lane _ hlane]
  rfl

/-! #### KEEPALIVE outside a session's turn -/

section Refused
variable {s : State} {dt : Nat} {e : FopEnv}

theorem exec_keepalive : exec (.fopKeepalive dt e) s = hostRequest dt {} e .keepalive s := rfl

/-- No such session. -/
theorem sessionRequest_of_none {c : Core} {m : List Host.Cell} {x : Around} {b : ReqBody} (h : e.session = 0 ∨ 16 < e.session ∨ (c.session e.session).st = 0) :
    c.sessionRequest m x e b = (c.noSession e b.typ, m) := if_pos h

theorem timers_noSession (c : Core) (hlane : e.lane < 2) (typ : Nat) : (c.noSession e typ).timers = c.timers := by
  unfold Core.noSession Core.untagged Core.discard
  dsimp only
  rw [if_pos hlane]
  split
  · rfl
  · rw [sendFop_lane _ hlane]
    exact inc_timers _ _ _ _ _

theorem sessionRequest_of_stranger {c : Core} {m : List Host.Cell} {x : Around} {b : ReqBody} (h1 : 1 ≤ e.session) (h16 : e.session ≤ 16) (hst : (c.session e.session).st ≠ 0)
    (hother : (c.session e.session).ip ≠ e.ip ∨ (c.session e.session).port ≠ e.port) : c.sessionRequest m x e b = (c.discard 2, m) := by
  unfold Core.sessionRequest
  dsimp only
  rw [if_neg (by omega), if_pos hother]

theorem sessionRequest_of_wrongTag {c : Core} {m : List Host.Cell} {x : Around} {b : ReqBody} (h1 : 1 ≤ e.session) (h16 : e.session ≤ 16) (hst : (c.session e.session).st ≠ 0)
    (hip : (c.session e.session).ip = e.ip) (hport : (c.session e.session).port = e.port) (htag : tagOk (c.session e.session).key e b = false) :
    c.sessionRequest m x e b = (c.authFail, m) := by
  unfold Core.sessionRequest
  dsimp only
  rw [if_neg (by omega), if_neg (by simp [hip, hport]), if_pos (by simp [htag])]

/-- While its one second runs, FOP_AUTH is not raised again (R427). -/
theorem authFail_of_armed {c : Core} (harmed : c.armed .fopAuth 0 = true) (hdue : c.due .fopAuth 0 = false) : c.authFail = c.discard 1 := by
  have hsame : (c.discard 1).armed .fopAuth 0 = true := (armed_of_timers (inc_timers _ _ _ _ _)).trans harmed
  have hnot : (c.discard 1).due .fopAuth 0 = false := by
    rw [← hdue, Core.due, Core.due, Core.discard, inc_timers, inc_clk]
  unfold Core.authFail
  dsimp only
  rw [if_pos (by simp [hsame, hnot])]

end Refused

/-- Settles O45: OPEN takes the lowest free handle, and each refused request ends in one of the branches before its session's turn. -/
theorem sessionsAreOpened : Obligations.SessionsAreOpened := by
  unfold Obligations.SessionsAreOpened
  refine ⟨?_, ?_⟩
  · intro s dt role maxMsg nonce h e key c b hrun hconf hnode hme hrole hmaxMsg hnonce hkey htag hsession hseq hmin hused hpending h1 h16 hfree hlow hreset hlane nd top
    have hasks : exec (.fopOpen dt e role maxMsg nonce) s = hostRequest dt {} e b s := by
      show hostRequest dt {} e (.opn (role % 256) (maxMsg % 65536) (nonce % 2 ^ 128)) s = _
      rw [Nat.mod_eq_of_lt hrole, Nat.mod_eq_of_lt hmaxMsg, Nat.mod_eq_of_lt hnonce]
    have hopen : c.openSession e b = opened c e role maxMsg nonce h key := openSession_of_free hkey htag hsession hseq hmin hused hpending (find_lowest h1 h16 hfree hlow)
    have harr : c.fopArrives s.mem {} e b = (opened c e role maxMsg nonce h key, s.mem) := by
      rw [fopArrives_of_open hrun hconf hnode hme rfl, hopen]
    have heq := opened_eq (c := c) hlane hseq role maxMsg nonce h key
    have hstays : (opened c e role maxMsg nonce h key).armed .commandReset 0 = false := by
      rw [heq, ← hreset]
      exact congrArg Option.isSome (tab_find_set_ne _ _ _ _ (timerKey_sessionPending_ne h16))
    refine ⟨_, does_of_arrives hasks harr hstays, ?_, ?_, ?_, ?_, ?_⟩
    · rw [heq]
      exact tab_get_set _ _ _ _
    · intro j hj
      rw [heq]
      exact tab_get_set_ne _ _ _ _ _ hj
    · rw [heq]
      exact tab_find_set _ _ _
    · rw [heq]
    · rw [heq]
  · intro s dt e c q hrun hnode hlane hreset
    refine ⟨?_, ?_, ?_, ?_⟩
    · intro hconf
      have harr := fopArrives_of_busy (m := s.mem) (x := {}) (b := .keepalive) hrun hconf hnode rfl
      rw [Core.untagged, sendFop_lane _ hlane] at harr
      obtain ⟨hlow, hhigh⟩ := busyTime_le c
      obtain ⟨hstatus, hinfo⟩ := status_untagged (typ := 3) (node := e.node) (serial := e.serial) (session := 0) (seq := e.seq) (show busyC < 256 ^ 4 by decide)
        (show c.busyTime < 256 ^ 4 by omega)
      exact ⟨_, _, does_of_arrives exec_keepalive harr hreset, rfl, hstatus, hlow.trans hinfo.ge, hinfo.le.trans hhigh, by rw [flags_untagged]; decide, rfl⟩
    · intro hconf hme hnone
      have harr : c.fopArrives s.mem {} e .keepalive = (c.noSession e 3, s.mem) := by
        rw [fopArrives_of_session hrun hconf hnode hme rfl (by decide), sessionRequest_of_none hnone]
        rfl
      exact does_of_arrives exec_keepalive harr ((armed_of_timers (timers_noSession c hlane 3)).trans hreset)
    · intro hconf hme h1 h16 hst hother
      have harr : c.fopArrives s.mem {} e .keepalive = (c.discard 2, s.mem) := by
        rw [fopArrives_of_session hrun hconf hnode hme rfl (by decide), sessionRequest_of_stranger h1 h16 hst hother]
      exact does_of_arrives exec_keepalive harr ((armed_of_timers (inc_timers _ _ _ _ _)).trans hreset)
    · intro hconf hme h1 h16 hst hip hport htag harmed hdue
      have harr : c.fopArrives s.mem {} e .keepalive = (c.discard 1, s.mem) := by
        rw [fopArrives_of_session hrun hconf hnode hme rfl (by decide), sessionRequest_of_wrongTag h1 h16 hst hip hport htag, authFail_of_armed harmed hdue]
      exact does_of_arrives exec_keepalive harr ((armed_of_timers (inc_timers _ _ _ _ _)).trans hreset)

end Sys2Proof.Proofs.Sessions

/-! ### Proofs: deadlines of sessions (R429 to R446) -/

namespace Sys2Proof.Proofs.Deadlines
open Sys2Proof Sys2Proof.Machine Sys2Proof.Laws

section Lapses
variable {c : Core} {h : Nat}

theorem pendingLapse_of_due (hst : (c.session h).st = 1) (hdue : c.due .sessionPending h = true) : c.pendingLapse h = (c.inc Obj.FOP_DISCARDS 0 5 1).endSession h :=
  if_pos ⟨hst, hdue⟩

theorem idleLapse_of_due (hst : (c.session h).st = 2) (hdue : c.due .sessionIdle h = true) : c.idleLapse h = c.endSession h := if_pos ⟨hst, hdue⟩

/-- The session without the held requests whose time is over. -/
def heldOn (c : Core) (h : Nat) : Session := { c.session h with held := (c.session h).held.filter (fun r => decide (c.clk < r.due)) }

theorem heldLapse_of_late (hlate : (c.session h).held.filter (fun r => decide (r.due ≤ c.clk)) ≠ []) :
    c.heldLapse h = (c.setSession h (heldOn c h)).inc Obj.FOP_DISCARDS 0 3 ((c.session h).held.filter (fun r => decide (r.due ≤ c.clk))).length := by
  unfold Core.heldLapse
  dsimp only
  rw [if_neg (by simpa using hlate)]
  rfl

theorem session_setSession (x : Session) : (c.setSession h x).session h = x := tab_get_set _ _ _ _

/-- The block once the locked sequence of session `h` is rolled back, before the source is raised. -/
def rolledBack (c : Core) (h : Nat) : Core := ((c.setSession h { c.session h with txn := none }).disarm .txnLease h).inc0 Obj.TXN_LAPSES

theorem lapseTxn_of_locked {y : Txn} (htxn : (c.session h).txn = some y) :
    c.lapseTxn h true = ((rolledBack c h).pushEvent h ⟨0x00F0, y.id, 0, (rolledBack c h).ftNs⟩).occur 1569 0 := by
  unfold Core.lapseTxn
  dsimp only
  rw [htxn]
  rfl

theorem session_rolledBack : (rolledBack c h).session h = { c.session h with txn := none } := by
  rw [rolledBack, Core.session, inc0_sess]
  exact tab_get_set _ _ _ _

theorem ftNs_rolledBack : (rolledBack c h).ftNs = c.ftNs := by
  rw [rolledBack, Core.ftNs, Core.ftQ, inc0_ftAcc]
  rfl

theorem rd0_rolledBack : (rolledBack c h).rd0 Obj.TXN_LAPSES = (c.rd0 Obj.TXN_LAPSES + 1) % 2 ^ 32 := Dma.rd_inc _ _ _ _ _

theorem rolledBack_only : rolledBack c h =
    { c with sess := (rolledBack c h).sess, timers := (rolledBack c h).timers, objs := (rolledBack c h).objs, bumps := (rolledBack c h).bumps, bumpAt := (rolledBack c h).bumpAt } := by
  obtain ⟨l, q, z, heq⟩ := Dma.inc_frame (c := (c.setSession h { c.session h with txn := none }).disarm .txnLease h) (o := Obj.TXN_LAPSES) (n := 1) 0 0 (by decide)
  rw [rolledBack, Core.inc0, heq]
  rfl

/-- Queued events leave in one message (R446). -/
theorem sendEvents_of_queued (hst : (c.session h).st ≠ 0) (hq : (c.session h).events ≠ []) (hrun : c.running = true) (hlost : (c.session h).lost = 0)
    (hlane : (c.session h).evLane < 2) :
    let x := c.session h
    let k := (x.maxMsg - 64) / 32
    c.sendEvents h = { c with
      sess := Tab.set c.sess h { x with events := x.events.drop k, evSeq := nextSeq32 x.evSeq },
      out := ⟨.fopEvent, x.evLane, [(x.evIp : Int), (x.evPort : Int)], taggedMessage (some x.key) 0x31 0 (c.rd0 Obj.NODE_ID) (Config.serial % 2 ^ 64) h (nextSeq32 x.evSeq)
        (leBytes 2 (x.events.take k).length ++ List.replicate 6 0 ++ (x.events.take k).flatMap EventRec.bytes)⟩ :: c.out } := by
  dsimp only
  unfold Core.sendEvents
  dsimp only
  rw [if_neg (by simp [hst, hq, hrun]), Sessions.sendFop_lane _ hlane, if_pos hlost]
  rw [← hlost]
  rfl

end Lapses

/-- Settles O49: each deadline's function at its time, and the message queued events leave in. -/
theorem sessionDeadlinesAct : Obligations.SessionDeadlinesAct := by
  unfold Obligations.SessionDeadlinesAct
  intro s dt h c x
  refine ⟨fun hst hdue => ?_, fun hst hdue => ?_, fun hlate => ?_, fun hdue => ?_, fun hdue => ?_, fun y hdue htxn hroom => ?_, fun hrun hst hq hlost hlane => ?_⟩
  · rw [← pendingLapse_of_due hst hdue]
    rfl
  · rw [← idleLapse_of_due hst hdue]
    rfl
  · refine ⟨c.heldLapse h, rfl, ?_⟩
    rw [heldLapse_of_late hlate]
    refine ⟨?_, Dma.rd_inc _ _ _ _ _, ?_⟩
    · rw [Core.session, inc_sess]
      exact session_setSession _
    · obtain ⟨l, q, z, heq⟩ := Dma.inc_frame (c := c.setSession h (heldOn c h)) (o := Obj.FOP_DISCARDS) (n := ((c.session h).held.filter (fun r => decide (r.due ≤ c.clk))).length) 0 3 (by decide)
      rw [heq]
      rfl
  · refine ⟨c.setSnap h none, ?_, session_setSession _, rfl⟩
    rw [← (if_pos hdue : (if c.due .readSnapshot h = true then c.setSnap h none else c) = c.setSnap h none)]
    rfl
  · refine ⟨c.setPart h none, ?_, session_setSession _, rfl⟩
    rw [← (if_pos hdue : (if c.due .writePartial h = true then c.setPart h none else c) = c.setPart h none)]
    rfl
  · have hroom' : ((rolledBack c h).session h).events.length < 256 := by rw [session_rolledBack]; exact hroom
    have hsess := Events.session_pushEvent_of_room (e := ⟨0x00F0, y.id, 0, c.ftNs⟩) hroom'
    have hpush := Events.pushEvent_of_room (e := ⟨0x00F0, y.id, 0, c.ftNs⟩) hroom'
    refine ⟨(rolledBack c h).pushEvent h ⟨0x00F0, y.id, 0, c.ftNs⟩, ?_, ?_, ?_, ?_⟩
    · have hlapse := lapseTxn_of_locked htxn
      rw [ftNs_rolledBack] at hlapse
      rw [← hlapse, ← (if_pos hdue : (if c.due .txnLease h = true then c.lapseTxn h true else c) = c.lapseTxn h true)]
      rfl
    · rw [hsess, session_rolledBack]
    · rw [hpush, ← rd0_rolledBack (c := c) (h := h)]
      rfl
    · rw [hpush, rolledBack_only]
  · rw [← sendEvents_of_queued hst hq hrun hlost hlane]
    rfl

end Sys2Proof.Proofs.Deadlines

/-! ### Proofs: what a change of mode, an event and a log entry leave (R446, R475, R506) -/

namespace Sys2Proof.Proofs.Hem
open Sys2Proof Sys2Proof.Machine Sys2Proof.Laws

section Frames

/-- `t` is `c` but for the objects and their journaling, the sessions, and what is due to be raised. -/
structure Rung (c t : Core) : Prop where
  eq : t = { c with objs := t.objs, dirty := t.dirty, dirtySince := t.dirtySince, bumps := t.bumps, bumpAt := t.bumpAt, sess := t.sess, alsoRaise := t.alsoRaise }

/-- `t` is `c` but for these and the log. -/
structure Told (c t : Core) : Prop where
  eq : t = { c with objs := t.objs, dirty := t.dirty, dirtySince := t.dirtySince, bumps := t.bumps, bumpAt := t.bumpAt, sess := t.sess, alsoRaise := t.alsoRaise, log := t.log, logRet := t.logRet }

variable {c t u : Core}

theorem Rung.trans (h : Rung c t) (h' : Rung t u) : Rung c u := ⟨by rw [h'.eq, h.eq]⟩

theorem Told.trans (h : Told c t) (h' : Told t u) : Told c u := ⟨by rw [h'.eq, h.eq]⟩

theorem Rung.told (h : Rung c t) : Told c t := ⟨by rw [h.eq]⟩

theorem Told.mode (h : Told c t) : t.mode = c.mode := by rw [h.eq]
theorem Told.phase (h : Told c t) : t.phase = c.phase := by rw [h.eq]
theorem Told.stop (h : Told c t) : t.stop = c.stop := by rw [h.eq]
theorem Told.safeSince (h : Told c t) : t.safeSince = c.safeSince := by rw [h.eq]
theorem Told.clk (h : Told c t) : t.clk = c.clk := by rw [h.eq]
theorem Told.src (h : Told c t) : t.src = c.src := by rw [h.eq]
theorem Told.timers (h : Told c t) : t.timers = c.timers := by rw [h.eq]
theorem Told.ports (h : Told c t) : t.ports = c.ports := by rw [h.eq]
theorem Rung.log (h : Rung c t) : t.log = c.log := by rw [h.eq]
theorem Rung.logRet (h : Rung c t) : t.logRet = c.logRet := by rw [h.eq]

theorem rung_wr (c : Core) (o : Ob) (i j v : Nat) : Rung c (c.wr o i j v) := ⟨by rw [wr_frame c o i j v]⟩

theorem rung_pushEvent (c : Core) (h : Nat) (e : EventRec) : Rung c (c.pushEvent h e) := ⟨by rw [pushEvent_frame c h e]⟩

/-- An event is queued session by session. -/
theorem event_induction {m : Option Nat} {code a b : Nat} (P : Core → Prop) (h0 : P c) (h : ∀ t k e, P t → P (t.pushEvent k e)) : P (c.event m code a b) := by
  exact List.foldlRecOn (motive := P) c.sess _ h0 fun t ht p _ => iteInduction (fun _ => h t _ _ ht) fun _ => ht

theorem rung_event (c : Core) (m : Option Nat) (code a b : Nat) : Rung c (c.event m code a b) :=
  event_induction (Rung c) ⟨rfl⟩ fun t k e ht => ht.trans (rung_pushEvent t k e)

theorem told_addLog (c : Core) (source kind cls reaction info repeats flags : Nat) : Told c (c.addLog source kind cls reaction info repeats flags) :=
  (rung_wr c Obj.LOG_SEQ 0 0 ((c.rd0 Obj.LOG_SEQ + 1) % 2 ^ 32)).told.trans ⟨rfl⟩

theorem told_setMode (c : Core) (m : Mode) : Told { c with mode := m } (c.setMode m) :=
  (rung_wr { c with mode := m } Obj.MODE_T_NS 0 0 _).told.trans ((rung_event _ _ _ _ _).told.trans (told_addLog _ _ _ _ _ _ _ _))

theorem mode_setMode (c : Core) (m : Mode) : (c.setMode m).mode = m := (told_setMode c m).mode

theorem clk_setMode (c : Core) (m : Mode) : (c.setMode m).clk = c.clk := (told_setMode c m).clk

end Frames

end Sys2Proof.Proofs.Hem

/-! ### Proofs: PARK (R486 to R488) -/

namespace Sys2Proof.Proofs.Park
open Sys2Proof Sys2Proof.Machine Sys2Proof.Laws

section Steps
variable {c : Core} {m : List Host.Cell}

theorem parkStepComplete_of_over (hmode : c.mode = .park) (hphase : c.phase = .parking) (hover : c.parkOver (c.rd0 Obj.PARK_STEP) = true) :
    c.parkStepComplete m = (Core.parkFrom 11 (c.rd0 Obj.PARK_STEP + 1) (c.disarm .parkStep 0)).parkEnd m := if_pos ⟨hmode, hphase, hover⟩

theorem parkStepComplete_of_steady (hphase : c.phase = .steady) : c.parkStepComplete m = c.parkEnd m := if_neg (by simp [hphase])

theorem parkStepComplete_of_elsewhere (hmode : c.mode ≠ .park) : c.parkStepComplete m = (c, m) := by
  have hend : c.parkEnd m = (c, m) := if_neg (by simp [hmode])
  rw [← hend]
  exact if_neg (by simp [hmode])

theorem parkStepExpired_of_not (h : c.mode ≠ .park ∨ c.phase ≠ .parking ∨ c.due .parkStep 0 = false ∨ c.parkOver (c.rd0 Obj.PARK_STEP) = true) : c.parkStepExpired = c := by
  refine if_neg ?_
  rintro ⟨hmode, hphase, hdue, hover⟩
  rcases h with h | h | h | h
  · exact h hmode
  · exact h hphase
  · simp [h] at hdue
  · simp [h] at hover

/-! #### RETAIN is entered (R488) -/


/-- The device in RETAIN but for its deadline. -/
def retained (c : Core) : Core :=
  { (((c.setMode .retain).emit .mainEn 0 [0] []).emit .safeOutputs 0 [] []).wr0 Obj.DRAM_STATE 4 with phase := .steady, configReached := false, timers := [] }

theorem toRetain_eq : c.toRetain = if c.rd0 Obj.WAKE_AFTER = 0 then retained c else (retained c).arm .wakeAfter 0 (sec (c.rd0 Obj.WAKE_AFTER)) := rfl

/-- What RETAIN holds. -/
structure InRetain (c k : Core) : Prop where
  mode : k.mode = .retain
  phase : k.phase = .steady
  config : k.configReached = false
  dram : k.rd0 Obj.DRAM_STATE = 4
  timers : k.timers = if c.rd0 Obj.WAKE_AFTER = 0 then [] else [(timerKey .wakeAfter 0, c.clk + sec (c.rd0 Obj.WAKE_AFTER))]

theorem inRetain_toRetain (c : Core) : InRetain c c.toRetain := by
  have hdram : (retained c).rd0 Obj.DRAM_STATE = 4 := rd_wr _ Obj.DRAM_STATE 0 0 4
  have hmode : (retained c).mode = .retain := (wr0_mode _ _ _).trans (Hem.mode_setMode _ .retain)
  have hclk : (retained c).clk = c.clk := (wr0_clk _ _ _).trans (Hem.clk_setMode _ .retain)
  rw [toRetain_eq]
  by_cases hwake : c.rd0 Obj.WAKE_AFTER = 0
  · rw [if_pos hwake]
    exact ⟨hmode, rfl, rfl, hdram, by rw [if_pos hwake]; rfl⟩
  · rw [if_neg hwake]
    exact ⟨hmode, rfl, rfl, hdram, by rw [if_neg hwake, ← hclk]; rfl⟩

theorem inRetain_retainEntry : InRetain c (c.retainEntry m).1 := by
  unfold Core.retainEntry
  split
  · show InRetain c c.drawOpen.2.toRetain
    obtain ⟨hmode, hphase, hconfig, hdram, htimers⟩ := inRetain_toRetain c.drawOpen.2
    have hwake : c.drawOpen.2.rd0 Obj.WAKE_AFTER = c.rd0 Obj.WAKE_AFTER := rfl
    have hclk : c.drawOpen.2.clk = c.clk := rfl
    rw [hwake, hclk] at htimers
    exact ⟨hmode, hphase, hconfig, hdram, htimers⟩
  · exact inRetain_toRetain c

/-- Of memory only the check block changes. -/
theorem get_retainEntry {a : Nat} (h : a + 64 < c.rd0 Obj.DRAM_SIZE ∨ c.rd0 Obj.DRAM_SIZE ≤ a) : Memory.get (c.retainEntry m).2 a = Memory.get m a := by
  unfold Core.retainEntry
  split
  · next hup =>
    obtain ⟨-, hsize⟩ := hup
    have hlen := Spool.length_leBytes 64 c.drawOpen.1
    dsimp only
    generalize leBytes 64 c.drawOpen.1 = l at hlen ⊢
    exact memory_get_write_outside l m _ a (by rw [hlen]; omega)
  · rfl

end Steps

/-- Settles O53: the two functions of PARK's steps by the branch the premises name, and what RETAIN holds. -/
theorem parkGoesThroughItsSteps : Obligations.ParkGoesThroughItsSteps := by
  unfold Obligations.ParkGoesThroughItsSteps
  intro s dt c n
  refine ⟨fun hmode hphase hover => ?_, fun hmode hphase hn htarget hdirty => ?_, fun hmode hphase hdue hover => ?_, fun h => ?_, fun h => ?_⟩
  · exact Power.doesBoth_of_eq (r := c.parkStepComplete s.mem) rfl (parkStepComplete_of_over hmode hphase hover)
  · have hentry : c.parkStepComplete s.mem = c.retainEntry s.mem := (parkStepComplete_of_steady hphase).trans (if_pos ⟨hmode, hn, htarget, hdirty⟩)
    obtain ⟨hretain, hsteady, hconfig, hdram, htimers⟩ := inRetain_retainEntry (c := c) (m := s.mem)
    refine ⟨(c.retainEntry s.mem).1, (c.retainEntry s.mem).2, Power.doesBoth_of_eq (r := c.parkStepComplete s.mem) rfl hentry, hretain, hsteady, hconfig, hdram, fun hwake => ?_, fun hwake => ?_, fun a => get_retainEntry⟩
    · rw [htimers, if_pos hwake]
    · rw [htimers, if_neg hwake]
  · intro u t
    have hexpired : c.parkStepExpired = if t.mode = .park then Core.parkFrom 11 (n + 1) t else t := if_pos ⟨hmode, hphase, hdue, by simp [show c.parkOver (c.rd0 Obj.PARK_STEP) = false from hover]⟩
    rw [← hexpired]
    rfl
  · exact Block.does_of_eq (rfl : Does (.parkStepBoundExpiry dt) s c.parkStepExpired) (parkStepExpired_of_not h)
  · exact Power.doesBoth_of_eq (r := c.parkStepComplete s.mem) rfl (parkStepComplete_of_elsewhere h)

end Sys2Proof.Proofs.Park

/-! ### Proofs: occurrences and their class (R498, R499, R506) -/

namespace Sys2Proof.Proofs.Occurrences
open Sys2Proof Sys2Proof.Machine Sys2Proof.Laws Sys2Proof.Proofs.Hem

/-! #### Objects of a source -/

section Objects
variable {c : Core} {o p : Ob}

/-- Where the objects of the sources begin. -/
def sourceIdx : Nat := 34816

/-- No object below the sources' stands among them. -/
theorem key_ne_of_sources {i j a b : Nat} (hp : sourceIdx ≤ p.idx) (ho : ¬ 1 < o.nel ∧ o.sub + j < 65536 ∧ o.idx + o.stride * i < sourceIdx) : p.key a b ≠ o.key i j := by
  obtain ⟨hnel, hsub, hidx⟩ := ho
  have hstride : 0 ≤ p.stride * a := Nat.zero_le _
  unfold sourceIdx at hp hidx
  unfold Ob.key
  rw [if_neg (c := o.nel > 1) hnel]
  split <;> omega

theorem rd_pushEvent_of_sources (hp : sourceIdx ≤ p.idx) (h : Nat) (e : EventRec) (a b : Nat) : (c.pushEvent h e).rd p a b = c.rd p a b := by
  have hlost (t : Core) : (t.inc0 Obj.EVENTS_LOST).rd p a b = t.rd p a b := rd_wr_ne _ _ _ _ _ _ _ _ (key_ne_of_sources hp (by decide))
  unfold Core.pushEvent
  refine iteInduction (motive := fun t : Core => t.rd p a b = c.rd p a b) (fun _ => ?_) fun _ => rfl
  refine iteInduction (motive := fun t : Core => t.rd p a b = c.rd p a b) (fun _ => ?_) fun _ => ?_
  · exact hlost { c with sess := _ }
  · exact hlost { c with sess := _ }

theorem rd_event_of_sources (hp : sourceIdx ≤ p.idx) (m : Option Nat) (code x y a b : Nat) : (c.event m code x y).rd p a b = c.rd p a b :=
  event_induction (fun t : Core => t.rd p a b = c.rd p a b) rfl fun _ k e ht => (rd_pushEvent_of_sources hp k e a b).trans ht

theorem rd_addLog_of_sources (hp : sourceIdx ≤ p.idx) (source kind cls reaction info repeats flags a b : Nat) :
    (c.addLog source kind cls reaction info repeats flags).rd p a b = c.rd p a b := rd_wr_ne c Obj.LOG_SEQ p 0 0 a b _ (key_ne_of_sources hp (by decide))

/-- Objects of one source are apart. -/
theorem rd_wr_apart {n v : Nat} (h : ¬ 1 < p.nel ∧ ¬ 1 < o.nel ∧ p.sub + 0 < 65536 ∧ o.sub + 0 < 65536 ∧ p.sub + 0 ≠ o.sub + 0) : (c.wr o n 0 v).rd p n 0 = c.rd p n 0 :=
  rd_wr_ne c o p n 0 n 0 v (Dma.key_ne_of_subindex h)

end Objects

/-! #### The log entry and the event of an occurrence -/

section Announced
variable (c : Core) (n cls kind info repeats : Nat) (forced : Bool)

/-- The block once an occurrence is logged and its event queued. -/
def announced : Core :=
  (c.addLog n kind cls (c.logReaction n cls) info repeats (b2n forced + 2 * b2n (c.srcRec n).active)).event (some 0) 0x0001 n cls

variable {c n cls kind info repeats forced}

theorem told_announced : Told c (announced c n cls kind info repeats forced) := (told_addLog c _ _ _ _ _ _ _).trans (rung_event _ _ _ _ _).told

theorem rd_announced {p : Ob} (hp : sourceIdx ≤ p.idx) (a b : Nat) : (announced c n cls kind info repeats forced).rd p a b = c.rd p a b :=
  (rd_event_of_sources hp _ _ _ _ _ _).trans (rd_addLog_of_sources hp _ _ _ _ _ _ _ _ _)

theorem srcRec_congr {t : Core} {k : Nat} (hsrc : t.src = c.src) (hcls : t.rd Obj.src_CLASS k 0 = c.rd Obj.src_CLASS k 0) : t.srcRec k = c.srcRec k := by
  rw [Core.srcRec, hsrc, hcls, Core.srcRec]

theorem srcRec_announced (k : Nat) : (announced c n cls kind info repeats forced).srcRec k = c.srcRec k :=
  srcRec_congr told_announced.src (rd_announced (Nat.le_refl _) k 0)

theorem head_addLog (source reaction flags : Nat) : (c.addLog source kind cls reaction info repeats flags).log.head? =
    some ⟨c.ftNs, c.ftFrac, source, kind, cls, reaction, c.mode.code, info, (c.rd0 Obj.LOG_SEQ + 1) % 2 ^ 32, repeats, flags⟩ := rfl

theorem head_announced : (announced c n cls kind info repeats forced).log.head? = some ⟨c.ftNs, c.ftFrac, n, kind, cls, c.logReaction n cls, c.mode.code, info,
    (c.rd0 Obj.LOG_SEQ + 1) % 2 ^ 32, repeats, b2n forced + 2 * b2n (c.srcRec n).active⟩ := by
  rw [announced, (rung_event _ _ _ _ _).log]
  exact head_addLog _ _ _

/-- An entry of class C is not retained, but for entries of a mode's change. -/
theorem logRet_addLog (source reaction flags : Nat) (h : ¬ (((kind = 1 ∨ kind = 3) ∧ (cls = 1 ∨ cls = 2)) ∨ kind = 5)) :
    (c.addLog source kind cls reaction info repeats flags).logRet = c.logRet := by
  unfold Core.addLog
  dsimp only
  rw [if_neg h]
  exact wr_logRet _ _ _ _ _

theorem actClass_of_safe : c.actClass n 2 kind info repeats forced =
    (if (announced c n 2 kind info repeats forced).mode ≠ .safe then (announced c n 2 kind info repeats forced).wr0 Obj.SAFE_CAUSE
      (ofLe (((c.addLog n kind 2 (c.logReaction n 2) info repeats (b2n forced + 2 * b2n (c.srcRec n).active)).log.head?.map LogEntry.bytes).getD []))
      else announced c n 2 kind info repeats forced).hemSafe := rfl

/-- A reaction of NONE stops nothing. -/
theorem react_of_none (h : c.rd Obj.src_REACTION n 0 = 0) : c.react n = c := by
  unfold Core.react
  rw [h]
  exact ite_self c

theorem actClass_of_minor (h : cls = 0 ∨ (cls = 1 ∧ c.rd Obj.src_REACTION n 0 = 0)) : c.actClass n cls kind info repeats forced = announced c n cls kind info repeats forced := by
  obtain rfl | ⟨rfl, hnone⟩ := h
  · rfl
  · exact react_of_none ((rd_announced (Nat.le_refl _) n 0).trans hnone)

end Announced

/-! #### An occurrence counted, noted and raised -/

section Raised
variable {c : Core} {n info : Nat}

/-- `t` is `c` but for objects, counters and the marks of hardware updates. -/
structure Published (c t : Core) : Prop where
  eq : t = { c with objs := t.objs, bumps := t.bumps, bumpAt := t.bumpAt, hwAt := t.hwAt }

variable {t u : Core}

theorem Published.trans (h : Published c t) (h' : Published t u) : Published c u := ⟨by rw [h'.eq, h.eq]⟩

theorem published_wr (c : Core) (o : Ob) (i j v : Nat) (h : o.retained = false) : Published c (c.wr o i j v) := ⟨by rw [Ephemeris.wr_of_not_retained c o i j v h]⟩

theorem published_bump (c : Core) (key k : Nat) : Published c (c.bump key k) := ⟨rfl⟩

theorem published_hwUpdate (c : Core) (o : Ob) (i j : Nat) : Published c (c.hwUpdate o i j) := ⟨rfl⟩

theorem Published.mode (h : Published c t) : t.mode = c.mode := by rw [h.eq]
theorem Published.stop (h : Published c t) : t.stop = c.stop := by rw [h.eq]
theorem Published.src (h : Published c t) : t.src = c.src := by rw [h.eq]
theorem Published.log (h : Published c t) : t.log = c.log := by rw [h.eq]
theorem Published.logRet (h : Published c t) : t.logRet = c.logRet := by rw [h.eq]
theorem Published.ftNs (h : Published c t) : t.ftNs = c.ftNs := by rw [h.eq]; rfl
theorem Published.ftFrac (h : Published c t) : t.ftFrac = c.ftFrac := by rw [h.eq]; rfl

/-- The occurrence is counted and timed. -/
def counted (c : Core) (n : Nat) : Core := ((c.inc Obj.src_COUNT n 0 1).wr Obj.src_LAST_T_NS n 0 c.ftNs).hwUpdate Obj.src_COUNT n 0

/-- Its INFO is noted. -/
def noted (c : Core) (n info : Nat) : Core := ((counted c n).wr Obj.src_INFO n 0 info).hwUpdate Obj.src_STATUS n 0

theorem published_counted (c : Core) (n : Nat) : Published c (counted c n) :=
  ((published_bump c _ _).trans (published_wr _ Obj.src_COUNT _ _ _ (by decide))).trans ((published_wr _ Obj.src_LAST_T_NS _ _ _ (by decide)).trans (published_hwUpdate _ _ _ _))

theorem published_noted (c : Core) (n info : Nat) : Published c (noted c n info) :=
  (published_counted c n).trans ((published_wr _ Obj.src_INFO _ _ _ (by decide)).trans (published_hwUpdate _ _ _ _))

theorem ftNs_lt (c : Core) : c.ftNs < 2 ^ 64 := by
  unfold Core.ftNs Core.ftQ
  omega

theorem rd_hwUpdate (o p : Ob) (i j a b : Nat) : (c.hwUpdate o i j).rd p a b = c.rd p a b := rfl

theorem rd_bump (p : Ob) (key k a b : Nat) : (c.bump key k).rd p a b = c.rd p a b := rfl

theorem rd_setSrc (p : Ob) (x : Src) (k a b : Nat) : (c.setSrc k x).rd p a b = c.rd p a b := rfl

theorem count_counted : (counted c n).rd Obj.src_COUNT n 0 = (c.rd Obj.src_COUNT n 0 + 1) % 2 ^ 32 := by
  rw [counted, rd_hwUpdate, rd_wr_apart (by decide), Dma.rd_inc]
  rfl

theorem last_counted : (counted c n).rd Obj.src_LAST_T_NS n 0 = c.ftNs := by
  rw [counted, rd_hwUpdate, rd_wr]
  exact Nat.mod_eq_of_lt (ftNs_lt c)

/-- The object of a source is none of those written as an occurrence is noted. -/
def Unnoted (p : Ob) : Prop := p.nel ≤ 1 ∧ p.sub < 65536 ∧ p.sub ≠ Obj.src_COUNT.sub ∧ p.sub ≠ Obj.src_LAST_T_NS.sub ∧ p.sub ≠ Obj.src_INFO.sub

/-- What counting and noting leave of the source. -/
theorem rd_noted {p : Ob} (h : Unnoted p) : (noted c n info).rd p n 0 = c.rd p n 0 := by
  obtain ⟨hnel, hsub, hcount, hlast, hinfo⟩ := h
  have hapart (t : Core) (o : Ob) (v : Nat) (ho : o.nel ≤ 1 ∧ o.sub < 65536) (hne : p.sub ≠ o.sub) : (t.wr o n 0 v).rd p n 0 = t.rd p n 0 :=
    rd_wr_apart ⟨Nat.not_lt.mpr hnel, Nat.not_lt.mpr ho.1, hsub, ho.2, hne⟩
  rw [noted, rd_hwUpdate, hapart _ Obj.src_INFO _ (by decide) hinfo, counted, rd_hwUpdate, hapart _ Obj.src_LAST_T_NS _ (by decide) hlast, Core.inc,
    hapart _ Obj.src_COUNT _ (by decide) hcount, rd_bump]

theorem count_noted : (noted c n info).rd Obj.src_COUNT n 0 = (c.rd Obj.src_COUNT n 0 + 1) % 2 ^ 32 := by
  rw [noted, rd_hwUpdate, rd_wr_apart (by decide), count_counted]

theorem info_noted (h : info < 2 ^ 32) : (noted c n info).rd Obj.src_INFO n 0 = info := by
  rw [noted, rd_hwUpdate, rd_wr]
  exact Nat.mod_eq_of_lt h

theorem srcRec_noted : (noted c n info).srcRec n = c.srcRec n := srcRec_congr (published_noted c n info).src (rd_noted (by unfold Unnoted; decide))

/-- LOG_SEQ is no object of a source. -/
theorem seq_wr {o : Ob} (ho : sourceIdx ≤ o.idx) (n v : Nat) : (c.wr o n 0 v).rd0 Obj.LOG_SEQ = c.rd0 Obj.LOG_SEQ :=
  rd_wr_ne c o Obj.LOG_SEQ n 0 0 0 v (key_ne_of_sources ho (by decide)).symm

theorem seq_noted : (noted c n info).rd0 Obj.LOG_SEQ = c.rd0 Obj.LOG_SEQ := by
  have hmark (t : Core) (o : Ob) (i : Nat) : (t.hwUpdate o i 0).rd0 Obj.LOG_SEQ = t.rd0 Obj.LOG_SEQ := rfl
  have hbump (t : Core) (key k : Nat) : (t.bump key k).rd0 Obj.LOG_SEQ = t.rd0 Obj.LOG_SEQ := rfl
  rw [noted, hmark, seq_wr (by decide), counted, hmark, seq_wr (by decide), Core.inc, seq_wr (by decide), hbump]

/-- The source as an occurrence first raises it. -/
def raisedRec (c : Core) (n : Nat) (forced : Bool) : Src := { c.srcRec n with raised := true, eff := c.rd Obj.src_CLASS n 0, forced := forced }

/-- A first occurrence raises the source in its class. -/
def raised (c : Core) (n info : Nat) (forced : Bool) : Core :=
  (((noted c n info).setSrc n (raisedRec c n forced)).wr Obj.src_RAISE_T_NS n 0 c.ftNs).wr Obj.src_REPEATS n 0 0

/-- A further one repeats. -/
def repeated (c : Core) (n info : Nat) : Core := (noted c n info).wr Obj.src_REPEATS n 0 (min 65535 (c.rd Obj.src_REPEATS n 0 + 1))

theorem published_raised (forced : Bool) : Published ((noted c n info).setSrc n (raisedRec c n forced)) (raised c n info forced) :=
  (published_wr _ Obj.src_RAISE_T_NS _ _ _ (by decide)).trans (published_wr _ Obj.src_REPEATS _ _ _ (by decide))

theorem published_repeated : Published c (repeated c n info) := (published_noted c n info).trans (published_wr _ Obj.src_REPEATS _ _ _ (by decide))

theorem unnoted_class : Unnoted Obj.src_CLASS := by unfold Unnoted; decide
theorem unnoted_esc : Unnoted Obj.src_ESC := by unfold Unnoted; decide
theorem unnoted_repeats : Unnoted Obj.src_REPEATS := by unfold Unnoted; decide
theorem unnoted_reaction : Unnoted Obj.src_REACTION := by unfold Unnoted; decide

theorem rdB_noted {p : Ob} (h : Unnoted p) : (noted c n info).rdB p n 0 = c.rdB p n 0 := by rw [Core.rdB, rd_noted h, Core.rdB]

/-- The first occurrence in its cycle of an unmasked source raises it, or repeats it, or escalates it. -/
theorem occurOne_of_unmasked {forced : Bool} (hn : srcAssigned n = true) (hrun : c.running = true) (hnow : c.occurredNow n = false) (hmask : c.rdB Obj.src_MASK n 0 = false) :
    c.occurOne n info forced =
      if !(c.srcRec n).raised then (raised c n info forced).actClass n (c.rd Obj.src_CLASS n 0) 1 info 0 forced
      else if (c.srcRec n).eff < 2 ∧ c.rdB Obj.src_ESC n 0 = true then
        ((repeated c n info).setSrc n { c.srcRec n with eff := (c.srcRec n).eff + 1 }).actClass n ((c.srcRec n).eff + 1) 3 info (min 65535 (c.rd Obj.src_REPEATS n 0 + 1)) forced
      else repeated c n info := by
  have hup : ¬ ((!srcAssigned n) = true ∨ (c.mode = .off ∧ c.phase ≠ .waking) ∨ c.mode = .retain) := by
    simp only [Core.running, decide_eq_true_eq] at hrun
    simp [hn, hrun]
  have hcount : (if c.rd Obj.src_REPEATS n 0 < 65535 then c.rd Obj.src_REPEATS n 0 + 1 else 65535) = min 65535 (c.rd Obj.src_REPEATS n 0 + 1) := by
    split <;> omega
  have hsrc := srcRec_noted (c := c) (n := n) (info := info)
  have hcls := rd_noted (c := c) (n := n) (info := info) unnoted_class
  have hesc := rdB_noted (c := c) (n := n) (info := info) unnoted_esc
  have hrep := rd_noted (c := c) (n := n) (info := info) unnoted_repeats
  unfold noted counted at hsrc hcls hesc hrep
  unfold Core.occurOne
  dsimp only
  rw [if_neg hup, if_neg (by simp [hnow]), if_neg (by simp [hmask]), hsrc, hcls, hesc, hrep, hcount]
  rfl

/-! #### What each kind of occurrence leaves -/

/-- The state a first occurrence leaves where its class stops nothing. -/
theorem occurOne_of_first (hn : srcAssigned n = true) (hrun : c.running = true) (hnow : c.occurredNow n = false) (hmask : c.rdB Obj.src_MASK n 0 = false)
    (hfirst : (c.srcRec n).raised = false) (hcls : c.rd Obj.src_CLASS n 0 = 0) : c.occurOne n info false = announced (raised c n info false) n 0 1 info 0 false := by
  rw [occurOne_of_unmasked hn hrun hnow hmask, if_pos (by simp [hfirst]), hcls, actClass_of_minor (.inl rfl)]

theorem rd_raised {p : Ob} {forced : Bool} (h : Unnoted p) (hraise : p.sub ≠ Obj.src_RAISE_T_NS.sub) (hrep : p.sub ≠ Obj.src_REPEATS.sub) :
    (raised c n info forced).rd p n 0 = c.rd p n 0 := by
  have hnoted := rd_noted (c := c) (n := n) (info := info) h
  obtain ⟨hnel, hsub, -⟩ := h
  have hapart (t : Core) (o : Ob) (v : Nat) (ho : o.nel ≤ 1 ∧ o.sub < 65536) (hne : p.sub ≠ o.sub) : (t.wr o n 0 v).rd p n 0 = t.rd p n 0 :=
    rd_wr_apart ⟨Nat.not_lt.mpr hnel, Nat.not_lt.mpr ho.1, hsub, ho.2, hne⟩
  rw [raised, hapart _ Obj.src_REPEATS _ (by decide) hrep, hapart _ Obj.src_RAISE_T_NS _ (by decide) hraise, rd_setSrc, hnoted]

theorem seq_raised {forced : Bool} : (raised c n info forced).rd0 Obj.LOG_SEQ = c.rd0 Obj.LOG_SEQ := by
  have hset (t : Core) (x : Src) : (t.setSrc n x).rd0 Obj.LOG_SEQ = t.rd0 Obj.LOG_SEQ := rfl
  rw [raised, seq_wr (by decide), seq_wr (by decide), hset, seq_noted]

theorem srcRec_setSrc (x : Src) : (c.setSrc n x).srcRec n = x := tab_get_set _ _ _ _

theorem srcRec_raised {forced : Bool} : (raised c n info forced).srcRec n = raisedRec c n forced :=
  (srcRec_congr (published_raised forced).src (by rw [raised, rd_wr_apart (by decide), rd_wr_apart (by decide)])).trans (srcRec_setSrc _)

theorem mode_raised {forced : Bool} : (raised c n info forced).mode = c.mode := (published_raised forced).mode.trans (published_noted c n info).mode
theorem stop_raised {forced : Bool} : (raised c n info forced).stop = c.stop := (published_raised forced).stop.trans (published_noted c n info).stop
theorem logRet_raised {forced : Bool} : (raised c n info forced).logRet = c.logRet := (published_raised forced).logRet.trans (published_noted c n info).logRet
theorem ftNs_raised {forced : Bool} : (raised c n info forced).ftNs = c.ftNs := (published_raised forced).ftNs.trans (published_noted c n info).ftNs
theorem ftFrac_raised {forced : Bool} : (raised c n info forced).ftFrac = c.ftFrac := (published_raised forced).ftFrac.trans (published_noted c n info).ftFrac

/-- What the first occurrence of a source of class C leaves. -/
theorem first_of_classC (hcls : c.rd Obj.src_CLASS n 0 = 0) (hinfo : info < 2 ^ 32) :
    let k := announced (raised c n info false) n 0 1 info 0 false
    let x := c.srcRec n
    k.rd Obj.src_COUNT n 0 = (c.rd Obj.src_COUNT n 0 + 1) % 2 ^ 32 ∧ k.srcRec n = { x with raised := true, eff := 0, forced := false } ∧
      k.rd Obj.src_RAISE_T_NS n 0 = c.ftNs ∧ k.rd Obj.src_REPEATS n 0 = 0 ∧ k.rd Obj.src_INFO n 0 = info ∧
      k.log.head? = some ⟨c.ftNs, c.ftFrac, n, 1, 0, c.rd Obj.src_REACTION n 0, c.mode.code, info, (c.rd0 Obj.LOG_SEQ + 1) % 2 ^ 32, 0, 2 * b2n x.active⟩ ∧
      k.logRet = c.logRet ∧ k.mode = c.mode ∧ k.stop = c.stop := by
  refine ⟨?_, ?_, ?_, ?_, ?_, ?_, ?_, ?_, ?_⟩
  · rw [rd_announced (by decide), raised, rd_wr_apart (by decide), rd_wr_apart (by decide), rd_setSrc, count_noted]
  · rw [srcRec_announced, srcRec_raised, raisedRec, hcls]
  · rw [rd_announced (by decide), raised, rd_wr_apart (by decide), rd_wr]
    exact Nat.mod_eq_of_lt (ftNs_lt c)
  · rw [rd_announced (by decide), raised, rd_wr]
    rfl
  · rw [rd_announced (by decide), raised, rd_wr_apart (by decide), rd_wr_apart (by decide), rd_setSrc, info_noted hinfo]
  · rw [head_announced, ftNs_raised, ftFrac_raised, mode_raised, seq_raised, srcRec_raised, Core.logReaction, if_neg (by decide), rd_raised unnoted_reaction (by decide) (by decide)]
    exact congrArg (fun f => some (LogEntry.mk c.ftNs c.ftFrac n 1 0 (c.rd Obj.src_REACTION n 0) c.mode.code info ((c.rd0 Obj.LOG_SEQ + 1) % 2 ^ 32) 0 f)) (Nat.zero_add _)
  · rw [announced, (rung_event _ _ _ _ _).logRet, logRet_addLog _ _ _ (by decide), logRet_raised]
  · rw [told_announced.mode, mode_raised]
  · rw [told_announced.stop, stop_raised]

theorem repeats_lt (c : Core) : min 65535 (c.rd Obj.src_REPEATS n 0 + 1) < 65536 := by omega

/-- What a further occurrence leaves that does not escalate. -/
theorem repeated_of_same :
    let k := repeated c n info
    k.rd Obj.src_COUNT n 0 = (c.rd Obj.src_COUNT n 0 + 1) % 2 ^ 32 ∧ k.srcRec n = c.srcRec n ∧ k.rd Obj.src_REPEATS n 0 = Nat.min 65535 (c.rd Obj.src_REPEATS n 0 + 1) ∧
      k.log = c.log ∧ k.mode = c.mode := by
  refine ⟨?_, ?_, ?_, published_repeated.log, published_repeated.mode⟩
  · rw [repeated, rd_wr_apart (by decide), count_noted]
  · exact srcRec_congr published_repeated.src (by rw [repeated, rd_wr_apart (by decide), rd_noted unnoted_class])
  · rw [repeated, rd_wr]
    exact Nat.mod_eq_of_lt (repeats_lt c)

/-- The block once a source has escalated from C to U, before the class acts. -/
def escalated (c : Core) (n info : Nat) : Core := (repeated c n info).setSrc n { c.srcRec n with eff := (c.srcRec n).eff + 1 }

theorem rd_escalated_reaction : (escalated c n info).rd Obj.src_REACTION n 0 = c.rd Obj.src_REACTION n 0 := by
  rw [escalated, rd_setSrc, repeated, rd_wr_apart (by decide), rd_noted unnoted_reaction]

theorem seq_escalated : (escalated c n info).rd0 Obj.LOG_SEQ = c.rd0 Obj.LOG_SEQ := by
  have hset (t : Core) (x : Src) : (t.setSrc n x).rd0 Obj.LOG_SEQ = t.rd0 Obj.LOG_SEQ := rfl
  rw [escalated, hset, repeated, seq_wr (by decide), seq_noted]

theorem mode_escalated : (escalated c n info).mode = c.mode := by rw [escalated, setSrc_mode, published_repeated.mode]

theorem ftQ_escalated : (escalated c n info).ftQ = c.ftQ := by
  rw [Core.ftQ, escalated, setSrc_ftAcc, published_repeated.eq]
  rfl

theorem ftNs_escalated : (escalated c n info).ftNs = c.ftNs := by rw [Core.ftNs, ftQ_escalated, Core.ftNs]

theorem ftFrac_escalated : (escalated c n info).ftFrac = c.ftFrac := by rw [Core.ftFrac, ftQ_escalated, Core.ftFrac]

/-- What an escalation to U leaves where the reaction is NONE. -/
theorem escalated_of_none (heff : (c.srcRec n).eff = 0) (hnone : c.rd Obj.src_REACTION n 0 = 0) :
    let r := Nat.min 65535 (c.rd Obj.src_REPEATS n 0 + 1)
    let k := (escalated c n info).actClass n ((c.srcRec n).eff + 1) 3 info r false
    k.rd Obj.src_COUNT n 0 = (c.rd Obj.src_COUNT n 0 + 1) % 2 ^ 32 ∧ (k.srcRec n).eff = 1 ∧ k.mode = c.mode ∧
      k.log.head? = some ⟨c.ftNs, c.ftFrac, n, 3, 1, 0, c.mode.code, info, (c.rd0 Obj.LOG_SEQ + 1) % 2 ^ 32, r, 2 * b2n (c.srcRec n).active⟩ := by
  dsimp only
  rw [actClass_of_minor (.inr ⟨by rw [heff], rd_escalated_reaction.trans hnone⟩)]
  refine ⟨?_, ?_, ?_, ?_⟩
  · rw [rd_announced (by decide), escalated, rd_setSrc, repeated, rd_wr_apart (by decide), count_noted]
  · rw [srcRec_announced, escalated, srcRec_setSrc, heff]
  · rw [told_announced.mode, mode_escalated]
  · rw [head_announced, ftNs_escalated, ftFrac_escalated, mode_escalated, seq_escalated, heff, Core.logReaction, if_neg (by decide), rd_escalated_reaction, hnone]
    have hactive : b2n false + 2 * b2n ((escalated c n info).srcRec n).active = 2 * b2n (c.srcRec n).active := by
      rw [escalated, srcRec_setSrc]
      exact Nat.zero_add _
    rw [hactive]

/-- An occurrence that reaches class F puts the device in SAFE. -/
theorem mode_actClass_safe {kind repeats : Nat} {forced : Bool} (hrun : c.running = true) : (c.actClass n 2 kind info repeats forced).mode = .safe := by
  have hsafe (t : Core) (ht : t.mode = c.mode) : t.hemSafe.mode = .safe := by
    simp only [Core.running, decide_eq_true_eq] at hrun
    by_cases hheld : t.mode = .safe ∨ (t.mode = .off ∧ t.phase ≠ .waking) ∨ t.mode = .retain
    · rw [Lasting.hemSafe_of_held t hheld]
      rw [ht] at hheld ⊢
      obtain h | h | h := hheld
      · exact h
      · exact absurd h.1 hrun.1
      · exact absurd h hrun.2
    · rw [Lasting.hemSafe_eq t hheld, mode_setMode]
  rw [actClass_of_safe]
  refine hsafe _ ?_
  split
  · exact (rung_wr _ _ _ _ _).told.mode.trans told_announced.mode
  · exact told_announced.mode

/-! #### A second occurrence in the cycle -/

theorem occurAgain_leaves {forced : Bool} :
    (c.occurAgain n info forced).rd Obj.src_COUNT n 0 = c.rd Obj.src_COUNT n 0 ∧ (c.occurAgain n info forced).log = c.log ∧ (c.occurAgain n info forced).mode = c.mode := by
  have hinfo := published_wr c Obj.src_INFO n 0 info (by decide)
  have hcount : (c.wr Obj.src_INFO n 0 info).rd Obj.src_COUNT n 0 = c.rd Obj.src_COUNT n 0 := rd_wr_apart (by decide)
  unfold Core.occurAgain
  split
  · exact ⟨rfl, rfl, rfl⟩
  · dsimp only
    split
    · exact ⟨hcount, hinfo.log, hinfo.mode⟩
    · exact ⟨hcount, hinfo.log, hinfo.mode⟩

theorem occurOne_of_again {forced : Bool} (hn : srcAssigned n = true) (hrun : c.running = true) (hnow : c.occurredNow n = true) :
    c.occurOne n info forced = c.occurAgain n info forced := by
  simp only [Core.running, decide_eq_true_eq] at hrun
  unfold Core.occurOne
  rw [if_neg (by simp [hn, hrun]), if_pos hnow]

end Raised

end Sys2Proof.Proofs.Occurrences

/-! ### Proofs: the Hem safe state and acknowledgement (R449, R490, R500, R503) -/

namespace Sys2Proof.Proofs.SafeState
open Sys2Proof Sys2Proof.Machine Sys2Proof.Laws Sys2Proof.Proofs.Hem Sys2Proof.Proofs.Occurrences

/-! #### What the rest of the Hem safe state leaves standing -/

/-- What the Hem safe state sets before it leaves the job and changes the mode. -/
def standing (c : Core) : Phase × Option Stop × Option Nat × List (Nat × Session) := (c.phase, c.stop, c.safeSince, c.sess)

section Standing
variable (c : Core)

theorem standing_wr (o : Ob) (i j v : Nat) : standing (c.wr o i j v) = standing c := by simp only [standing, wr_phase, wr_stop, wr_safeSince, wr_sess]

theorem standing_inc (o : Ob) (i j n : Nat) : standing (c.inc o i j n) = standing c := (standing_wr (c.bump _ n) _ _ _ _).trans rfl

theorem standing_endComp (o : Ob) (i j : Nat) (ok : Bool) : standing (c.endComp o i j ok) = standing c := by
  obtain h | ⟨-, h⟩ := endComp_cases c o i j ok
  · rw [h]
  · rw [h]; rfl

theorem standing_each {f : Core → Nat → Core} (l : List Nat) (h : ∀ t, ∀ x ∈ l, standing (f t x) = standing t) : standing (c.each l f) = standing c := by
  induction l generalizing c with
  | nil => rfl
  | cons x l ih => exact (ih _ fun t y hy => h t y (List.mem_cons_of_mem x hy)).trans (h c x List.mem_cons_self)

theorem standing_ite {P : Prop} [Decidable P] {t u : Core} (ht : standing t = standing c) (hu : standing u = standing c) : standing (if P then t else u) = standing c := by
  split
  · exact ht
  · exact hu

theorem standing_faultBlockOut (kind : Nat) : standing (c.faultBlockOut kind) = standing c :=
  standing_ite c (standing_each { c with fseq := _ } _ fun t _ _ => standing_each t _ fun _ _ _ => rfl) rfl

theorem standing_abortWindow (b : Option Nat) : standing (c.abortWindow b) = standing c :=
  standing_each c _ fun t _ _ => standing_wr { t with decs := _ } _ _ _ _

theorem standing_dropJob : standing c.dropJob = standing c := by
  have hstores (t : Core) (v w x : Nat) : standing (((t.wr0 Obj.PM_STAGED v).wr0 Obj.CMD_QUEUE w).wr0 Obj.STAGE_FREE x) = standing t := by
    rw [Core.wr0, standing_wr, Core.wr0, standing_wr, Core.wr0, standing_wr]
  unfold Core.dropJob Core.putFree
  rw [hstores]
  exact standing_abortWindow c none

theorem standing_closeStream : standing c.closeStream = standing c := by
  have hdisarm (t : Core) (x : Timer) (i : Nat) : standing (t.disarm x i) = standing t := rfl
  unfold Core.closeStream
  rw [standing_wr, standing_wr, standing_wr, hdisarm, Core.wr0, standing_wr, standing_dropJob]
  rfl

theorem standing_safeJob : standing c.safeJob = standing c := by
  have hahead (t : Core) : standing (t.wr0 Obj.LOOKAHEAD 0) = standing t := standing_wr t _ _ _ _
  exact standing_ite c rfl (standing_ite c ((hahead _).trans (standing_dropJob c)) ((hahead _).trans (standing_closeStream c)))

end Standing

/-! #### Sessions in SAFE (R449) -/

/-- No session holds a locked sequence or a partial write. -/
def Unlocked (c : Core) : Prop := ∀ p ∈ c.sess, p.2.txn = none ∧ p.2.part = none

section Sessions
variable {c : Core}

theorem unlocked_of_sess {t : Core} (h : Unlocked c) (hs : t.sess = c.sess) : Unlocked t := by
  unfold Unlocked
  rw [hs]
  exact h

theorem sess_pushEvent (h : Nat) (e : EventRec) : (c.pushEvent h e).sess = Tab.set c.sess h ((c.session h).push e).1 := by
  rw [pushEvent_frame c h e]
  rfl

theorem push_keeps (x : Session) (e : EventRec) : (x.push e).1.txn = x.txn ∧ (x.push e).1.part = x.part := by
  obtain ⟨-, h⟩ | ⟨-, h⟩ := push_cases x e
  · rw [h]; exact ⟨rfl, rfl⟩
  · rw [h]; exact ⟨rfl, rfl⟩

theorem unlocked_session (h : Unlocked c) (k : Nat) : (c.session k).txn = none ∧ (c.session k).part = none := by
  obtain hnone | ⟨p, hp, hsome⟩ := Modes.tab_get_mem freeSession c.sess k
  · rw [Core.session, hnone]
    exact ⟨rfl, rfl⟩
  · rw [Core.session, hsome]
    exact h p hp

theorem mem_tab_set {α : Type} {l : Tab α} {k : Nat} {v : α} {p : Nat × α} (h : p ∈ Tab.set l k v) : p ∈ l ∨ p.2 = v := by
  induction l with
  | nil =>
    rw [Tab.set, List.mem_singleton] at h
    exact .inr (congrArg Prod.snd h)
  | cons q l ih =>
    obtain ⟨j, u⟩ := q
    rw [Tab.set] at h
    split at h
    · obtain rfl | hmem := List.mem_cons.mp h
      · exact .inr rfl
      · exact .inl hmem
    · split at h
      · obtain rfl | hmem := List.mem_cons.mp h
        · exact .inr rfl
        · exact .inl (List.mem_cons_of_mem _ hmem)
      · obtain rfl | hmem := List.mem_cons.mp h
        · exact .inl List.mem_cons_self
        · exact (ih hmem).imp (List.mem_cons_of_mem _) id

theorem unlocked_pushEvent (h : Unlocked c) (k : Nat) (e : EventRec) : Unlocked (c.pushEvent k e) := by
  unfold Unlocked
  rw [sess_pushEvent]
  intro p hp
  obtain hmem | hnew := mem_tab_set hp
  · exact h p hmem
  · obtain ⟨htxn, hpart⟩ := push_keeps (c.session k) e
    rw [hnew, htxn, hpart]
    exact unlocked_session h k

theorem unlocked_event (h : Unlocked c) (m : Option Nat) (code a b : Nat) : Unlocked (c.event m code a b) :=
  event_induction Unlocked h fun _ k e ht => unlocked_pushEvent ht k e

theorem sess_addLog (source kind cls reaction info repeats flags : Nat) : (c.addLog source kind cls reaction info repeats flags).sess = c.sess :=
  wr_sess c Obj.LOG_SEQ 0 0 ((c.rd0 Obj.LOG_SEQ + 1) % 2 ^ 32)

theorem unlocked_setMode (h : Unlocked c) (m : Mode) : Unlocked (c.setMode m) := by
  have hmoded : Unlocked ({ c with mode := m }.wr0 Obj.MODE_T_NS ({ c with mode := m } : Core).ftNs) := unlocked_of_sess h (wr0_sess _ _ _)
  exact unlocked_of_sess (unlocked_event hmoded (some 1) 0x0010 m.code c.mode.code) (sess_addLog _ _ _ _ _ _ _)

end Sessions

/-! #### The Hem safe state (R503) -/

section Safe
variable {c : Core}

/-- The block is steady, with no stop, SAFE from `at_` on, and with no session locked. -/
def Ended (at_ : Nat) (t : Core) : Prop := t.phase = .steady ∧ t.stop = none ∧ t.safeSince = some at_ ∧ Unlocked t

theorem ended_lapseTold {since : Nat} {t : Core} (h : Ended since t) (at_ : Nat) (p : Nat × Session) : Ended since (Lasting.lapseTold at_ t p) := by
  obtain ⟨hphase, hstop, hsince, hunlocked⟩ := h
  unfold Lasting.lapseTold
  split
  · next x _ =>
    have htold := (rung_pushEvent t p.1 ⟨0x00F0, x.id, 0, at_⟩).told
    exact ⟨htold.phase.trans hphase, htold.stop.trans hstop, htold.safeSince.trans hsince, unlocked_pushEvent hunlocked _ _⟩
  · exact ⟨hphase, hstop, hsince, hunlocked⟩

theorem ended_of_standing {at_ : Nat} {t u : Core} (h : Ended at_ t) (hs : standing u = standing t) : Ended at_ u := by
  obtain ⟨hphase, hstop, hsince, hunlocked⟩ := h
  simp only [standing, Prod.mk.injEq] at hs
  obtain ⟨h1, h2, h3, h4⟩ := hs
  exact ⟨h1.trans hphase, h2.trans hstop, h3.trans hsince, unlocked_of_sess hunlocked h4⟩

theorem ended_stopsEnded : Ended c.clk (Lasting.stopsEnded c) := by
  have hclk : (Lasting.outputsSafe c).clk = c.clk := by
    have h := Lasting.lasting_outputsSafe c
    simp only [Lasting.lasting, Prod.mk.injEq] at h
    obtain ⟨-, -, -, -, -, hclk⟩ := h
    exact hclk
  have hsess (l : List (Nat × Session)) : ∀ p ∈ l.map (fun (p : Nat × Session) => (p.1, p.2.onSafe)), p.2.txn = none ∧ p.2.part = none := by
    intro p hp
    obtain ⟨q, -, rfl⟩ := List.mem_map.mp hp
    exact ⟨rfl, rfl⟩
  unfold Lasting.stopsEnded
  generalize Lasting.outputsSafe c = t at hclk
  exact ⟨rfl, rfl, congrArg some hclk, hsess t.sess⟩

theorem ended_safeHeld : Ended c.clk (Lasting.safeHeld c) := by
  have htold : Ended c.clk ((Lasting.outputsSafe c).sess.foldl (Lasting.lapseTold (Lasting.outputsSafe c).ftNs) (Lasting.stopsEnded c)) :=
    List.foldlRecOn (motive := Ended c.clk) _ _ ended_stopsEnded fun t ht p _ => ended_lapseTold ht _ p
  have hsafe : Ended c.clk (Lasting.safeTold c) := by
    refine ended_of_standing htold ?_
    rw [Lasting.safeTold, standing_faultBlockOut, standing_endComp, standing_inc]
  unfold Lasting.safeHeld
  split
  · exact ended_of_standing hsafe rfl
  · exact hsafe

/-- What the Hem safe state is (R503). -/
theorem hemSafe_holds (hrun : c.running = true) (hmode : c.mode ≠ .safe) : c.hemSafe.mode = .safe ∧ Ended c.clk c.hemSafe := by
  simp only [Core.running, decide_eq_true_eq] at hrun
  have hfree : ¬ (c.mode = .safe ∨ (c.mode = .off ∧ c.phase ≠ .waking) ∨ c.mode = .retain) := by
    rintro (h | ⟨h, -⟩ | h)
    · exact hmode h
    · exact hrun.1 h
    · exact hrun.2 h
  have hjob : Ended c.clk (Lasting.safeHeld c).safeJob := ended_of_standing ended_safeHeld (standing_safeJob _)
  obtain ⟨hphase, hstop, hsince, hunlocked⟩ := hjob
  have htold := told_setMode (Lasting.safeHeld c).safeJob .safe
  rw [Lasting.hemSafe_eq c hfree]
  exact ⟨mode_setMode _ _, htold.phase.trans hphase, htold.stop.trans hstop, htold.safeSince.trans hsince, unlocked_setMode hunlocked .safe⟩

end Safe

/-! #### Acknowledgement (R500) -/

section Acknowledged
variable (c : Core) (n : Nat)

/-- The source as its acknowledgement leaves it. -/
def ackedRec : Src := { c.srcRec n with raised := false, forced := false, eff := c.rd Obj.src_CLASS n 0 }

/-- The block once the acknowledgement is logged. -/
def ackLogged : Core :=
  (c.setSrc n (ackedRec c n)).addLog n 2 (c.rd Obj.src_CLASS n 0) 255 0 (c.rd Obj.src_REPEATS n 0) (b2n (c.srcRec n).forced)

theorem ackSource_eq : c.ackSource n = (ackLogged c n).event (some 0) 0x0002 n 0 := rfl

variable {c n}

theorem told_ackSource : Told (c.setSrc n (ackedRec c n)) (c.ackSource n) := by
  rw [ackSource_eq]
  exact (told_addLog _ _ _ _ _ _ _ _).trans (rung_event _ _ _ _ _).told

theorem class_ackSource (k : Nat) : (c.ackSource n).rd Obj.src_CLASS k 0 = c.rd Obj.src_CLASS k 0 := by
  rw [ackSource_eq, rd_event_of_sources (by decide), ackLogged, rd_addLog_of_sources (by decide), rd_setSrc]

theorem srcRec_ackSource (k : Nat) : (c.ackSource n).srcRec k = (c.setSrc n (ackedRec c n)).srcRec k :=
  srcRec_congr told_ackSource.src ((class_ackSource k).trans (rd_setSrc _ _ _ _ _).symm)

theorem srcRec_ackSource_same : (c.ackSource n).srcRec n = ackedRec c n := (srcRec_ackSource n).trans (srcRec_setSrc _)

theorem srcRec_ackSource_ne {k : Nat} (h : k ≠ n) : (c.ackSource n).srcRec k = c.srcRec k :=
  (srcRec_ackSource k).trans (tab_get_set_ne _ _ _ _ _ h)

theorem head_ackSource : (c.ackSource n).log.head? =
    some ⟨c.ftNs, c.ftFrac, n, 2, c.rd Obj.src_CLASS n 0, 255, c.mode.code, 0, (c.rd0 Obj.LOG_SEQ + 1) % 2 ^ 32, c.rd Obj.src_REPEATS n 0, b2n (c.srcRec n).forced⟩ := by
  rw [ackSource_eq, (rung_event _ _ _ _ _).log]
  exact head_addLog _ _ _

theorem logRet_ackSource : (c.ackSource n).logRet = c.logRet := by
  rw [ackSource_eq, (rung_event _ _ _ _ _).logRet, ackLogged, logRet_addLog _ _ _ (by simp)]
  rfl

end Acknowledged

/-- Settles O54: what an occurrence of each kind, the Hem safe state and an acknowledgement leave. -/
theorem occurrencesEscalateAndAreAcknowledged : Obligations.OccurrencesEscalateAndAreAcknowledged := by
  unfold Obligations.OccurrencesEscalateAndAreAcknowledged
  refine ⟨fun c n info hn hrun hinfo => ⟨fun hnow => ?_, fun hnow => ?_⟩, fun c hrun hmode => ?_, fun c n => ?_⟩
  · obtain ⟨hcount, hlog, hmode⟩ := occurAgain_leaves (c := c) (n := n) (info := info) (forced := false)
    exact ⟨occurOne_of_again hn hrun hnow, hcount, hlog, hmode⟩
  · intro k x q counted
    refine ⟨fun hmask => ?_, fun hmask hfirst hcls => ?_, fun hmask hraised hstays => ?_, fun hmask hraised heff hesc hnone => ?_, fun hmask hfirst hcls => ?_⟩
    · have hup := hrun
      simp only [Core.running, decide_eq_true_eq] at hup
      have hk : k = Occurrences.counted c n := occurOne_masked c n info false hn (fun h => hup.1 h.1) hup.2 hnow hmask
      show k.rd Obj.src_COUNT n 0 = (c.rd Obj.src_COUNT n 0 + 1) % 2 ^ 32 ∧ _
      rw [hk]
      exact ⟨count_counted, last_counted, (published_counted c n).eq⟩
    · have hk : k = _ := occurOne_of_first hn hrun hnow hmask hfirst hcls
      show k.rd Obj.src_COUNT n 0 = (c.rd Obj.src_COUNT n 0 + 1) % 2 ^ 32 ∧ _
      rw [hk]
      exact first_of_classC hcls hinfo
    · have hk : k = repeated c n info := by
        refine (occurOne_of_unmasked hn hrun hnow hmask).trans ?_
        rw [if_neg (by simp [show (c.srcRec n).raised = true from hraised]), if_neg]
        rintro ⟨hlow, hset⟩
        obtain h | h := hstays
        · exact absurd (show (c.srcRec n).eff = 2 from h) (by omega)
        · rw [h] at hset
          exact absurd hset (by decide)
      show k.rd Obj.src_COUNT n 0 = (c.rd Obj.src_COUNT n 0 + 1) % 2 ^ 32 ∧ _
      rw [hk]
      exact repeated_of_same
    · have hlow : (c.srcRec n).eff < 2 := by
        rw [show (c.srcRec n).eff = 0 from heff]
        decide
      have hk : k = (escalated c n info).actClass n ((c.srcRec n).eff + 1) 3 info (min 65535 (c.rd Obj.src_REPEATS n 0 + 1)) false := by
        refine (occurOne_of_unmasked hn hrun hnow hmask).trans ?_
        rw [if_neg (by simp [show (c.srcRec n).raised = true from hraised]), if_pos ⟨hlow, hesc⟩]
        rfl
      show k.rd Obj.src_COUNT n 0 = (c.rd Obj.src_COUNT n 0 + 1) % 2 ^ 32 ∧ _
      rw [hk]
      exact escalated_of_none heff hnone
    · have hk : k = (raised c n info false).actClass n 2 1 info 0 false := by
        refine (occurOne_of_unmasked hn hrun hnow hmask).trans ?_
        rw [if_pos (by simp [show (c.srcRec n).raised = false from hfirst]), hcls]
      rw [hk]
      refine mode_actClass_safe ?_
      rw [Core.running, mode_raised]
      exact hrun
  · obtain ⟨hsafe, hphase, hstop, hsince, hunlocked⟩ := hemSafe_holds hrun hmode
    have hlasting := Lasting.lasting_hemSafe c
    simp only [Lasting.lasting, Prod.mk.injEq] at hlasting
    obtain ⟨-, -, hkeys, -, hjournal, hclk⟩ := hlasting
    exact ⟨hsafe, hphase, hstop, hsince, hunlocked, hkeys, hjournal, hclk⟩
  · refine ⟨srcRec_ackSource_same, fun j hj => srcRec_ackSource_ne hj, ?_, head_ackSource, told_ackSource.mode, logRet_ackSource, told_ackSource.timers, told_ackSource.ports⟩
    rw [Core.isRaised, srcRec_ackSource_same]
    rfl

end Sys2Proof.Proofs.SafeState

/-! ### Proofs: Selvedge's own inputs (R504 to R511) -/

namespace Sys2Proof.Proofs.Selvedge
open Sys2Proof Sys2Proof.Machine Sys2Proof.Laws

section Inputs
variable {c : Core} {n : Nat}

theorem hostLockLost_of_owned (howner : c.rd0 Obj.HOST_LOCK_OWNER ≠ 0) (htxn : (c.session (c.rd0 Obj.HOST_LOCK_OWNER)).txn = none) :
    c.hostLockLost = ((c.wr0 Obj.HOST_LOCK_OWNER 0).disarm .hostLock 0).occur 6 0 := by
  have hlapse (tell : Bool) : c.lapseTxn (c.rd0 Obj.HOST_LOCK_OWNER) tell = c := by
    unfold Core.lapseTxn
    dsimp only
    rw [htxn]
  unfold Core.hostLockLost
  dsimp only
  rw [if_neg howner, hlapse]

/-! #### Fault inputs (R508) -/

/-- The block once a fault input's level is published. -/
def levelShown (c : Core) (n : Nat) (high : Bool) : Core := c.wr0 Obj.FAULT_IN_LEVEL (putBit (c.rd0 Obj.FAULT_IN_LEVEL) n high)

theorem faultInput_of_running (hrun : c.running = true) (hn : n < 16) (active : Bool) :
    c.faultInput n active = (levelShown c n (decide (active = bit (c.rd0 Obj.FAULT_IN_POL) n))).level (9 + n) 0 active := by
  unfold Core.faultInput
  rw [if_neg (by simp [hrun]; omega)]
  rfl

theorem srcRec_levelShown (high : Bool) (k : Nat) : (levelShown c n high).srcRec k = c.srcRec k :=
  Occurrences.srcRec_congr (wr_src _ _ _ _ _) (rd_wr_ne _ _ _ _ _ _ _ _ (Occurrences.key_ne_of_sources (by decide) (by decide)))

theorem levelShown_only (high : Bool) : levelShown c n high = { c with objs := (levelShown c n high).objs } := by
  rw [levelShown, Core.wr0, Ephemeris.wr_of_not_retained c Obj.FAULT_IN_LEVEL 0 0 _ (by decide)]

theorem rd0_levelShown (high : Bool) : (levelShown c n high).rd0 Obj.FAULT_IN_LEVEL = putBit (c.rd0 Obj.FAULT_IN_LEVEL) n high % 65536 := rd_wr _ _ _ _ _

/-- A condition that held and ends. -/
theorem level_of_end {t : Core} {k info : Nat} (h : (t.srcRec k).active = true) : t.level k info false = t.setSrc k { t.srcRec k with active := false } := by
  unfold Core.level
  dsimp only
  rw [if_neg (by decide), if_pos h]

/-! #### Hem (R504, R505) -/

theorem readbackMade_of_running {kind : Nat} (hrun : c.running = true) (h : kind = 1 ∨ c.mode = .safe ∨ (kind = 3 ∧ c.axSt (4 + n) = axFaulted)) :
    c.readbackMade kind n = true := by
  unfold Core.readbackMade
  rw [hrun]
  obtain h | h | ⟨h, h'⟩ := h
  · simp [h]
  · simp [h]
  · simp [h, h']

theorem running_of_safe (h : c.mode = .safe) : c.running = true := by simp [Core.running, h]

/-- A failed readback that is made raises its source. -/
theorem does_readbackFail {s : State} {dt kind index m : Nat} (hsrc : readbackSource kind index = some m) (hmade : (s.core.advance dt).readbackMade kind index = true) :
    Does (.hemReadbackFail dt kind index) s ((s.core.advance dt).occur m 0) := by
  have hcore : (match readbackSource kind index with
      | some n => if (s.core.advance dt).readbackMade kind index then (s.core.advance dt).occur n 0 else s.core.advance dt
      | none => s.core.advance dt) = (s.core.advance dt).occur m 0 := by
    rw [hsrc]
    exact if_pos hmade
  rw [← hcore]
  rfl

theorem wdogExpiry_of_expired (h : c.wdogExpired = true) (selvedge : Bool) : c.wdogExpiry selvedge = c := if_pos (.inr h)

theorem wdogExpiry_of_running (hrun : c.running = true) (h : c.wdogExpired = false) (selvedge : Bool) :
    c.wdogExpiry selvedge = (if selvedge then (({ c with wdogExpired := true }).arm .wdogReset 0 (ms 10)).occur 4 0
      else ({ c with wdogExpired := true }).arm .wdogReset 0 (ms 10)).hemSafe.settle := if_neg (by simp [hrun, h])

end Inputs

/-- Settles O55: each input's function by the branch its premises name. -/
theorem selvedgeInputsAct : Obligations.SelvedgeInputsAct := by
  unfold Obligations.SelvedgeInputsAct
  intro s dt n c
  refine ⟨fun hdue howner htxn => ?_, fun hrun hn => ?_, fun hrun hn hactive => ?_, ?_, fun hrun hn => ?_, fun hsafe hn => ⟨?_, ?_⟩, fun hrun hn hax => ?_, fun hsafe hn => ?_, fun hrun => ?_, ?_,
    fun hdue => ?_, fun hexp sel => ?_, fun hrun hn => ?_⟩
  · rw [← hostLockLost_of_owned howner htxn]
    exact Block.does_of_eq (rfl : Does (.hostTimeoutExpiry dt) s (if c.due .hostLock 0 = true then c.hostLockLost else c)) (if_pos hdue)
  · have hlevel := faultInput_of_running hrun hn true
    rw [show decide (true = bit (c.rd0 Obj.FAULT_IN_POL) n) = bit (c.rd0 Obj.FAULT_IN_POL) n by cases bit (c.rd0 Obj.FAULT_IN_POL) n <;> rfl] at hlevel
    exact Block.does_of_eq (rfl : Does (.faultInput dt n) s (c.faultInput n true)) hlevel
  · have hlevel := faultInput_of_running hrun hn false
    rw [show decide (false = bit (c.rd0 Obj.FAULT_IN_POL) n) = !bit (c.rd0 Obj.FAULT_IN_POL) n by cases bit (c.rd0 Obj.FAULT_IN_POL) n <;> rfl,
      level_of_end (by rw [srcRec_levelShown]; exact hactive), srcRec_levelShown] at hlevel
    refine ⟨_, Block.does_of_eq (rfl : Does (.faultInputInactive dt n) s (c.faultInput n false)) hlevel, Occurrences.srcRec_setSrc _, ?_, ?_⟩
    · exact rd0_levelShown _
    · rw [levelShown_only]
      rfl
  · intro t hrun hexp
    exact ⟨Block.does_of_eq (rfl : Does (.safetyWdogExpiry dt false) s (c.wdogExpiry false)) (wdogExpiry_of_running hrun hexp false),
      Block.does_of_eq (rfl : Does (.safetyWdogExpiry dt true) s (c.wdogExpiry true)) (wdogExpiry_of_running hrun hexp true)⟩
  · exact does_readbackFail (if_pos hn) (readbackMade_of_running hrun (.inl rfl))
  · exact does_readbackFail (if_pos hn) (readbackMade_of_running (running_of_safe hsafe) (.inr (.inl hsafe)))
  · exact does_readbackFail rfl (readbackMade_of_running (running_of_safe hsafe) (.inr (.inl hsafe)))
  · exact does_readbackFail (if_pos hn) (readbackMade_of_running (hax.elim running_of_safe fun _ => hrun) (hax.elim (fun h => .inr (.inl h)) fun h => .inr (.inr ⟨rfl, h⟩)))
  · exact does_readbackFail (if_pos hn) (readbackMade_of_running (running_of_safe hsafe) (.inr (.inl hsafe)))
  · refine Block.does_of_eq (rfl : Does (.hemArmCheck dt true) s (if c.running = true ∧ true = true then
      (c.each ((List.range 12).filter (fun a => bit (c.rd Obj.ax_AX_FLAGS a 0) 1)) Core.armAxis).occur 3 0 else c)) ?_
    exact if_pos ⟨hrun, rfl⟩
  · refine Block.does_of_eq (rfl : Does (.hemArmCheck dt false) s (if c.running = true ∧ false = true then
      (c.each ((List.range 12).filter (fun a => bit (c.rd Obj.ax_AX_FLAGS a 0) 1)) Core.armAxis).occur 3 0 else c)) ?_
    exact if_neg (by simp)
  · exact Block.does_of_eq (rfl : Does (.hostTimeoutExpiry dt) s (if c.due .hostLock 0 = true then c.hostLockLost else c)) (if_neg (Bool.eq_false_iff.mp hdue))
  · exact Block.does_of_eq (rfl : Does (.safetyWdogExpiry dt sel) s (c.wdogExpiry sel)) (wdogExpiry_of_expired hexp sel)
  · exact Block.does_of_eq (rfl : Does (.selvedgeLockstepMismatch dt n) s (if c.running = true ∧ n < 3 then c.occur n 0 else c)) (if_pos ⟨hrun, hn⟩)

end Sys2Proof.Proofs.Selvedge

/-! ### Proofs: what a device reset keeps (R188, R460, R462, R529) -/

namespace Sys2Proof.Proofs.Kept
open Sys2Proof Sys2Proof.Machine Sys2Proof.Laws

section Kept
variable (c : Core)

/-- The block after a device reset, before Thimble's entries are restored. -/
def clearedBase : Core :=
  { clk := c.clk, out := c.out, freeCount := c.freeCount, lastStatus := c.lastStatus, mode := .off, phase := .steady, objs := c.resetObjs 0, journal := c.journal, logRet := c.logRet,
    thimJ := c.thimJ, orphanAge := c.orphanAge, slotKeys := c.slotKeys, roleKeys := c.roleKeys, dramEcc := c.dramEcc, bist := { repairs := c.bist.repairs },
    bistWasCut := c.bistWasCut || c.bist.cut, causes := c.causes, resetLow := c.resetLow, testEn := c.testEn, tapIr := c.tapIr, tapBoundary := c.tapBoundary }

theorem cleared_zero : c.cleared 0 = c.thimJ.foldl Core.thimRestore (clearedBase c) := rfl

/-- Thimble's entries change objects, what is due of them, and ports. -/
theorem cleared_frame : ∃ l d z q, c.cleared 0 = { clearedBase c with objs := l, dirty := d, dirtySince := z, ports := q } :=
  Power.restores_foldl_thimRestore (clearedBase c) c.thimJ

/-! #### Objects without a journaled value -/

/-- A key that is filtered out is not found. -/
theorem tab_get_filter {α : Type} {d : α} {t : Tab α} {f : Nat × α → Bool} {k : Nat} (h : ∀ v, f (k, v) = false) : Tab.get d (t.filter f) k = d := by
  induction t with
  | nil => rfl
  | cons p t ih =>
    obtain ⟨j, v⟩ := p
    rw [List.filter_cons]
    split
    · next hf =>
      have hne : j ≠ k := by
        rintro rfl
        rw [h v] at hf
        exact absurd hf (by decide)
      rw [Tab.get, if_neg hne]
      exact ih
    · exact ih

variable {c}

theorem resetObjs_of_no_journal (h : c.journal = []) : c.resetObjs 0 = c.keptObjs 0 := by
  have hrestored : (c.restored 0).1 = [] := by
    unfold Core.restored
    rw [if_neg (by decide), h]
    rfl
  rw [Core.resetObjs, hrestored]
  rfl

/-- An object no partition keeps has no entry. -/
theorem get_keptObjs {k d : Nat} (h : (Obj.KEY_SLOT :: dictionary.filter Ob.ownPartition).all (fun q => !q.hasKey k) = true) : Tab.get d (c.keptObjs 0) k = d := by
  refine tab_get_filter fun v => ?_
  rw [List.all_eq_true] at h
  rw [List.any_eq_false]
  intro q hq
  have hmem : q ∈ Obj.KEY_SLOT :: dictionary.filter Ob.ownPartition := by
    obtain rfl | hq := List.mem_cons.mp hq
    · exact List.mem_cons_self
    · obtain ⟨hdict, hown⟩ := List.mem_filter.mp hq
      rw [Bool.and_eq_true] at hown
      exact List.mem_cons_of_mem _ (List.mem_filter.mpr ⟨hdict, hown.1⟩)
  simpa using h q hmem

/-! #### One entry of Thimble (R188) -/

section Entry
variable {t : Core} {p : Nat} {e : ThimEntry}

/-- The objects of a port's entry. -/
def entryStored (t : Core) (p : Nat) (e : ThimEntry) : Core :=
  (((t.wr Obj.CARRIER_ID 0 p e.carrier).wr Obj.COUNT 0 p e.base).wr Obj.CSEQ 0 p e.cseq).wr Obj.PENDING_PL 0 p e.acc

theorem thimRestore_eq : t.thimRestore (p, e) = (entryStored t p e).updThim p (fun x => { x with flight := e.flight }) := rfl

theorem rd_thimRestore (o : Ob) : (t.thimRestore (p, e)).rd o 0 p = (entryStored t p e).rd o 0 p := rfl

/-- Thimble's objects are apart. -/
theorem rd_wr_thim {o q : Ob} {v : Nat} (hp : p < 64) (h : ¬ 1 < q.nel ∧ ¬ 1 < o.nel ∧ q.sub + 64 < 65536 ∧ o.sub + 64 < 65536 ∧ q.idx + q.stride * 0 ≠ o.idx + o.stride * 0) :
    (t.wr o 0 p v).rd q 0 p = t.rd q 0 p := by
  obtain ⟨hq, ho, hqsub, hosub, hne⟩ := h
  exact rd_wr_ne t o q 0 p 0 p v (Dma.key_ne_of_index ⟨hq, ho, by omega, by omega⟩ hne)

theorem carrier_entryStored (hp : p < 64) (h : e.carrier < 2 ^ 64) : (entryStored t p e).rd Obj.CARRIER_ID 0 p = e.carrier := by
  rw [entryStored, rd_wr_thim hp (by decide), rd_wr_thim hp (by decide), rd_wr_thim hp (by decide), rd_wr]
  exact Nat.mod_eq_of_lt h

theorem count_entryStored (hp : p < 64) (h : e.base < 2 ^ 64) : (entryStored t p e).rd Obj.COUNT 0 p = e.base := by
  rw [entryStored, rd_wr_thim hp (by decide), rd_wr_thim hp (by decide), rd_wr]
  exact Nat.mod_eq_of_lt h

theorem cseq_entryStored (hp : p < 64) (h : e.cseq < 2 ^ 32) : (entryStored t p e).rd Obj.CSEQ 0 p = e.cseq := by
  rw [entryStored, rd_wr_thim hp (by decide), rd_wr]
  exact Nat.mod_eq_of_lt h

theorem pending_entryStored (h : e.acc < 2 ^ 64) : (entryStored t p e).rd Obj.PENDING_PL 0 p = e.acc := by
  rw [entryStored, rd_wr]
  exact Nat.mod_eq_of_lt h

theorem ports_thimRestore (h : t.ports = []) : (t.thimRestore (p, e)).ports = [(p, { thim := { flight := e.flight } })] := by
  have hstored : (entryStored t p e).ports = [] := by rw [entryStored, wr_ports, wr_ports, wr_ports, wr_ports, h]
  rw [thimRestore_eq]
  show Tab.set (entryStored t p e).ports p { (entryStored t p e).port p with thim := { ((entryStored t p e).port p).thim with flight := e.flight } } = _
  rw [Core.port, hstored]
  rfl

end Entry

end Kept

/-- Settles O57: what is left before Thimble's entries are restored, and what these add. -/
theorem resetKeepsTheRetentionStore : Obligations.ResetKeepsTheRetentionStore := by
  unfold Obligations.ResetKeepsTheRetentionStore
  intro c o i j p e k
  obtain ⟨l, d, z, q, hk⟩ := cleared_frame c
  have hlasting : k = { clearedBase c with objs := l, dirty := d, dirtySince := z, ports := q } := hk
  refine ⟨?_, ?_, ?_, ?_, ?_, ?_, ?_, ?_, ?_, ?_, ?_, ?_, ?_, ?_, ?_, ?_, ?_, fun hthim => ?_, fun hjournal hthim hkey => ?_, fun hthim hp hcarrier hbase hcseq hacc => ?_⟩
  iterate 17
    · rw [hlasting]
      rfl
  · show (c.cleared 0).ports = []
    rw [cleared_zero, hthim]
    rfl
  · show (c.cleared 0).rd o i j = o.resetValue i j
    rw [cleared_zero, hthim, Core.rd]
    show Tab.get _ (c.resetObjs 0) _ = _
    rw [resetObjs_of_no_journal hjournal]
    exact get_keptObjs hkey
  · have hone : k = (clearedBase c).thimRestore (p, e) := by
      show c.cleared 0 = _
      rw [cleared_zero, hthim]
      rfl
    rw [hone, rd_thimRestore, rd_thimRestore, rd_thimRestore, rd_thimRestore]
    exact ⟨carrier_entryStored hp hcarrier, count_entryStored hp hbase, cseq_entryStored hp hcseq, pending_entryStored hacc, ports_thimRestore rfl⟩

end Sys2Proof.Proofs.Kept

/-! ### Proofs: monitors of rails, clocks and islands (R516, R520 to R526) -/

namespace Sys2Proof.Proofs.Monitors
open Sys2Proof Sys2Proof.Machine Sys2Proof.Laws

section Conditions
variable {c : Core} {n info : Nat}

/-- A condition's end clears its mark, and changes no other source. -/
theorem srcRec_level_false (k : Nat) : (c.level n info false).srcRec k = if k = n then { c.srcRec n with active := false } else c.srcRec k := by
  unfold Core.level
  dsimp only
  rw [if_neg (by decide)]
  by_cases hactive : (c.srcRec n).active = true
  · rw [if_pos hactive]
    by_cases hk : k = n
    · rw [if_pos hk, hk]
      exact Occurrences.srcRec_setSrc _
    · rw [if_neg hk]
      exact tab_get_set_ne _ _ _ _ _ hk
  · rw [if_neg hactive]
    by_cases hk : k = n
    · rw [if_pos hk, hk, ← Bool.eq_false_iff.mpr hactive]
    · rw [if_neg hk]

theorem level_false_frame : ∃ l, c.level n info false = { c with src := l } := by
  unfold Core.level
  dsimp only
  rw [if_neg (by decide)]
  split
  · exact ⟨_, rfl⟩
  · exact ⟨_, rfl⟩

theorem raised_level_false (k : Nat) : ((c.level n info false).srcRec k).raised = (c.srcRec k).raised := by
  rw [srcRec_level_false]
  split
  · next h => rw [h]
  · rfl

/-! #### Rails (R516) -/

theorem railWarning_of_running (hrun : c.running = true) (hn : n < 10) :
    c.railWarning n = (c.wr0 Obj.RAIL_STATE (putBit (c.rd0 Obj.RAIL_STATE) n false)).level (256 + n) 0 true := if_pos ⟨hn, .inl hrun⟩

theorem railOver_of_running (hrun : c.running = true) (hn : n < 10) :
    c.railOver n = (c.wr0 Obj.RAIL_STATE (putBit (c.rd0 Obj.RAIL_STATE) n false)).level (266 + n) 0 true := if_pos ⟨hn, .inl hrun⟩

theorem railWarning_of_none (hn : 10 ≤ n) : c.railWarning n = c := if_neg (by omega)

theorem railOver_of_none (hn : 10 ≤ n) : c.railOver n = c := if_neg (by omega)

/-- The block once RAIL_STATE shows VDRV good. -/
def vdrvShown (c : Core) : Core := c.wr0 Obj.RAIL_STATE (putBit (c.rd0 Obj.RAIL_STATE) 9 true)

theorem vdrvShown_only : vdrvShown c = { c with objs := (vdrvShown c).objs } := by
  rw [vdrvShown, Core.wr0, Ephemeris.wr_of_not_retained c Obj.RAIL_STATE 0 0 _ (by decide)]

theorem srcRec_vdrvShown (k : Nat) : (vdrvShown c).srcRec k = c.srcRec k :=
  Occurrences.srcRec_congr (wr_src _ _ _ _ _) (rd_wr_ne _ _ _ _ _ _ _ _ (Occurrences.key_ne_of_sources (by decide) (by decide)))

theorem bit_vdrvShown : bit ((vdrvShown c).rd0 Obj.RAIL_STATE) 9 = true := by
  have hrd : (vdrvShown c).rd0 Obj.RAIL_STATE = putBit (c.rd0 Obj.RAIL_STATE) 9 true % 65536 := rd_wr _ _ _ _ _
  have hmod (v : Nat) : bit (v % 65536) 9 = bit v 9 := by
    have hpow : v % 65536 / 2 ^ 9 % 2 = v / 2 ^ 9 % 2 := by omega
    rw [bit, bit, hpow]
  rw [hrd, hmod]
  exact Bobbin.bit_putBit_self _ _

theorem railWarningEnd_leaves : bit (c.railWarningEnd.rd0 Obj.RAIL_STATE) 9 = true ∧ (c.railWarningEnd.srcRec 265).active = false ∧ (c.railWarningEnd.srcRec 1488).active = false ∧
    (∀ m, (c.railWarningEnd.srcRec m).raised = (c.srcRec m).raised) ∧ c.railWarningEnd = { c with objs := c.railWarningEnd.objs, src := c.railWarningEnd.src } := by
  have hend : c.railWarningEnd = ((vdrvShown c).level 265 0 false).level 1488 0 false := rfl
  obtain ⟨l, hl⟩ := level_false_frame (c := vdrvShown c) (n := 265) (info := 0)
  obtain ⟨r, hr⟩ := level_false_frame (c := (vdrvShown c).level 265 0 false) (n := 1488) (info := 0)
  refine ⟨?_, ?_, ?_, fun m => ?_, ?_⟩
  · rw [hend, hr, hl]
    exact bit_vdrvShown
  · rw [hend, srcRec_level_false, if_neg (by decide), srcRec_level_false, if_pos rfl]
  · rw [hend, srcRec_level_false, if_pos rfl]
  · rw [hend, raised_level_false, raised_level_false, srcRec_vdrvShown]
  · rw [hend, hr, hl, vdrvShown_only]

/-! #### Clocks (R520, R523) -/

/-- The block once OSC_STATE is published and its sources act. -/
def oscShown (c : Core) (xtal : Bool) (st : Nat) : Core :=
  let t := (c.wr0 Obj.OSC_STATE st).level 528 0 xtal
  if st = 2 ∧ c.rd0 Obj.OSC_STATE ≠ 2 then t.occur 528 0 else t

theorem clockCheck_of_running (hrun : c.running = true) (xtal sdref : Bool) :
    c.clockCheck xtal sdref =
      let t := oscShown c xtal (if xtal then 1 else if sdref then 2 else 0)
      if t.ftLocked = false then { t with driftRaised := false }
      else if decide (257698 < (t.rdI Obj.FT_TRIM 0 0).natAbs) = true ∧ t.driftRaised = false then ({ t with driftRaised := true }).occur 529 0 else t := by
  have hshown : c.clockCheck xtal sdref =
      let t := oscShown c xtal (if xtal then 1 else if sdref then 2 else 0)
      let drift := t.ftLocked && decide (257698 < (t.rdI Obj.FT_TRIM 0 0).natAbs)
      let u := { t with driftRaised := t.ftLocked && (t.driftRaised || drift) }
      if drift ∧ !t.driftRaised then u.occur 529 0 else u := if_neg (by simp [hrun])
  rw [hshown]
  dsimp only
  generalize oscShown c xtal (if xtal then 1 else if sdref then 2 else 0) = t
  generalize decide (257698 < (t.rdI Obj.FT_TRIM 0 0).natAbs) = far
  have hsame {b : Bool} (h : t.driftRaised = b) : ({ t with driftRaised := b } : Core) = t := by
    subst h
    rfl
  cases hlock : t.ftLocked
  · simp
  · cases hdrift : t.driftRaised <;> cases far <;> simp [hsame hdrift]

/-! #### Islands (R523, R526) -/

theorem clockFail_of_running (hrun : c.running = true) (hn : n < 84) (hst : c.rd Obj.ISLAND_STATE 0 n = 2) :
    c.clockFail n = ((c.wr Obj.ISLAND_STATE 0 n 3).laneLost n).level (276 + n) 0 true := if_neg (by rintro (h | h | h) <;> [omega; exact h hst; simp [hrun] at h])

theorem clockFail_of_none (h : 84 ≤ n ∨ c.rd Obj.ISLAND_STATE 0 n ≠ 2) : c.clockFail n = c := if_pos (h.imp id .inl)

/-- A quarantine writes Spool's objects, which stand below the ring's. -/
theorem lasting_quarantine (c : Core) {b : Nat} (hb : b < 50) : Lasting.lasting (c.quarantine b) = Lasting.lasting c := by
  have hstore (t : Core) {o : Ob} (j v : Nat) (hj : j < 50) (ho : ¬ 1 < o.nel ∧ o.sub + 50 < 65536) (hidx : o.idx + o.stride * 0 < Obj.NODE_ID.idx) :
      Lasting.lasting (t.wr o 0 j v) = Lasting.lasting t := Lasting.lasting_wr t v (Lasting.node_ne_of_below ⟨ho.1, by omega⟩ hidx)
  have hmark (t : Core) (o : Ob) (i j : Nat) : Lasting.lasting (t.hwUpdate o i j) = Lasting.lasting t := rfl
  unfold Core.quarantine
  refine (Lasting.lasting_of_fields rfl rfl rfl rfl rfl rfl).trans ?_
  have hstate : Lasting.lasting ((c.endComp Obj.SB_OWNER 0 b false).wr Obj.SB_STATE 0 b bankQuarantined) = Lasting.lasting c := by
    rw [hstore _ _ _ hb (by decide) (by decide), Lasting.lasting_endComp]
  have howner : Lasting.lasting (if bankFixed b then (c.endComp Obj.SB_OWNER 0 b false).wr Obj.SB_STATE 0 b bankQuarantined
      else (((c.endComp Obj.SB_OWNER 0 b false).wr Obj.SB_STATE 0 b bankQuarantined).wr Obj.SB_OWNER 0 b 0).hwUpdate Obj.SB_OWNER 0 b) = Lasting.lasting c := by
    refine Lasting.lasting_ite c hstate ?_
    rw [hmark, hstore _ _ _ hb (by decide) (by decide), hstate]
  refine Lasting.lasting_ite c ?_ howner
  rw [hmark, hstore _ _ _ (by omega) (by decide) (by decide), Lasting.lasting_endComp]
  exact howner

theorem clk_quarantineIsland (c : Core) (n : Nat) : (c.quarantineIsland n).clk = c.clk := by
  have hlasting : Lasting.lasting (c.quarantineIsland n) = Lasting.lasting c :=
    Lasting.lasting_ite c rfl (Lasting.lasting_each c _ fun t b hb => lasting_quarantine t (List.mem_range.mp (List.mem_of_mem_filter hb)))
  simp only [Lasting.lasting, Prod.mk.injEq] at hlasting
  obtain ⟨-, -, -, -, -, hclk⟩ := hlasting
  exact hclk

theorem clockReturn_of_failed (hn : n < 68) (hst : c.rd Obj.ISLAND_STATE 0 n = 3) :
    c.clockReturn n = ((c.quarantineIsland n).islandDown n).level (276 + n) 0 false := if_pos ⟨hn, hst⟩

theorem clockReturn_of_none (h : ¬(n < 68 ∧ c.rd Obj.ISLAND_STATE 0 n = 3)) : c.clockReturn n = c := if_neg h

theorem islandDown_holds : (c.islandDown n).rd Obj.ISLAND_STATE 0 n = 1 ∧ Tab.get? (c.islandDown n).timers (timerKey .islandReset n) = some (c.clk + us 10) ∧
    n ∈ (c.islandDown n).islandsDown := by
  have hmem : (c.islandDown n).islandsDown = n :: c.islandsDown.filter (· ≠ n) := wr_islandsDown _ _ _ _ _
  refine ⟨rd_wr _ _ _ _ _, ?_, ?_⟩
  · rw [Core.islandDown, arm_timers, tab_find_set, wr_clk]
  · rw [hmem]
    exact List.mem_cons_self

/-- An island whose reset ends. -/
def islandBack (c : Core) (n : Nat) : Core := ({ c with islandsDown := c.islandsDown.filter (· ≠ n) }.disarm .islandReset n).wr Obj.ISLAND_STATE 0 n 2

/-- What a lane's island brings back. -/
def laneBack (t : Core) (n : Nat) : Core :=
  if n = 66 ∨ n = 67 then t.ringDown (n - 66) else if n < 64 ∧ t.link n = lkFault then (t.level (768 + n) 0 false).portOff n else t

theorem islandUp_of_due (hdown : c.islandsDown.contains n = true) (hdue : c.due .islandReset n = true) :
    c.islandUp n = if (laneBack (islandBack c n) n).rd0 Obj.ISLAND_RESET = n then (laneBack (islandBack c n) n).endComp Obj.ISLAND_RESET 0 0 true
      else laneBack (islandBack c n) n := by
  have hlane (t : Core) : (if n < 64 ∧ (if 66 ≤ n ∧ n < 68 then t.ringDown (n - 66) else t).link n = lkFault
      then ((if 66 ≤ n ∧ n < 68 then t.ringDown (n - 66) else t).level (768 + n) 0 false).portOff n else if 66 ≤ n ∧ n < 68 then t.ringDown (n - 66) else t) = laneBack t n := by
    unfold laneBack
    by_cases hring : 66 ≤ n ∧ n < 68
    · rw [if_pos hring, if_neg (by omega), if_pos (by omega)]
    · rw [if_neg hring, if_neg (c := n = 66 ∨ n = 67) (by omega)]
  rw [← hlane]
  exact if_pos ⟨hdown, hdue⟩

theorem islandUp_of_none (h : ¬(c.islandsDown.contains n = true ∧ c.due .islandReset n = true)) : c.islandUp n = c := if_neg h

theorem laneBack_of_other (t : Core) (hn : 68 ≤ n) : laneBack t n = t := by
  unfold laneBack
  rw [if_neg (by omega), if_neg (by omega)]

/-- ISLAND_RESET stands below the islands' states. -/
theorem rd0_islandBack : (islandBack c n).rd0 Obj.ISLAND_RESET = c.rd0 Obj.ISLAND_RESET := by
  refine rd_wr_ne _ _ _ _ _ _ _ _ ?_
  simp only [Ob.key, Obj.ISLAND_RESET, Obj.ISLAND_STATE, gt_iff_lt, Nat.lt_irrefl, if_false]
  omega

/-- An island that no lane stands behind runs again. -/
theorem islandUp_of_other (hn : 68 ≤ n) (hdown : c.islandsDown.contains n = true) (hdue : c.due .islandReset n = true) :
    (c.islandUp n).rd Obj.ISLAND_STATE 0 n = 2 ∧ n ∉ (c.islandUp n).islandsDown ∧
      (c.rd0 Obj.ISLAND_RESET = n → c.compO Obj.ISLAND_RESET 0 0 = 1 → (c.islandUp n).compO Obj.ISLAND_RESET 0 0 = 2) := by
  have hst : (islandBack c n).rd Obj.ISLAND_STATE 0 n = 2 := rd_wr _ _ _ _ _
  have hlist : (islandBack c n).islandsDown = c.islandsDown.filter (· ≠ n) := wr_islandsDown _ _ _ _ _
  have hcomp : (islandBack c n).compO Obj.ISLAND_RESET 0 0 = c.compO Obj.ISLAND_RESET 0 0 := by
    rw [Core.compO, islandBack, wr_comp]
    rfl
  have hout : n ∉ (islandBack c n).islandsDown := by
    rw [hlist]
    simp
  rw [islandUp_of_due hdown hdue, laneBack_of_other _ hn, rd0_islandBack]
  have hx := Modes.endComp_frame (islandBack c n) Obj.ISLAND_RESET 0 0 true
  refine ⟨?_, ?_, fun hreset hpend => ?_⟩
  · split
    · rw [hx]
      exact hst
    · exact hst
  · split
    · rw [hx]
      exact hout
    · exact hout
  · rw [if_pos hreset, Modes.compO_endComp_of_pending _ (hcomp.trans hpend)]
    rfl

/-- The monitor's look at an island's clock (R523). -/
def windowChecked (c : Core) (n : Nat) (off : Bool) : Core := if off = true ∧ c.rd0 Obj.OSC_STATE ≠ 1 then c.clockFail n else c

theorem windowChecked_of_none (h : 84 ≤ n ∨ c.rd Obj.ISLAND_STATE 0 n ≠ 2) (off : Bool) : windowChecked c n off = c := by
  rw [windowChecked, clockFail_of_none h, ite_self]

/-! #### Parity and crossings (R524) -/

/-- What a parity pass raises. -/
def parityRaised (c : Core) (fails : List ParityFail) : Core :=
  (c.each ((List.range 84).filter (fun i => fails.contains ⟨i, true⟩)) (fun t i => t.occur (360 + i) 0)).each ((List.range 84).filter (fun i => fails.contains ⟨i, false⟩))
    (fun t i => t.occur (444 + i) 0)

theorem filter_range_one {b : Nat} (hn : n < b) {f : Nat → Bool} (h : ∀ i, f i = decide (i = n)) : (List.range b).filter f = [n] := by
  rw [funext h, List.filter_eq, List.count_eq_one_of_mem List.nodup_range (List.mem_range.mpr hn)]
  rfl

theorem filter_own (hn : n < 84) (crossing : Bool) : (List.range 84).filter (fun i => [(⟨n, crossing⟩ : ParityFail)].contains ⟨i, crossing⟩) = [n] :=
  filter_range_one hn fun i => by cases crossing <;> simp

theorem filter_other (crossing : Bool) : (List.range 84).filter (fun i => [(⟨n, crossing⟩ : ParityFail)].contains ⟨i, !crossing⟩) = [] :=
  List.filter_eq_nil_iff.mpr fun i _ => by cases crossing <;> simp

theorem parityRaised_of_register (hn : n < 84) : parityRaised c [⟨n, false⟩] = c.occur (444 + n) 0 := by
  have hcross : (List.range 84).filter (fun i => [(⟨n, false⟩ : ParityFail)].contains ⟨i, true⟩) = [] := filter_other false
  rw [parityRaised, hcross, filter_own hn]
  rfl

theorem parityRaised_of_crossing (hn : n < 84) : parityRaised c [⟨n, true⟩] = c.occur (360 + n) 0 := by
  have hcross : (List.range 84).filter (fun i => [(⟨n, true⟩ : ParityFail)].contains ⟨i, false⟩) = [] := filter_other true
  rw [parityRaised, hcross, filter_own hn]
  rfl

theorem parityRaised_of_none {fails : List ParityFail} (h : ∀ i ∈ fails, 84 ≤ i.island) : parityRaised c fails = c := by
  have hnone (crossing : Bool) : (List.range 84).filter (fun i => fails.contains ⟨i, crossing⟩) = [] := by
    refine List.filter_eq_nil_iff.mpr fun i hi hmem => ?_
    have hlow := h _ (List.contains_iff_mem.mp hmem)
    have := List.mem_range.mp hi
    simp only at hlow
    omega
  rw [parityRaised, hnone, hnone]
  rfl

/-- The pass of a block that runs or wakes. -/
def parityPassed (c : Core) (fails : List ParityFail) : Core := if c.running = true ∨ c.phase = .waking then parityRaised c fails else c

theorem parityPassed_of_running (hrun : c.running = true) (fails : List ParityFail) : parityPassed c fails = parityRaised c fails := if_pos (.inl hrun)

end Conditions

/-- Settles O58: each monitor's function by the branch its premises name. -/
theorem monitorsReport : Obligations.MonitorsReport := by
  unfold Obligations.MonitorsReport
  intro s dt n x z c hrun
  refine ⟨fun hn => ?_, fun hn => ?_, fun hn => ⟨?_, ?_⟩, ⟨_, rfl, railWarningEnd_leaves⟩, ?_, fun hn hst => ?_, fun hn hst hosc => ?_, fun hosc => ?_, ?_, fun h => ⟨?_, ?_⟩, fun hn hst => ?_, fun h => ?_,
    fun hn => ⟨?_, ?_⟩, fun fails => ?_, ?_, ?_, fun hdown hdue hn => ⟨_, rfl, islandUp_of_other hn hdown hdue⟩⟩
  · exact Block.does_of_eq (rfl : Does (.railWarning dt n) s (c.railWarning n)) (railWarning_of_running hrun hn)
  · exact Block.does_of_eq (rfl : Does (.railOvervoltage dt n) s (c.railOver n)) (railOver_of_running hrun hn)
  · exact Block.does_of_eq (rfl : Does (.railWarning dt n) s (c.railWarning n)) (railWarning_of_none hn)
  · exact Block.does_of_eq (rfl : Does (.railOvervoltage dt n) s (c.railOver n)) (railOver_of_none hn)
  · exact Block.does_of_eq (rfl : Does (.clockMonitorCheck dt x z) s (c.clockCheck x z)) (clockCheck_of_running hrun x z)
  · exact Block.does_of_eq (rfl : Does (.islandClockAbsent dt n) s (c.clockFail n)) (clockFail_of_running hrun hn hst)
  · refine Block.does_of_eq (rfl : Does (.islandClockWindow dt n true) s (windowChecked c n true)) ?_
    exact (if_pos ⟨rfl, hosc⟩).trans (clockFail_of_running hrun hn hst)
  · refine Block.does_of_eq (rfl : Does (.islandClockWindow dt n true) s (windowChecked c n true)) ?_
    exact if_neg fun hoff => hoff.2 hosc
  · refine Block.does_of_eq (rfl : Does (.islandClockWindow dt n false) s (windowChecked c n false)) ?_
    exact if_neg (by simp)
  · exact Block.does_of_eq (rfl : Does (.islandClockAbsent dt n) s (c.clockFail n)) (clockFail_of_none h)
  · exact Block.does_of_eq (rfl : Does (.islandClockWindow dt n true) s (windowChecked c n true)) (windowChecked_of_none h true)
  · obtain ⟨hreset, htimer, hmem⟩ := islandDown_holds (c := c.quarantineIsland n) (n := n)
    obtain ⟨l, hl⟩ := level_false_frame (c := (c.quarantineIsland n).islandDown n) (n := 276 + n) (info := 0)
    have hreturn := clockReturn_of_failed hn hst
    rw [clk_quarantineIsland] at htimer
    refine ⟨_, Block.does_of_eq (rfl : Does (.islandClockReturn dt n) s (c.clockReturn n)) hreturn, ?_, ?_, ?_, ?_⟩
    · rw [hl]
      exact hreset
    · rw [hl]
      exact htimer
    · rw [hl]
      exact hmem
    · rw [srcRec_level_false, if_pos rfl]
  · exact Block.does_of_eq (rfl : Does (.islandClockReturn dt n) s (c.clockReturn n)) (clockReturn_of_none h)
  · refine Block.does_of_eq (rfl : Does (.regParityPass dt [⟨n, false⟩]) s (parityPassed c [⟨n, false⟩])) ?_
    exact (parityPassed_of_running hrun _).trans (parityRaised_of_register hn)
  · refine Block.does_of_eq (rfl : Does (.regParityPass dt [⟨n, true⟩]) s (parityPassed c [⟨n, true⟩])) ?_
    exact (parityPassed_of_running hrun _).trans (parityRaised_of_crossing hn)
  · exact ⟨parityRaised c fails, Block.does_of_eq (rfl : Does (.regParityPass dt fails) s (parityPassed c fails)) (parityPassed_of_running hrun fails), parityRaised_of_none⟩
  · exact Block.does_of_eq (rfl : Does (.referenceCompare dt x) s (if c.running = true ∨ c.phase = .waking then c.level 531 0 x else c)) (if_pos (.inl hrun))
  · intro t u
    split
    · next h => exact Block.does_of_eq (rfl : Does (.islandResetDone dt n) s (c.islandUp n)) (islandUp_of_due h.1 h.2)
    · next h => exact Block.does_of_eq (rfl : Does (.islandResetDone dt n) s (c.islandUp n)) (islandUp_of_none h)

end Sys2Proof.Proofs.Monitors

/-! ### Proofs: the schedule of self-test groups and their ends (R537 to R548) -/

namespace Sys2Proof.Proofs.SelfTest
open Sys2Proof Sys2Proof.Machine Sys2Proof.Laws

/-! #### The schedule (R537, R548) -/

section Schedule
variable {c : Core} {g : Nat} {m : List Host.Cell}

/-- A group that starts now. -/
def startedRun (c : Core) (g : Nat) : BistRun := ⟨g, c.clk, !c.upPorts.isEmpty, c.lockedLanes⟩

/-- The block with the group running. -/
def groupStarted (c : Core) (g : Nat) : Core := { c with bist := { c.bist with todo := c.bist.todo.filter (· ≠ g), running := c.bist.running ++ [startedRun c g] } }

theorem bistGroupStart_of_fit (hkind : c.bist.kind ≠ 0) (hfit : c.bist.todo.find? (fun h => decide (c.bistLoad + bistPower h ≤ c.rd0 Obj.BIST_POWER_CAP)) = some g) :
    c.bistGroupStart = groupStarted c g := by
  unfold Core.bistGroupStart
  rw [hfit]
  exact if_neg hkind

theorem bistGroupStart_of_none (h : c.bist.kind = 0 ∨ ∀ h ∈ c.bist.todo, c.rd0 Obj.BIST_POWER_CAP < c.bistLoad + bistPower h) : c.bistGroupStart = c := by
  unfold Core.bistGroupStart
  cases hfind : c.bist.todo.find? (fun g => decide (c.bistLoad + bistPower g ≤ c.rd0 Obj.BIST_POWER_CAP)) with
  | none => rfl
  | some g =>
    obtain hkind | hfull := h
    · exact if_pos hkind
    · have hfit : c.bistLoad + bistPower g ≤ c.rd0 Obj.BIST_POWER_CAP := by simpa using List.find?_some hfind
      exact absurd (hfull g (List.mem_of_find?_eq_some hfind)) (Nat.not_lt.mpr hfit)

theorem sumN_append_one (l : List Nat) (a : Nat) : sumN (l ++ [a]) = sumN l + a := List.foldl_append

theorem bistLoad_groupStarted : (groupStarted c g).bistLoad = c.bistLoad + bistPower g := by
  have hsum : sumN ((c.bist.running ++ [startedRun c g]).map (fun r => bistPower r.group)) = sumN (c.bist.running.map (fun r => bistPower r.group)) + bistPower g := by
    rw [List.map_append]
    exact sumN_append_one _ _
  show 6 + _ = 6 + _ + _
  rw [Nat.add_assoc, ← hsum]
  rfl

theorem bistGroupEnd_of_none (h : c.bist.running.find? (fun r => decide (r.group = g)) = none) (fails : List BistFail) (bad : List (Nat × Nat)) (sigs : List Nat)
    (checks : List BistCheck) : c.bistGroupEnd m g fails bad sigs checks = (c, m) := by
  unfold Core.bistGroupEnd
  rw [h]

theorem bistTimeout_of_none (h : c.bist.running.find? (fun r => decide (r.group = g) && decide (r.since + ms (bistBound g) ≤ c.clk)) = none) : c.bistTimeout m g = (c, m) := by
  unfold Core.bistTimeout
  rw [h]

theorem bistTimeout_of_late {r : BistRun} (h : c.bist.running.find? (fun r => decide (r.group = g) && decide (r.since + ms (bistBound g) ≤ c.clk)) = some r) :
    c.bistTimeout m g =
      let t := c.bistGroupResult r 3 0
      let u := ({ t with bist := { t.bist with spoiled := true } }).bistReinit m c.bist.kind r
      ((u.1.bistLeave g).occur 2002 0, u.2) := by
  unfold Core.bistTimeout
  rw [h]

end Schedule

/-! #### Results (R543) -/

/-- The objects a group's end writes its results in. -/
def resultObs : List Ob := [Obj.ANALOG_RESULT, Obj.GROUP_RESULT, Obj.SB_FLAGS]

/-- The objects of the run that they leave. -/
def runObs : List Ob := [Obj.RAIL_STATE, Obj.BIST_STATE, Obj.BIST_VALID, Obj.BIST_RUNS]

/-- Between `c` and `t` nothing but results and their journaling has changed. -/
structure Results (c t : Core) : Prop where
  frame : ∃ l d z, t = { c with objs := l, dirty := d, dirtySince := z }
  rd : ∀ p ∈ runObs, t.rd0 p = c.rd0 p

section Results
variable {c t u : Core}

theorem Results.refl (c : Core) : Results c c := ⟨⟨c.objs, c.dirty, c.dirtySince, rfl⟩, fun _ _ => rfl⟩

theorem Results.trans (h : Results c t) (h' : Results t u) : Results c u := by
  obtain ⟨⟨l, d, z, hframe⟩, hrd⟩ := h
  obtain ⟨⟨l', d', z', hframe'⟩, hrd'⟩ := h'
  exact ⟨⟨l', d', z', by rw [hframe', hframe]⟩, fun p hp => (hrd' p hp).trans (hrd p hp)⟩

theorem Results.bist (h : Results c t) : t.bist = c.bist := by
  obtain ⟨⟨l, d, z, hframe⟩, -⟩ := h
  rw [hframe]

theorem Results.mode (h : Results c t) : t.mode = c.mode := by
  obtain ⟨⟨l, d, z, hframe⟩, -⟩ := h
  rw [hframe]

theorem Results.src (h : Results c t) : t.src = c.src := by
  obtain ⟨⟨l, d, z, hframe⟩, -⟩ := h
  rw [hframe]

theorem results_apart : ∀ o ∈ resultObs, ∀ p ∈ runObs,
    ¬ 1 < p.nel ∧ ¬ 1 < o.nel ∧ p.sub + 0 < 65536 ∧ o.sub + 200 < 65536 ∧ p.idx + p.stride * 0 ≠ o.idx + o.stride * 0 := by decide

theorem results_wr (c : Core) {o : Ob} (ho : o ∈ resultObs) {j : Nat} (hj : j < 200) (v : Nat) : Results c (c.wr o 0 j v) := by
  refine ⟨⟨_, _, _, wr_frame c o 0 j v⟩, fun p hp => ?_⟩
  obtain ⟨hp1, ho1, hpsub, hosub, hne⟩ := results_apart o ho p hp
  exact rd_wr_ne c o p 0 j 0 0 v (Dma.key_ne_of_index ⟨hp1, ho1, hpsub, by omega⟩ hne)

theorem results_each {l : List Nat} {f : Core → Nat → Core} (h : ∀ t, ∀ i ∈ l, Results t (f t i)) (c : Core) : Results c (c.each l f) :=
  List.foldlRecOn (motive := Results c) l f (.refl c) fun t ht i hi => ht.trans (h t i hi)

theorem results_ite {P : Prop} [Decidable P] (ht : Results c t) (hu : Results c u) : Results c (if P then t else u) := by
  split
  · exact ht
  · exact hu

theorem results_bistCarry (c : Core) {o : Ob} (ho : o ∈ resultObs) {j : Nat} (hj : j < 200) (byte : Nat) : Results c (c.bistCarry o j byte) :=
  results_ite (.refl c) (results_wr c ho hj _)

theorem results_softRepair (c : Core) : Results c c.softRepair :=
  results_each (fun t b hb => results_ite (.refl t) (results_wr t (by decide) (by have := List.mem_range.mp hb; omega) _)) c

theorem results_bistGroupResult (c : Core) {r : BistRun} (hr : r.group ≤ 8) (st failures : Nat) : Results c (c.bistGroupResult r st failures) :=
  results_wr c (by decide) (by omega) _

end Results

/-! #### Checks that pass -/

section Checks
variable {c : Core} {g : Nat}

/-- The supplies that checks need are good. -/
def Supplied (c : Core) : Prop := bit (c.rd0 Obj.RAIL_STATE) 8 = true ∧ bit (c.rd0 Obj.RAIL_STATE) 9 = true

theorem Results.supplied {t : Core} (h : Results c t) (hc : Supplied c) : Supplied t := by
  unfold Supplied
  rw [h.rd Obj.RAIL_STATE (by decide)]
  exact hc

/-- The result of a check that finds no error. -/
def passedResult (i : Nat) : Nat := ofLe (leBytes 4 1 ++ leBytes 4 0 ++ leBytes 4 (checkLimit i) ++ leBytes 4 0)

theorem fit_passedResult (i : Nat) : Obj.ANALOG_RESULT.fit (passedResult i) = passedResult i := by
  have hlen : (leBytes 4 1 ++ leBytes 4 0 ++ leBytes 4 (checkLimit i) ++ leBytes 4 0).length = 16 := by simp only [List.length_append, Spool.length_leBytes]
  have hlt : passedResult i < 256 ^ 16 := hlen ▸ Records.ofLe_lt _
  exact Nat.mod_eq_of_lt hlt

theorem checkSkipped_of_supplied (h : Supplied c) (i : Nat) : c.checkSkipped i = false := by
  obtain ⟨h8, h9⟩ := h
  simp [Core.checkSkipped, h8, h9]

/-- With the supplies good, a check that nothing is reported of passes. -/
theorem bistCheck_of_supplied (h : Supplied c) (i : Nat) : c.bistCheck [] i = c.wr Obj.ANALOG_RESULT 0 i (passedResult i) := by
  have hok : checkOk (checkOf [] i) = true := by simp [checkOk, checkOf]
  unfold Core.bistCheck
  dsimp only
  rw [checkSkipped_of_supplied h, if_neg (by decide), if_pos hok]
  rfl

theorem checks_lt (h5 : 5 ≤ g) (h8 : g ≤ 8) {i : Nat} (hi : i ∈ bistChecks g) : i < 113 := by
  have hall : ∀ g ∈ [5, 6, 7, 8], ∀ i ∈ bistChecks g, i < 113 := by decide
  exact hall g (by simp only [List.mem_cons, List.not_mem_nil, or_false]; omega) i hi

theorem results_checks (hc : Supplied c) {l : List Nat} (hl : ∀ i ∈ l, i < 113) : Results c (c.each l (fun t i => t.bistCheck [] i)) := by
  refine List.foldlRecOn (motive := Results c) l _ (.refl c) fun t ht i hi => ?_
  rw [bistCheck_of_supplied (ht.supplied hc)]
  exact ht.trans (results_wr t (by decide) (Nat.lt_trans (hl i hi) (by decide)) _)

theorem rd_wr_analog {i j : Nat} (v : Nat) (hi : i < 113) (hj : j < 113) (h : i ≠ j) : (c.wr Obj.ANALOG_RESULT 0 j v).rd Obj.ANALOG_RESULT 0 i = c.rd Obj.ANALOG_RESULT 0 i := by
  refine rd_wr_ne _ _ _ _ _ _ _ _ (Dma.key_ne_of_subindex ⟨by decide, by decide, ?_⟩)
  simp only [Obj.ANALOG_RESULT]
  omega

/-- Each check made has its result. -/
theorem rd_checks (hc : Supplied c) {l : List Nat} (hl : ∀ i ∈ l, i < 113) {i : Nat} (hi : i < 113) (h : i ∈ l ∨ c.rd Obj.ANALOG_RESULT 0 i = passedResult i) :
    (c.each l (fun t i => t.bistCheck [] i)).rd Obj.ANALOG_RESULT 0 i = passedResult i := by
  induction l generalizing c with
  | nil => exact h.resolve_left (by simp)
  | cons j l ih =>
    have hj := hl j List.mem_cons_self
    have hstored : Results c (c.bistCheck [] j) := by
      rw [bistCheck_of_supplied hc]
      exact results_wr c (by decide) (by omega) _
    refine ih (c := c.bistCheck [] j) (hstored.supplied hc) (fun k hk => hl k (List.mem_cons_of_mem j hk)) ?_
    rw [bistCheck_of_supplied hc]
    by_cases hij : i = j
    · refine .inr ?_
      rw [hij, rd_wr, fit_passedResult]
    · rw [rd_wr_analog _ hi hj hij]
      exact h.imp (fun hmem => (List.mem_cons.mp hmem).resolve_left hij) id

end Checks

/-! #### The end of a group of checks (R545) -/

section Ends
variable {c : Core} {r : BistRun}

/-- The checks of a group: those left out are carried, the others made. -/
def groupChecked (c : Core) (r : BistRun) : Core :=
  (c.each ((bistChecks r.group).filter (r.checkOut c.bist.kind)) (fun t i => t.bistCarry Obj.ANALOG_RESULT i 1)).each
    ((bistChecks r.group).filter (fun i => !r.checkOut c.bist.kind i)) (fun t i => t.bistCheck [] i)

/-- The group's own result, and soft repair after a run at start-up. -/
def groupPassed (c : Core) (r : BistRun) : Core :=
  if c.bist.kind = 2 then ((groupChecked c r).bistGroupResult r 1 0).softRepair else (groupChecked c r).bistGroupResult r 1 0

theorem mem_group (h5 : 5 ≤ r.group) (h8 : r.group ≤ 8) {i : Nat} {f : Nat → Bool} (hi : i ∈ (bistChecks r.group).filter f) : i < 113 :=
  checks_lt h5 h8 (List.mem_of_mem_filter hi)

theorem results_carried (h5 : 5 ≤ r.group) (h8 : r.group ≤ 8) :
    Results c (c.each ((bistChecks r.group).filter (r.checkOut c.bist.kind)) (fun t i => t.bistCarry Obj.ANALOG_RESULT i 1)) :=
  results_each (fun t _ hi => results_bistCarry t (by decide) (Nat.lt_trans (mem_group h5 h8 hi) (by decide)) 1) c

theorem results_groupChecked (h5 : 5 ≤ r.group) (h8 : r.group ≤ 8) (hc : Supplied c) : Results c (groupChecked c r) :=
  (results_carried h5 h8).trans (results_checks ((results_carried h5 h8).supplied hc) fun _ hi => mem_group h5 h8 hi)

theorem results_groupPassed (h5 : 5 ≤ r.group) (h8 : r.group ≤ 8) (hc : Supplied c) : Results c (groupPassed c r) := by
  have hresult := (results_groupChecked h5 h8 hc).trans (results_bistGroupResult _ h8 1 0)
  exact results_ite (hresult.trans (results_softRepair _)) hresult

theorem bistMems_of_checks (h5 : 5 ≤ r.group) : bistMems r.group = [] := by
  unfold bistMems
  rw [if_neg (by omega), if_neg (by omega), if_neg (by omega)]

/-- A group without memories clears no bank. -/
theorem bistReinit_of_checks (h5 : 5 ≤ r.group) (t : Core) (m : List Host.Cell) (kind : Nat) : t.bistReinit m kind r = (t, m) := by
  unfold Core.bistReinit
  rw [bistMems_of_checks h5]
  dsimp only
  rw [if_neg (c := r.group = 1) (by omega)]
  rfl

/-- No check fails that nothing is reported of. -/
theorem no_bad_checks (c : Core) (l : List Nat) : l.filter (fun i => !c.checkSkipped i && !checkOk (checkOf [] i)) = [] :=
  List.filter_eq_nil_iff.mpr fun i _ => by simp [checkOk, checkOf]

theorem bistGroupEnd_of_checks (hfind : c.bist.running.find? (fun q => decide (q.group = r.group)) = some r) (h5 : 5 ≤ r.group) (h8 : r.group ≤ 8) (hc : Supplied c)
    (hkind : c.bist.kind ≠ 0) (m : List Host.Cell) : c.bistGroupEnd m r.group [] [] [] [] = ((groupPassed c r).bistLeave r.group, m) := by
  have hresult := (results_groupChecked h5 h8 hc).trans (results_bistGroupResult (groupChecked c r) h8 1 0)
  have hrun : ((groupChecked c r).bistGroupResult r 1 0).bist.kind ≠ 0 := by
    rw [hresult.bist]
    exact hkind
  unfold groupChecked at hrun
  unfold Core.bistGroupEnd
  rw [hfind]
  simp only [bistMems_of_checks h5, no_bad_checks, List.filter_nil, List.foldl_nil, List.any_nil, List.length_nil, if_neg (show ¬ r.group = 4 by omega)]
  refine (if_neg hrun).trans ?_
  rw [bistReinit_of_checks h5]
  rfl

/-! #### What the end leaves of the results -/

/-- Results are apart from the banks' flags and from the run's own objects. -/
theorem apart_of_results : ∀ p ∈ [Obj.ANALOG_RESULT, Obj.GROUP_RESULT], ∀ o ∈ [Obj.SB_FLAGS, Obj.BIST_STATE, Obj.BIST_RUNS, Obj.BIST_DURATION, Obj.BIST_VALID],
    ¬ 1 < p.nel ∧ ¬ 1 < o.nel ∧ p.sub + 200 < 65536 ∧ o.sub + 200 < 65536 ∧ p.idx + p.stride * 0 ≠ o.idx + o.stride * 0 := by decide

theorem rd_wr_results {p o : Ob} (hp : p ∈ [Obj.ANALOG_RESULT, Obj.GROUP_RESULT]) (ho : o ∈ [Obj.SB_FLAGS, Obj.BIST_STATE, Obj.BIST_RUNS, Obj.BIST_DURATION, Obj.BIST_VALID])
    {i j : Nat} (hi : i < 200) (hj : j < 200) (v : Nat) : (c.wr o 0 j v).rd p 0 i = c.rd p 0 i := by
  obtain ⟨hp1, ho1, hpsub, hosub, hne⟩ := apart_of_results p hp o ho
  exact rd_wr_ne c o p 0 j 0 i v (Dma.key_ne_of_index ⟨hp1, ho1, by omega, by omega⟩ hne)

theorem rd_each {p : Ob} {i : Nat} {l : List Nat} {f : Core → Nat → Core} (h : ∀ t, ∀ b ∈ l, (f t b).rd p 0 i = t.rd p 0 i) (c : Core) : (c.each l f).rd p 0 i = c.rd p 0 i :=
  List.foldlRecOn (motive := fun t : Core => t.rd p 0 i = c.rd p 0 i) l f rfl fun t ht b hb => (h t b hb).trans ht

theorem rd_ite {P : Prop} [Decidable P] {p : Ob} {i : Nat} {t : Core} (h : t.rd p 0 i = c.rd p 0 i) : (if P then c else t).rd p 0 i = c.rd p 0 i := by
  split
  · rfl
  · exact h

theorem rd_softRepair_results {p : Ob} (hp : p ∈ [Obj.ANALOG_RESULT, Obj.GROUP_RESULT]) {i : Nat} (hi : i < 200) (c : Core) : c.softRepair.rd p 0 i = c.rd p 0 i :=
  rd_each (fun t b hb => rd_ite (rd_wr_results (c := t) (o := Obj.SB_FLAGS) hp (by simp) hi (by have := List.mem_range.mp hb; omega) _)) c

/-- The block without the group. -/
def groupLeft (c : Core) (g : Nat) : Core := { c with bist := { c.bist with running := c.bist.running.filter (fun q => decide (q.group ≠ g)) } }

/-- A run's end, its counters and its mark. -/
def runCounted (t : Core) : Core :=
  (((t.wr0 Obj.BIST_STATE 3).inc0 Obj.BIST_RUNS).wr0 Obj.BIST_DURATION ((t.clk - t.bist.began) / 2000)).wr0 Obj.BIST_VALID (b2n (!t.bist.spoiled))

/-- The run is over. -/
def runEnded (t : Core) : Core := { runCounted t with bist := { (runCounted t).bist with kind := 0, cut := false } }

theorem bistLeave_eq (g : Nat) : c.bistLeave g = if (groupLeft c g).bist.todo.isEmpty ∧ (groupLeft c g).bist.running.isEmpty then runEnded (groupLeft c g) else groupLeft c g := rfl

theorem rd_setBist (t : Core) (b : Bist) (p : Ob) (i j : Nat) : ({ t with bist := b } : Core).rd p i j = t.rd p i j := rfl

theorem mode_setBist (t : Core) (b : Bist) : ({ t with bist := b } : Core).mode = t.mode := rfl

theorem src_setBist (t : Core) (b : Bist) : ({ t with bist := b } : Core).src = t.src := rfl

theorem rd_groupLeft (t : Core) (g : Nat) (p : Ob) (i j : Nat) : (groupLeft t g).rd p i j = t.rd p i j := rfl

theorem rd_runEnded (t : Core) (p : Ob) (i j : Nat) : (runEnded t).rd p i j = (runCounted t).rd p i j := rd_setBist (runCounted t) _ p i j

theorem bist_runCounted (t : Core) : (runCounted t).bist = t.bist := by
  rw [runCounted, wr0_bist, wr0_bist, Core.inc0, inc_bist, wr0_bist]

theorem mode_runCounted (t : Core) : (runCounted t).mode = t.mode := by
  rw [runCounted, wr0_mode, wr0_mode, Core.inc0, inc_mode, wr0_mode]

theorem src_runCounted (t : Core) : (runCounted t).src = t.src := by
  rw [runCounted, wr0_src, wr0_src, Core.inc0, inc_src, wr0_src]

theorem bist_setBist (t : Core) (b : Bist) : ({ t with bist := b } : Core).bist = b := rfl

theorem bist_groupLeft (t : Core) (g : Nat) : (groupLeft t g).bist = { t.bist with running := t.bist.running.filter (fun q => decide (q.group ≠ g)) } := rfl

theorem bist_runEnded (t : Core) : (runEnded t).bist = { t.bist with kind := 0, cut := false } := by
  rw [runEnded, bist_setBist, bist_runCounted]

theorem rd_runCounted_results {p : Ob} (hp : p ∈ [Obj.ANALOG_RESULT, Obj.GROUP_RESULT]) {i : Nat} (hi : i < 200) (t : Core) : (runCounted t).rd p 0 i = t.rd p 0 i := by
  have hbump (t : Core) (key k : Nat) : (t.bump key k).rd p 0 i = t.rd p 0 i := rfl
  rw [runCounted, Core.wr0, rd_wr_results hp (by simp) hi (by decide), Core.wr0, rd_wr_results hp (by simp) hi (by decide), Core.inc0, Core.inc,
    rd_wr_results hp (by simp) hi (by decide), hbump, Core.wr0, rd_wr_results hp (by simp) hi (by decide)]

theorem rd0_wr0_ne {o p : Ob} (v : Nat) (h : ¬ 1 < p.nel ∧ ¬ 1 < o.nel ∧ p.sub + 0 < 65536 ∧ o.sub + 0 < 65536 ∧ p.sub + 0 ≠ o.sub + 0) : (c.wr0 o v).rd0 p = c.rd0 p :=
  rd_wr_ne c o p 0 0 0 0 v (Dma.key_ne_of_subindex h)

theorem rd0_inc0_ne {o p : Ob} (h : ¬ 1 < p.nel ∧ ¬ 1 < o.nel ∧ p.sub + 0 < 65536 ∧ o.sub + 0 < 65536 ∧ p.sub + 0 ≠ o.sub + 0) : (c.inc0 o).rd0 p = c.rd0 p :=
  Dma.rd_inc_ne _ _ _ _ _ _ _ _ (Dma.key_ne_of_subindex h)

theorem state_runEnded (t : Core) : (runEnded t).rd0 Obj.BIST_STATE = 3 := by
  rw [Core.rd0, rd_runEnded, ← Core.rd0, runCounted, rd0_wr0_ne _ (by decide), rd0_wr0_ne _ (by decide), rd0_inc0_ne (by decide), rd0_wr0]
  rfl

theorem valid_runEnded (t : Core) : (runEnded t).rd0 Obj.BIST_VALID = b2n (!t.bist.spoiled) := by
  rw [Core.rd0, rd_runEnded, ← Core.rd0, runCounted, rd0_wr0]
  cases t.bist.spoiled <;> rfl

theorem runs_runEnded (t : Core) : (runEnded t).rd0 Obj.BIST_RUNS = (t.rd0 Obj.BIST_RUNS + 1) % 2 ^ 32 := by
  have hcount (u : Core) : (u.inc0 Obj.BIST_RUNS).rd0 Obj.BIST_RUNS = (u.rd0 Obj.BIST_RUNS + 1) % 2 ^ 32 := Dma.rd_inc _ _ _ _ _
  rw [Core.rd0, rd_runEnded, ← Core.rd0, runCounted, rd0_wr0_ne _ (by decide), rd0_wr0_ne _ (by decide), hcount, rd0_wr0_ne _ (by decide)]

/-- What the leaving of a group leaves. -/
structure Left (c k : Core) (g : Nat) : Prop where
  running : k.bist.running = c.bist.running.filter (fun q => decide (q.group ≠ g))
  todo : k.bist.todo = c.bist.todo
  mode : k.mode = c.mode
  src : k.src = c.src
  rd : ∀ p ∈ [Obj.ANALOG_RESULT, Obj.GROUP_RESULT], ∀ i < 200, k.rd p 0 i = c.rd p 0 i

theorem left_bistLeave (c : Core) (g : Nat) : Left c (c.bistLeave g) g := by
  rw [bistLeave_eq]
  refine iteInduction (motive := fun k : Core => Left c k g) (fun _ => ?_) fun _ => ⟨rfl, rfl, rfl, rfl, fun _ _ _ _ => rfl⟩
  refine ⟨?_, ?_, ?_, ?_, fun p hp i hi => ?_⟩
  · rw [bist_runEnded, bist_groupLeft]
  · rw [bist_runEnded, bist_groupLeft]
  · rw [runEnded, mode_setBist, mode_runCounted]
    rfl
  · rw [runEnded, src_setBist, src_runCounted]
    rfl
  · rw [rd_runEnded, rd_runCounted_results hp hi, rd_groupLeft]

theorem bistLeave_of_last {g : Nat} (htodo : c.bist.todo = []) (hlast : ∀ q ∈ c.bist.running, q.group = g) : c.bistLeave g = runEnded (groupLeft c g) := by
  have hempty : c.bist.running.filter (fun q => decide (q.group ≠ g)) = [] := List.filter_eq_nil_iff.mpr fun q hq => by simp [hlast q hq]
  rw [bistLeave_eq]
  exact if_pos ⟨List.isEmpty_iff.mpr htodo, List.isEmpty_iff.mpr hempty⟩

theorem bistLeave_of_more {g : Nat} (h : ¬(c.bist.todo = [] ∧ ∀ q ∈ c.bist.running, q.group = g)) : c.bistLeave g = groupLeft c g := by
  rw [bistLeave_eq]
  refine if_neg fun hover => h ?_
  obtain ⟨htodo, hrunning⟩ := hover
  refine ⟨List.isEmpty_iff.mp htodo, fun q hq => ?_⟩
  have hnone := List.filter_eq_nil_iff.mp (List.isEmpty_iff.mp hrunning) q hq
  simpa using hnone

/-! #### The end of a group of checks -/

/-- A result's first byte is its outcome. -/
theorem fit_groupResult (l : List Byte) : Obj.GROUP_RESULT.fit (ofLe (leBytes 1 1 ++ l)) % 256 = 1 := by
  show (1 + 256 * ofLe l) % 256 ^ 16 % 256 = 1
  rw [Nat.mod_mod_of_dvd _ (by decide), Nat.add_mul_mod_self_left]

theorem rd_groupPassed_result (h5 : 5 ≤ r.group) (h8 : r.group ≤ 8) : (groupPassed c r).rd Obj.GROUP_RESULT 0 (r.group - 1) % 256 = 1 := by
  have hresult (t : Core) : (t.bistGroupResult r 1 0).rd Obj.GROUP_RESULT 0 (r.group - 1) % 256 = 1 := by
    rw [Core.bistGroupResult, rd_wr, List.append_assoc, List.append_assoc, List.append_assoc]
    exact fit_groupResult _
  unfold groupPassed
  split
  · rw [rd_softRepair_results (by simp) (by omega)]
    exact hresult _
  · exact hresult _

theorem rd_groupPassed_check (h5 : 5 ≤ r.group) (h8 : r.group ≤ 8) (hc : Supplied c) {i : Nat} (hi : i ∈ bistChecks r.group) (hin : r.checkOut c.bist.kind i = false) :
    (groupPassed c r).rd Obj.ANALOG_RESULT 0 i = passedResult i := by
  have hlow := checks_lt h5 h8 hi
  have hchecked : (groupChecked c r).rd Obj.ANALOG_RESULT 0 i = passedResult i :=
    rd_checks ((results_carried h5 h8).supplied hc) (fun _ hj => mem_group h5 h8 hj) hlow (.inl (List.mem_filter.mpr ⟨hi, by simp [hin]⟩))
  have hresult : ((groupChecked c r).bistGroupResult r 1 0).rd Obj.ANALOG_RESULT 0 i = passedResult i := by
    rw [Core.bistGroupResult, rd_wr_ne, hchecked]
    refine Dma.key_ne_of_index ⟨by decide, by decide, ?_, ?_⟩ (by decide)
    · simp only [Obj.ANALOG_RESULT]
      omega
    · simp only [Obj.GROUP_RESULT]
      omega
  unfold groupPassed
  split
  · rw [rd_softRepair_results (by simp) (by omega), hresult]
  · exact hresult

end Ends

/-- Settles O59: the schedule by the group found to fit, a group's end by its checks, its result and its leaving. -/
theorem selfTestGroupsAreScheduled : Obligations.SelfTestGroupsAreScheduled := by
  unfold Obligations.SelfTestGroupsAreScheduled
  refine ⟨fun s dt g => ?_, fun s dt r => ?_⟩
  · intro c
    refine ⟨fun hkind hfit => ?_, fun h => ?_, fun fails bad sigs checks hnone => ?_, fun r hlate => ?_, fun hnone => ?_⟩
    · have hcap : c.bistLoad + bistPower g ≤ c.rd0 Obj.BIST_POWER_CAP := by simpa using List.find?_some hfit
      refine ⟨groupStarted c g, startedRun c g, Block.does_of_eq (rfl : Does (.bistGroupStart dt) s c.bistGroupStart) (bistGroupStart_of_fit hkind hfit), rfl, rfl, rfl, ?_, rfl, rfl,
        bistLoad_groupStarted, ?_, rfl⟩
      · show (!c.upPorts.isEmpty) = true ↔ c.upPorts ≠ []
        simp
      · rw [bistLoad_groupStarted]
        exact hcap
    · exact Block.does_of_eq (rfl : Does (.bistGroupStart dt) s c.bistGroupStart) (bistGroupStart_of_none h)
    · exact Power.doesBoth_of_eq (r := c.bistGroupEnd s.mem g fails bad sigs checks) rfl (bistGroupEnd_of_none hnone fails bad sigs checks)
    · exact Power.doesBoth_of_eq (r := c.bistTimeout s.mem g) rfl (bistTimeout_of_late hlate)
    · exact Power.doesBoth_of_eq (r := c.bistTimeout s.mem g) rfl (bistTimeout_of_none hnone)
  · intro c passed hkind hfind h5 h8 hafe hdrv
    have hc : Supplied c := ⟨hafe, hdrv⟩
    have hpassed := results_groupPassed h5 h8 hc
    have hbist := hpassed.bist
    obtain ⟨hrunning, htodo, hmode, hsrc, hrd⟩ := left_bistLeave (groupPassed c r) r.group
    rw [hbist] at hrunning htodo
    refine ⟨(groupPassed c r).bistLeave r.group, Power.doesBoth_of_eq (r := c.bistGroupEnd s.mem r.group [] [] [] []) rfl (bistGroupEnd_of_checks hfind h5 h8 hc hkind s.mem),
      fun i hi hin => ?_, ?_, hrunning, htodo, hmode.trans hpassed.mode, hsrc.trans hpassed.src, ?_⟩
    · rw [hrd _ (by simp) i (by have := checks_lt h5 h8 hi; omega)]
      exact rd_groupPassed_check h5 h8 hc hi hin
    · rw [hrd _ (by simp) _ (by omega)]
      exact rd_groupPassed_result h5 h8
    · split
      · next hlast =>
        have hended : (groupPassed c r).bistLeave r.group = runEnded (groupLeft (groupPassed c r) r.group) := by
          refine bistLeave_of_last ?_ ?_
          · rw [hbist]
            exact hlast.1
          · rw [hbist]
            exact hlast.2
        rw [hended]
        refine ⟨state_runEnded _, ?_, ?_, rfl⟩
        · rw [valid_runEnded, groupLeft, hbist]
        · rw [runs_runEnded, Core.rd0, rd_groupLeft, ← Core.rd0, hpassed.rd Obj.BIST_RUNS (by decide)]
      · next hmore =>
        have hleft : (groupPassed c r).bistLeave r.group = groupLeft (groupPassed c r) r.group := bistLeave_of_more (by rw [hbist]; exact hmore)
        rw [hleft]
        refine ⟨?_, ?_, ?_⟩
        · rw [Core.rd0, rd_groupLeft, ← Core.rd0, hpassed.rd Obj.BIST_STATE (by decide)]
        · rw [Core.rd0, rd_groupLeft, ← Core.rd0, hpassed.rd Obj.BIST_VALID (by decide)]
        · rw [bist_groupLeft, hbist]

end Sys2Proof.Proofs.SelfTest
